-- ==== Sys2Proof/Word.lean ====
section
/-! DEFINITION. Plain word arithmetic: a register field, a byte and a counter are natural numbers kept below two to the
power of their width by the one operation that writes them. -/

namespace Sys2Proof

/-- 1 for true, 0 for false. -/
def bit01 (b : Bool) : Nat := if b then 1 else 0

/-- An integer held within `lo` and `hi`. -/
def clampInt (lo hi x : Int) : Int := max lo (min hi x)

/-- A counter of `w` bits that saturates: one more than `v`, at most its greatest value. -/
def satInc (w v : Nat) : Nat := min (v + 1) (2 ^ w - 1)

/-- A counter of `w` bits that wraps: one more than `v`, modulo two to the width. -/
def wrapInc (w v : Nat) : Nat := (v + 1) % 2 ^ w

end Sys2Proof
end

