-- ==== Sys2Proof/Syntax.lean ====
section
/-! DEFINITION. The commands and events of the block: one constructor of Instr for each row of the spec's table of
operations and events, with the operands the row's rule gives it, and the types of those operands. -/

namespace Sys2Proof

/-- Where a mailbox command comes from (R378): its mailbox, its tag, its IMM flag, and for a request that arrived
through REMOTE the originator's address and REQ_ID (R341). -/
structure Hdr where
  mbx : Nat
  tag : Nat
  imm : Bool := false
  remote : Option (Nat × Nat) := none
  deriving DecidableEq, Repr

/-- A Datum time of 12 bytes (R288): seconds, nanoseconds and 1/65,536 nanoseconds. -/
structure DTime where
  sec : Nat
  ns : Nat
  sub : Nat := 0
  deriving DecidableEq, Repr
/-- A PTP message as the profile of R294 carries it: messageType, domain, sequenceId, twoStepFlag, its origin (or
receipt) time and its correction in 2^-16 ns, and for Announce the grandmaster's class, identity, UTC offset and
timeTraceable. -/
structure Ptp where
  msgType : Nat
  domain : Nat
  seq : Nat
  twoStep : Bool := false
  origin : Nat := 0
  corr : Int := 0
  gmClass : Nat := 0
  gmId : Nat := 0
  utc : Nat := 0
  traceable : Bool := false
  version : Nat := 2
  minor : Nat := 1
  unicast : Bool := false
  deriving DecidableEq, Repr

/-- One entry of a Clearing frame's payload is kept by field (R259); PHASE tells REQUEST, ACCEPT, REJECT, ABORT, REPORT. -/
structure ClrMsg where
  phase : Nat
  clrId : Nat
  exec : DTime
  slot : Nat := 0
  flags : Nat := 0
  status : Nat := 0
  moved : Nat := 0
  notMoved : Nat := 0
  maxDist : Nat := 0
  deriving DecidableEq, Repr

/-- A REPORT entry of R332. -/
structure TopoEntry where
  addr : Nat
  parent : Nat
  uid : Nat
  ports : Nat
  blockHi : Nat
  deriving DecidableEq, Repr

/-- The payload of a Cairn frame by its KIND (R321, R329, R336, R340, R259, R401, R446, R480). -/
inductive Msg where
  | hello (uid addr port role epoch blockHi depth : Nat)
  | enumClear (epoch : Nat)
  | enumAssign (epoch addr depth topo : Nat)
  | enumBusy (epoch : Nat)
  | enumDone (epoch hi : Nat) (trunc : Bool)
  | enumReport (epoch : Nat) (entry : TopoEntry)
  | enumComplete (epoch count first : Nat) (depths : List Nat) (ring : List (Nat × Nat))
  | wrap (epoch cutA cutB : Nat)
  | clearing (m : ClrMsg)
  | remote (reqId phase execTo rspLen : Nat) (body data : List Nat)
  | faultNotice (entry : List Nat)
  | telemetry (ring source count seq dropped : Nat) (recs : List Nat)
  | bulk (phase kind xfer total offset status acked : Nat) (data : List Nat)
  deriving DecidableEq, Repr

/-- A Cairn frame: the header fields of R326 and the payload. -/
structure Cairn where
  tc : Nat
  kind : Nat
  dst : Nat
  src : Nat
  hops : Nat := 2047
  seq : Nat := 0
  upleg : Bool := false
  wrapped : Bool := false
  msg : Msg
  deriving DecidableEq, Repr

/-- A chain frame (R325): a Cairn frame or a PTP message. -/
inductive Frame where
  | cairn (c : Cairn)
  | ptp (m : Ptp)
  deriving DecidableEq, Repr

/-- What a receiving port finds on a frame beside its Cairn header and payload (R325, R328). -/
structure RxInfo where
  etherType : Nat := 0x88B5
  vlan : Bool := false
  bytes : Nat := 64
  version : Nat := 1
  lenOk : Bool := true
  hcrcOk : Bool := true
  fcsOk : Bool := true
  deriving DecidableEq, Repr

/-- The result of reading one housekeeping sensor: a die sensor's value in 0.01 °C, the two forward voltages of a diode at 10 µA
and at 100 µA in µV, the resistance of a Pt100 or Pt1000 with its leads in mΩ, or an open or short (R457 to R459). -/
inductive SensRead where
  | value (t : Int)
  | volts (low high : Nat)
  | ohms (mohm : Nat)
  | broken
  deriving DecidableEq, Repr
/-- A fault as a checker reports it (R434, R435): the source, the object of R446, DETAIL, and for sources 0x34 and 0x3A the
class of the occurrence; the mailbox that caused it (0xFF: none). -/
structure FaultRep where
  src : Nat
  objKind : Nat := 0
  obj : Nat := 0
  detail : Nat := 0
  cls : Nat := 0
  mbx : Nat := 0xFF
  injected : Bool := false
  remote : Bool := false
  deriving DecidableEq, Repr

/-- Why a port's link goes down (R320, R323), or `beyond`: this module loses its path to the root further up (R337). -/
inductive LinkCause where
  | lock | localFault | remoteFault | fec | hiBer | disabled | pattern | beyond
  deriving DecidableEq, Repr

/-- A flash write that ends (R68, R226, R448): the record of an element, the copy of a fault-log entry, or the active-slot marker of
a map activation. -/
inductive FlashOp where
  | calRecord (e : Nat)
  | faultLog (seq : Nat)
  | mapMarker
  deriving DecidableEq, Repr

/-- A block that BRST resets (R440): a Stand, Traverse, a chain port, Datum. -/
inductive Block where
  | stand (st : Fin 2)
  | traverse
  | port (p : Fin 4)
  | datum
  deriving DecidableEq, Repr

/-- The PCIe event that causes HRST (R367). -/
inductive HrstCause where
  | perst | hotReset | dlDown | flr
  deriving DecidableEq, Repr
--@@TYPES2@@

/-- A command or event of the block: one constructor for each row of the table of operations and events. -/
inductive Instr where
  /-- POR (R13). Power-on, or any supply staying below its reset threshold, resets every register and all
  volatile state of the Crown and Understory dies. -/
  | por (clkref : Bool)
  /-- BOOT_SEQUENCE (R470). The release after POR, or the end of a DRST, starts the boot sequence from the
  boot ROM through to MB0 admission and the start-up pass. -/
  | bootSequence
  /-- DRST (R13). Device reset restores DRST fields, stops all loops, sends outputs to their clear code and
  reruns the boot sequence. -/
  | drst (clkref : Bool)
  /-- GLB_RESET_WRITE (R469). Writing 0xD5 to KEY under a whole-device unlock requests DRST; any other value
  is discarded. -/
  | glbResetWrite (key : Nat)
  /-- HRST (R367). PERST_N, hot reset, DL_Down or FLR of the PF resets the endpoint and all eight mailboxes
  without touching light paths. -/
  | hrst (cause : HrstCause)
  /-- VF_FUNCTION_LEVEL_RESET (R367). FLR of VF k, or clearing VF Enable, resets that VF's mailbox,
  registers, MSI-X table, unlocks and telemetry rings. -/
  | vfFunctionLevelReset (vf : Option (Fin 7))
  /-- BRST (R13). A block reset restores the registers and state of the named block only. -/
  | brst (block : Block)
  /-- CRST (R282). Once every running range change has ended, a compartment reset restores Understory die Un
  while the retention stages hold the outputs. -/
  | crst (n : Fin 4)
  /-- CRST_COMPLETE (R282). The compartment reset ends, within 5 ms, and RESET completes. -/
  | crstComplete (n : Fin 4)
  /-- VSIO_RESET (R15). VSIO falling below its threshold resets Firebreak and also asserts POR. -/
  | vsioReset (clkref : Bool)
  /-- FIREBREAK_START (R404). VSIO rising starts Firebreak with every output off; it loads its
  configuration, self-tests and enters RUN, UNCONFIGURED or LOCKOUT. -/
  | firebreakStart (okA okB : Bool) (fail : Option Nat)
  /-- CLKREF_LOSS (R500). CLKREF stopping, or leaving 156.25 MHz by more than 2 % for 2 µs, reports cause 7
  for both Stands, so the holder enters FROZEN and ERR_N is asserted. -/
  | clkrefLoss
  /-- SQ_DOORBELL (R374). A write to SQ_TAIL names the next free submission entry; a value outside the ring,
  or a write while EN is 0, sets DB_ERR. -/
  | sqDoorbell (m : Fin 8) (v : Nat)
  /-- COMMAND_FETCH (R374). The mailbox fetches submission entries from SQ_HEAD up to SQ_TAIL in ring order
  and advances SQ_HEAD. -/
  | commandFetch (m : Fin 8) (entries : List (List Nat))
  /-- COMMAND_ADMISSION (R382). Forester admits one ready command per mailbox per round-robin turn, after
  the previous command of its mailbox has reached its effect point, running the tag, token bucket, opcode
  and command checks in order. -/
  | commandAdmission
  /-- POLICE_HOLD_RESUME (R358). Admission of a held mailbox resumes when its bucket level reaches one
  command. -/
  | policeHoldResume (m : Fin 8)
  /-- COMPLETION_POST (R375). A completion entry is written at CQ_TAIL, in submission order, once the
  completion ring has room. -/
  | completionPost (m : Fin 8)
  /-- CQ_HEAD_WRITE (R375). Writing CQ_HEAD releases consumed completion entries and frees ring space. -/
  | cqHeadWrite (m : Fin 8) (v : Nat)
  /-- COMPLETION_INTERRUPT (R376). The completion vector is raised at IRQ_THRESH, when IRQ_TIME expires, or
  at once for IMM. `timed` says that it is IRQ_TIME that has expired. -/
  | completionInterrupt (m : Fin 8) (timed : Bool)
  /-- MBX_ENABLE_WRITE (R373). Setting EN resets heads, tails and phase and starts fetching; clearing EN
  stops fetching. -/
  | mbxEnableWrite (m : Fin 8) (en : Bool)
  /-- MAILBOX_DMA_ERROR (R377). A failed fetch or completion write, or a poisoned TLP, sets ERR and stops
  fetching. -/
  | mailboxDmaError (m : Fin 8) (cause : Fin 4) (buffer : Option Nat)
  /-- BAR2_WRITE (R371). An unlocked BAR2 write to a state-library slot increments GEN and marks its cached
  vector stale. -/
  | bar2Write (off width v : Nat)
  /-- REGISTER_WRITE (R9). A write to a register without a row of its own acts under its access type. -/
  | registerWrite (fn : Fin 8) (off width v : Nat)
  /-- RING_INTERRUPT (R399). A telemetry ring raises its vector at THRESH, or TIME µs after the first
  unannounced record. `timed` says that it is TIME that has run. -/
  | ringInterrupt (m : Fin 8) (j : Fin 48) (timed : Bool)
  /-- TR_CONS_WRITE (R398). Writing CONS releases ring records; a value that would make the fill negative or
  above the ring size is discarded and sets RING_ERR. -/
  | trConsWrite (m : Fin 8) (j : Fin 48) (v : Nat)
  /-- TELEMETRY_FRAME_RECEIVED (R401). A TELEMETRY frame is written into its ring if the frame's SRC matches
  the ring's ORIGIN, otherwise counted in TR_REJ. -/
  | telemetryFrameReceived (src : Nat) (ring : Fin 62) (recs : List (List Nat))
  /-- UNLOCK_EXPIRY (R393). An expert unlock ends when its TTL expires. -/
  | unlockExpiry (m : Fin 8) (kind which : Nat)
  /-- IDENTIFY (R390). Writes the 64-byte identity record of the module and mailbox to BUF. -/
  | identify (h : Hdr) (buf : Nat)
  /-- GET_STATUS (R390). Returns the status word, the frame counter, the unread fault-log count and the
  queued Clearings of the mailbox. -/
  | getStatus (h : Hdr)
  /-- PARTITION_SET (R381). MB0 assigns a VF mailbox its tag range, slot range, expert right and object
  bitmaps. -/
  | partitionSet (h : Hdr) (mbx buf : Nat) (table : List Nat)
  /-- STATE_WRITE (R246). Writes entries of a state-library slot, optionally persisting the slot or setting
  it as the start-up slot. -/
  | stateWrite (h : Hdr) (first count slot clear persist buf boot : Nat) (entries : List Nat)
  /-- STATE_READ (R246). Copies entries of a valid slot to the host buffer. -/
  | stateRead (h : Hdr) (first count slot buf : Nat)
  /-- ROUTE_SOLVE (R247). Solves a slot or inline permutation without changing the fabric and reports the
  vector and the disturbed circuits. -/
  | routeSolve (h : Hdr) (src mode slot maxDist buf rpt vec : Nat) (entries : List Nat)
  /-- STATE_COMMIT (R250). Checks a permutation and, when it passes, solves it and queues a local or chain-
  scoped Clearing at its execution time. -/
  | stateCommit (h : Hdr) (src mode scope atomic slot maxDist buf : Nat) (exec : DTime) (pcount rpt plist : Nat) (entries : List Nat) (parts : List (Nat × Nat))
  /-- STATE_ABORT (R257). Aborts a queued Clearing before its point of no return, or reports
  ALREADY_COMMITTED. -/
  | stateAbort (h : Hdr) (clrId : Nat)
  /-- CLEARING_QUERY (R264). Writes records of the queued Clearings and of the last 256 finished ones. -/
  | clearingQuery (h : Hdr) (count buf : Nat)
  /-- ELEMENT_SET_OVERRIDE (R191). Schedules a jump of one element to an override drive and entry to MANUAL.
  -/
  | elementSetOverride (h : Hdr) (elem drive : Nat)
  /-- ELEMENT_SET_SETPOINT (R194). Sets a new feed-forward drive and/or slope setpoint of a non-cell
  element. -/
  | elementSetSetpoint (h : Hdr) (elem ffc ssp : Nat)
  /-- ELEMENT_SET_RANGE (R128). Requests a change of V-mode range of one element. -/
  | elementSetRange (h : Hdr) (elem range : Nat)
  /-- ELEMENT_RELEASE_ELEMENT (R193). Releases an element from MANUAL, clears OC or LEAK, or re-enables a
  tripped driver group. -/
  | elementReleaseElement (h : Hdr) (elem : Nat)
  /-- ELEMENT_RELEASE_TRIP (R160). Clears a compartment's H-mode trip latch if no enabled source is still
  asserted. -/
  | elementReleaseTrip (h : Hdr) (comp : Nat)
  /-- ELEMENT_RELEASE_RETURN (R206). Returns a SUSPECT element to service. -/
  | elementReleaseReturn (h : Hdr) (elem : Nat)
  /-- LOOP_CONFIG_COMPARTMENT (R195). Sets a compartment's loop period and window. -/
  | loopConfigCompartment (h : Hdr) (comp period window : Nat)
  /-- LOOP_CONFIG_COEFFICIENT (R183). Writes a shadow coefficient set and optionally commits the shadow
  bank. -/
  | loopConfigCoefficient (h : Hdr) (comp set kp ki ilim epsMax commit : Nat)
  /-- LOOP_CONFIG_ELEMENT (R182). Sets the coefficient set used by a range of elements. -/
  | loopConfigElement (h : Hdr) (first set count : Nat)
  /-- LOOP_CONFIG_CLEAR_CODE (R122). Sets the clear code of a range of V-mode elements. -/
  | loopConfigClearCode (h : Hdr) (first count code : Nat)
  /-- LOOP_CONFIG_PROFILE (R142). Checks a jump profile under R137 and writes it to flash and to the
  compartment. -/
  | loopConfigProfile (h : Hdr) (comp prof count flags t2 t3 t4 a1 a2 a3 rsv : Nat)
  /-- LOOP_CONFIG_PILOT (R132). Sets the pilot amplitude PAMP of a range of elements. -/
  | loopConfigPilot (h : Hdr) (first count pamp : Nat)
  /-- LOOP_CONFIG_DEGLITCH (R120). Sets a compartment's deglitch threshold. -/
  | loopConfigDeglitch (h : Hdr) (comp thr : Nat)
  /-- LOOP_CONFIG_HPWM (R152). Sets PER, DEAD, MINP, MPF and STAG of H-mode elements after checking them. -/
  | loopConfigHpwm (h : Hdr) (first count per dead minp mpf stag : Nat)
  /-- LOOP_CONFIG_TRIP (R157). Asserts the software trip source of a compartment. -/
  | loopConfigTrip (h : Hdr) (comp : Nat)
  /-- LOOP_CONFIG_POWER_CAP (R164). Sets the programmed H-mode power cap. -/
  | loopConfigPowerCap (h : Hdr) (cap : Nat)
  /-- OUTER_CONFIG_EQUALISATION (R215). Sets the output-port equalisation loops of named ports. -/
  | outerConfigEqualisation (h : Hdr) (first count en side div ko target spMax iref : Nat)
  /-- OUTER_CONFIG_TEMPERATURE (R223). Writes TCO into element records and sets a compartment's temperature
  feed-forward settings. -/
  | outerConfigTemperature (h : Hdr) (first count tco comp en sensor slew : Nat)
  /-- ELEMENT_STATUS (R198). Writes one 32-byte status record per named element. -/
  | elementStatus (h : Hdr) (first count buf : Nat)
  /-- MONITOR_READ (R390). Applies RANGE_SET and then writes the frame result words of the named monitors
  from one common frame. -/
  | monitorRead (h : Hdr) (first count rangeSet buf : Nat)
  /-- PRECISION_MEASURE (R90). Configures and arms precision windows on the named monitors and writes their
  records. -/
  | precisionMeasure (h : Hdr) (first mode src count pwq rings buf : Nat) (start : DTime) (len : Nat)
  /-- TELEMETRY_CFG_RING (R400). Configures a telemetry ring of the mailbox. -/
  | telemetryCfgRing (h : Hdr) (ring en rlog recsz origin thresh base wb time : Nat)
  /-- TELEMETRY_CFG_SOURCE (R400). Binds a telemetry source to a ring or to a chain destination. -/
  | telemetryCfgSource (h : Hdr) (ring source en first count dec dest : Nat)
  /-- CAL_RUN (R224). Requests transfer calibration sweeps of elements, or sets their periodic schedule. -/
  | calRun (h : Hdr) (first mode count deadline interval : Nat)
  /-- CAL_STATUS (R112). Returns calibration records of the kind named. -/
  | calStatus (h : Hdr) (kind first count buf : Nat)
  /-- SYSCAL_STEP_BEGIN (R106). Starts system calibration of a compartment: stops its rotation and connects
  the calibration bus. -/
  | syscalStepBegin (h : Hdr) (comp : Nat)
  /-- SYSCAL_STEP_ZERO (R106). Each Benchmark slice measures the calibration input at zero current on every
  range. -/
  | syscalStepZero (h : Hdr) (comp mains : Nat) (readings : List (List Rat))
  /-- SYSCAL_STEP_POINT (R108). Each Benchmark slice measures the applied current and its references on one
  range. -/
  | syscalStepPoint (h : Hdr) (comp range mains applied : Nat) (readings : List (Rat × Rat × Rat))
  /-- SYSCAL_STEP_END (R109). Judges the calibration and, if it is accepted, stores the new references and
  resumes the rotation. -/
  | syscalStepEnd (h : Hdr) (comp : Nat)
  /-- SYSCAL_STEP_ABORT (R107). Abandons the system calibration and keeps every old value. -/
  | syscalStepAbort (h : Hdr) (comp : Nat)
  /-- SYSCAL_TIMEOUT (R107). 600 s without a step abandons the system calibration. -/
  | syscalTimeout (n : Fin 4)
  /-- DATUM_CFG_CONFIG (R315). Sets the domain sources and the PTP port parameters. -/
  | datumCfgConfig (h : Hdr) (port src0 port0 src1 port1 oneStep logSync pdExp asymIn asymEg : Nat)
  /-- DATUM_CFG_SELECT (R307). Makes the named domain Datum P if Datum S is LOCKED and within SW_LIMIT. -/
  | datumCfgSelect (h : Hdr) (domain : Nat)
  /-- DATUM_CFG_RESTEP (R300). Requests a grid step. -/
  | datumCfgRestep (h : Hdr)
  /-- DATUM_CFG_SET_TOD (R311). Gives SEC for the next PPS_IN edge. -/
  | datumCfgSetTod (h : Hdr) (sec : Nat)
  /-- DATUM_CFG_LIMITS (R315). Sets the lock, slew, switch and step limits, the servo bandwidth, AUTO_S and
  PPS_GATE. -/
  | datumCfgLimits (h : Hdr) (lockThr slewMax swLimit stepLimit servoBw autoS ppsGate : Nat)
  /-- DATUM_STATUS (R316). Writes the 64-byte Datum status record, taken at one frame boundary. -/
  | datumStatus (h : Hdr) (buf : Nat)
  /-- TRIGGER_CFG (R317). Configures a TRIG pin's mode, edge, start, period and width. -/
  | triggerCfg (h : Hdr) (pin mode edge : Nat) (start : DTime) (period width : Nat)
  /-- CHAIN_CFG_PORT (R343). Sets the enable, FEC and equaliser settings of a chain port. -/
  | chainCfgPort (h : Hdr) (port en fec txPre txPost txAmp rxFreeze : Nat)
  /-- CHAIN_CFG_ENUMERATE (R329). Starts enumeration of the fabric from this module as root. -/
  | chainCfgEnumerate (h : Hdr) (topo : Nat)
  /-- CHAIN_CFG_TEST (R323). Selects test patterns and error injection on a port. -/
  | chainCfgTest (h : Hdr) (port gen chk inv injRate : Nat)
  /-- CHAIN_CFG_REMOTE_POLICY (R343). Sets ACCEPT, CLASS_EN and the remote timeouts. -/
  | chainCfgRemotePolicy (h : Hdr) (accept classEn ackTo execTo : Nat)
  /-- CHAIN_STATUS (R344). Writes the chain port registers, or at the root the topology entries. -/
  | chainStatus (h : Hdr) (form clear buf : Nat)
  /-- REMOTE (R339). Sends an embedded command to another module for execution and returns its completion.
  -/
  | remote (h : Hdr) (dst rspLen execTo rspBuf : Nat) (cmd data : List Nat)
  /-- SCHED_CFG_GCL (R350). Writes and commits a port's administrative gate control list. -/
  | schedCfgGcl (h : Hdr) (port : Nat) (list : List (Nat × Nat)) (cycle phase : Nat) (change : DTime) (buf : Nat) (sub : Fin 1024)
  /-- SCHED_CFG_SHAPER (R353). Sets the credit-based shaper of a class on a port. -/
  | schedCfgShaper (h : Hdr) (port cls en idleslope hicredit : Nat)
  /-- SCHED_CFG_OVERHEAD (R363). Sets the scheduling overhead OVH of a port. -/
  | schedCfgOverhead (h : Hdr) (port ovh : Nat)
  /-- SCHED_CFG_POLICE (R360). Sets the token bucket of a mailbox. -/
  | schedCfgPolice (h : Hdr) (m en mode rate burst : Nat)
  /-- SCHED_CFG_SAMPLING (R361). Enables queue sampling and sets its interval K. -/
  | schedCfgSampling (h : Hdr) (en k : Nat)
  /-- SCHED_CFG_READ_SAMPLES (R362). Writes entries of a port's sample ring to the host buffer. -/
  | schedCfgReadSamples (h : Hdr) (port count buf : Nat)
  /-- FAULT_LOG_READ (R450). Writes the visible fault log entries to BUF and optionally advances the read
  pointer. -/
  | faultLogRead (h : Hdr) (first count whence advance buf : Nat)
  /-- FAULT_POLICY_SET (R439). Sets or restores the reaction set of a fault source. -/
  | faultPolicySet (h : Hdr) (source react dflt : Nat)
  /-- FAULT_INJECT (R453). Arms inversion of check bits on a checker's next write. -/
  | faultInject (h : Hdr) (checker bits mode : Nat)
  /-- FW_STAGE_FIRMWARE (R479). Checks a firmware image and writes it to the inactive flash bank, locally or
  on a remote module. -/
  | fwStageFirmware (h : Hdr) (length dst buf : Nat) (image : List Nat)
  /-- FW_STAGE_ELEMENT_MAP (R66). Checks an element map and writes it to the staging slot. -/
  | fwStageElementMap (h : Hdr) (length dst buf : Nat) (image : List Nat)
  /-- FW_ACTIVATE_FIRMWARE (R286). Activates staged firmware by reloading each Stand in turn, handing over
  the baton and restarting Forester. -/
  | fwActivateFirmware (h : Hdr)
  /-- FW_ACTIVATE_ELEMENT_MAP (R67). Loads, checks and measures the staged map and marks its slot active. -/
  | fwActivateElementMap (h : Hdr)
  /-- MEASURE_READ (R478). Writes the selected measurement registers, all taken at one instant. -/
  | measureRead (h : Hdr) (mask buf : Nat)
  /-- SAFETY_STATUS_READ (R431). Writes the 64-byte Firebreak status record. -/
  | safetyStatusRead (h : Hdr) (buf : Nat)
  /-- SAFETY_STATUS_ACK (R425). With RESET_PEND set, acknowledges a lockout reset so that Firebreak enters
  RUN. -/
  | safetyStatusAck (h : Hdr)
  /-- SAFETY_STATUS_RESTART (R412). Restarts the named manual-restart outputs. -/
  | safetyStatusRestart (h : Hdr) (outputs : Nat)
  /-- SAFETY_SESSION_OPEN (R426). Opens a Firebreak configuration session after a password check. -/
  | safetySessionOpen (h : Hdr) (len : Nat) (password : List Nat)
  /-- SAFETY_CONFIG_PARAMETER (R427). Stages one Firebreak parameter in the open session. -/
  | safetyConfigParameter (h : Hdr) (param value : Nat)
  /-- SAFETY_CONFIG_PASSWORD (R427). Stages a new password in the open session. -/
  | safetyConfigPassword (h : Hdr) (len : Nat) (password : List Nat)
  /-- SAFETY_SESSION_CLOSE_COMMIT (R428). Checks, logs, stores and applies the staged Firebreak
  configuration. -/
  | safetySessionCloseCommit (h : Hdr)
  /-- SAFETY_SESSION_CLOSE_DISCARD (R427). Ends the session and discards the staged values. -/
  | safetySessionCloseDiscard (h : Hdr)
  /-- SAFETY_LOG_READ (R432). Writes held safety change-log entries to BUF. -/
  | safetyLogRead (h : Hdr) (first count buf : Nat)
  /-- STAND_HANDOVER_HANDOVER (R278). Requests a commanded handover of the baton to the ELIGIBLE shadow. -/
  | standHandoverHandover (h : Hdr)
  /-- STAND_HANDOVER_RETURN (R270). Returns the OFFLINE Stand by copying loop state from the active Stand.
  -/
  | standHandoverReturn (h : Hdr)
  /-- STAND_HANDOVER_RELEASE (R278). Sends the shadow Stand OFFLINE under BRST for service. -/
  | standHandoverRelease (h : Hdr)
  /-- COMPARTMENT_SERVICE_FENCE (R281). Requests fencing of a compartment. -/
  | compartmentServiceFence (h : Hdr) (comp : Nat)
  /-- COMPARTMENT_SERVICE_RESET (R282). Requests CRST of a fenced compartment. -/
  | compartmentServiceReset (h : Hdr) (comp : Nat)
  /-- COMPARTMENT_SERVICE_REJOIN (R283). Starts the rejoin pass of a fenced compartment. -/
  | compartmentServiceRejoin (h : Hdr) (comp : Nat)
  /-- EXPERT_UNLOCK (R392). Opens an expert unlock of compartment, block or whole-device scope. -/
  | expertUnlock (h : Hdr) (kind which ttl : Nat)
  /-- EXPERT_LOCK (R393). Ends one named unlock, or every unlock, of the mailbox. -/
  | expertLock (h : Hdr) (kind which : Nat)
  /-- FRAME_BOUNDARY (R70). Every monitor slice closes a frame and delivers its result word; frame-
  synchronous work proceeds. -/
  | frameBoundary (samples : List (Nat × Int))
  /-- MONITOR_RANGE_CHANGE (R76). A requested monitor range change takes effect at a frame boundary, or when
  a running precision window ends. -/
  | monitorRangeChange (m : Fin 6144)
  /-- COMPARATOR_CHANGE (R92). A window comparator side asserts or releases when its persistence count of
  valid frames completes. -/
  | comparatorChange (m : Fin 6144) (high : Bool)
  /-- PW_GO_WRITE (R83). Writing 1 to PW_GO is a command trigger for the monitor's precision window. -/
  | pwGoWrite (m : Fin 6144)
  /-- PRECISION_WINDOW_START (R84). A pending precision window starts integrating at its start boundary. -/
  | precisionWindowStart (m : Fin 6144)
  /-- PRECISION_WINDOW_END (R88). A precision window ends or is abandoned and produces its 16-byte record.
  -/
  | precisionWindowEnd (m : Fin 6144) (mean : Int)
  /-- BENCHMARK_TAKEOVER (R96). A due rotation position switches the monitor to the Benchmark slice, after
  any running window has ended. -/
  | benchmarkTakeover (g : Fin 192)
  /-- BENCHMARK_RESULT (R99). After its measurements, a position's coefficients are computed and accepted or
  rejected. -/
  | benchmarkResult (g : Fin 192) (readings : List (Int × Int × Int))
  /-- BENCHMARK_RETURN (R98). The monitor returns to its own slice, with the new coefficients applied from
  the next frame. -/
  | benchmarkReturn (g : Fin 192)
  /-- CAL_ROT_CTRL_WRITE (R97). Enabling or disabling background calibration stops a compartment's rotation
  after the running position, or resumes it. -/
  | calRotCtrlWrite (v : Fin 16)
  /-- CALIBRATION_STALE (R101). A group with no accepted result for 10 s sets STALE. -/
  | calibrationStale (g : Fin 192)
  /-- STARTUP_PASS_END (R104). The start-up and rejoin fast pass of a compartment ends and the normal
  rotation begins. -/
  | startupPassEnd (n : Fin 4) (responds : Bool) (results : List (Nat × Nat × List (Int × Int)))
  /-- VMODE_OVERCURRENT (R117). An output held at its current limit for 10 µs goes to high impedance, sets
  OC and its element becomes SUSPECT. -/
  | vmodeOvercurrent (e : Fin 9216)
  /-- OC_CLEAR_WRITE (R117). Clearing OC of a V-mode channel releases it to its clear code. -/
  | ocClearWrite (e : Fin 9216)
  /-- GROUP_LIMITER_TRIP (R118). A group limiter in limit for 10 µs switches its 48-slice group off and sets
  GTRIP. -/
  | groupLimiterTrip (n : Fin 4) (g : Fin 48)
  /-- GTRIP_CLEAR_WRITE (R118). Clearing GTRIP re-enables every tripped group of the compartment at the
  clear code. -/
  | gtripClearWrite (n : Fin 4)
  /-- DEGLITCH_RELEASE (R120). After the 200 ns hold, the deglitcher releases the output to the newest
  value. -/
  | deglitchRelease (e : Fin 9216)
  /-- VDAC_RANGE_WRITE (R127). Writing RANGE different from RANGE_ACT requests a range change, or reverts
  RANGE if the change is refused. -/
  | vdacRangeWrite (e : Fin 9216) (hi : Bool)
  /-- RANGE_CHANGE_START (R129). At the first frame boundary after admission the pilot turns off and the
  ramp toward 0 V starts; for an element in PARK the range simply switches. -/
  | rangeChangeStart (e : Fin 9216)
  /-- RANGE_SWITCH (R129). At 20 µs the output is at 0 V and the output stage switches range. -/
  | rangeSwitch (e : Fin 9216)
  /-- RANGE_RAMP_UP (R129). At 25 µs the ramp toward the held voltage in the new range starts. -/
  | rangeRampUp (e : Fin 9216)
  /-- RANGE_CHANGE_END (R129). At 45 µs the ramp ends, the pilot turns back on and the ELEMENT_SET
  completes. -/
  | rangeChangeEnd (e : Fin 9216)
  /-- UST_VCLR_WRITE (R122). Writing a clear code moves every channel held at its clear code to the new
  value at once. -/
  | ustVclrWrite (e : Fin 9216) (code : Nat)
  /-- PROFILE_IMPULSE (R140). At its time T_i an impulse of a jump sets the commanded drive to its next
  value. -/
  | profileImpulse (e : Fin 10240) (dark : Bool)
  /-- TRAJECTORY_END (R138). A jump's trajectory ends, at the start boundary plus the profile duration. -/
  | trajectoryEnd (e : Fin 10240) (dark : Bool)
  /-- UST_PROFILE_WRITE (R142). Writing the last word of UST_PROFILE checks the profile and puts it in force
  without storing it. -/
  | ustProfileWrite (n : Fin 4) (p : Fin 16) (count flags t2 t3 t4 a1 a2 a3 : Nat)
  /-- PILOT_AMPLITUDE_CHANGE (R132). A new PAMP takes effect at the next loop-period boundary. -/
  | pilotAmplitudeChange (e : Fin 10240)
  /-- CLR_N_ASSERT (R124). A qualified CLR_N low moves every V-mode output to its clear code, turns the
  pilots off and holds the integrators. -/
  | clrNAssert (vpath hpath : Bool)
  /-- CLR_N_RELEASE (R126). CLR_N returns high, and the outputs stay at their clear codes until the return
  boundary. -/
  | clrNRelease
  /-- CLR_N_RETURN (R126). At the first loop-period boundary at least 2 frames after release, the elements
  jump back from their clear codes. -/
  | clrNReturn (n : Fin 4)
  /-- HMODE_PERIOD_BOUNDARY (R150). At each period boundary the H-mode duty engine turns the latest duty
  word, pilot, cap and residue into edges. -/
  | hmodePeriodBoundary (h : Fin 1024) (tick : Fin 100) (ion : Fin 256)
  /-- HMODE_OVERCURRENT (R162). A current limit acting for 10 µs puts the channel at high impedance with OC
  set, and the element becomes SUSPECT. -/
  | hmodeOvercurrent (h : Fin 1024)
  /-- HMODE_FAST_TRIP (R162). The fast-trip comparator fires, putting the channel at high impedance with OC
  set. -/
  | hmodeFastTrip (h : Fin 1024)
  /-- HMODE_LEAKAGE (R162). Output and return currents that differ by more than 3 mA for 10 µs set LEAK and
  put the channel at high impedance. -/
  | hmodeLeakage (h : Fin 1024)
  /-- HMODE_OC_LEAK_CLEAR_WRITE (R162). Clearing OC or LEAK leaves high impedance with the low side
  conducting at duty 0. -/
  | hmodeOcLeakClearWrite (h : Fin 1024) (oc leak : Bool)
  /-- TRIP_SOURCE_ASSERT (R157). An enabled trip source sets the compartment's TRIP latch and all its
  heaters go to high impedance within 50 ns. -/
  | tripSourceAssert (n : Fin 4)
  /-- TRIP_CLEAR_WRITE (R160). Writing 1 to TRIP clears the latch unless a source is still asserted. -/
  | tripClearWrite (n : Fin 4)
  /-- SWTRIP_WRITE (R157). Writing 1 to SWTRIP pulses the software trip source. -/
  | swtripWrite (n : Fin 4)
  /-- HMODE_RESUME (R160). At the first loop-period boundary at least 2 frames after a trip clear or CLR_N
  release, the heaters resume. -/
  | hmodeResume (n : Fin 4)
  /-- HPWM_SRC_WRITE (R154). Setting SRC to 1 for a MANUAL element enters DIRECT mode and copies the period
  and compares into the shadows. -/
  | hpwmSrcWrite (h : Fin 1024) (v : Bool)
  /-- PCOMMIT_WRITE (R155). Setting PCOMMIT requests a pair commit of the DIRECT-mode shadows. -/
  | pcommitWrite (h : Fin 1024)
  /-- SHADOW_TRANSFER (R155). DIRECT-mode shadow values pass to the active period and compares at a period
  boundary. -/
  | shadowTransfer (h : Fin 1024) (reg : Fin 3)
  /-- LOOP_PERIOD_BOUNDARY (R169). The active Stand demodulates the window that ended, computes each
  element's drive and writes it to the Understory. -/
  | loopPeriodBoundary (n : Fin 4) (mismatch : Bool) (mask : Fin 16) (late : List Nat) (stale : Fin 2048)
  /-- COEF_COMMIT_WRITE (R183). Setting COMMIT checks the shadow bank and either schedules the swap or sets
  REJECT. -/
  | coefCommitWrite (n : Fin 4)
  /-- COEFFICIENT_SWAP (R184). All 16 coefficient sets swap banks together with bumpless rescaling of the
  integrators. -/
  | coefficientSwap (n : Fin 4)
  /-- PERIOD_WINDOW_CHANGE (R196). A new loop period or window takes effect at a multiple-of-40 boundary,
  restarting SETTLE. -/
  | periodWindowChange (n : Fin 4)
  /-- SETTLE_ENTRY (R29). At the first loop-period boundary after a trajectory toward a target ends, the
  element enters SETTLE with its integrator preloaded. -/
  | settleEntry (e : Fin 10240)
  /-- JUMP_EXIT (R186). At the first boundary after a trajectory toward an override, clear code or frozen
  drive ends, the element enters MANUAL, PARK or SUSPECT. -/
  | jumpExit (e : Fin 10240)
  /-- HOLD_ENTRY (R29). After one full window spent in SETTLE, the element enters HOLD. -/
  | holdEntry (e : Fin 10240)
  /-- SCHEDULED_TRANSITION (R186). A transition scheduled by ELEMENT_SET or ELEMENT_RELEASE takes place at
  the next boundary after admission. -/
  | scheduledTransition (e : Fin 10240)
  /-- LOOP_START (R190). After the start-up pass, or once a record is accepted, an element with a record
  jumps from its clear code toward its start target. -/
  | loopStart (e : Fin 10240)
  /-- SUSPECT_ENTRY (R203). When SUS_N consecutive implausible verdicts have been counted, the element
  enters SUSPECT and returns to D_good. -/
  | suspectEntry (e : Fin 10240)
  /-- RETURN_TO_SERVICE (R207). An accepted return puts a SUSPECT element into SETTLE, or into a first-
  commit jump, at the next boundary. -/
  | returnToService (e : Fin 10240)
  /-- CATCH_UP_JUMP (R208). An element that entered SETTLE with a changed target jumps to the target in
  force as a one-element Clearing. -/
  | catchUpJump (e : Fin 10240)
  /-- CALIBRATION_RECORD_APPLY (R197). A newly accepted element calibration record is applied at the next
  boundary with the integrators adjusted. -/
  | calibrationRecordApply (e : Fin 10240)
  /-- OUTER_INTERVAL_END (R213). Every DIV periods the port-equalisation loop computes the level and
  updates, or holds, the gate's setpoint. -/
  | outerIntervalEnd (p : Fin 512)
  /-- SWEEP_START (R218). A transfer calibration sweep of an eligible element starts. -/
  | sweepStart (e : Fin 10240)
  /-- SWEEP_POINT (R219). A sweep point's window completes and the sweep moves on; after the last point it
  fits, judges and releases. -/
  | sweepPoint (e : Fin 10240)
  /-- SWEEP_DEADLINE (R224). An element not swept by DEADLINE receives RESULT 7 or 9. -/
  | sweepDeadline (e : Fin 10240)
  /-- SOLVE_START (R235). Traverse starts the next waiting solve, in admission order. -/
  | solveStart
  /-- SOLVE_COMPLETE (R235). A solve finishes, with its cell vector in SRAM and the disturbed set computed.
  -/
  | solveComplete
  /-- CLEARING_QUEUE (R252). A Clearing is queued with its difference set against the later state in force.
  -/
  | clearingQueue
  /-- POINT_OF_NO_RETURN (R279). 250 ns before the execution frame, Traverse arms the Understory with every
  jump target and profile. -/
  | pointOfNoReturn
  /-- CLEARING_EXECUTION (R253). At the execution frame boundary the state in force changes and each element
  of the difference set is treated under R30. -/
  | clearingExecution
  /-- CLEARING_REQUEST (R260). A participant receives a Clearing REQUEST frame, checks it and replies ACCEPT
  or REJECT. -/
  | clearingRequest (src : Nat) (m : ClrMsg)
  /-- CLEARING_ACCEPT (R260). The originator receives a participant's ACCEPT. -/
  | clearingAccept (src : Nat) (m : ClrMsg)
  /-- CLEARING_REJECT (R260). The originator receives a REJECT and, for an atomic Clearing, aborts every
  participant. -/
  | clearingReject (src : Nat) (m : ClrMsg)
  /-- CLEARING_ABORT (R261). A participant receives ABORT and cancels its part, or reports SPLIT if past its
  point of no return. -/
  | clearingAbort (src clrId : Nat)
  /-- CLEARING_REPORT (R260). The originator receives a REPORT and completes when it holds all of them. -/
  | clearingReport (src : Nat) (m : ClrMsg)
  /-- ABORT_DEADLINE (R260). At the abort deadline, a missing accept of an atomic Clearing aborts it with
  REMOTE_TIMEOUT. -/
  | abortDeadline (clrId : Nat)
  /-- REPORT_TIMEOUT (R260). At the execution boundary plus REPORT_TO, the originator completes with
  REMOTE_TIMEOUT. -/
  | reportTimeout (clrId : Nat)
  /-- STAND_ECC_ERROR (R271). An uncorrectable error in a Stand's loop state or lane registers is detected.
  -/
  | standEccError (st : Fin 2)
  /-- WRITE_PATH_PARITY (R271). The Understory receiver detects a parity error on a Stand's write path. -/
  | writePathParity (st : Fin 2)
  /-- HEARTBEAT_MISSING (R271). The baton arbiter finds the heartbeat missing at 4 successive frame
  boundaries. -/
  | heartbeatMissing
  /-- STAND_CLOCK_FAULT (R271). A Stand's clock is found outside ±2 % of the fabric clock. -/
  | standClockFault (st : Fin 2)
  /-- INTERLOCK_CONFIRM (R274). Confirmation of the cut on the outgoing Stand's ILK pin opens the incoming
  path. -/
  | interlockConfirm
  /-- INTERLOCK_TIMEOUT (R274). A cut not confirmed within 2.0 µs leaves both paths closed and enters
  FROZEN. -/
  | interlockTimeout
  /-- ILK_FORCE (R276). Holding the active Stand's ILK pin low for 1 µs forces a handover, or is ignored if
  the shadow is not ELIGIBLE. -/
  | ilkForce
  /-- STAND_COPY_COMPLETE (R270). A returning Stand completes its copy of loop state and becomes SYNCING, or
  takes the baton from a FROZEN holder. -/
  | standCopyComplete
  /-- TAKEOVER_RESUME (R273). At each compartment's first boundary after a take-over from FROZEN, HOLD,
  SETTLE and JUMP elements enter SETTLE. -/
  | takeoverResume (n : Fin 4)
  /-- STAND_ELIGIBLE (R269). SYNC_CNT reaches 64 in every unfenced compartment and the shadow becomes
  ELIGIBLE. -/
  | standEligible
  /-- COMMANDED_HANDOVER (R278). At the chosen multiple-of-40 boundary the baton passes to the shadow. -/
  | commandedHandover
  /-- COMPARTMENT_FENCE (R281). A compartment is fenced: its elements enter FENCED, its outputs hold and its
  frames become invalid. -/
  | compartmentFence (n : Fin 4)
  /-- REJOIN (R283). At the first boundary after the rejoin pass, each element leaves FENCED according to
  its condition. -/
  | rejoin (n : Fin 4)
  /-- FORESTER_WATCHDOG (R287). Forester failing to start within 500 ms requests DRST. -/
  | foresterWatchdog
  /-- SYNC_RECEIVED (R294). A PTP Sync message is timestamped and updates the servo of its domain. -/
  | syncReceived (port : Fin 4) (m : Ptp) (ingress : Nat)
  /-- FOLLOW_UP_RECEIVED (R294). A Follow_Up completes a two-step Sync. -/
  | followUpReceived (port : Fin 4) (m : Ptp)
  /-- PDELAY_REQ_RECEIVED (R294). A Pdelay_Req is answered with Pdelay_Resp and its follow-up. -/
  | pdelayReqReceived (port : Fin 4) (m : Ptp) (ingress egress : Nat)
  /-- PDELAY_RESP_RECEIVED (R294). A Pdelay_Resp contributes to a link-delay exchange. -/
  | pdelayRespReceived (port : Fin 4) (m : Ptp) (ingress : Nat)
  /-- PDELAY_RESP_FOLLOW_UP_RECEIVED (R294). A Pdelay_Resp_Follow_Up completes a link-delay exchange. -/
  | pdelayRespFollowUpReceived (port : Fin 4) (m : Ptp)
  /-- ANNOUNCE_RECEIVED (R294). An Announce updates grandmaster class and traceability. -/
  | announceReceived (port : Fin 4) (m : Ptp)
  /-- DELAY_REQ_RECEIVED (R294). A Delay_Req is discarded and counted in DISCARD. -/
  | delayReqReceived (port : Fin 4)
  /-- SYNC_TRANSMIT (R294). Each sync interval a master port sends Sync, one-step or two-step. -/
  | syncTransmit (port : Fin 4) (domain : Fin 2) (egress : Nat)
  /-- PDELAY_TRANSMIT (R294). Each Pdelay interval a port sends Pdelay_Req. -/
  | pdelayTransmit (port : Fin 4) (egress : Nat)
  /-- ANNOUNCE_TRANSMIT (R294). Each second a master port sends Announce. -/
  | announceTransmit (port : Fin 4) (domain : Fin 2)
  /-- SOURCE_LOST (R299). A Sync, Announce or PPS timeout, or lost traceability, moves Datum P to HOLDOVER
  or switches it to Datum S. `timeout` says that it is one of the timeouts. -/
  | sourceLost (domain : Fin 2) (timeout : Bool)
  /-- DATUM_ACQUIRED (R300). Enough valid Syncs or edges end ACQUIRING and decide slewing or a grid step. -/
  | datumAcquired
  /-- GRID_STEP (R301). At a permitted boundary the clock steps by K × 40,960 ns, reloading pilots and
  restarting windows. -/
  | gridStep
  /-- DATUM_LOCKED (R298). 16 consecutive offsets within LOCK_THR with a traceable upstream make Datum P
  LOCKED. -/
  | datumLocked
  /-- PPS_IN_EDGE (R311). A rising PPS_IN edge is timestamped and used as a time source. -/
  | ppsInEdge (ingress : Nat)
  /-- PPS_OUT_PULSE (R310). PPS_OUT rises at each whole second plus OUT_OFS. -/
  | ppsOutPulse
  /-- TRIG_OUTPUT_PULSE (R312). A TRIG output emits its scheduled, periodic or Clearing-aligned pulse. -/
  | trigOutputPulse (pin : Fin 4)
  /-- TRIG_INPUT_EDGE (R314). A TRIG input edge is timestamped into the FIFO and may trigger precision
  windows. -/
  | trigInputEdge (pin : Fin 4) (rising : Bool) (t : Nat)
  /-- RESTEP_WRITE (R300). Writing 1 to RESTEP requests a grid step. -/
  | restepWrite
  /-- P_DOM_WRITE (R307). A change of P_DOM acts as SELECT. -/
  | pDomWrite (v : Fin 2)
  /-- DTM_TIME_LATCH (R290). Reading the low word of DTM_TIME latches DTM_TIME and DTM_FRAME together. -/
  | dtmTimeLatch
  /-- TSQ_POP_READ (R297). Reading the high word of DTM_TSQ_POP removes the oldest transmit timestamp. -/
  | tsqPopRead (port : Fin 4)
  /-- TRIG_TS_READ (R314). Reading the high word of DTM_TRIG_TS removes the oldest edge timestamp. -/
  | trigTsRead (pin : Fin 4)
  /-- TRIG_START_WRITE (R313). Writing the high word of DTM_TRIG_START puts the new START in force. -/
  | trigStartWrite (pin : Fin 4) (start : DTime)
  /-- LINK_UP (R320). After LINK_HOLD of stable block lock without faults, the port declares its link up. -/
  | linkUp (port : Fin 4)
  /-- LINK_DOWN (R320). Loss of lock, a fault, hi_ber, EN cleared or a test pattern takes the link down and
  empties its queues. -/
  | linkDown (port : Fin 4) (cause : LinkCause) (cutUp : Bool)
  /-- HELLO_TRANSMIT (R321). At link up and every 100 ms a port sends HELLO. -/
  | helloTransmit (port : Fin 4)
  /-- HELLO_RECEIVED (R321). A HELLO records the neighbour and enables forwarding, or restarts the link on a
  UID change. -/
  | helloReceived (port : Fin 4) (uid addr nport role epoch blockHi depth : Nat)
  /-- CAIRN_FRAME_RECEIVED (R334). A Cairn frame is delivered locally, forwarded down or up, or dropped. -/
  | cairnFrameReceived (port : Fin 4) (rx : RxInfo) (c : Cairn)
  /-- ENUM_CLEAR (R329). A CLEAR of a new epoch resets the address and port roles and is flooded on. -/
  | enumClear (port : Fin 4) (epoch : Nat)
  /-- ENUM_CLEAR_WAIT (R329). The root's 2 ms wait after CLEAR ends and depth-first exploration starts. -/
  | enumClearWait
  /-- ENUM_ASSIGN (R329). An ASSIGN gives the module its address and UP port, and it explores its own ports.
  -/
  | enumAssign (port : Fin 4) (src epoch addr depth topo : Nat)
  /-- ENUM_BUSY (R330). A BUSY from a child keeps its exploration alive. -/
  | enumBusy (port : Fin 4) (epoch : Nat)
  /-- ENUM_DONE (R329). A DONE gives the highest address of the child's subtree and the port becomes DOWN.
  -/
  | enumDone (port : Fin 4) (epoch hi : Nat) (trunc : Bool)
  /-- ENUM_ASSIGN_TIMEOUT (R330). A neighbour silent for 1 ms after ASSIGN or BUSY makes the port UNUSED. -/
  | enumAssignTimeout (port : Fin 4)
  /-- ENUM_REPORT (R332). The root receives a module's REPORT entry. -/
  | enumReport (epoch : Nat) (e : TopoEntry)
  /-- ENUM_COMPLETE (R329). A COMPLETE frame gives COUNT, the depths and the ring list. -/
  | enumComplete (epoch count first : Nat) (depths : List Nat) (ring : List (Nat × Nat))
  /-- WRAP_RECEIVED (R336). A ring module adopts a new cut, forwards the WRAP and recomputes its routes. -/
  | wrapReceived (port : Fin 4) (epoch a b : Nat)
  /-- REMOTE_REQUEST (R341). The target receives a REMOTE REQUEST, acknowledges it and admits it once
  through MB0. -/
  | remoteRequest (src reqId rspLen tc : Nat) (body data : List Nat)
  /-- REMOTE_ACK (R341). The originator receives the ACK of its request. -/
  | remoteAck (src reqId : Nat)
  /-- REMOTE_RESPONSE (R341). The originator receives the RESPONSE, writes it out and posts the REMOTE
  completion. -/
  | remoteResponse (src reqId tc : Nat) (body data : List Nat)
  /-- REMOTE_RESPONSE_ACK (R341). The target receives the ACK of its response. -/
  | remoteResponseAck (src reqId : Nat)
  /-- REMOTE_ACK_TIMEOUT (R341). No ACK within ACK_TO resends the request or response, up to 3 times, then
  times out. -/
  | remoteAckTimeout (response : Bool) (peer reqId : Nat)
  /-- REMOTE_EXEC_TIMEOUT (R339). No response within EXEC_TO completes REMOTE with REMOTE_TIMEOUT. -/
  | remoteExecTimeout (dst reqId : Nat)
  /-- FAULT_NOTICE_RECEIVED (R452). A received FAULT_NOTICE is logged as source 0x34 with REMOTE set. -/
  | faultNoticeReceived (src cls source react : Nat)
  /-- FW_BULK_DATA (R480). The target receives image bytes of a remote staging. -/
  | fwBulkData (src kind xferId total offset : Nat) (data : List Nat)
  /-- FW_BULK_STATUS (R480). The originator receives ACKED and resumes sending from there. -/
  | fwBulkStatus (src xferId acked : Nat)
  /-- FW_BULK_DONE (R480). The originator receives the staging status of the target. -/
  | fwBulkDone (src xferId status : Nat)
  /-- FW_BULK_TIMEOUT (R480). No STATUS or DONE within 10 ms resends, and after 3 attempts or 30 s the
  staging times out. `late` says that it is the 30 s. -/
  | fwBulkTimeout (late : Bool)
  /-- PRBS_CFG_WRITE (R323). Writing GEN or CHK selects or ends a test pattern, or is refused with PRBS_REJ
  set. -/
  | prbsCfgWrite (port : Fin 4) (gen chk : Fin 8)
  /-- INJ_ONE_WRITE (R324). Inverts one pattern bit, or the sync header of the next block. -/
  | injOneWrite (port : Fin 4)
  /-- INJ_FCS_WRITE (R324). Inverts the FCS of the next Cairn frame sent. -/
  | injFcsWrite (port : Fin 4)
  /-- TRANSMISSION_SELECT (R354). An idle port sends the head frame of the highest qualifying class, or
  idle. -/
  | transmissionSelect (port : Fin 4) (t : Nat)
  /-- GATE_CHANGE (R348). A gate-control-list entry interval ends and the next gate state takes over. -/
  | gateChange (port : Fin 4) (t : Nat)
  /-- GCL_COMMIT_WRITE (R350). Setting COMMIT checks the administrative list and schedules its switch or
  sets REJECT. -/
  | gclCommitWrite (port : Fin 4) (sub : Fin 1024)
  /-- GCL_SWITCH (R350). At the switch instant the accepted list becomes operational. -/
  | gclSwitch (port : Fin 4) (t : Nat)
  /-- CHS_COUNTER_CLEAR_WRITE (R345). Writing CLR clears QDROP, OVERSIZE and ABORT of the port. -/
  | chsCounterClearWrite (port : Fin 4)
  /-- QUEUE_SAMPLE (R361). At each multiple of 2^K ns, every port writes a sample-ring entry. -/
  | queueSample (t : Nat)
  /-- FAULT_DETECTED (R434). A checker reports a fault; it is logged and its reactions are applied. -/
  | faultDetected (new : List FaultRep) (fired : List Nat) (ctx : Option (Nat × Nat)) (lost : List (Nat × Nat))
  /-- FAULT_COLLECTOR_DISAGREE (R436). Disagreement of the fault collector's two copies asserts ERR_N and
  leads to DRST within 10 µs. -/
  | faultCollectorDisagree (logWritable : Bool)
  /-- ERR_ACK_WRITE (R443). Writing ACK clears the ERRPIN latch only if the first cause has been read and
  nothing new has been logged. -/
  | errAckWrite
  /-- FAULT_INJECT_ARM_WRITE (R453). Setting ARM in FLT_INJ arms a check-bit injection. -/
  | faultInjectArmWrite
  /-- HOUSEKEEPING_ROUND (R454). Every 10 ms all sensors and supplies are read, thresholds evaluated and
  VACT_MEAS and P_THERM updated. -/
  | housekeepingRound (temps : List SensRead) (supplies : List Nat) (iact deaf : Nat)
  /-- SAFETY_SAMPLE (R405). Every 100 µs each Firebreak channel samples its inputs, evaluates every function
  and exchanges results. -/
  | safetySample (inputs : Nat) (copyBad : Bool)
  /-- TEST_PULSE (R408). TP0 or TP1 pulses low for 300 µs and the blanked inputs are checked for stuck-high
  and cross-shorts. -/
  | testPulse (tp : Fin 2) (stuck crossed : Nat) (driver : Bool)
  /-- INPUT_DISCREPANCY (R409). The partner input not going low within DISC is a discrepancy fault. -/
  | inputDiscrepancy (p : Fin 4)
  /-- EDM_TIMEOUT (R416). The expected EDM state not reached within EDM_T, or lost later, is a fault. -/
  | edmTimeout (p : Fin 4)
  /-- OUTPUT_SWITCH_TEST (R413). Each second, each switch of an on output is opened alone for at most 200 µs
  and read back. -/
  | outputSwitchTest (n : Fin 4) (low pass : Bool)
  /-- STATIC_CHECK (R413). Every 10 ms the nodes of an off output are checked to read open. -/
  | staticCheck (n : Fin 4) (pass : Bool)
  /-- OUTPUT_OVERCURRENT (R410). A safety output above its current limit for 1 ms is a fault. -/
  | outputOvercurrent (n : Fin 4)
  /-- OUTPUT_RESTART (R412). An AUTO output restarts once its sources have been healthy for 20 ms. -/
  | outputRestart (n : Fin 4)
  /-- OSCILLATOR_FAULT (R405). An oscillator difference above ±3 % held for 10 ms is a fault. -/
  | oscillatorFault (ch : Fin 2)
  /-- CHANNEL_DISAGREEMENT (R424). The two channels differing for more than 1.0 ms is a fault. -/
  | channelDisagreement (ch : Fin 2)
  /-- FBRST_N_PULSE (R425). A 50–500 ms low on FBRST_N retests Firebreak and sets RESET_PEND on success. -/
  | fbrstNPulse (ms : Nat) (fail : Option (Nat × Nat))
  /-- RESET_PEND_TIMEOUT (R425). RESET_PEND clears after 60 s without an ACK. -/
  | resetPendTimeout
  /-- SESSION_TIMEOUT (R427). 300 s without a safety command ends the session without commit. -/
  | sessionTimeout
  /-- FIREBREAK_LINK_LOSS (R414). Loss of the Crown link makes every open-port flag not available and ends
  any session. -/
  | firebreakLinkLoss
  /-- APR_FLAG_CHANGE (R415). A counted open-port flag turns off the APR outputs and may request darkening.
  -/
  | aprFlagChange
  /-- DARKENING_START (R418). At a frame boundary the Understory jumps each darkened gate to GATE_DARK and
  holds it there. -/
  | darkeningStart
  /-- DARKENING_RELEASE (R420). When the last source ends, each gate jumps back to its last written drive.
  -/
  | darkeningRelease (n : Fin 4)
  /-- SAFETY_LOG_FLUSH (R432). Held log entries are written to flash in order when the link and flash
  return. -/
  | safetyLogFlush
  /-- DOE_DISCOVERY (R477). The DOE mailbox answers a discovery request. -/
  | doeDiscovery (index : Nat)
  /-- SPDM_GET_VERSION (R477). Returns SPDM version 1.2. -/
  | spdmGetVersion (len : Nat)
  /-- SPDM_GET_CAPABILITIES (R477). Returns the supported SPDM capabilities. -/
  | spdmGetCapabilities (len : Nat)
  /-- SPDM_NEGOTIATE_ALGORITHMS (R477). Negotiates P-384 and SHA-384, or answers ERROR. -/
  | spdmNegotiateAlgorithms (len : Nat) (dmtf p384 sha384 : Bool)
  /-- SPDM_GET_DIGESTS (R477). Returns the digest of certificate slot 0. -/
  | spdmGetDigests (len : Nat)
  /-- SPDM_GET_CERTIFICATE (R477). Returns a portion of the slot-0 certificate chain. -/
  | spdmGetCertificate (len slot offset length : Nat)
  /-- SPDM_CHALLENGE (R477). Signs a challenge with the device key. -/
  | spdmChallenge (len slot : Nat) (nonce : List Nat)
  /-- SPDM_GET_MEASUREMENTS (R477). Returns signed measurement digests of indices 1 to 8. -/
  | spdmGetMeasurements (len index : Nat) (signed : Bool) (nonce : List Nat)
  /-- SPDM_UNSUPPORTED_REQUEST (R477). Any other SPDM request is answered with ERROR UnsupportedRequest. -/
  | spdmUnsupportedRequest (len : Nat)
  /-- JTAG_INSTRUCTION_LOAD (R482). Loading EXTEST, CLAMP or HIGHZ extends M7, or acts as BYPASS under
  JTAG_LOCK. -/
  | jtagInstructionLoad (code : Fin 6)
  /-- FUSE_PROG_WRITE (R474). Writing a fuse code burns SIG_ENF or JTAG_LOCK, or sets PROG_FAIL. -/
  | fuseProgWrite (code : Nat) (ok : Bool)
  /-- PRBS_CHECKER_LOCK (R322). The test-pattern checker locks after 64 consecutive error-free received bits
  and from then on counts every bit error into ERR. -/
  | prbsCheckerLock (port : Fin 4) (errors : Nat)
  /-- BRST_END (R270). A block reset ends; a Stand that the BRST put offline returns on its own if
  AUTO_RETURN is 1, and during activation the shadow leaves BRST with the new kernel loaded. -/
  | brstEnd (st : Fin 2)
  /-- FORESTER_RESTART_COMPLETE (R286). Forester has restarted from the staged bank during activation, so
  step 6 begins: the bank is marked active, the measurements are extended and FW_ACTIVATE completes. -/
  | foresterRestartComplete (fuseOk : Bool)
  /-- FLASH_WRITE_COMPLETE (R226). A flash write ends with success; an accepted calibration record is then
  applied, a fault-log copy is marked PERSISTED, and transfer calibration starts after system calibration.
  -/
  | flashWriteComplete (op : FlashOp)
  /-- PERST_N_RELEASE (R471). PERST_N rises and the endpoint starts PCIe link training within 20 ms. -/
  | perstNRelease
  /-- BUS_MASTER_ENABLE_CHANGE (R366). Bus Master Enable of a function is set or cleared, or the function
  enters or leaves D3hot, which stops or resumes its mailbox's use of host memory. -/
  | busMasterEnableChange (fn : Fin 8) (enable d3hot : Bool)
  /-- FIREBREAK_LINK_RETURN (R414). The Firebreak–Crown link comes back up; the open-port flags stop reading
  not available, the registers become readable again and a link change is reported. -/
  | firebreakLinkReturn
  deriving DecidableEq, Repr

end Sys2Proof
end

