-- ==== Sys2Proof/Machine/Bits.lean ====
section
/-! DEFINITION. Bit fields, byte orders and two's complement: bytes stand least significant first in host memory, most
significant first in chain frames (R6). -/

namespace Sys2Proof

/-- The field of `w` bits at bit `lo` of the word `v`. -/
def bitField (v lo w : Nat) : Nat := (v >>> lo) % 2 ^ w

/-- The word `v` with its field of `w` bits at bit `lo` set to `x`. -/
def withField (v lo w x : Nat) : Nat := v - bitField v lo w * 2 ^ lo + (x % 2 ^ w) * 2 ^ lo

/-- The `n` least significant bytes of `v`, least significant first (R6: memory, host rings and stored files). -/
def leBytes : Nat → Nat → List Nat
  | 0, _ => []
  | n + 1, v => v % 256 :: leBytes n (v / 256)

/-- The `n` least significant bytes of `v`, most significant first (R6: chain frames). -/
def beBytes (n v : Nat) : List Nat := (leBytes n v).reverse

/-- The number that a list of bytes spells, least significant first. -/
def leNat : List Nat → Nat
  | [] => 0
  | b :: r => b % 256 + 256 * leNat r

/-- A word of `w` bits read as a two's complement number. -/
def signed (w v : Nat) : Int := if 2 ^ (w - 1) ≤ v % 2 ^ w then ((v % 2 ^ w : Nat) : Int) - 2 ^ w else (v % 2 ^ w : Nat)

/-- The two's complement word of `w` bits of an integer. -/
def unsigned (w : Nat) (i : Int) : Nat := (i % 2 ^ w).toNat

/-- A bit mask of the list of bit numbers. -/
def maskOf (l : List Nat) : Nat := l.foldl (fun a b => a ||| 2 ^ b) 0

/-- The numbers of the bits set among the low `w` bits of `v`, ascending. -/
def bitsSet (w v : Nat) : List Nat := (List.range w).filter (fun i => v.testBit i)

end Sys2Proof
end

