-- ==== Sys2Proof/Machine/Fid.lean ====
section
/-! DEFINITION. The names of the register fields: one constructor for each field of each register table of the
spec (its files 02 to 17), reserved fields apart. -/

namespace Sys2Proof.Machine

/-- A register field, named by its register and its field in lower case (R9 and the register tables). -/
inductive Fid where
  | glb_emap_status_loaded | glb_emap_status_source | glb_emap_status_staged_valid | glb_emap_status_check_fail
  | glb_emap_status_fail_index | glb_emap_status_fail_table | glb_emap_serial_map_serial | ust_mon_cfg_range
  | ust_mon_cfg_range_pend | ust_mon_cfg_cmp_persist | ust_mon_cfg_cmp_hyst | ust_mon_cfg_subst | ust_mon_cfg_failed
  | ust_mon_cfg_cmp_low | ust_mon_cfg_cmp_high | ust_mon_cmp_low_na | ust_mon_cmp_high_na | ust_pw_cfg_len
  | ust_pw_cfg_mode | ust_pw_cfg_src | ust_pw_cfg_pwq | ust_pw_cfg_pw_go | ust_pw_status_running
  | ust_pw_status_queued | ust_pw_status_reload | ust_pw_status_ovr_cnt | ust_pw_status_overrun | ust_mon_result_word
  | cal_rot_ctrl_en | cal_syscal_status_step | cal_syscal_status_active | cal_syscal_status_fail_group
  | cal_syscal_status_fail_range | cal_syscal_status_fail_check | cal_grp_status_pos | cal_grp_status_failed_slice
  | cal_grp_status_stale | cal_grp_status_stopped | cal_grp_status_waiting | cal_grp_status_rej_cnt
  | cal_grp_status_rot_cnt | ust_vdac_cfg_range | ust_vdac_cfg_pamp | ust_vdac_status_code
  | ust_vdac_status_range_act | ust_vdac_status_rchg | ust_vdac_status_clamp | ust_vdac_status_oc
  | ust_vdac_status_play | ust_vdac_status_prof | ust_vclr_code | ust_vdac_ctrl_dgl_thr | ust_vdac_ctrl_cleared
  | ust_vdac_ctrl_clrn | ust_vdac_ctrl_gtrip | ust_vdac_ctrl_gtrip_grp | ust_vdac_ctrl_gtrip_cnt | ust_profile_count
  | ust_profile_flags | ust_profile_t2 | ust_profile_t3 | ust_profile_t4 | ust_profile_a1 | ust_profile_a2
  | ust_profile_a3 | ust_hpwm_cfg_per | ust_hpwm_cfg_dead | ust_hpwm_cfg_minp | ust_hpwm_mode_stag
  | ust_hpwm_mode_mpf | ust_hpwm_mode_src | ust_hpwm_mode_auto | ust_hpwm_mode_pcommit | ust_hpwm_mode_pamp
  | ust_hpwm_shper_per_sh | ust_hpwm_shcmp_a_sh | ust_hpwm_shcmp_b_sh | ust_hpwm_status_per_act | ust_hpwm_status_hiz
  | ust_hpwm_status_oc | ust_hpwm_status_leak | ust_hpwm_status_capped | ust_hpwm_status_padj
  | ust_hpwm_status_clamped | ust_hpwm_status_pilot_blk | ust_hpwm_status_ion | ust_hpwm_act_a_act
  | ust_hpwm_act_b_act | ust_htrip_cmp_en | ust_htrip_fb_en | ust_htrip_therm_en | ust_htrip_sup_en
  | ust_htrip_swtrip | ust_htrip_trip | ust_htrip_cause | ust_htrip_input | ust_htrip_refused | glb_hcap_cap_prog
  | glb_hcap_status_cap_act | glb_hcap_status_limit | glb_hcap_load_p_cmd | glb_hcap_load_scale | stx_cpt_cfg_psel
  | stx_cpt_cfg_wsel | stx_cpt_cfg_pend | stx_cpt_cnt_cnt_lo | stx_cpt_cnt_cnt_hi | stx_cpt_status_ovr_cnt
  | stx_cpt_status_ovr | stx_coef_ctrl_commit | stx_coef_ctrl_bank | stx_coef_ctrl_reject | stx_coef_ctrl_swap_cnt
  | stx_coef_kp | stx_coef_ki | stx_coef_ilim | stx_coef_eps_max | stx_coef_act_kp | stx_coef_act_ki
  | stx_coef_act_ilim | stx_coef_act_eps_max | stx_elem_idx_elem | stx_elem_state_state | stx_elem_state_tgt
  | stx_elem_state_sat_hi | stx_elem_state_sat_lo | stx_elem_state_gap | stx_elem_state_pilot_on
  | stx_elem_state_coef_set | stx_elem_state_nv | stx_elem_drive_drive | stx_elem_integ_integ | stx_elem_eps_eps
  | stx_elem_cfg_coef_set | stx_elem_cfg_sigma_sp | stx_sup_cfg_sus_n | stx_sup_cfg_qlim | stx_sup_cfg_light_min
  | stx_sup_lim_rlim | stx_sup_lim_dlim | stx_sup_status_sus_cnt | stx_sup_status_last_elem | stx_sup_status_new
  | stx_tff_cfg_en | stx_tff_cfg_sensor | stx_tff_cfg_te_slew | stx_tff_status_t_pd | stx_tff_status_tfroz
  | stx_elem_sup_cnt | stx_elem_sup_checks | stx_elem_sup_dark | stx_elem_sup_excused | stx_elem_uopt_uopt
  | stx_out_cfg_en | stx_out_cfg_side | stx_out_cfg_div | stx_out_cfg_ko | stx_out_tgt_target | stx_out_tgt_sp_max
  | stx_out_ref_i_ref | stx_out_status_level | stx_out_status_held | stx_out_status_dark | stx_out_status_sat
  | cal_ecal_ctrl_cal_par | cal_ecal_ctrl_active | cal_ecal_ctrl_rej_cnt | cal_ecal_sched_interval
  | cal_ecal_sched_overdue | trv_chain_hopdly | trv_chain_report_to | trv_boot_slot | trv_boot_en | trv_boot_used
  | trv_qstatus_qdepth | trv_qstatus_solving | trv_qstatus_swait | trv_qstatus_next_seq | trv_inforce_slot
  | trv_inforce_inline | trv_inforce_idle | trv_inforce_circuits | trv_last_clr_id | trv_last_res_moved
  | trv_last_res_state | trv_solve_cnt_solves | trv_solve_cnt_hits | trv_fail_blocked | trv_fail_cancelled
  | trv_fail_new | glb_baton_cfg_mode | glb_baton_cfg_ext_en | glb_baton_cfg_auto_return | glb_baton_status_holder
  | glb_baton_status_frozen | glb_baton_status_ilk_a | glb_baton_status_ilk_b | glb_baton_status_last_cause
  | glb_baton_status_handovers | glb_baton_status_ign_cnt | glb_baton_status_stale_drop | glb_baton_status_new
  | glb_cpt_svc_fenced | glb_cpt_svc_by_fault | glb_cpt_svc_in_crst | glb_cpt_svc_rejoining | glb_cpt_svc_fence_cnt
  | glb_cpt_svc_crst_cnt | stx_stand_status_state | stx_stand_status_mismatch | stx_stand_status_diag
  | stx_sync_sync_cnt | dtm_ctrl_p_dom | dtm_ctrl_auto_s | dtm_ctrl_src0 | dtm_ctrl_port0 | dtm_ctrl_src1
  | dtm_ctrl_port1 | dtm_ctrl_servo_bw | dtm_ctrl_pps_gate | dtm_ctrl_restep | dtm_status_p_state
  | dtm_status_s_state | dtm_status_p_dom_act | dtm_status_step_pend | dtm_status_big_ofs | dtm_status_tod_set
  | dtm_status_step_cnt | dtm_status_sel_cnt | dtm_limits_lock_thr | dtm_limits_slew_max | dtm_limits_sw_limit
  | dtm_step_limit_step_limit | dtm_time_subns | dtm_time_ns | dtm_time_sec | dtm_frame_f | dtm_rate_rho
  | dtm_offset_offset_p | dtm_offset_offset_s | dtm_event_event | dtm_event_event_en | dtm_port_cfg_one_step
  | dtm_port_cfg_log_sync | dtm_port_cfg_pd_exp | dtm_port_cfg_role0 | dtm_port_cfg_role1 | dtm_port_cfg_discard
  | dtm_asym_asym_in | dtm_asym_asym_eg | dtm_linkdly_link_dly | dtm_tsq_status_fill | dtm_tsq_status_ovf_cnt
  | dtm_tsq_status_ovf | dtm_tsq_pop_seq_id | dtm_tsq_pop_msg_type | dtm_tsq_pop_domain | dtm_tsq_pop_valid
  | dtm_tsq_pop_time | dtm_pps_cfg_out_ofs | dtm_pps_cfg_width | dtm_pps_in_dly_dly | dtm_trig_cfg_mode
  | dtm_trig_cfg_edge | dtm_trig_cfg_late | dtm_trig_cfg_fill | dtm_trig_cfg_ovf_cnt | dtm_trig_cfg_ovf
  | dtm_trig_start_subns | dtm_trig_start_ns | dtm_trig_start_sec | dtm_trig_pw_period | dtm_trig_pw_width
  | dtm_trig_ts_pol | dtm_trig_ts_valid | dtm_trig_ts_time | chp_cfg_en | chp_cfg_fec | chp_cfg_tx_pre
  | chp_cfg_tx_post | chp_cfg_tx_amp | chp_cfg_rx_freeze | chp_cfg_link_hold | chp_status_block_lock
  | chp_status_hi_ber | chp_status_lf | chp_status_rf | chp_status_fec_align | chp_status_link_up
  | chp_status_hello_ok | chp_status_role | chp_status_link_dn_cnt | chp_neigh_uid_uid | chp_neigh_addr
  | chp_neigh_port | chp_range_lo | chp_range_hi | chp_err_cnt_fcs | chp_err_cnt_hcrc | chp_drop_cnt_dest
  | chp_drop_cnt_other | chp_fec_cnt_corr | chp_fec_cnt_uncorr | chp_prbs_cfg_gen | chp_prbs_cfg_chk
  | chp_prbs_cfg_inv | chp_prbs_cfg_inj_one | chp_prbs_cfg_inj_rate | chp_prbs_cfg_inj_fcs | chp_prbs_cfg_prbs_rej
  | chp_prbs_status_lock | chp_prbs_status_err | chp_event_event | chp_event_event_en | chp_fab_addr | chp_fab_root
  | chp_fab_topo | chp_fab_state | chp_fab_ring | chp_fab_trunc | chp_fab_count_count | chp_fab_count_depth
  | chp_uid_uid | chp_ring_cut_a | chp_ring_cut_b | chp_ring_status_size | chp_ring_status_cut_down
  | chp_ring_status_wrap_cnt | chp_remote_accept | chp_remote_class_en | chp_remote_to_ack_to | chp_remote_to_exec_to
  | chs_port_cfg_ovh | chs_port_cfg_commit | chs_port_cfg_pend | chs_port_cfg_reject | chs_port_cfg_clr
  | chs_cycle_cycle | chs_phase_phase | chs_change_subns | chs_change_ns | chs_change_sec | chs_oper_cycle_act
  | chs_oper_entry | chs_bound_w6 | chs_bound_d6_0 | chs_abort_abort | chs_gcl_admin_interval | chs_gcl_admin_gates
  | chs_gcl_oper_interval | chs_gcl_oper_gates | chs_cbs_idleslope | chs_cbs_en | chs_cbs_hicredit | chs_cbs_credit
  | chs_qstat_depth | chs_qstat_hol | chs_qstat_qdrop | chs_qstat_oversize | chs_smp_cfg_en | chs_smp_cfg_k
  | chs_smp_cfg_ovw | chs_pol_cfg_en | chs_pol_cfg_mode | chs_pol_cfg_burst | chs_pol_rate_rate
  | chs_pol_status_level | chs_pol_status_held | chs_pol_status_pol_cnt | mbx_ctrl_en | mbx_ctrl_irq_thresh
  | mbx_ctrl_irq_time | mbx_status_rdy | mbx_status_err | mbx_status_db_err | mbx_status_err_cause | mbx_status_held
  | mbx_status_inflight | mbx_sq_base_base | mbx_cq_base_base | mbx_qcfg_sq_log | mbx_qcfg_cq_log | mbx_tags_tag_base
  | mbx_tags_tag_count | mbx_sq_db_sq_tail | mbx_sq_db_sq_head | mbx_cq_db_cq_head | mbx_cq_db_cq_tail
  | mbx_expert_cpt | mbx_expert_device | mbx_expert_blocks | mbx_tr_cons_cons | mbx_tr_status_en
  | mbx_tr_status_ring_err | mbx_tr_status_tr_rej | fbk_status_state | fbk_status_fb_ok | fbk_status_session
  | fbk_status_link | fbk_status_reset_pend | fbk_status_pw_set | fbk_status_out_on | fbk_status_out_wait
  | fbk_status_demand | fbk_status_pair_fault | fbk_status_sources | fbk_fault_cause | fbk_fault_obj
  | fbk_fault_rst_ign | fbk_fault_tp_miss | fbk_event_event | fbk_event_event_en | fbk_pair_cfg_in_mode
  | fbk_pair_cfg_filt | fbk_pair_cfg_edm_out | fbk_pair_cfg_disc | fbk_pair_cfg_edm_t | fbk_out_cfg_out_en
  | fbk_out_cfg_restart | fbk_out_cfg_out_src | fbk_out_cfg_apr_cpt | fbk_src_cfg_dark | fbk_src_cfg_heat
  | fbk_apr_cfg_na_assert | fbk_apr_cfg_apr_dark | fbk_cfg_crc_crc | fbk_log_pending | fbk_log_log_lost
  | fbk_dark_ports_dark | fbk_not_dark_not_dark | flt_status_ce | flt_status_uc | flt_status_ft | flt_status_errn
  | flt_status_lost | flt_err_latch | flt_err_ack | flt_err_force | flt_err_first_src | flt_log_seq_next
  | flt_notice_dst | flt_notice_rx_cnt | flt_inj_checker | flt_inj_bits | flt_inj_mode | flt_inj_arm
  | flt_inj_done_cnt | flt_policy_react | flt_policy_mand | flt_policy_perm | flt_policy_class | hkp_status_round
  | hkp_status_warn | hkp_status_limit | hkp_status_broken | hkp_status_sup_out | hkp_status_throttle
  | hkp_status_first_done | hkp_thr_cfg_gain | hkp_thr_status_p_therm | hkp_thr_status_worst | hkp_thr_excess_excess
  | hkp_event_event | hkp_event_event_en | hkp_sns_lim_warn | hkp_sns_lim_limit | hkp_sns_cfg_thr
  | hkp_sns_cfg_rate_max | hkp_sns_cfg_hyst | hkp_sns_cfg_thr_en | hkp_sns_cfg_brk_pol | hkp_sns_cfg_cpt
  | hkp_sns_mean_mean | hkp_sns_status_t | hkp_sns_status_rate | hkp_sns_status_warn | hkp_sns_status_limit
  | hkp_sns_status_rise | hkp_sns_status_broken | hkp_sns_status_absent | hkp_sup_win_lo | hkp_sup_win_hi
  | hkp_sup_status_v | hkp_sup_status_out | hkp_sup_status_out_cnt | hkp_iact_i | hkp_flash_inhibit
  | hkp_flash_refused | glb_reset_key | boot_status_bank | boot_status_fallback | boot_status_sig_ok
  | boot_status_recovery | boot_status_staged_fw | boot_status_staging | boot_status_activating | boot_status_boots
  | boot_fw_ver_version | boot_staged_ver_version | boot_fuse_sig_enf | boot_fuse_jtag_lock | boot_fuse_revoke
  | boot_fuse_svn_fuse | boot_fuse_prog_code | boot_fuse_prog_prog_fail
  deriving DecidableEq, Repr

end Sys2Proof.Machine
end

