-- ==== Sys2Proof/Config.lean ====
section
/-! DEFINITION. What one module fixes and the manual leaves to it, and the free values (opaque: nothing can evaluate
them). -/

namespace Sys2Proof.Config

/-! ## Values of one module that no rule gives -/

/-- The 64 bits of the module UID that its fuses hold (R325). -/
opaque uidBits : BitVec 64

/-- The module UID as a number. -/
def uid : Nat := uidBits.toNat

/-- SHA-384 of a byte string, as a number of 384 bits (R64, R476): the algorithm is outside the manual. -/
opaque sha384 : List Nat → Nat

/-- Whether an image's signature verifies under a key index (R474): the algorithm is outside the manual. -/
opaque sigVerifies : List Nat → Nat → Bool

/-- The signature of the device key over a message (R477). -/
opaque deviceSign : List Nat → Nat

/-- The certificate chain of slot 0 (R477), its bytes. -/
opaque certChain : List Nat

/-- The password digest that Firebreak stores, of a salt and the password's bytes (R426): the algorithm is outside the
manual. -/
opaque passwordDigest : Nat → List Nat → Nat

/-- CFG_CRC of a Firebreak configuration, its parameters in the order of R429 (R431): the manual gives no byte layout. -/
opaque fbkCfgCrc : List Nat → Nat

/-- A free value of the machine: the value that the manual does not state, drawn by number (State.free). -/
opaque freeValue : Nat → Nat

/-- The temperature of a diode in 0.01 °C, of its forward voltages at 10 µA and 100 µA in µV and its IDEALITY (R457): the manual
names the method and gives no formula. -/
opaque diodeTemp : Nat → Nat → Nat → Int

/-! ## The servo (R302, R306): its laws have no numbers in the manual -/

/-- The servo's next rate estimate in 2^-48, of its bandwidth in 0.25 Hz, the estimate before, the offsets before and now in
2^-16 ns and the time between them. -/
opaque servoLaw : Nat → Int → Int → Int → Nat → Int

/-- The rate of Datum S relative to the module's clock in 2^-48, of the rate before, the offsets before and now and the time
between them. -/
opaque rateLaw : Int → Int → Int → Nat → Int

/-! ## Sines, to more places than any rule states

The sums of R172, R174 and R219 use sines, pi, a magnitude and an angle and state no precision for them. The model works them out
in fixed point of 96 fractional bits (DESIGN CHOICE). -/

/-- One in the fixed point of the sines. -/
def fixOne : Int := 2 ^ 96

/-- The number pi to 39 places. -/
def piVal : Rat := 3141592653589793238462643383279502884197 / 10 ^ 39

/-- The sine of an angle in radians of at most a quarter turn, both in fixed point: the series to its 31st power. -/
def sinFix (x : Int) : Int :=
  let y := x * x / fixOne
  let h := [15, 14, 13, 12, 11, 10, 9, 8, 7, 6, 5, 4, 3, 2, 1].foldl (fun (acc : Int) (k : Nat) =>
    fixOne - y * acc / fixOne / ((2 * k * (2 * k + 1) : Nat) : Int)) fixOne
  min fixOne (x * h / fixOne)

/-- The sine of a part of a quarter turn. -/
def sinQuarter (t : Rat) : Rat := ((sinFix (2 * piVal * t * fixOne).floor : Int) : Rat) / fixOne

/-- The sine of a number of turns (R134, R172, R174). -/
def sinTurn (t : Rat) : Rat :=
  let f : Rat := t - t.floor
  if f ≤ 1 / 4 then sinQuarter f
  else if f ≤ 1 / 2 then sinQuarter (1 / 2 - f)
  else if f ≤ 3 / 4 then -sinQuarter (f - 1 / 2)
  else -sinQuarter (1 - f)

/-- The magnitude of a vector of two components (R219). -/
def magnitude (y q : Rat) : Rat :=
  let r := y * y + q * q
  if q = 0 then |y| else if y = 0 then |q|
  else (Nat.sqrt (r.num.toNat * r.den * 2 ^ 192) : Rat) / ((r.den * 2 ^ 96 : Nat) : Rat)

/-- Whether the angle of a vector of the first quadrant is above an angle in turns. -/
def above (u v t : Rat) : Bool := decide (u * sinTurn t < v * sinTurn (1 / 4 - t))

/-- The angle of a vector of the first quadrant in 2π/65,536, to the nearest: 15 bits, the highest first. -/
def angleQuarter (u v : Rat) : Nat :=
  [14, 13, 12, 11, 10, 9, 8, 7, 6, 5, 4, 3, 2, 1, 0].foldl (fun (n : Nat) (b : Nat) =>
    let m : Nat := n + 2 ^ b
    if m ≤ 16384 && above u v (((2 * m - 1 : Nat) : Rat) / 131072) then m else n) 0

/-- The angle of the vector (u, v) in 2π/65,536, below 65,536 (R219). -/
def angle (u v : Rat) : Nat :=
  (if 0 ≤ u then (if 0 ≤ v then angleQuarter u v else 49152 + angleQuarter (-v) u)
   else if 0 ≤ v then 16384 + angleQuarter v (-u)
   else 32768 + angleQuarter (-u) (-v)) % 65536

/-! ## The shared sine table (R131) -/

/-- Point i of the table, for i from 0 to 1,024: the sine of i / 1,024 of a quarter turn as a number of 18 bits, nearest (DESIGN
CHOICE: the points start at 0 and full scale is 2^18 − 1; R131 gives the number of points and of bits). -/
def sinePoint (i : Nat) : Nat := (sinQuarter ((i : Rat) / 4096) * (2 ^ 18 - 1) + 1 / 2).floor.toNat

/-- The table read at a part of its quarter wave in points, linear between them (R131), as a part of full scale. -/
def sineRead (x : Rat) : Rat :=
  let i := x.floor.toNat
  let a : Rat := sinePoint i
  (a + (x - i) * ((sinePoint (i + 1) : Rat) - a)) / (2 ^ 18 - 1)

/-- The sine that a pilot generator forms at a value of its phase accumulator, which counts modulo 256,000 (R131, R134). -/
def sineWave (phase : Nat) : Rat :=
  let p := phase % 256000
  let x (n : Nat) : Rat := (n : Rat) * 1024 / 64000
  if p ≤ 64000 then sineRead (x p)
  else if p ≤ 128000 then sineRead (x (128000 - p))
  else if p ≤ 192000 then -sineRead (x (p - 128000))
  else -sineRead (x (256000 - p))

end Sys2Proof.Config
end

