-- ==== Sys2Proof/Machine/Tables.lean ====
section
/-! DEFINITION. The fixed tables of the manual that are not state (R433, R435, R438, R464, R465). -/

namespace Sys2Proof.Config

/-! ## The fault source table of R435 -/

/-- One row of R435: the class code of R433 (0 where it varies by occurrence, R438), the default reaction set and the
mandatory set, as bit sets of R437. -/
structure FaultRow where
  src : Nat
  cls : Nat
  dflt : Nat
  mand : Nat
  deriving DecidableEq, Repr

/-- R435, first half. -/
def faultTable0 : List FaultRow := [
  ⟨0x01, 1, 0x00, 0⟩, ⟨0x02, 2, 0x01, 0⟩, ⟨0x03, 1, 0x00, 0⟩, ⟨0x04, 2, 0x01, 0⟩, ⟨0x05, 2, 0x21, 0⟩,
  ⟨0x06, 2, 0x01, 0⟩, ⟨0x07, 1, 0x00, 0⟩, ⟨0x08, 2, 0x01, 0⟩, ⟨0x09, 2, 0x01, 0⟩, ⟨0x0A, 2, 0x01, 0⟩,
  ⟨0x0B, 2, 0x21, 0⟩, ⟨0x0C, 2, 0x21, 0⟩, ⟨0x0D, 1, 0x00, 0⟩, ⟨0x0E, 3, 0x23, 0x02⟩, ⟨0x0F, 2, 0x21, 0⟩,
  ⟨0x10, 2, 0x29, 0x08⟩, ⟨0x11, 2, 0x09, 0⟩, ⟨0x12, 1, 0x00, 0⟩, ⟨0x13, 1, 0x01, 0⟩, ⟨0x14, 2, 0x01, 0⟩,
  ⟨0x15, 1, 0x00, 0⟩, ⟨0x16, 2, 0x01, 0⟩, ⟨0x17, 2, 0x21, 0⟩, ⟨0x18, 2, 0x01, 0⟩, ⟨0x19, 2, 0x21, 0⟩,
  ⟨0x1A, 1, 0x01, 0⟩, ⟨0x1B, 2, 0x01, 0⟩, ⟨0x1C, 1, 0x01, 0⟩, ⟨0x1D, 1, 0x01, 0⟩]

/-- R435, second half. -/
def faultTable1 : List FaultRow := [
  ⟨0x20, 1, 0x00, 0⟩, ⟨0x21, 2, 0x05, 0x04⟩, ⟨0x28, 1, 0x01, 0⟩, ⟨0x29, 1, 0x00, 0⟩, ⟨0x2A, 1, 0x00, 0⟩,
  ⟨0x30, 1, 0x01, 0⟩, ⟨0x31, 1, 0x01, 0⟩, ⟨0x32, 2, 0x21, 0⟩, ⟨0x33, 1, 0x00, 0⟩, ⟨0x34, 0, 0x01, 0⟩,
  ⟨0x38, 2, 0x01, 0⟩, ⟨0x39, 1, 0x00, 0⟩, ⟨0x3A, 0, 0x01, 0⟩, ⟨0x40, 1, 0x00, 0⟩, ⟨0x41, 3, 0x32, 0x10⟩,
  ⟨0x42, 2, 0x01, 0⟩, ⟨0x43, 3, 0x30, 0x30⟩, ⟨0x48, 2, 0x21, 0⟩, ⟨0x49, 2, 0x21, 0⟩, ⟨0x50, 1, 0x01, 0⟩,
  ⟨0x51, 2, 0x21, 0⟩, ⟨0x52, 1, 0x01, 0⟩, ⟨0x53, 2, 0x21, 0⟩]

/-- The row of a fault source (R435); none for an unassigned code. -/
def faultRow (src : Nat) : Option FaultRow := (faultTable0 ++ faultTable1).find? (fun r => r.src == src)

/-- The default reaction set of a source (R435); 0 for an unassigned code. -/
def defaultReact (src : Nat) : Nat := match faultRow src with | some r => r.dflt | none => 0

/-- The mandatory reactions of a source (R435). -/
def mandReact (src : Nat) : Nat := match faultRow src with | some r => r.mand | none => 0

/-- The class code of a source as FLT_POLICY shows it (R433, R435). -/
def faultClassCode (src : Nat) : Nat := match faultRow src with | some r => r.cls | none => 0

/-- The sources that may carry BRST (R438). -/
def brstPermitted (src : Nat) : Bool :=
  (0x08 ≤ src && src ≤ 0x0C) || src == 0x21 || (0x28 ≤ src && src ≤ 0x2A) || (0x30 ≤ src && src ≤ 0x33)

/-- The reactions that a source may carry (R438): INT, NMI, ERRPIN and NOTICE for every source, BRST, FENCE and DRST for
those of the table; 0 only for an unassigned code. -/
def permReact (src : Nat) : Nat :=
  match faultRow src with
  | none => 0
  | some r =>
    0x63 + (if brstPermitted src then 0x04 else 0) + (if 0x10 ≤ src ∧ src ≤ 0x1B then 0x08 else 0)
      + (if 2 ≤ r.cls ∨ src = 0x34 ∨ src = 0x3A then 0x10 else 0)

/-! ## Housekeeping defaults (R464, R465) -/

/-- WARN of sensor `s` in 0.01 °C (R464). -/
def sensorDefaultWarn (s : Nat) : Nat := if s < 16 then 10000 else 7500

/-- LIMIT of sensor `s` in 0.01 °C (R464). -/
def sensorDefaultLimit (s : Nat) : Nat := if s < 8 then 11000 else if s < 16 then 11500 else 9000

/-- THR of sensor `s` in 0.01 °C (R464). -/
def sensorDefaultThr (s : Nat) : Nat := if s < 8 then 10000 else if s < 16 then 9500 else 6500

/-- RATE_MAX of sensor `s` in 0.1 °C/s (R464). -/
def sensorDefaultRateMax (s : Nat) : Nat := if s < 16 then 100 else 50

/-- THR_EN of sensor `s` (R464). -/
def sensorDefaultThrEn (s : Nat) : Nat := if s < 8 then 0 else 1

/-- CPT of sensor `s` (R456, R464): the bit of its Understory die or quadrant. -/
def sensorDefaultCpt (s : Nat) : Nat := if s < 8 then 0 else if s < 16 then 2 ^ ((s - 8) / 2) else 2 ^ ((s - 16) % 4)

/-- Window LO of supply `k` in mV (R465). -/
def supplyLo (k : Nat) : Nat := [6000, 6000, 728, 825, 1164, 1710, 3135].getD k 0

/-- Window HI of supply `k` in mV (R465). -/
def supplyHi (k : Nat) : Nat := [40000, 40000, 773, 876, 1236, 1890, 3465].getD k 0

end Sys2Proof.Config
end

