-- ==== Sys2Proof/Machine/RegMap.lean ====
section
/-! DEFINITION. The register map: for every register of the spec its BAR0 offset, its width and its fields, and for
every field its width, access type, reset value and the narrowest reset that restores it (R8, R9, R13). Registers of
the Stands that hold configuration stand once for both Stands (R185). -/

namespace Sys2Proof.Machine

/-- Access types of R9. -/
inductive Access where
  | rw | ro | w1c | w1s | wo | rwe | rwp | rws
  deriving DecidableEq, Repr

/-- The reset that a Reset column names (R8, R13); `vsio` is the start of Firebreak (R15). -/
inductive ResetClass where
  | por | drst | crst | hrst | brst | vsio
  deriving DecidableEq, Repr

/-- One dimension of a register array: address stride, number of entries, and what one step adds to the field index. -/
structure Dim where
  stride : Nat
  count : Nat
  mult : Nat
  deriving DecidableEq, Repr

/-- A field of a register: its name, its lowest bit and its width. -/
structure FieldPos where
  fid : Fid
  lo : Nat
  w : Nat
  deriving DecidableEq, Repr

/-- A register or register array at a PF BAR0 offset. -/
structure RegDef where
  base : Nat
  dims : List Dim
  width : Nat
  fields : List FieldPos
  deriving DecidableEq, Repr

/-- The width of a field in bits (the Bits columns). -/
def Fid.width (f : Fid) : Nat :=
  match f with
  | .glb_emap_status_source | .ust_mon_cfg_range | .ust_pw_cfg_mode | .cal_syscal_status_fail_range
  | .cal_syscal_status_fail_check | .glb_hcap_status_limit | .stx_cpt_cfg_psel | .stx_cpt_cfg_wsel
  | .stx_tff_cfg_sensor | .dtm_ctrl_src0 | .dtm_ctrl_port0 | .dtm_ctrl_src1 | .dtm_ctrl_port1
  | .dtm_port_cfg_role0 | .dtm_port_cfg_role1 | .dtm_trig_cfg_edge | .chp_neigh_port | .chp_fab_state
  | .fbk_status_state | .fbk_pair_cfg_in_mode | .fbk_pair_cfg_edm_out | .fbk_apr_cfg_apr_dark | .flt_inj_bits
  | .flt_inj_mode | .flt_policy_class | .hkp_sns_cfg_hyst => 2
  | .glb_emap_status_check_fail | .ust_mon_cfg_cmp_persist | .cal_syscal_status_fail_group
  | .cal_grp_status_rej_cnt | .cal_grp_status_rot_cnt | .ust_vdac_ctrl_gtrip_cnt | .ust_profile_count
  | .ust_profile_flags | .ust_hpwm_cfg_dead | .ust_hpwm_cfg_minp | .ust_hpwm_status_ion | .ust_htrip_refused
  | .stx_coef_ctrl_swap_cnt | .stx_sup_cfg_sus_n | .stx_sup_cfg_qlim | .stx_tff_cfg_te_slew | .stx_elem_sup_cnt
  | .stx_out_cfg_div | .trv_qstatus_swait | .glb_baton_status_handovers | .glb_cpt_svc_fence_cnt
  | .glb_cpt_svc_crst_cnt | .stx_stand_status_mismatch | .stx_sync_sync_cnt | .dtm_status_step_cnt
  | .dtm_status_sel_cnt | .dtm_limits_lock_thr | .dtm_limits_slew_max | .dtm_event_event | .dtm_event_event_en
  | .chp_cfg_link_hold | .chp_event_event | .chp_event_event_en | .chs_port_cfg_ovh | .chs_gcl_admin_gates
  | .chs_gcl_oper_gates | .mbx_ctrl_irq_thresh | .fbk_fault_cause | .fbk_fault_obj | .fbk_fault_rst_ign
  | .fbk_fault_tp_miss | .fbk_event_event | .fbk_event_event_en | .flt_inj_checker | .hkp_event_event
  | .hkp_event_event_en | .hkp_sns_cfg_rate_max | .hkp_sns_status_rate | .hkp_sup_status_out_cnt
  | .glb_reset_key | .boot_status_boots => 8
  | .glb_emap_status_fail_index | .ust_mon_cmp_low_na | .ust_mon_cmp_high_na | .ust_pw_cfg_len
  | .ust_pw_status_ovr_cnt | .ust_profile_t2 | .ust_profile_t3 | .ust_profile_t4 | .ust_profile_a1
  | .ust_profile_a2 | .ust_profile_a3 | .ust_hpwm_cfg_per | .ust_hpwm_shper_per_sh | .ust_hpwm_shcmp_a_sh
  | .ust_hpwm_shcmp_b_sh | .ust_hpwm_status_per_act | .ust_hpwm_act_a_act | .ust_hpwm_act_b_act
  | .glb_hcap_cap_prog | .glb_hcap_status_cap_act | .glb_hcap_load_p_cmd | .glb_hcap_load_scale
  | .stx_cpt_status_ovr_cnt | .stx_coef_kp | .stx_coef_ki | .stx_coef_act_kp | .stx_coef_act_ki
  | .stx_elem_cfg_sigma_sp | .stx_sup_cfg_light_min | .stx_sup_lim_rlim | .stx_sup_lim_dlim
  | .stx_sup_status_sus_cnt | .stx_tff_status_t_pd | .stx_out_cfg_ko | .stx_out_tgt_target
  | .stx_out_tgt_sp_max | .stx_out_status_level | .cal_ecal_sched_interval | .cal_ecal_sched_overdue
  | .trv_chain_hopdly | .trv_chain_report_to | .trv_qstatus_next_seq | .trv_solve_cnt_solves
  | .trv_solve_cnt_hits | .trv_fail_blocked | .dtm_limits_sw_limit | .dtm_time_subns | .dtm_port_cfg_discard
  | .dtm_tsq_status_ovf_cnt | .dtm_tsq_pop_seq_id | .dtm_pps_cfg_out_ofs | .dtm_trig_start_subns
  | .chp_status_link_dn_cnt | .chp_neigh_addr | .chp_range_lo | .chp_range_hi | .chp_err_cnt_fcs
  | .chp_err_cnt_hcrc | .chp_drop_cnt_dest | .chp_drop_cnt_other | .chp_fab_addr | .chp_fab_count_count
  | .chp_fab_count_depth | .chp_ring_cut_a | .chp_ring_cut_b | .chp_ring_status_wrap_cnt | .chp_remote_class_en
  | .chp_remote_to_ack_to | .chp_remote_to_exec_to | .chs_change_subns | .chs_bound_w6 | .chs_bound_d6_0
  | .chs_abort_abort | .chs_cbs_hicredit | .chs_qstat_depth | .chs_qstat_hol | .chs_qstat_qdrop
  | .chs_qstat_oversize | .chs_smp_cfg_ovw | .chs_pol_status_pol_cnt | .mbx_ctrl_irq_time | .mbx_sq_db_sq_tail
  | .mbx_sq_db_sq_head | .mbx_cq_db_cq_head | .mbx_cq_db_cq_tail | .mbx_tr_status_tr_rej | .fbk_log_log_lost
  | .flt_status_lost | .flt_err_first_src | .flt_notice_dst | .flt_notice_rx_cnt | .flt_inj_done_cnt
  | .hkp_status_round | .hkp_thr_status_p_therm | .hkp_thr_excess_excess | .hkp_sns_lim_warn
  | .hkp_sns_lim_limit | .hkp_sns_cfg_thr | .hkp_sns_mean_mean | .hkp_sns_status_t | .hkp_sup_win_lo
  | .hkp_sup_win_hi | .hkp_sup_status_v | .hkp_iact_i | .hkp_flash_refused | .boot_fuse_prog_code => 16
  | .glb_emap_status_fail_table | .ust_pw_cfg_src | .cal_syscal_status_step | .stx_elem_state_state
  | .trv_last_res_state | .stx_stand_status_state | .dtm_ctrl_servo_bw | .dtm_status_p_state
  | .dtm_status_s_state | .dtm_port_cfg_log_sync | .dtm_port_cfg_pd_exp | .dtm_trig_cfg_mode | .chp_status_role
  | .chp_prbs_cfg_gen | .chp_prbs_cfg_chk => 3
  | .glb_emap_serial_map_serial | .ust_mon_result_word | .stx_elem_integ_integ | .stx_elem_uopt_uopt
  | .stx_out_ref_i_ref | .trv_last_clr_id | .dtm_step_limit_step_limit | .dtm_time_ns | .dtm_offset_offset_p
  | .dtm_offset_offset_s | .dtm_asym_asym_in | .dtm_asym_asym_eg | .dtm_linkdly_link_dly | .dtm_pps_in_dly_dly
  | .dtm_trig_start_ns | .dtm_trig_pw_period | .dtm_trig_pw_width | .chp_fec_cnt_corr | .chp_fec_cnt_uncorr
  | .chp_prbs_status_err | .chs_change_ns | .chs_cbs_credit | .mbx_tr_cons_cons | .fbk_cfg_crc_crc
  | .fbk_dark_ports_dark | .fbk_not_dark_not_dark | .flt_log_seq_next | .boot_fw_ver_version
  | .boot_staged_ver_version => 32
  | .ust_mon_cfg_cmp_hyst | .cal_rot_ctrl_en | .ust_vdac_status_prof | .ust_hpwm_mode_stag | .ust_htrip_input
  | .stx_elem_state_coef_set | .stx_elem_cfg_coef_set | .stx_elem_sup_checks | .glb_baton_status_last_cause
  | .glb_baton_status_ign_cnt | .dtm_tsq_pop_msg_type | .chp_cfg_tx_pre | .chp_cfg_tx_amp
  | .mbx_status_err_cause | .mbx_expert_cpt | .fbk_status_out_on | .fbk_status_out_wait | .fbk_status_demand
  | .fbk_status_pair_fault | .fbk_out_cfg_apr_cpt | .fbk_src_cfg_dark | .fbk_src_cfg_heat
  | .fbk_apr_cfg_na_assert | .hkp_sns_cfg_cpt | .boot_fuse_revoke => 4
  | .cal_grp_status_pos | .cal_grp_status_failed_slice | .ust_vdac_ctrl_dgl_thr | .ust_vdac_ctrl_gtrip_grp
  | .chp_ring_status_size | .chs_oper_entry | .fbk_status_sources | .fbk_log_pending => 6
  | .ust_vdac_cfg_pamp | .ust_hpwm_mode_pamp | .stx_cpt_cnt_cnt_lo | .stx_cpt_cnt_cnt_hi | .stx_elem_state_nv
  | .trv_boot_slot | .trv_inforce_slot => 12
  | .ust_vdac_status_code | .ust_vclr_code | .stx_coef_ilim | .stx_coef_eps_max | .stx_coef_act_ilim
  | .stx_coef_act_eps_max | .stx_elem_drive_drive => 20
  | .ust_htrip_cause | .stx_stand_status_diag | .dtm_trig_cfg_fill | .chp_cfg_tx_post | .chp_prbs_cfg_inj_rate
  | .chs_smp_cfg_k | .mbx_qcfg_sq_log | .mbx_qcfg_cq_log | .fbk_pair_cfg_filt | .fbk_out_cfg_out_src
  | .hkp_thr_status_worst => 5
  | .stx_elem_idx_elem | .stx_sup_status_last_elem | .trv_last_res_moved | .mbx_tags_tag_base => 14
  | .stx_elem_eps_eps | .chs_cycle_cycle | .chs_phase_phase | .chs_oper_cycle_act | .chs_gcl_admin_interval
  | .chs_gcl_oper_interval | .chs_pol_rate_rate => 24
  | .cal_ecal_ctrl_cal_par | .trv_qstatus_qdepth | .dtm_tsq_status_fill | .dtm_trig_cfg_ovf_cnt
  | .flt_policy_react | .flt_policy_mand | .flt_policy_perm | .boot_fuse_svn_fuse => 7
  | .cal_ecal_ctrl_active | .dtm_pps_cfg_width => 9
  | .cal_ecal_ctrl_rej_cnt | .trv_fail_cancelled | .chs_cbs_idleslope => 15
  | .trv_inforce_circuits | .fbk_pair_cfg_disc | .fbk_pair_cfg_edm_t | .hkp_thr_cfg_gain => 10
  | .glb_baton_status_stale_drop => 11
  | .dtm_time_sec | .dtm_trig_start_sec | .chs_change_sec => 48
  | .dtm_frame_f | .chp_neigh_uid_uid | .chp_uid_uid => 64
  | .dtm_rate_rho => 40
  | .dtm_tsq_pop_time | .dtm_trig_ts_time => 96
  | .chs_pol_cfg_burst | .chs_pol_status_level | .mbx_status_inflight | .mbx_tags_tag_count
  | .mbx_expert_blocks => 13
  | .mbx_sq_base_base | .mbx_cq_base_base => 52
  | _ => 1

/-- The access type of a field (the Access columns). HKP_SUP_WIN is RWE for the rail VACT only (R465). -/
def Fid.access (f : Fid) : Access :=
  match f with
  | .ust_mon_cfg_range | .ust_mon_cfg_cmp_persist | .ust_mon_cfg_cmp_hyst | .ust_mon_cmp_low_na
  | .ust_mon_cmp_high_na | .ust_pw_cfg_len | .ust_pw_cfg_mode | .ust_pw_cfg_src | .ust_pw_cfg_pwq
  | .cal_rot_ctrl_en | .ust_vdac_cfg_range | .ust_vdac_cfg_pamp | .ust_vdac_ctrl_dgl_thr | .ust_profile_count
  | .ust_profile_flags | .ust_profile_t2 | .ust_profile_t3 | .ust_profile_t4 | .ust_profile_a1
  | .ust_profile_a2 | .ust_profile_a3 | .ust_hpwm_cfg_per | .ust_hpwm_cfg_dead | .ust_hpwm_cfg_minp
  | .ust_hpwm_mode_stag | .ust_hpwm_mode_mpf | .ust_hpwm_mode_src | .ust_hpwm_mode_auto | .ust_hpwm_mode_pamp
  | .ust_hpwm_shper_per_sh | .ust_hpwm_shcmp_a_sh | .ust_hpwm_shcmp_b_sh | .ust_htrip_cmp_en
  | .ust_htrip_therm_en | .ust_htrip_sup_en | .glb_hcap_cap_prog | .stx_cpt_cfg_psel | .stx_cpt_cfg_wsel
  | .stx_coef_kp | .stx_coef_ki | .stx_coef_ilim | .stx_coef_eps_max | .stx_elem_cfg_coef_set
  | .stx_elem_cfg_sigma_sp | .stx_sup_cfg_sus_n | .stx_sup_cfg_qlim | .stx_sup_cfg_light_min
  | .stx_sup_lim_rlim | .stx_sup_lim_dlim | .stx_tff_cfg_en | .stx_tff_cfg_sensor | .stx_tff_cfg_te_slew
  | .stx_out_cfg_en | .stx_out_cfg_side | .stx_out_cfg_div | .stx_out_cfg_ko | .stx_out_tgt_target
  | .stx_out_tgt_sp_max | .stx_out_ref_i_ref | .cal_ecal_ctrl_cal_par | .cal_ecal_sched_interval
  | .trv_chain_hopdly | .trv_chain_report_to | .glb_baton_cfg_mode | .glb_baton_cfg_ext_en
  | .glb_baton_cfg_auto_return | .dtm_ctrl_p_dom | .dtm_ctrl_auto_s | .dtm_ctrl_src0 | .dtm_ctrl_port0
  | .dtm_ctrl_src1 | .dtm_ctrl_port1 | .dtm_ctrl_servo_bw | .dtm_ctrl_pps_gate | .dtm_limits_lock_thr
  | .dtm_limits_slew_max | .dtm_limits_sw_limit | .dtm_step_limit_step_limit | .dtm_port_cfg_one_step
  | .dtm_port_cfg_log_sync | .dtm_port_cfg_pd_exp | .dtm_pps_cfg_out_ofs | .dtm_pps_cfg_width
  | .dtm_trig_cfg_mode | .dtm_trig_cfg_edge | .dtm_trig_start_subns | .dtm_trig_start_ns | .dtm_trig_start_sec
  | .dtm_trig_pw_period | .dtm_trig_pw_width | .chp_cfg_en | .chp_cfg_fec | .chp_cfg_tx_pre | .chp_cfg_tx_post
  | .chp_cfg_tx_amp | .chp_cfg_rx_freeze | .chp_cfg_link_hold | .chp_prbs_cfg_gen | .chp_prbs_cfg_chk
  | .chp_prbs_cfg_inv | .chp_prbs_cfg_inj_rate | .chp_remote_accept | .chp_remote_class_en
  | .chp_remote_to_ack_to | .chp_remote_to_exec_to | .chs_port_cfg_ovh | .chs_cycle_cycle | .chs_phase_phase
  | .chs_change_subns | .chs_change_ns | .chs_change_sec | .chs_gcl_admin_interval | .chs_gcl_admin_gates
  | .chs_cbs_idleslope | .chs_cbs_en | .chs_cbs_hicredit | .chs_smp_cfg_en | .chs_smp_cfg_k | .chs_pol_cfg_en
  | .chs_pol_cfg_mode | .chs_pol_cfg_burst | .chs_pol_rate_rate | .flt_err_force | .flt_notice_dst
  | .flt_inj_checker | .flt_inj_bits | .flt_inj_mode | .flt_policy_react | .hkp_thr_cfg_gain
  | .hkp_sns_lim_warn | .hkp_sns_lim_limit | .hkp_sns_cfg_thr | .hkp_sns_cfg_rate_max | .hkp_sns_cfg_hyst
  | .hkp_sns_cfg_thr_en | .hkp_sns_cfg_brk_pol | .hkp_sns_cfg_cpt | .hkp_sup_win_lo | .hkp_sup_win_hi
  | .glb_reset_key | .boot_fuse_prog_code => .rwe
  | .ust_pw_cfg_pw_go | .ust_htrip_swtrip | .dtm_ctrl_restep | .chp_prbs_cfg_inj_one | .chp_prbs_cfg_inj_fcs
  | .chs_port_cfg_clr | .flt_err_ack => .wo
  | .ust_pw_status_overrun | .ust_vdac_status_clamp | .ust_vdac_status_oc | .ust_vdac_ctrl_gtrip
  | .ust_hpwm_status_oc | .ust_hpwm_status_leak | .ust_hpwm_status_padj | .ust_hpwm_status_clamped
  | .ust_htrip_trip | .stx_cpt_status_ovr | .stx_coef_ctrl_reject | .stx_sup_status_new | .trv_fail_new
  | .glb_baton_status_new | .dtm_event_event | .dtm_tsq_status_ovf | .dtm_trig_cfg_late | .dtm_trig_cfg_ovf
  | .chp_prbs_cfg_prbs_rej | .chp_event_event | .chs_port_cfg_reject | .mbx_status_err | .mbx_status_db_err
  | .mbx_tr_status_ring_err | .fbk_event_event | .flt_status_ce | .flt_status_uc | .flt_status_ft
  | .hkp_event_event | .boot_fuse_prog_prog_fail => .w1c
  | .ust_vclr_code | .dtm_asym_asym_in | .dtm_asym_asym_eg | .dtm_pps_in_dly_dly => .rws
  | .ust_hpwm_mode_pcommit | .stx_coef_ctrl_commit | .chs_port_cfg_commit | .flt_inj_arm => .w1s
  | .stx_elem_idx_elem | .dtm_event_event_en | .chp_event_event_en | .mbx_ctrl_en | .mbx_ctrl_irq_thresh
  | .mbx_ctrl_irq_time | .mbx_sq_base_base | .mbx_cq_base_base | .mbx_qcfg_sq_log | .mbx_qcfg_cq_log
  | .mbx_sq_db_sq_tail | .mbx_cq_db_cq_head | .mbx_tr_cons_cons | .fbk_event_event_en | .hkp_event_event_en => .rw
  | .fbk_pair_cfg_in_mode | .fbk_pair_cfg_filt | .fbk_pair_cfg_edm_out | .fbk_pair_cfg_disc
  | .fbk_pair_cfg_edm_t | .fbk_out_cfg_out_en | .fbk_out_cfg_restart | .fbk_out_cfg_out_src
  | .fbk_out_cfg_apr_cpt | .fbk_src_cfg_dark | .fbk_src_cfg_heat | .fbk_apr_cfg_na_assert
  | .fbk_apr_cfg_apr_dark => .rwp
  | _ => .ro

/-- The value of a field after reset (the Reset columns), at field index `i`; a value that depends on the map, flash or fuses is that of a module with none of them. -/
def Fid.reset (f : Fid) (i : Nat) : Nat :=
  match f with
  | .ust_mon_cfg_range => 3
  | .ust_mon_cfg_cmp_persist | .ust_mon_cfg_cmp_hyst | .ust_vdac_ctrl_dgl_thr | .ust_hpwm_cfg_dead
  | .chp_cfg_tx_post | .mbx_qcfg_sq_log | .mbx_qcfg_cq_log | .fbk_pair_cfg_filt => 4
  | .ust_pw_cfg_len => 0x3f94
  | .cal_rot_ctrl_en | .dtm_event_event_en => 0xf
  | .cal_grp_status_failed_slice | .ust_vdac_ctrl_gtrip_grp => 0x3f
  | .ust_vdac_cfg_pamp | .ust_hpwm_mode_pamp | .stx_sup_cfg_qlim | .chs_pol_cfg_burst => 0x40
  | .ust_vdac_ctrl_cleared | .ust_profile_t2 | .ust_hpwm_status_hiz | .ust_htrip_cmp_en | .ust_htrip_fb_en
  | .ust_htrip_therm_en | .ust_htrip_sup_en | .stx_cpt_cfg_psel | .stx_cpt_cfg_wsel | .stx_tff_cfg_en
  | .trv_inforce_idle | .glb_baton_cfg_auto_return | .glb_baton_status_ilk_a | .dtm_port_cfg_pd_exp
  | .dtm_trig_cfg_edge | .chp_cfg_en | .chp_remote_accept | .mbx_ctrl_irq_thresh | .fbk_out_cfg_restart
  | .fbk_apr_cfg_apr_dark | .flt_notice_dst | .flt_inj_bits | .hkp_flash_inhibit => 1
  | .ust_profile_count | .dtm_ctrl_servo_bw | .chp_cfg_tx_pre | .hkp_sns_cfg_hyst => 2
  | .ust_profile_a1 => 32768
  | .ust_hpwm_cfg_per | .ust_hpwm_shper_per_sh | .ust_hpwm_status_per_act | .dtm_limits_slew_max
  | .dtm_pps_cfg_width | .dtm_trig_pw_width | .chp_remote_to_ack_to => 0x64
  | .ust_hpwm_cfg_minp | .stx_sup_cfg_sus_n | .cal_ecal_ctrl_cal_par | .chp_cfg_tx_amp => 8
  | .ust_hpwm_mode_stag => i % 16
  | .glb_hcap_cap_prog | .hkp_thr_status_p_therm => 0x12c0
  | .glb_hcap_load_scale => 0x8000
  | .stx_coef_ki | .stx_coef_act_ki => 0x3c0
  | .stx_coef_ilim | .stx_coef_act_ilim => 0x10000
  | .stx_coef_eps_max | .stx_coef_act_eps_max => 0x4000
  | .stx_sup_cfg_light_min | .hkp_thr_cfg_gain => 0x32
  | .stx_sup_lim_rlim => 0x400
  | .stx_sup_lim_dlim => 0x200
  | .stx_tff_cfg_sensor => i % 4
  | .stx_tff_cfg_te_slew => 0x10
  | .stx_out_cfg_div | .hkp_thr_status_worst | .hkp_event_event_en => 0x1f
  | .stx_out_cfg_ko => 0x800
  | .stx_out_tgt_sp_max => 0x7333
  | .stx_out_ref_i_ref | .dtm_trig_pw_period | .chs_pol_rate_rate => 0xf4240
  | .trv_chain_hopdly => 0x1388
  | .trv_chain_report_to | .dtm_limits_sw_limit => 0x3e8
  | .stx_stand_status_state => if i / 65536 = 0 then 3 else 1
  | .dtm_limits_lock_thr => 0x19
  | .dtm_step_limit_step_limit => 0x186a0
  | .dtm_port_cfg_log_sync | .fbk_event_event_en => 7
  | .chp_cfg_link_hold | .chp_remote_to_exec_to | .chs_smp_cfg_k => 0xa
  | .chp_event_event_en => 0xff
  | .chp_uid_uid => Config.uid
  | .chp_remote_class_en => 0x7ff
  | .chs_port_cfg_ovh => 0x14
  | .chs_cycle_cycle | .chs_oper_cycle_act => 0x1000
  | .chs_bound_w6 => 0x1ed
  | .chs_bound_d6_0 => 0x4b7
  | .chs_gcl_admin_interval | .chs_gcl_oper_interval => if i % 64 = 0 then 0x200 else if i % 64 = 1 then 0xE00 else 0
  | .chs_gcl_admin_gates | .chs_gcl_oper_gates => if i % 64 = 0 then 0xC0 else if i % 64 = 1 then 0xFF else 0
  | .chs_cbs_hicredit => 0x3010
  | .chs_pol_status_level => 64
  | .mbx_tags_tag_count => if i = 0 then 4096 else 0
  | .fbk_pair_cfg_disc => 100
  | .fbk_pair_cfg_edm_t => 300
  | .fbk_src_cfg_dark => 0xF
  | .flt_policy_react => Config.defaultReact i
  | .flt_policy_mand => Config.mandReact i
  | .flt_policy_perm => Config.permReact i
  | .flt_policy_class => Config.faultClassCode i
  | .hkp_sns_lim_warn => Config.sensorDefaultWarn i
  | .hkp_sns_lim_limit => Config.sensorDefaultLimit i
  | .hkp_sns_cfg_thr => Config.sensorDefaultThr i
  | .hkp_sns_cfg_rate_max => Config.sensorDefaultRateMax i
  | .hkp_sns_cfg_thr_en => Config.sensorDefaultThrEn i
  | .hkp_sns_cfg_cpt => Config.sensorDefaultCpt i
  | .hkp_sup_win_lo => Config.supplyLo i
  | .hkp_sup_win_hi => Config.supplyHi i
  | _ => 0

/-- The narrowest reset that restores a field (R8). -/
def Fid.cls (f : Fid) : ResetClass :=
  match f with
  | .ust_mon_cfg_range | .ust_mon_cfg_range_pend | .ust_mon_cfg_cmp_persist | .ust_mon_cfg_cmp_hyst
  | .ust_mon_cfg_subst | .ust_mon_cfg_failed | .ust_mon_cfg_cmp_low | .ust_mon_cfg_cmp_high
  | .ust_mon_cmp_low_na | .ust_mon_cmp_high_na | .ust_pw_cfg_len | .ust_pw_cfg_mode | .ust_pw_cfg_src
  | .ust_pw_cfg_pwq | .ust_pw_cfg_pw_go | .ust_pw_status_running | .ust_pw_status_queued
  | .ust_pw_status_reload | .ust_pw_status_ovr_cnt | .ust_pw_status_overrun | .ust_mon_result_word
  | .ust_vdac_cfg_pamp | .ust_vdac_status_code | .ust_vdac_status_rchg | .ust_vdac_status_clamp
  | .ust_vdac_status_oc | .ust_vdac_status_play | .ust_vdac_status_prof | .ust_vdac_ctrl_dgl_thr
  | .ust_vdac_ctrl_cleared | .ust_vdac_ctrl_clrn | .ust_vdac_ctrl_gtrip | .ust_vdac_ctrl_gtrip_grp
  | .ust_vdac_ctrl_gtrip_cnt | .ust_profile_count | .ust_profile_flags | .ust_profile_t2 | .ust_profile_t3
  | .ust_profile_t4 | .ust_profile_a1 | .ust_profile_a2 | .ust_profile_a3 | .ust_hpwm_cfg_per
  | .ust_hpwm_cfg_dead | .ust_hpwm_cfg_minp | .ust_hpwm_mode_stag | .ust_hpwm_mode_mpf | .ust_hpwm_mode_src
  | .ust_hpwm_mode_auto | .ust_hpwm_mode_pcommit | .ust_hpwm_mode_pamp | .ust_hpwm_shper_per_sh
  | .ust_hpwm_shcmp_a_sh | .ust_hpwm_shcmp_b_sh | .ust_hpwm_status_per_act | .ust_hpwm_status_hiz
  | .ust_hpwm_status_oc | .ust_hpwm_status_leak | .ust_hpwm_status_capped | .ust_hpwm_status_padj
  | .ust_hpwm_status_clamped | .ust_hpwm_status_pilot_blk | .ust_hpwm_status_ion | .ust_hpwm_act_a_act
  | .ust_hpwm_act_b_act | .ust_htrip_cmp_en | .ust_htrip_fb_en | .ust_htrip_therm_en | .ust_htrip_sup_en
  | .ust_htrip_swtrip | .ust_htrip_trip | .ust_htrip_cause | .ust_htrip_input | .ust_htrip_refused
  | .stx_cpt_cnt_cnt_lo | .stx_cpt_cnt_cnt_hi | .stx_elem_state_state | .stx_elem_state_tgt
  | .stx_elem_state_sat_hi | .stx_elem_state_sat_lo | .stx_elem_state_gap | .stx_elem_state_pilot_on
  | .stx_elem_state_coef_set | .stx_elem_state_nv | .stx_elem_drive_drive | .stx_elem_integ_integ
  | .stx_elem_eps_eps | .stx_elem_sup_cnt | .stx_elem_sup_checks | .stx_elem_sup_dark | .stx_elem_sup_excused
  | .stx_elem_uopt_uopt => .crst
  | .ust_vclr_code | .dtm_status_step_cnt | .dtm_asym_asym_in | .dtm_asym_asym_eg | .dtm_pps_in_dly_dly
  | .chp_uid_uid | .flt_status_ce | .flt_status_uc | .flt_status_ft | .flt_status_lost | .flt_err_latch
  | .flt_err_ack | .flt_err_first_src | .flt_log_seq_next | .flt_policy_react | .flt_policy_mand
  | .flt_policy_perm | .flt_policy_class | .hkp_thr_cfg_gain | .hkp_sns_lim_warn | .hkp_sns_lim_limit
  | .hkp_sns_cfg_thr | .hkp_sns_cfg_rate_max | .hkp_sns_cfg_hyst | .hkp_sns_cfg_thr_en | .hkp_sns_cfg_brk_pol
  | .hkp_sns_cfg_cpt | .hkp_sup_win_lo | .hkp_sup_win_hi | .boot_status_boots | .boot_fuse_sig_enf
  | .boot_fuse_jtag_lock | .boot_fuse_revoke | .boot_fuse_svn_fuse => .por
  | .stx_sync_sync_cnt => .brst
  | .chs_pol_status_level | .chs_pol_status_held | .chs_pol_status_pol_cnt | .mbx_ctrl_en
  | .mbx_ctrl_irq_thresh | .mbx_ctrl_irq_time | .mbx_status_rdy | .mbx_status_err | .mbx_status_db_err
  | .mbx_status_err_cause | .mbx_status_held | .mbx_status_inflight | .mbx_sq_base_base | .mbx_cq_base_base
  | .mbx_qcfg_sq_log | .mbx_qcfg_cq_log | .mbx_sq_db_sq_tail | .mbx_sq_db_sq_head | .mbx_cq_db_cq_head
  | .mbx_cq_db_cq_tail | .mbx_expert_cpt | .mbx_expert_device | .mbx_expert_blocks | .mbx_tr_cons_cons
  | .mbx_tr_status_en | .mbx_tr_status_ring_err | .mbx_tr_status_tr_rej => .hrst
  | .fbk_status_state | .fbk_status_fb_ok | .fbk_status_session | .fbk_status_link | .fbk_status_reset_pend
  | .fbk_status_pw_set | .fbk_status_out_on | .fbk_status_out_wait | .fbk_status_demand
  | .fbk_status_pair_fault | .fbk_status_sources | .fbk_fault_cause | .fbk_fault_obj | .fbk_fault_rst_ign
  | .fbk_fault_tp_miss | .fbk_event_event | .fbk_event_event_en | .fbk_pair_cfg_in_mode | .fbk_pair_cfg_filt
  | .fbk_pair_cfg_edm_out | .fbk_pair_cfg_disc | .fbk_pair_cfg_edm_t | .fbk_out_cfg_out_en
  | .fbk_out_cfg_restart | .fbk_out_cfg_out_src | .fbk_out_cfg_apr_cpt | .fbk_src_cfg_dark | .fbk_src_cfg_heat
  | .fbk_apr_cfg_na_assert | .fbk_apr_cfg_apr_dark | .fbk_cfg_crc_crc | .fbk_log_pending | .fbk_log_log_lost
  | .fbk_dark_ports_dark | .fbk_not_dark_not_dark => .vsio
  | _ => .drst

/-- Registers of the block GLB_. -/
def regsGlb : List RegDef := [
  -- GLB_EMAP_STATUS
  ⟨0x140, [], 32, [
     ⟨.glb_emap_status_loaded, 0, 1⟩, ⟨.glb_emap_status_source, 1, 2⟩, ⟨.glb_emap_status_staged_valid, 3, 1⟩,
     ⟨.glb_emap_status_check_fail, 4, 8⟩, ⟨.glb_emap_status_fail_index, 12, 16⟩,
     ⟨.glb_emap_status_fail_table, 28, 3⟩]⟩,
  -- GLB_EMAP_SERIAL
  ⟨0x144, [], 32, [
     ⟨.glb_emap_serial_map_serial, 0, 32⟩]⟩,
  -- GLB_HCAP
  ⟨0x150, [], 32, [
     ⟨.glb_hcap_cap_prog, 0, 16⟩]⟩,
  -- GLB_HCAP_STATUS
  ⟨0x154, [], 32, [
     ⟨.glb_hcap_status_cap_act, 0, 16⟩, ⟨.glb_hcap_status_limit, 16, 2⟩]⟩,
  -- GLB_HCAP_LOAD
  ⟨0x158, [], 32, [
     ⟨.glb_hcap_load_p_cmd, 0, 16⟩, ⟨.glb_hcap_load_scale, 16, 16⟩]⟩,
  -- GLB_BATON_CFG
  ⟨0x160, [], 32, [
     ⟨.glb_baton_cfg_mode, 0, 1⟩, ⟨.glb_baton_cfg_ext_en, 1, 1⟩, ⟨.glb_baton_cfg_auto_return, 2, 1⟩]⟩,
  -- GLB_BATON_STATUS
  ⟨0x164, [], 32, [
     ⟨.glb_baton_status_holder, 0, 1⟩, ⟨.glb_baton_status_frozen, 1, 1⟩, ⟨.glb_baton_status_ilk_a, 2, 1⟩,
     ⟨.glb_baton_status_ilk_b, 3, 1⟩, ⟨.glb_baton_status_last_cause, 4, 4⟩,
     ⟨.glb_baton_status_handovers, 8, 8⟩, ⟨.glb_baton_status_ign_cnt, 16, 4⟩,
     ⟨.glb_baton_status_stale_drop, 20, 11⟩, ⟨.glb_baton_status_new, 31, 1⟩]⟩,
  -- GLB_CPT_SVC
  ⟨0x170, [⟨0x4, 4, 1⟩], 32, [
     ⟨.glb_cpt_svc_fenced, 0, 1⟩, ⟨.glb_cpt_svc_by_fault, 1, 1⟩, ⟨.glb_cpt_svc_in_crst, 2, 1⟩,
     ⟨.glb_cpt_svc_rejoining, 3, 1⟩, ⟨.glb_cpt_svc_fence_cnt, 16, 8⟩, ⟨.glb_cpt_svc_crst_cnt, 24, 8⟩]⟩,
  -- GLB_RESET
  ⟨0x8, [], 32, [
     ⟨.glb_reset_key, 0, 8⟩]⟩
  ]

/-- Registers of the block UST_. -/
def regsUst0 : List RegDef := [
  -- UST_MON_CFG
  ⟨0x100000, [⟨0x40000, 4, 1536⟩, ⟨0x4, 1536, 1⟩], 32, [
     ⟨.ust_mon_cfg_range, 0, 2⟩, ⟨.ust_mon_cfg_range_pend, 2, 1⟩, ⟨.ust_mon_cfg_cmp_persist, 3, 8⟩,
     ⟨.ust_mon_cfg_cmp_hyst, 11, 4⟩, ⟨.ust_mon_cfg_subst, 15, 1⟩, ⟨.ust_mon_cfg_failed, 16, 1⟩,
     ⟨.ust_mon_cfg_cmp_low, 17, 1⟩, ⟨.ust_mon_cfg_cmp_high, 18, 1⟩]⟩,
  -- UST_MON_CMP
  ⟨0x101800, [⟨0x40000, 4, 1536⟩, ⟨0x4, 1536, 1⟩], 32, [
     ⟨.ust_mon_cmp_low_na, 0, 16⟩, ⟨.ust_mon_cmp_high_na, 16, 16⟩]⟩,
  -- UST_PW_CFG
  ⟨0x103000, [⟨0x40000, 4, 1536⟩, ⟨0x4, 1536, 1⟩], 32, [
     ⟨.ust_pw_cfg_len, 0, 16⟩, ⟨.ust_pw_cfg_mode, 16, 2⟩, ⟨.ust_pw_cfg_src, 18, 3⟩, ⟨.ust_pw_cfg_pwq, 21, 1⟩,
     ⟨.ust_pw_cfg_pw_go, 22, 1⟩]⟩,
  -- UST_PW_STATUS
  ⟨0x104800, [⟨0x40000, 4, 1536⟩, ⟨0x4, 1536, 1⟩], 32, [
     ⟨.ust_pw_status_running, 0, 1⟩, ⟨.ust_pw_status_queued, 1, 1⟩, ⟨.ust_pw_status_reload, 2, 1⟩,
     ⟨.ust_pw_status_ovr_cnt, 8, 16⟩, ⟨.ust_pw_status_overrun, 31, 1⟩]⟩,
  -- UST_MON_RESULT
  ⟨0x106000, [⟨0x40000, 4, 1536⟩, ⟨0x4, 1536, 1⟩], 32, [
     ⟨.ust_mon_result_word, 0, 32⟩]⟩,
  -- UST_VDAC_CFG
  ⟨0x108000, [⟨0x40000, 4, 2304⟩, ⟨0x4, 2304, 1⟩], 32, [
     ⟨.ust_vdac_cfg_range, 0, 1⟩, ⟨.ust_vdac_cfg_pamp, 1, 12⟩]⟩,
  -- UST_VDAC_STATUS
  ⟨0x10c000, [⟨0x40000, 4, 2304⟩, ⟨0x4, 2304, 1⟩], 32, [
     ⟨.ust_vdac_status_code, 0, 20⟩, ⟨.ust_vdac_status_range_act, 20, 1⟩, ⟨.ust_vdac_status_rchg, 21, 1⟩,
     ⟨.ust_vdac_status_clamp, 22, 1⟩, ⟨.ust_vdac_status_oc, 23, 1⟩, ⟨.ust_vdac_status_play, 24, 1⟩,
     ⟨.ust_vdac_status_prof, 25, 4⟩]⟩,
  -- UST_VCLR
  ⟨0x110000, [⟨0x40000, 4, 2304⟩, ⟨0x4, 2304, 1⟩], 32, [
     ⟨.ust_vclr_code, 0, 20⟩]⟩,
  -- UST_VDAC_CTRL
  ⟨0x13f000, [⟨0x40000, 4, 1⟩], 32, [
     ⟨.ust_vdac_ctrl_dgl_thr, 0, 6⟩, ⟨.ust_vdac_ctrl_cleared, 8, 1⟩, ⟨.ust_vdac_ctrl_clrn, 9, 1⟩,
     ⟨.ust_vdac_ctrl_gtrip, 16, 1⟩, ⟨.ust_vdac_ctrl_gtrip_grp, 18, 6⟩, ⟨.ust_vdac_ctrl_gtrip_cnt, 24, 8⟩]⟩,
  -- UST_PROFILE
  ⟨0x13f100, [⟨0x40000, 4, 16⟩, ⟨0x10, 16, 1⟩], 128, [
     ⟨.ust_profile_count, 0, 8⟩, ⟨.ust_profile_flags, 8, 8⟩, ⟨.ust_profile_t2, 16, 16⟩,
     ⟨.ust_profile_t3, 32, 16⟩, ⟨.ust_profile_t4, 48, 16⟩, ⟨.ust_profile_a1, 64, 16⟩,
     ⟨.ust_profile_a2, 80, 16⟩, ⟨.ust_profile_a3, 96, 16⟩]⟩,
  -- UST_HPWM_CFG
  ⟨0x120000, [⟨0x40000, 4, 256⟩, ⟨0x4, 256, 1⟩], 32, [
     ⟨.ust_hpwm_cfg_per, 0, 16⟩, ⟨.ust_hpwm_cfg_dead, 16, 8⟩, ⟨.ust_hpwm_cfg_minp, 24, 8⟩]⟩,
  -- UST_HPWM_MODE
  ⟨0x120400, [⟨0x40000, 4, 256⟩, ⟨0x4, 256, 1⟩], 32, [
     ⟨.ust_hpwm_mode_stag, 0, 4⟩, ⟨.ust_hpwm_mode_mpf, 4, 1⟩, ⟨.ust_hpwm_mode_src, 5, 1⟩,
     ⟨.ust_hpwm_mode_auto, 6, 1⟩, ⟨.ust_hpwm_mode_pcommit, 7, 1⟩, ⟨.ust_hpwm_mode_pamp, 8, 12⟩]⟩
  ]

/-- Registers of the block UST_. -/
def regsUst1 : List RegDef := [
  -- UST_HPWM_SHPER
  ⟨0x120800, [⟨0x40000, 4, 256⟩, ⟨0x4, 256, 1⟩], 32, [
     ⟨.ust_hpwm_shper_per_sh, 0, 16⟩]⟩,
  -- UST_HPWM_SHCMP
  ⟨0x120c00, [⟨0x40000, 4, 256⟩, ⟨0x4, 256, 1⟩], 32, [
     ⟨.ust_hpwm_shcmp_a_sh, 0, 16⟩, ⟨.ust_hpwm_shcmp_b_sh, 16, 16⟩]⟩,
  -- UST_HPWM_STATUS
  ⟨0x121000, [⟨0x40000, 4, 256⟩, ⟨0x4, 256, 1⟩], 32, [
     ⟨.ust_hpwm_status_per_act, 0, 16⟩, ⟨.ust_hpwm_status_hiz, 16, 1⟩, ⟨.ust_hpwm_status_oc, 17, 1⟩,
     ⟨.ust_hpwm_status_leak, 18, 1⟩, ⟨.ust_hpwm_status_capped, 19, 1⟩, ⟨.ust_hpwm_status_padj, 20, 1⟩,
     ⟨.ust_hpwm_status_clamped, 21, 1⟩, ⟨.ust_hpwm_status_pilot_blk, 22, 1⟩, ⟨.ust_hpwm_status_ion, 24, 8⟩]⟩,
  -- UST_HPWM_ACT
  ⟨0x121400, [⟨0x40000, 4, 256⟩, ⟨0x4, 256, 1⟩], 32, [
     ⟨.ust_hpwm_act_a_act, 0, 16⟩, ⟨.ust_hpwm_act_b_act, 16, 16⟩]⟩,
  -- UST_HTRIP
  ⟨0x13f200, [⟨0x40000, 4, 1⟩], 32, [
     ⟨.ust_htrip_cmp_en, 0, 1⟩, ⟨.ust_htrip_fb_en, 1, 1⟩, ⟨.ust_htrip_therm_en, 2, 1⟩,
     ⟨.ust_htrip_sup_en, 3, 1⟩, ⟨.ust_htrip_swtrip, 4, 1⟩, ⟨.ust_htrip_trip, 8, 1⟩, ⟨.ust_htrip_cause, 9, 5⟩,
     ⟨.ust_htrip_input, 14, 4⟩, ⟨.ust_htrip_refused, 24, 8⟩]⟩
  ]

/-- Registers of the block CAL_. -/
def regsCal : List RegDef := [
  -- CAL_ROT_CTRL
  ⟨0xb0000, [], 32, [
     ⟨.cal_rot_ctrl_en, 0, 4⟩]⟩,
  -- CAL_SYSCAL_STATUS
  ⟨0xb0040, [⟨0x4, 4, 1⟩], 32, [
     ⟨.cal_syscal_status_step, 0, 3⟩, ⟨.cal_syscal_status_active, 3, 1⟩, ⟨.cal_syscal_status_fail_group, 4, 8⟩,
     ⟨.cal_syscal_status_fail_range, 12, 2⟩, ⟨.cal_syscal_status_fail_check, 14, 2⟩]⟩,
  -- CAL_GRP_STATUS
  ⟨0xb0100, [⟨0x4, 192, 1⟩], 32, [
     ⟨.cal_grp_status_pos, 0, 6⟩, ⟨.cal_grp_status_failed_slice, 6, 6⟩, ⟨.cal_grp_status_stale, 12, 1⟩,
     ⟨.cal_grp_status_stopped, 13, 1⟩, ⟨.cal_grp_status_waiting, 14, 1⟩, ⟨.cal_grp_status_rej_cnt, 16, 8⟩,
     ⟨.cal_grp_status_rot_cnt, 24, 8⟩]⟩,
  -- CAL_ECAL_CTRL
  ⟨0xb0800, [], 32, [
     ⟨.cal_ecal_ctrl_cal_par, 0, 7⟩, ⟨.cal_ecal_ctrl_active, 8, 9⟩, ⟨.cal_ecal_ctrl_rej_cnt, 17, 15⟩]⟩,
  -- CAL_ECAL_SCHED
  ⟨0xb0810, [⟨0x4, 4, 1⟩], 32, [
     ⟨.cal_ecal_sched_interval, 0, 16⟩, ⟨.cal_ecal_sched_overdue, 16, 16⟩]⟩
  ]

/-- Registers of the block STX_. -/
def regsStx0 : List RegDef := [
  -- STX_CPT_CFG
  ⟨0x70100, [⟨0x10000, 2, 0⟩, ⟨0x20, 4, 1⟩], 32, [
     ⟨.stx_cpt_cfg_psel, 0, 2⟩, ⟨.stx_cpt_cfg_wsel, 2, 2⟩, ⟨.stx_cpt_cfg_pend, 4, 1⟩]⟩,
  -- STX_CPT_CNT
  ⟨0x70104, [⟨0x10000, 2, 65536⟩, ⟨0x20, 4, 4⟩, ⟨0x4, 4, 1⟩], 32, [
     ⟨.stx_cpt_cnt_cnt_lo, 0, 12⟩, ⟨.stx_cpt_cnt_cnt_hi, 16, 12⟩]⟩,
  -- STX_CPT_STATUS
  ⟨0x70114, [⟨0x10000, 2, 65536⟩, ⟨0x20, 4, 1⟩], 32, [
     ⟨.stx_cpt_status_ovr_cnt, 0, 16⟩, ⟨.stx_cpt_status_ovr, 31, 1⟩]⟩,
  -- STX_COEF_CTRL
  ⟨0x70118, [⟨0x10000, 2, 0⟩, ⟨0x20, 4, 1⟩], 32, [
     ⟨.stx_coef_ctrl_commit, 0, 1⟩, ⟨.stx_coef_ctrl_bank, 1, 1⟩, ⟨.stx_coef_ctrl_reject, 2, 1⟩,
     ⟨.stx_coef_ctrl_swap_cnt, 8, 8⟩]⟩,
  -- STX_COEF
  ⟨0x71000, [⟨0x10000, 2, 0⟩, ⟨0x200, 4, 16⟩, ⟨0x10, 16, 1⟩], 128, [
     ⟨.stx_coef_kp, 0, 16⟩, ⟨.stx_coef_ki, 16, 16⟩, ⟨.stx_coef_ilim, 32, 20⟩, ⟨.stx_coef_eps_max, 64, 20⟩]⟩,
  -- STX_COEF_ACT
  ⟨0x71100, [⟨0x10000, 2, 0⟩, ⟨0x200, 4, 16⟩, ⟨0x10, 16, 1⟩], 128, [
     ⟨.stx_coef_act_kp, 0, 16⟩, ⟨.stx_coef_act_ki, 16, 16⟩, ⟨.stx_coef_act_ilim, 32, 20⟩,
     ⟨.stx_coef_act_eps_max, 64, 20⟩]⟩,
  -- STX_ELEM_IDX
  ⟨0x72000, [⟨0x10000, 2, 0⟩], 32, [
     ⟨.stx_elem_idx_elem, 0, 14⟩]⟩,
  -- STX_ELEM_STATE
  ⟨0x72004, [⟨0x10000, 2, 0⟩], 32, [
     ⟨.stx_elem_state_state, 0, 3⟩, ⟨.stx_elem_state_tgt, 3, 1⟩, ⟨.stx_elem_state_sat_hi, 4, 1⟩,
     ⟨.stx_elem_state_sat_lo, 5, 1⟩, ⟨.stx_elem_state_gap, 6, 1⟩, ⟨.stx_elem_state_pilot_on, 7, 1⟩,
     ⟨.stx_elem_state_coef_set, 8, 4⟩, ⟨.stx_elem_state_nv, 12, 12⟩]⟩,
  -- STX_ELEM_DRIVE
  ⟨0x72008, [⟨0x10000, 2, 0⟩], 32, [
     ⟨.stx_elem_drive_drive, 0, 20⟩]⟩,
  -- STX_ELEM_INTEG
  ⟨0x7200c, [⟨0x10000, 2, 0⟩], 32, [
     ⟨.stx_elem_integ_integ, 0, 32⟩]⟩,
  -- STX_ELEM_EPS
  ⟨0x72010, [⟨0x10000, 2, 0⟩], 32, [
     ⟨.stx_elem_eps_eps, 0, 24⟩]⟩,
  -- STX_ELEM_CFG
  ⟨0x72014, [⟨0x10000, 2, 0⟩], 32, [
     ⟨.stx_elem_cfg_coef_set, 0, 4⟩, ⟨.stx_elem_cfg_sigma_sp, 16, 16⟩]⟩
  ]

/-- Registers of the block STX_. -/
def regsStx1 : List RegDef := [
  -- STX_SUP_CFG
  ⟨0x70200, [⟨0x10000, 2, 0⟩, ⟨0x20, 4, 1⟩], 32, [
     ⟨.stx_sup_cfg_sus_n, 0, 8⟩, ⟨.stx_sup_cfg_qlim, 8, 8⟩, ⟨.stx_sup_cfg_light_min, 16, 16⟩]⟩,
  -- STX_SUP_LIM
  ⟨0x70204, [⟨0x10000, 2, 0⟩, ⟨0x20, 4, 1⟩], 32, [
     ⟨.stx_sup_lim_rlim, 0, 16⟩, ⟨.stx_sup_lim_dlim, 16, 16⟩]⟩,
  -- STX_SUP_STATUS
  ⟨0x70208, [⟨0x10000, 2, 0⟩, ⟨0x20, 4, 1⟩], 32, [
     ⟨.stx_sup_status_sus_cnt, 0, 16⟩, ⟨.stx_sup_status_last_elem, 16, 14⟩, ⟨.stx_sup_status_new, 31, 1⟩]⟩,
  -- STX_TFF_CFG
  ⟨0x70300, [⟨0x10000, 2, 0⟩, ⟨0x10, 4, 1⟩], 32, [
     ⟨.stx_tff_cfg_en, 0, 1⟩, ⟨.stx_tff_cfg_sensor, 1, 2⟩, ⟨.stx_tff_cfg_te_slew, 8, 8⟩]⟩,
  -- STX_TFF_STATUS
  ⟨0x70304, [⟨0x10000, 2, 0⟩, ⟨0x10, 4, 1⟩], 32, [
     ⟨.stx_tff_status_t_pd, 0, 16⟩, ⟨.stx_tff_status_tfroz, 16, 1⟩]⟩,
  -- STX_ELEM_SUP
  ⟨0x72018, [⟨0x10000, 2, 0⟩], 32, [
     ⟨.stx_elem_sup_cnt, 0, 8⟩, ⟨.stx_elem_sup_checks, 8, 4⟩, ⟨.stx_elem_sup_dark, 12, 1⟩,
     ⟨.stx_elem_sup_excused, 13, 1⟩]⟩,
  -- STX_ELEM_UOPT
  ⟨0x7201c, [⟨0x10000, 2, 0⟩], 32, [
     ⟨.stx_elem_uopt_uopt, 0, 32⟩]⟩,
  -- STX_OUT_CFG
  ⟨0x74000, [⟨0x10000, 2, 0⟩, ⟨0x10, 512, 1⟩], 32, [
     ⟨.stx_out_cfg_en, 0, 1⟩, ⟨.stx_out_cfg_side, 1, 1⟩, ⟨.stx_out_cfg_div, 8, 8⟩, ⟨.stx_out_cfg_ko, 16, 16⟩]⟩,
  -- STX_OUT_TGT
  ⟨0x74004, [⟨0x10000, 2, 0⟩, ⟨0x10, 512, 1⟩], 32, [
     ⟨.stx_out_tgt_target, 0, 16⟩, ⟨.stx_out_tgt_sp_max, 16, 16⟩]⟩,
  -- STX_OUT_REF
  ⟨0x74008, [⟨0x10000, 2, 0⟩, ⟨0x10, 512, 1⟩], 32, [
     ⟨.stx_out_ref_i_ref, 0, 32⟩]⟩,
  -- STX_OUT_STATUS
  ⟨0x7400c, [⟨0x10000, 2, 0⟩, ⟨0x10, 512, 1⟩], 32, [
     ⟨.stx_out_status_level, 0, 16⟩, ⟨.stx_out_status_held, 16, 1⟩, ⟨.stx_out_status_dark, 17, 1⟩,
     ⟨.stx_out_status_sat, 18, 1⟩]⟩,
  -- STX_STAND_STATUS
  ⟨0x70000, [⟨0x10000, 2, 65536⟩], 32, [
     ⟨.stx_stand_status_state, 0, 3⟩, ⟨.stx_stand_status_mismatch, 8, 8⟩, ⟨.stx_stand_status_diag, 16, 5⟩]⟩
  ]

/-- Registers of the block STX_. -/
def regsStx2 : List RegDef := [
  -- STX_SYNC
  ⟨0x70010, [⟨0x10000, 2, 65536⟩, ⟨0x4, 4, 1⟩], 32, [
     ⟨.stx_sync_sync_cnt, 0, 8⟩]⟩
  ]

/-- Registers of the block TRV_. -/
def regsTrv : List RegDef := [
  -- TRV_CHAIN
  ⟨0x60000, [], 32, [
     ⟨.trv_chain_hopdly, 0, 16⟩, ⟨.trv_chain_report_to, 16, 16⟩]⟩,
  -- TRV_BOOT
  ⟨0x60004, [], 32, [
     ⟨.trv_boot_slot, 0, 12⟩, ⟨.trv_boot_en, 12, 1⟩, ⟨.trv_boot_used, 13, 1⟩]⟩,
  -- TRV_QSTATUS
  ⟨0x60008, [], 32, [
     ⟨.trv_qstatus_qdepth, 0, 7⟩, ⟨.trv_qstatus_solving, 7, 1⟩, ⟨.trv_qstatus_swait, 8, 8⟩,
     ⟨.trv_qstatus_next_seq, 16, 16⟩]⟩,
  -- TRV_INFORCE
  ⟨0x6000c, [], 32, [
     ⟨.trv_inforce_slot, 0, 12⟩, ⟨.trv_inforce_inline, 12, 1⟩, ⟨.trv_inforce_idle, 13, 1⟩,
     ⟨.trv_inforce_circuits, 16, 10⟩]⟩,
  -- TRV_LAST
  ⟨0x60010, [], 32, [
     ⟨.trv_last_clr_id, 0, 32⟩]⟩,
  -- TRV_LAST_RES
  ⟨0x60014, [], 32, [
     ⟨.trv_last_res_moved, 0, 14⟩, ⟨.trv_last_res_state, 16, 3⟩]⟩,
  -- TRV_SOLVE_CNT
  ⟨0x60018, [], 32, [
     ⟨.trv_solve_cnt_solves, 0, 16⟩, ⟨.trv_solve_cnt_hits, 16, 16⟩]⟩,
  -- TRV_FAIL
  ⟨0x6001c, [], 32, [
     ⟨.trv_fail_blocked, 0, 16⟩, ⟨.trv_fail_cancelled, 16, 15⟩, ⟨.trv_fail_new, 31, 1⟩]⟩
  ]

/-- Registers of the block DTM_. -/
def regsDtm0 : List RegDef := [
  -- DTM_CTRL
  ⟨0x30000, [], 32, [
     ⟨.dtm_ctrl_p_dom, 0, 1⟩, ⟨.dtm_ctrl_auto_s, 1, 1⟩, ⟨.dtm_ctrl_src0, 2, 2⟩, ⟨.dtm_ctrl_port0, 4, 2⟩,
     ⟨.dtm_ctrl_src1, 6, 2⟩, ⟨.dtm_ctrl_port1, 8, 2⟩, ⟨.dtm_ctrl_servo_bw, 10, 3⟩, ⟨.dtm_ctrl_pps_gate, 13, 1⟩,
     ⟨.dtm_ctrl_restep, 14, 1⟩]⟩,
  -- DTM_STATUS
  ⟨0x30004, [], 32, [
     ⟨.dtm_status_p_state, 0, 3⟩, ⟨.dtm_status_s_state, 3, 3⟩, ⟨.dtm_status_p_dom_act, 6, 1⟩,
     ⟨.dtm_status_step_pend, 7, 1⟩, ⟨.dtm_status_big_ofs, 8, 1⟩, ⟨.dtm_status_tod_set, 9, 1⟩,
     ⟨.dtm_status_step_cnt, 16, 8⟩, ⟨.dtm_status_sel_cnt, 24, 8⟩]⟩,
  -- DTM_LIMITS
  ⟨0x30008, [], 32, [
     ⟨.dtm_limits_lock_thr, 0, 8⟩, ⟨.dtm_limits_slew_max, 8, 8⟩, ⟨.dtm_limits_sw_limit, 16, 16⟩]⟩,
  -- DTM_STEP_LIMIT
  ⟨0x3000c, [], 32, [
     ⟨.dtm_step_limit_step_limit, 0, 32⟩]⟩,
  -- DTM_TIME
  ⟨0x30010, [], 128, [
     ⟨.dtm_time_subns, 0, 16⟩, ⟨.dtm_time_ns, 16, 32⟩, ⟨.dtm_time_sec, 48, 48⟩]⟩,
  -- DTM_FRAME
  ⟨0x30020, [], 64, [
     ⟨.dtm_frame_f, 0, 64⟩]⟩,
  -- DTM_RATE
  ⟨0x30028, [], 64, [
     ⟨.dtm_rate_rho, 0, 40⟩]⟩,
  -- DTM_OFFSET
  ⟨0x30030, [], 64, [
     ⟨.dtm_offset_offset_p, 0, 32⟩, ⟨.dtm_offset_offset_s, 32, 32⟩]⟩,
  -- DTM_EVENT
  ⟨0x30040, [], 32, [
     ⟨.dtm_event_event, 0, 8⟩, ⟨.dtm_event_event_en, 16, 8⟩]⟩,
  -- DTM_PORT_CFG
  ⟨0x30100, [⟨0x20, 4, 1⟩], 32, [
     ⟨.dtm_port_cfg_one_step, 0, 1⟩, ⟨.dtm_port_cfg_log_sync, 1, 3⟩, ⟨.dtm_port_cfg_pd_exp, 4, 3⟩,
     ⟨.dtm_port_cfg_role0, 8, 2⟩, ⟨.dtm_port_cfg_role1, 10, 2⟩, ⟨.dtm_port_cfg_discard, 16, 16⟩]⟩,
  -- DTM_ASYM
  ⟨0x30104, [⟨0x20, 4, 1⟩], 64, [
     ⟨.dtm_asym_asym_in, 0, 32⟩, ⟨.dtm_asym_asym_eg, 32, 32⟩]⟩,
  -- DTM_LINKDLY
  ⟨0x3010c, [⟨0x20, 4, 1⟩], 32, [
     ⟨.dtm_linkdly_link_dly, 0, 32⟩]⟩
  ]

/-- Registers of the block DTM_. -/
def regsDtm1 : List RegDef := [
  -- DTM_TSQ_STATUS
  ⟨0x30110, [⟨0x20, 4, 1⟩], 32, [
     ⟨.dtm_tsq_status_fill, 0, 7⟩, ⟨.dtm_tsq_status_ovf_cnt, 8, 16⟩, ⟨.dtm_tsq_status_ovf, 31, 1⟩]⟩,
  -- DTM_TSQ_POP
  ⟨0x30200, [⟨0x10, 4, 1⟩], 128, [
     ⟨.dtm_tsq_pop_seq_id, 0, 16⟩, ⟨.dtm_tsq_pop_msg_type, 16, 4⟩, ⟨.dtm_tsq_pop_domain, 20, 1⟩,
     ⟨.dtm_tsq_pop_valid, 21, 1⟩, ⟨.dtm_tsq_pop_time, 32, 96⟩]⟩,
  -- DTM_PPS_CFG
  ⟨0x30300, [], 32, [
     ⟨.dtm_pps_cfg_out_ofs, 0, 16⟩, ⟨.dtm_pps_cfg_width, 16, 9⟩]⟩,
  -- DTM_PPS_IN_DLY
  ⟨0x30304, [], 32, [
     ⟨.dtm_pps_in_dly_dly, 0, 32⟩]⟩,
  -- DTM_TRIG_CFG
  ⟨0x30400, [⟨0x40, 4, 1⟩], 32, [
     ⟨.dtm_trig_cfg_mode, 0, 3⟩, ⟨.dtm_trig_cfg_edge, 3, 2⟩, ⟨.dtm_trig_cfg_late, 5, 1⟩,
     ⟨.dtm_trig_cfg_fill, 6, 5⟩, ⟨.dtm_trig_cfg_ovf_cnt, 24, 7⟩, ⟨.dtm_trig_cfg_ovf, 31, 1⟩]⟩,
  -- DTM_TRIG_START
  ⟨0x30410, [⟨0x40, 4, 1⟩], 128, [
     ⟨.dtm_trig_start_subns, 0, 16⟩, ⟨.dtm_trig_start_ns, 16, 32⟩, ⟨.dtm_trig_start_sec, 48, 48⟩]⟩,
  -- DTM_TRIG_PW
  ⟨0x30420, [⟨0x40, 4, 1⟩], 64, [
     ⟨.dtm_trig_pw_period, 0, 32⟩, ⟨.dtm_trig_pw_width, 32, 32⟩]⟩,
  -- DTM_TRIG_TS
  ⟨0x30430, [⟨0x40, 4, 1⟩], 128, [
     ⟨.dtm_trig_ts_pol, 0, 1⟩, ⟨.dtm_trig_ts_valid, 1, 1⟩, ⟨.dtm_trig_ts_time, 32, 96⟩]⟩
  ]

/-- Registers of the block CHP_. -/
def regsChp0 : List RegDef := [
  -- CHP_CFG
  ⟨0x40000, [⟨0x4000, 4, 1⟩], 32, [
     ⟨.chp_cfg_en, 0, 1⟩, ⟨.chp_cfg_fec, 1, 1⟩, ⟨.chp_cfg_tx_pre, 8, 4⟩, ⟨.chp_cfg_tx_post, 12, 5⟩,
     ⟨.chp_cfg_tx_amp, 17, 4⟩, ⟨.chp_cfg_rx_freeze, 21, 1⟩, ⟨.chp_cfg_link_hold, 24, 8⟩]⟩,
  -- CHP_STATUS
  ⟨0x40004, [⟨0x4000, 4, 1⟩], 32, [
     ⟨.chp_status_block_lock, 0, 1⟩, ⟨.chp_status_hi_ber, 1, 1⟩, ⟨.chp_status_lf, 2, 1⟩,
     ⟨.chp_status_rf, 3, 1⟩, ⟨.chp_status_fec_align, 4, 1⟩, ⟨.chp_status_link_up, 5, 1⟩,
     ⟨.chp_status_hello_ok, 6, 1⟩, ⟨.chp_status_role, 8, 3⟩, ⟨.chp_status_link_dn_cnt, 16, 16⟩]⟩,
  -- CHP_NEIGH_UID
  ⟨0x40008, [⟨0x4000, 4, 1⟩], 64, [
     ⟨.chp_neigh_uid_uid, 0, 64⟩]⟩,
  -- CHP_NEIGH
  ⟨0x40010, [⟨0x4000, 4, 1⟩], 32, [
     ⟨.chp_neigh_addr, 0, 16⟩, ⟨.chp_neigh_port, 16, 2⟩]⟩,
  -- CHP_RANGE
  ⟨0x40014, [⟨0x4000, 4, 1⟩], 32, [
     ⟨.chp_range_lo, 0, 16⟩, ⟨.chp_range_hi, 16, 16⟩]⟩,
  -- CHP_ERR_CNT
  ⟨0x40018, [⟨0x4000, 4, 1⟩], 32, [
     ⟨.chp_err_cnt_fcs, 0, 16⟩, ⟨.chp_err_cnt_hcrc, 16, 16⟩]⟩,
  -- CHP_DROP_CNT
  ⟨0x4001c, [⟨0x4000, 4, 1⟩], 32, [
     ⟨.chp_drop_cnt_dest, 0, 16⟩, ⟨.chp_drop_cnt_other, 16, 16⟩]⟩,
  -- CHP_FEC_CNT
  ⟨0x40020, [⟨0x4000, 4, 1⟩], 64, [
     ⟨.chp_fec_cnt_corr, 0, 32⟩, ⟨.chp_fec_cnt_uncorr, 32, 32⟩]⟩,
  -- CHP_PRBS_CFG
  ⟨0x40028, [⟨0x4000, 4, 1⟩], 32, [
     ⟨.chp_prbs_cfg_gen, 0, 3⟩, ⟨.chp_prbs_cfg_chk, 3, 3⟩, ⟨.chp_prbs_cfg_inv, 6, 1⟩,
     ⟨.chp_prbs_cfg_inj_one, 7, 1⟩, ⟨.chp_prbs_cfg_inj_rate, 8, 5⟩, ⟨.chp_prbs_cfg_inj_fcs, 13, 1⟩,
     ⟨.chp_prbs_cfg_prbs_rej, 14, 1⟩]⟩,
  -- CHP_PRBS_STATUS
  ⟨0x4002c, [⟨0x4000, 4, 1⟩], 64, [
     ⟨.chp_prbs_status_lock, 0, 1⟩, ⟨.chp_prbs_status_err, 32, 32⟩]⟩,
  -- CHP_EVENT
  ⟨0x40034, [⟨0x4000, 4, 1⟩], 32, [
     ⟨.chp_event_event, 0, 8⟩, ⟨.chp_event_event_en, 16, 8⟩]⟩,
  -- CHP_FAB
  ⟨0x43000, [], 32, [
     ⟨.chp_fab_addr, 0, 16⟩, ⟨.chp_fab_root, 16, 1⟩, ⟨.chp_fab_topo, 17, 1⟩, ⟨.chp_fab_state, 18, 2⟩,
     ⟨.chp_fab_ring, 20, 1⟩, ⟨.chp_fab_trunc, 21, 1⟩]⟩
  ]

/-- Registers of the block CHP_. -/
def regsChp1 : List RegDef := [
  -- CHP_FAB_COUNT
  ⟨0x43004, [], 32, [
     ⟨.chp_fab_count_count, 0, 16⟩, ⟨.chp_fab_count_depth, 16, 16⟩]⟩,
  -- CHP_UID
  ⟨0x43008, [], 64, [
     ⟨.chp_uid_uid, 0, 64⟩]⟩,
  -- CHP_RING
  ⟨0x43010, [], 32, [
     ⟨.chp_ring_cut_a, 0, 16⟩, ⟨.chp_ring_cut_b, 16, 16⟩]⟩,
  -- CHP_RING_STATUS
  ⟨0x43014, [], 32, [
     ⟨.chp_ring_status_size, 0, 6⟩, ⟨.chp_ring_status_cut_down, 6, 1⟩, ⟨.chp_ring_status_wrap_cnt, 16, 16⟩]⟩,
  -- CHP_REMOTE
  ⟨0x43018, [], 32, [
     ⟨.chp_remote_accept, 0, 1⟩, ⟨.chp_remote_class_en, 16, 16⟩]⟩,
  -- CHP_REMOTE_TO
  ⟨0x4301c, [], 32, [
     ⟨.chp_remote_to_ack_to, 0, 16⟩, ⟨.chp_remote_to_exec_to, 16, 16⟩]⟩
  ]

/-- Registers of the block CHS_. -/
def regsChs0 : List RegDef := [
  -- CHS_PORT_CFG
  ⟨0x50000, [⟨0x1000, 4, 1⟩], 32, [
     ⟨.chs_port_cfg_ovh, 0, 8⟩, ⟨.chs_port_cfg_commit, 16, 1⟩, ⟨.chs_port_cfg_pend, 17, 1⟩,
     ⟨.chs_port_cfg_reject, 18, 1⟩, ⟨.chs_port_cfg_clr, 19, 1⟩]⟩,
  -- CHS_CYCLE
  ⟨0x50004, [⟨0x1000, 4, 1⟩], 32, [
     ⟨.chs_cycle_cycle, 0, 24⟩]⟩,
  -- CHS_PHASE
  ⟨0x50008, [⟨0x1000, 4, 1⟩], 32, [
     ⟨.chs_phase_phase, 0, 24⟩]⟩,
  -- CHS_CHANGE
  ⟨0x50010, [⟨0x1000, 4, 1⟩], 128, [
     ⟨.chs_change_subns, 0, 16⟩, ⟨.chs_change_ns, 16, 32⟩, ⟨.chs_change_sec, 48, 48⟩]⟩,
  -- CHS_OPER
  ⟨0x50020, [⟨0x1000, 4, 1⟩], 32, [
     ⟨.chs_oper_cycle_act, 0, 24⟩, ⟨.chs_oper_entry, 24, 6⟩]⟩,
  -- CHS_BOUND
  ⟨0x50024, [⟨0x1000, 4, 1⟩], 32, [
     ⟨.chs_bound_w6, 0, 16⟩, ⟨.chs_bound_d6_0, 16, 16⟩]⟩,
  -- CHS_ABORT
  ⟨0x50028, [⟨0x1000, 4, 1⟩], 32, [
     ⟨.chs_abort_abort, 0, 16⟩]⟩,
  -- CHS_GCL_ADMIN
  ⟨0x50100, [⟨0x1000, 4, 64⟩, ⟨0x4, 64, 1⟩], 32, [
     ⟨.chs_gcl_admin_interval, 0, 24⟩, ⟨.chs_gcl_admin_gates, 24, 8⟩]⟩,
  -- CHS_GCL_OPER
  ⟨0x50200, [⟨0x1000, 4, 64⟩, ⟨0x4, 64, 1⟩], 32, [
     ⟨.chs_gcl_oper_interval, 0, 24⟩, ⟨.chs_gcl_oper_gates, 24, 8⟩]⟩,
  -- CHS_CBS
  ⟨0x50300, [⟨0x1000, 4, 4⟩, ⟨0x8, 3, 1⟩], 64, [
     ⟨.chs_cbs_idleslope, 0, 15⟩, ⟨.chs_cbs_en, 15, 1⟩, ⟨.chs_cbs_hicredit, 16, 16⟩, ⟨.chs_cbs_credit, 32, 32⟩]⟩,
  -- CHS_QSTAT
  ⟨0x50400, [⟨0x1000, 4, 8⟩, ⟨0x8, 8, 1⟩], 64, [
     ⟨.chs_qstat_depth, 0, 16⟩, ⟨.chs_qstat_hol, 16, 16⟩, ⟨.chs_qstat_qdrop, 32, 16⟩,
     ⟨.chs_qstat_oversize, 48, 16⟩]⟩,
  -- CHS_SMP_CFG
  ⟨0x54000, [], 32, [
     ⟨.chs_smp_cfg_en, 0, 1⟩, ⟨.chs_smp_cfg_k, 4, 5⟩, ⟨.chs_smp_cfg_ovw, 16, 16⟩]⟩
  ]

/-- Registers of the block CHS_. -/
def regsChs1 : List RegDef := [
  -- CHS_POL_CFG
  ⟨0x55000, [⟨0x10, 8, 1⟩], 32, [
     ⟨.chs_pol_cfg_en, 0, 1⟩, ⟨.chs_pol_cfg_mode, 1, 1⟩, ⟨.chs_pol_cfg_burst, 4, 13⟩]⟩,
  -- CHS_POL_RATE
  ⟨0x55004, [⟨0x10, 8, 1⟩], 32, [
     ⟨.chs_pol_rate_rate, 0, 24⟩]⟩,
  -- CHS_POL_STATUS
  ⟨0x55008, [⟨0x10, 8, 1⟩], 32, [
     ⟨.chs_pol_status_level, 0, 13⟩, ⟨.chs_pol_status_held, 13, 1⟩, ⟨.chs_pol_status_pol_cnt, 16, 16⟩]⟩
  ]

/-- Registers of the block MBX_. -/
def regsMbx : List RegDef := [
  -- MBX_CTRL
  ⟨0x10000, [⟨0x1000, 8, 1⟩], 32, [
     ⟨.mbx_ctrl_en, 0, 1⟩, ⟨.mbx_ctrl_irq_thresh, 8, 8⟩, ⟨.mbx_ctrl_irq_time, 16, 16⟩]⟩,
  -- MBX_STATUS
  ⟨0x10004, [⟨0x1000, 8, 1⟩], 32, [
     ⟨.mbx_status_rdy, 0, 1⟩, ⟨.mbx_status_err, 1, 1⟩, ⟨.mbx_status_db_err, 2, 1⟩,
     ⟨.mbx_status_err_cause, 4, 4⟩, ⟨.mbx_status_held, 8, 1⟩, ⟨.mbx_status_inflight, 16, 13⟩]⟩,
  -- MBX_SQ_BASE
  ⟨0x10008, [⟨0x1000, 8, 1⟩], 64, [
     ⟨.mbx_sq_base_base, 12, 52⟩]⟩,
  -- MBX_CQ_BASE
  ⟨0x10010, [⟨0x1000, 8, 1⟩], 64, [
     ⟨.mbx_cq_base_base, 12, 52⟩]⟩,
  -- MBX_QCFG
  ⟨0x10018, [⟨0x1000, 8, 1⟩], 32, [
     ⟨.mbx_qcfg_sq_log, 0, 5⟩, ⟨.mbx_qcfg_cq_log, 8, 5⟩]⟩,
  -- MBX_TAGS
  ⟨0x1001c, [⟨0x1000, 8, 1⟩], 32, [
     ⟨.mbx_tags_tag_base, 0, 14⟩, ⟨.mbx_tags_tag_count, 16, 13⟩]⟩,
  -- MBX_SQ_DB
  ⟨0x10020, [⟨0x1000, 8, 1⟩], 32, [
     ⟨.mbx_sq_db_sq_tail, 0, 16⟩, ⟨.mbx_sq_db_sq_head, 16, 16⟩]⟩,
  -- MBX_CQ_DB
  ⟨0x10024, [⟨0x1000, 8, 1⟩], 32, [
     ⟨.mbx_cq_db_cq_head, 0, 16⟩, ⟨.mbx_cq_db_cq_tail, 16, 16⟩]⟩,
  -- MBX_EXPERT
  ⟨0x10028, [⟨0x1000, 8, 1⟩], 32, [
     ⟨.mbx_expert_cpt, 0, 4⟩, ⟨.mbx_expert_device, 4, 1⟩, ⟨.mbx_expert_blocks, 16, 13⟩]⟩,
  -- MBX_TR_CONS
  ⟨0x10100, [⟨0x1000, 8, 64⟩, ⟨0x4, 48, 1⟩], 32, [
     ⟨.mbx_tr_cons_cons, 0, 32⟩]⟩,
  -- MBX_TR_STATUS
  ⟨0x10200, [⟨0x1000, 8, 64⟩, ⟨0x4, 48, 1⟩], 32, [
     ⟨.mbx_tr_status_en, 0, 1⟩, ⟨.mbx_tr_status_ring_err, 1, 1⟩, ⟨.mbx_tr_status_tr_rej, 16, 16⟩]⟩
  ]

/-- Registers of the block FBK_. -/
def regsFbk : List RegDef := [
  -- FBK_STATUS
  ⟨0x90000, [], 32, [
     ⟨.fbk_status_state, 0, 2⟩, ⟨.fbk_status_fb_ok, 2, 1⟩, ⟨.fbk_status_session, 3, 1⟩,
     ⟨.fbk_status_link, 4, 1⟩, ⟨.fbk_status_reset_pend, 5, 1⟩, ⟨.fbk_status_pw_set, 6, 1⟩,
     ⟨.fbk_status_out_on, 8, 4⟩, ⟨.fbk_status_out_wait, 12, 4⟩, ⟨.fbk_status_demand, 16, 4⟩,
     ⟨.fbk_status_pair_fault, 20, 4⟩, ⟨.fbk_status_sources, 24, 6⟩]⟩,
  -- FBK_FAULT
  ⟨0x90004, [], 32, [
     ⟨.fbk_fault_cause, 0, 8⟩, ⟨.fbk_fault_obj, 8, 8⟩, ⟨.fbk_fault_rst_ign, 16, 8⟩, ⟨.fbk_fault_tp_miss, 24, 8⟩]⟩,
  -- FBK_EVENT
  ⟨0x90008, [], 32, [
     ⟨.fbk_event_event, 0, 8⟩, ⟨.fbk_event_event_en, 16, 8⟩]⟩,
  -- FBK_PAIR_CFG
  ⟨0x90100, [⟨0x4, 4, 1⟩], 32, [
     ⟨.fbk_pair_cfg_in_mode, 0, 2⟩, ⟨.fbk_pair_cfg_filt, 2, 5⟩, ⟨.fbk_pair_cfg_edm_out, 7, 2⟩,
     ⟨.fbk_pair_cfg_disc, 9, 10⟩, ⟨.fbk_pair_cfg_edm_t, 19, 10⟩]⟩,
  -- FBK_OUT_CFG
  ⟨0x90110, [⟨0x4, 4, 1⟩], 32, [
     ⟨.fbk_out_cfg_out_en, 0, 1⟩, ⟨.fbk_out_cfg_restart, 1, 1⟩, ⟨.fbk_out_cfg_out_src, 2, 5⟩,
     ⟨.fbk_out_cfg_apr_cpt, 7, 4⟩]⟩,
  -- FBK_SRC_CFG
  ⟨0x90120, [⟨0x4, 6, 1⟩], 32, [
     ⟨.fbk_src_cfg_dark, 0, 4⟩, ⟨.fbk_src_cfg_heat, 4, 4⟩]⟩,
  -- FBK_APR_CFG
  ⟨0x90140, [], 32, [
     ⟨.fbk_apr_cfg_na_assert, 0, 4⟩, ⟨.fbk_apr_cfg_apr_dark, 4, 2⟩]⟩,
  -- FBK_CFG_CRC
  ⟨0x90150, [], 32, [
     ⟨.fbk_cfg_crc_crc, 0, 32⟩]⟩,
  -- FBK_LOG
  ⟨0x90154, [], 32, [
     ⟨.fbk_log_pending, 0, 6⟩, ⟨.fbk_log_log_lost, 16, 16⟩]⟩,
  -- FBK_DARK_PORTS
  ⟨0x90200, [⟨0x4, 32, 1⟩], 32, [
     ⟨.fbk_dark_ports_dark, 0, 32⟩]⟩,
  -- FBK_NOT_DARK
  ⟨0x90280, [⟨0x4, 32, 1⟩], 32, [
     ⟨.fbk_not_dark_not_dark, 0, 32⟩]⟩
  ]

/-- Registers of the block FLT_. -/
def regsFlt : List RegDef := [
  -- FLT_STATUS
  ⟨0x20000, [], 32, [
     ⟨.flt_status_ce, 0, 1⟩, ⟨.flt_status_uc, 1, 1⟩, ⟨.flt_status_ft, 2, 1⟩, ⟨.flt_status_errn, 8, 1⟩,
     ⟨.flt_status_lost, 16, 16⟩]⟩,
  -- FLT_ERR
  ⟨0x20004, [], 32, [
     ⟨.flt_err_latch, 0, 1⟩, ⟨.flt_err_ack, 1, 1⟩, ⟨.flt_err_force, 2, 1⟩, ⟨.flt_err_first_src, 16, 16⟩]⟩,
  -- FLT_LOG_SEQ
  ⟨0x20008, [], 32, [
     ⟨.flt_log_seq_next, 0, 32⟩]⟩,
  -- FLT_NOTICE
  ⟨0x2000c, [], 32, [
     ⟨.flt_notice_dst, 0, 16⟩, ⟨.flt_notice_rx_cnt, 16, 16⟩]⟩,
  -- FLT_INJ
  ⟨0x20010, [], 32, [
     ⟨.flt_inj_checker, 0, 8⟩, ⟨.flt_inj_bits, 8, 2⟩, ⟨.flt_inj_mode, 10, 2⟩, ⟨.flt_inj_arm, 12, 1⟩,
     ⟨.flt_inj_done_cnt, 16, 16⟩]⟩,
  -- FLT_POLICY
  ⟨0x20100, [⟨0x4, 96, 1⟩], 32, [
     ⟨.flt_policy_react, 0, 7⟩, ⟨.flt_policy_mand, 8, 7⟩, ⟨.flt_policy_perm, 16, 7⟩, ⟨.flt_policy_class, 24, 2⟩]⟩
  ]

/-- Registers of the block HKP_. -/
def regsHkp0 : List RegDef := [
  -- HKP_STATUS
  ⟨0xa0000, [], 32, [
     ⟨.hkp_status_round, 0, 16⟩, ⟨.hkp_status_warn, 16, 1⟩, ⟨.hkp_status_limit, 17, 1⟩,
     ⟨.hkp_status_broken, 18, 1⟩, ⟨.hkp_status_sup_out, 19, 1⟩, ⟨.hkp_status_throttle, 20, 1⟩,
     ⟨.hkp_status_first_done, 21, 1⟩]⟩,
  -- HKP_THR_CFG
  ⟨0xa0004, [], 32, [
     ⟨.hkp_thr_cfg_gain, 0, 10⟩]⟩,
  -- HKP_THR_STATUS
  ⟨0xa0008, [], 32, [
     ⟨.hkp_thr_status_p_therm, 0, 16⟩, ⟨.hkp_thr_status_worst, 16, 5⟩]⟩,
  -- HKP_THR_EXCESS
  ⟨0xa000c, [], 32, [
     ⟨.hkp_thr_excess_excess, 0, 16⟩]⟩,
  -- HKP_EVENT
  ⟨0xa0010, [], 32, [
     ⟨.hkp_event_event, 0, 8⟩, ⟨.hkp_event_event_en, 16, 8⟩]⟩,
  -- HKP_SNS_LIM
  ⟨0xa0100, [⟨0x10, 20, 1⟩], 32, [
     ⟨.hkp_sns_lim_warn, 0, 16⟩, ⟨.hkp_sns_lim_limit, 16, 16⟩]⟩,
  -- HKP_SNS_CFG
  ⟨0xa0104, [⟨0x10, 20, 1⟩], 32, [
     ⟨.hkp_sns_cfg_thr, 0, 16⟩, ⟨.hkp_sns_cfg_rate_max, 16, 8⟩, ⟨.hkp_sns_cfg_hyst, 24, 2⟩,
     ⟨.hkp_sns_cfg_thr_en, 26, 1⟩, ⟨.hkp_sns_cfg_brk_pol, 27, 1⟩, ⟨.hkp_sns_cfg_cpt, 28, 4⟩]⟩,
  -- HKP_SNS_MEAN
  ⟨0xa0108, [⟨0x10, 20, 1⟩], 32, [
     ⟨.hkp_sns_mean_mean, 0, 16⟩]⟩,
  -- HKP_SNS_STATUS
  ⟨0xa010c, [⟨0x10, 20, 1⟩], 32, [
     ⟨.hkp_sns_status_t, 0, 16⟩, ⟨.hkp_sns_status_rate, 16, 8⟩, ⟨.hkp_sns_status_warn, 24, 1⟩,
     ⟨.hkp_sns_status_limit, 25, 1⟩, ⟨.hkp_sns_status_rise, 26, 1⟩, ⟨.hkp_sns_status_broken, 27, 1⟩,
     ⟨.hkp_sns_status_absent, 28, 1⟩]⟩,
  -- HKP_SUP_WIN
  ⟨0xa0300, [⟨0x10, 7, 1⟩], 32, [
     ⟨.hkp_sup_win_lo, 0, 16⟩, ⟨.hkp_sup_win_hi, 16, 16⟩]⟩,
  -- HKP_SUP_STATUS
  ⟨0xa0304, [⟨0x10, 7, 1⟩], 32, [
     ⟨.hkp_sup_status_v, 0, 16⟩, ⟨.hkp_sup_status_out, 16, 1⟩, ⟨.hkp_sup_status_out_cnt, 24, 8⟩]⟩,
  -- HKP_IACT
  ⟨0xa0380, [], 32, [
     ⟨.hkp_iact_i, 0, 16⟩]⟩
  ]

/-- Registers of the block HKP_. -/
def regsHkp1 : List RegDef := [
  -- HKP_FLASH
  ⟨0xa0390, [], 32, [
     ⟨.hkp_flash_inhibit, 0, 1⟩, ⟨.hkp_flash_refused, 16, 16⟩]⟩
  ]

/-- Registers of the block BOOT_. -/
def regsBoot : List RegDef := [
  -- BOOT_STATUS
  ⟨0xc0000, [], 32, [
     ⟨.boot_status_bank, 0, 1⟩, ⟨.boot_status_fallback, 1, 1⟩, ⟨.boot_status_sig_ok, 2, 1⟩,
     ⟨.boot_status_recovery, 3, 1⟩, ⟨.boot_status_staged_fw, 4, 1⟩, ⟨.boot_status_staging, 5, 1⟩,
     ⟨.boot_status_activating, 6, 1⟩, ⟨.boot_status_boots, 16, 8⟩]⟩,
  -- BOOT_FW_VER
  ⟨0xc0004, [], 32, [
     ⟨.boot_fw_ver_version, 0, 32⟩]⟩,
  -- BOOT_STAGED_VER
  ⟨0xc0008, [], 32, [
     ⟨.boot_staged_ver_version, 0, 32⟩]⟩,
  -- BOOT_FUSE
  ⟨0xc0010, [], 32, [
     ⟨.boot_fuse_sig_enf, 0, 1⟩, ⟨.boot_fuse_jtag_lock, 1, 1⟩, ⟨.boot_fuse_revoke, 4, 4⟩,
     ⟨.boot_fuse_svn_fuse, 8, 7⟩]⟩,
  -- BOOT_FUSE_PROG
  ⟨0xc0014, [], 32, [
     ⟨.boot_fuse_prog_code, 0, 16⟩, ⟨.boot_fuse_prog_prog_fail, 16, 1⟩]⟩
  ]

/-- Every register of the map (R368). -/
def regTable : List RegDef :=
  regsGlb ++ regsUst0 ++ regsUst1 ++ regsCal ++ regsStx0 ++ regsStx1 ++ regsStx2 ++ regsTrv ++ regsDtm0 ++ regsDtm1 ++ regsChp0 ++ regsChp1 ++ regsChs0 ++ regsChs1 ++ regsMbx ++ regsFbk ++ regsFlt ++ regsHkp0 ++ regsHkp1 ++ regsBoot

end Sys2Proof.Machine
end

