-- ==== Sys2Proof/Machine/Tbl.lean ====
section
/-! DEFINITION. Sparse tables: a list of (key, value) pairs in one canonical form, keys strictly rising and no entry equal
to what an unlisted key reads as. Equal tables are then equal lists. -/

namespace Sys2Proof.Machine

/-- A sparse table of values by number. What an unlisted key reads as is given at each access. -/
abbrev Tbl (α : Type) := List (Nat × α)

/-- The value at key `k`; `d` is what an unlisted key reads as. -/
def Tbl.get {α : Type} (d : α) : Tbl α → Nat → α
  | [], _ => d
  | (j, v) :: r, k => if j = k then v else Tbl.get d r k

/-- The table without key `k`. -/
def Tbl.drop {α : Type} (t : Tbl α) (k : Nat) : Tbl α := t.filter (fun p => p.1 != k)

/-- An entry put in its place before the first greater key. -/
def Tbl.put {α : Type} : Tbl α → Nat → α → Tbl α
  | [], k, v => [(k, v)]
  | (j, w) :: r, k, v => if k < j then (k, v) :: (j, w) :: r else (j, w) :: Tbl.put r k v

/-- The table with key `k` reading as `v`; writing what an unlisted key reads as removes the entry. -/
def Tbl.set {α : Type} [DecidableEq α] (d : α) (t : Tbl α) (k : Nat) (v : α) : Tbl α :=
  if v = d then Tbl.drop t k else Tbl.put (Tbl.drop t k) k v

/-- The table with the value at key `k` changed by `f`. -/
def Tbl.modify {α : Type} [DecidableEq α] (d : α) (t : Tbl α) (k : Nat) (f : α → α) : Tbl α :=
  Tbl.set d t k (f (Tbl.get d t k))

/-- The table with the values of the keys in `ks` changed by `f`. -/
def Tbl.modifyAll {α : Type} [DecidableEq α] (d : α) (t : Tbl α) (ks : List Nat) (f : Nat → α → α) : Tbl α :=
  ks.foldl (fun t k => Tbl.modify d t k (f k)) t

/-- The keys of a table strictly rise. -/
def Tbl.rising {α : Type} : Tbl α → Bool
  | [] => true
  | [_] => true
  | (i, _) :: (j, w) :: r => decide (i < j) && Tbl.rising ((j, w) :: r)

/-- The canonical form: keys strictly rising and no entry that reads as an unlisted key does (`dflt k`). -/
def Tbl.wf {α : Type} [DecidableEq α] (dflt : Nat → α) (t : Tbl α) : Bool :=
  Tbl.rising t && t.all (fun p => decide (p.2 ≠ dflt p.1))

end Sys2Proof.Machine
end

