-- ==== Sys2Proof/Machine/Types.lean ====
section
/-! DEFINITION. The types that the state is built of and every part shares: status codes, completions, what the module
puts out, fault reports and log entries. -/

namespace Sys2Proof.Machine

/-- The status codes of R391. -/
inductive Status where
  | ok | busy | invalidOpcode | invalidField | outOfPartition | notPermitted | policed | fenced | alreadyCommitted
  | notFound | solveBlocked | calRejected | tempInhibit | tripActive | safetyLockout | remoteTimeout | tagExhausted
  | expertRequired | authFailed | datumUnlocked | internal
  deriving DecidableEq, Repr

/-- The code of a status (R391). -/
def Status.code : Status → Nat
  | .ok => 0x00 | .busy => 0x01 | .invalidOpcode => 0x02 | .invalidField => 0x03 | .outOfPartition => 0x04
  | .notPermitted => 0x05 | .policed => 0x06 | .fenced => 0x07 | .alreadyCommitted => 0x08 | .notFound => 0x09
  | .solveBlocked => 0x0A | .calRejected => 0x0B | .tempInhibit => 0x0C | .tripActive => 0x0D
  | .safetyLockout => 0x0E | .remoteTimeout => 0x0F | .tagExhausted => 0x10 | .expertRequired => 0x11
  | .authFailed => 0x12 | .datumUnlocked => 0x13 | .internal => 0xFF

/-- The status that a code stands for (R391); an unassigned code reads as INTERNAL. -/
def Status.ofCode (c : Nat) : Status :=
  match c with
  | 0x00 => .ok | 0x01 => .busy | 0x02 => .invalidOpcode | 0x03 => .invalidField | 0x04 => .outOfPartition
  | 0x05 => .notPermitted | 0x06 => .policed | 0x07 => .fenced | 0x08 => .alreadyCommitted | 0x09 => .notFound
  | 0x0A => .solveBlocked | 0x0B => .calRejected | 0x0C => .tempInhibit | 0x0D => .tripActive | 0x0E => .safetyLockout
  | 0x0F => .remoteTimeout | 0x10 => .tagExhausted | 0x11 => .expertRequired | 0x12 => .authFailed
  | 0x13 => .datumUnlocked | _ => .internal

/-- The result part of a completion entry (R379): status, RES0 to RES2 and CFLAGS. -/
structure Completion where
  status : Status
  res0 : Nat := 0
  res1 : Nat := 0
  res2 : Nat := 0
  cflags : Nat := 0
  deriving DecidableEq, Repr

/-- A command that has been admitted and whose completion is not posted (R380, R384): its number within this run of the
module, its tag, IMM, whether it has reached its effect point, and its completion once that falls due. `remote` names
the request that a command of another module belongs to (R341). -/
structure Flight where
  id : Nat
  tag : Nat
  imm : Bool
  eff : Bool := false
  comp : Option Completion := none
  remote : Option (Nat × Nat) := none
  deriving DecidableEq, Repr

/-- The command that owns an operation in progress: its mailbox and the number of its flight. -/
structure Owner where
  mbx : Nat
  id : Nat
  deriving DecidableEq, Repr

/-- A response of the PF's DOE mailbox by its content (R477; DESIGN CHOICE: not the bytes, whose layout is the PCI-SIG's and the
DMTF's). -/
inductive DoeResp where
  /-- DOE discovery: vendor, type, next index (0: none). -/
  | discovery (vendor type next : Nat)
  /-- SPDM ERROR: UnsupportedRequest, Busy, UnexpectedRequest, InvalidRequest. -/
  | unsupported
  | busy
  | unexpected
  | invalid
  /-- VERSION: 1.2 as 0x12. -/
  | version (v : Nat)
  /-- CAPABILITIES: CERT_CAP, CHAL_CAP, MEAS_CAP, CTExponent. -/
  | capabilities (cert chal : Bool) (meas ctExponent : Nat)
  /-- ALGORITHMS: DMTF measurements, ECDSA P-384, SHA-384 for both hashes. -/
  | algorithms
  /-- DIGESTS: the slot mask and the digest of slot 0's chain. -/
  | digests (slots digest : Nat)
  /-- CERTIFICATE: a portion of slot 0's chain and the bytes that remain. -/
  | certificate (portion : List Nat) (remainder : Nat)
  /-- CHALLENGE_AUTH: the digest of slot 0's chain and a signature. -/
  | challengeAuth (digest signature : Nat)
  /-- MEASUREMENTS: index, type and digest of each, the number of indices, a signature where one is asked for. -/
  | measurements (count : Nat) (blocks : List (Nat × Nat × Nat)) (signature : Option Nat)
  deriving DecidableEq, Repr

/-- What the module puts out at its interfaces, in order (DESIGN CHOICE: the model's own list; the spec gives the
outputs, not a list of them). -/
inductive Output where
  /-- A completion entry at index `slot` of a completion ring (R375, R379). -/
  | completion (mbx slot : Nat) (c : Completion) (tag : Nat) (phase : Bool)
  /-- Bytes written to host memory for a mailbox, at an address (R365). -/
  | hostWrite (mbx addr : Nat) (bytes : List Nat)
  /-- An MSI-X message of a function, by vector (R372). -/
  | msix (fn vector : Nat)
  /-- A frame leaves a chain port, with its bytes (R325, R326); `bad` says that its FCS is inverted (R324, R347). -/
  | frame (port : Nat) (f : Frame) (wire : List Nat) (bad : Bool)
  /-- One bit of the test pattern of a port is inverted, or the sync header of its next block (R324). -/
  | inject (port : Nat) (header : Bool)
  /-- A Cairn frame is delivered inside this module (R334). -/
  | delivered (port : Nat) (c : Cairn)
  /-- A pulse of a time output pin: 0 to 3 for TRIG0 to TRIG3, 4 for PPS_OUT; start in 2^-16 ns, width in ns (R310, R312). -/
  | pulse (pin start width : Nat)
  /-- A DOE or SPDM response (R477). -/
  | doe (r : DoeResp)
  /-- ERR_N driven low (true) or released (R443). -/
  | errN (low : Bool)
  deriving DecidableEq, Repr

/-- An entry of the fault log (R446); `time` is the Datum P time at detection in 2^-16 ns. -/
structure LogEntry where
  seq : Nat
  time : Nat
  locked : Bool
  injected : Bool
  persisted : Bool
  remote : Bool
  cls : Nat
  source : Nat
  react : Nat
  mailbox : Nat
  objKind : Nat
  reps : Nat
  object : Nat
  detail : Nat
  deriving DecidableEq, Repr

end Sys2Proof.Machine
end

