-- ==== Sys2Proof/Machine/StateFbk.lean ====
section
/-! DEFINITION. Firebreak (file 14) beside the registers that show it. Its time base counts samples of 100 µs (R405). -/

namespace Sys2Proof.Machine

/-- A safety input as its channel samples it (R407, R408): its latest level, the samples that it has been low and high in a
row, whether it is decided low, and consecutive pulses missed and cross-shorts seen. -/
structure FInput where
  level : Bool := false
  lowRun : Nat := 0
  highRun : Nat := 0
  dec : Bool := false
  stuck : Nat := 0
  crossed : Nat := 0
  deriving DecidableEq, Repr

/-- An input pair (R406, R409, R416): its two inputs, demand, fault, the samples that it has been healthy without demand, the
sample at which one input alone was decided low with which it was (true: channel B), and whether an EDM pair has reached its expected state. -/
structure FPair where
  a : FInput := {}
  b : FInput := {}
  demand : Bool := false
  fault : Bool := false
  okFor : Nat := 0
  first : Option Nat := none
  firstB : Bool := false
  reached : Bool := false
  deriving DecidableEq, Repr

/-- A safety output (R411): whether it is on, and the sample of its latest change. -/
structure FOut where
  on : Bool := false
  changedAt : Nat := 0
  deriving DecidableEq, Repr

/-- One of the two stored copies of the configuration (R404): the parameters by code and index, the salt and digest of the
password, and its age. -/
structure FCopy where
  cfg : Tbl Nat
  pw : Option (Nat × Nat)
  gen : Nat
  deriving DecidableEq, Repr

/-- An entry of the change log (R432); `time` is none where it is not valid. -/
structure FLog where
  seq : Nat
  time : Option Nat
  locked : Bool
  mailbox : Nat
  kind : Nat
  param : Nat := 0
  old : Nat := 0
  new : Nat := 0
  detail : Nat := 0
  deriving DecidableEq, Repr

/-- Firebreak: STATE of R431, samples since its start, pairs, outputs, the operational configuration and password, the two
stored copies, the staged values of a session with the sample of the latest safety command of MB0 (R427), failed openings
in a row and the sample of the fifth (R426), the link, the sample of the edge that set RESET_PEND (R425), the counters and
T_LOCK of R431, the log in flash, the entries held and the next sequence number (R432), the samples for which each
compartment has had no counted flag, the compartments with one, and what it has asked of the Crown: the ports to darken with the
frame of the request, and the gates to release with that frame (R418, R420). -/
structure FbkSt where
  state : Nat := 0
  tick : Nat := 0
  pairs : Tbl FPair := []
  outs : Tbl FOut := []
  cfg : Tbl Nat := []
  pw : Option (Nat × Nat) := none
  copyA : Option FCopy := none
  copyB : Option FCopy := none
  session : Bool := false
  staged : Tbl Nat := []
  stagedPw : Option (Nat × Nat) := none
  lastCmd : Nat := 0
  fails : Nat := 0
  blockedAt : Option Nat := none
  link : Bool := false
  pend : Option Nat := none
  demands : Nat := 0
  lockouts : Nat := 0
  authFail : Nat := 0
  tLock : Nat := 0
  log : List FLog := []
  held : List FLog := []
  logNext : Nat := 0
  aprOk : Tbl Nat := []
  apr : Nat := 0
  want : List (Nat × Nat) := []
  release : List (Nat × Nat) := []
  deriving DecidableEq, Repr

end Sys2Proof.Machine
end

