-- ==== Sys2Proof/Machine/StateHost.lean ====
section
/-! DEFINITION. The state of the host interface (file 13), the fault collector (15), housekeeping (16) and boot (17),
beside what stands in the register file. -/

namespace Sys2Proof.Machine

/-- An expert unlock in force (R392): its scope kind, WHICH, its TTL in s (0: none) and the frame in which that started. -/
structure Unlock where
  kind : Nat
  which : Nat
  ttl : Nat
  since : Nat := 0
  deriving DecidableEq, Repr

/-- The partition of a mailbox beside its tag range (R381): the slot range, the expert right and the object bitmaps. -/
structure Partition where
  slotBase : Nat := 0
  slotCount : Nat := 0
  expert : Bool := false
  inPorts : Nat := 0
  outPorts : Nat := 0
  elements : Nat := 0
  monitors : Nat := 0
  deriving DecidableEq, Repr

/-- A mailbox beside its registers: fetched entries of 64 bytes not yet admitted, each with the remote request it came by
(R374, R341), whether a DMA error has stopped fetching (R377), commands in flight in submission
order (R380, R385), Bus Master Enable and D3hot of its function (R366), the completion phase and the entries not released
(R375), unannounced completions, the frame in which the oldest of them was posted and whether one has IMM (R376), the partition (R381), the unlocks (R392), the token level
in 1/1,024 of a command times 10^9 (R358), and the read pointer of the fault log (R449). -/
structure Mbx where
  fetched : List (List Nat × Option (Nat × Nat)) := []
  stopped : Bool := false
  flight : List Flight := []
  busMaster : Bool := false
  d3hot : Bool := false
  phase : Bool := true
  unreleased : Nat := 0
  unannounced : Nat := 0
  oldestAt : Nat := 0
  immPending : Bool := false
  part : Partition := {}
  unlocks : List Unlock := []
  level : Nat := 64 * 1024 * 1000000000
  logPtr : Nat := 0
  deriving DecidableEq, Repr

/-- A telemetry ring (R397): RLOG, RECSZ, ORIGIN, THRESH, BASE, WB, TIME, the records written and dropped, the count at
the latest announcement and the frame in which the first record after it was written (R399). -/
structure Ring where
  rlog : Nat := 8
  recsz : Nat := 16
  origin : Nat := 0
  thresh : Nat := 0
  base : Nat := 0
  wb : Nat := 0
  time : Nat := 0
  prod : Nat := 0
  drop : Nat := 0
  announced : Nat := 0
  firstAt : Nat := 0
  deriving DecidableEq, Repr

/-- A telemetry source bound to a ring or a chain destination (R400, R401); `phase` counts the rounds of records of each
group (a compartment, or 0) toward DEC. -/
structure TelSource where
  mbx : Nat
  ring : Nat
  source : Nat
  first : Nat
  count : Nat
  dec : Nat
  dest : Nat
  phase : Tbl Nat := []
  deriving DecidableEq, Repr

/-- What this module keeps for one destination ring of the chain (R401): records sent, records dropped. -/
structure TelDest where
  dest : Nat
  ring : Nat
  seq : Nat := 0
  dropped : Nat := 0
  deriving DecidableEq, Repr

/-- The host endpoint as a whole: the mailbox admitted last (R383), the next flight number, whether admission is open
(R470), the link: PERST_N and its training (R471), the telemetry sources and destinations,
the low halves of 64-bit registers that await their high half (R369), and the writes to host memory (mailbox, address, bytes) that
wait for Bus Master Enable, oldest first (R366). -/
structure HostSt where
  lastMbx : Nat := 7
  nextId : Nat := 0
  admission : Bool := false
  perstHigh : Bool := false
  training : Bool := false
  sources : List TelSource := []
  dests : List TelDest := []
  lows : Tbl (Option Nat) := []
  held : List (Nat × Nat × List Nat) := []
  deriving DecidableEq, Repr

/-- An armed fault injection (R453). -/
structure Inj where
  checker : Nat
  bits : Nat
  mode : Nat
  mbx : Nat
  deriving DecidableEq, Repr

/-- The fault collector beside its registers: faults reported and not yet logged, the SRAM log (oldest first) and the
flash copy (R448), the sequence number of the first ERRPIN fault since the latch was cleared, whether it has been read
and nothing newer logged since, the frame before which ERR_N stays low (R443), compartments whose further faults raise no INT (R441), the time of the latest
notice of each source in 2^-16 ns (R451), and the reactions decided and not yet carried out. -/
structure FltSt where
  started : Bool := false
  reports : List FaultRep := []
  log : List LogEntry := []
  flash : List LogEntry := []
  firstErr : Option Nat := none
  ackReady : Bool := false
  errTo : Nat := 0
  quiet : List Nat := []
  noticeLast : Tbl (Option Nat) := []
  injections : List Inj := []
  brstPending : List (Nat × Nat) := []
  drstPending : Bool := false
  fencePending : List Nat := []
  nmiCount : Nat := 0
  dead : Bool := false
  deriving DecidableEq, Repr

/-- A housekeeping sensor beside its registers: the readings of the latest 10 rounds, the means of the latest 100 rounds,
newest first, valid rounds in a row, and good rounds in a row while BROKEN (R458, R459). -/
structure Sensor where
  readings : List Int := []
  means : List Int := []
  good : Nat := 0
  deriving DecidableEq, Repr

/-- Housekeeping beside its registers: whether the sequencer runs (R454), its sensors, the rounds inside the narrowed window
of each supply (R466), the rounds for which each Understory die has not responded (R460). -/
structure HkpSt where
  started : Bool := false
  sensors : Tbl Sensor := []
  supGood : Tbl Nat := []
  deaf : Tbl Nat := []
  deriving DecidableEq, Repr

/-- A firmware image in a flash bank (R473): its bytes. -/
abbrev Image := List Nat

/-- A measurement register (R475, R476): its value of 384 bits, its extensions and F at the latest. -/
structure MReg where
  value : Nat := 0
  count : Nat := 0
  frame : Nat := 0
  deriving DecidableEq, Repr

/-- A staging that this module sends to another module (R480), with the frame of its latest DATA and that at which the whole image
was acknowledged. -/
structure Xfer where
  owner : Owner
  kind : Nat
  xferId : Nat
  dst : Nat
  image : Image
  acked : Nat := 0
  attempts : Nat := 0
  sentAt : Nat := 0
  wholeAt : Option Nat := none
  deriving DecidableEq, Repr

/-- The receiving end of a remote staging (R480). -/
structure XferIn where
  src : Nat
  kind : Nat
  xferId : Nat
  total : Nat
  data : Image := []
  frames : Nat := 0
  deriving DecidableEq, Repr

/-- Boot and trust beside its registers: the two flash banks and the active-bank marker (R472), the measurement registers,
the step reached (0 before the release, 8 once admission is open), transfers, the firmware activation step of R286, the frame at which
Forester restarts and its owner,
the SPDM exchange (R477), the JTAG instruction in force (R482) and the reference clock (R500). -/
structure BootSt where
  bankA : Option Image := none
  bankB : Option Image := none
  activeB : Bool := false
  mregs : Tbl MReg := []
  step : Nat := 0
  xferOut : Option Xfer := none
  xferIn : Option XferIn := none
  nextXfer : Nat := 0
  actStep : Nat := 0
  actAt : Nat := 0
  actOwner : Option Owner := none
  spdmVersion : Bool := false
  spdmCaps : Bool := false
  spdmAlgs : Bool := false
  jtag : Nat := 1
  clkref : Bool := true
  deriving DecidableEq, Repr

end Sys2Proof.Machine
end

