-- ==== Sys2Proof/Machine/StateLoop.lean ====
section
/-! DEFINITION. The converters, channels and element loops beside what stands in the register file (files 03 to 07).
Frame numbers count frames since POR or DRST; drives are in FDU (R171), currents in pA, instants in 2^-16 ns. -/

namespace Sys2Proof.Machine

/-! ## Converters (file 03) -/

/-- The frames from `first` to `last` of a monitor are invalid for `cause` (R80); a range change names its element (R130). -/
structure Span where
  cause : Nat
  first : Nat
  last : Nat
  elem : Option Nat := none
  deriving DecidableEq, Repr

/-- A precision window, pending or running (R85): its start frame, its length, whether it runs, whether its start was named by
a Datum time, the sequence number and frame counter of its start, what it has met, and the commands that it belongs to. -/
structure PwWin where
  start : Nat
  len : Nat
  running : Bool := false
  byTime : Bool := false
  seq : Nat := 0
  startF : Nat := 0
  invalid : Nat := 0
  ovr : Bool := false
  subst : Bool := false
  lenChg : Bool := false
  cmds : List Nat := []
  deriving DecidableEq, Repr

/-- A monitor beside its registers: the range asked for and not yet in force with the frame of the request (R76), its invalid spans, the valid frames in a
row that count toward a change of its low and its high side (R92), its precision window, the trigger queued with the
commands it belongs to and the boundary before which its window does not start (R85), the frame up to which a takeover or
return keeps windows from starting (R87), windows started, the commands that have armed it and the mailbox of the latest of
them (R90). -/
structure Mon where
  want : Option (Nat × Nat) := none
  spans : List Span := []
  lowCnt : Nat := 0
  highCnt : Nat := 0
  win : Option PwWin := none
  queue : Option (List Nat) := none
  queueAt : Nat := 0
  noStart : Nat := 0
  winSeq : Nat := 0
  cont : Bool := false
  armed : List Nat := []
  mbx : Nat := 0
  deriving DecidableEq, Repr

/-- A PRECISION_MEASURE in progress (R90): its command, its number, mode, buffer, whether records go to rings, the monitors
whose window it still awaits, and the records of the windows that have ended, by monitor. -/
structure PwCmd where
  num : Nat
  owner : Owner
  mode : Nat
  buf : Nat
  first : Nat
  rings : Bool
  remote : Option (Nat × Nat)
  waiting : List Nat
  records : List (Nat × List Nat) := []
  fenced : Bool := false
  done : Bool := false
  deriving DecidableEq, Repr

/-- The coefficients of one slice on one range (R98, R99): its offset and its gain error, in ppm of full scale and ppm. -/
structure Coef where
  offset : Int := 0
  gain : Int := 0
  deriving DecidableEq, Repr

/-- A background or system calibration record (R112), times in 2^-16 ns. -/
structure CalRec where
  result : Nat := 0
  count : Nat := 0
  success : Nat := 0
  attempt : Nat := 0
  deriving DecidableEq, Repr

/-- A slice: 0 to 31 the monitor slices of a group, 32 its Benchmark slice (R96): its coefficients by range, its rejections in a
row, whether it has failed, and its record. -/
structure Slice where
  coefs : List Coef := [{}, {}, {}, {}]
  rejects : Nat := 0
  failed : Bool := false
  log : CalRec := {}
  deriving DecidableEq, Repr

/-- A converter group beside its registers: the frame at which its position fell due, whether its takeover has been made, its
position's result, new coefficients that wait for the return, the frame at which its monitor's return began, whether a
system calibration wants its monitor back (R106), the frame of its latest accepted result, its slices, its
references by range in pA (REF_L, REF_H) and new ones that flash holds and that wait (R110), and its system records in
flash, newest first (R112). -/
structure Grp where
  due : Nat := 0
  taken : Bool := false
  judged : Bool := false
  pendingCoefs : Option (List Coef) := none
  returnAt : Option Nat := none
  back : Bool := false
  acceptedAt : Nat := 0
  slices : Tbl Slice := []
  refs : List (Rat × Rat) := []
  newRefs : Option (List (Rat × Rat)) := none
  zero : List Rat := []
  points : List (Option (Rat × Rat)) := [none, none, none, none]
  system : List CalRec := []
  deriving DecidableEq, Repr

/-- What one frame delivered: its frame number, its frame counter, the readings in frame LSB (unlisted monitors read 0), the
causes of invalid monitors, the cause that holds for each compartment, the ranges of monitors that are not on range 3, the
monitors that the Benchmark slice served, and the elements whose pilot was off. -/
structure FrameRec where
  num : Nat
  ctr : Nat
  samples : Tbl Int
  causes : Tbl Nat
  cpts : List Nat
  ranges : Tbl Nat
  subst : List Nat
  noPilot : List Nat
  deriving DecidableEq, Repr

/-! ## Elements (files 04 to 07) -/

/-- An element calibration record (R225): binary32 values by their bits, times in 2^-16 ns. -/
structure ElCal where
  flags : Nat := 0
  result : Nat := 0
  count : Nat := 0
  success : Nat := 0
  attempt : Nat := 0
  ff0 : Nat := 0
  ff1 : Nat := 0
  ssp0 : Int := 0
  ssp1 : Int := 0
  s0 : Nat := 0
  s1 : Nat := 0
  k : Nat := 0
  theta0 : Nat := 0
  theta1 : Nat := 0
  tco : Nat := 0
  tCal : Int := 0
  deriving DecidableEq, Repr

/-- A jump profile (R136). -/
structure Prof where
  count : Nat := 2
  flags : Nat := 0
  t2 : Nat := 1
  t3 : Nat := 0
  t4 : Nat := 0
  a1 : Nat := 32768
  a2 : Nat := 0
  a3 : Nat := 0
  rsv : Nat := 0
  deriving DecidableEq, Repr

/-- Where a jump leads (R186): to a target, to an override value, to the clear code on release, back to a frozen drive, back to
an override value after a clear, or to darkness. -/
inductive JumpGoal where
  | target | override | clearPark | frozen | manualBack | dark
  deriving DecidableEq, Repr

/-- A jump in progress (R139, R153): start and target values, the profile taken at its start, its start frame, impulses played,
whether its trajectory has ended, where it leads, the command that waits for it and the Clearing that it belongs to. -/
structure Jump where
  vs : Int
  vt : Int
  prof : Prof
  at0 : Nat
  played : Nat := 0
  ended : Bool := false
  goal : JumpGoal
  owner : Option Owner := none
  clr : Option Nat := none
  deriving DecidableEq, Repr

/-- What an ELEMENT_SET, an ELEMENT_RELEASE or a sweep has scheduled for an element (R186): an override with its value, a
release, a new setpoint drive with a slope setpoint where one is given, a return to service, a new slope setpoint. -/
inductive Sched where
  | override (v : Int)
  | release
  | setpoint (ff : Nat) (ssp : Option Int)
  | sigma (v : Int)
  | return
  deriving DecidableEq, Repr

/-- A V-mode range change in progress (R129): its start frame, the new range, whether the switch has been made, the voltage to
return to, and its command. -/
structure RangeChg where
  at0 : Nat
  hi : Bool
  started : Bool := false
  switched : Bool := false
  ramping : Bool := false
  back : Int := 0
  owner : Option Owner := none
  deriving DecidableEq, Repr

/-- An element beside the map, the registers and its record (R20, R186, R198): its state, target, the target at which it was
frozen, drive in force, output voltage and whether the deglitcher holds it, whether its output is at its clear code
awaiting a first commit, integrator and I_mem in 1/256 FDU, FF_c and σ_sp where set, coefficient set, T_e, the frame
counter at its latest change of state, the frame of its entry to SETTLE, the frame from which its
window holds frames, the periods since, σ, Q_0 normalised, q and their count,
ε in FDU, flags, the drive computed for the next boundary, the latest drives written, supervision, what is
in progress (`ampLog`: the pilot amplitudes in FDU with the frame from which each acts, newest first), and whether its
target or its feed-forward has changed while its output was at the clear code or its heater off (R125, R159), and the
darkening jump of a gate with the frame up to which its integrator is held for one (R418, R419), the impulses that the
deglitcher holds, oldest first (R121), the frame up to which a range change keeps its state (R129), further commands that
wait for its return (R206), the ε of its latest verdict (R199), the frame of the verdict that makes it SUSPECT (R203), and
whether its latest drive was clipped at the top or at 0 (R180), and the boundary index of the latest drive that its channel
applied, none since POR, DRST or CRST (R265). `next` is exact: a drive is rounded when it is written
(R171); `drives` holds the latest drives written, newest first, with their frames. -/
structure Elem where
  state : Nat := 0
  tgt : Nat := 0
  frozenTgt : Nat := 0
  drive : Int := 0
  out : Int := 0
  held : Bool := false
  waiting : Bool := true
  integ : Int := 0
  imem0 : Int := 0
  imem1 : Int := 0
  ffc : Option Nat := none
  ssp : Option Int := none
  coefSet : Nat := 0
  te : Rat := 0
  since : Nat := 0
  settleAt : Nat := 0
  winFrom : Nat := 0
  periods : Nat := 0
  sigma : Int := 0
  quad : Int := 0
  q : Int := 0
  nv : Nat := 0
  eps : Int := 0
  gap : Bool := false
  dark : Bool := false
  satHi : Bool := false
  satLo : Bool := false
  clamp : Int := 0
  next : Option Rat := none
  drives : List (Nat × Int) := []
  supCnt : Nat := 0
  supChecks : Nat := 0
  supExcused : Bool := false
  uopt : Option Rat := none
  dGood : Int := 0
  suspectDue : Bool := false
  override : Int := 0
  jump : Option Jump := none
  sched : Option (Sched × Nat × Option Owner) := none
  rchg : Option RangeChg := none
  amp : Nat := 64
  ampLog : List (Nat × Nat) := []
  fencedFrom : Nat := 0
  readyAt : Nat := 0
  catchUp : Option (Nat × Option Owner) := none
  newRec : Option ElCal := none
  jumpAt : List Nat := []
  retgt : Bool := false
  djump : Option Jump := none
  darkTo : Nat := 0
  play : List Int := []
  keepTo : Nat := 0
  joint : List Owner := []
  epsSup : Int := 0
  suspectAt : Nat := 0
  clipHi : Bool := false
  clipLo : Bool := false
  writeIdx : Option Nat := none
  deriving DecidableEq, Repr

/-- What the Stand held of an element at its latest loop-period boundary (R198, the element window). -/
structure Shown where
  state : Nat := 0
  flags : Nat := 0
  drive : Nat := 0
  integ : Int := 0
  eps : Int := 0
  sigma : Int := 0
  quad : Int := 0
  q : Int := 0
  nv : Nat := 0
  coefSet : Nat := 0
  since : Nat := 0
  supCnt : Nat := 0
  supChecks : Nat := 0
  supDark : Bool := false
  supExcused : Bool := false
  uopt : Int := 0
  deriving DecidableEq, Repr

/-- The two switches of a half-bridge at a tick (R147): which is closed, and for how many ticks each has been open. -/
structure Bridge where
  high : Bool := false
  low : Bool := false
  highOpen : Nat := 65536
  lowOpen : Nat := 65536
  deriving DecidableEq, Repr

/-- An H-mode channel beside its registers (R146, R147, R150, R155): its carried residue in ticks, whether its latest pulse of at
least 32 ticks has been measured since it left high impedance, the duty of step 2 in 1/65,536, the DIRECT pair asked for,
the shadow registers that auto commit will transfer (0 period, 1 A, 2 B), the compares in force before R148, the
tick, counted since POR or DRST, of its next period boundary, its switches at that boundary, and the ticks for which the
period in progress conducts. -/
structure HCh where
  residue : Rat := 0
  measured : Bool := false
  duty : Rat := 0
  due : List Nat := []
  a0 : Nat := 0
  b0 : Nat := 0
  nextAt : Option Nat := none
  bridge : Bridge := {}
  on : Nat := 0
  deriving DecidableEq, Repr

/-- A system calibration step in progress (R106, R107, R111): its start frame, the frames that it takes on each group, its command
and the step code that CAL_SYSCAL_STATUS shows. -/
structure SysStep where
  at0 : Nat
  per : Nat
  owner : Owner
  code : Nat
  deriving DecidableEq, Repr

/-- A compartment beside its registers: a period and window change that waits (PSEL, WSEL, frame, command), a commit of
coefficients that waits (frame and command), whether its start-up or rejoin pass runs, the frame from which its tripped
or cleared heaters resume, the frame at which CLR_N was released until its outputs return (R126), the system calibration
step that runs and the frame of the latest step, the frame at which its latest loop-period boundary was computed, and the
frame of a coefficient swap that this boundary has still to rescale (R184). -/
structure Cpt where
  change : Option (Nat × Nat × Nat × Option Owner) := none
  swap : Option (Nat × Option Owner) := none
  pass : Bool := true
  passFrom : Nat := 0
  resumeAt : Option Nat := none
  returnAt : Option Nat := none
  step : Option SysStep := none
  stepAt : Nat := 0
  ranAt : Option Nat := none
  rescaleAt : Option Nat := none
  deriving DecidableEq, Repr

/-- A transfer-calibration sweep in progress (R219): its element, the CAL_RUN that asked for it, coarse and fine points measured
(drive, mean current in pA, slope in the units of the fit, in-phase and quadrature), the points still to be made,
the record that it replaces, and whether its element has been darkened (R422). -/
structure Sweep where
  elem : Nat
  run : Option Nat
  points : List (Nat × Rat × List (Rat × Rat)) := []
  coarse : Bool := true
  todo : List Nat := []
  old : ElCal := {}
  dimmed : Bool := false
  deriving DecidableEq, Repr

/-- A CAL_RUN of MODE 0 in progress (R224): its number, its command, the elements that have no result yet, the results, and
the frame of its deadline. -/
structure CalRun where
  num : Nat
  owner : Owner
  waiting : List Nat
  results : List Nat := []
  fenced : Bool := false
  deadline : Nat := 0
  deriving DecidableEq, Repr

/-- An outer loop beside its registers (R212): the frame of the latest interval end, and since then the frames counted at the
tap and the sum of its readings in units of 1/32,768 pA. -/
structure Outer where
  from0 : Nat := 0
  cnt : Nat := 0
  sum : Int := 0
  deriving DecidableEq, Repr

/-- A MONITOR_READ that waits for its frame (R390); `ranged` says that its RANGE_SET asked for a range. -/
structure ReadCmd where
  h : Hdr
  owner : Owner
  first : Nat
  count : Nat
  buf : Nat
  ranged : Bool
  deriving DecidableEq, Repr

/-- The converters, channels and loops beside the registers: frames since POR or DRST, the latest frame and the frames of the
longest window (newest first), monitors, groups, precision commands, MONITOR_READs, elements that the module itself wants swept
(R110), accepted records whose
flash write has not ended (element, record, CAL_RUN; R226), elements, what the latest boundaries showed of them (R198), H-mode channels, compartments, profiles
in flash, calibration records in SRAM and in flash, sweeps, CAL_RUN commands, outer loops, tripped driver groups (48 n + g),
and the pins: CLR_N low as the V-mode path has qualified it, the heaters held by the H-mode qualification,
the gates that darkening holds (R418), and the compartments whose heaters Firebreak wants off (R157). -/
structure LoopSt where
  frames : Nat := 0
  hist : List FrameRec := []
  mons : Tbl Mon := []
  grps : Tbl Grp := []
  pwCmds : List PwCmd := []
  reads : List ReadCmd := []
  nextPw : Nat := 0
  elems : Tbl Elem := []
  shown : Tbl Shown := []
  hch : Tbl HCh := []
  cpts : Tbl Cpt := []
  profs : Tbl Prof := []
  cal : Tbl ElCal := []
  calFlash : Tbl ElCal := []
  sweeps : List Sweep := []
  runs : List CalRun := []
  nextRun : Nat := 0
  outers : Tbl Outer := []
  calWant : List Nat := []
  calPend : List (Nat × ElCal × Option Nat) := []
  tripped : List Nat := []
  clrLow : Bool := false
  heatClear : Bool := false
  dark : List Nat := []
  fbHeat : List Nat := []
  deriving DecidableEq, Repr

end Sys2Proof.Machine
end

