-- ==== Sys2Proof/Machine/StateMap.lean ====
section
/-! DEFINITION. The element map in force and its storage (file 02). -/

namespace Sys2Proof.Machine

/-- An element record (R49): ROLE, FLAGS, OWNER, the two monitors with their signed weights in Q1.14, PILOT_K, the two profile
indices, DRIVE_MAX, and what its reserved bytes hold. -/
structure ElemRec where
  role : Nat := 0
  flags : Nat := 0
  owner : Nat := 0xFFFF
  mon0 : Nat := 0xFFFF
  mon1 : Nat := 0xFFFF
  pilotK : Nat := 0
  profFwd : Nat := 0
  profRev : Nat := 0
  wgt0 : Int := 0
  wgt1 : Int := 0
  driveMax : Nat := 0
  rsv : Nat := 0
  deriving DecidableEq, Repr

/-- PRESENT of FLAGS (R49). -/
def ElemRec.present (r : ElemRec) : Bool := r.flags.testBit 0

/-- PILOT_EN of FLAGS (R49). -/
def ElemRec.pilotEn (r : ElemRec) : Bool := r.flags.testBit 1

/-- RANGE_HI of FLAGS (R49). -/
def ElemRec.rangeHi (r : ElemRec) : Bool := r.flags.testBit 2

/-- Whether the element is an actuator of a cell (R50). -/
def ElemRec.isCell (r : ElemRec) : Bool := r.role == 1 || r.role == 2

/-- A monitor record (R55). -/
structure MonRec where
  use : Nat := 0
  initRange : Nat := 0
  owner : Nat := 0xFFFF
  lolNa : Nat := 0
  flags : Nat := 0
  pilots : Nat := 0
  rsv : Nat := 0
  deriving DecidableEq, Repr

/-- FB_WATCH of FLAGS (R55). -/
def MonRec.fbWatch (r : MonRec) : Bool := r.flags.testBit 0

/-- A port record (R56). -/
structure PortRec where
  use : Nat := 0
  gate : Nat := 0xFFFF
  phase : Nat := 0xFFFF
  pol : Nat := 0xFFFF
  tap : Nat := 0xFFFF
  gateDark : Nat := 0
  rsv : Nat := 0
  deriving DecidableEq, Repr

/-- A cell record (R58). -/
structure CellRec where
  stage : Nat := 0
  kind : Nat := 0
  position : Nat := 0
  elemA : Nat := 0xFFFF
  elemB : Nat := 0xFFFF
  monitor : Nat := 0xFFFF
  rsv : Nat := 0
  deriving DecidableEq, Repr

/-- A sensor record (R48). -/
structure SensRec where
  type : Nat := 0
  leadMohm : Nat := 0
  ideality : Nat := 0
  rsv : Nat := 0
  deriving DecidableEq, Repr

/-- An element map (R45, R46): `created` is CREATED[47:0], the Datum seconds at creation; ORIGIN and ORIGIN_VER name the tool that
wrote it. -/
structure EMap where
  magic : Nat := 0
  version : Nat := 0
  cells : Nat := 0
  length : Nat := 0
  topology : Nat := 0
  ports : Nat := 0
  dieId : Nat := 0
  serial : Nat := 0
  created : Nat := 0
  origin : Nat := 0
  originVer : Nat := 0
  hdrRsv : Nat := 0
  gapRsv : Nat := 0
  rails : List Nat := []
  sensors : List SensRec := []
  elems : Tbl ElemRec := []
  mons : Tbl MonRec := []
  portRecs : Tbl PortRec := []
  cellRecs : Tbl CellRec := []
  crc : Nat := 0
  deriving DecidableEq, Repr

/-- The record of element `e`. -/
def EMap.elem (m : EMap) (e : Nat) : ElemRec := Tbl.get {} m.elems e

/-- The record of monitor `x`. -/
def EMap.mon (m : EMap) (x : Nat) : MonRec := Tbl.get {} m.mons x

/-- Port record `p`: input port p below 512, output port p − 512 above (R56). -/
def EMap.portRec (m : EMap) (p : Nat) : PortRec := Tbl.get {} m.portRecs p

/-- Cell record `c`. -/
def EMap.cell (m : EMap) (c : Nat) : CellRec := Tbl.get {} m.cellRecs c

/-- The map in force, the two flash slots, the active-slot marker (R64, R68), the command of an activation in progress (R67), and
whether the map is being reread after an uncorrectable error (R435). -/
structure MapSt where
  force : Option EMap := none
  slotA : Option (List Nat) := none
  slotB : Option (List Nat) := none
  activeB : Bool := false
  change : Option Owner := none
  reread : Bool := false
  deriving DecidableEq, Repr

end Sys2Proof.Machine
end

