-- ==== Sys2Proof/Machine/StateNet.lean ====
section
/-! DEFINITION. The state of Datum (file 10), the chain ports and the fabric (11) and the chain scheduler (12), beside what
stands in the register file. -/

namespace Sys2Proof.Machine

/-- A domain that Datum tracks (R292, R298): Syncs or edges collected in a row, Syncs or edges in a row within the lock
threshold (R298), beyond ten times it (R299) and with a valid offset estimate (R306), the latest offset in 2^-16 ns and the rate
held with it in 2^-48 (R306), whether it has acquired, what the upstream announces (R294), a two-step Sync that awaits its
Follow_Up (sequence, ingress time, correction), the seconds that the next PPS edge stands for and when they were given (R311), how
many edges in a row came more than 1 µs off (R299), the module's time at the latest Sync or edge and at the latest Announce, the
latest Sync's sequence, and whether the source was lost for want of Syncs (R299). -/
structure Domain where
  valid : Nat := 0
  within : Nat := 0
  beyond : Nat := 0
  good : Nat := 0
  offset : Int := 0
  rate : Int := 0
  syncAt : Nat := 0
  annAt : Nat := 0
  lastSeq : Option Nat := none
  noSync : Bool := false
  acquired : Bool := false
  gmClass : Nat := 0
  gmId : Nat := 0
  utc : Nat := 0
  traceable : Bool := false
  announced : Bool := false
  awaiting : Option (Nat × Nat × Int) := none
  tod : Option Nat := none
  todAt : Nat := 0
  late : Nat := 0
  deriving DecidableEq, Repr

/-- An entry of a transmit timestamp queue (R297). -/
structure TsqEntry where
  seq : Nat
  msgType : Nat
  domain : Nat
  time : Nat
  deriving DecidableEq, Repr

/-- PTP on a chain port beside its registers: the latest link delays in 2^-16 ns, newest first (R294), the open Pdelay
exchange (sequence, egress time; then the responder's receipt time and our ingress time), the responder's sending time
and our ingress time of the exchange before (for the neighbour rate ratio), the next sequence
identifiers, when a Sync (0 and 1, by domain), a Pdelay_Req (2) and an Announce (4 and 5) was last sent, and the transmit timestamp
queue (R297). -/
structure PtpPort where
  delays : List Int := []
  reqOpen : Option (Nat × Option Nat) := none
  resp : Option (Nat × Nat × Nat) := none
  lastResp : Option (Nat × Nat) := none
  nextSync : Nat := 0
  nextPdelay : Nat := 0
  nextAnnounce : Nat := 0
  sent : Tbl (Option Nat) := []
  tsq : List TsqEntry := []
  deriving DecidableEq, Repr

/-- A TRIG pin beside its registers: the START in force in 2^-16 ns and the pulses it has begun, whether a pulse is due,
and the FIFO of edges (time, rising) oldest first (R312, R313, R314). -/
structure Trig where
  start : Nat := 0
  pulses : Nat := 0
  armed : Bool := false
  fifo : List (Nat × Bool) := []
  deriving DecidableEq, Repr

/-- Datum beside its registers: the clock in 2^-16 ns (R288, R290), the two domains, the pending grid step (K, remainder in
2^-16 ns, the frame of the decision) and the command that asked for one (R300), the time at the entry to HOLDOVER (R303),
whether a step was made since POR or DRST and the steps since POR (R316), whether Datum P has reached the end of ACQUIRING since
POR or DRST (R300), the servo's rate estimate in 2^-48 (R302, R303), the PTP ports, the TRIG pins, the latch of DTM_TIME (R290), and
a switch
that waits for the next frame boundary, with the SELECT commands that asked for it, none where it is automatic (R307). -/
structure DatumSt where
  t : Nat := 0
  dom0 : Domain := {}
  dom1 : Domain := {}
  stepPlan : Option (Int × Int × Nat) := none
  stepWanted : Bool := false
  stepOwners : List Owner := []
  heldSince : Option Nat := none
  stepped : Bool := false
  steps : Nat := 0
  firstDone : Bool := false
  est : Int := 0
  ports : Tbl PtpPort := []
  trigs : Tbl Trig := []
  latch : Option (Nat × Nat) := none
  switchDue : Option (List Owner) := none
  deriving DecidableEq, Repr

/-- A chain port beside its registers: the neighbour's ROLE, EPOCH, BLOCK_HI and DEPTH of its latest HELLO (R321), the
neighbour recorded at enumeration (UID, address, role, range, R333), an armed INJ_FCS (R324), and the frame in which the latest HELLO
was sent. -/
structure Port where
  nRole : Nat := 0
  nEpoch : Nat := 0
  nBlockHi : Nat := 0
  nDepth : Nat := 0
  known : Option (Nat × Nat × Nat × Nat × Nat) := none
  injFcs : Bool := false
  helloAt : Nat := 0
  deriving DecidableEq, Repr

/-- An exploration in progress (R329, R330): whether the root still waits after CLEAR, the port being explored, whether its
ASSIGN has been acknowledged, the next free address, whether an address beyond 2,000 was wanted, the command, and the frames in
which CLEAR, ASSIGN or the child's latest BUSY was met and in which this module last sent BUSY. -/
structure Explore where
  waiting : Bool
  port : Option Nat
  busySeen : Bool
  nextAddr : Nat
  trunc : Bool
  owner : Option Owner
  since : Nat := 0
  busyAt : Nat := 0
  deriving DecidableEq, Repr

/-- A REMOTE command that this module originated and that is outstanding (R339, R341), with the frames in which it was admitted and in
which its request was last sent. -/
structure RemoteOut where
  owner : Owner
  reqId : Nat
  dst : Nat
  tc : Nat
  execTo : Nat
  rspLen : Nat
  rspBuf : Nat
  body : List Nat
  data : List Nat
  attempts : Nat
  acked : Bool
  startAt : Nat := 0
  sentAt : Nat := 0
  deriving DecidableEq, Repr

/-- A request that another module sent (R341), with its request data and its response area: executing, or completed with its
response, and the frame in which that was last sent. -/
structure RemoteIn where
  src : Nat
  reqId : Nat
  rspLen : Nat
  tc : Nat
  req : List Nat
  data : List Nat
  response : Option (List Nat × List Nat)
  attempts : Nat
  acked : Bool
  doneAt : Nat
  sentAt : Nat := 0
  deriving DecidableEq, Repr

/-- The fabric beside its registers (R329, R335, R336): the epoch and the epochs used, the depths of all addresses, the
topology entries at the root, the ring list (address, BLOCK_HI) and the index of the cut in it (link j joins position j to
the next, the last to the root), an exploration, this module's port toward its parent and the parent's address, the sequence number of each KIND (R326),
and the remote transport. -/
structure FabSt where
  epoch : Nat := 0
  used : List Nat := []
  depths : List Nat := []
  topo : List TopoEntry := []
  ring : List (Nat × Nat) := []
  cut : Nat := 0
  explore : Option Explore := none
  parentPort : Nat := 0
  parentAddr : Nat := 0
  blockHi : Nat := 0
  seqs : Tbl Nat := []
  nextReq : Nat := 0
  outReqs : List RemoteOut := []
  inReqs : List RemoteIn := []
  deriving DecidableEq, Repr

/-- A frame in a transmit queue: its bytes with the FCS, and whether its FCS goes out inverted. -/
structure QFrame where
  frame : Frame
  bytes : Nat
  bad : Bool := false
  deriving DecidableEq, Repr

/-- An accepted gate control list that waits for its switch instant (R350), times in ns. -/
structure GclPlan where
  entries : List (Nat × Nat)
  cycle : Nat
  phase : Nat
  switchAt : Nat
  deriving DecidableEq, Repr

/-- A port of the chain scheduler beside its registers (R345 to R362): eight queues, the frames waiting in the Crown, the
frame in transmission (class, end time, frame), the operational phase in ns, the pending list, the shapers in force
(EN, IDLESLOPE, HICREDIT, by class), the credits of TC1 to TC3 in bits, the instant up to which credits are reckoned, the
classes whose queue was empty before the frames that came since (a bit set), the instants at which heads came to their
place, and the sample ring (48-byte entries, oldest first) with its sequence number and flags. Instants are in 0.01 ns
of module time. -/
structure SchPort where
  queues : Tbl (List QFrame) := []
  crown : Tbl (List QFrame) := []
  tx : Option (Nat × Nat × QFrame) := none
  operPhase : Nat := 0
  plan : Option GclPlan := none
  shaper : Tbl (Bool × Nat × Nat) := []
  credit : Tbl Rat := []
  creditAt : Nat := 0
  fresh : List Nat := []
  headAt : Tbl Nat := []
  samples : List (List Nat) := []
  sampleSeq : Nat := 0
  switched : Bool := false
  stepped : Bool := false
  deriving DecidableEq, Repr

end Sys2Proof.Machine
end

