-- ==== Sys2Proof/Machine/StateTrv.lean ====
section
/-! DEFINITION. Traverse beside its registers (file 08): the state library, solves, the Clearing queue, chain-scoped
Clearings; and the Stands beside theirs (file 09). Frames are frame counters F of Datum P. -/

namespace Sys2Proof.Machine

/-- A permutation: the 32-bit entry of each input port (R241); an unlisted port is idle. -/
abbrev Perm := Tbl Nat

/-- A solution (R232, R239): the state of each cell record by its bit (1 CROSS), whether idle entries were completed, RESULT of
R240, the disturbed circuits with the number of their cells that change, and the number of cells that change. -/
structure Solution where
  bits : Nat
  completed : Bool
  result : Nat
  disturbed : List (Nat × Nat)
  changed : Nat
  deriving DecidableEq, Repr

/-- A cached cell vector of a slot (R243): its solution, the generation and the MAP_SERIAL that it was solved under, and the
PERM_CRC of the permutation solved (R232). -/
structure Cached where
  sol : Solution
  gen : Nat
  serial : Nat
  crc : Nat
  deriving DecidableEq, Repr

/-- A slot of the state library (R243, R244). -/
structure Slot where
  perm : Perm := []
  valid : Bool := false
  persist : Bool := false
  gen : Nat := 0
  cache : Option Cached := none
  deriving DecidableEq, Repr

/-- A permutation with the cell states that make it, as the fabric holds it or will hold it. -/
structure Fabric where
  perm : Perm := []
  bits : Nat := 0
  deriving DecidableEq, Repr

/-- A participant of a chain-scoped Clearing as its originator keeps it (R258, R260). -/
structure Part where
  addr : Nat
  slot : Nat
  accepted : Bool := false
  rejected : Bool := false
  reported : Bool := false
  status : Nat := 0
  flags : Nat := 0
  moved : Nat := 0
  notMoved : Nat := 0
  deriving DecidableEq, Repr

/-- A solve asked for (R235): the command, whether it is a commit, its source, the permutation asked for, and the commit's
parameters (R248); `origin` is the originator of a participant's part, `remote` says that this is another module. -/
structure Job where
  h : Hdr
  owner : Option Owner
  commit : Bool
  slot : Nat
  gen : Nat
  perm : Perm
  mind : Bool
  maxDist : Nat
  rpt : Nat := 0
  vec : Nat := 0
  exec : Option Nat := none
  clrId : Nat := 0
  chain : Bool := false
  atomic : Bool := false
  origin : Option Nat := none
  remote : Bool := false
  sol : Option Solution := none
  cached : Bool := false
  deriving DecidableEq, Repr

/-- A Clearing (R252, R264): what was asked, its solution, the frame that it executes at, whether Datum P was locked when it
was queued, the jumps armed at its point of no return (R279), and once executed its counts and the moved elements that
have not entered SETTLE (R31). -/
structure Clearing where
  job : Job
  fab : Fabric
  sol : Solution
  crc : Nat
  frame : Nat
  locked : Bool
  diff : List Nat := []
  armed : Bool := false
  arms : List (Nat × Int × Bool) := []
  late : Bool := false
  holdover : Bool := false
  fencedHit : Bool := false
  moved : Nat := 0
  notMoved : Nat := 0
  toSettle : List Nat := []
  deriving DecidableEq, Repr

/-- A record of a finished Clearing (R264). -/
structure ClrRec where
  mbx : Nat
  bytes : List Nat
  deriving DecidableEq, Repr

/-- A chain-scoped Clearing at its originator (R260): the command, its execution frame, the hop count H, the participants, the
address of the list, and whether its abort deadline has passed or it has been aborted. -/
structure ChainClr where
  job : Job
  frame : Nat
  hops : Nat
  parts : List Part
  plist : Nat
  deadline : Bool := false
  split : Bool := false
  deriving DecidableEq, Repr

/-- Traverse beside its registers: the slots in SRAM and their flash copies, the start-up slot kept in flash, the state in
force, solves waiting in admission order, the solve that runs, solved commits not yet queued, the queue in execution
order, executed Clearings with elements still to settle, the latest 256 finished ones newest first, and chain-scoped
Clearings that this module originated, and those of them that were aborted, newest first (R261). -/
structure TrvSt where
  slots : Tbl Slot := []
  flash : Tbl Slot := []
  boot : Option Nat := none
  force : Fabric := {}
  forceCrc : Nat := 0
  waiting : List Job := []
  running : Option Job := none
  solved : List Job := []
  queue : List Clearing := []
  active : List Clearing := []
  done : List ClrRec := []
  chains : List ChainClr := []
  ended : List ChainClr := []
  seq : Nat := 0
  deriving DecidableEq, Repr

/-- A handover in progress (R274): its cause, the outgoing and the incoming Stand, the compartments in which an overlap has not
ended, and causes of R271 of the incoming Stand that are held until it ends. -/
structure Handover where
  cause : Nat
  src : Nat
  dst : Nat
  overlap : List Nat := []
  held : List Nat := []
  deriving DecidableEq, Repr

/-- A service operation of a compartment (R280 to R283): a fence that waits (frame of its admission, commands),
a reset and a rejoin with their commands, and whether the rejoin pass has ended. -/
structure Svc where
  fenceAt : Option (Nat × List Owner) := none
  reset : Option Owner := none
  rejoin : Option Owner := none
  passed : Bool := false
  deriving DecidableEq, Repr

/-- The Stands beside their registers (R265 to R278): the boundary index of each compartment, the
open write paths (Stand A, Stand B), a handover in progress, a commanded handover that waits (frame of its admission,
cause, command), the Stand that copies loop state with the compartments still to copy, the returns that have not ended (command,
frame of its deadline), the Stands under BRST, compartments that await their resumption after a freeze, compartments whose shadow copy is
due after a mismatch, and service by compartment. -/
structure StandSt where
  index : Tbl Nat := []
  openA : Bool := true
  openB : Bool := false
  handover : Option Handover := none
  command : Option (Nat × Nat × Option Owner) := none
  copying : Option (Nat × List Nat) := none
  returnBy : List (Option Owner × Nat) := []
  reset : List Nat := []
  resume : List Nat := []
  recopy : List Nat := []
  svc : Tbl Svc := []
  deriving DecidableEq, Repr

end Sys2Proof.Machine
end

