-- ==== Sys2Proof/Machine/State.lean ====
section
/-! DEFINITION. The whole state of the block as plain data, its reset, and the reasons a step can stop. -/

namespace Sys2Proof.Machine

/-- Faults of the model. A step of this block raises none: every command has an effect, a status or a discard. -/
inductive Fault where
  /-- Raised by nothing; it keeps the type inhabited. Safe. -/
  | never
  deriving DecidableEq, Repr

/-- Refusals of the model. -/
inductive Refusal where
  /-- Raised by exec for a command that has no meaning yet. Safe: the machine stops where the hardware goes on. -/
  | notModelled (mnemonic : String)
  deriving DecidableEq, Repr

/-- The state of the block. `regs` is the register file: the home of every register field, by name and index (Fid),
where it differs from its reset value. The other parts hold what the spec gives the machine beside its registers. -/
structure State where
  regs : Tbl Nat := []
  map : MapSt := {}
  loop : LoopSt := {}
  trv : TrvSt := {}
  stand : StandSt := {}
  mbx : Tbl Mbx := []
  rings : Tbl Ring := []
  host : HostSt := {}
  flt : FltSt := {}
  hkp : HkpSt := {}
  fbk : FbkSt := {}
  boot : BootSt := {}
  datum : DatumSt := {}
  ports : Tbl Port := []
  fab : FabSt := {}
  sch : Tbl SchPort := []
  free : Nat := 0
  out : List Output := []
  pending : List Instr := []
  deriving DecidableEq, Repr

/-- The machine right after POR: every register field at its reset value, every other part as its structure's defaults
say, no command waiting (R13). -/
def State.reset : State := {}

/-- What a step answers. -/
abbrev Result := Host.Outcome State Fault Refusal

end Sys2Proof.Machine
end

