-- ==== Sys2Proof/Machine/Ops.lean ====
section
/-! DEFINITION. The named operations that every meaning uses: register fields, outputs, faults, commands in flight and
their completions, host buffers, free values. -/

namespace Sys2Proof.Machine

/-! ## The register file -/

/-- The key of field `f` with index `i` in the register file. -/
def regKey (f : Fid) (i : Nat) : Nat := i * 1024 + f.ctorIdx

/-- The value of field `f` with index `i` (R9). -/
def State.rd (s : State) (f : Fid) (i : Nat) : Nat := Tbl.get (f.reset i) s.regs (regKey f i)

/-- Field `f` with index `i` set by hardware to `v`, cut to the field's width. -/
def State.wr (s : State) (f : Fid) (i : Nat) (v : Nat) : State :=
  { s with regs := Tbl.set (f.reset i) s.regs (regKey f i) (v % 2 ^ f.width) }

/-- Whether a field reads other than 0. -/
def State.bit (s : State) (f : Fid) (i : Nat) : Bool := s.rd f i != 0

/-- A field set to 1 or 0. -/
def State.wrBit (s : State) (f : Fid) (i : Nat) (b : Bool) : State := s.wr f i (bit01 b)

/-- A counter field incremented, saturating. -/
def State.sat (s : State) (f : Fid) (i : Nat) : State := s.wr f i (satInc f.width (s.rd f i))

/-- A counter field incremented modulo two to its width. -/
def State.inc (s : State) (f : Fid) (i : Nat) : State := s.wr f i (s.rd f i + 1)

/-- The fields that `p` picks restored to their reset values. -/
def State.resetRegs (s : State) (p : Fid → Nat → Bool) : State :=
  { s with regs := s.regs.filter (fun e => !p (Fid.ofNat (e.1 % 1024)) (e.1 / 1024)) }

/-! ## Outputs and free values -/

/-- One more output. -/
def State.emit (s : State) (o : Output) : State := { s with out := s.out ++ [o] }

/-- The next free value: a value that no rule states. -/
def State.freeVal (s : State) : Nat := Config.freeValue s.free

/-- The machine with that free value used up. -/
def State.useFree (s : State) : State := { s with free := s.free + 1 }

/-! ## Time (R288, R290) -/

/-- One nanosecond in units of the clock, 2^-16 ns. -/
def tickNs : Nat := 65536

/-- One frame of 1,024 ns in units of the clock. -/
def tickFrame : Nat := 1024 * 65536

/-- A Datum time as a number of 2^-16 ns (R288). -/
def ticksOf (t : DTime) : Nat := (t.sec * 1000000000 + t.ns) * 65536 + t.sub

/-- Whether a time value lies inside its range (R288). -/
def timeOk (t : DTime) : Bool := t.sec < 2 ^ 48 && t.ns ≤ 999999999 && t.sub < 65536

/-- The seconds, nanoseconds and 2^-16 ns of a number of 2^-16 ns. -/
def timeOf (t : Nat) : DTime := ⟨t / 65536 / 1000000000, t / 65536 % 1000000000, t % 65536⟩

/-- The 12-byte form of a time in host memory (R288). -/
def timeBytes12 (t : Nat) : List Nat :=
  leBytes 6 (timeOf t).sec ++ leBytes 4 (timeOf t).ns ++ leBytes 2 (timeOf t).sub

/-- The 10-byte form, without SUBNS (R112, R288). -/
def timeBytes10 (t : Nat) : List Nat := leBytes 6 (timeOf t).sec ++ leBytes 4 (timeOf t).ns

/-- The module's Datum P time in whole nanoseconds (R290). -/
def State.nowNs (s : State) : Nat := s.datum.t / 65536

/-- The frame counter F (R290). -/
def State.frame (s : State) : Nat := s.nowNs / 1024 % 2 ^ 64

/-- Whether Datum P is LOCKED (R298, R305). -/
def State.locked (s : State) : Bool := s.rd .dtm_status_p_state 0 == 3

/-! ## Faults (R434): a checker reports; FAULT_DETECTED logs and reacts -/

/-- A fault reported to the collector. -/
def State.report (s : State) (r : FaultRep) : State :=
  { s with flt := { s.flt with reports := s.flt.reports ++ [r] } }

/-- Whole frames that cover a time in ns. -/
def framesIn (ns : Nat) : Nat := (ns + 1023) / 1024

/-! ## Mailboxes and commands in flight (R380, R384) -/

/-- The mailbox `m`. -/
def State.mb (s : State) (m : Nat) : Mbx := Tbl.get {} s.mbx m

/-- Mailbox `m` changed by `f`; INFLIGHT of MBX_STATUS counts its commands in flight. -/
def State.modMb (s : State) (m : Nat) (f : Mbx → Mbx) : State :=
  { s with mbx := Tbl.modify {} s.mbx m f }.wr .mbx_status_inflight m (f (s.mb m)).flight.length

/-- The command in flight that a row of a command stands for: same tag, same remote request, not yet due. -/
def State.flightOf (s : State) (h : Hdr) : Option Flight :=
  (s.mb h.mbx).flight.find? (fun f => f.tag == h.tag && f.comp == none && decide (f.remote = h.remote))

/-- The command made a command in flight, where admission has not made it one already. -/
def State.entered (s : State) (h : Hdr) : State :=
  match s.flightOf h with
  | some _ => s
  | none =>
    { s.modMb h.mbx (fun m => { m with flight := m.flight ++
        [{ id := s.host.nextId, tag := h.tag, imm := h.imm, remote := h.remote }] }) with
      host := { s.host with nextId := s.host.nextId + 1 } }

/-- The owner that an operation started by this command keeps: its mailbox and flight number. -/
def State.ownerOf (s : State) (h : Hdr) : Owner :=
  match s.flightOf h with
  | some f => ⟨h.mbx, f.id⟩
  | none => ⟨h.mbx, s.host.nextId⟩

/-- The command's completion falls due, if it is still in flight: it then has its effect point and its result. -/
def State.finish (s : State) (o : Owner) (c : Completion) : State :=
  s.modMb o.mbx (fun m => { m with flight := m.flight.map (fun f =>
    if f.id = o.id ∧ f.comp = none then { f with eff := true, comp := some c } else f) })

/-- Whether the command is still in flight. -/
def State.alive (s : State) (o : Owner) : Bool := (s.mb o.mbx).flight.any (fun f => f.id == o.id)

/-- The command reaches its effect point before its completion falls due (R384). -/
def State.effect (s : State) (o : Owner) : State :=
  s.modMb o.mbx (fun m => { m with flight := m.flight.map (fun f =>
    if f.id = o.id then { f with eff := true } else f) })

/-- The command of header `h` completes with a result. -/
def State.complete (s : State) (h : Hdr) (c : Completion) : State :=
  (s.entered h).finish ((s.entered h).ownerOf h) c

/-- The command of header `h` completes with a status and no result. -/
def State.status (s : State) (h : Hdr) (st : Status) : State := s.complete h { status := st }

/-- The first status whose condition holds (R382). -/
def firstStatus : List (Bool × Status) → Option Status
  | [] => none
  | (b, st) :: r => if b then some st else firstStatus r

/-- A command under its own checks in the order given: the first check that fails decides the completion; where none
fails, the command has its effect (R382). -/
def State.checked (s : State) (h : Hdr) (checks : List (Bool × Status)) (effect : State → State) : State :=
  match firstStatus checks with
  | some st => s.status h st
  | none => effect s

/-! ## Host buffers (R340, R365) -/

/-- A list of bytes with `b` written over it from offset `o`. -/
def patchBytes (a : List Nat) (o : Nat) (b : List Nat) : List Nat := a.take o ++ b ++ a.drop (o + b.length)

/-- Whether a mailbox may use host memory: Bus Master Enable is 1 and its function is not in D3hot (R366). -/
def State.hostOpen (s : State) (m : Nat) : Bool := (s.mb m).busMaster && !(s.mb m).d3hot

/-- Bytes that a mailbox writes to host memory; they wait while it may not use it (R366). -/
def State.toHost (s : State) (m addr : Nat) (bytes : List Nat) : State :=
  if s.hostOpen m then s.emit (.hostWrite m addr bytes)
  else { s with host := { s.host with held := s.host.held ++ [(m, addr, bytes)] } }

/-- Bytes that a command writes to its host buffer: to host memory, or for a remote request into its response area. -/
def State.hostWrite (s : State) (h : Hdr) (addr : Nat) (bytes : List Nat) : State :=
  match h.remote with
  | none => s.toHost h.mbx addr bytes
  | some (src, id) =>
    { s with fab := { s.fab with inReqs := s.fab.inReqs.map (fun r =>
        if r.src = src ∧ r.reqId = id then { r with data := patchBytes r.data addr bytes } else r) } }

/-- Whether a buffer address is invalid: not aligned, or for a remote request outside its response area (R340). -/
def State.badBuf (s : State) (h : Hdr) (addr align len : Nat) : Bool :=
  addr % align != 0 ||
  match h.remote with
  | none => false
  | some (src, id) =>
    !(s.fab.inReqs.any (fun r => r.src == src && r.reqId == id && addr + len ≤ r.rspLen))

/-- Whether the address of a buffer that a command reads is invalid: not aligned, or for a remote request outside the DATA of
its REQUEST (R340). -/
def State.badSrc (s : State) (h : Hdr) (addr align len : Nat) : Bool :=
  addr % align != 0 ||
  match h.remote with
  | none => false
  | some (src, id) =>
    !(s.fab.inReqs.any (fun r => r.src == src && r.reqId == id && addr + len ≤ r.req.length))

end Sys2Proof.Machine
end

