-- ==== Sys2Proof/Machine/Flags.lean ====
section
/-! DEFINITION. The event flags of the blocks and the interrupts they raise: a vector is raised while a bit of EVENT is set
together with its bit in EVENT_EN (R344, and the register sections of files 10, 14 and 16). -/

namespace Sys2Proof.Machine

/-- An EVENT bit set in a block's register, and its PF vector raised when the bit is enabled. -/
def State.event (s : State) (ev en : Fid) (i vector bit : Nat) : State :=
  let t := s.wr ev i (s.rd ev i ||| 2 ^ bit)
  if (s.rd en i).testBit bit then t.emit (.msix 0 vector) else t

/-- A bit of DTM_EVENT, on vector 10. -/
def State.dtmEvent (s : State) (bit : Nat) : State := s.event .dtm_event_event .dtm_event_event_en 0 10 bit

/-- A bit of CHP_EVENT of port `n`, on vector 12 + n. -/
def State.chpEvent (s : State) (n bit : Nat) : State := s.event .chp_event_event .chp_event_event_en n (12 + n) bit

/-- A bit of HKP_EVENT, on vector 11. -/
def State.hkpEvent (s : State) (bit : Nat) : State := s.event .hkp_event_event .hkp_event_event_en 0 11 bit

/-- A bit of FBK_EVENT, on vector 9. -/
def State.fbkEvent (s : State) (bit : Nat) : State := s.event .fbk_event_event .fbk_event_event_en 0 9 bit

end Sys2Proof.Machine
end

