-- ==== Sys2Proof/Machine/Operands.lean ====
section
/-! DEFINITION. The operand forms of the commands: object numbers and their compartments (R16, R17), partitions (R19, R381),
element ranges (R387), unlocks and the registers they cover (R392, R394, R395), and the parameter fields that each
command's entry uses (R378, R389). -/

namespace Sys2Proof.Machine

/-! ## Numbering (R16, R17, R18) -/

/-- Elements 0 to 9,215 are V-mode channels; 9,216 to 10,239 are H-mode channels (R17). -/
def isV (e : Nat) : Bool := e < 9216

/-- The compartment of an element (R16, R17). -/
def elemCpt (e : Nat) : Nat := if e < 9216 then e / 2304 else (e - 9216) / 256

/-- The compartment of a monitor (R16). -/
def monCpt (m : Nat) : Nat := m / 1536

/-- The compartment of a converter group (R16). -/
def grpCpt (g : Nat) : Nat := g / 48

/-- The elements of a compartment: its V-mode elements and then its H-mode elements. -/
def elemsOf (n : Nat) : List Nat :=
  (List.range 2304).map (fun i => 2304 * n + i) ++ (List.range 256).map (fun i => 9216 + 256 * n + i)

/-- The numbers from `a`, `n` of them. -/
def span (a n : Nat) : List Nat := (List.range n).map (fun i => a + i)

/-! ## Partitions (R19, R381) -/

/-- Whether the mailbox's partition holds an element. MB0 holds every object. -/
def State.holdsElem (s : State) (m e : Nat) : Bool := m == 0 || (s.mb m).part.elements.testBit e

/-- Whether the mailbox's partition holds a monitor. -/
def State.holdsMon (s : State) (m x : Nat) : Bool := m == 0 || (s.mb m).part.monitors.testBit x

/-- Whether the mailbox's partition holds an input port. -/
def State.holdsIn (s : State) (m p : Nat) : Bool := m == 0 || (s.mb m).part.inPorts.testBit p

/-- Whether the mailbox's partition holds an output port. -/
def State.holdsOut (s : State) (m p : Nat) : Bool := m == 0 || (s.mb m).part.outPorts.testBit p

/-- Whether a slot lies in the mailbox's slot range. -/
def State.holdsSlot (s : State) (m k : Nat) : Bool :=
  m == 0 || ((s.mb m).part.slotBase ≤ k && k < (s.mb m).part.slotBase + (s.mb m).part.slotCount)

/-- Whether the mailbox's partition holds every element of a compartment (R392, R449). -/
def State.holdsCptElems (s : State) (m n : Nat) : Bool := m == 0 || (elemsOf n).all (fun e => s.holdsElem m e)

/-- Whether the mailbox's partition holds every element and monitor of a compartment (R392). -/
def State.holdsCpt (s : State) (m n : Nat) : Bool :=
  s.holdsCptElems m n && (m == 0 || (span (1536 * n) 1536).all (fun x => s.holdsMon m x))

/-- Whether every element of a range lies in the mailbox's partition. -/
def State.holdsElems (s : State) (m first count : Nat) : Bool :=
  m == 0 || (span first count).all (fun e => s.holdsElem m e)

/-- Whether every monitor of a range lies in the mailbox's partition. -/
def State.holdsMons (s : State) (m first count : Nat) : Bool :=
  m == 0 || (span first count).all (fun e => s.holdsMon m e)

/-- Whether the partition holds a range of converter groups or Benchmark slices, each with its 32 monitors (R18, R19; DEDUCED: the
partition table names no groups). -/
def State.holdsGrps (s : State) (m first count : Nat) : Bool := s.holdsMons m (32 * first) (32 * count)

/-! ## Unlocks (R392 to R395) -/

/-- Whether an unlock of the mailbox is in force. -/
def State.unlockedBy (s : State) (m kind which : Nat) : Bool :=
  (s.mb m).unlocks.any (fun u => u.kind == kind && u.which == which)

/-- Whether the whole-device unlock of the mailbox is in force. -/
def State.deviceUnlocked (s : State) (m : Nat) : Bool := s.unlockedBy m 2 0

/-- The compartment whose index a register field of an STX_ or CAL_ register carries (R394), where it carries one. -/
def fieldCpt (f : Fid) (i : Nat) : Option Nat :=
  match f with
  | .stx_cpt_cfg_psel | .stx_cpt_cfg_wsel | .stx_coef_ctrl_commit | .stx_coef_ctrl_reject | .stx_sup_cfg_sus_n
  | .stx_sup_cfg_qlim | .stx_sup_cfg_light_min | .stx_sup_lim_rlim | .stx_sup_lim_dlim | .stx_tff_cfg_en
  | .stx_tff_cfg_sensor | .stx_tff_cfg_te_slew | .stx_sup_status_new | .cal_ecal_sched_interval => some i
  | .stx_coef_kp | .stx_coef_ki | .stx_coef_ilim | .stx_coef_eps_max => some (i / 16)
  | _ => none

/-- Whether the unlocks of MB0 in force cover a field that stands at BAR0 offset `off` (R370, R394, R395): the whole
device covers every field; a block scope covers its window, but the fault collector's registers (file 15), the policing
registers (file 12), GLB_RESET and BOOT_FUSE_PROG (file 17), and MODE of GLB_BATON_CFG ask for the whole device; a compartment scope covers its
UST window and the STX_ and CAL_ fields with its index. -/
def State.covers (s : State) (off : Nat) (f : Fid) (i : Nat) : Bool :=
  s.deviceUnlocked 0 || f != .glb_baton_cfg_mode && (
  (off < 0xD0000 && s.unlockedBy 0 1 (off / 0x10000) && off / 0x10000 != 2
    && !(0x55000 ≤ off && off < 0x55080) && off != 0x8 && off != 0xC0014) ||
  (0x100000 ≤ off && s.unlockedBy 0 0 ((off - 0x100000) / 0x40000)) ||
  (match fieldCpt f i with | some n => s.unlockedBy 0 0 n | none => false))

/-! ## The entry's parameter fields (R378, R389) -/

/-- The parameter fields (offset, size) of an opcode and form, from the table of R389 and the rules it points to. -/
def paramFields (op form : Nat) : List (Nat × Nat) :=
  match op with
  | 0x01 => [(0x18, 8)]
  | 0x02 => []
  | 0x03 => [(0x10, 1), (0x18, 8)]
  | 0x10 => [(0x10, 2), (0x12, 2), (0x14, 2), (0x16, 1), (0x17, 1), (0x18, 8), (0x20, 1)]
  | 0x11 => [(0x10, 2), (0x12, 2), (0x14, 2), (0x18, 8)]
  | 0x12 => [(0x10, 1), (0x11, 1), (0x14, 2), (0x16, 2), (0x18, 8), (0x30, 8), (0x38, 8)]
  | 0x13 => [(0x10, 1), (0x11, 1), (0x12, 1), (0x13, 1), (0x14, 2), (0x16, 2), (0x18, 8), (0x20, 12), (0x2C, 2),
             (0x30, 8), (0x38, 8)]
  | 0x14 => [(0x10, 4)]
  | 0x15 => [(0x12, 2), (0x18, 8)]
  | 0x20 => if form = 0 then [(0x10, 2), (0x14, 4)] else if form = 1 then [(0x10, 2), (0x14, 4), (0x18, 2)]
            else [(0x10, 2), (0x12, 1)]
  | 0x21 => if form = 1 then [(0x12, 1)] else [(0x10, 2)]
  | 0x22 => match form with
            | 0 => [(0x12, 1), (0x14, 1), (0x15, 1)]
            | 1 => [(0x12, 1), (0x13, 1), (0x14, 2), (0x16, 2), (0x18, 4), (0x1C, 4), (0x20, 1)]
            | 2 => [(0x10, 2), (0x13, 1), (0x14, 2)]
            | 3 => [(0x10, 2), (0x14, 2), (0x18, 4)]
            | 4 => [(0x12, 1), (0x13, 1), (0x20, 16)]
            | 5 => [(0x10, 2), (0x14, 2), (0x18, 2)]
            | 6 => [(0x12, 1), (0x14, 1)]
            | 7 => [(0x10, 2), (0x14, 2), (0x18, 2), (0x1A, 1), (0x1B, 1), (0x1C, 1), (0x1D, 1)]
            | 8 => [(0x12, 1)]
            | _ => [(0x18, 2)]
  | 0x23 => if form = 0 then [(0x10, 2), (0x12, 2), (0x14, 1), (0x15, 1), (0x16, 2), (0x18, 2), (0x1A, 2), (0x1C, 2),
              (0x20, 4)]
            else [(0x10, 2), (0x12, 2), (0x14, 4), (0x18, 1), (0x19, 1), (0x1A, 1), (0x1B, 1)]
  | 0x24 => [(0x10, 2), (0x14, 2), (0x18, 8)]
  | 0x30 => [(0x10, 2), (0x14, 2), (0x16, 1), (0x18, 8)]
  | 0x31 => [(0x10, 2), (0x12, 1), (0x13, 1), (0x14, 2), (0x16, 1), (0x17, 1), (0x18, 8), (0x20, 12), (0x2C, 4)]
  | 0x32 => if form = 0 then [(0x10, 1), (0x11, 1), (0x12, 1), (0x13, 1), (0x14, 2), (0x16, 2), (0x18, 8), (0x20, 8),
              (0x28, 4)]
            else [(0x10, 1), (0x11, 1), (0x12, 1), (0x14, 2), (0x16, 2), (0x18, 2), (0x1A, 2)]
  | 0x40 => [(0x10, 2), (0x12, 1), (0x14, 2), (0x16, 2), (0x18, 2)]
  | 0x41 => [(0x10, 2), (0x14, 2), (0x18, 8)]
  | 0x42 => [(0x12, 1), (0x14, 1), (0x15, 1), (0x18, 4)]
  | 0x50 => match form with
            | 0 => [(0x10, 1), (0x12, 7), (0x1C, 4), (0x20, 4)]
            | 1 => [(0x12, 1)]
            | 2 => []
            | 3 => [(0x18, 8)]
            | _ => [(0x12, 1), (0x13, 1), (0x14, 2), (0x16, 1), (0x17, 1), (0x18, 4), (0x1C, 1)]
  | 0x51 => [(0x38, 8)]
  | 0x52 => [(0x10, 1), (0x12, 1), (0x13, 1), (0x14, 4), (0x18, 4), (0x20, 12)]
  | 0x60 => match form with
            | 0 => [(0x10, 1), (0x12, 6)]
            | 1 => [(0x12, 1)]
            | 2 => [(0x10, 1), (0x12, 4)]
            | _ => [(0x12, 1), (0x14, 2), (0x16, 2), (0x18, 2)]
  | 0x61 => [(0x12, 1), (0x38, 8)]
  | 0x63 => match form with
            | 0 => [(0x10, 1), (0x14, 4), (0x18, 4), (0x20, 12), (0x38, 8)]
            | 1 => [(0x10, 1), (0x11, 1), (0x12, 1), (0x14, 2), (0x16, 2)]
            | 2 => [(0x10, 1), (0x12, 1)]
            | 3 => [(0x10, 1), (0x12, 1), (0x13, 1), (0x14, 4), (0x18, 2)]
            | 4 => [(0x12, 1), (0x13, 1)]
            | _ => [(0x10, 1), (0x12, 2), (0x38, 8)]
  | 0x62 => [(0x10, 2), (0x12, 2), (0x14, 2), (0x16, 2), (0x18, 8), (0x20, 8), (0x28, 8)]
  | 0x70 => [(0x10, 4), (0x14, 2), (0x16, 1), (0x17, 1), (0x18, 8)]
  | 0x71 => [(0x10, 2), (0x12, 1), (0x13, 1)]
  | 0x72 => [(0x10, 2), (0x12, 1), (0x13, 1)]
  | 0x80 => [(0x10, 4), (0x14, 2), (0x18, 8)]
  | 0x81 => []
  | 0x82 => [(0x10, 1), (0x18, 8)]
  | 0x90 => if form = 0 then [(0x18, 8)] else if form = 2 then [(0x10, 1)] else []
  | 0x91 => [(0x10, 1), (0x11, 16)]
  | 0x92 => if form = 0 then [(0x10, 2), (0x14, 4)] else [(0x10, 1), (0x11, 16)]
  | 0x93 => []
  | 0x94 => [(0x10, 4), (0x14, 2), (0x18, 8)]
  | 0xA0 => []
  | 0xA1 => [(0x10, 1)]
  | 0xF0 => [(0x10, 1), (0x12, 2)]
  | 0xF1 => if form = 3 then [] else [(0x10, 1)]
  | _ => [(0x10, 48)]

/-- The FORM values of an opcode (R388, and the ACTION tables of the rules it points to); none for an unassigned opcode. -/
def formCount (op : Nat) : Option (Nat × Nat) :=
  match op with
  | 0x20 | 0x21 => some (0, 2)
  | 0x22 => some (0, 9)
  | 0x23 | 0x32 => some (0, 1)
  | 0x40 => some (3, 3)
  | 0x41 => some (1, 3)
  | 0x42 => some (0, 4)
  | 0x50 => some (0, 4)
  | 0x60 => some (0, 3)
  | 0x61 => some (0, 1)
  | 0x63 => some (0, 5)
  | 0x80 | 0x81 => some (1, 2)
  | 0xA0 => some (0, 2)
  | 0xA1 => some (0, 2)
  | 0x90 => some (0, 2)
  | 0x92 => some (0, 1)
  | 0x93 => some (0, 1)
  | 0xF0 => some (0, 2)
  | 0xF1 => some (0, 3)
  | 0x01 | 0x02 | 0x03 | 0x10 | 0x11 | 0x12 | 0x13 | 0x14 | 0x15 | 0x24 | 0x30 | 0x31 | 0x51 | 0x52 | 0x62 | 0x70
  | 0x71 | 0x72 | 0x82 | 0x91 | 0x94 => some (0, 0)
  | _ => none

/-- Whether every byte of the entry that its command does not use is 0 (R378): the reserved bytes, FLAGS bits [7:1], TAG
bits [15:14] and the parameter bytes outside its fields. -/
def entryClean (e : List Nat) : Bool :=
  (List.range 64).all (fun i =>
    let b := e.getD i 0
    if i < 4 then i != 3 || b < 64
    else if i = 4 then b < 2
    else if i < 16 then b == 0
    else b == 0 || (paramFields (e.getD 0 0) (e.getD 1 0)).any (fun p => p.1 ≤ i && i < p.1 + p.2))

/-- The tag of an entry (R378). -/
def entryTag (e : List Nat) : Nat := (e.getD 2 0 + 256 * e.getD 3 0) % 16384

/-- A block whose opcode R359 exempts from policing: GET_STATUS, STATE_ABORT and SAFETY_STATUS. -/
def tokenExempt (op : Nat) : Bool := op == 0x02 || op == 0x14 || op == 0x90

end Sys2Proof.Machine
end

