-- ==== Sys2Proof/Machine/Rings.lean ====
section
/-! DEFINITION. Completion rings, token buckets and telemetry rings: the operations that commands and events share
(R358, R375, R376, R397 to R401). -/

namespace Sys2Proof.Machine

/-- The size of a mailbox's submission ring (R373). -/
def State.sqSize (s : State) (m : Nat) : Nat := 2 ^ s.rd .mbx_qcfg_sq_log m

/-- The size of a mailbox's completion ring (R373). -/
def State.cqSize (s : State) (m : Nat) : Nat := 2 ^ s.rd .mbx_qcfg_cq_log m

/-- The 48 bytes of a REMOTE response body after the completion are zero (R340). -/
def completionBytes (c : Completion) (tag : Nat) (phase : Bool) : List Nat :=
  leBytes 4 c.res0 ++ leBytes 4 c.res1 ++ leBytes 4 c.res2 ++ [c.status.code, c.cflags % 256]
    ++ leBytes 2 (tag + 32768 * bit01 phase)

/-- Post the completion at the head of the mailbox's submission order at CQ_TAIL (R375, R385): CQ_TAIL advances, PHASE
inverts at the end of the ring, the tag is freed, and the entry waits for its announcement (R376). -/
def State.postEntry (s : State) (m : Nat) (f : Flight) (c : Completion) : State :=
  let tail := s.rd .mbx_cq_db_cq_tail m
  let wraps := tail + 1 == s.cqSize m
  let s1 := s.emit (.completion m tail c f.tag (s.mb m).phase)
  let s2 := s1.modMb m (fun b => { b with
    flight := b.flight.drop 1
    phase := if wraps then !b.phase else b.phase
    unreleased := b.unreleased + 1
    unannounced := b.unannounced + 1
    oldestAt := if b.unannounced = 0 then s.loop.frames else b.oldestAt
    immPending := b.immPending || f.imm })
  s2.wr .mbx_cq_db_cq_tail m (if wraps then 0 else tail + 1)

/-- Whether the head of a mailbox's submission order can be posted: its completion is due, it is the host's own command,
the ring has room and host memory is open (R366, R375). -/
def State.canPost (s : State) (m : Nat) : Option (Flight × Completion) :=
  match (s.mb m).flight with
  | f :: _ =>
    match f.comp, f.remote with
    | some c, none => if s.hostOpen m && (s.mb m).unreleased < s.cqSize m then some (f, c) else none
    | _, _ => none
  | [] => none

/-- Post due completions in submission order while there is room, at most `n`. -/
def State.postUpTo (s : State) (m : Nat) : Nat → State
  | 0 => s
  | n + 1 =>
    match s.canPost m with
    | some (f, c) => (s.postEntry m f c).postUpTo m n
    | none => s

/-! ## Token buckets (R358) -/

/-- One command in the unit of a bucket level. -/
def tokenUnit : Nat := 1024 * 1000000000

/-- BURST in commands (CHS_POL_CFG: 0 acts as 1, above 4,096 as 4,096). -/
def State.burst (s : State) (m : Nat) : Nat := max 1 (min 4096 (s.rd .chs_pol_cfg_burst m))

/-- RATE in commands per second (CHS_POL_RATE: 0 acts as 1). -/
def State.rate (s : State) (m : Nat) : Nat := max 1 (s.rd .chs_pol_rate_rate m)

/-- The level of a bucket set, shown in whole commands by LEVEL. -/
def State.setLevel (s : State) (m v : Nat) : State :=
  (s.modMb m (fun b => { b with level := v })).wr .chs_pol_status_level m (v / tokenUnit)

/-- The bucket of a mailbox one frame later: RATE commands a second, at most BURST (R358). -/
def State.fillBucket (s : State) (m : Nat) : State :=
  if s.bit .chs_pol_cfg_en m then
    s.setLevel m (min (s.burst m * tokenUnit) ((s.mb m).level + s.rate m * 1048576))
  else s

/-- HELD shown in both registers that show it (R358). -/
def State.setHeld (s : State) (m : Nat) (b : Bool) : State :=
  (s.wrBit .chs_pol_status_held m b).wrBit .mbx_status_held m b

/-! ## Telemetry rings (R397, R398, R400) -/

/-- The key of ring `j` of mailbox `m`. -/
def ringKey (m j : Nat) : Nat := 64 * m + j

/-- The number of telemetry rings of a mailbox (R396). -/
def ringCount (m : Nat) : Nat := if m = 0 then 48 else 2

/-- A ring. -/
def State.ring (s : State) (k : Nat) : Ring := Tbl.get {} s.rings k

/-- The records in a ring that the host has not consumed, modulo 2^32 (R398). -/
def State.ringFill (s : State) (k : Nat) : Nat := (2 ^ 32 + (s.ring k).prod - s.rd .mbx_tr_cons_cons k) % 2 ^ 32

/-- The write-back word of a ring (R397): PROD, DROP, the low frame counter bits and zero. -/
def State.ringWriteBack (s : State) (k : Nat) : State :=
  let r := s.ring k
  s.toHost (k / 64) r.wb (leBytes 4 r.prod ++ leBytes 4 r.drop ++ leBytes 4 s.frame ++ [0, 0, 0, 0])

/-- A record for ring `k`: written at its place and counted, or dropped and counted where the ring is full (R397, R398).
A ring that is not enabled takes none. -/
def State.ringWrite (s : State) (k : Nat) (rec : List Nat) : State :=
  if !s.bit .mbx_tr_status_en k then s
  else
    let r := s.ring k
    if s.ringFill k = 2 ^ r.rlog then
      ({ s with rings := Tbl.set {} s.rings k { r with drop := (r.drop + 1) % 2 ^ 32 } }).ringWriteBack k
    else
      let s1 := s.toHost (k / 64) (r.base + r.prod % 2 ^ r.rlog * r.recsz) rec
      ({ s1 with rings := Tbl.set {} s1.rings k { r with
        prod := (r.prod + 1) % 2 ^ 32, firstAt := if r.announced = r.prod then s.loop.frames else r.firstAt } }).ringWriteBack k

/-- The vector of a ring raised, which announces every record so far (R396, R399). -/
def State.ringRaise (s : State) (k : Nat) : State :=
  let s1 := { s with rings := Tbl.modify {} s.rings k (fun r => { r with announced := r.prod }) }
  if k / 64 = 0 then s1.emit (.msix 0 (16 + k % 64)) else s1.emit (.msix (k / 64) 2)

end Sys2Proof.Machine
end

