-- ==== Sys2Proof/Machine/MapFile.lean ====
section
/-! DEFINITION. Reading an element map file and the checks made on every map (R44 to R62). -/

namespace Sys2Proof.Machine

/-! ## Reading the file (R45 to R58) -/

/-- `n` records of `sz` bytes from the front of the bytes. -/
def records (sz : Nat) : Nat → List Nat → List (List Nat)
  | 0, _ => []
  | n + 1, bs => bs.take sz :: records sz n (bs.drop sz)

/-- The little-endian field of `n` bytes at offset `o` of a record. -/
def fld (bs : List Nat) (o n : Nat) : Nat := leNat ((bs.drop o).take n)

/-- An element record from its 32 bytes (R49). -/
def readElem (b : List Nat) : ElemRec :=
  { role := fld b 0 1, flags := fld b 1 1, owner := fld b 2 2, mon0 := fld b 4 2, mon1 := fld b 6 2, pilotK := fld b 8 2,
    profFwd := fld b 0xA 1, profRev := fld b 0xB 1, wgt0 := signed 16 (fld b 0xC 2), wgt1 := signed 16 (fld b 0xE 2),
    driveMax := fld b 0x10 4, rsv := fld b 0x14 12 }

/-- A monitor record from its 16 bytes (R55). -/
def readMon (b : List Nat) : MonRec :=
  { use := fld b 0 1, initRange := fld b 1 1, owner := fld b 2 2, lolNa := fld b 4 2, flags := fld b 6 1,
    pilots := fld b 7 1, rsv := fld b 8 8 }

/-- A port record from its 16 bytes (R56). -/
def readPort (b : List Nat) : PortRec :=
  { use := fld b 0 1, gate := fld b 2 2, phase := fld b 4 2, pol := fld b 6 2, tap := fld b 8 2, gateDark := fld b 0xC 4,
    rsv := fld b 1 1 + fld b 0xA 2 }

/-- A cell record from its 16 bytes (R58). -/
def readCell (b : List Nat) : CellRec :=
  { stage := fld b 0 1, kind := fld b 1 1, position := fld b 2 2, elemA := fld b 4 2, elemB := fld b 6 2,
    monitor := fld b 8 2, rsv := fld b 0xA 6 }

/-- A sensor record from its 8 bytes (R48). -/
def readSens (b : List Nat) : SensRec :=
  { type := fld b 0 1, leadMohm := fld b 2 2, ideality := fld b 4 2, rsv := fld b 1 1 + fld b 6 2 }

/-- A table of the records that differ from what an unlisted record reads as. -/
def tableOf {α : Type} [DecidableEq α] (d : α) (l : List α) : Tbl α :=
  (l.zipIdx.filter (fun p => p.1 != d)).map (fun p => (p.2, p.1))

/-- The map that a file's bytes spell (R45, R46). DESIGN CHOICE: CREATED[63:48], which R46 gives as zero, counts among the
reserved fields of the header under check 5 (R61 speaks of reserved fields only). -/
def readMap (f : List Nat) : EMap :=
  let c := fld f 6 2
  { magic := fld f 0 4, version := fld f 4 2, cells := c, length := fld f 8 4, topology := fld f 0xC 1, ports := fld f 0xE 2,
    dieId := fld f 0x10 8, serial := fld f 0x18 4, created := fld f 0x1C 6
    origin := fld f 0x24 2, originVer := fld f 0x26 2, hdrRsv := fld f 0xD 1 + fld f 0x22 2 + fld f 0x28 24,
    gapRsv := fld f 0xE0 32,
    rails := (records 2 64 (f.drop 0x40)).map leNat,
    sensors := (records 8 4 (f.drop 0xC0)).map readSens,
    elems := tableOf {} ((records 32 10240 (f.drop 0x100)).map readElem),
    mons := tableOf {} ((records 16 6144 (f.drop 0x50100)).map readMon),
    portRecs := tableOf {} ((records 16 1024 (f.drop 0x68100)).map readPort),
    cellRecs := tableOf {} ((records 16 c (f.drop 0x6C100)).map readCell),
    crc := fld f (0x6C100 + 16 * c) 4 }

/-! ## CRC-32 (R60) -/

/-- One bit of the reflected CRC-32 with polynomial 0x04C1_1DB7. -/
def crcBit (c : Nat) : Nat := if c % 2 = 1 then (c / 2) ^^^ 0xEDB88320 else c / 2

/-- One byte of the CRC-32. -/
def crcByte (c b : Nat) : Nat :=
  crcBit (crcBit (crcBit (crcBit (crcBit (crcBit (crcBit (crcBit (c ^^^ b))))))))

/-- The CRC-32 of a byte string with the IEEE 802.3 parameters (R60). -/
def crc32 (bs : List Nat) : Nat := bs.foldl crcByte 0xFFFFFFFF ^^^ 0xFFFFFFFF

/-! ## The checks of R61, each answering the table and record at which it stops -/

/-- The first number below `n` at which a check fails, with its table. -/
def firstBad (table n : Nat) (bad : Nat → Bool) : Option (Nat × Nat) :=
  ((List.range n).find? bad).map (fun i => (table, i))

/-- The first failure in a list of checks. -/
def firstOf : List (Option (Nat × Nat)) → Option (Nat × Nat)
  | [] => none
  | some x :: _ => some x
  | none :: r => firstOf r

/-- The whole number log2 of a power of two. -/
def log2N (n : Nat) : Nat := Nat.log 2 n

/-- Check 4: TOPOLOGY, PORTS and CELLS satisfy R44. -/
def topologyOk (m : EMap) : Bool :=
  match m.topology with
  | 0 => m.ports ≤ 512 && m.cells == 0
  | 1 => [8, 16, 32, 64, 128, 256, 512].contains m.ports && m.cells == m.ports / 2 * (2 * log2N m.ports - 1)
  | 2 => [8, 16, 32, 64, 128, 256].contains m.ports && m.cells == m.ports * (2 * log2N m.ports - 1)
  | 3 => 2 ≤ m.ports && m.ports ≤ 64 && m.cells == m.ports * m.ports
  | _ => false

/-- Check 5: every reserved field and region is zero. -/
def check5 (m : EMap) : Option (Nat × Nat) :=
  firstOf [
    if m.hdrRsv = 0 ∧ m.gapRsv = 0 then none else some (0, 0),
    firstBad 2 4 (fun i => ((m.sensors.getD i {}).rsv != 0)),
    firstBad 3 10240 (fun e => (m.elem e).rsv != 0 || 8 ≤ (m.elem e).flags),
    firstBad 4 6144 (fun x => (m.mon x).rsv != 0 || 2 ≤ (m.mon x).flags),
    firstBad 5 1024 (fun p => (m.portRec p).rsv != 0),
    firstBad 6 m.cells (fun c => (m.cell c).rsv != 0)]

/-- Check 6: rails under R47, sensors under R48. -/
def check6 (m : EMap) : Option (Nat × Nat) :=
  firstOf [
    firstBad 1 64 (fun r => 3000 < m.rails.getD r 0),
    firstBad 2 4 (fun i =>
      let r := m.sensors.getD i {}
      3 < r.type || 5000 < r.leadMohm ||
        (if r.type = 1 then r.ideality < 9000 || 12000 < r.ideality else r.ideality != 0))]

/-- Check 7: ROLE valid for the channel kind under R50; PRESENT = 0 exactly for ROLE 0; RANGE_HI = 0 on H-mode. -/
def check7 (m : EMap) : Option (Nat × Nat) :=
  firstBad 3 10240 (fun e =>
    let r := m.elem e
    !((if isV e then [0, 1, 2, 3, 6] else [0, 4, 5, 6]).contains r.role) || (r.present == (r.role == 0))
      || (!isV e && r.rangeHi))

/-- Whether the object that an element's OWNER names names the element back (R49, R50). -/
def ownerReturned (m : EMap) (e : Nat) : Bool :=
  let r := m.elem e
  match r.role with
  | 1 => r.owner < m.cells && (m.cell r.owner).elemA == e
  | 2 => r.owner < m.cells && (m.cell r.owner).elemB == e
  | 3 => r.owner < 1024 && (m.portRec r.owner).gate == e
  | 4 => r.owner < 1024 && (m.portRec r.owner).phase == e
  | 5 => r.owner < 1024 && (m.portRec r.owner).pol == e
  | _ => r.owner == 0xFFFF

/-- Whether a reference names an element of that role and owner, or none where `0xFFFF` stands for none. -/
def namesBack (m : EMap) (ref role owner : Nat) (mayBeNone : Bool) : Bool :=
  (mayBeNone && ref == 0xFFFF) || (ref < 10240 && (m.elem ref).role == role && (m.elem ref).owner == owner)

/-- Check 8: every OWNER reference is returned, in both directions; an element named back by its one role and owner is named
once. -/
def check8 (m : EMap) : Option (Nat × Nat) :=
  firstOf [
    firstBad 3 10240 (fun e => !ownerReturned m e),
    firstBad 5 1024 (fun p =>
      !(namesBack m (m.portRec p).gate 3 p true && namesBack m (m.portRec p).phase 4 p true
        && namesBack m (m.portRec p).pol 5 p true)),
    firstBad 6 m.cells (fun c => !(namesBack m (m.cell c).elemA 1 c false && namesBack m (m.cell c).elemB 2 c false))]

/-- STAGE, KIND and POSITION of a cell within R58. -/
def cellPlaceOk (m : EMap) (r : CellRec) : Bool :=
  match m.topology with
  | 1 => r.stage ≤ 2 * log2N m.ports - 2 && r.kind == 0 && r.position < m.ports / 2
  | 2 => r.stage ≤ 2 * log2N m.ports - 2 && r.kind ≤ 1 && r.position < m.ports / 2
  | 3 => r.stage < m.ports && r.kind == 0 && r.position < m.ports
  | _ => true

/-- Check 9: R58, R59, and a cell's elements and monitor in one compartment. -/
def check9 (m : EMap) : Option (Nat × Nat) :=
  firstBad 6 m.cells (fun c =>
    let r := m.cell c
    !cellPlaceOk m r || elemCpt r.elemA != elemCpt r.elemB
      || !(r.monitor == 0xFFFF || (r.monitor < 6144 && monCpt r.monitor == elemCpt r.elemA))
      || (List.range c).any (fun d =>
          (m.cell d).stage == r.stage && (m.cell d).kind == r.kind && (m.cell d).position == r.position))

/-- A monitor reference of an element: none, or a monitor of its compartment (R25). -/
def monRefOk (e ref : Nat) : Bool := ref == 0xFFFF || (ref < 6144 && monCpt ref == elemCpt e)

/-- Check 10: monitors of the own compartment, a monitor for every pilot, weights zero exactly where there is none. -/
def check10 (m : EMap) : Option (Nat × Nat) :=
  firstBad 3 10240 (fun e =>
    let r := m.elem e
    !monRefOk e r.mon0 || !monRefOk e r.mon1 || (r.pilotEn && r.mon0 == 0xFFFF && r.mon1 == 0xFFFF)
      || ((r.wgt0 == 0) != (r.mon0 == 0xFFFF)) || ((r.wgt1 == 0) != (r.mon1 == 0xFFFF)))

/-- The grid step of a window of W periods of P frames (R53). -/
def gridStep (p w : Nat) : Nat := 2560 / (w * p)

/-- Check 11: PILOT_K within 6 to 262 and on the grid of the compartment under `loop` (its period and window); 0 without
PILOT_EN. -/
def check11 (loop : Nat → Nat × Nat) (m : EMap) : Option (Nat × Nat) :=
  firstBad 3 10240 (fun e =>
    let r := m.elem e
    if r.pilotEn then
      r.pilotK < 6 || 262 < r.pilotK || r.pilotK % gridStep (loop (elemCpt e)).1 (loop (elemCpt e)).2 != 0
    else r.pilotK != 0)

/-- Whether an element names a monitor in MON0 or MON1. -/
def ElemRec.names (r : ElemRec) (x : Nat) : Bool := r.mon0 == x || r.mon1 == x

/-- The elements that the map lists and that name a monitor. -/
def EMap.namers (m : EMap) (x : Nat) : List Nat := (m.elems.filter (fun p => p.2.names x)).map (fun p => p.1)

/-- Whether two pilots clash on one monitor: equal, or one twice the other. -/
def pilotsClash (a b : Nat) : Bool := a == b || a == 2 * b || b == 2 * a

/-- Whether a list of pilots has a clashing pair. -/
def anyClash : List Nat → Bool
  | [] => false
  | k :: r => r.any (pilotsClash k) || anyClash r

/-- Check 12: distinct pilots on every monitor, none twice another. -/
def check12 (m : EMap) : Option (Nat × Nat) :=
  firstBad 4 6144 (fun x =>
    anyClash (((m.namers x).filter (fun e => (m.elem e).pilotEn)).map (fun e => (m.elem e).pilotK)))

/-- Check 13: PILOTS counts the elements that name the monitor, at most 16. -/
def check13 (m : EMap) : Option (Nat × Nat) :=
  firstBad 4 6144 (fun x => (m.mon x).pilots != (m.namers x).length || 16 < (m.mon x).pilots)

/-- Check 14: DRIVE_MAX, PROF_FWD, PROF_REV, INIT_RANGE and GATE_DARK within their ranges. -/
def check14 (m : EMap) : Option (Nat × Nat) :=
  firstOf [
    firstBad 3 10240 (fun e =>
      let r := m.elem e
      2 ^ (if isV e then 20 else 16) ≤ r.driveMax || 15 < r.profFwd || 15 < r.profRev),
    firstBad 4 6144 (fun x => 3 < (m.mon x).initRange),
    firstBad 5 1024 (fun p =>
      let r := m.portRec p
      2 ^ 20 ≤ r.gateDark || (r.gate != 0xFFFF && (m.elem r.gate).driveMax < r.gateDark))]

/-- Whether a monitor's USE and OWNER agree with the cell and port tables (check 15). -/
def monAgrees (m : EMap) (x : Nat) : Bool :=
  let r := m.mon x
  match r.use with
  | 1 => r.owner < m.cells && (m.cell r.owner).monitor == x
  | 2 => r.owner < 512 && (m.portRec r.owner).tap == x
  | 3 => r.owner < 512 && (m.portRec (512 + r.owner)).tap == x
  | 0 | 4 => r.owner == 0xFFFF
  | _ => false

/-- Check 15: port records under R56, and monitors' USE and OWNER agree with the cell and port tables in both directions. -/
def check15 (m : EMap) : Option (Nat × Nat) :=
  firstOf [
    firstBad 4 6144 (fun x => !monAgrees m x),
    firstBad 5 1024 (fun p =>
      let r := m.portRec p
      r.use != (if p % 512 < m.ports then 1 else 0) || (r.gate == 0xFFFF && r.gateDark != 0)
        || !(r.tap == 0xFFFF || (r.tap < 6144 && (m.mon r.tap).use == (if p < 512 then 2 else 3)
              && (m.mon r.tap).owner == p % 512))),
    firstBad 6 m.cells (fun c =>
      let x := (m.cell c).monitor
      !(x == 0xFFFF || (x < 6144 && (m.mon x).use == 1 && (m.mon x).owner == c)))]

/-- The first failed check as (number, table, record), or none where the map is accepted (R61), given each compartment's
loop period and window. Checks 1, 2 and 4 stop in the header and check 3 in the CRC. -/
def mapCheck (loop : Nat → Nat × Nat) (f : List Nat) : Option (Nat × Nat × Nat) :=
  let m := readMap f
  let at0 (n table : Nat) (ok : Bool) : Option (Nat × Nat × Nat) := if ok then none else some (n, table, 0)
  let at1 (n : Nat) (r : Option (Nat × Nat)) : Option (Nat × Nat × Nat) := r.map (fun p => (n, p.1, p.2))
  (at0 1 0 (m.magic == 0x4D45584C && m.version == 1)).orElse fun _ =>
  (at0 2 0 (m.length == 442628 + 16 * m.cells && m.length == f.length)).orElse fun _ =>
  (at0 3 7 (m.crc == crc32 (f.take (m.length - 4)))).orElse fun _ =>
  (at0 4 0 (topologyOk m)).orElse fun _ =>
  (at1 5 (check5 m)).orElse fun _ => (at1 6 (check6 m)).orElse fun _ => (at1 7 (check7 m)).orElse fun _ =>
  (at1 8 (check8 m)).orElse fun _ => (at1 9 (check9 m)).orElse fun _ => (at1 10 (check10 m)).orElse fun _ =>
  (at1 11 (check11 loop m)).orElse fun _ => (at1 12 (check12 m)).orElse fun _ =>
  (at1 13 (check13 m)).orElse fun _ => (at1 14 (check14 m)).orElse fun _ => at1 15 (check15 m)

/-- Whether a length is that of a map file (R45). -/
def mapLengthOk (n : Nat) : Bool := 442628 ≤ n && n ≤ 512260 && (n - 442628) % 16 == 0

end Sys2Proof.Machine
end

