-- ==== Sys2Proof/Machine/Wire.lean ====
section
/-! DEFINITION. Chain frames as bytes (R6, R325, R326): lengths, the Cairn header and the payloads whose layout the manual gives, each
field most significant byte first. -/

namespace Sys2Proof.Machine

/-! ## Lengths -/

/-- The payload bytes of a Cairn frame (R321, R329, R332, R336, R259, R340, R401, R446, R480). ENUM payloads have no byte
layout in the manual: DESIGN CHOICE of 32 bytes, and for COMPLETE two bytes a depth and four a ring entry. -/
def msgLen : Msg → Nat
  | .hello _ _ _ _ _ _ _ => 24
  | .enumClear _ => 32
  | .enumAssign _ _ _ _ => 32
  | .enumBusy _ => 32
  | .enumDone _ _ _ => 32
  | .enumReport _ _ => 32
  | .enumComplete _ _ _ d r => 32 + 2 * d.length + 4 * r.length
  | .wrap _ _ _ => 8
  | .clearing _ => 32
  | .remote _ _ _ _ _ d => 0x50 + d.length
  | .faultNotice _ => 32
  | .telemetry _ _ _ _ _ recs => 16 + recs.length
  | .bulk _ _ _ _ _ _ _ d => 24 + d.length

/-- The messageLength of a PTP message (IEEE 1588-2019: PRESUMED): Sync, Follow_Up and Delay_Req 44, Pdelay messages 54,
Announce 64 bytes. -/
def ptpLen (m : Ptp) : Nat := if m.msgType = 0xB then 64 else if m.msgType = 2 ∨ m.msgType = 3 ∨ m.msgType = 0xA then 54 else 44

/-- The bytes of a chain frame from DA to FCS (R325): at least 64. -/
def frameBytes : Frame → Nat
  | .cairn c => max 64 (14 + 16 + msgLen c.msg + 4)
  | .ptp m => max 64 (14 + ptpLen m + 4)

/-! ## Payloads (R321, R259, R340, R401, R446, R480) -/

/-- The 24 bytes of HELLO (R321). -/
def helloBytes (uid addr port role epoch blockHi depth : Nat) : List Nat :=
  beBytes 8 uid ++ beBytes 2 addr ++ [port, role] ++ beBytes 4 epoch ++ beBytes 2 blockHi ++ beBytes 2 depth ++ [0, 0, 0, 0]

/-- The 32 bytes of a Clearing frame (R259). -/
def clearingBytes (m : ClrMsg) : List Nat :=
  [m.phase, m.flags] ++ beBytes 4 m.clrId ++ beBytes 6 m.exec.sec ++ beBytes 4 m.exec.ns ++ beBytes 2 m.slot
    ++ beBytes 2 m.maxDist ++ [m.status, 0] ++ beBytes 2 m.moved ++ beBytes 2 m.notMoved ++ [0, 0, 0, 0, 0, 0]

/-- The payload of a REMOTE frame (R340). -/
def remoteBytes (reqId phase execTo rspLen : Nat) (body data : List Nat) : List Nat :=
  beBytes 2 reqId ++ [phase, 0] ++ beBytes 2 data.length ++ beBytes 2 execTo ++ beBytes 2 rspLen ++ [0, 0, 0, 0, 0, 0]
    ++ (body ++ List.replicate (64 - body.length) 0) ++ data

/-- The payload of a TELEMETRY frame (R401): its header, then the records as their own tables give them. -/
def telemetryBytes (ring source count seq dropped : Nat) (recs : List Nat) : List Nat :=
  [ring, source] ++ beBytes 2 count ++ beBytes 4 seq ++ beBytes 4 dropped ++ [0, 0, 0, 0] ++ recs

/-- The payload of an FW_BULK frame (R480). -/
def bulkBytes (phase kind xfer total offset status acked : Nat) (data : List Nat) : List Nat :=
  [phase, kind] ++ beBytes 2 xfer ++ beBytes 4 total ++ beBytes 4 offset ++ beBytes 2 data.length ++ [status, 0] ++ beBytes 4 acked
    ++ [0, 0, 0, 0] ++ data

/-- The bytes of a payload; none for ENUM and WRAP, whose layout the manual does not give. -/
def payloadBytes : Msg → Option (List Nat)
  | .hello u a p r e b d => some (helloBytes u a p r e b d)
  | .enumClear _ => none
  | .enumAssign _ _ _ _ => none
  | .enumBusy _ => none
  | .enumDone _ _ _ => none
  | .enumReport _ _ => none
  | .enumComplete _ _ _ _ _ => none
  | .wrap _ _ _ => none
  | .clearing m => some (clearingBytes m)
  | .remote q p x r b d => some (remoteBytes q p x r b d)
  | .faultNotice e => some e
  | .telemetry r s c q d recs => some (telemetryBytes r s c q d recs)
  | .bulk p k x t o s a d => some (bulkBytes p k x t o s a d)

/-! ## The Cairn header (R326) -/

/-- One byte into a CRC-16 with polynomial 0x1021, not reflected. -/
def crc16Byte (crc b : Nat) : Nat :=
  (List.range 8).foldl (fun (c : Nat) (_ : Nat) =>
    if c.testBit 15 then (2 * c % 65536) ^^^ 0x1021 else 2 * c) (crc ^^^ (b * 256))

/-- The CRC-16 of R326 over a byte string, from 0xFFFF. -/
def crc16 (bs : List Nat) : Nat := bs.foldl crc16Byte 0xFFFF

/-- Bytes 0x0 to 0xD of the Cairn header of a frame with the HOPS given. -/
def headBytes (c : Cairn) (hops : Nat) : List Nat :=
  [16 + c.tc, c.kind] ++ beBytes 2 c.dst ++ beBytes 2 c.src ++ beBytes 2 hops ++ beBytes 2 c.seq ++ beBytes 2 (msgLen c.msg)
    ++ [bit01 c.upleg + 2 * bit01 c.wrapped, 0]

/-- The 16 bytes of the Cairn header (R326): HCRC takes HOPS as 0. -/
def cairnHeader (c : Cairn) : List Nat := headBytes c c.hops ++ beBytes 2 (crc16 (headBytes c 0))

/-! ## Frames (R325) -/

/-- A link address (R325): 0x0A, bits [31:0] of a module's UID, a port number. -/
def linkAddr (uid port : Nat) : List Nat := [0x0A] ++ beBytes 4 (uid % 2 ^ 32) ++ [port]

/-- The bytes of a frame from DA on, as far as the manual gives them (R294, R325): a frame whose payload has a layout in full, padded
to 60 bytes, with its FCS; another one up to its header. The FCS is that of IEEE 802.3, least significant byte first (PRESUMED). -/
def State.wireOf (s : State) (p : Nat) (f : Frame) (bad : Bool) : List Nat :=
  let sa := linkAddr Config.uid p
  match f with
  | .ptp _ => [0x01, 0x80, 0xC2, 0x00, 0x00, 0x0E] ++ sa ++ [0x88, 0xF7]
  | .cairn c =>
    let da := if c.kind = 1 then List.replicate 6 0xFF else linkAddr (s.rd .chp_neigh_uid_uid p) (s.rd .chp_neigh_port p)
    let head := da ++ sa ++ [0x88, 0xB5] ++ cairnHeader c
    match payloadBytes c.msg with
    | none => head
    | some l =>
      let b := head ++ l ++ List.replicate (60 - (head.length + l.length)) 0
      b ++ leBytes 4 (if bad then 2 ^ 32 - 1 - crc32 b else crc32 b)

/-- A frame that leaves a port, as an output. -/
def State.frameOut (s : State) (p : Nat) (f : Frame) (bad : Bool) : Output := .frame p f (s.wireOf p f bad) bad

end Sys2Proof.Machine
end

