-- ==== Sys2Proof/Machine/SchedOps.lean ====
section
/-! DEFINITION. The queues of a chain port (R345 to R347): frame lengths, entering a queue, emptying it, and the WRAP that
passes every queue. -/

namespace Sys2Proof.Machine

/-- The queue of a frame: its traffic class, TC7 for PTP (R345). -/
def frameCls : Frame → Nat
  | .cairn c => c.tc
  | .ptp _ => 7

/-- A port of the scheduler. -/
def State.sp (s : State) (p : Nat) : SchPort := Tbl.get {} s.sch p

/-- A port of the scheduler changed by `f`. -/
def State.modSp (s : State) (p : Nat) (f : SchPort → SchPort) : State := { s with sch := Tbl.modify {} s.sch p f }

/-- The queue of a class, oldest first. -/
def SchPort.queue (q : SchPort) (c : Nat) : List QFrame := Tbl.get [] q.queues c

/-- The frame bytes that a queue holds. -/
def qBytes (l : List QFrame) : Nat := (l.map (fun f => f.bytes)).sum

/-- DEPTH of a queue shown in 16 bytes, saturating (CHS_QSTAT). -/
def State.showDepth (s : State) (p c : Nat) : State :=
  s.wr .chs_qstat_depth (8 * p + c) (min 65535 (qBytes ((s.sp p).queue c) / 16))

/-- The queue of a class replaced. -/
def State.setQueue (s : State) (p c : Nat) (l : List QFrame) : State :=
  (s.modSp p (fun q => { q with queues := Tbl.set [] q.queues c l })).showDepth p c

/-- A frame enters the queue of its class (R345): within 64 KiB, else a forwarded frame is dropped and counted and a frame
of this module waits in the Crown. -/
def State.enqueue (s : State) (p : Nat) (own : Bool) (f : QFrame) : State :=
  let c := frameCls f.frame
  let l := (s.sp p).queue c
  let s := if l = [] then s.modSp p (fun q => { q with fresh := q.fresh ++ [c] }) else s
  if qBytes l + f.bytes ≤ 65536 ∧ (own = false ∨ Tbl.get [] (s.sp p).crown c = []) then s.setQueue p c (l ++ [f])
  else if own then s.modSp p (fun q => { q with crown := Tbl.modify [] q.crown c (fun w => w ++ [f]) })
  else s.sat .chs_qstat_qdrop (8 * p + c)

/-- Frames that wait in the Crown enter their queue while there is room (R345), at most `n` of them. -/
def State.drainCrown (s : State) (p c : Nat) : Nat → State
  | 0 => s
  | n + 1 =>
    match Tbl.get [] (s.sp p).crown c with
    | [] => s
    | f :: r =>
      if qBytes ((s.sp p).queue c) + f.bytes ≤ 65536 then
        ((s.modSp p (fun q => { q with crown := Tbl.set [] q.crown c r })).setQueue p c
          ((s.sp p).queue c ++ [f])).drainCrown p c n
      else s

/-- Every queue of a port emptied; each frame lost is counted in DEST of the port (R337, R345). -/
def State.emptyQueues (s : State) (p : Nat) : State :=
  let lost := ((List.range 8).map (fun c => ((s.sp p).queue c).length + (Tbl.get [] (s.sp p).crown c).length)).sum
    + bit01 (s.sp p).tx.isSome
  let s1 := (List.range 8).foldl (fun s c => s.setQueue p c []) s
  (s1.modSp p (fun q => { q with crown := [], tx := none, fresh := [] })).wr .chp_drop_cnt_dest p
    (min 65535 (s1.rd .chp_drop_cnt_dest p + lost))

/-- A WRAP leaves a port at once: a frame in transmission ends with an inverted FCS and is counted in ABORT (R347). -/
def State.sendWrap (s : State) (p : Nat) (c : Cairn) : State :=
  match (s.sp p).tx with
  | none => s.emit (s.frameOut p (.cairn c) false)
  | some (_, _, f) =>
    (((s.emit (s.frameOut p f.frame true)).modSp p (fun q => { q with tx := none })).sat .chs_abort_abort p).emit
      (s.frameOut p (.cairn c) false)

end Sys2Proof.Machine
end

