-- ==== Sys2Proof/Machine/ChainOps.lean ====
section
/-! DEFINITION. Sending and routing chain frames (R325 to R328, R334). -/

namespace Sys2Proof.Machine

/-- A chain port beside its registers. -/
def State.port (s : State) (p : Nat) : Port := Tbl.get {} s.ports p

/-- A chain port changed by `f`. -/
def State.modPort (s : State) (p : Nat) (f : Port → Port) : State := { s with ports := Tbl.modify {} s.ports p f }

/-- The role of a port (CHP_STATUS): 0 UNUSED, 1 UP, 2 DOWN, 3 STANDBY, 4 BLOCKED, 5 TEST. -/
def State.role (s : State) (p : Nat) : Nat := s.rd .chp_status_role p

/-- The role of a port set; a change sets the role-change event (R344). -/
def State.setRole (s : State) (p r : Nat) : State :=
  if s.role p = r then s else (s.wr .chp_status_role p r).chpEvent p 3

/-- Whether a port's link is up. -/
def State.linkUp (s : State) (p : Nat) : Bool := s.bit .chp_status_link_up p

/-- This module's chain address, 0 if not enumerated. -/
def State.addr (s : State) : Nat := s.rd .chp_fab_addr 0

/-- Whether this module is enumerated and has a path to the root (STATE 2 of CHP_FAB). -/
def State.enumerated (s : State) : Bool := s.rd .chp_fab_state 0 == 2

/-- The traffic class that R327 gives a KIND; REMOTE may also use 2 (R339). -/
def kindTc (k : Nat) : Nat :=
  match k with
  | 1 | 3 | 6 => 4
  | 2 | 5 => 5
  | 4 => 6
  | 7 => 3
  | _ => 1

/-- The UP port, where there is one. -/
def State.upPort (s : State) : Option Nat := (List.range 4).find? (fun p => s.role p == 1)

/-- The DOWN port whose range contains an address (R334). -/
def State.downPort (s : State) (a : Nat) : Option Nat :=
  (List.range 4).find? (fun p => s.role p == 2 && s.rd .chp_range_lo p ≤ a && a ≤ s.rd .chp_range_hi p)

/-- Where R334 sends a frame that is not for this module: the DOWN port whose range holds DST, else the UP port. -/
def State.routePort (s : State) (dst : Nat) : Option Nat :=
  match s.downPort dst with
  | some p => some p
  | none => s.upPort

/-- Whether a port may send Cairn frames other than HELLO: its link is up and a valid HELLO has come (R321). -/
def State.portReady (s : State) (p : Nat) : Bool := s.linkUp p && s.bit .chp_status_hello_ok p

/-- A frame put into the queue of a port; an armed INJ_FCS inverts the FCS of the next Cairn frame sent (R324). -/
def State.toPort (s : State) (p : Nat) (own : Bool) (c : Cairn) : State :=
  let bad := (s.port p).injFcs
  (if bad then s.modPort p (fun x => { x with injFcs := false }) else s).enqueue p own
    { frame := .cairn c, bytes := frameBytes (.cairn c), bad := bad }

/-- The next SEQ of a KIND, per source and KIND, wrapping (R326). -/
def State.nextSeq (s : State) (kind : Nat) : Nat := Tbl.get 0 s.fab.seqs kind

/-- The SEQ of a KIND used up. -/
def State.useSeq (s : State) (kind : Nat) : State :=
  { s with fab := { s.fab with seqs := Tbl.set 0 s.fab.seqs kind ((s.nextSeq kind + 1) % 65536) } }

/-- A Cairn frame that this module sends as a source, with its class, address and sequence number (R326). -/
def State.cairnOf (s : State) (kind tc dst : Nat) (m : Msg) : Cairn :=
  { tc := tc, kind := kind, dst := dst, src := s.addr, seq := s.nextSeq kind, msg := m }

/-- A frame of this module sent out one port. -/
def State.sendOn (s : State) (p kind : Nat) (m : Msg) : State :=
  (s.toPort p true (s.cairnOf kind (kindTc kind) 0 m)).useSeq kind

/-- A frame sent out every DOWN port. -/
def State.sendDown (s : State) (own : Bool) (c : Cairn) : State :=
  (List.range 4).foldl (fun s p => if s.role p = 2 ∧ s.portReady p then s.toPort p own c else s) s

/-- An addressed or broadcast frame of this module on its way (R334): at a down ring link it leaves on the other ring port with WRAPPED
set (R336); at another down link it is lost and counted (R337). -/
def State.sendTo (s : State) (kind tc dst : Nat) (m : Msg) : State :=
  let c := s.cairnOf kind tc dst m
  let s1 := s.useSeq kind
  if dst = 0xFFFF then
    if s.bit .chp_fab_root 0 then s1.sendDown true c
    else match s.upPort with
      | some p => if s.portReady p then s1.toPort p true { c with upleg := true } else s1.sat .chp_drop_cnt_dest p
      | none => s1
  else match s.routePort dst with
    | some p =>
      if s.portReady p then s1.toPort p true c
      else if s.bit .chp_fab_ring 0 ∧ p ≤ 1 ∧ s.portReady (1 - p) then s1.toPort (1 - p) true { c with wrapped := true }
      else s1.sat .chp_drop_cnt_dest p
    | none => s1

/-- A frame of the KIND's own class. -/
def State.send (s : State) (kind dst : Nat) (m : Msg) : State := s.sendTo kind (kindTc kind) dst m

end Sys2Proof.Machine
end

