-- ==== Sys2Proof/Machine/FaultOps.lean ====
section
/-! DEFINITION. The fault log and the reactions (R433 to R452): the operations that FAULT_DETECTED and the fault commands
share. -/

namespace Sys2Proof.Machine

/-- The compartment that a fault object belongs to (R441, R446), where it has one. -/
def objCpt (kind obj : Nat) : Option Nat :=
  match kind with
  | 1 => some (elemCpt obj)
  | 2 => some (monCpt obj)
  | 3 => some obj
  | 10 => some (grpCpt obj)
  | _ => none

/-- Whether an entry is visible to a mailbox (R449). -/
def State.visible (s : State) (m : Nat) (e : LogEntry) : Bool :=
  m == 0 || e.mailbox == m ||
  (match e.objKind with
   | 1 => s.holdsElem m e.object
   | 2 => s.holdsMon m e.object
   | 3 => s.holdsCptElems m e.object
   | 7 => s.holdsSlot m e.object
   | _ => false)

/-- The FLAGS byte of an entry (R446). -/
def LogEntry.flags (e : LogEntry) : Nat :=
  bit01 e.locked + 2 * bit01 e.injected + 4 * bit01 e.persisted + 8 * bit01 e.remote

/-- The 32 bytes of an entry in host memory (R446). -/
def LogEntry.bytes (e : LogEntry) : List Nat :=
  leBytes 4 e.seq ++ timeBytes10 e.time ++ [e.flags, e.cls] ++ leBytes 2 e.source ++ [e.react, e.mailbox, e.objKind, 0]
    ++ leBytes 2 e.reps ++ leBytes 4 e.object ++ leBytes 4 e.detail

/-- The 32 bytes of an entry in a FAULT_NOTICE, each field most significant byte first (R451). -/
def LogEntry.wire (e : LogEntry) : List Nat :=
  let d := timeOf e.time
  beBytes 4 e.seq ++ beBytes 6 d.sec ++ beBytes 4 d.ns ++ [e.flags, e.cls] ++ beBytes 2 e.source
    ++ [e.react, e.mailbox, e.objKind, 0] ++ beBytes 2 e.reps ++ beBytes 4 e.object ++ beBytes 4 e.detail

/-- Whether ERR_N is low: until the collector starts, while the latch is set, while FORCE is 1, for 10 µs from each assertion
(R443), or after the two copies of the collector disagreed (R436). -/
def State.errLow (s : State) : Bool :=
  !s.flt.started || s.bit .flt_err_latch 0 || s.bit .flt_err_force 0 || s.flt.dead || decide (s.loop.frames < s.flt.errTo)

/-- ERR_N driven to the level that R443 gives it; a change of level is an output, and one to low holds it for 10 µs. -/
def State.driveErr (s : State) : State :=
  let low := s.errLow
  if s.bit .flt_status_errn 0 = !low then s
  else
    let s1 := (s.wrBit .flt_status_errn 0 (!low)).emit (.errN low)
    if low then { s1 with flt := { s1.flt with errTo := s.loop.frames + framesIn 10000 } } else s1

/-- The class of an occurrence (R433, R438). -/
def repClass (r : FaultRep) : Nat := if r.src = 0x34 ∨ r.src = 0x3A then r.cls else Config.faultClassCode r.src

/-- The newest entry of a source. -/
def State.newestOf (s : State) (src : Nat) : Option LogEntry := s.flt.log.reverse.find? (fun e => e.source == src)

/-- Whether a report is coalesced (R447): a CE report of the same source and object as that source's newest entry, less
than 1 s after it. -/
def State.coalesces (s : State) (r : FaultRep) : Bool :=
  repClass r == 1 &&
  match s.newestOf r.src with
  | some e => e.object == r.obj && e.objKind == r.objKind && decide (e.time ≤ s.datum.t)
      && decide (s.datum.t < e.time + 1000000000 * tickNs)
  | none => false

/-- Whether the compartment of a report is fenced and has already raised INT since its fence (R441). -/
def State.quietFault (s : State) (r : FaultRep) : Bool :=
  match objCpt r.objKind r.obj with
  | some n => s.bit .glb_cpt_svc_fenced n && s.flt.quiet.contains n
  | none => false

/-- The reactions that apply to an occurrence: the source's set; a DRST only for class UC or FT (R438); after a DRST decision
only ERRPIN (R444); no INT from a compartment that is fenced and has raised one (R441). -/
def State.reactOf (s : State) (r : FaultRep) : Nat :=
  let p := s.rd .flt_policy_react r.src
  let a := if repClass r = 1 ∧ p.testBit 4 then p - 16 else p
  let b := if s.flt.drstPending then a &&& 0x20 else a
  if s.quietFault r ∧ b.testBit 0 then b - 1 else b

/-- The entry that a report makes (R446). -/
def State.entryOf (s : State) (r : FaultRep) : LogEntry :=
  { seq := s.rd .flt_log_seq_next 0, time := s.datum.t, locked := s.locked, injected := r.injected, persisted := false,
    remote := r.remote, cls := repClass r, source := r.src, react := s.reactOf r, mailbox := r.mbx, objKind := r.objKind,
    reps := 0, object := r.obj, detail := r.detail }

/-- An entry written to the SRAM log (R434, R448): the latest 4,096 are held and LOST counts those overwritten. -/
def State.logWrite (s : State) (e : LogEntry) : State :=
  let full := 4096 ≤ s.flt.log.length
  let s1 := { s with flt := { s.flt with log := (if full then s.flt.log.drop 1 else s.flt.log) ++ [e] } }
  let s2 := if full then s1.sat .flt_status_lost 0 else s1
  let s3 := s2.inc .flt_log_seq_next 0
  s3.wrBit (if e.cls = 1 then .flt_status_ce else if e.cls = 2 then .flt_status_uc else .flt_status_ft) 0 true

/-- A fault notice for an entry (R451): at most one frame per source per millisecond; an entry that comes earlier counts in
REPEAT instead; an unenumerated or ISOLATED module sends nothing. -/
def State.sendNotice (s : State) (e : LogEntry) : State :=
  let last := Tbl.get none s.flt.noticeLast e.source
  let soon : Bool := match last with | some t => decide (s.datum.t < t + 1000000 * tickNs) | none => false
  if !s.enumerated then s
  else if soon then
    { s with flt := { s.flt with log := s.flt.log.map (fun x =>
        if x.seq = e.seq then { x with reps := min 65535 (x.reps + 1) } else x) } }
  else
    ({ s with flt := { s.flt with noticeLast := Tbl.set none s.flt.noticeLast e.source (some s.datum.t) } }).send 6
      (s.rd .flt_notice_dst 0) (.faultNotice e.wire)

/-- The ERRPIN reaction (R443): the latch is set, FIRST_SRC names the first source since it was cleared, and an ACK waits
until that entry has been read with no ERRPIN fault logged since. -/
def State.errPin (s : State) (e : LogEntry) : State :=
  if s.bit .flt_err_latch 0 then { s with flt := { s.flt with ackReady := false } }
  else
    ({ (s.wrBit .flt_err_latch 0 true).wr .flt_err_first_src 0 e.source with
       flt := { s.flt with firstErr := some e.seq, ackReady := false } }).driveErr

/-- INT (R437): PF vector 8, and vector 1 of every VF to which the entry is visible. -/
def State.raiseInt (s : State) (e : LogEntry) : State :=
  [1, 2, 3, 4, 5, 6, 7].foldl (fun s k => if s.visible k e then s.emit (.msix k 1) else s) (s.emit (.msix 0 8))

/-- The compartment of an entry raises no further INT until its next fence (R441). -/
def State.hush (s : State) (e : LogEntry) : State :=
  match objCpt e.objKind e.object with
  | some n =>
    if s.bit .glb_cpt_svc_fenced n ∧ !s.flt.quiet.contains n then
      { s with flt := { s.flt with quiet := s.flt.quiet ++ [n] } }
    else s
  | none => s

/-- The commands in flight of a mailbox complete with INTERNAL, as DRST decides (R442); the response of a remote one is lost. -/
def State.failFlights (s : State) (m : Nat) : State :=
  s.modMb m (fun b => { b with flight := (b.flight.filter (fun f => f.remote.isNone)).map (fun f =>
    { f with eff := true, comp := some { status := .internal } }) })

/-- DRST decided (R442): every enabled mailbox posts INTERNAL for each command in flight, in submission order, while its ring
has room; the reset follows as a step of its own. -/
def State.decideDrst (s : State) : State :=
  let s1 := (List.range 8).foldl (fun s m =>
    if s.bit .mbx_ctrl_en m then (s.failFlights m).postUpTo m (s.mb m).flight.length else s) s
  { s1 with flt := { s1.flt with drstPending := true } }

/-- One reaction set applied for an entry (R437), less DRST, which is decided once for the batch. -/
def State.react (s : State) (e : LogEntry) (drst : Bool) : State :=
  let r := e.react
  let s1 := if r.testBit 0 then (s.raiseInt e).hush e else s
  let s2 := if r.testBit 1 then { s1 with flt := { s1.flt with nmiCount := s1.flt.nmiCount + 1 } } else s1
  let s3 := if r.testBit 2 ∧ drst = false then
    { s2 with flt := { s2.flt with brstPending := s2.flt.brstPending ++ [(e.source, e.object)] } } else s2
  let s4 := match r.testBit 3, objCpt e.objKind e.object with
    | true, some n => { s3 with flt := { s3.flt with fencePending := s3.flt.fencePending ++ [n] } }
    | _, _ => s3
  let s5 := if r.testBit 5 then s4.errPin e else s4
  if r.testBit 6 then s5.sendNotice e else s5

/-- The context that Forester records in DETAIL at an NMI (R437), where the source gives DETAIL nothing of its own: the manual does
not state it, so it is a free value. -/
def State.contextOf (s : State) (e : LogEntry) : State × LogEntry :=
  if e.react.testBit 1 ∧ e.detail = 0 then (s.useFree, { e with detail := s.freeVal % 2 ^ 32 }) else (s, e)

/-- One report logged: coalesced under R447, or entered in the log (R434). Answers the entry to react to. -/
def State.logReport (s : State) (r : FaultRep) : State × Option LogEntry :=
  if (Config.faultRow r.src).isNone then (s, none)
  else if s.coalesces r then
    ({ s with flt := { s.flt with log := (s.flt.log.reverse.foldl (fun (acc : List LogEntry × Bool) e =>
        if acc.2 = false ∧ e.source = r.src then ({ e with reps := min 65535 (e.reps + 1) } :: acc.1, true)
        else (e :: acc.1, acc.2)) ([], false)).1 } }, none)
  else
    let (s1, e) := s.contextOf (s.entryOf r)
    (s1.logWrite e, some e)

/-- Reports in ascending source code (R444). -/
def insertRep (r : FaultRep) : List FaultRep → List FaultRep
  | [] => [r]
  | x :: l => if r.src < x.src then r :: x :: l else x :: insertRep r l

/-- Every report of one cycle logged in ascending source code, then their reactions as one set (R444). -/
def State.collect (s : State) (reps : List FaultRep) : State :=
  let sorted := reps.foldr insertRep []
  let (s1, es) := sorted.foldl (fun (acc : State × List LogEntry) r =>
    match acc.1.logReport r with
    | (t, some e) => (t, acc.2 ++ [e])
    | (t, none) => (t, acc.2)) (s, [])
  let drst := es.any (fun e => e.react.testBit 4)
  let s2 := es.foldl (fun s e => s.react e drst) s1
  if drst then s2.decideDrst else s2

end Sys2Proof.Machine
end

