-- ==== Sys2Proof/Machine/Host.lean ====
section
/-! DEFINITION. The host interface of file 13: rings, doorbells, admission, completions and telemetry rings, with the
admission policing of file 12 (R358). -/

namespace Sys2Proof.Machine

/-! ## Fetching (R373, R374, R377) -/

/-- Whether a mailbox can fetch: EN is 1, no DMA error has stopped it, host memory is open (R366, R374, R377). -/
def State.canFetch (s : State) (m : Nat) : Bool := s.bit .mbx_ctrl_en m && !(s.mb m).stopped && s.hostOpen m

/-- RDY shown (MBX_STATUS). -/
def State.showRdy (s : State) (m : Nat) : State := s.wrBit .mbx_status_rdy m (s.canFetch m)

/-- SQ_DOORBELL (R374): a tail value names the next free entry; outside the ring, or while EN is 0, it is discarded and sets
DB_ERR. -/
def execSqDoorbell (m : Fin 8) (v : Nat) (s : State) : Result :=
  .next (if s.bit .mbx_ctrl_en m = false ∨ s.sqSize m ≤ v then s.wrBit .mbx_status_db_err m true
  else s.wr .mbx_sq_db_sq_tail m v)

/-- The entries between SQ_HEAD and SQ_TAIL (R374). -/
def State.toFetch (s : State) (m : Nat) : Nat :=
  (s.rd .mbx_sq_db_sq_tail m + s.sqSize m - s.rd .mbx_sq_db_sq_head m) % s.sqSize m

/-- COMMAND_FETCH (R374): the entries that the host's ring holds from SQ_HEAD on are fetched in ring order up to SQ_TAIL, and
SQ_HEAD moves past them. -/
def execCommandFetch (m : Fin 8) (entries : List (List Nat)) (s : State) : Result :=
  .next (if s.canFetch m then
    let got := entries.take (s.toFetch m)
    (s.modMb m (fun b => { b with fetched := b.fetched ++ got.map (fun e => (e, none)) })).wr .mbx_sq_db_sq_head m
      ((s.rd .mbx_sq_db_sq_head m + got.length) % s.sqSize m)
  else s)

/-- MBX_ENABLE_WRITE (R373): EN from 0 to 1 sets heads, tails and phase, and is refused while a command is fetched or in
flight; clearing EN stops fetching. -/
def execMbxEnableWrite (m : Fin 8) (en : Bool) (s : State) : Result :=
  .next (if en = false then (s.wrBit .mbx_ctrl_en m false).showRdy m
  else if s.bit .mbx_ctrl_en m then s
  else if (s.mb m).flight ≠ [] ∨ (s.mb m).fetched ≠ [] then s
  else
    let s1 := s.modMb m (fun b => { b with phase := true, unreleased := 0, stopped := false })
    let s2 := ((s1.wr .mbx_sq_db_sq_head m 0).wr .mbx_sq_db_sq_tail m 0).wr .mbx_cq_db_cq_head m 0
    ((s2.wr .mbx_cq_db_cq_tail m 0).wrBit .mbx_ctrl_en m true).showRdy m)

/-- MAILBOX_DMA_ERROR (R377): a fetch error (cause 1), a completion write error (2) or a poisoned TLP (3) sets ERR, stops
fetching and is reported; a completion that could not be written is discarded. Where a command's own buffer failed
(`buffer`, its tag), that command completes with INTERNAL and the mailbox continues. -/
def execMailboxDmaError (m : Fin 8) (cause : Fin 4) (buffer : Option Nat) (s : State) : Result :=
  .next (match buffer with
  | some tag =>
    s.modMb m (fun b => { b with flight := b.flight.map (fun f =>
      if f.tag = tag ∧ f.remote = none then { f with eff := true, comp := some { status := .internal } } else f) })
  | none =>
    if cause.val = 0 then s
    else
      let s1 := s.modMb m (fun b => { b with
        stopped := true
        flight := match cause.val, b.flight with
          | 2, f :: r => if f.comp.isSome ∧ f.remote = none then r else f :: r
          | _, l => l })
      (((s1.wrBit .mbx_status_err m true).wr .mbx_status_err_cause m cause).showRdy m).report
        { src := 0x38, objKind := 5, obj := m })

/-- The writes of a mailbox that have waited for host memory, made in order once it may use it (R366). -/
def State.flushHost (s : State) (m : Nat) : State :=
  if s.hostOpen m then
    let s1 := { s with host := { s.host with held := s.host.held.filter (fun w => w.1 != m) } }
    (s.host.held.filter (fun w => w.1 == m)).foldl (fun s w => s.emit (.hostWrite m w.2.1 w.2.2)) s1
  else s

/-- BUS_MASTER_ENABLE_CHANGE (R366): Bus Master Enable and D3hot of a function; while the first is 0 or the second holds, its
mailbox neither fetches nor writes host memory and its commands wait. -/
def execBusMasterEnableChange (fn : Fin 8) (enable d3hot : Bool) (s : State) : Result :=
  .next (((s.modMb fn (fun b => { b with busMaster := enable, d3hot := d3hot })).showRdy fn).flushHost fn)

/-- PERST_N_RELEASE (R471): PERST_N rises and the endpoint starts link training. -/
def execPerstNRelease (s : State) : Result :=
  .next { s with host := { s.host with perstHigh := true, training := true } }

/-! ## Admission (R380 to R384, R342, R358, R472) -/

/-- Whether a mailbox has a command ready for admission: one fetched, the one before at its effect point, no hold (R358, R384);
in RECOVERY every VF mailbox stays idle (R472), and while Forester restarts commands wait (R286). -/
def State.ready (s : State) (m : Nat) : Bool :=
  (s.mb m).fetched != [] && (s.mb m).flight.all (fun f => f.eff) && !s.bit .chs_pol_status_held m
    && !(s.bit .boot_status_recovery 0 && m != 0) && s.boot.actStep != 6

/-- The mailbox whose turn it is: the first after the one admitted last that is ready (R383). -/
def State.turn (s : State) : Option Nat :=
  ((List.range 8).map (fun i => (s.host.lastMbx + 1 + i) % 8)).find? (fun m => s.ready m)

/-- The tag check (R380), for a command of the mailbox's host. -/
def State.tagCheck (s : State) (m tag : Nat) : Option Status :=
  if s.rd .mbx_tags_tag_count m = 0 then some .tagExhausted
  else if tag < s.rd .mbx_tags_tag_base m ∨ s.rd .mbx_tags_tag_base m + s.rd .mbx_tags_tag_count m ≤ tag then
    some .invalidField
  else if (s.mb m).flight.any (fun f => f.tag == tag && f.remote == none) then some .tagExhausted
  else none

/-- What R342 and R389 refuse of a command that arrived through REMOTE. -/
def State.remoteCheck (s : State) (op form : Nat) : Option Status :=
  if !s.bit .chp_remote_accept 0 ∨ !(s.rd .chp_remote_class_en 0).testBit (op / 16) then some .notPermitted
  else if op = 0x91 ∨ op = 0x92 ∨ op = 0x93 ∨ (op = 0x90 ∧ form = 1) then some .notPermitted
  else if op = 0x03 ∨ (op = 0x32 ∧ form = 0) then some .invalidField
  else none

/-- What RECOVERY lets MB0 run (R472). -/
def recoveryAllows (op form : Nat) : Bool :=
  op == 0x01 || op == 0x02 || op == 0x82 || (op == 0x80 && form == 1) || (op == 0x81 && form == 1)

/-- The opcode, form and unused-field checks, in order (R378, R382). -/
def State.entryCheck (s : State) (e : List Nat) (remote : Bool) : Option Status :=
  let op := e.getD 0 0
  let form := e.getD 1 0
  match formCount op with
  | none => some .invalidOpcode
  | some (lo, hi) =>
    if form < lo ∨ hi < form ∨ entryClean e = false then some .invalidField
    else if s.bit .boot_status_recovery 0 ∧ recoveryAllows op form = false then some .notPermitted
    else if remote then s.remoteCheck op form
    else none

/-- The token check of a mailbox (R358): pass, refuse or hold. -/
inductive TokenAnswer where
  | pass
  | refuse
  | hold
  deriving DecidableEq, Repr

/-- The token check for a command with this opcode (R358, R359). -/
def State.tokenCheck (s : State) (m op : Nat) : TokenAnswer :=
  if !s.bit .chs_pol_cfg_en m ∨ tokenExempt op then .pass
  else if tokenUnit ≤ (s.mb m).level then .pass
  else if s.bit .chs_pol_cfg_mode m then .hold
  else .refuse

/-- The token that an admitted command takes (R358, R359). -/
def State.takeToken (s : State) (m op : Nat) : State :=
  if !s.bit .chs_pol_cfg_en m ∨ tokenExempt op then s else s.setLevel m ((s.mb m).level - tokenUnit)

/-- The command in flight that an entry becomes at admission, with its completion where a check already decided it. -/
def newFlight (id : Nat) (e : List Nat) (remote : Option (Nat × Nat)) (refused : Option Status) : Flight :=
  { id := id, tag := entryTag e, imm := (e.getD 4 0).testBit 0, eff := refused.isSome, remote := remote,
    comp := refused.map (fun st => { status := st }) }

/-- The command at the head of a mailbox leaves the fetched list and is in flight, with its completion where a check already
decided it (R380, R382). -/
def State.takeIn (s : State) (m : Nat) (e : List Nat) (remote : Option (Nat × Nat)) (refused : Option Status) : State :=
  { s.modMb m (fun b => { b with
      fetched := b.fetched.drop 1
      flight := b.flight ++ [newFlight s.host.nextId e remote refused] }) with
    host := { s.host with nextId := s.host.nextId + 1, lastMbx := m } }

/-- The admission of the head command of mailbox `m` (R382): tag, token bucket, then opcode, form and unused fields. -/
def State.admitHead (s : State) (m : Nat) : State :=
  match (s.mb m).fetched with
  | [] => s
  | (e, remote) :: _ =>
    let op := e.getD 0 0
    match (if remote.isSome then none else s.tagCheck m (entryTag e)) with
    | some st => s.takeIn m e remote (some st)
    | none =>
      match s.tokenCheck m op with
      | .hold => ((s.setHeld m true).sat .chs_pol_status_pol_cnt m)
      | .refuse => (s.takeIn m e remote (some .policed)).sat .chs_pol_status_pol_cnt m
      | .pass => (s.takeToken m op).takeIn m e remote (s.entryCheck e remote.isSome)

/-- COMMAND_ADMISSION (R382, R383): one ready command, of the mailbox whose turn it is. Nothing is admitted before boot
step 8 (R470) and without CLKREF (R500). -/
def execCommandAdmission (s : State) : Result :=
  .next (match s.turn with
  | some m => if s.host.admission && s.boot.clkref then s.admitHead m else s
  | none => s)

/-- POLICE_HOLD_RESUME (R358): a held mailbox resumes once its level reaches one command. -/
def execPoliceHoldResume (m : Fin 8) (s : State) : Result :=
  .next (if s.bit .chs_pol_status_held m ∧ tokenUnit ≤ (s.mb m).level then s.setHeld m false else s)

/-- A change of MODE from HOLD to REFUSE while a command is held: that command completes with POLICED (R360). -/
def State.releaseHold (s : State) (m : Nat) : State :=
  match s.bit .chs_pol_status_held m, (s.mb m).fetched with
  | true, (e, r) :: _ => (s.takeIn m e r (some .policed)).setHeld m false
  | _, _ => s

/-! ## Completions (R375, R376) -/

/-- The response to a remote request takes the place of its completion entry (R340, R341). -/
def State.postRemote (s : State) (m : Nat) (f : Flight) (c : Completion) (src id : Nat) : State :=
  let body := completionBytes c f.tag false ++ List.replicate 48 0
  let s1 := s.modMb m (fun b => { b with flight := b.flight.drop 1 })
  match s.fab.inReqs.find? (fun r => r.src == src && r.reqId == id) with
  | none => s1
  | some r =>
    let answered (x : RemoteIn) : RemoteIn :=
      if x.src = src ∧ x.reqId = id then { x with response := some (body, x.data), doneAt := s.datum.t, sentAt := s.loop.frames } else x
    ({ s1 with fab := { s1.fab with inReqs := s1.fab.inReqs.map answered } }).sendTo 5 r.tc src
      (.remote id 3 0 0 body r.data)

/-- COMPLETION_POST (R375): the completion at the head of the mailbox's submission order is written at CQ_TAIL once it is due
and the ring has room; that of a remote request is sent as its response. -/
def execCompletionPost (m : Fin 8) (s : State) : Result :=
  .next (match (s.mb m).flight with
  | [] => s
  | f :: _ =>
    match f.comp, f.remote with
    | some c, some (src, id) => s.postRemote m f c src id
    | some c, none => if s.hostOpen m ∧ (s.mb m).unreleased < s.cqSize m then s.postEntry m f c else s
    | none, _ => s)

/-- CQ_HEAD_WRITE (R375): the entries before the value are released; what stays unreleased runs from it to CQ_TAIL. A value
outside the ring, or one that would leave more entries unreleased than there are, is discarded. -/
def execCqHeadWrite (m : Fin 8) (v : Nat) (s : State) : Result :=
  let left := (s.rd .mbx_cq_db_cq_tail m + s.cqSize m - v) % s.cqSize m
  .next (if s.cqSize m ≤ v ∨ (s.mb m).unreleased < left then s
  else (s.modMb m (fun b => { b with unreleased := left })).wr .mbx_cq_db_cq_head m v)

/-- COMPLETION_INTERRUPT (R376): the completion vector is raised when the unannounced completions reach IRQ_THRESH (0 acts as
1) or at once for IMM, or (`timed`) when the oldest has waited IRQ_TIME µs, 0 disabling that; it announces every completion
posted. -/
def execCompletionInterrupt (m : Fin 8) (timed : Bool) (s : State) : Result :=
  let b := s.mb m
  let due : Bool :=
    if timed then
      s.rd .mbx_ctrl_irq_time m != 0 && decide (b.oldestAt + framesIn (s.rd .mbx_ctrl_irq_time m * 1000) ≤ s.loop.frames)
    else decide (max 1 (s.rd .mbx_ctrl_irq_thresh m) ≤ b.unannounced) || b.immPending
  .next (if 0 < b.unannounced ∧ s.hostOpen m ∧ due then
    (s.modMb m (fun b => { b with unannounced := 0, immPending := false })).emit (.msix m 0)
  else s)

/-! ## Telemetry rings (R398, R399, R401) -/

/-- RING_INTERRUPT (R399): a ring raises its vector when PROD − CONS reaches THRESH, or (`timed`) TIME µs after the first record
not yet announced. -/
def execRingInterrupt (m : Fin 8) (j : Fin 48) (timed : Bool) (s : State) : Result :=
  let k := ringKey m j
  let due : Bool :=
    if timed then decide ((s.ring k).firstAt + framesIn ((s.ring k).time * 1000) ≤ s.loop.frames)
    else decide ((s.ring k).thresh ≤ s.ringFill k)
  .next (if j.val < ringCount m ∧ s.hostOpen m ∧ (s.ring k).announced ≠ (s.ring k).prod ∧ due then s.ringRaise k
  else s)

/-- TR_CONS_WRITE (R398): the host's consumer index; one that would make PROD − CONS negative or above the ring size is
discarded and sets RING_ERR. -/
def execTrConsWrite (m : Fin 8) (j : Fin 48) (v : Nat) (s : State) : Result :=
  let k := ringKey m j
  .next (if ringCount m ≤ j.val then s
  else if 2 ^ (s.ring k).rlog < (2 ^ 32 + (s.ring k).prod - v % 2 ^ 32) % 2 ^ 32 then s.wrBit .mbx_tr_status_ring_err k true
  else s.wr .mbx_tr_cons_cons k v)

/-- The key of the ring with a number of R396. -/
def ringOfNumber (r : Nat) : Nat := if r < 48 then ringKey 0 r else ringKey ((r - 48) / 2 + 1) ((r - 48) % 2)

/-- TELEMETRY_FRAME_RECEIVED (R401): the records are written into the ring only if its ORIGIN is the frame's SRC; otherwise the
frame is counted in TR_REJ. -/
def execTelemetryFrameReceived (src : Nat) (ring : Fin 62) (recs : List (List Nat)) (s : State) : Result :=
  let k := ringOfNumber ring
  .next (if s.bit .mbx_tr_status_en k ∧ (s.ring k).origin = src ∧ src ≠ 0 then recs.foldl (fun s r => s.ringWrite k r) s
  else s.sat .mbx_tr_status_tr_rej k)

/-! ## Unlocks (R392, R393) -/

/-- MBX_EXPERT shows the unlocks in force (R393). -/
def State.showExpert (s : State) (m : Nat) : State :=
  let u := (s.mb m).unlocks
  let s1 := s.wr .mbx_expert_cpt m (maskOf ((u.filter (fun x => x.kind == 0)).map (fun x => x.which)))
  let s2 := s1.wrBit .mbx_expert_device m (u.any (fun x => x.kind == 2))
  s2.wr .mbx_expert_blocks m (maskOf ((u.filter (fun x => x.kind == 1)).map (fun x => x.which)))

/-- The unlocks of a mailbox that `p` picks ended. -/
def State.dropUnlocks (s : State) (m : Nat) (p : Unlock → Bool) : State :=
  (s.modMb m (fun b => { b with unlocks := b.unlocks.filter (fun u => !p u) })).showExpert m

/-- UNLOCK_EXPIRY (R393): the TTL of an unlock, in s, expires. -/
def execUnlockExpiry (m : Fin 8) (kind which : Nat) (s : State) : Result :=
  .next (s.dropUnlocks m (fun u => u.kind == kind && u.which == which && u.ttl != 0
    && decide (u.since + framesIn (u.ttl * 1000000000) ≤ s.loop.frames)))

end Sys2Proof.Machine
end

