-- ==== Sys2Proof/Machine/Hkp.lean ====
section
/-! DEFINITION. Housekeeping (file 16): the round, its sensors and supplies, thresholds, the throttle and the flash window.
Temperatures are in 0.01 °C, voltages in mV. -/

namespace Sys2Proof.Machine

/-! ## Sensors (R456 to R460) -/

/-- A sensor beside its registers. -/
def State.sensor (s : State) (k : Nat) : Sensor := Tbl.get {} s.hkp.sensors k

/-- A sensor replaced. -/
def State.setSensor (s : State) (k : Nat) (x : Sensor) : State :=
  { s with hkp := { s.hkp with sensors := Tbl.set {} s.hkp.sensors k x } }

/-- Whether a photonic-die sensor is ABSENT: no map is loaded, or its TYPE is none (R460). -/
def State.absent (s : State) (k : Nat) : Bool :=
  16 ≤ k && match s.map.force with
    | none => true
    | some m => (m.sensors.getD (k - 16) {}).type == 0

/-- The resistance of a platinum sensor of `r0` mΩ at 0 °C, at `t` in 0.01 °C, in mΩ (R457). PRESUMED: the coefficients of
IEC 60751, which the rule names, are 3.9083e-3, -5.775e-7 and, below 0 °C, -4.183e-12. -/
def ptOhms (r0 : Nat) (t : Int) : Rat :=
  let c : Rat := (t : Rat) / 100
  r0 * (1 + 39083 / 10000000 * c - 5775 / 10000000000 * c * c
    - if t < 0 then 4183 / 1000000000000000 * (c - 100) * c * c * c else 0)

/-- The largest temperature of at least `lo` and below `hi` whose resistance is at most `r`, in at most `n` halvings. -/
def ptSearch (r0 : Nat) (r : Rat) : Nat → Int → Int → Int
  | 0, lo, _ => lo
  | n + 1, lo, hi =>
    let mid := (lo + hi) / 2
    if hi - lo ≤ 1 then lo
    else if ptOhms r0 mid ≤ r then ptSearch r0 r n mid hi else ptSearch r0 r n lo mid

/-- The temperature of a platinum sensor in 0.01 °C from its resistance in mΩ less its leads, rounded down (R457); what lies
outside −200 °C to 200 °C stops at the end. -/
def ptTemp (r0 mohm lead : Nat) : Int := ptSearch r0 ((mohm : Rat) - (lead : Rat)) 16 (-20000) 20001

/-- A reading converted as its sensor's record says (R48, R457): a diode by its two voltages, a Pt100 or Pt1000 by its
resistance less LEAD_MOHM. A die sensor gives its value; a form that the sensor does not have is unreadable (DESIGN
CHOICE). -/
def State.converted (s : State) (k : Nat) (r : SensRead) : SensRead :=
  if k < 16 then (match r with | .value t => .value t | _ => .broken)
  else
    let x := (s.map.force.getD {}).sensors.getD (k - 16) {}
    match x.type, r with
    | 1, .volts low high => .value (Config.diodeTemp low high x.ideality)
    | 2, .ohms m => .value (ptTemp 100000 m x.leadMohm)
    | 3, .ohms m => .value (ptTemp 1000000 m x.leadMohm)
    | _, _ => .broken

/-- The Understory die that a sensor sits in. -/
def sensorDie (k : Nat) : Option Nat := if 8 ≤ k ∧ k < 16 then some ((k - 8) / 2) else none

/-- Whether a sensor keeps its last reading this round: its die is in CRST or does not respond (R460). -/
def State.unreached (s : State) (k deaf : Nat) : Bool :=
  match sensorDie k with
  | some n => s.bit .glb_cpt_svc_in_crst n || deaf.testBit n
  | none => false

/-- The reading of a sensor in 0.01 °C. -/
def State.temp (s : State) (k : Nat) : Int := signed 16 (s.rd .hkp_sns_status_t k)

/-- The mean of a sensor. -/
def State.meanT (s : State) (k : Nat) : Int := signed 16 (s.rd .hkp_sns_mean_mean k)

/-- Whether a sensor takes part in R461 to R463 and R468 (R459, R460). -/
def State.takesPart (s : State) (k : Nat) : Bool :=
  !s.bit .hkp_sns_status_absent k && !(s.bit .hkp_sns_status_broken k && s.bit .hkp_sns_cfg_brk_pol k)

/-- A sensor found BROKEN: 150.00 °C, its window cleared, logged at the round in which it became so (R459). -/
def State.breakSensor (s : State) (k : Nat) : State :=
  let was := s.bit .hkp_sns_status_broken k
  let s1 := (((s.wr .hkp_sns_status_t k 15000).wr .hkp_sns_mean_mean k 15000).wr .hkp_sns_status_rate k 0).setSensor k {}
  if was then s1
  else ((s1.wrBit .hkp_sns_status_broken k true).hkpEvent 3).report { src := 0x52, objKind := 8, obj := k }

/-- The rate of a sensor in 0.01 °C/s: its mean less that of 100 rounds earlier, once there have been 100 valid rounds (R458). -/
def Sensor.rate (x : Sensor) : Option Int :=
  match x.means[0]?, x.means[100]? with
  | some a, some b => some (a - b)
  | _, _ => none

/-- A good reading taken into a sensor that is not BROKEN: the mean over the latest 10, the rate (R458). -/
def State.takeReading (s : State) (k : Nat) (t : Int) : State :=
  let old := s.sensor k
  let rs := (t :: old.readings).take 10
  let mean := rs.sum / rs.length
  let x : Sensor := { old with readings := rs, means := (mean :: old.means).take 101 }
  let rate := (x.rate.getD 0) / 10
  (((s.setSensor k x).wr .hkp_sns_status_t k (unsigned 16 t)).wr .hkp_sns_mean_mean k (unsigned 16 mean)).wr
    .hkp_sns_status_rate k (unsigned 8 (clampInt (-128) 127 rate))

/-- A reading of a sensor that responds, converted (R457 to R459): it leaves BROKEN after 10 good rounds in a row. -/
def State.readSensor (s : State) (k : Nat) (r : SensRead) : State :=
  match s.converted k r with
  | .value t =>
    if t < -5500 ∨ 17500 < t then s.breakSensor k
    else if s.bit .hkp_sns_status_broken k = false then s.takeReading k t
    else
      let n := (s.sensor k).good + 1
      if n < 10 then s.setSensor k { s.sensor k with good := n }
      else (((s.setSensor k {}).wrBit .hkp_sns_status_broken k false).hkpEvent 3).takeReading k t
  | _ => s.breakSensor k

/-- One sensor in one round: ABSENT, not reached, or read (R456 to R460). A die that has not responded for 500 ms, 50
rounds, makes its sensors BROKEN. -/
def State.roundSensor (s : State) (k deaf : Nat) (r : SensRead) : State :=
  if s.absent k then
    let s1 := ((s.wrBit .hkp_sns_status_absent k true).wr .hkp_sns_status_t k 0).wr .hkp_sns_mean_mean k 0
    let s2 := (s1.wr .hkp_sns_status_rate k 0).setSensor k {}
    if s.bit .hkp_sns_status_broken k then (s2.wrBit .hkp_sns_status_broken k false).hkpEvent 3 else s2
  else
    let s1 := s.wrBit .hkp_sns_status_absent k false
    match sensorDie k with
    | some n =>
      if 50 ≤ Tbl.get 0 s1.hkp.deaf n then s1.breakSensor k
      else if s1.unreached k deaf then s1 else s1.readSensor k r
    | none => s1.readSensor k r

/-! ## Thresholds (R461) -/

/-- One condition of a sensor: asserted, kept or released; a change sets its event bit, and an assertion is logged. -/
def State.condition (s : State) (f : Fid) (k ev src : Nat) (on off : Bool) : State :=
  if s.bit f k then (if off then (s.wrBit f k false).hkpEvent ev else s)
  else if on then ((s.wrBit f k true).hkpEvent ev).report { src := src, objKind := 8, obj := k }
  else s

/-- The three conditions of a sensor (R461). A sensor that takes no part has none. -/
def State.thresholds (s : State) (k deaf : Nat) : State :=
  let part := s.takesPart k
  let t := s.temp k
  let warn := signed 16 (s.rd .hkp_sns_lim_warn k)
  let limit := signed 16 (s.rd .hkp_sns_lim_limit k)
  let hyst : Int := (s.rd .hkp_sns_cfg_hyst k * 100 : Nat)
  let rmax : Int := (max 1 (s.rd .hkp_sns_cfg_rate_max k) * 10 : Nat)
  let rate := (s.sensor k).rate
  let fast : Bool := match rate with | some v => decide (rmax < v) | none => false
  let slow : Bool := match rate with | some v => decide (v ≤ rmax - 100) | none => false
  if s.unreached k deaf ∧ s.bit .hkp_sns_status_broken k = false then s
  else
    let s1 := s.condition .hkp_sns_status_warn k 0 0x50 (part && decide (warn ≤ t)) (!part || decide (t ≤ warn - hyst))
    let s2 := s1.condition .hkp_sns_status_limit k 1 0x51 (part && decide (limit ≤ t)) (!part || decide (t ≤ limit - hyst))
    s2.condition .hkp_sns_status_rise k 2 0x51 (part && fast) (!part || slow)

/-- Whether the THERM source of TRIPn is asserted: LIMIT or RISE holds on a sensor whose CPT field has bit n (R462). -/
def State.thermSource (s : State) (n : Nat) : Bool :=
  (List.range 20).any (fun k =>
    (s.rd .hkp_sns_cfg_cpt k).testBit n && (s.bit .hkp_sns_status_limit k || s.bit .hkp_sns_status_rise k))

/-- Whether the SUP source of every TRIPn is asserted: VACT, VANA or VAFE is OUT (R466). -/
def State.supSource (s : State) : Bool := [0, 4, 6].any (fun k => s.bit .hkp_sup_status_out k)

/-! ## The throttle (R463, R464) -/

/-- The sensor with the largest excess of its mean over THR, and that excess; none where it is not above 0. -/
def State.worst (s : State) (deaf : Nat) : Option (Nat × Int) :=
  (List.range 20).foldl (fun (acc : Option (Nat × Int)) k =>
    let e := s.meanT k - signed 16 (s.rd .hkp_sns_cfg_thr k)
    if s.bit .hkp_sns_cfg_thr_en k ∧ s.takesPart k ∧ (s.unreached k deaf = false ∨ s.bit .hkp_sns_status_broken k) ∧ 0 < e then
      match acc with
      | some (_, m) => if m < e then some (k, e) else acc
      | none => some (k, e)
    else acc) none

/-- P_THERM in 0.01 W for an excess in 0.01 °C and GAIN in 0.1 %/°C, truncated (R463). -/
def pTherm (gain : Nat) (e : Int) : Nat := (4800 * (100000 - (gain : Int) * e) / 100000).toNat

/-- The throttle of a round. -/
def State.throttle (s : State) (deaf : Nat) : State :=
  let w := s.worst deaf
  let e : Int := match w with | some (_, x) => x | none => 0
  let on := w.isSome
  let s1 := ((s.wr .hkp_thr_status_p_therm 0 (pTherm (s.rd .hkp_thr_cfg_gain 0) e)).wr .hkp_thr_excess_excess 0
    (min 65535 e.toNat)).wr .hkp_thr_status_worst 0 (match w with | some (k, _) => k | none => 0x1F)
  let s2 := s1.wrBit .hkp_status_throttle 0 on
  if s.bit .hkp_status_throttle 0 = on then s2 else s2.hkpEvent 5

/-! ## Supplies (R465 to R467) -/

/-- The window of a supply. -/
def State.window (s : State) (k : Nat) : Nat × Nat :=
  if k = 0 then (max 6000 (s.rd .hkp_sup_win_lo 0), min 40000 (s.rd .hkp_sup_win_hi 0))
  else (s.rd .hkp_sup_win_lo k, s.rd .hkp_sup_win_hi k)

/-- One supply in one round (R466): OUT from the first reading outside its window; back after 2 rounds in a row inside the
window narrowed by 1 % of its width at each end. VSIO reads 0 without a decision while the Firebreak link is lost. -/
def State.roundSupply (s : State) (k v : Nat) : State :=
  if k = 1 ∧ s.bit .fbk_status_link 0 = false then s.wr .hkp_sup_status_v 1 0
  else
    let s1 := s.wr .hkp_sup_status_v k v
    let (lo, hi) := s.window k
    let inside : Bool := 100 * lo + (hi - lo) ≤ 100 * v && 100 * v + (hi - lo) ≤ 100 * hi
    let good := if inside then Tbl.get 0 s.hkp.supGood k + 1 else 0
    let s2 := { s1 with hkp := { s1.hkp with supGood := Tbl.set 0 s1.hkp.supGood k (min 2 good) } }
    if s.bit .hkp_sup_status_out k then
      (if 2 ≤ good then (s2.wrBit .hkp_sup_status_out k false).hkpEvent 4 else s2)
    else if v < lo ∨ hi < v then
      ((((s2.wrBit .hkp_sup_status_out k true).sat .hkp_sup_status_out_cnt k).hkpEvent 4).report
        { src := 0x53, objKind := 8, obj := 32 + k })
    else s2

/-! ## Flash (R468) -/

/-- Whether the flash window is met: every Crown sensor that takes part reads from 5.00 °C to 90.00 °C, and one does. -/
def State.flashWindow (s : State) : Bool :=
  let ks := (List.range 8).filter (fun k => s.takesPart k)
  ks != [] && ks.all (fun k => decide (500 ≤ s.temp k) && decide (s.temp k ≤ 9000))

/-- INHIBIT shown. -/
def State.showInhibit (s : State) : State :=
  let off := !s.flashWindow
  let s1 := s.wrBit .hkp_flash_inhibit 0 off
  if s.bit .hkp_flash_inhibit 0 = off then s1 else s1.hkpEvent 6

/-- Whether a flash write is refused now. -/
def State.flashRefused (s : State) : Bool := s.bit .hkp_flash_inhibit 0

/-- A refused flash write counted. -/
def State.countRefused (s : State) : State := s.sat .hkp_flash_refused 0

/-! ## Temperature feed-forward (R209, R210) -/

/-- T_pd of a compartment and whether its T_e stay frozen: the selected photonic-die sensor is of type none, open or shorted;
the onset is source 0x1D. -/
def State.showTff (s : State) (n : Nat) : State :=
  let k := 16 + s.rd .stx_tff_cfg_sensor n
  if !s.bit .hkp_sns_status_absent k && !s.bit .hkp_sns_status_broken k then (s.wr .stx_tff_status_t_pd n (unsigned 16 (s.temp k))).wrBit .stx_tff_status_tfroz n false
  else if s.bit .stx_tff_status_tfroz n then s
  else (s.wrBit .stx_tff_status_tfroz n true).report { src := 0x1D, objKind := 3, obj := n }

/-! ## The round (R454) -/

/-- The rounds for which each Understory die has not responded. -/
def State.countDeaf (s : State) (deaf : Nat) : State :=
  { s with hkp := { s.hkp with deaf := (List.range 4).foldl (fun t n =>
      Tbl.set 0 t n (if deaf.testBit n then Tbl.get 0 t n + 1 else 0)) s.hkp.deaf } }

/-- The summary bits of HKP_STATUS. -/
def State.showHkp (s : State) : State :=
  let any (f : Fid) (n : Nat) : Bool := (List.range n).any (fun k => s.bit f k)
  let s1 := (s.wrBit .hkp_status_warn 0 (any .hkp_sns_status_warn 20)).wrBit .hkp_status_limit 0
    (any .hkp_sns_status_limit 20 || any .hkp_sns_status_rise 20)
  (s1.wrBit .hkp_status_broken 0 (any .hkp_sns_status_broken 20)).wrBit .hkp_status_sup_out 0 (any .hkp_sup_status_out 7)

/-- HOUSEKEEPING_ROUND (R454 to R468): a round has read every sensor and supply, and its decisions are in force. `deaf` is the
set of Understory dies that do not respond. -/
def execHousekeepingRound (temps : List SensRead) (supplies : List Nat) (iact deaf : Nat) (s : State) : Result :=
  .next (if s.hkp.started = false then s
  else
    let s0 := s.countDeaf deaf
    let s1 := (List.range 20).foldl (fun s k => s.roundSensor k deaf (temps.getD k .broken)) s0
    let s2 := (List.range 20).foldl (fun s k => s.thresholds k deaf) s1
    let s3 := (List.range 7).foldl (fun s k => s.roundSupply k (supplies.getD k 0)) (s2.throttle deaf)
    let s4 := (List.range 4).foldl (fun s n => s.showTff n) (s3.wr .hkp_iact_i 0 iact).showInhibit
    ((s4.inc .hkp_status_round 0).wrBit .hkp_status_first_done 0 true).showHkp)

end Sys2Proof.Machine
end

