-- ==== Sys2Proof/Machine/LoopOps.lean ====
section
/-! DEFINITION. The operations of the channels and the element loops: numbers, limits, outputs, jumps, entries to states
(R113 to R143, R150 to R167, R171 to R189). -/

namespace Sys2Proof.Machine

/-! ## Numbers -/

/-- The nearest integer, halves away from zero (R171). -/
def roundRat (q : Rat) : Int := if 0 ≤ q then (q + 1 / 2).floor else -((-q + 1 / 2).floor)

/-- The value of an IEEE 754 binary32; none where it is not finite (R225). -/
def ofF32 (b : Nat) : Option Rat :=
  let sgn : Rat := if b.testBit 31 then -1 else 1
  let ex : Nat := b / 2 ^ 23 % 256
  let m : Nat := b % 2 ^ 23
  if ex = 255 then none
  else if ex = 0 then some (sgn * (m : Rat) / 2 ^ 149)
  else if 150 ≤ ex then some (sgn * ((2 ^ 23 + m : Nat) : Rat) * 2 ^ (ex - 150))
  else some (sgn * ((2 ^ 23 + m : Nat) : Rat) / 2 ^ (150 - ex))

/-- Two to an integer power. -/
def pow2 (e : Int) : Rat := if 0 ≤ e then 2 ^ e.toNat else 1 / 2 ^ (-e).toNat

/-- The binary32 nearest to a value (R225; the rounding is a DESIGN CHOICE: nearest, halves away from zero). -/
def toF32 (q : Rat) : Nat :=
  let a := if q < 0 then -q else q
  let sgn := if q < 0 then 2 ^ 31 else 0
  if q = 0 then 0
  else
    let e0 : Int := (Nat.log2 a.num.natAbs : Int) - Nat.log2 a.den
    let e := if a < pow2 e0 then e0 - 1 else e0
    if e < -126 then sgn + (roundRat (a * pow2 149)).toNat
    else
      let m := (roundRat (a * pow2 (23 - e))).toNat
      let v := (e + 126).toNat * 2 ^ 23 + m
      sgn + min v 0x7F800000

/-! ## Elements, records, compartments -/

/-- The loop part of the state changed by `f`. -/
def State.modLoop (s : State) (f : LoopSt → LoopSt) : State := { s with loop := f s.loop }

/-- The keys of a field's registers that differ from reset. -/
def State.listed (s : State) (f : Fid) : List Nat :=
  s.regs.filterMap (fun e => if e.1 % 1024 = f.ctorIdx then some (e.1 / 1024) else none)

/-- A field's values that differ from its reset value, by index. -/
def State.listedVals (s : State) (f : Fid) : Tbl Nat :=
  s.regs.filterMap (fun e => if e.1 % 1024 = f.ctorIdx then some (e.1 / 1024, e.2) else none)

/-- An element. -/
def State.el (s : State) (e : Nat) : Elem := Tbl.get {} s.loop.elems e

/-- An element changed by `f`. -/
def State.modEl (s : State) (e : Nat) (f : Elem → Elem) : State :=
  { s with loop := { s.loop with elems := Tbl.modify {} s.loop.elems e f } }

/-- The map record of an element; with no map, one that is not present. -/
def State.erec (s : State) (e : Nat) : ElemRec := match s.map.force with | some m => m.elem e | none => {}

/-- Whether an element is present (R51). -/
def State.present (s : State) (e : Nat) : Bool := (s.erec e).present

/-- Whether the map is being activated or reread, so that commands that need it complete with BUSY (R67, R435). -/
def State.mapAway (s : State) : Bool := s.map.change.isSome || s.map.reread

/-- What refuses a command that needs the map (R65, R67): BUSY while a map is being activated, NOT_PERMITTED without one. -/
def State.needsMap (s : State) : List (Bool × Status) := [(s.mapAway, .busy), (s.map.force.isNone, .notPermitted)]

/-- The present elements of a range: the range forms of a command leave the others unchanged (R51). -/
def State.presentIn (s : State) (first count : Nat) : List Nat := (span first count).filter s.present

/-- The calibration record in force of an element. -/
def State.calRec (s : State) (e : Nat) : ElCal := Tbl.get {} s.loop.cal e

/-- Whether an element has a calibration record (R226). -/
def State.hasCal (s : State) (e : Nat) : Bool := (s.calRec e).flags.testBit 0

/-- A compartment beside its registers. -/
def State.cpt (s : State) (n : Nat) : Cpt := Tbl.get {} s.loop.cpts n

/-- A compartment changed by `f`. -/
def State.modCpt (s : State) (n : Nat) (f : Cpt → Cpt) : State :=
  { s with loop := { s.loop with cpts := Tbl.modify {} s.loop.cpts n f } }

/-- An H-mode channel, by element number. -/
def State.hc (s : State) (e : Nat) : HCh := Tbl.get {} s.loop.hch e

/-- An H-mode channel changed by `f`. -/
def State.modHc (s : State) (e : Nat) (f : HCh → HCh) : State :=
  { s with loop := { s.loop with hch := Tbl.modify {} s.loop.hch e f } }

/-- The index of an H-mode channel's registers. -/
def hIdx (e : Nat) : Nat := e - 9216

/-- The loop period that a PSEL code stands for, in frames. -/
def periodOf (psel : Nat) : Nat := [5, 10, 20, 40].getD psel 10

/-- The window that a WSEL code stands for, in periods. -/
def windowOf (wsel : Nat) : Nat := [16, 32, 64].getD wsel 32

/-- The loop period of a compartment in frames (R195). -/
def State.period (s : State) (n : Nat) : Nat := periodOf (s.rd .stx_cpt_cfg_psel n)

/-- The window of a compartment in periods (R195). -/
def State.windowLen (s : State) (n : Nat) : Nat := windowOf (s.rd .stx_cpt_cfg_wsel n)

/-- Whether this frame boundary is a loop-period boundary of a compartment (R168). -/
def State.atBoundary (s : State) (n : Nat) : Bool := s.frame % s.period n == 0

/-- Whether a transition triggered at frame `at0` falls due: a loop-period boundary at least 2 frames later (R186). -/
def State.nextBoundary (s : State) (n at0 : Nat) : Bool := s.atBoundary n && at0 + 2 ≤ s.loop.frames

/-- Whether a compartment is fenced (R281). -/
def State.fenced (s : State) (n : Nat) : Bool := s.bit .glb_cpt_svc_fenced n

/-- Whether CLR_N holds a compartment's V-mode outputs at their clear codes: low, or released and not yet returned (R125,
R126). -/
def State.clrHeld (s : State) (n : Nat) : Bool := s.loop.clrLow || (s.cpt n).returnAt.isSome

/-- Whether an element's output is at its clear code: it awaits its first commit, or CLR_N holds it (R122, R126). -/
def State.atClear (s : State) (e : Nat) : Bool := (s.el e).waiting || (isV e && s.clrHeld (elemCpt e))

/-- The V-mode driver group of an element, 48 to a compartment (R118). -/
def vGroup (e : Nat) : Nat := 48 * (e / 2304) + e % 2304 / 48

/-- Whether OC or LEAK of the element's channel is set. -/
def State.latched (s : State) (e : Nat) : Bool :=
  if isV e then s.bit .ust_vdac_status_oc e
  else s.bit .ust_hpwm_status_oc (hIdx e) || s.bit .ust_hpwm_status_leak (hIdx e)

/-- Whether a V-mode channel is off: OC, or its group is tripped (R117, R118). -/
def State.vOff (s : State) (e : Nat) : Bool :=
  s.bit .ust_vdac_status_oc e || s.loop.tripped.contains (vGroup e)

/-- Whether the heaters of a compartment's element are held: TRIP, or a CLR_N low (R156, R161). -/
def State.heatHeld (s : State) (e : Nat) : Bool :=
  s.bit .ust_htrip_trip (elemCpt e) || s.loop.clrLow || s.loop.heatClear || (s.cpt (elemCpt e)).resumeAt.isSome

/-! ## Limits (R115, R116) -/

/-- A code of a range in FDU: the HI range's code step is one FDU, the LO range's half of one. -/
def codeFdu (hi : Bool) (c : Nat) : Nat := if hi then c else c / 2

/-- Whether a V-mode channel is in the HI range. -/
def State.rangeHi (s : State) (e : Nat) : Bool := s.bit .ust_vdac_status_range_act e

/-- The top of a V-mode range in FDU. -/
def rangeTop (hi : Bool) : Nat := codeFdu hi (2 ^ 20 - 1)

/-- DRIVE_MAX of an element in FDU (R115, R171); DESIGN CHOICE (unsafe): with no map it does not bound a V-mode channel. -/
def State.driveMax (s : State) (e : Nat) : Nat :=
  if isV e then
    (if s.map.force.isNone then rangeTop (s.rangeHi e) else codeFdu (s.erec e).rangeHi (s.erec e).driveMax)
  else 16 * (s.erec e).driveMax

/-- The bound that VACT_MEAS sets, in FDU; none until the first housekeeping round is complete (R116, R455). DESIGN CHOICE: it is
rounded down to an FDU, for R116 names no rounding. -/
def State.vactTop (s : State) : Option Nat :=
  if s.bit .hkp_status_first_done 0 then some ((s.rd .hkp_sup_status_v 0 - 2000) * 2 ^ 20 / 38000) else none

/-- The upper bound of a V-mode channel's commanded value in FDU (R116). -/
def State.vTop (s : State) (e : Nat) : Nat :=
  let a := min (rangeTop (s.rangeHi e)) (s.driveMax e)
  match s.vactTop with
  | some v => min a v
  | none => a

/-- A drive limited to its channel's bounds. -/
def State.limited (s : State) (e : Nat) (v : Int) : Int :=
  clampInt 0 (if isV e then s.vTop e else s.driveMax e) v

/-- The clear code of a V-mode channel in FDU, limited as it is applied (R122). -/
def State.clearOf (s : State) (e : Nat) : Int :=
  let top := match s.vactTop with
    | some v => min (rangeTop (s.rangeHi e)) v
    | none => rangeTop (s.rangeHi e)
  if isV e then ((min (s.rd .ust_vclr_code e) (min top (s.driveMax e)) : Nat) : Int) else 0

/-! ## Pilots (R132, R135) -/

/-- A pilot amplitude as it acts (R132): 1 to 15 act as 16, above 1,024 as 1,024. -/
def pampActs (v : Nat) : Nat := if v = 0 then 0 else max 16 (min 1024 v)

/-- The programmed PAMP of an element. -/
def State.pampOf (s : State) (e : Nat) : Nat :=
  if isV e then s.rd .ust_vdac_cfg_pamp e else s.rd .ust_hpwm_mode_pamp (hIdx e)

/-- The pilot's peak amplitude in FDU (R174). -/
def State.ampFdu (s : State) (e : Nat) : Nat :=
  (if isV e ∧ s.rangeHi e = false then 8 else 16) * pampActs (s.el e).amp

/-- Whether a range change of the element runs its ramps (R129). -/
def Elem.ramps (x : Elem) : Bool := match x.rchg with | some r => r.started | none => false

/-- Whether the element's pilot is on (R132, R135, R151, R159). -/
def State.pilotOn (s : State) (e : Nat) : Bool :=
  let x := s.el e
  (s.erec e).pilotEn && pampActs x.amp != 0 && 1 ≤ x.state && x.state ≤ 5 && !s.loop.clrLow && !s.atClear e
    && !x.ramps && !s.bit .glb_cpt_svc_in_crst (elemCpt e)
    && (if isV e then !s.vOff e else !s.heatHeld e && !s.bit .ust_hpwm_status_pilot_blk (hIdx e))

/-- The phase accumulator of an element's pilot `d` ticks after the start of the frame in progress (R134). -/
def State.phaseAt (s : State) (e : Nat) (d : Int) : Nat :=
  (((s.erec e).pilotK : Int) * ((100 * s.frame : Nat) + d) % 256000).toNat

/-- The pilot of a V-mode channel in FDU as its generator forms it `d` DAC modulator clocks into the frame in progress, from the
shared sine table (R131, R132, R134); 0 while it is off. -/
def State.vPilot (s : State) (e : Nat) (d : Int) : Rat :=
  if s.pilotOn e then (s.ampFdu e : Rat) * Config.sineWave (s.phaseAt e d) else 0

/-- The sum of drive and pilot that a V-mode channel commands at that clock, in FDU, within the bounds of R116; the pilot
passes the deglitcher outside its holds (R120). -/
def State.vSum (s : State) (e : Nat) (d : Int) : Rat :=
  max 0 (min (s.vTop e : Rat) (((s.el e).out : Rat) + if (s.el e).held then 0 else s.vPilot e d))

/-! ## Outputs -/

/-- CODE of a V-mode channel: the value in the code latch, in the range in force (R113, R115). -/
def State.setCode (s : State) (e : Nat) (v : Int) : State :=
  s.wr .ust_vdac_status_code e (min (2 ^ 20 - 1) (if s.rangeHi e then v.toNat else 2 * v.toNat))

/-- Whether R116 limits a commanded value with its pilot: 1 at the top, -1 at 0 V, 0 not at all. -/
def State.clampDir (s : State) (e : Nat) (v : Int) : Int :=
  let a : Int := if s.pilotOn e then (s.ampFdu e : Int) else 0
  if (s.vTop e : Int) < v + a then 1 else if v - a < 0 then -1 else 0

/-- A value put into a V-mode channel's code latch: limited, with CLAMP (R116). -/
def State.latch (s : State) (e : Nat) (v : Int) : State :=
  let dir := s.clampDir e v
  let s1 := (s.setCode e (s.limited e v)).modEl e (fun x => { x with clamp := dir })
  if dir = 0 then s1 else s1.wrBit .ust_vdac_status_clamp e true

/-- Whether the deglitcher holds an update (R120). -/
def State.glitches (s : State) (e : Nat) (v : Int) : Bool :=
  let thr := s.rd .ust_vdac_ctrl_dgl_thr (elemCpt e)
  thr != 0 && decide (((thr * (if s.rangeHi e then 16384 else 8192) : Nat) : Int) < |v - (s.el e).out|)

/-- A duty word latched by an H-mode channel (R143, R171): it counts in the commanded power at once (R165). -/
def State.latchDuty (s : State) (e : Nat) (u : Int) : State :=
  let d := roundRat ((u : Rat) / 16)
  (s.modEl e (fun x => { x with out := d })).modHc e (fun c => { c with
    duty := ((clampInt 0 (s.erec e).driveMax d : Int) : Rat) })

/-- Whether darkening has a gate's output: it holds it (R418), or its return jump still plays (R420). -/
def State.gateHeld (s : State) (e : Nat) : Bool := s.loop.dark.contains e || (s.el e).djump.isSome

/-- Whether a gate is darkened: held by darkening, its channel not off (R421, R422). -/
def State.gateDark (s : State) (e : Nat) : Bool := s.loop.dark.contains e && !(isV e && s.vOff e)

/-- A drive noted as written at this boundary (R199): the latest 65 are kept, one of each boundary. -/
def State.noteDrive (s : State) (e : Nat) (u : Int) : State :=
  s.modEl e (fun x => { x with
    drive := u, drives := ((s.loop.frames, u) :: x.drives.filter (fun p => p.1 != s.loop.frames)).take 65 })

/-- A drive written to a channel by the Stand at a loop-period boundary (R120, R143, R171): a V-mode latch update that moves
far is held by the deglitcher; an H-mode channel latches the duty word. A drive for an output at its clear code or a heater
that is held is not applied (R125, R159); a channel that takes no drive for another reason keeps its output. -/
def State.writeDrive (s : State) (e : Nat) (u : Int) : State :=
  if s.atClear e ∨ (!isV e ∧ s.heatHeld e) then s
  else
    let s1 := s.noteDrive e u
    let x := s1.el e
    if x.ramps ∨ s.fenced (elemCpt e) ∨ s.gateHeld e then s1
    else if isV e then
      if s.vOff e then s1
      else
        let v := s1.limited e u
        let s2 := s1.latch e u
        if x.held then s2
        else if s1.glitches e v then s2.modEl e (fun y => { y with held := true })
        else s2.modEl e (fun y => { y with out := v })
    else s1.latchDuty e u

/-- An impulse of a jump (R121, R139, R153): a V-mode code latch takes it at once and the deglitcher passes it on 200 ns later; a
duty word is latched. A gate that darkening holds, and a channel that is off, keep their output. -/
def State.impulse (s : State) (e : Nat) (v : Int) : State :=
  if isV e then
    let u := s.limited e v
    let s1 := s.modEl e (fun x => { x with drive := u })
    if s.gateHeld e ∨ s.vOff e then s1 else (s1.latch e v).modEl e (fun x => { x with play := x.play ++ [u] })
  else
    let s1 := s.modEl e (fun x => { x with drive := v })
    if s.heatHeld e then s1 else s1.latchDuty e v

/-- What the deglitcher still holds reaches the output: the impulses of a jump, or the newest drive. -/
def State.flush (s : State) (e : Nat) : State :=
  s.modEl e (fun x => { x with
    out := x.play.getLast?.getD (if x.held then s.limited e x.drive else x.out), play := [], held := false })

/-! ## Saturation (R180) -/

/-- ILIM in force of an element, in 1/256 FDU. -/
def State.ilim (s : State) (e : Nat) : Int :=
  ((s.rd .stx_coef_act_ilim (16 * elemCpt e + (s.el e).coefSet) * 256 : Nat) : Int)

/-- Whether the loop is saturated high, and low (R180): the integrator at its limit, the latest drive clipped, CLAMP at the latest
update of the channel, or CAPPED. -/
def State.saturated (s : State) (e : Nat) : Bool × Bool :=
  let x := s.el e
  (decide (s.ilim e ≤ x.integ) || x.clipHi || x.clamp == 1 || (!isV e && s.bit .ust_hpwm_status_capped (hIdx e)),
   decide (x.integ ≤ -(s.ilim e)) || x.clipLo || x.clamp == -1)

/-- SAT_HI and SAT_LO of an element shown. -/
def State.showSat (s : State) (e : Nat) : State :=
  let b := s.saturated e
  s.modEl e (fun x => { x with satHi := b.1, satLo := b.2 })

/-! ## High impedance (R156) -/

/-- Whether R156 holds a channel at high impedance. -/
def State.hizNow (s : State) (e : Nat) : Bool :=
  (s.el e).state == 0 || (s.el e).state == 6 || s.bit .glb_cpt_svc_in_crst (elemCpt e) || s.heatHeld e || s.latched e

/-- An H-mode channel at high impedance or not; at high impedance its measurement of the on-current starts afresh (R165), its residue
is 0 (R150), its switches are open (R144) and nothing caps it (R167). -/
def State.setHiz (s : State) (e : Nat) (b : Bool) : State :=
  let s1 := s.wrBit .ust_hpwm_status_hiz (hIdx e) b
  if b then (s1.modHc e (fun c => { c with measured := false, residue := 0, bridge := {}, on := 0 })).wrBit
    .ust_hpwm_status_capped (hIdx e) false
  else s1

/-! ## Feed-forward and targets (R179, R189) -/

/-- FF of a target of an element: FF_c where set, else the record's (R179, R194). -/
def State.ffOf (s : State) (e t : Nat) : Int :=
  match (s.el e).ffc with
  | some v => v
  | none => if t = 0 then (s.calRec e).ff0 else (s.calRec e).ff1

/-- The target that an element's loop is on: until a catch-up jump leaves it, the one at which it was frozen (R207, R208). -/
def Elem.loopTgt (x : Elem) : Nat := if x.catchUp.isSome then x.frozenTgt else x.tgt

/-- The feed-forward F of an element: FF plus T_e, rounded to an FDU (R179). -/
def State.feed (s : State) (e : Nat) : Rat := (s.ffOf e (s.el e).loopTgt : Rat) + (s.el e).te

/-- The slope setpoint in force of an element in Q1.15 (R178). -/
def State.sspOf (s : State) (e : Nat) : Int :=
  match (s.el e).ssp with
  | some v => v
  | none => if (s.el e).loopTgt = 0 then (s.calRec e).ssp0 else (s.calRec e).ssp1

/-- I_mem of a target. -/
def Elem.imem (x : Elem) (t : Nat) : Int := if t = 0 then x.imem0 else x.imem1

/-- The drive that a jump toward target `t` ends on: V_t = FF_t + T_e + I_mem(t) for a cell, F + I for another role (R189). -/
def State.targetDrive (s : State) (e t : Nat) : Int :=
  let x := s.el e
  let i := if (s.erec e).isCell then x.imem t else x.integ
  roundRat ((s.ffOf e t : Rat) + x.te + (i : Rat) / 256)

/-! ## Coefficients (R181, R182) -/

/-- The key of a coefficient set's registers. -/
def coefIdx (n k : Nat) : Nat := 16 * n + k

/-! ## Entries to states -/

/-- The state of an element set; SINCE is the frame counter (R198). An H-mode channel leaves DIRECT mode with MANUAL (R154). -/
def State.setState (s : State) (e st : Nat) : State :=
  (if !isV e && st != 4 then s.wrBit .ust_hpwm_mode_src (hIdx e) false else s).modEl e
    (fun x => { x with state := st, since := s.frame })

/-- Entry to SETTLE (R187): the window starts afresh, the integrator takes D − F within ±ILIM, the count of implausible
verdicts starts at 0. -/
def State.enterSettle (s : State) (e : Nat) (d : Int) : State :=
  let lim := s.ilim e
  let i := clampInt (-lim) lim (roundRat (((d : Rat) - s.feed e) * 256))
  let v : Rat := s.feed e + (i : Rat) / 256
  let u := roundRat v
  ((s.setState e 1).modEl e (fun x => { x with
    integ := i
    clipHi := false
    clipLo := false
    drive := u
    drives := [(s.loop.frames, u)]
    settleAt := s.loop.frames
    winFrom := s.loop.frames
    periods := 0
    next := some (max 0 (min (s.driveMax e : Rat) v))
    jump := none
    eps := 0
    gap := false
    dark := false
    supCnt := 0
    uopt := none
    dGood := u
    waiting := x.waiting && isV e
    suspectDue := false })).showSat e

/-- Entry to SUSPECT (R203, R205): the drive is frozen at `d`; an event record follows by telemetry. -/
def State.enterSuspect (s : State) (e : Nat) (d : Int) : State :=
  (s.setState e 5).modEl e (fun x => { x with
    drive := d, dGood := d, frozenTgt := x.tgt, jump := none, sched := none, next := none, eps := 0, suspectDue := false
    catchUp := none })

/-! ## Profiles and jumps (R136 to R141) -/

/-- The index of a profile's registers. -/
def profIdx (n p : Nat) : Nat := 16 * n + p

/-- A profile as UST_PROFILE holds it. -/
def State.profReg (s : State) (i : Nat) : Prof :=
  { count := s.rd .ust_profile_count i, flags := s.rd .ust_profile_flags i, t2 := s.rd .ust_profile_t2 i
    t3 := s.rd .ust_profile_t3 i, t4 := s.rd .ust_profile_t4 i, a1 := s.rd .ust_profile_a1 i
    a2 := s.rd .ust_profile_a2 i, a3 := s.rd .ust_profile_a3 i }

/-- UST_PROFILE written. -/
def State.putProf (s : State) (i : Nat) (p : Prof) : State :=
  let s1 := (((s.wr .ust_profile_count i p.count).wr .ust_profile_flags i p.flags).wr .ust_profile_t2 i p.t2).wr
    .ust_profile_t3 i p.t3
  (((s1.wr .ust_profile_t4 i p.t4).wr .ust_profile_a1 i p.a1).wr .ust_profile_a2 i p.a2).wr .ust_profile_a3 i p.a3

/-- Whether R137 accepts a profile. -/
def Prof.ok (p : Prof) : Bool :=
  let used := (if 3 ≤ p.count then p.a2 else 0) + (if 4 ≤ p.count then p.a3 else 0)
  2 ≤ p.count && p.count ≤ 4 && p.flags ≤ 1 && p.rsv == 0
    && 1 ≤ p.t2 && p.t2 ≤ 551 && 1 ≤ p.a1
    && (if 3 ≤ p.count then p.t2 < p.t3 && p.t3 ≤ 551 && 1 ≤ p.a2 else p.t3 == 0 && p.a2 == 0)
    && (if 4 ≤ p.count then p.t3 < p.t4 && p.t4 ≤ 551 && 1 ≤ p.a3 else p.t4 == 0 && p.a3 == 0)
    && p.a1 + used < 65536

/-- The sum of the fractions of impulses 1 to i in 1/65,536 (R136, R139). -/
def Prof.cum (p : Prof) (i : Nat) : Nat :=
  if p.count ≤ i then 65536
  else (if 1 ≤ i then p.a1 else 0) + (if 2 ≤ i then p.a2 else 0) + (if 3 ≤ i then p.a3 else 0)

/-- The nearest integer to the square root of a number. -/
def sqrtRound (n : Nat) : Nat := let r := Nat.sqrt n; if r * r + r < n then r + 1 else r

/-- The drive after impulse i of a jump, rounded to an FDU (R139); SQUARE shapes the square of the voltage, and an H-mode
element ignores it (R153). -/
def Jump.value (j : Jump) (v : Bool) (i : Nat) : Int :=
  let c := j.prof.cum i
  if j.prof.flags.testBit 0 ∧ v then
    sqrtRound (roundRat ((j.vs * j.vs : Int) + ((j.vt * j.vt - j.vs * j.vs : Int) : Rat) * c / 65536)).toNat
  else roundRat ((j.vs : Rat) + ((j.vt - j.vs : Int) : Rat) * c / 65536)

/-- The time of impulse `i` in ticks of 10.24 ns, impulses counted from 1. -/
def Prof.time (p : Prof) (i : Nat) : Nat := match i with | 2 => p.t2 | 3 => p.t3 | 4 => p.t4 | _ => 0

/-- The end of a jump's trajectory (R138), counted from reset in 1/100 ns: its start boundary, 350 ns, its last impulse time. -/
def Jump.endsAt (j : Jump) : Nat := j.at0 * 102400 + 35000 + 1024 * j.prof.time j.prof.count

/-- Whether a jump's trajectory has ended before this frame boundary (R29). -/
def State.jumpOver (s : State) (j : Jump) : Bool := j.ended && decide (j.endsAt < s.loop.frames * 102400)

/-- The profile of a move: PROF_FWD up or toward cross, PROF_REV down or toward bar (R49, R126). -/
def State.profFor (s : State) (e : Nat) (fwd : Bool) : Nat :=
  if fwd then (s.erec e).profFwd else (s.erec e).profRev

/-- The monitors that an element names. -/
def ElemRec.monitors (r : ElemRec) : List Nat := [r.mon0, r.mon1].filter (fun m => m != 0xFFFF)

/-- An invalid span put on a monitor (R80). -/
def State.addSpan (s : State) (m : Nat) (sp : Span) : State :=
  { s with loop := { s.loop with mons := Tbl.modify {} s.loop.mons m (fun x => { x with spans := x.spans ++ [sp] }) } }

/-- An element enters JUMP at this frame boundary (R80, R136 to R141): from `vs` to `vt` under R116, its monitors invalid for
two frames under cause 3; a heater leaves high impedance unless something else holds it there (R156). -/
def State.startJump (s : State) (e : Nat) (vs vt : Int) (fwd : Bool) (goal : JumpGoal) (owner : Option Owner)
    (clr : Option Nat) : State :=
  let pr := s.profFor e fwd
  let j : Jump := {
    vs := vs, vt := s.limited e vt, prof := s.profReg (profIdx (elemCpt e) pr), at0 := s.loop.frames
    goal := goal, owner := owner, clr := clr }
  let t := s.loop.frames
  let s1 := ((s.flush e).setState e 3).modEl e (fun x => { x with
    jump := some j, next := none, waiting := false, suspectDue := false, jumpAt := (t :: x.jumpAt).take 64, eps := 0 })
  let s2 := (s.erec e).monitors.foldl (fun s m => s.addSpan m { cause := 3, first := t, last := t + 1 }) s1
  if isV e then
    let s3 := (s2.wrBit .ust_vdac_status_play e true).wr .ust_vdac_status_prof e pr
    if j.vt = vt then s3 else s3.wrBit .ust_vdac_status_clamp e true
  else s2.setHiz e (s2.hizNow e)

/-- The value that an element's output is at: its clear code while it awaits a first commit, else its drive. -/
def State.outputOf (s : State) (e : Nat) : Int :=
  if isV e then (if s.atClear e then s.clearOf e else (s.el e).drive)
  else if (s.el e).waiting then 0 else (s.el e).drive

/-- Whether a move to a target is forward: toward cross for a cell, upward for another role. -/
def State.forward (s : State) (e t : Nat) (vs vt : Int) : Bool :=
  if (s.erec e).isCell then t == 1 else decide (vs < vt)

/-- A jump toward the target in force. -/
def State.jumpToTarget (s : State) (e : Nat) (owner : Option Owner) (clr : Option Nat) : State :=
  let vs := s.outputOf e
  let vt := s.targetDrive e (s.el e).tgt
  let fwd := if s.atClear e then decide (vs < vt) else s.forward e (s.el e).tgt vs vt
  s.startJump e vs vt fwd .target owner clr

/-- A cell element under its loop leaves its target: its integrator is kept as I_mem of it (R189). -/
def State.leaveTarget (s : State) (e : Nat) : State :=
  if (s.erec e).isCell then
    s.modEl e (fun x =>
      let keep := x.state == 1 || x.state == 2
      { x with
        imem0 := if keep ∧ x.loopTgt = 0 then x.integ else x.imem0
        imem1 := if keep ∧ x.loopTgt = 1 then x.integ else x.imem1 })
  else s

/-- A change of the target of a cell (R30, R189). -/
def State.retarget (s : State) (e t : Nat) : State := (s.leaveTarget e).modEl e (fun x => { x with tgt := t })

end Sys2Proof.Machine
end

