-- ==== Sys2Proof/Machine/MeasOps.lean ====
section
/-! DEFINITION. The measurement registers (R475, R476). -/

namespace Sys2Proof.Machine

/-- A measurement register. -/
def State.mreg (s : State) (i : Nat) : MReg := Tbl.get {} s.boot.mregs i

/-- A measurement register extended with the digest of a content: M becomes the SHA-384 of M followed by the digest (R476). -/
def State.extend (s : State) (i : Nat) (content : List Nat) : State :=
  let m := s.mreg i
  let v := Config.sha384 (leBytes 48 m.value ++ leBytes 48 (Config.sha384 content))
  { s with boot := { s.boot with mregs := Tbl.set {} s.boot.mregs i ⟨v, (m.count + 1) % 65536, s.frame⟩ } }

/-- The event record of M7 (R475). -/
def State.eventRecord (s : State) (kind : Nat) : List Nat := [kind, 0, 0, 0] ++ leBytes 8 s.frame ++ [0, 0, 0, 0]

/-- An event extended into M7 (R475). -/
def State.extendEvent (s : State) (kind : Nat) : State := s.extend 7 (s.eventRecord kind)

/-- The 16 bytes of a profile record (R136). -/
def Prof.bytes (p : Prof) : List Nat :=
  [p.count % 256, p.flags % 256] ++ leBytes 2 p.t2 ++ leBytes 2 p.t3 ++ leBytes 2 p.t4 ++ leBytes 2 p.a1 ++ leBytes 2 p.a2
    ++ leBytes 2 p.a3 ++ leBytes 2 p.rsv

/-- The content of M6: the 16 profile records of each compartment, then TRV_BOOT (R475). -/
def State.profContent (s : State) : List Nat :=
  (List.range 64).flatMap (fun i => (Tbl.get {} s.loop.profs i).bytes)
    ++ leBytes 4 (s.rd .trv_boot_slot 0 + 4096 * s.rd .trv_boot_en 0 + 8192 * s.rd .trv_boot_used 0)

/-- M6 extended (R475). -/
def State.extendProfs (s : State) : State := s.extend 6 s.profContent

end Sys2Proof.Machine
end

