-- ==== Sys2Proof/Machine/TelOps.lean ====
section
/-! DEFINITION. Telemetry sources: records on their way to a local ring or to a ring of another module (R400, R401). -/

namespace Sys2Proof.Machine

/-- The size of a record of a source (R400). -/
def recSize (source : Nat) : Option Nat :=
  match source with
  | 1 | 2 | 4 | 6 => some 16
  | 3 => some 32
  | 5 => some 48
  | _ => none

/-- The records at most that one TELEMETRY frame carries (R401). -/
def recsPerFrame (size : Nat) : Nat := 1468 / size

/-- The bytes of records for a destination ring that a frame of this module holds. -/
def State.heldIn (s : State) (dest ring : Nat) (f : QFrame) : Nat :=
  match f.frame with
  | .cairn c =>
    match c.msg with
    | .telemetry r _ _ _ _ recs => if c.src = s.addr ∧ c.dst = dest ∧ r = ring then recs.length else 0
    | _ => 0
  | .ptp _ => 0

/-- The bytes of records that this module holds for a destination ring (R401). -/
def State.heldFor (s : State) (dest ring : Nat) : Nat :=
  ((List.range 4).map (fun p =>
    (((s.sp p).queue 3 ++ Tbl.get [] (s.sp p).crown 3).map (s.heldIn dest ring)).sum)).sum

/-- What this module keeps for a destination ring. -/
def State.telDest (s : State) (dest ring : Nat) : TelDest :=
  (s.host.dests.find? (fun d => d.dest == dest && d.ring == ring)).getD { dest := dest, ring := ring }

/-- What this module keeps for a destination ring replaced. -/
def State.putTelDest (s : State) (d : TelDest) : State :=
  let others := s.host.dests.filter (fun x => !(x.dest == d.dest && x.ring == d.ring))
  { s with host := { s.host with dests := others ++ [d] } }

/-- Records sent to a ring of another module in frames of TC3; what would exceed 64 KiB held for that ring is dropped and
counted (R401). -/
def State.telSend (s : State) (dest ring source size : Nat) (recs : List (List Nat)) : Nat → State
  | 0 => s
  | n + 1 =>
    if recs = [] then s
    else
      let d := s.telDest dest ring
      let room := (65536 - s.heldFor dest ring) / size
      if room = 0 then s.putTelDest { d with dropped := (d.dropped + recs.length) % 2 ^ 32 }
      else
        let part := recs.take (min room (recsPerFrame size))
        let s1 := s.send 7 dest (.telemetry ring source part.length d.seq d.dropped part.flatten)
        (s1.putTelDest { d with seq := (d.seq + part.length) % 2 ^ 32 }).telSend dest ring source size
          (recs.drop part.length) n

/-- The records of one source delivered to its ring, here or in another module. -/
def State.telDeliver (s : State) (t : TelSource) (recs : List (List Nat)) : State :=
  if t.dest = 0 then recs.foldl (fun s r => s.ringWrite (ringKey t.mbx t.ring) r) s
  else s.telSend t.dest t.ring t.source ((recSize t.source).getD 16) recs recs.length

/-- One round of records of a source kind, by object number: each bound source takes those of its own range, in every DEC-th
round of the group (R227, R400); of one mailbox only where one is named. -/
def State.telRoundOf (s : State) (mbx : Option Nat) (source group : Nat) (recs : List (Nat × List Nat)) : State :=
  let bound := s.host.sources.filter (fun t => mbx.all (fun k => t.mbx == k))
  bound.foldl (fun s t =>
    let own := recs.filter (fun r => t.first ≤ r.1 && r.1 < t.first + t.count)
    if t.source ≠ source ∨ own = [] then s
    else
      let n := Tbl.get 0 t.phase group + 1
      let due := max 1 t.dec ≤ n
      let mark (x : TelSource) : TelSource :=
        if x.mbx = t.mbx ∧ x.ring = t.ring ∧ x.source = t.source ∧ x.first = t.first ∧ x.dest = t.dest then
          { x with phase := Tbl.set 0 x.phase group (if due then 0 else n) }
        else x
      let s1 := { s with host := { s.host with sources := s.host.sources.map mark } }
      if due then s1.telDeliver t (own.map (fun r => r.2)) else s1) s

/-- A round of records for every source of a kind (R400). -/
def State.telRound (s : State) (source group : Nat) (recs : List (Nat × List Nat)) : State := s.telRoundOf none source group recs

end Sys2Proof.Machine
end

