-- ==== Sys2Proof/Machine/Solve.lean ====
section
/-! DEFINITION. Solving permutations into cell states: the wiring, the looping algorithm, minimum disturbance, the cell
vector and the report (R228 to R240). -/

namespace Sys2Proof.Machine

/-! ## Permutations (R241, R242) -/

/-- The output port of a connected entry. -/
def Perm.out (q : Perm) (p : Nat) : Option Nat :=
  let e := Tbl.get 0 q p
  if e.testBit 9 then some (e % 512) else none

/-- PIN of an entry. -/
def Perm.pin (q : Perm) (p : Nat) : Bool := (Tbl.get 0 q p).testBit 10

/-- TAG of an entry. -/
def Perm.tag (q : Perm) (p : Nat) : Nat := Tbl.get 0 q p / 65536 % 65536

/-- A permutation of 512 entries from a list of words, entry `first` first, over an older one. -/
def Perm.write (q : Perm) (first : Nat) : List Nat → Perm
  | [] => q
  | w :: r => Perm.write (Tbl.set 0 q first (w % 2 ^ 32)) (first + 1) r

/-- The connected inputs, ascending. -/
def Perm.inputs (q : Perm) : List Nat := (List.range 512).filter (fun p => (q.out p).isSome)

/-- Whether R242 accepts a permutation for `n` ports: reserved bits 0, an idle entry with OUT 0, ports below n, outputs
distinct. -/
def Perm.ok (q : Perm) (n : Nat) : Bool :=
  (List.range 512).all (fun p =>
    let e := Tbl.get 0 q p
    e / 2048 % 32 == 0 && (if e.testBit 9 then p < n && e % 512 < n else e % 512 == 0))
  && decide ((q.inputs.map (fun p => (q.out p).getD 0)).Nodup)

/-- CRC-32 of the 2,048 bytes of a permutation (R232). -/
def Perm.crc (q : Perm) : Nat := crc32 ((List.range 512).flatMap (fun p => leBytes 4 (Tbl.get 0 q p)))

/-! ## Wiring (R229, R230, R231) -/

/-- The cell record at a place. -/
def EMap.cellAt (m : EMap) (stage pos kind : Nat) : Nat :=
  ((List.range m.cells).find? (fun c =>
    (m.cell c).stage == stage && (m.cell c).position == pos && (m.cell c).kind == kind)).getD m.cells

/-- The cell record that carries the signal on input line `x` of a stage (R229, R230). -/
def EMap.cellOn (m : EMap) (stage x : Nat) : Nat := m.cellAt stage (x / 2) (if m.topology = 2 then x % 2 else 0)

/-- The input line of stage s + 1 that output line x of stage s is joined to, for n stages' halves (R229). -/
def joined (n s x : Nat) : Nat :=
  if s + 1 < n then
    let b := 2 ^ n / 2 ^ s
    x / b * b + x % 2 * (b / 2) + x % b / 2
  else
    let b := 2 ^ n / 2 ^ (2 * n - 3 - s)
    x / b * b + 2 * (x % b % (b / 2)) + x % b / (b / 2)

/-- The path of the signal from line x of stage `s` on, under cell states: for each stage its input line, its output line and
its cell. -/
def EMap.pathFrom (m : EMap) (bits s x : Nat) : Nat → List (Nat × Nat × Nat)
  | 0 => []
  | k + 1 =>
    let c := m.cellOn s x
    let y := if bits.testBit c then x ^^^ 1 else x
    (x, y, c) :: m.pathFrom bits (s + 1) (joined (log2N m.ports) s y) k

/-- The cells of a crossbar that the signal of row i passes, and the output it leaves by (R231). -/
def EMap.rowPath (m : EMap) (bits i : Nat) : List Nat × Option Nat :=
  match (List.range m.ports).find? (fun j => bits.testBit (m.cellAt i j 0)) with
  | some j => ((List.range (j + 1)).map (fun c => m.cellAt i c 0)
      ++ (List.range (m.ports - 1 - i)).map (fun r => m.cellAt (i + 1 + r) j 0), some j)
  | none => ((List.range m.ports).map (fun c => m.cellAt i c 0), none)

/-- The cells on the path of the signal from input port p. -/
def EMap.pathCells (m : EMap) (bits p : Nat) : List Nat :=
  if m.topology = 3 then (m.rowPath bits p).1
  else (m.pathFrom bits 0 p (2 * log2N m.ports - 1)).map (fun t => t.2.2)

/-- The output port that the cell states route input port p to. -/
def EMap.routed (m : EMap) (bits p : Nat) : Option Nat :=
  if m.topology = 3 then (m.rowPath bits p).2
  else ((m.pathFrom bits 0 p (2 * log2N m.ports - 1)).getLast?).map (fun t => t.2.1)

/-! ## The looping algorithm (R233, R236, R238) -/

/-- What a solve knows at every level: the mode, the circuits present before and after, the pinned ones, the path of each under
the state in force, and the state in force. -/
structure SolveCtx where
  map : EMap
  mind : Bool
  kept : List Nat
  pins : List Nat
  old : Nat
  deriving DecidableEq, Repr

/-- The block and the sub-network that circuit p uses at level d under the state in force. -/
def SolveCtx.present (x : SolveCtx) (d p : Nat) : Nat × Nat :=
  let t := (x.map.pathFrom x.old 0 p (2 * log2N x.map.ports - 1)).getD d (0, 0, 0)
  (t.1 / (x.map.ports / 2 ^ d), t.2.1 % 2)

/-- The inputs of the loop that starts at an input line, each with its sub-network relative to the first. A connection is
(output line, input port), by its input line. -/
def loopFrom (conns : List (Nat × Nat)) (x : Nat) (acc : List (Nat × Nat)) : Nat → List (Nat × Nat)
  | 0 => acc
  | f + 1 =>
    let y := (conns.getD x (0, 0)).1 ^^^ 1
    let z := (conns.findIdx? (fun c => c.1 == y)).getD 0
    let acc1 := acc ++ [(z, 1)]
    let w := z ^^^ 1
    if acc1.any (fun a => a.1 == w) then acc1 else loopFrom conns w (acc1 ++ [(w, 0)]) f

/-- The orientation that a loop takes, 0 for its first connection through U and 1 through L, and whether two pinned circuits
need opposite ones (R238). -/
def SolveCtx.orient (x : SolveCtx) (d b : Nat) (conns : List (Nat × Nat)) (x0 : Nat) (lp : List (Nat × Nat)) : Nat × Bool :=
  if !x.mind then (0, false)
  else
    let mine := lp.filter (fun a =>
      let p := (conns.getD a.1 (0, 0)).2
      x.kept.contains p && (x.present d p).1 == b)
    let wish (a : Nat × Nat) : Nat := ((x.present d (conns.getD a.1 (0, 0)).2).2 + a.2) % 2
    let needs := (mine.filter (fun a => x.pins.contains (conns.getD a.1 (0, 0)).2)).map wish
    match needs with
    | o :: _ => (o, needs.any (fun q => q != o))
    | [] =>
      let ones := ((mine.map wish).filter (fun o => o == 1)).length
      let zeros := ((mine.map wish).filter (fun o => o == 0)).length
      if zeros > ones then (0, false)
      else if ones > zeros then (1, false)
      else
        let c := x.map.cellAt d (b * (conns.length / 2) + x0 / 2) (if x.map.topology = 2 then x0 % 2 else 0)
        ((x0 + bit01 (x.old.testBit c)) % 2, false)

/-- The sub-network of every input line of a level: the loops in order of their lowest line. -/
def SolveCtx.assign (x : SolveCtx) (d b : Nat) (conns : List (Nat × Nat)) : List (Nat × Nat) × Bool :=
  (List.range conns.length).foldl (fun acc x0 =>
    if acc.1.any (fun a => a.1 == x0) then acc
    else
      let lp := loopFrom conns x0 [(x0, 0)] conns.length
      let o := x.orient d b conns x0 lp
      (acc.1 ++ lp.map (fun a => (a.1, (a.2 + o.1) % 2)), acc.2 || o.2)) ([], false)

/-- The states of the logical cells of one sub-network at level d, block b, as (stage, position, state), and whether pins
conflict; `k` levels are left. -/
def SolveCtx.level (x : SolveCtx) (d b : Nat) (conns : List (Nat × Nat)) : Nat → List (Nat × Nat × Nat) × Bool
  | 0 => ([(d, b, bit01 ((conns.getD 0 (0, 0)).1 != 0))], false)
  | k + 1 =>
    let half := conns.length / 2
    let last := 2 * log2N x.map.ports - 2
    let a := x.assign d b conns
    let sub (l : Nat) : Nat := ((a.1.find? (fun q => q.1 == l)).getD (0, 0)).2
    let src (y : Nat) : Nat := (conns.findIdx? (fun c => c.1 == y)).getD 0
    let own := (List.range half).flatMap (fun i =>
      [(d, b * half + i, sub (2 * i)), (last - d, b * half + i, sub (src (2 * i)))])
    let part (t : Nat) : List (Nat × Nat) := (List.range half).map (fun i =>
      let l := if sub (2 * i) = t then 2 * i else 2 * i + 1
      ((conns.getD l (0, 0)).1 / 2, (conns.getD l (0, 0)).2))
    let u := x.level (d + 1) (2 * b) (part 0) k
    let w := x.level (d + 1) (2 * b + 1) (part 1) k
    (own ++ u.1 ++ w.1, a.2 || u.2 || w.2)

/-- The permutation completed (R236): idle inputs, first with the output that the state in force routes them to in
minimum-disturbance mode, then ascending with ascending. -/
def completePerm (m : EMap) (mind : Bool) (old : Nat) (q : Perm) : List (Nat × Nat) :=
  let asked := (List.range m.ports).map (fun p => (p, q.out p))
  let used := asked.filterMap (fun a => a.2)
  let idle := (asked.filter (fun a => a.2.isNone)).map (fun a => a.1)
  let kept := if mind then idle.filterMap (fun p =>
    match m.routed old p with
    | some o => if used.contains o then none else some (p, o)
    | none => none) else []
  let rest := idle.filter (fun p => !kept.any (fun a => a.1 == p))
  let free := (List.range m.ports).filter (fun o => !used.contains o && !kept.any (fun a => a.2 == o))
  let pairs := kept ++ rest.zip free
  (List.range m.ports).map (fun p =>
    ((q.out p).getD (((pairs.find? (fun a => a.1 == p)).getD (0, 0)).2), p))

/-- The cell states that solve a permutation, and whether pins conflict (R231, R233). -/
def SolveCtx.cells (x : SolveCtx) (q : Perm) : Nat × Bool :=
  if x.map.topology = 3 then
    (maskOf ((List.range x.map.cells).filter (fun c =>
      decide (q.out (x.map.cell c).stage = some (x.map.cell c).position))), false)
  else
    let r := x.level 0 0 (completePerm x.map x.mind x.old q) (log2N x.map.ports - 1)
    (maskOf ((List.range x.map.cells).filter (fun c =>
      r.1.any (fun t => t.1 == (x.map.cell c).stage && t.2.1 == (x.map.cell c).position && t.2.2 == 1))), r.2)

/-- The circuits present before and after: the same input to the same output (R237, R238). -/
def keptCircuits (old q : Perm) : List Nat := q.inputs.filter (fun p => q.out p == old.out p)

/-- A solve of permutation `q` against a state of the fabric (R233 to R239); `extra` are circuits pinned beside those with PIN
(R251). -/
def EMap.solve (m : EMap) (old : Fabric) (q : Perm) (mind : Bool) (extra : List Nat) (maxDist : Nat) : Solution :=
  let kept := keptCircuits old.perm q
  let pins := if mind then kept.filter (fun p => q.pin p || extra.contains p) else []
  let x : SolveCtx := { map := m, mind := mind, kept := kept, pins := pins, old := old.bits }
  let r := x.cells q
  let chg (c : Nat) : Bool := r.1.testBit c != old.bits.testBit c
  let dist := kept.filterMap (fun p =>
    let n := ((m.pathCells r.1 p).filter chg).length
    if n = 0 then none else some (p, n))
  { bits := r.1
    completed := m.topology != 3 && decide (q.inputs.length < m.ports)
    result := if !mind then 0
      else if r.2 || dist.any (fun d => pins.contains d.1) then 1
      else if maxDist ≠ 0xFFFF ∧ maxDist < dist.length then 2 else 0
    disturbed := dist
    changed := ((List.range m.cells).filter chg).length }

/-! ## The cell vector and the report (R232, R240) -/

/-- The 576 bytes of a cell vector (R232). -/
def EMap.vector (m : EMap) (slot gen crc : Nat) (mind : Bool) (v : Solution) : List Nat :=
  [m.topology, bit01 (v.result == 0) + 2 * bit01 mind + 4 * bit01 v.completed] ++ leBytes 2 m.ports ++ leBytes 2 m.cells
    ++ leBytes 2 slot ++ leBytes 4 gen ++ leBytes 4 crc ++ leBytes 4 m.serial ++ leBytes 2 v.disturbed.length
    ++ leBytes 2 v.changed ++ leBytes 8 0 ++ leBytes 544 v.bits

/-- The disturbed-circuit report (R240); TAG is that of the circuit's entry in force. -/
def reportBytes (old q : Perm) (crc : Nat) (v : Solution) : List Nat :=
  leBytes 2 v.disturbed.length ++ [v.result, 0] ++ leBytes 4 crc ++ leBytes 2 v.changed ++ leBytes 6 0
    ++ v.disturbed.flatMap (fun d =>
      leBytes 2 d.1 ++ leBytes 2 ((old.out d.1).getD 0) ++ leBytes 2 (old.tag d.1) ++ [d.2 % 256, bit01 (q.pin d.1)])

end Sys2Proof.Machine
end

