-- ==== Sys2Proof/Machine/VOps.lean ====
section
/-! DEFINITION. What ends or waits on an element's move: range changes that an event ends early (R129, R130), scheduled
transitions, and the completion of element commands. -/

namespace Sys2Proof.Machine

/-! ## Completions of element commands -/

/-- An element command completes, where it has an owner. -/
def State.finishOpt (s : State) (o : Option Owner) (c : Completion) : State :=
  match o with
  | some w => s.finish w c
  | none => s

/-- The completion of the RANGE form carries the range in force (R390). -/
def State.rangeDone (s : State) (e : Nat) (st : Status) : Completion := { status := st, res0 := bit01 (s.rangeHi e) }

/-! ## Range changes that end early (R130) -/

/-- The voltage that the ramps of a running range change have reached at this frame boundary (R129): 0 V after 20 µs until
25 µs, the voltage kept again after 45 µs, linear between. -/
def State.rangeReached (s : State) (e : Nat) (r : RangeChg) : Int :=
  let t : Nat := (s.loop.frames - r.at0) * 1024
  if !r.started then s.outputOf e
  else if t ≤ 20000 then roundRat ((r.back : Rat) * ((20000 - t : Nat) : Rat) / 20000)
  else if t ≤ 25000 then 0
  else if t ≤ 45000 then roundRat ((r.back : Rat) * ((t - 25000 : Nat) : Rat) / 20000)
  else r.back

/-- The invalid span of cause 4 of element `e`'s range change ends before this boundary. -/
def cutSpan (e now : Nat) (sp : Span) : Span :=
  if sp.cause = 4 ∧ sp.elem = some e ∧ now ≤ sp.last then { sp with last := now - 1 } else sp

/-- A monitor changed by `f`. -/
def State.modMon (s : State) (m : Nat) (f : Mon → Mon) : State :=
  { s with loop := { s.loop with mons := Tbl.modify {} s.loop.mons m f } }

/-- A range change of an element ends early (R130): the range reached stays, the invalid span ends, the command completes with
`st` and the range in force. -/
def State.endRange (s : State) (e : Nat) (st : Status) : State :=
  match (s.el e).rchg with
  | none => s
  | some r =>
    let v := s.rangeReached e r
    let s1 := s.modEl e (fun x => { x with rchg := none, drive := v, out := v, held := false, play := [], keepTo := s.loop.frames })
    let s2 := if r.started then (s.erec e).monitors.foldl (fun s m =>
      s.modMon m (fun x => { x with spans := x.spans.map (cutSpan e s.loop.frames) })) s1 else s1
    let s3 := (s2.wrBit .ust_vdac_status_rchg e false).wrBit .ust_vdac_cfg_range e (s2.rangeHi e)
    s3.finishOpt r.owner (s3.rangeDone e st)

/-! ## Moves that an event ends -/

/-- The command that waits on an element's move completes, and with it those that wait for the same return (R206). -/
def State.finishMove (s : State) (e : Nat) (o : Option Owner) (c : Completion) : State :=
  let s1 := s.finishOpt o c
  ((s.el e).joint.foldl (fun s w => s.finish w c) s1).modEl e (fun x => { x with joint := [] })

/-- The ELEMENT_SET or ELEMENT_RELEASE that waits on an element's jump or scheduled transition completes with `st`, and the
transition that was scheduled is dropped (R191, R192, R272). -/
def State.dropMove (s : State) (e : Nat) (st : Status) : State :=
  let x := s.el e
  let s1 := match x.jump with
    | some j => (s.finishMove e j.owner { status := st }).modEl e (fun y =>
        { y with jump := some { j with owner := none } })
    | none => s
  match x.sched with
  | some (_, _, o) => (s1.finishMove e o { status := st }).modEl e (fun y => { y with sched := none })
  | none => s1

end Sys2Proof.Machine
end

