-- ==== Sys2Proof/Machine/TrvOps.lean ====
section
/-! DEFINITION. The operations of Traverse: the library, the queue and its recomputation, execution on the elements,
completion when moved elements settle, cancellation, and the frames of chain-scoped Clearings (R228, R240 to R264). -/

namespace Sys2Proof.Machine

/-! ## The library and the map -/

/-- Traverse changed by `f`. -/
def State.modTrv (s : State) (f : TrvSt → TrvSt) : State := { s with trv := f s.trv }

/-- A slot of the library. -/
def State.slot (s : State) (k : Nat) : Slot := Tbl.get {} s.trv.slots k

/-- A slot replaced. -/
def State.putSlot (s : State) (k : Nat) (v : Slot) : State := s.modTrv (fun t => { t with slots := Tbl.set {} t.slots k v })

/-- The map in force, or an empty one. -/
def State.theMap (s : State) : EMap := s.map.force.getD {}

/-- Whether no command of file 08 can run: no map, or TOPOLOGY NONE (R65, R242). -/
def State.noTrv (s : State) : Bool :=
  match s.map.force with
  | some m => m.topology == 0
  | none => true

/-- Whether a permutation breaks R242 under the map in force; without a map only NOT_PERMITTED follows. -/
def State.permBad (s : State) (q : Perm) : Bool := !s.noTrv && !q.ok s.theMap.ports

/-- The cached vector of a slot that R243 lets a commit use: plain, of the slot's generation and the map in force. -/
def State.cachedOf (s : State) (k : Nat) : Option Solution :=
  match (s.slot k).cache with
  | some c => if c.gen = (s.slot k).gen ∧ c.serial = s.theMap.serial then some c.sol else none
  | none => none

/-- QSTATUS (R254): the queue and the solves shown. -/
def State.showQueue (s : State) : State :=
  let s1 := (s.wr .trv_qstatus_qdepth 0 s.trv.queue.length).wrBit .trv_qstatus_solving 0 s.trv.running.isSome
  let s2 := s1.wr .trv_qstatus_swait 0 (min 255 s.trv.waiting.length)
  s2.wr .trv_qstatus_next_seq 0 (match s.trv.queue with | c :: _ => c.job.clrId % 65536 | [] => 0)

/-- TRV_INFORCE of a state in force that came from a slot, or from an inline permutation (slot 0xFFFF). -/
def State.showForce (s : State) (slot : Nat) (idle : Bool) : State :=
  let inline := slot == 0xFFFF && !idle
  let s1 := (s.wr .trv_inforce_slot 0 (if inline || idle then 0xFFF else slot)).wrBit .trv_inforce_inline 0 inline
  (s1.wrBit .trv_inforce_idle 0 idle).wr .trv_inforce_circuits 0 s.trv.force.perm.inputs.length

/-! ## Elements and cells -/

/-- The target of an element's cell under cell states: 1 CROSS, 0 BAR (R228). -/
def State.targetIn (s : State) (bits e : Nat) : Nat := bit01 (bits.testBit (s.erec e).owner)

/-- The present cell elements of the map, ascending. -/
def State.cellElems (s : State) : List Nat :=
  (s.theMap.elems.filter (fun p => p.2.present && p.2.isCell)).map (fun p => p.1)

/-- Whether the state of the fabric routes a connection through a cell (R217). -/
def EMap.cellUsed (m : EMap) (f : Fabric) (c : Nat) : Bool :=
  f.perm.inputs.any (fun p => (m.pathCells f.bits p).contains c)

/-- Whether a port of R56's numbering is connected. -/
def Fabric.portUsed (f : Fabric) (p : Nat) : Bool :=
  if p < 512 then (f.perm.out p).isSome else f.perm.inputs.any (fun i => decide (f.perm.out i = some (p - 512)))

/-- Whether an element carries a circuit under one state of the fabric (R217). -/
def State.carriesIn (s : State) (f : Fabric) (e : Nat) : Bool :=
  let r := s.erec e
  if r.isCell then s.theMap.cellUsed f r.owner
  else (r.role == 3 || r.role == 4 || r.role == 5) && f.portUsed r.owner

/-- Whether an element carries a circuit (R217, R228): a cell element under the state in force or that of a queued Clearing, a
port element under either too. -/
def State.carries (s : State) (e : Nat) : Bool :=
  s.carriesIn s.trv.force e || s.trv.queue.any (fun c => s.carriesIn c.fab e)

/-! ## The state in force ahead (R251, R252) -/

/-- The frame of a named execution time: the first boundary at or after it (R249). -/
def frameAt (t : Nat) : Nat := (t + tickFrame - 1) / tickFrame

/-- The execution frame of a commit (R249): with EXEC 0 the first at least 2 frames after the queueing. -/
def State.jobFrame (s : State) (j : Job) : Nat :=
  match j.exec with
  | some t => frameAt t
  | none => s.frame + 2

/-- The state that will be in force after every queued Clearing with an earlier execution frame (R252). -/
def State.fabAt (s : State) (frame : Nat) : Fabric :=
  match (s.trv.queue.filter (fun c => c.frame < frame)).getLast? with
  | some c => c.fab
  | none => s.trv.force

/-- The permutation that a commit makes against a state (R251): a tenant's own input ports take its entries, every other one
keeps the state's. -/
def State.mergedPerm (s : State) (h : Hdr) (q : Perm) (base : Fabric) : Perm :=
  if h.mbx = 0 then q
  else Perm.write [] 0 ((List.range 512).map (fun p => Tbl.get 0 (if s.holdsIn h.mbx p then q else base.perm) p))

/-- A solve of a job against a state (R239, R251). -/
def State.solveJob (s : State) (j : Job) (base : Fabric) : Solution :=
  let outside := if j.h.mbx = 0 then [] else (List.range 512).filter (fun p => !s.holdsIn j.h.mbx p)
  s.theMap.solve base (s.mergedPerm j.h j.perm base) (j.mind || j.h.mbx != 0) outside j.maxDist

/-- The difference set of cell states that come after frame-earlier ones (R252): every present cell element whose target
differs from the target in force, stored targets included. -/
def State.diffOf (s : State) (frame bits : Nat) : List Nat :=
  let ahead := s.trv.queue.any (fun c => c.frame < frame)
  s.cellElems.filter (fun e =>
    s.targetIn bits e != (if ahead then s.targetIn (s.fabAt frame).bits e else (s.el e).tgt))

/-- Whether a Clearing's solve depends on the state in force (R252). -/
def Job.depends (j : Job) : Bool := j.mind || j.h.mbx != 0

/-! ## Records and completions (R256, R264) -/

/-- The identity that a completion reports: the slot, or the permutation identifier (R256). -/
def Job.ident (j : Job) : Nat := if j.slot = 0xFFFF then j.perm.crc else j.slot

/-- The identity that a Clearing's completion reports. -/
def Clearing.res1 (c : Clearing) : Nat := if c.job.slot = 0xFFFF then c.crc else c.job.slot

/-- The completion of a Clearing (R256, R390). -/
def Clearing.completion (c : Clearing) (st : Status) (disp : Nat) (split : Bool) : Completion :=
  { status := st, res0 := c.job.clrId, res1 := c.res1
    res2 := min 65535 c.moved + 65536 * min 65535 c.notMoved
    cflags := disp + 4 * bit01 c.holdover + 8 * bit01 split + 16 * bit01 (c.job.slot == 0xFFFF) }

/-- The 32-byte record of a Clearing in a STATE of R264. -/
def Clearing.record (c : Clearing) (state : Nat) : List Nat :=
  leBytes 4 c.job.clrId ++ leBytes 2 (if c.job.remote then 32768 else c.job.h.mbx)
    ++ [state, bit01 c.job.chain + 2 * bit01 (c.job.slot == 0xFFFF) + 4 * bit01 c.job.mind + 8 * bit01 c.holdover
        + 16 * bit01 c.fencedHit + 32 * bit01 c.job.atomic]
    ++ timeBytes10 (c.frame * tickFrame) ++ leBytes 2 c.job.slot ++ leBytes 4 c.crc ++ leBytes 2 c.moved
    ++ leBytes 2 c.notMoved ++ leBytes 2 (if c.job.remote then 0xFFFF else c.job.h.tag) ++ [0, 0]

/-- A Clearing that has executed or been cancelled is noted: its record among the last 256, TRV_LAST and TRV_LAST_RES. -/
def State.noteClr (s : State) (c : Clearing) (state : Nat) : State :=
  let r : ClrRec := { mbx := c.job.h.mbx, bytes := c.record state }
  let s1 := s.modTrv (fun t => { t with done := (r :: t.done).take 256 })
  ((s1.wr .trv_last_clr_id 0 c.job.clrId).wr .trv_last_res_moved 0 c.moved).wr .trv_last_res_state 0 state

/-! ## Chain frames (R259) -/

/-- A Clearing frame sent to a module. -/
def State.sendClr (s : State) (dst : Nat) (m : ClrMsg) : State := s.send 4 dst (.clearing m)

/-- The execution time of a frame as Clearing frames carry it: seconds and nanoseconds. -/
def execTime (frame : Nat) : DTime := timeOf (frame * tickFrame)

/-- A Clearing frame of a job (R259): its phase, CLR_ID, EXEC, ATOMIC and MINDIST, and MAX_DIST. -/
def Job.msg (j : Job) (phase frame : Nat) : ClrMsg :=
  { phase := phase, clrId := j.clrId, exec := execTime frame, flags := bit01 j.atomic + 2 * bit01 j.mind
    maxDist := j.maxDist }

/-- The reply of a participant: its phase, status and counts (R260). -/
def Clearing.reply (c : Clearing) (phase : Nat) (st : Status) (split : Bool) : ClrMsg :=
  let m := c.job.msg phase c.frame
  { m with
    flags := m.flags + 4 * bit01 c.holdover + 8 * bit01 split
    status := st.code, moved := min 65535 c.moved, notMoved := min 65535 c.notMoved }

/-- The participant entries as the module writes them back (R258). -/
def Part.bytes (p : Part) : List Nat :=
  leBytes 2 p.addr ++ leBytes 2 p.slot ++ [p.status, p.flags] ++ leBytes 2 p.moved

/-- The completion of a chain-scoped Clearing (R256, R260): its counts are the sums over the participants. -/
def ChainClr.completion (x : ChainClr) (st : Status) (disp : Nat) : Completion :=
  let mv := (x.parts.map (fun p => p.moved)).sum
  let nm := (x.parts.map (fun p => p.notMoved)).sum
  { status := st, res0 := x.job.clrId, res1 := x.job.ident
    res2 := min 65535 mv + 65536 * min 65535 nm
    cflags := disp + 4 * bit01 (x.parts.any (fun p => p.flags.testBit 1)) + 8 * bit01 x.split + 16 * bit01 (x.job.slot == 0xFFFF) }

/-- The list of a chain-scoped Clearing written back unless a mailbox reset has ended the command (R258, R367). -/
def State.writeParts (s : State) (x : ChainClr) : State :=
  if x.job.owner.any s.alive then s.hostWrite x.job.h x.plist (x.parts.flatMap Part.bytes) else s

/-- A chain-scoped Clearing completes at its originator (R260); an aborted one is remembered for reports of SPLIT (R261). -/
def State.finishChain (s : State) (x : ChainClr) (st : Status) (disp : Nat) : State :=
  let s1 := s.modTrv (fun t => { t with
    chains := t.chains.filter (fun y => y.job.clrId != x.job.clrId)
    ended := if disp = 1 then (x :: t.ended).take 16 else t.ended })
  (s1.writeParts x).finishOpt x.job.owner (x.completion st disp)

/-- The chain-scoped Clearing with a number. -/
def State.chainOf (s : State) (id : Nat) : Option ChainClr := s.trv.chains.find? (fun x => x.job.clrId == id)

/-- ABORT sent to every other participant of a chain-scoped Clearing (R260). -/
def State.sendAborts (s : State) (x : ChainClr) : State :=
  (x.parts.filter (fun p => p.addr != s.addr)).foldl (fun s p => s.sendClr p.addr (x.job.msg 4 x.frame)) s

/-- The first failing status of the participants in list order (R260). -/
def ChainClr.firstFail (x : ChainClr) : Status :=
  match x.parts.find? (fun p => p.rejected) with
  | some p => Status.ofCode p.status
  | none => .remoteTimeout

/-- Whether every participant that did not reject has reported. -/
def ChainClr.allIn (x : ChainClr) : Bool := x.parts.all (fun p => p.rejected || p.reported)

/-- A chain-scoped Clearing completes once it holds every report (R260, R261). -/
def State.chainTry (s : State) (x : ChainClr) : State :=
  if x.allIn then s.finishChain x (if x.split then .alreadyCommitted else .ok) 0
  else s.modTrv (fun t => { t with chains := t.chains.map (fun y => if y.job.clrId = x.job.clrId then x else y) })

/-- A participant's state at the originator changed. -/
def ChainClr.setPart (x : ChainClr) (addr : Nat) (f : Part → Part) : ChainClr :=
  { x with parts := x.parts.map (fun p => if p.addr = addr then f p else p) }

/-- The originator's own part does not run (R260): its entry takes the status, and an ATOMIC Clearing is aborted at once. -/
def State.ownRejected (s : State) (x : ChainClr) (st : Status) : State :=
  let y := x.setPart s.addr (fun p => { p with rejected := true, status := st.code })
  if y.job.atomic ∧ y.deadline = false then (s.sendAborts y).finishChain y y.firstFail 1 else s.chainTry y

/-- What a participant's report leaves in its entry (R258, R261). -/
def Part.report (p : Part) (st moved notMoved : Nat) (holdover split : Bool) : Part :=
  { p with reported := true, status := st, moved := moved, notMoved := notMoved
           flags := bit01 (notMoved != 0) + 2 * bit01 holdover + 4 * bit01 split }

/-! ## The end of a Clearing -/

/-- A Clearing whose moved elements have all settled is reported (R31, R260): a local one completes, a participant's part is
reported to its originator, the originator's own part is entered in its list. -/
def State.reportClr (s : State) (c : Clearing) : State :=
  let st : Status := if c.late then .alreadyCommitted else if c.fencedHit then .fenced else .ok
  match c.job.origin with
  | some a =>
    if a = s.addr then
      match s.chainOf c.job.clrId with
      | some x => s.chainTry (x.setPart a (fun p => p.report st.code (min 65535 c.moved) (min 65535 c.notMoved) c.holdover false))
      | none => s
    else s.sendClr a (c.reply 5 st c.late)
  | none => s.finishOpt c.job.owner (c.completion st 0 false)

/-- Executed Clearings whose elements have all settled leave the list and are reported. -/
def State.closeClearings (s : State) : State :=
  let fin := s.trv.active.filter (fun c => c.toSettle == [])
  let s1 := s.modTrv (fun t => { t with active := t.active.filter (fun c => c.toSettle != []) })
  fin.foldl (fun s c => s.reportClr c) s1

/-- An element has entered SETTLE, or can no longer enter it (DESIGN CHOICE: an element that leaves its move for SUSPECT,
FENCED, PARK or MANUAL holds no Clearing open): every Clearing that moved it counts it. -/
def State.settled (s : State) (e : Nat) : State :=
  if s.trv.active.any (fun c => c.toSettle.contains e) then
    (s.modTrv (fun t => { t with active := t.active.map (fun c =>
      { c with toSettle := c.toSettle.filter (fun x => x != e) }) })).closeClearings
  else s

/-- A queued Clearing is cancelled (R252, R257, R272): it leaves the queue and its command completes with `st`; a
participant's part answers REJECT. -/
def State.cancelClr (s : State) (c : Clearing) (st : Status) (disp : Nat) : State :=
  let s1 := s.modTrv (fun t => { t with queue := t.queue.filter (fun q => q.job.clrId != c.job.clrId) })
  let s2 := (s1.noteClr c 3).showQueue
  match c.job.origin with
  | some a =>
    if a = s.addr then
      match s2.chainOf c.job.clrId with
      | some x => s2.ownRejected x st
      | none => s2
    else s2.sendClr a (c.reply 3 st false)
  | none => s2.finishOpt c.job.owner (c.completion st disp false)

/-- A cancellation by recomputation is counted in TRV_FAIL (R252). -/
def State.countCancel (s : State) : State := (s.sat .trv_fail_cancelled 0).wrBit .trv_fail_new 0 true

/-- A solve that R239 fails is counted in TRV_FAIL. -/
def State.countBlocked (s : State) : State := (s.sat .trv_fail_blocked 0).wrBit .trv_fail_new 0 true

/-! ## Recomputation (R252) -/

/-- A queued Clearing formed again against the state now ahead of it: solved again where its solve depends on it; none where
it then fails R239. -/
def State.reform (s : State) (c : Clearing) : Option Clearing :=
  let base := s.fabAt c.frame
  if c.job.depends then
    let v := s.solveJob c.job base
    if v.result ≠ 0 then none
    else
      let q := s.mergedPerm c.job.h c.job.perm base
      some { c with fab := ⟨q, v.bits⟩, sol := v, crc := q.crc, diff := s.diffOf c.frame v.bits }
  else some { c with diff := s.diffOf c.frame c.fab.bits }

/-- Whether a recomputation that ends `ns` from now ends at or after a Clearing's point of no return. -/
def State.tooLate (s : State) (c : Clearing) (ns : Nat) : Bool := c.frame * tickFrame ≤ s.datum.t + (ns + 250) * tickNs

/-- Clearings formed again in order, the recomputation of those before having taken `ns`: each takes a time of its own of at most
4.0 µs, a free value. One that fails is cancelled with SOLVE_BLOCKED, one that is not done by its point of no return with
BUSY. -/
def State.recomputeFrom (s : State) (ns : Nat) : List Nat → State
  | [] => s
  | i :: r =>
    match s.trv.queue.find? (fun c => c.job.clrId == i && !c.armed) with
    | none => s.recomputeFrom ns r
    | some c =>
      let done := ns + s.freeVal % 4001
      let s1 := s.useFree
      (if s1.tooLate c done then (s1.cancelClr c .busy 2).countCancel
       else match s1.reform c with
         | some d => s1.modTrv (fun t => { t with queue := t.queue.map (fun x => if x.job.clrId = i then d else x) })
         | none => (s1.cancelClr c .solveBlocked 2).countCancel).recomputeFrom done r

/-- The Clearings with these numbers formed again (R252). -/
def State.recompute (s : State) (ids : List Nat) : State := s.recomputeFrom 0 ids

/-- The numbers of the Clearings queued behind a frame. -/
def State.behind (s : State) (frame : Nat) : List Nat :=
  (s.trv.queue.filter (fun c => frame < c.frame)).map (fun c => c.job.clrId)

/-- A Clearing cancelled, and those behind it formed again (R252). -/
def State.cancelAnd (s : State) (c : Clearing) (st : Status) (disp : Nat) : State :=
  (s.cancelClr c st disp).recompute (s.behind c.frame)

/-! ## Execution on one element (R30, R125, R130, R192) -/

/-- Whether R30 moves an element: in HOLD, SETTLE or JUMP. DEDUCED: JUMP wherever the jump leads, the returns of R126 and R283 among
them, for R30 names every JUMP. -/
def Elem.movable (x : Elem) : Bool := x.state == 1 || x.state == 2 || x.state == 3

/-- The command that goes on waiting when a Clearing moves the element (R193, R207): a release or a return completes at the entry to
SETTLE that follows; an override ends with BUSY (R192). -/
def Elem.carried (x : Elem) : Option Owner :=
  match x.catchUp, x.jump with
  | some (_, o), _ => o
  | none, some j => if j.goal = .override ∨ j.goal = .manualBack then none else j.owner
  | none, none => none

/-- What the Understory is armed with for an element (R279): the target drive, and whether its profile is that of a forward move. -/
def State.armOf (s : State) (e t : Nat) : Int × Bool :=
  let vt := s.targetDrive e t
  let vs := s.outputOf e
  (vt, if s.atClear e then decide (vs < vt) else s.forward e t vs vt)

/-- An element jumps on the arms of its Clearing (R30, R279): from the drive that it has reached, toward the value armed. -/
def State.armedElem (s : State) (e t : Nat) (arm : Int × Bool) (clr : Nat) : State :=
  let x := s.el e
  let o := x.carried
  let s0 := s.modEl e (fun y => { y with jump := y.jump.map (fun j => if o = j.owner then { j with owner := none } else j) })
  let joint := if o.isSome then x.joint else []
  let s1 := (if o.isSome then s0.modEl e (fun y => { y with joint := [] }) else s0).endRange e .busy
  let s2 := (s1.dropMove e .busy).retarget e t
  (s2.startJump e (s2.outputOf e) arm.1 arm.2 .target o (some clr)).modEl e (fun y => { y with catchUp := none, joint := joint })

/-- One element of a difference set treated at the execution frame (R30), with what it was armed with. -/
def State.clearElem (s : State) (e t : Nat) (arm : Int × Bool) (clr : Nat) : State :=
  if s.fenced (elemCpt e) ∨ (s.el e).movable = false then s.retarget e t
  else if s.clrHeld (elemCpt e) then (s.retarget e t).modEl e (fun x => { x with retgt := true })
  else s.armedElem e t arm clr

/-- Whether the Clearing moves the element, before it is treated. -/
def State.movesElem (s : State) (e : Nat) : Bool := !s.fenced (elemCpt e) && (s.el e).movable

end Sys2Proof.Machine
end

