-- ==== Sys2Proof/Machine/HostCmds.lean ====
section
/-! DEFINITION. The session, telemetry, expert and measurement commands (R381, R390, R392, R393, R400, R478). -/

namespace Sys2Proof.Machine

/-! ## IDENTIFY and GET_STATUS (R390) -/

/-- The bits set in a bitmap of `n` objects; MB0 holds all. -/
def countBits (m n bits : Nat) : Nat := if m = 0 then n else (bitsSet n bits).length

/-- The 64-byte identity record (R390). -/
def State.identity (s : State) (m : Nat) : List Nat :=
  let p := (s.mb m).part
  leBytes 2 0x9216 ++ [m, m, 0, 0, 0, 0] ++ leBytes 8 Config.uid ++ leBytes 4 (s.rd .boot_fw_ver_version 0)
    ++ [s.rd .boot_status_bank 0, 0, 0, 0] ++ leBytes 4 s.theMap.serial ++ [s.theMap.topology, 0] ++ leBytes 2 s.theMap.ports
    ++ leBytes 2 s.addr ++ leBytes 2 (s.rd .mbx_tags_tag_base m) ++ leBytes 2 (s.rd .mbx_tags_tag_count m)
    ++ leBytes 2 p.slotBase ++ leBytes 2 (if m = 0 then 4096 else p.slotCount) ++ [bit01 (p.expert || m == 0), 0]
    ++ leBytes 2 (countBits m 10240 p.elements) ++ leBytes 2 (countBits m 6144 p.monitors)
    ++ leBytes 2 (countBits m 512 p.inPorts) ++ leBytes 2 (countBits m 512 p.outPorts) ++ List.replicate 12 0

/-- IDENTIFY (R390). -/
def execIdentify (h : Hdr) (buf : Nat) (s : State) : Result :=
  .next (s.checked h [(s.badBuf h buf 1 64, .invalidField)]
    (fun s => (s.hostWrite h buf (s.identity h.mbx)).status h .ok))

/-- The status word of GET_STATUS (R390). -/
def State.statusWord (s : State) (m : Nat) : Nat :=
  bit01 s.map.force.isSome + 2 * s.rd .glb_baton_status_holder 0 + 4 * s.rd .glb_baton_status_frozen 0
    + 8 * maskOf ((List.range 4).filter s.fenced) + 128 * s.rd .dtm_status_p_state 0
    + 1024 * bit01 (s.fbk.state == 1) + 2048 * bit01 (s.fbk.state == 2) + 4096 * bit01 ((s.mb m).unlocks != [])

/-- The entries of the fault log that a mailbox sees and has not read (R449, R450). -/
def State.unread (s : State) (m : Nat) : Nat :=
  (s.flt.log.filter (fun e => s.visible m e && decide ((s.mb m).logPtr ≤ e.seq))).length

/-- GET_STATUS (R390). -/
def execGetStatus (h : Hdr) (s : State) : Result :=
  let queued := (s.trv.queue.filter (fun c => c.job.h.mbx == h.mbx)).length
  .next (s.complete h {
    status := .ok, res0 := s.statusWord h.mbx, res1 := s.frame % 2 ^ 32
    res2 := min 65535 (s.unread h.mbx) + 65536 * min 65535 queued })

/-! ## PARTITION_SET (R381) -/

/-- The partition that a table of 2,208 bytes spells. -/
def partOf (t : List Nat) : Partition :=
  { slotBase := fld t 4 2, slotCount := fld t 6 2, expert := (fld t 8 1).testBit 0, inPorts := fld t 0x20 64
    outPorts := fld t 0x60 64, elements := fld t 0xA0 1280, monitors := fld t 0x5A0 768 }

/-- Whether two ranges of numbers overlap. -/
def overlaps (a n b m : Nat) : Bool := n != 0 && m != 0 && a < b + m && b < a + n

/-- Whether a partition shares an object with another VF mailbox's. -/
def State.sharesWith (s : State) (p : Partition) (k : Nat) : Bool :=
  let q := (s.mb k).part
  overlaps p.slotBase p.slotCount q.slotBase q.slotCount || p.inPorts &&& q.inPorts != 0 || p.outPorts &&& q.outPorts != 0
    || p.elements &&& q.elements != 0 || p.monitors &&& q.monitors != 0

/-- Whether a partition table breaks R381 for mailbox `k`. -/
def State.partBad (s : State) (k : Nat) (t : List Nat) : Bool :=
  let base := fld t 0 2
  let count := fld t 2 2
  let p := partOf t
  t.length != 2208 || 4096 < count || 2 ≤ fld t 8 1 || fld t 9 23 != 0 || 16320 < base + count || 4096 < p.slotCount
    || 4096 < p.slotBase + p.slotCount
    || (List.range 8).any (fun j => j != k && overlaps base count (s.rd .mbx_tags_tag_base j) (s.rd .mbx_tags_tag_count j))
    || [1, 2, 3, 4, 5, 6, 7].any (fun j => j != k && s.sharesWith p j)

/-- PARTITION_SET (R381). -/
def execPartitionSet (h : Hdr) (mbx buf : Nat) (table : List Nat) (s : State) : Result :=
  let base := fld table 0 2
  let count := fld table 2 2
  .next (s.checked h
    [(mbx < 1 || 7 < mbx || h.remote.isSome || s.badSrc h buf 1 2208 || s.partBad mbx table, .invalidField),
     (h.mbx != 0, .notPermitted),
     ((s.mb mbx).flight.any (fun f => f.tag < base || base + count ≤ f.tag), .busy)]
    (fun s => (((s.modMb mbx (fun b => { b with part := partOf table })).wr .mbx_tags_tag_base mbx base).wr
      .mbx_tags_tag_count mbx count).status h .ok))

/-! ## TELEMETRY_CFG (R227, R397, R400) -/

/-- TELEMETRY_CFG, RING (R397, R400). -/
def execTelemetryCfgRing (h : Hdr) (ring en rlog recsz origin thresh base wb time : Nat) (s : State) : Result :=
  let k := ringKey h.mbx ring
  let r := s.ring k
  let clash := s.bit .mbx_tr_status_en k && en == 1 && (r.base != base || r.rlog != rlog || r.recsz != recsz)
  let bound := s.host.sources.any (fun t =>
    t.mbx == h.mbx && t.ring == ring && t.dest == 0 && decide (recSize t.source ≠ some recsz))
  .next (s.checked h
    [(ringCount h.mbx ≤ ring || 1 < en || rlog < 8 || 20 < rlog || !(recsz == 16 || recsz == 32 || recsz == 48)
        || base % 4096 != 0 || wb % 16 != 0 || clash || bound || h.remote.isSome, .invalidField)]
    (fun s => (({ s with rings := Tbl.set {} s.rings k { r with
        rlog := rlog, recsz := recsz, origin := origin, thresh := thresh, base := base, wb := wb, time := time } }).wrBit
      .mbx_tr_status_en k (en == 1)).status h .ok))

/-- The objects that a source may name (R400): elements, output ports, monitors, chain ports, pins. -/
def sourceLimit (source : Nat) : Nat :=
  match source with | 1 | 3 => 10240 | 2 => 512 | 4 => 6144 | _ => 4

/-- Records per second of a LOOP source (R227). -/
def State.loopRate (s : State) (first count dec : Nat) : Rat :=
  ((List.range 4).map (fun n =>
    let es := ((span first count).filter (fun e => elemCpt e == n)).length
    (es : Rat) * 1000000000 / ((dec * s.period n * 1024 : Nat) : Rat))).sum

/-- Whether a binding of the same mailbox, ring and source. -/
def TelSource.sameAs (t : TelSource) (mbx ring source dest : Nat) : Bool :=
  t.mbx == mbx && t.ring == ring && t.source == source && t.dest == dest

/-- Whether the objects of a source lie in the mailbox's partition (R400). -/
def State.sourceHeld (s : State) (m source first count : Nat) : Bool :=
  match source with
  | 1 | 3 => s.holdsElems m first count
  | 2 => m == 0 || (span first count).all (fun p => s.holdsOut m p)
  | 4 => s.holdsMons m first count
  | _ => true

/-- TELEMETRY_CFG, SOURCE (R227, R400): a source bound to a ring of the mailbox or to a ring of another module, or unbound. -/
def execTelemetryCfgSource (h : Hdr) (ring source en first count dec dest : Nat) (s : State) : Result :=
  let n := if 5 ≤ source then 1 else count
  let others := s.host.sources.filter (fun t => !t.sameAs h.mbx ring source dest)
  let rates := (others.filter (fun t => t.source == 1)).map (fun t => s.loopRate t.first t.count t.dec)
  let excess := en == 1 && source == 1 && decide ((2 ^ 28 : Rat) < rates.sum + s.loopRate first count (max 1 dec))
  let size := decide (dest = 0 ∧ recSize source ≠ some (s.ring (ringKey h.mbx ring)).recsz)
  .next (s.checked h
    [((if dest = 0 then ringCount h.mbx ≤ ring else 62 ≤ ring) || source < 1 || 6 < source || 1 < en || n < 1
        || sourceLimit source < first + n || (source == 1 && dec == 0) || (dest != 0 && h.mbx != 0) || (en == 1 && size) || excess,
      .invalidField),
     (!s.sourceHeld h.mbx source first n, .outOfPartition), (5 ≤ source && h.mbx != 0, .notPermitted)]
    (fun s =>
      let t : TelSource := {
        mbx := h.mbx, ring := ring, source := source, first := first, count := n
        dec := if source = 1 then dec else 1, dest := dest }
      ({ s with host := { s.host with sources := if en = 1 then others ++ [t] else others } }).status h .ok))

/-! ## EXPERT_UNLOCK and EXPERT_LOCK (R392, R393, R395) -/

/-- Whether FORM, WHICH or TTL is invalid (R392). -/
def unlockBad (kind which ttl : Nat) : Bool :=
  2 < kind || (kind == 0 && 3 < which) || (kind == 1 && 0x0C < which) || (kind == 2 && which != 0) || 3600 < ttl

/-- EXPERT_UNLOCK (R392, R395): an identical unlock restarts its TTL; a ninth one is BUSY; an unlock of the whole device is
measured (R475). -/
def execExpertUnlock (h : Hdr) (kind which ttl : Nat) (s : State) : Result :=
  let u := (s.mb h.mbx).unlocks
  let same := s.unlockedBy h.mbx kind which
  .next (s.checked h
    [(unlockBad kind which ttl, .invalidField), (kind != 0 && h.mbx != 0, .notPermitted),
     (kind == 1 && which == 9, .notPermitted),
     (kind == 0 && h.mbx != 0 && (!(s.mb h.mbx).part.expert || !s.holdsCpt h.mbx which), .notPermitted),
     (!same && 8 ≤ u.length, .busy)]
    (fun s =>
      let others := u.filter (fun x => !(x.kind == kind && x.which == which))
      let s1 := (s.modMb h.mbx (fun b => { b with unlocks := others ++ [{ kind := kind, which := which, ttl := ttl, since := s.loop.frames }] })).showExpert h.mbx
      (if kind = 2 ∧ same = false then s1.extendEvent 3 else s1).status h .ok))

/-- EXPERT_LOCK (R388, R393): the named unlock ends, or with FORM 3 every unlock of the mailbox; one that names none changes
nothing. -/
def execExpertLock (h : Hdr) (kind which : Nat) (s : State) : Result :=
  .next (s.checked h [(3 < kind, .invalidField)]
    (fun s => (s.dropUnlocks h.mbx (fun u => kind == 3 || (u.kind == kind && u.which == which))).status h .ok))

/-! ## MEASURE_READ (R478) -/

/-- The word of BOOT_STATUS. -/
def State.bootWord (s : State) : Nat :=
  s.rd .boot_status_bank 0 + 2 * s.rd .boot_status_fallback 0 + 4 * s.rd .boot_status_sig_ok 0
    + 8 * s.rd .boot_status_recovery 0 + 16 * s.rd .boot_status_staged_fw 0 + 32 * s.rd .boot_status_staging 0
    + 64 * s.rd .boot_status_activating 0 + 65536 * s.rd .boot_status_boots 0

/-- The DMTF value type of a measurement register (R475). -/
def mregType (i : Nat) : Nat := if i ≤ 2 then 1 else if i = 5 then 2 else 3

/-- The 64-byte record of a measurement register (R478). -/
def State.mregRecord (s : State) (i : Nat) : List Nat :=
  let m := s.mreg i
  [i, mregType i] ++ leBytes 2 m.count ++ [0, 0, 0, 0] ++ leBytes 48 m.value ++ leBytes 8 m.frame

/-- The registers that MASK selects: 0 selects all. -/
def maskSelects (mask : Nat) : List Nat := if mask = 0 then List.range 8 else bitsSet 8 mask

/-- MEASURE_READ (R478). -/
def execMeasureRead (h : Hdr) (mask buf : Nat) (s : State) : Result :=
  let l := maskSelects mask
  .next (s.checked h [(s.badBuf h buf 16 (64 * l.length), .invalidField)]
    (fun s => (s.hostWrite h buf (l.flatMap s.mregRecord)).complete h {
      status := .ok, res0 := l.length, res1 := s.bootWord }))

end Sys2Proof.Machine
end

