-- ==== Sys2Proof/Machine/DatumOps.lean ====
section
/-! DEFINITION. The operations of Datum (file 10): sources, states, offsets, queues of timestamps, PTP roles. Times are
in 2^-16 ns. -/

namespace Sys2Proof.Machine

/-! ## Units -/

/-- 2^-16 ns in picoseconds, rounded down (DESIGN CHOICE: the rounding is not stated). -/
def psOfTicks (t : Int) : Int := t * 1000 / 65536

/-- Picoseconds in 2^-16 ns, rounded down (DESIGN CHOICE). -/
def ticksOfPs (p : Int) : Int := p * 65536 / 1000

/-- A value in picoseconds as a saturating signed field of 32 bits. -/
def ps32 (p : Int) : Nat := unsigned 32 (clampInt (-2147483648) 2147483647 p)

/-! ## Domains and sources (R292, R293, R338) -/

/-- The domain that serves as Datum P. -/
def State.pDom (s : State) : Nat := s.rd .dtm_status_p_dom_act 0

/-- A domain's state. -/
def State.dom (s : State) (d : Nat) : Domain := if d = 0 then s.datum.dom0 else s.datum.dom1

/-- A domain changed by `f`. -/
def State.modDom (s : State) (d : Nat) (f : Domain → Domain) : State :=
  if d = 0 then { s with datum := { s.datum with dom0 := f s.datum.dom0 } }
  else { s with datum := { s.datum with dom1 := f s.datum.dom1 } }

/-- The source of a domain: 0 none, 1 chain port, 2 PPS_IN; 3 acts as 0 (R292, DTM_CTRL). -/
def State.srcOf (s : State) (d : Nat) : Nat :=
  let v := s.rd (if d = 0 then .dtm_ctrl_src0 else .dtm_ctrl_src1) 0
  if v = 3 then 0 else v

/-- The slave port of a domain with a chain source: the configured port, or for a ring module whose source is a ring port its
current UP ring port (R293, R338). -/
def State.slavePort (s : State) (d : Nat) : Option Nat :=
  if s.srcOf d ≠ 1 then none
  else
    let p := s.rd (if d = 0 then .dtm_ctrl_port0 else .dtm_ctrl_port1) 0
    if s.bit .chp_fab_ring 0 ∧ p ≤ 1 ∧ !s.bit .chp_fab_root 0 then
      match s.upPort with
      | some u => if u ≤ 1 then some u else some p
      | none => some p
    else some p

/-- The PTP role of a port in a domain (R293): 2 slave, 1 master (its link up and enumerated as leading away from the root),
0 disabled. -/
def State.ptpRole (s : State) (d p : Nat) : Nat :=
  if s.slavePort d = some p then 2 else if s.linkUp p ∧ s.role p = 2 then 1 else 0

/-- The PTP roles shown in DTM_PORT_CFG. -/
def State.showPtpRoles (s : State) : State :=
  (List.range 4).foldl (fun s p =>
    (s.wr .dtm_port_cfg_role0 p (s.ptpRole 0 p)).wr .dtm_port_cfg_role1 p (s.ptpRole 1 p)) s

/-- The state of a domain: P_STATE for Datum P, S_STATE for the other. -/
def State.domState (s : State) (d : Nat) : Nat :=
  if d = s.pDom then s.rd .dtm_status_p_state 0 else s.rd .dtm_status_s_state 0

/-! ## States and limits (R298 to R304) -/

/-- P_STATE set (R298): a change sets the event and is reported as source 0x28; the entry to HOLDOVER starts HOLD_TIME. -/
def State.setP (s : State) (st : Nat) : State :=
  if s.rd .dtm_status_p_state 0 = st then s
  else
    let s1 := ((s.wr .dtm_status_p_state 0 st).dtmEvent 0).report { src := 0x28, detail := st }
    { s1 with datum := { s1.datum with heldSince := if st = 4 then some s1.datum.t else none } }

/-- S_STATE set (R306): a change sets the event and is reported as source 0x29. -/
def State.setS (s : State) (st : Nat) : State :=
  if s.rd .dtm_status_s_state 0 = st then s
  else ((s.wr .dtm_status_s_state 0 st).dtmEvent 1).report { src := 0x29, detail := st }

/-- The state of a domain set. -/
def State.setDom (s : State) (d st : Nat) : State := if d = s.pDom then s.setP st else s.setS st

/-- LOCK_THR in 2^-16 ns: 4 ns units, 0 acts as 1. -/
def State.lockThr (s : State) : Int := ((max 1 (s.rd .dtm_limits_lock_thr 0)) * 4 * 65536 : Nat)

/-- The limit of ρ: ±500 ppm in units of 2^-48 (R289). -/
def rhoLimit : Int := 500 * 2 ^ 48 / 1000000

/-- The servo's closed-loop bandwidth in 0.25 Hz (R302, DTM_CTRL): 2^SERVO_BW, where values above 4 act as 4. -/
def State.servoBw (s : State) : Nat := 2 ^ min 4 (s.rd .dtm_ctrl_servo_bw 0)

/-- ρ shown: the rate estimate plus a slew, limited to ±500 ppm (R289, R302). -/
def State.setRho (s : State) (slew : Int) : State :=
  s.wr .dtm_rate_rho 0 (unsigned 40 (clampInt (-rhoLimit) rhoLimit (s.datum.est + slew)))

/-- A rate estimate of the servo, limited to ±500 ppm as ρ is (R289). -/
def State.setEst (s : State) (e : Int) : State :=
  { s with datum := { s.datum with est := clampInt (-rhoLimit) rhoLimit e } }

/-- SLEW_MAX in units of 2^-48: 2 ppm units (R302). -/
def State.slewMax (s : State) : Nat := s.rd .dtm_limits_slew_max 0 * 2 * 2 ^ 48 / 1000000

/-- ρ of Datum P (R302): the servo's estimate, and while SLEWING with an offset above LOCK_THR a slew toward offset 0. The manual
states no slew but "at most SLEW_MAX": a free value from 1 to that. -/
def State.steer (s : State) : State :=
  let off := (s.dom s.pDom).offset
  if s.rd .dtm_status_p_state 0 = 2 ∧ s.lockThr < |off| ∧ s.slewMax ≠ 0 then
    let m : Int := ((1 + s.freeVal % s.slewMax : Nat) : Int)
    (s.useFree).setRho (if 0 < off then m else -m)
  else s.setRho 0

/-- Datum P enters SLEWING or LOCKED, ρ as R302 says. -/
def State.runP (s : State) (st : Nat) : State := (s.setP st).steer

/-- The Sync interval on the slave port of a domain in 2^-16 ns: 2^-LOG_SYNC s (R294). -/
def State.syncInterval (s : State) (d : Nat) : Nat :=
  1000000000 * tickNs / 2 ^ (match s.slavePort d with | some p => s.rd .dtm_port_cfg_log_sync p | none => 0)

/-- An Announce interval, and a PPS interval, in 2^-16 ns. -/
def oneSecond : Nat := 1000000000 * tickNs

/-- Whether no valid Sync has come for 4 Sync intervals, or no PPS edge for 1.5 s (R299). -/
def State.syncTimeout (s : State) (d : Nat) : Bool :=
  decide ((s.dom d).syncAt + (if s.srcOf d = 2 then oneSecond * 3 / 2 else 4 * s.syncInterval d) ≤ s.datum.t)

/-- Whether a timeout of R299 has run in a domain: of Syncs, of Announces, or of PPS edges. -/
def State.sourceLate (s : State) (d : Nat) : Bool :=
  match s.srcOf d, s.slavePort d with
  | 1, some _ => s.syncTimeout d || decide ((s.dom d).annAt + 3 * oneSecond ≤ s.datum.t)
  | 2, _ => s.syncTimeout d
  | _, _ => false

/-- Whether a domain's source is lost under R299 but for a timeout: its link is down, its traceability gone, or its offsets or edges
are off. The rows on offsets beyond ten times LOCK_THR and on edges more than 1 µs off judge Datum P alone; Datum S never steps
and holds any offset (R306; DEDUCED). -/
def State.sourceFails (s : State) (d : Nat) : Bool :=
  let x := s.dom d
  let isP := d == s.pDom
  match s.srcOf d, s.slavePort d with
  | 1, some p => !s.linkUp p || (x.announced && !x.traceable)
      || (isP && s.rd .dtm_status_p_state 0 == 3 && decide (4 ≤ x.beyond))
  | 2, _ => isP && decide (4 ≤ x.late)
  | _, _ => false

/-- Whether a domain's source is usable (R299, R300, R304): its port's link is up, an Announce with timeTraceable has come within the
receipt timeout and no want of Syncs stands; for PPS_IN the time of day is given and edges come. -/
def State.usable (s : State) (d : Nat) : Bool :=
  let x := s.dom d
  match s.srcOf d, s.slavePort d with
  | 1, some p => s.linkUp p && x.announced && x.traceable && !x.noSync && decide (s.datum.t < x.annAt + 3 * oneSecond)
  | 2, _ => x.tod.isSome && !s.syncTimeout d
  | _, _ => false

/-- What a domain has collected of its source, void. -/
def Domain.cleared (x : Domain) : Domain :=
  { x with valid := 0, within := 0, beyond := 0, good := 0, late := 0, awaiting := none, lastSeq := none, announced := false }

/-- A loss of a domain's source (R299, R303, R306): what was collected is void; a domain that has acquired enters HOLDOVER, another
is FREE; ρ of Datum P stays at the servo's estimate, without any slew. -/
def State.lose (s : State) (d : Nat) : State :=
  let runs := d = s.pDom ∧ (s.rd .dtm_status_p_state 0 = 2 ∨ s.rd .dtm_status_p_state 0 = 3)
  let s1 := s.modDom d (fun x => { x.cleared with noSync := s.srcOf d == 1 && s.syncTimeout d })
  let s2 := s1.setDom d (if (s.dom d).acquired then 4 else 0)
  if runs then s2.setRho 0 else s2

/-- A source that becomes present: FREE or HOLDOVER passes to ACQUIRING (R298, R304), but not while BIG_OFS waits for RESTEP. -/
def State.acquire (s : State) (d : Nat) : State :=
  let st := s.domState d
  if st = 0 ∨ (st = 4 ∧ !(d = s.pDom ∧ s.bit .dtm_status_big_ofs 0)) then
    (s.modDom d (fun x => { x with valid := 0, within := 0, beyond := 0, good := 0, late := 0, syncAt := s.datum.t })).setDom d 1
  else s

/-! ## Offsets (R298, R302, R306) -/

/-- The median of a list of delays: the middle one, or the mean of the two middle ones rounded down (R294; the case of an even
number is a DESIGN CHOICE). -/
def medianOf (l : List Int) : Int :=
  let q := l.mergeSort (fun a b => decide (a ≤ b))
  let n := q.length
  if n % 2 = 1 then q.getD (n / 2) 0 else (q.getD (n / 2 - 1) 0 + q.getD (n / 2) 0) / 2

/-- A PTP port. -/
def State.pp (s : State) (p : Nat) : PtpPort := Tbl.get {} s.datum.ports p

/-- A PTP port changed by `f`. -/
def State.modPp (s : State) (p : Nat) (f : PtpPort → PtpPort) : State :=
  { s with datum := { s.datum with ports := Tbl.modify {} s.datum.ports p f } }

/-- The mean link delay of a port (R294): 0 until 4 exchanges are valid. -/
def State.linkDelay (s : State) (p : Nat) : Int :=
  if 4 ≤ (s.pp p).delays.length then medianOf (s.pp p).delays else 0

/-- Whether the link delay that a domain's offset needs is known: from at least 4 Pdelay exchanges for a chain source (R298). -/
def State.delayKnown (s : State) (d : Nat) : Bool :=
  match s.slavePort d with
  | some p => decide (4 ≤ (s.pp p).delays.length)
  | none => true

/-- A Sync or an edge of a domain with offset `delta`, master time minus own (R298, R299, R302, R306); `next` says that it follows
the one before without one missed, which keeps the run of R298. -/
def State.takeOffset (s : State) (d : Nat) (delta : Int) (next : Bool) : State :=
  let thr := s.lockThr
  let x := s.dom d
  let dt := s.datum.t - x.syncAt
  let runs := d = s.pDom ∧ (s.rd .dtm_status_p_state 0 = 2 ∨ s.rd .dtm_status_p_state 0 = 3)
  let s1 := s.modDom d (fun x => { x with
    offset := delta
    rate := Config.rateLaw x.rate x.offset delta dt
    valid := if next then x.valid + 1 else 1
    good := if s.delayKnown d then x.good + 1 else 0
    within := if |delta| ≤ thr then x.within + 1 else 0
    beyond := if 10 * thr < |delta| then x.beyond + 1 else 0
    syncAt := s.datum.t, noSync := false })
  let s2 := s1.wr (if d = s.pDom then .dtm_offset_offset_p else .dtm_offset_offset_s) 0 (ps32 (psOfTicks delta))
  if runs then (s2.setEst (Config.servoLaw s.servoBw s.datum.est x.offset delta dt)).steer else s2

/-! ## Grid steps and the switch (R300, R307) -/

/-- The grid of a step: 40,960 ns in 2^-16 ns. -/
def gridTicks : Int := 40960 * 65536

/-- The whole number nearest to delta / 40,960 ns, halves rounded toward zero (R300). -/
def stepK (delta : Int) : Int :=
  if 0 ≤ delta then -((gridTicks - 2 * delta) / (2 * gridTicks)) else (gridTicks + 2 * delta) / (2 * gridTicks)

/-- A grid step planned for an offset (R300): STEP_PEND is set until it is made. -/
def State.planStep (s : State) (delta : Int) : State :=
  let k := stepK delta
  ({ s with datum := { s.datum with stepPlan := some (k, delta - k * gridTicks, s.frame), stepWanted := false } }).wrBit
    .dtm_status_step_pend 0 true

/-- Whether Datum S may become Datum P (R307): it is LOCKED and its offset is within SW_LIMIT. -/
def State.canSwitch (s : State) : Bool :=
  s.rd .dtm_status_s_state 0 == 3 &&
    decide (|(s.dom (1 - s.pDom)).offset| ≤ ((s.rd .dtm_limits_sw_limit 0 * 65536 : Nat) : Int))

/-- The roles change at a frame boundary (R307): no step; LOCKED if the offset of the new P is within LOCK_THR, else SLEWING; the
servo goes on from the rate held of the new P (R306; DEDUCED). The former P continues as S: HOLDOVER where its source was lost, and
ACQUIRING for the SLEWING that S has not. -/
def State.switchNow (s : State) (lost : Bool) : State :=
  let old := s.pDom
  let was := s.rd .dtm_status_p_state 0
  let s1 := ((s.wr .dtm_status_p_dom_act 0 (1 - old)).inc .dtm_status_sel_cnt 0).dtmEvent 3
  let s2 := s1.report { src := 0x29, detail := 1 - old }
  let x := s2.dom (1 - old)
  let s3 := ((s2.wrBit .dtm_status_big_ofs 0 false).setEst (s2.datum.est + x.rate)).runP (if |x.offset| ≤ s2.lockThr then 3 else 2)
  let s4 := s3.setS (if lost then 4 else if was = 2 then 1 else was)
  (s4.wr .dtm_offset_offset_p 0 (ps32 (psOfTicks x.offset))).wr .dtm_offset_offset_s 0 (ps32 (psOfTicks (s4.dom old).offset))

/-- A switch that waits for this frame boundary is made, and the command that asked for it completes (R307); an automatic one that is
not made leaves Datum P to enter HOLDOVER. -/
def State.switchAtBoundary (s : State) : State :=
  match s.datum.switchDue with
  | none => s
  | some os =>
    let s1 := { s with datum := { s.datum with switchDue := none } }
    let lost := s.rd .dtm_status_p_state 0 == 3 && s.srcOf s.pDom != 0 && !s.usable s.pDom
    if s.canSwitch then os.foldl (fun s w => s.finish w { status := .ok }) (s1.switchNow lost)
    else os.foldl (fun s w => s.finish w { status := .datumUnlocked }) (if lost then s1.lose s.pDom else s1)

/-! ## PTP transmission and timestamps (R294, R296, R297, R356) -/

/-- Whether a PTP message can be sent on a port: the module never holds more than four in TC7 (R356), and sends none before a valid
HELLO (R321). -/
def State.ptpRoom (s : State) (p : Nat) : Bool := s.portReady p && decide (((s.sp p).queue 7).length < 4)

/-- A PTP message put into TC7 of a port. -/
def State.sendPtp (s : State) (p : Nat) (m : Ptp) : State :=
  if s.ptpRoom p then s.enqueue p true { frame := .ptp m, bytes := frameBytes (.ptp m) } else s

/-- Whether a message that a port sends at an interval is due (R294): a Sync (0 and 1, by domain), a Pdelay_Req (2), an Announce (4
and 5). -/
def State.sendDue (s : State) (p key interval : Nat) : Bool :=
  match Tbl.get none (s.pp p).sent key with
  | some t => decide (t + interval ≤ s.datum.t)
  | none => true

/-- The time of such a message noted. -/
def PtpPort.note (x : PtpPort) (key t : Nat) : PtpPort := { x with sent := Tbl.set none x.sent key (some t) }

/-- Whether a message is one of the profile of R294: versionPTP 2, minorVersionPTP 1, not unicast, of the expected type, in domain 0
or 1. -/
def ptpProfile (m : Ptp) (ty : Nat) : Bool :=
  m.version == 2 && m.minor == 1 && !m.unicast && m.msgType == ty && decide (m.domain ≤ 1)

/-- The oldest transmit timestamp shown in DTM_TSQ_POP, and FILL (R297). -/
def State.showTsq (s : State) (p : Nat) : State :=
  let q := (s.pp p).tsq
  let s1 := s.wr .dtm_tsq_status_fill p q.length
  match q with
  | [] => s1.wrBit .dtm_tsq_pop_valid p false
  | e :: _ =>
    let d := timeOf e.time
    ((((s1.wr .dtm_tsq_pop_seq_id p e.seq).wr .dtm_tsq_pop_msg_type p e.msgType).wr .dtm_tsq_pop_domain p e.domain).wrBit
      .dtm_tsq_pop_valid p true).wr .dtm_tsq_pop_time p (d.sub + d.ns * 2 ^ 16 + d.sec * 2 ^ 48)

/-- A transmit timestamp falls due (R297): with all 64 entries full it is dropped, OVF is set and counted, and source 0x2A is
reported. Answers whether it was kept. -/
def State.pushTsq (s : State) (p : Nat) (e : TsqEntry) : State × Bool :=
  if (s.pp p).tsq.length < 64 then ((s.modPp p (fun x => { x with tsq := x.tsq ++ [e] })).showTsq p, true)
  else
    ((((s.wrBit .dtm_tsq_status_ovf p true).sat .dtm_tsq_status_ovf_cnt p).dtmEvent 4).report
      { src := 0x2A, objKind := 4, obj := p }, false)

/-- An ingress timestamp with ASYM_IN of its port (R296). -/
def State.ingressAt (s : State) (p t : Nat) : Nat := ((t : Int) + ticksOfPs (signed 32 (s.rd .dtm_asym_asym_in p))).toNat

/-- An egress timestamp with ASYM_EG of its port (R296). -/
def State.egressAt (s : State) (p t : Nat) : Nat := ((t : Int) + ticksOfPs (signed 32 (s.rd .dtm_asym_asym_eg p))).toNat

/-- A time that this module serves in a domain: its own, or for Datum S its own plus the offset held (R293, R306). -/
def State.serve (s : State) (d t : Nat) : Nat := if d = s.pDom then t else ((t : Int) + (s.dom d).offset).toNat

/-- A message discarded and counted in DISCARD of the port (R294). -/
def State.discardPtp (s : State) (p : Nat) : State := s.sat .dtm_port_cfg_discard p

/-! ## TRIG pins -/

/-- A TRIG pin. -/
def State.trig (s : State) (i : Nat) : Trig := Tbl.get {} s.datum.trigs i

/-- A TRIG pin changed by `f`. -/
def State.modTrig (s : State) (i : Nat) (f : Trig → Trig) : State :=
  { s with datum := { s.datum with trigs := Tbl.modify {} s.datum.trigs i f } }

/-- The oldest edge shown in DTM_TRIG_TS, and FILL (R314). -/
def State.showTrig (s : State) (i : Nat) : State :=
  let q := (s.trig i).fifo
  let s1 := s.wr .dtm_trig_cfg_fill i q.length
  match q with
  | [] => s1.wrBit .dtm_trig_ts_valid i false
  | e :: _ =>
    let d := timeOf e.1
    ((s1.wrBit .dtm_trig_ts_pol i e.2).wrBit .dtm_trig_ts_valid i true).wr .dtm_trig_ts_time i
      (d.sub + d.ns * 2 ^ 16 + d.sec * 2 ^ 48)

/-- A START put in force (R313): it replaces a pulse not yet begun; one that lies less than 1 µs after the module's time
issues no pulse and sets LATE. -/
def State.setStart (s : State) (i start : Nat) : State :=
  let ok := s.datum.t + 1000 * tickNs ≤ start
  let s1 := s.modTrig i (fun x => { x with start := start, pulses := 0, armed := ok })
  if ok then s1 else (s1.wrBit .dtm_trig_cfg_late i true).dtmEvent 5

/-- Whether WIDTH or PERIOD breaks R313 for a mode. -/
def widthBad (mode period width : Nat) : Bool :=
  (2 ≤ mode && mode ≤ 4 && width < 20) || (mode == 3 && period < width + 20)

/-! ## Expert writes -/

/-- A discarded write of an RWE or RWP field recorded as source 0x39 (R10). -/
def State.noteDiscard (s : State) (off : Nat) : State := s.report { src := 0x39, objKind := 11, obj := off, mbx := 0 }

/-- A write to an RWE field at offset `off`: acted on while an unlock of MB0 covers it; otherwise discarded and recorded as
source 0x39 (R9, R10, R394). -/
def State.expertWrite (s : State) (off : Nat) (f : Fid) (i : Nat) (effect : State → State) : State :=
  if s.covers off f i then effect s else s.noteDiscard off

end Sys2Proof.Machine
end

