-- ==== Sys2Proof/Machine/Datum.lean ====
section
/-! DEFINITION. Datum's messages, pins, commands and register steps (file 10), but those that touch loops and precision
windows (DatumGrid.lean). -/

namespace Sys2Proof.Machine

/-! ## PTP messages (R294) -/

/-- Whether a message of the profile reaches the slave port of its domain. -/
def State.atSlave (s : State) (p ty : Nat) (m : Ptp) : Bool := ptpProfile m ty && decide (s.slavePort m.domain = some p)

/-- A complete Sync of a domain: its origin time with corrections and the link delay, less its ingress time (R298). A source that it
shows usable again is acquired (R304). -/
def State.takeSync (s : State) (p : Nat) (m : Ptp) (ingress : Nat) (corr : Int) : State :=
  let next := match (s.dom m.domain).lastSeq with | some q => (q + 1) % 65536 == m.seq | none => false
  let s1 := (s.takeOffset m.domain ((m.origin : Int) + corr + s.linkDelay p - ingress) next).modDom m.domain (fun x =>
    { x with lastSeq := some m.seq })
  if s1.usable m.domain then s1.acquire m.domain else s1

/-- SYNC_RECEIVED (R294, R295): a one-step Sync updates its domain; a two-step Sync waits for its Follow_Up. -/
def execSyncReceived (port : Fin 4) (m : Ptp) (ingress : Nat) (s : State) : Result :=
  let t := s.ingressAt port ingress
  .next (if s.atSlave port 0 m then
    if m.twoStep then s.modDom m.domain (fun x => { x with awaiting := some (m.seq, t, m.corr) })
    else s.takeSync port m t m.corr
  else s.discardPtp port)

/-- FOLLOW_UP_RECEIVED (R294): completes the two-step Sync of the same sequence. -/
def execFollowUpReceived (port : Fin 4) (m : Ptp) (s : State) : Result :=
  .next (if s.atSlave port 8 m then
    match (s.dom m.domain).awaiting with
    | some (q, t, c) =>
      if q = m.seq then (s.modDom m.domain (fun x => { x with awaiting := none })).takeSync port m t (c + m.corr) else s
    | none => s
  else s.discardPtp port)

/-- ANNOUNCE_RECEIVED (R294, R298): the grandmaster's class, identity, UTC offset and traceability; a source that becomes usable
is acquired. -/
def execAnnounceReceived (port : Fin 4) (m : Ptp) (s : State) : Result :=
  .next (if s.atSlave port 0xB m then
    let s1 := s.modDom m.domain (fun x => { x with
      gmClass := m.gmClass, gmId := m.gmId, utc := m.utc, traceable := m.traceable, announced := true, annAt := s.datum.t })
    if s1.usable m.domain then s1.acquire m.domain else s1
  else s.discardPtp port)

/-- DELAY_REQ_RECEIVED (R294): discarded and counted. -/
def execDelayReqReceived (port : Fin 4) (s : State) : Result := .next (s.discardPtp port)

/-- Whether a port measures its link delay: it is not disabled in both domains (R293), or it is an end of the standby link (R335). -/
def State.pdelayOn (s : State) (p : Nat) : Bool := s.ptpRole 0 p != 0 || s.ptpRole 1 p != 0 || s.role p == 3

/-- The domain that a port's Pdelay_Req names: 1 where only that domain uses the port, otherwise 0 (DESIGN CHOICE: the link delay is
the port's, and the manual names no domain for it). -/
def State.pdelayDomain (s : State) (p : Nat) : Nat := if s.ptpRole 0 p = 0 ∧ s.ptpRole 1 p ≠ 0 then 1 else 0

/-- PDELAY_REQ_RECEIVED (R293, R294, R297): answered, where the port measures its link delay, with Pdelay_Resp and, unless its
egress timestamp is dropped, with its follow-up. -/
def execPdelayReqReceived (port : Fin 4) (m : Ptp) (ingress egress : Nat) (s : State) : Result :=
  .next (if ptpProfile m 2 = false ∨ s.pdelayOn port = false then s.discardPtp port
  else if !s.ptpRoom port then s
  else
    let s1 := s.sendPtp port { msgType := 3, domain := m.domain, seq := m.seq, twoStep := true, origin := s.ingressAt port ingress }
    let (s2, kept) := s1.pushTsq port ⟨m.seq, 3, m.domain, s.egressAt port egress⟩
    if kept then
      s2.sendPtp port { msgType := 0xA, domain := m.domain, seq := m.seq, origin := s.egressAt port egress }
    else s2)

/-- PDELAY_TRANSMIT (R293, R294, R297): each Pdelay interval, 2^(PD_EXP − 4) s, a Pdelay_Req leaves a port that is not disabled; a
dropped egress timestamp costs the measurement. -/
def execPdelayTransmit (port : Fin 4) (egress : Nat) (s : State) : Result :=
  let d := s.pdelayDomain port
  .next (if s.pdelayOn port ∧ s.ptpRoom port ∧ s.sendDue port 2 (oneSecond * 2 ^ s.rd .dtm_port_cfg_pd_exp port / 16) then
    let q := (s.pp port).nextPdelay
    let s1 := s.sendPtp port { msgType := 2, domain := d, seq := q }
    let (s2, kept) := s1.pushTsq port ⟨q, 2, d, s.egressAt port egress⟩
    s2.modPp port (fun x => { x.note 2 s.datum.t with
      nextPdelay := (q + 1) % 65536
      reqOpen := some (q, if kept then some (s.egressAt port egress) else none)
      resp := none })
  else s)

/-- PDELAY_RESP_RECEIVED (R294): the responder's receipt time and our ingress time of the open exchange. -/
def execPdelayRespReceived (port : Fin 4) (m : Ptp) (ingress : Nat) (s : State) : Result :=
  .next (if !ptpProfile m 3 then s.discardPtp port
  else match (s.pp port).reqOpen with
  | some (q, some _) =>
    if q = m.seq then s.modPp port (fun x => { x with resp := some (q, m.origin, s.ingressAt port ingress) }) else s
  | _ => s)

/-- The neighbour rate ratio from successive responses (R294): 1 before there are two. -/
def rateRatio (last : Option (Nat × Nat)) (t3 t4 : Nat) : Rat :=
  match last with
  | some (a, b) => if t4 = b then 1 else ((t3 : Rat) - a) / ((t4 : Rat) - b)
  | none => 1

/-- PDELAY_RESP_FOLLOW_UP_RECEIVED (R294): completes a link-delay exchange; the latest 8 are kept and LINK_DLY is their median
once 4 are valid. -/
def execPdelayRespFollowUpReceived (port : Fin 4) (m : Ptp) (s : State) : Result :=
  .next (if !ptpProfile m 0xA then s.discardPtp port
  else match (s.pp port).reqOpen, (s.pp port).resp with
  | some (q, some t1), some (q2, t2, t4) =>
    if q = m.seq ∧ q2 = m.seq then
      let t3 := m.origin
      let delay := ((((t4 : Rat) - t1) * rateRatio (s.pp port).lastResp t3 t4 - ((t3 : Rat) - t2)) / 2).floor
      let s1 := s.modPp port (fun x => { x with
        delays := (delay :: x.delays).take 8, reqOpen := none, resp := none, lastResp := some (t3, t4) })
      s1.wr .dtm_linkdly_link_dly port (ps32 (psOfTicks (s1.linkDelay port)))
    else s
  | _, _ => s)

/-- SYNC_TRANSMIT (R293, R294, R296, R297): each Sync interval a master port sends Sync, with its origin time in one step, or with a
Follow_Up whose timestamp has been kept. -/
def execSyncTransmit (port : Fin 4) (domain : Fin 2) (egress : Nat) (s : State) : Result :=
  .next (if s.ptpRole domain port = 1 ∧ s.ptpRoom port ∧
      s.sendDue port domain (oneSecond / 2 ^ s.rd .dtm_port_cfg_log_sync port) then
    let q := (s.pp port).nextSync
    let t := s.egressAt port egress
    let s1 := s.modPp port (fun x => { x.note domain s.datum.t with nextSync := (q + 1) % 65536 })
    if s.bit .dtm_port_cfg_one_step port then
      s1.sendPtp port { msgType := 0, domain := domain, seq := q, origin := s.serve domain t }
    else
      let s2 := s1.sendPtp port { msgType := 0, domain := domain, seq := q, twoStep := true }
      let (s3, kept) := s2.pushTsq port ⟨q, 0, domain, t⟩
      if kept then s3.sendPtp port { msgType := 8, domain := domain, seq := q, origin := s.serve domain t } else s3
  else s)

/-- The clockClass that a domain announces (R294): the grandmaster's while LOCKED, 7 in HOLDOVER, 248 otherwise. A LOCKED domain on
PPS_IN has no grandmaster that announces a class, and the manual states none: a free value. -/
def State.clockClass (s : State) (d : Nat) : Nat :=
  match s.domState d with
  | 3 => if s.srcOf d = 2 then s.freeVal % 256 else (s.dom d).gmClass
  | 4 => 7
  | _ => 248

/-- ANNOUNCE_TRANSMIT (R293, R294): each second a master port sends Announce; timeTraceable only while the domain is LOCKED. -/
def execAnnounceTransmit (port : Fin 4) (domain : Fin 2) (s : State) : Result :=
  .next (if s.ptpRole domain port = 1 ∧ s.ptpRoom port ∧ s.sendDue port (4 + domain) oneSecond then
    let q := (s.pp port).nextAnnounce
    let m : Ptp := {
      msgType := 0xB, domain := domain, seq := q, gmClass := s.clockClass domain
      gmId := (s.dom domain).gmId
      utc := (s.dom domain).utc
      traceable := s.domState domain == 3 }
    ((s.useFree).modPp port (fun x => { x.note (4 + domain) s.datum.t with nextAnnounce := (q + 1) % 65536 })).sendPtp port m
  else s)

/-! ## States (R298 to R307) -/

/-- SOURCE_LOST (R299, R306, R307): a source that a row of R299, with `timeout` one of its timeouts, makes lost. A LOCKED Datum P with AUTO_S switches to Datum S at the next frame
boundary if R307 allows it; a LOCKED or SLEWING one otherwise enters HOLDOVER. -/
def execSourceLost (domain : Fin 2) (timeout : Bool) (s : State) : Result :=
  let d := domain.val
  let st := s.domState d
  .next (if (if timeout then s.sourceLate d else s.sourceFails d) = false ∨ st = 0 ∨ st = 4 then s
  else if d = s.pDom ∧ st = 3 ∧ s.bit .dtm_ctrl_auto_s 0 ∧ s.canSwitch then
    let t := s.modDom d (fun x => { x.cleared with noSync := s.srcOf d == 1 && s.syncTimeout d })
    { t with datum := { t.datum with switchDue := some (s.datum.switchDue.getD []) } }
  else s.lose d)

/-- DATUM_ACQUIRED (R298, R300, R304): with 8 Syncs or edges in a row, and for a chain source 4 link-delay exchanges, ACQUIRING
ends. The first time after POR or DRST, and for a RESTEP, Datum P plans a grid step; otherwise it slews where the offset
is within STEP_LIMIT, and else holds with BIG_OFS. -/
def execDatumAcquired (s : State) : Result :=
  let d := s.pDom
  let x := s.dom d
  let todOk := s.srcOf d != 2 || x.tod.isSome
  .next (if s.rd .dtm_status_p_state 0 = 1 ∧ 8 ≤ x.valid ∧ s.delayKnown d = true ∧ todOk = true ∧ s.datum.stepPlan = none then
    let s1 := s.modDom d (fun y => { y with acquired := true })
    let s2 := { s1 with datum := { s1.datum with firstDone := true } }
    if s.datum.firstDone = false ∨ s.datum.stepWanted = true then s2.planStep x.offset
    else if |x.offset| ≤ ((s.rd .dtm_step_limit_step_limit 0 * 65536 : Nat) : Int) then s2.runP 2
    else (s2.setP 4).wrBit .dtm_status_big_ofs 0 true
  else s)

/-- Whether the upstream of a domain is traceable (R298, R306): as it announces; PPS_IN announces nothing. -/
def State.traced (s : State) (d : Nat) : Bool := s.srcOf d == 2 || (s.dom d).traceable

/-- DATUM_LOCKED (R298, R302, R306): sixteen Syncs or edges in a row within LOCK_THR with a traceable upstream make Datum P
LOCKED; for Datum S sixteen with a valid offset estimate, after the run of eight that ends ACQUIRING. -/
def execDatumLocked (s : State) : Result :=
  let p := s.dom s.pDom
  let q := s.dom (1 - s.pDom)
  let s1 := if s.rd .dtm_status_p_state 0 = 2 ∧ 16 ≤ p.within ∧ s.traced s.pDom = true then s.runP 3 else s
  .next (if s1.rd .dtm_status_s_state 0 = 1 ∧ 8 ≤ q.valid ∧ 16 ≤ q.good ∧ s.traced (1 - s.pDom) = true then
    (s1.modDom (1 - s.pDom) (fun x => { x with acquired := true })).setS 3 else s1)

/-! ## PPS pins (R310, R311) -/

/-- A PPS edge for one domain (R311): the time of day applies to the first edge at least 10 ms after SET_TOD, and each later edge is
one second later. An edge that Datum P meets SLEWING or LOCKED more than 1 µs from its second by the module's clock counts toward a
loss (R299). -/
def State.ppsEdge (s : State) (d t : Nat) : State :=
  if s.srcOf d ≠ 2 then s
  else
    let next := !s.syncTimeout d
    let s0 := (s.acquire d).modDom d (fun x => { x with syncAt := s.datum.t })
    match (s.dom d).tod with
    | none => s0
    | some sec =>
      if t < (s.dom d).todAt + 10000000 * tickNs then s0
      else
        let delta := ((sec * 1000000000 * 65536 : Nat) : Int) - t
        let runs := s.domState d == 2 || s.domState d == 3
        let s1 := s0.modDom d (fun x => { x with
          tod := some (sec + 1), late := if runs ∧ 1000 * 65536 < |delta| then x.late + 1 else 0 })
        s1.takeOffset d delta next

/-- PPS_IN_EDGE (R311): a rising edge, timestamped after adding PPS_IN_DLY. -/
def execPpsInEdge (ingress : Nat) (s : State) : Result :=
  let t := ((ingress : Int) + ticksOfPs (signed 32 (s.rd .dtm_pps_in_dly_dly 0))).toNat
  .next ((s.ppsEdge 0 t).ppsEdge 1 t)

/-- PPS_OUT_PULSE (R310): PPS_OUT rises at a whole second plus OUT_OFS that falls in this frame, unless PPS_GATE is 1 and Datum
P is not LOCKED; WIDTH 0 acts as 1 ms, above 500 as 500. -/
def execPpsOutPulse (s : State) : Result :=
  let sec : Int := 1000000000 * 65536
  let ofs := signed 16 (s.rd .dtm_pps_cfg_out_ofs 0) * 65536
  let start := -(-((s.datum.t : Int) - ofs) / sec) * sec + ofs
  let width := max 1 (min 500 (s.rd .dtm_pps_cfg_width 0)) * 1000000
  .next (if start < (s.datum.t : Int) + tickFrame ∧ (s.bit .dtm_ctrl_pps_gate 0 = false ∨ s.locked = true) then
    s.emit (.pulse 4 start.toNat width) else s)

/-! ## TRIG pins (R312, R313, R314) -/

/-- TRIG_OUTPUT_PULSE (R312): the pulse of an output pin that falls in this frame. -/
def execTrigOutputPulse (pin : Fin 4) (s : State) : Result :=
  let x := s.trig pin
  let mode := s.rd .dtm_trig_cfg_mode pin
  let start := if mode = 3 then x.start + x.pulses * s.rd .dtm_trig_pw_period pin * 65536 else x.start
  .next (if 2 ≤ mode ∧ mode ≤ 4 ∧ x.armed = true ∧ s.datum.t ≤ start ∧ start < s.datum.t + tickFrame then
    (s.modTrig pin (fun y => { y with pulses := y.pulses + 1, armed := mode == 3 })).emit
      (.pulse pin start (s.rd .dtm_trig_pw_width pin))
  else s)

/-- TRIG_TS_READ (R314): reading the high word of DTM_TRIG_TS removes the oldest edge timestamp. -/
def execTrigTsRead (pin : Fin 4) (s : State) : Result :=
  .next ((s.modTrig pin (fun x => { x with fifo := x.fifo.drop 1 })).showTrig pin)

/-- TRIG_START_WRITE (R288, R313): writing the high word puts the new START in force; a value with NS above 999,999,999 is
discarded. -/
def execTrigStartWrite (pin : Fin 4) (start : DTime) (s : State) : Result :=
  let off := 0x30410 + 0x40 * pin.val
  .next (if timeOk start = false then s.noteDiscard off
  else s.expertWrite off .dtm_trig_start_ns pin (fun s =>
    let s1 := ((s.wr .dtm_trig_start_subns pin start.sub).wr .dtm_trig_start_ns pin start.ns).wr .dtm_trig_start_sec pin start.sec
    if s.rd .dtm_trig_cfg_mode pin = 2 ∨ s.rd .dtm_trig_cfg_mode pin = 3 then s1.setStart pin (ticksOf start) else s1))

/-- TSQ_POP_READ (R297): reading the high word of DTM_TSQ_POP removes the oldest transmit timestamp. -/
def execTsqPopRead (port : Fin 4) (s : State) : Result :=
  .next ((s.modPp port (fun x => { x with tsq := x.tsq.drop 1 })).showTsq port)

/-- DTM_TIME_LATCH (R290): reading the low word of DTM_TIME latches DTM_TIME and DTM_FRAME together. -/
def execDtmTimeLatch (s : State) : Result :=
  let d := timeOf s.datum.t
  .next ((((s.wr .dtm_time_subns 0 d.sub).wr .dtm_time_ns 0 d.ns).wr .dtm_time_sec 0 d.sec).wr .dtm_frame_f 0 s.frame)

/-- P_DOM_WRITE (R307): a change of P_DOM acts as SELECT. -/
def execPDomWrite (v : Fin 2) (s : State) : Result :=
  .next (s.expertWrite 0x30000 .dtm_ctrl_p_dom 0 (fun s =>
    let s1 := s.wr .dtm_ctrl_p_dom 0 v
    if v.val ≠ s.pDom ∧ s.canSwitch ∧ s.datum.stepPlan = none then
      { s1 with datum := { s1.datum with switchDue := some (s1.datum.switchDue.getD []) } }
    else s1))

/-! ## Commands (R315, R316) -/

/-- A change of a domain's source (R304): what was collected and announced is void, and a LOCKED or SLEWING domain passes to ACQUIRING
on the new source. With no source there is none to acquire on (R298): a domain that has acquired is in HOLDOVER, another FREE. -/
def State.resource (s : State) (d : Nat) : State :=
  let st := s.domState d
  let s1 := s.modDom d (fun x => { x.cleared with
    gmClass := 0, gmId := 0, utc := 0, traceable := false, noSync := false, syncAt := s.datum.t, annAt := s.datum.t })
  if s.srcOf d = 0 then (if st = 0 ∨ st = 4 then s1 else s1.lose d)
  else if st = 2 ∨ st = 3 then s1.setDom d 1
  else s1

/-- DATUM_CFG CONFIG (R315): the sources of both domains and the PTP parameters of a port. -/
def execDatumCfgConfig (h : Hdr) (port src0 port0 src1 port1 oneStep logSync pdExp asymIn asymEg : Nat) (s : State) : Result :=
  .next (s.checked h
    [(3 < port || 2 < src0 || 3 < port0 || 2 < src1 || 3 < port1 || 1 < oneStep || 7 < logSync || 7 < pdExp
        || (src0 == 1 && src1 == 1 && port0 == port1), .invalidField),
     (h.mbx != 0, .notPermitted)]
    (fun s =>
      let ch0 := src0 != s.rd .dtm_ctrl_src0 0 || (src0 == 1 && port0 != s.rd .dtm_ctrl_port0 0)
      let ch1 := src1 != s.rd .dtm_ctrl_src1 0 || (src1 == 1 && port1 != s.rd .dtm_ctrl_port1 0)
      let s1 := (((s.wr .dtm_ctrl_src0 0 src0).wr .dtm_ctrl_port0 0 port0).wr .dtm_ctrl_src1 0 src1).wr .dtm_ctrl_port1 0 port1
      let s2 := ((s1.wr .dtm_port_cfg_one_step port oneStep).wr .dtm_port_cfg_log_sync port logSync).wr
        .dtm_port_cfg_pd_exp port pdExp
      let s3 := (s2.wr .dtm_asym_asym_in port asymIn).wr .dtm_asym_asym_eg port asymEg
      let s4 := if ch0 then s3.resource 0 else s3
      let s5 := if ch1 then s4.resource 1 else s4
      s5.showPtpRoles.status h .ok))

/-- DATUM_CFG SELECT (R307, R315): makes the named domain Datum P at the next frame boundary; it completes at the switch. A
domain that already is Datum P completes with OK. -/
def execDatumCfgSelect (h : Hdr) (domain : Nat) (s : State) : Result :=
  .next (s.checked h
    [(1 < domain, .invalidField), (h.mbx != 0, .notPermitted), (s.datum.stepPlan.isSome, .busy),
     (domain != s.pDom && !s.canSwitch, .datumUnlocked)]
    (fun s =>
      let s1 := s.wr .dtm_ctrl_p_dom 0 domain
      if domain = s.pDom then s1.status h .ok
      else
        let s2 := s1.entered h
        { s2 with datum := { s2.datum with switchDue := some (s2.datum.switchDue.getD [] ++ [s2.ownerOf h]) } }))

/-- DATUM_CFG SET_TOD (R311, R315): SEC for the next PPS_IN edge, of every domain whose source is PPS_IN. -/
def execDatumCfgSetTod (h : Hdr) (sec : Nat) (s : State) : Result :=
  .next (s.checked h
    [(2 ^ 48 ≤ sec, .invalidField), (h.mbx != 0 || (s.srcOf 0 != 2 && s.srcOf 1 != 2), .notPermitted)]
    (fun s =>
      let give (s : State) (d : Nat) : State :=
        if s.srcOf d = 2 then s.modDom d (fun x => { x with tod := some sec, todAt := s.datum.t }) else s
      ((give (give s 0) 1).wrBit .dtm_status_tod_set 0 true).status h .ok))

/-- DATUM_CFG LIMITS (R315). -/
def execDatumCfgLimits (h : Hdr) (lockThr slewMax swLimit stepLimit servoBw autoS ppsGate : Nat) (s : State) : Result :=
  .next (s.checked h
    [(255 < lockThr || 255 < slewMax || 65535 < swLimit || 2 ^ 32 ≤ stepLimit || 7 < servoBw || 1 < autoS || 1 < ppsGate,
        .invalidField),
     (h.mbx != 0, .notPermitted)]
    (fun s =>
      let s1 := ((s.wr .dtm_limits_lock_thr 0 lockThr).wr .dtm_limits_slew_max 0 slewMax).wr .dtm_limits_sw_limit 0 swLimit
      let s2 := ((s1.wr .dtm_step_limit_step_limit 0 stepLimit).wr .dtm_ctrl_servo_bw 0 servoBw).wr .dtm_ctrl_auto_s 0 autoS
      (s2.wr .dtm_ctrl_pps_gate 0 ppsGate).status h .ok))

/-- HOLD_TIME in ms, saturating; 0 outside HOLDOVER (R303, R316). -/
def State.holdTime (s : State) : Nat :=
  match s.datum.heldSince with
  | some t => min (2 ^ 32 - 1) ((s.datum.t - t) / (1000000 * tickNs))
  | none => 0

/-- The 64-byte Datum status record (R316). -/
def State.datumRecord (s : State) : List Nat :=
  let d := s.dom s.pDom
  let pps := s.srcOf s.pDom == 2
  timeBytes12 s.datum.t ++ leBytes 8 s.frame
    ++ [s.rd .dtm_status_p_state 0 + 8 * s.rd .dtm_status_s_state 0 + 64 * s.pDom + 128 * s.rd .dtm_status_step_pend 0,
        bit01 s.datum.stepped + 2 * s.rd .dtm_status_big_ofs 0 + 4 * s.rd .dtm_status_tod_set 0]
    ++ leBytes 2 s.datum.steps ++ leBytes 4 (s.rd .dtm_offset_offset_p 0)
    ++ leBytes 4 (s.rd .dtm_offset_offset_s 0) ++ leBytes 8 (unsigned 64 (signed 40 (s.rd .dtm_rate_rho 0)))
    ++ leBytes 8 (if pps then 0 else d.gmId) ++ [d.gmClass % 256, 0] ++ leBytes 2 d.utc ++ leBytes 4 s.holdTime
    ++ leBytes 4 (match s.slavePort s.pDom with | some p => s.rd .dtm_linkdly_link_dly p | none => 0) ++ [0, 0, 0, 0]

/-- DATUM_STATUS (R316). -/
def execDatumStatus (h : Hdr) (buf : Nat) (s : State) : Result :=
  .next (s.checked h [(s.badBuf h buf 16 64, .invalidField)]
    (fun s => (s.hostWrite h buf s.datumRecord).status h .ok))

end Sys2Proof.Machine
end

