-- ==== Sys2Proof/Machine/FabricOps.lean ====
section
/-! DEFINITION. The fabric: links going up and down, HELLO, the ring and its cut, routes, and exploration
(R319 to R338). -/

namespace Sys2Proof.Machine

/-- The fabric beside its registers changed by `f`. -/
def State.modFab (s : State) (f : FabSt → FabSt) : State := { s with fab := f s.fab }

/-! ## HELLO (R321) -/

/-- HELLO sent out a port. -/
def State.sendHello (s : State) (p : Nat) : State :=
  (s.modPort p (fun x => { x with helloAt := s.loop.frames })).sendOn p 1 (.hello Config.uid s.addr p (s.role p) s.fab.epoch s.fab.blockHi (s.rd .chp_fab_count_depth 0))

/-! ## Roles and ranges -/

/-- A port given a role and the range that it leads to; a range only for DOWN. -/
def State.setRoute (s : State) (p role lo hi : Nat) : State :=
  ((s.setRole p role).wr .chp_range_lo p (if role = 2 then lo else 0)).wr .chp_range_hi p (if role = 2 then hi else 0)

/-- A port whose neighbour is not part of the tree as enumerated: BLOCKED and reported (R330, R333). -/
def State.blockPort (s : State) (p : Nat) : State :=
  ((s.setRoute p 4 0 0).chpEvent p 7).report { src := 0x31, objKind := 4, obj := p, detail := 7 }

/-- Datum follows its current UP ring port (R338): a domain whose slave port has changed loses its source. -/
def State.rewire (s : State) (before : State) : State :=
  [0, 1].foldl (fun s d =>
    if s.srcOf d = 1 ∧ s.slavePort d ≠ before.slavePort d ∧ s.domState d ≠ 0 then s.lose d else s) s.showPtpRoles

/-! ## The ring (R335, R336) -/

/-- The address at a ring position; position 0 is the root. -/
def ringAddr (l : List (Nat × Nat)) (i : Nat) : Nat := (l.getD (i % l.length) (0, 0)).1

/-- This module's position in the ring list. -/
def State.ringPos (s : State) : Nat := (s.fab.ring.findIdx? (fun x => x.1 == s.addr)).getD 0

/-- The first and last address of the blocks at positions `a` to `b` of a ring list (R335). -/
def ringSpan (l : List (Nat × Nat)) (a b : Nat) : Nat × Nat :=
  (ringAddr l a, if b + 1 = l.length then (l.getD b (0, 0)).2 else ringAddr l (b + 1) - 1)

/-- The entry ring port of this module, toward the position before it: the root's CP1, otherwise the port to its parent. -/
def State.entryPort (s : State) : Nat := if s.bit .chp_fab_root 0 then 1 else s.fab.parentPort % 2

/-- The onward ring port: the root's CP0, otherwise the ring port that is not the entry port. -/
def State.onwardPort (s : State) : Nat := 1 - s.entryPort

/-- The index of the ring link at a ring port of this module: link j joins position j to the next one. -/
def State.linkAt (s : State) (p : Nat) : Nat :=
  let k := s.fab.ring.length
  if p = s.onwardPort then s.ringPos else (s.ringPos + k - 1) % k

/-- A ring port leads away over the positions `a` to `b`; where there are none, it is at the cut and STANDBY. -/
def State.ringDown (s : State) (p a b : Nat) : State :=
  if b < a then s.setRoute p 3 0 0
  else s.setRoute p 2 (ringSpan s.fab.ring a b).1 (ringSpan s.fab.ring a b).2

/-- The ring routes of this module for the cut in force (R336). -/
def State.setRingRoutes (s : State) : State :=
  let c := s.fab.cut
  let k := s.fab.ring.length
  let p := s.ringPos
  if s.bit .chp_fab_root 0 then (s.ringDown 0 1 c).ringDown 1 (c + 1) (k - 1)
  else if p ≤ c then (s.setRoute s.entryPort 1 0 0).ringDown s.onwardPort (p + 1) c
  else (s.setRoute s.onwardPort 1 0 0).ringDown s.entryPort (c + 1) (p - 1)

/-- The cut shown: its lower and higher address (CHP_RING). -/
def State.showCut (s : State) : State :=
  let a := ringAddr s.fab.ring s.fab.cut
  let b := ringAddr s.fab.ring (s.fab.cut + 1)
  (s.wr .chp_ring_cut_a 0 (min a b)).wr .chp_ring_cut_b 0 (max a b)

/-- The index of the ring link between two addresses. -/
def State.linkBetween (s : State) (a b : Nat) : Option Nat :=
  (List.range s.fab.ring.length).find? (fun j =>
    let x := ringAddr s.fab.ring j
    let y := ringAddr s.fab.ring (j + 1)
    (x == a && y == b) || (x == b && y == a))

/-! ## Depths and COMPLETE (R329, R338) -/

/-- The depth of each address from 1 on: the root 0, a ring module by its hops from the root on its side of the cut, any
other module one more than its parent, whose address is lower. -/
def depthsOf (topo : List TopoEntry) (ring : List (Nat × Nat)) (cut : Nat) : List Nat :=
  (List.range topo.length).foldl (fun acc i =>
    let a := i + 1
    let d := match ring.findIdx? (fun x => x.1 == a) with
      | some p => if p ≤ cut then p else ring.length - p
      | none =>
        match topo.find? (fun t => t.addr == a) with
        | some t => acc.getD (t.parent - 1) 0 + 1
        | none => 0
    acc ++ [d]) []

/-- The depths that one COMPLETE frame carries: 512 (DESIGN CHOICE: the manual gives COMPLETE no layout). -/
def depthsPerFrame : Nat := 512

/-- The root takes the depths of its topology and broadcasts COMPLETE in as many frames as it needs (R329, R338). -/
def State.announceDepths (s : State) : State :=
  let ds := depthsOf s.fab.topo s.fab.ring s.fab.cut
  let frames := max 1 ((ds.length + depthsPerFrame - 1) / depthsPerFrame)
  (List.range frames).foldl (fun s i =>
    s.send 2 0xFFFF (.enumComplete s.fab.epoch ds.length (i * depthsPerFrame)
      ((ds.drop (i * depthsPerFrame)).take depthsPerFrame) (if i = 0 then s.fab.ring else [])))
    (s.modFab (fun f => { f with depths := ds }))

/-- The root broadcasts the depths again after a wrap or a restoration (R338). -/
def State.rootAnnounce (s : State) : State := if s.bit .chp_fab_root 0 then s.announceDepths else s

/-! ## Wraps (R336) -/

/-- A WRAP that names the cut in force sent out a ring port past every queue (R347). -/
def State.wrapOn (s : State) (p : Nat) : State :=
  if s.portReady p then
    (s.sendWrap p (s.cairnOf 3 4 0 (.wrap s.fab.epoch (s.rd .chp_ring_cut_a 0) (s.rd .chp_ring_cut_b 0)))).useSeq 3
  else s

/-- A new cut adopted (R336): routes recomputed, Datum moved with the UP ring port, the WRAP sent on out port `out`. -/
def State.adoptCut (s : State) (j out : Nat) : State :=
  let s1 := ((s.modFab (fun f => { f with cut := j })).showCut.wrBit .chp_ring_status_cut_down 0 true).sat
    .chp_ring_status_wrap_cnt 0
  let s2 := (s1.setRingRoutes.chpEvent out 4).report { src := 0x31, objKind := 4, obj := out, detail := 4 }
  ((s2.rewire s).wrapOn out).rootAnnounce

/-! ## Isolation (R337) -/

/-- The module loses its path to the root. -/
def State.isolate (s : State) (p : Nat) : State :=
  if s.enumerated ∧ !s.bit .chp_fab_root 0 then
    ((s.wr .chp_fab_state 0 3).chpEvent p 5).report { src := 0x32, objKind := 4, obj := p }
  else s

/-- The module regains its path to the root (R333). -/
def State.rejoinFabric (s : State) (p : Nat) : State :=
  if s.rd .chp_fab_state 0 = 3 then
    ((s.wr .chp_fab_state 0 2).chpEvent p 6).report { src := 0x31, objKind := 4, obj := p, detail := 6 }
  else s

/-- Whether the ring link `j` lies on this module's path to the root. -/
def State.onPath (s : State) (j : Nat) : Bool :=
  !s.bit .chp_fab_root 0 && (if s.ringPos ≤ s.fab.cut then decide (j < s.ringPos) else decide (s.ringPos ≤ j))

/-! ## Links going up and down (R320) -/

/-- What a link-down decision of a port does to the fabric: in a ring the failed link becomes the cut where the cut is up;
while the cut is down a link on the path to the root isolates the module (R336, R337). `cutUp` says that the cut is up
again for a module that does not stand at it. -/
def State.ringLinkLost (s : State) (p : Nat) (cutUp : Bool) : State :=
  let j := s.linkAt p
  if j = s.fab.cut then s.wrBit .chp_ring_status_cut_down 0 true
  else if s.bit .chp_ring_status_cut_down 0 = false ∨ cutUp then s.adoptCut j (1 - p)
  else if s.onPath j then s.isolate p
  else s

/-- In a tree, or on a subtree port, the port leads nowhere until its neighbour is restored; the loss of the UP port isolates
the module (R337). -/
def State.treeLinkLost (s : State) (p : Nat) : State :=
  let up := s.role p == 1
  let s1 := if s.role p = 5 then s else s.setRoute p 0 0 0
  if up then s1.isolate p else s1

/-- A port whose link is one of the ring. -/
def State.isRingPort (s : State) (p : Nat) : Bool := s.bit .chp_fab_ring 0 && p ≤ 1 && s.fab.ring != []

/-- The link-down decision of a port (R320, R337): its queues are lost and counted, and the fabric follows. -/
def State.takeLinkDown (s : State) (p : Nat) (cutUp : Bool) : State :=
  if s.linkUp p = false then s
  else
    let s1 := (((s.wrBit .chp_status_link_up p false).wrBit .chp_status_hello_ok p false).sat .chp_status_link_dn_cnt p)
    let s2 := ((s1.emptyQueues p).chpEvent p 1).report { src := 0x30, objKind := 4, obj := p }
    let s3 := if s2.isRingPort p then s2.ringLinkLost p cutUp else s2.treeLinkLost p
    s3.showPtpRoles

/-- A port declares its link up and sends HELLO (R320, R321); at the cut, the failed link becomes the standby link (R336). -/
def State.takeLinkUp (s : State) (p : Nat) : State :=
  let s1 := ((s.wrBit .chp_status_link_up p true).chpEvent p 0).report { src := 0x30, objKind := 4, obj := p, detail := 1 }
  let s2 := if s1.isRingPort p ∧ s1.linkAt p = s1.fab.cut then s1.wrBit .chp_ring_status_cut_down 0 false else s1
  (s2.sendHello p).showPtpRoles

/-! ## Restoration (R333) -/

/-- What enumeration records of the neighbour of a port: its UID, its address, the port's role and range. -/
def State.remember (s : State) (p nAddr role lo hi : Nat) : State :=
  s.modPort p (fun x => { x with known := some (s.rd .chp_neigh_uid_uid p, nAddr, role, lo, hi) })

/-- A restored neighbour: the event, and COMPLETE again from the root (R333, R338). -/
def State.restored (s : State) (p : Nat) : State :=
  ((s.chpEvent p 6).report { src := 0x31, objKind := 4, obj := p, detail := 6 }).rootAnnounce.showPtpRoles

/-- A neighbour known from enumeration is back (R333): a child that announces its old address or 0 is DOWN again, in the second
case with an ASSIGN of its old address; the parent is UP again and the module leaves ISOLATED; in a ring the cut decides the
roles. -/
def State.restore (s : State) (p nAddr old role lo hi : Nat) : State :=
  let s1 := if s.isRingPort p then s.setRingRoutes else s.setRoute p role lo hi
  let assign (s : State) : State :=
    if role = 2 ∧ nAddr = 0 then
      s.sendOn p 2 (.enumAssign s.fab.epoch old (s.rd .chp_fab_count_depth 0 + 1) (bit01 (s.isRingPort p)))
    else s
  if role = 1 then (if nAddr = old then (s1.rejoinFabric p).restored p else s)
  else if nAddr = old ∨ nAddr = 0 then
    let s2 := assign s1
    (if s2.role p = 1 then s2.rejoinFabric p else s2).restored p
  else s

/-- What the first HELLO after link-up does in an enumerated module (R333): the recorded neighbour is restored; another one is
BLOCKED; a port with no record learns a child that names this module's epoch. A module left without an address beyond 2,000 blocks its
port to a neighbour that has blocked its own (R331). -/
def State.meet (s : State) (p uid nAddr nRole epoch blockHi : Nat) : State :=
  if s.addr = 0 ∧ s.rd .chp_fab_state 0 = 1 ∧ nRole = 4 ∧ epoch = s.fab.epoch then s.blockPort p
  else if s.addr = 0 ∨ s.rd .chp_fab_state 0 < 2 then s
  else match (s.port p).known with
    | some (u, old, role, lo, hi) => if u = uid then s.restore p nAddr old role lo hi else s.blockPort p
    | none =>
      if nRole = 1 ∧ epoch = s.fab.epoch ∧ s.addr < nAddr then
        (((s.setRoute p 2 nAddr blockHi).remember p nAddr 2 nAddr blockHi).modFab (fun f => { f with
          blockHi := max f.blockHi blockHi })).restored p
      else if nRole = 4 ∧ epoch = s.fab.epoch ∧ s.role p = 0 then s.blockPort p
      else if s.role p = 0 then s.blockPort p
      else s

/-! ## Exploration (R329, R330, R335) -/

/-- The ports in the order in which this module explores them: ascending, its UP port left out; in a ring the subtree ports
first and the onward ring port last (R330, R335). -/
def State.exploreOrder (s : State) : List Nat :=
  let ring := s.bit .chp_fab_ring 0
  let up := if s.bit .chp_fab_root 0 then none else some s.fab.parentPort
  (if ring then [2, 3, s.onwardPort] else [0, 1, 2, 3]).filter (fun p => decide (up ≠ some p))

/-- Whether the neighbour of a port closes the ring: this is the last ring module's onward port and the root's CP1 is there. -/
def State.closesRing (s : State) (p : Nat) : Bool :=
  s.bit .chp_fab_ring 0 && p == s.onwardPort && s.rd .chp_neigh_addr p == 1 && s.rd .chp_neigh_port p == 1
    && !s.bit .chp_fab_root 0

/-- The REPORT entry of this module (R332). -/
def State.ownEntry (s : State) (standby : Bool) : TopoEntry :=
  { addr := s.addr
    parent := s.fab.parentAddr
    uid := Config.uid
    ports := s.fab.parentPort + 4 * (if s.bit .chp_fab_root 0 then 0 else s.rd .chp_neigh_port s.fab.parentPort)
      + 16 * bit01 (s.bit .chp_fab_ring 0) + 32 * bit01 standby
    blockHi := s.fab.blockHi }

/-- An entry taken into the topology table, in address order. -/
def insertTopo (e : TopoEntry) : List TopoEntry → List TopoEntry
  | [] => [e]
  | x :: l => if e.addr < x.addr then e :: x :: l else if e.addr = x.addr then e :: l else x :: insertTopo e l

/-- The ring list that the root's topology gives (R335): the ring modules in address order, where the last one closes the
ring and there are two or more. -/
def ringOf (topo : List TopoEntry) : List (Nat × Nat) :=
  let l := topo.filter (fun t => t.ports.testBit 4)
  if l.any (fun t => t.ports.testBit 5) ∧ 2 ≤ l.length then l.map (fun t => (t.addr, t.blockHi)) else []

/-- The root's part of COMPLETE (R329, R331, R335): once every REPORT has come, the ring list is made, or refused above 48
ring modules, COMPLETE is broadcast and ENUMERATE completes. -/
def State.tryComplete (s : State) : State :=
  match s.fab.explore with
  | some x =>
    if s.bit .chp_fab_root 0 ∧ x.waiting = false ∧ x.port = none ∧ s.fab.topo.length = s.fab.blockHi then
      let ring := ringOf s.fab.topo
      let tooMany := 48 < ring.length
      let used := if tooMany then [] else ring
      let s1 := s.modFab (fun f => { f with ring := used, cut := used.length - 1, explore := none })
      let s2 := ((s1.wrBit .chp_fab_topo 0 (used != [])).wrBit .chp_fab_ring 0 (used != [])).wr .chp_ring_status_size 0
        used.length
      let s3 := if used = [] then s2 else
        ((s2.wrBit .chp_ring_status_cut_down 0 false).showCut).setRingRoutes
      let s4 := if tooMany then s3.blockPort 1 else s3
      let s5 := ((s4.wr .chp_fab_state 0 2).wr .chp_fab_count_count 0 s.fab.blockHi).wrBit .chp_fab_trunc 0 x.trunc
      let s6 := s5.announceDepths.showPtpRoles
      match x.owner with
      | some o => s6.finish o { status := if tooMany then .invalidField else .ok }
      | none => s6
    else s
  | none => s

/-- The end of this module's exploration: its block is known; the root waits for the REPORTs, any other module answers DONE
and sends its REPORT. -/
def State.endExplore (s : State) (x : Explore) (standby : Bool) : State :=
  let s1 := s.modFab (fun f => { f with blockHi := x.nextAddr - 1, explore := some { x with port := none } })
  if s1.bit .chp_fab_root 0 then
    (s1.modFab (fun f => { f with topo := insertTopo (s1.ownEntry false) f.topo })).tryComplete
  else
    let s2 := s1.modFab (fun f => { f with explore := none })
    let s3 := s2.sendOn s2.fab.parentPort 2 (.enumDone s2.fab.epoch s2.fab.blockHi x.trunc)
    s3.send 2 1 (.enumReport s3.fab.epoch (s3.ownEntry standby))

/-- Exploration goes on over the ports of `l`: a port whose link is down is skipped, a neighbour already enumerated is BLOCKED
or closes the ring, an address above 2,000 is not given, and else ASSIGN is sent and the port is being explored. -/
def State.exploreFrom (s : State) (x : Explore) (standby : Bool) : List Nat → State
  | [] => s.endExplore x standby
  | p :: l =>
    if s.portReady p = false then s.exploreFrom x standby l
    else if (s.port p).nEpoch = s.fab.epoch ∧ s.rd .chp_neigh_addr p ≠ 0 then
      if s.closesRing p then (s.setRoute p 3 0 0).exploreFrom x true l
      else (s.blockPort p).exploreFrom x standby l
    else if 2000 < x.nextAddr then (s.blockPort p).exploreFrom { x with trunc := true } standby l
    else
      (s.modFab (fun f => { f with explore := some { x with
          port := some p, busySeen := false, since := s.loop.frames } })).sendOn p 2
        (.enumAssign s.fab.epoch x.nextAddr (s.rd .chp_fab_count_depth 0 + 1)
          (bit01 (s.bit .chp_fab_ring 0 && p == s.onwardPort)))

/-- Exploration goes on after port `p`. -/
def State.exploreAfter (s : State) (x : Explore) (p : Nat) : State :=
  s.exploreFrom x false ((s.exploreOrder.dropWhile (fun q => q != p)).drop 1)

/-- What a new epoch clears in a module (R329): its address, every port role and range, what it knew of its neighbours, and
an enumeration of its own. -/
def State.clearFabric (s : State) (epoch : Nat) : State :=
  let s0 := match s.fab.explore with
    | some x => match x.owner with
      | some o => s.finish o { status := .internal }
      | none => s
    | none => s
  let s1 := (List.range 4).foldl (fun s p => (s.setRoute p 0 0 0).modPort p (fun x => { x with known := none })) s0
  let s2 := s1.modFab (fun f => { f with
    epoch := epoch, depths := [], topo := [], ring := [], cut := 0, explore := none, parentPort := 0, parentAddr := 0
    blockHi := 0 })
  let s3 := (((s2.wr .chp_fab_addr 0 0).wr .chp_fab_root 0 0).wr .chp_fab_topo 0 0).wr .chp_fab_state 0 1
  let s4 := (((s3.wr .chp_fab_ring 0 0).wr .chp_fab_trunc 0 0).wr .chp_fab_count_count 0 0).wr .chp_fab_count_depth 0 0
  ((((s4.wr .chp_ring_cut_a 0 0).wr .chp_ring_cut_b 0 0).wr .chp_ring_status_size 0 0).wr
    .chp_ring_status_cut_down 0 0).showPtpRoles

/-- BUSY sent again to the parent every 0.5 ms, 488 frames, while this module explores its subtree (R330). -/
def State.busyWork (s : State) : State :=
  match s.fab.explore with
  | some x =>
    if s.bit .chp_fab_root 0 ∨ s.loop.frames < x.busyAt + 488 then s
    else (s.modFab (fun f => { f with explore := some { x with busyAt := s.loop.frames } })).sendOn s.fab.parentPort 2
      (.enumBusy s.fab.epoch)
  | none => s

/-- CLEAR flooded on every port that is up but `except` (R329). -/
def State.floodClear (s : State) (epoch : Nat) (except : Option Nat) : State :=
  (List.range 4).foldl (fun s p =>
    if s.portReady p ∧ except ≠ some p then s.sendOn p 2 (.enumClear epoch) else s) s

end Sys2Proof.Machine
end

