-- ==== Sys2Proof/Machine/Chain.lean ====
section
/-! DEFINITION. The chain ports and the fabric (file 11): links, HELLO, test patterns, frames, enumeration and wraps. -/

namespace Sys2Proof.Machine

/-! ## Links (R320, R321) -/

/-- The status bits that a cause of link-down sets (CHP_STATUS). -/
def State.showCause (s : State) (p : Nat) (c : LinkCause) : State :=
  match c with
  | .lock => s.wrBit .chp_status_block_lock p false
  | .localFault => s.wrBit .chp_status_lf p true
  | .remoteFault => s.wrBit .chp_status_rf p true
  | .fec => s.wrBit .chp_status_fec_align p false
  | .hiBer => s.wrBit .chp_status_hi_ber p true
  | .disabled | .pattern => (s.wrBit .chp_status_block_lock p false).wrBit .chp_status_fec_align p false
  | .beyond => s

/-- LINK_UP (R320): a port that is enabled, with no test pattern, has held its lock without faults for LINK_HOLD. -/
def execLinkUp (port : Fin 4) (s : State) : Result :=
  let p := port.val
  .next (if s.linkUp p = true ∨ s.bit .chp_cfg_en p = false ∨ s.role p = 5 then s
  else
    let s1 := ((s.wrBit .chp_status_block_lock p true).wrBit .chp_status_hi_ber p false).wrBit .chp_status_lf p false
    ((s1.wrBit .chp_status_rf p false).wr .chp_status_fec_align p (s.rd .chp_cfg_fec p)).takeLinkUp p)

/-- LINK_DOWN (R320, R336, R337): the port's link goes down for the cause named; with `beyond`, this module instead loses its
path to the root further up ("together with its subtree"). `cutUp`: see ringLinkLost. -/
def execLinkDown (port : Fin 4) (cause : LinkCause) (cutUp : Bool) (s : State) : Result :=
  .next (match cause with
  | .beyond => if s.role port = 1 then s.isolate port else s
  | c => (s.showCause port c).takeLinkDown port cutUp)

/-- HELLO_TRANSMIT (R321): every 100 ms, 97,656 frames, while the link is up. -/
def execHelloTransmit (port : Fin 4) (s : State) : Result :=
  .next (if s.linkUp port ∧ (s.port port).helloAt + 97656 ≤ s.loop.frames then s.sendHello port else s)

/-- HELLO_RECEIVED (R321, R333): the neighbour is recorded; another UID on the same link restarts it; a first HELLO may restore a
neighbour. -/
def execHelloReceived (port : Fin 4) (uid addr nport role epoch blockHi depth : Nat) (s : State) : Result :=
  let p := port.val
  .next (if s.linkUp p = false then s
  else
    let changed : Bool := s.bit .chp_status_hello_ok p && uid != s.rd .chp_neigh_uid_uid p
    let s0 := if changed then ((s.chpEvent p 2).takeLinkDown p false).takeLinkUp p else s
    let first := !s0.bit .chp_status_hello_ok p
    let s1 := ((s0.wrBit .chp_status_hello_ok p true).wr .chp_neigh_uid_uid p uid).wr .chp_neigh_addr p addr
    let s2 := (s1.wr .chp_neigh_port p nport).modPort p (fun x => { x with
      nRole := role, nEpoch := epoch, nBlockHi := blockHi, nDepth := depth })
    if first = true ∨ s2.role p = 0 then s2.meet p uid addr role epoch blockHi else s2)

/-! ## Test patterns (R322 to R324) -/

/-- A pattern code: 6 and 7 act as 0 (R322). -/
def patternOf (c : Nat) : Nat := if 6 ≤ c then 0 else c

/-- Whether R323 lets a pattern be selected on a port: its role is UNUSED, BLOCKED or TEST, or the module is not enumerated. -/
def State.testAllowed (s : State) (p : Nat) : Bool :=
  s.role p == 0 || s.role p == 4 || s.role p == 5 || s.rd .chp_fab_state 0 == 0

/-- Whether a write of GEN and CHK selects a pattern. -/
def selects (gen chk : Nat) : Bool := patternOf gen != 0 || patternOf chk != 0

/-- GEN and CHK written (R322, R323): a pattern takes the link down and the role is TEST; both 0 end the test, with role
UNUSED; ERR restarts at 0. -/
def State.setPattern (s : State) (p gen chk : Nat) : State :=
  let s1 := ((s.wr .chp_prbs_cfg_gen p gen).wr .chp_prbs_cfg_chk p chk).wr .chp_prbs_status_err p 0
  let s2 := s1.wrBit .chp_prbs_status_lock p false
  if selects gen chk then ((s2.showCause p .pattern).takeLinkDown p false).setRoute p 5 0 0
  else if s2.role p = 5 then s2.setRoute p 0 0 0
  else s2

/-- PRBS_CFG_WRITE (R323): an expert write of GEN and CHK; a selection that R323 refuses leaves them and sets PRBS_REJ. -/
def execPrbsCfgWrite (port : Fin 4) (gen chk : Fin 8) (s : State) : Result :=
  .next (s.expertWrite (0x40028 + 0x4000 * port.val) .chp_prbs_cfg_gen port (fun s =>
    if selects gen chk = true ∧ s.testAllowed port = false then s.wrBit .chp_prbs_cfg_prbs_rej port true
    else s.setPattern port gen chk))

/-- PRBS_CHECKER_LOCK (R322): the checker locks after 64 error-free bits, and from then on counts `errors` into ERR. -/
def execPrbsCheckerLock (port : Fin 4) (errors : Nat) (s : State) : Result :=
  .next (if patternOf (s.rd .chp_prbs_cfg_chk port) = 0 then s
  else (s.wrBit .chp_prbs_status_lock port true).wr .chp_prbs_status_err port
    (min (2 ^ 32 - 1) (s.rd .chp_prbs_status_err port + errors)))

/-- INJ_ONE_WRITE (R324): inverts one pattern bit, or with no pattern the sync header of the next block. -/
def execInjOneWrite (port : Fin 4) (s : State) : Result :=
  .next (s.emit (.inject port (patternOf (s.rd .chp_prbs_cfg_gen port) == 0)))

/-- INJ_FCS_WRITE (R324): with no pattern, the next Cairn frame that the port sends has its FCS inverted. -/
def execInjFcsWrite (port : Fin 4) (s : State) : Result :=
  .next (if patternOf (s.rd .chp_prbs_cfg_gen port) = 0 then s.modPort port (fun x => { x with injFcs := true }) else s)

/-! ## Frames (R325 to R328, R334) -/

/-- A dropped frame counted in OTHER and reported (R328). -/
def State.dropOther (s : State) (p : Nat) : State :=
  (s.sat .chp_drop_cnt_other p).report { src := 0x33, objKind := 4, obj := p }

/-- A dropped frame counted in DEST and reported (R328, R334). -/
def State.dropDest (s : State) (p : Nat) : State :=
  (s.sat .chp_drop_cnt_dest p).report { src := 0x33, objKind := 4, obj := p }

/-- A frame that this module consumes: delivered, or with a bad FCS dropped and counted in FCS (R328). -/
def State.deliver (s : State) (p : Nat) (rx : RxInfo) (c : Cairn) : State :=
  if rx.fcsOk then s.emit (.delivered p c)
  else (s.sat .chp_err_cnt_fcs p).report { src := 0x33, objKind := 4, obj := p }

/-- A frame passed on out port `o`, one hop fewer; a bad FCS stays inverted (R326). -/
def State.passOn (s : State) (o : Nat) (rx : RxInfo) (c : Cairn) : State :=
  s.enqueue o false
    { frame := .cairn { c with hops := c.hops - 1 }, bytes := frameBytes (.cairn c), bad := !rx.fcsOk }

/-- A frame passed on out every DOWN port. -/
def State.passDown (s : State) (rx : RxInfo) (c : Cairn) : State :=
  (List.range 4).foldl (fun s o => if s.role o = 2 ∧ s.portReady o then s.passOn o rx c else s) s

/-- A broadcast (R334): toward the root with UPLEG set; from the root on, delivered and sent down. -/
def State.passBroadcast (s : State) (p : Nat) (rx : RxInfo) (c : Cairn) : State :=
  if c.upleg ∧ !s.bit .chp_fab_root 0 then
    match s.upPort with
    | some o => if o = p then s.dropDest p else if c.hops ≤ 1 then s.dropOther p else s.passOn o rx c
    | none => s.dropDest p
  else
    let d := { c with upleg := false }
    let s1 := s.deliver p rx d
    if 1 < c.hops then s1.passDown rx d
    else if (List.range 4).any (fun o => s.role o == 2 && s.portReady o) then s1.dropOther p
    else s1

/-- An addressed frame for another module (R334, R336): out the DOWN port whose range holds DST, else the UP port, never back
where it came from; at a down ring link it returns on the other ring port with WRAPPED set. -/
def State.passAddressed (s : State) (p : Nat) (rx : RxInfo) (c : Cairn) : State :=
  if c.hops ≤ 1 then s.dropOther p
  else match s.routePort c.dst with
    | none => s.dropDest p
    | some o =>
      if s.portReady o then (if o = p then s.dropDest p else s.passOn o rx c)
      else if s.isRingPort o ∧ s.portReady (1 - o) then s.passOn (1 - o) rx { c with wrapped := true }
      else s.dropDest p

/-- Whether R328 drops a frame whose header can be trusted: a wrong version, a reserved KIND, a TC that is not its KIND's, a LEN
beyond the frame. -/
def headerBad (rx : RxInfo) (c : Cairn) : Bool :=
  rx.version != 1 || c.kind == 0 || 8 < c.kind || !rx.lenOk
    || !(c.tc == kindTc c.kind || (c.kind == 5 && c.tc == 2))

/-- CAIRN_FRAME_RECEIVED (R328, R334): a frame is delivered here, passed on, or dropped and counted. One of EtherType 0x88F7 is a PTP
message, which has its own rows (R294). -/
def execCairnFrameReceived (port : Fin 4) (rx : RxInfo) (c : Cairn) (s : State) : Result :=
  let p := port.val
  .next (if s.linkUp p = false then s
  else if rx.etherType = 0x88F7 then s
  else if rx.etherType ≠ 0x88B5 ∨ rx.vlan ∨ 1518 < rx.bytes then s.dropOther p
  else if rx.hcrcOk = false then (s.sat .chp_err_cnt_hcrc p).report { src := 0x33, objKind := 4, obj := p }
  else if headerBad rx c then s.dropOther p
  else if c.src ≠ 0 ∧ c.src = s.addr then s.dropDest p
  else if c.kind = 1 ∨ c.kind = 3 ∨ c.dst = 0 then s.deliver p rx c
  else if c.dst = 0xFFFF then s.passBroadcast p rx c
  else if c.dst = s.addr then s.deliver p rx c
  else s.passAddressed p rx c)

/-! ## Enumeration (R329 to R333) -/

/-- ENUM_CLEAR (R329): a CLEAR of a new epoch is forwarded, and clears the address and every port role. -/
def execEnumClear (port : Fin 4) (epoch : Nat) (s : State) : Result :=
  .next (if epoch = s.fab.epoch then s else (s.clearFabric epoch).floodClear epoch (some port))

/-- ENUM_CLEAR_WAIT (R329): the root's wait of 2 ms ends and its exploration starts. -/
def execEnumClearWait (s : State) : Result :=
  .next (match s.fab.explore with
  | some x =>
    if x.waiting ∧ s.bit .chp_fab_root 0 ∧ x.since + framesIn 2000000 ≤ s.loop.frames then
      (s.modFab (fun f => { f with explore := some { x with waiting := false } })).exploreFrom
        { x with waiting := false } false s.exploreOrder
    else s
  | none => s)

/-- The address, depth and UP port that an ASSIGN gives (R329). -/
def State.takeAssign (s : State) (p src epoch addr depth topo : Nat) : State :=
  let s1 := (((s.wr .chp_fab_addr 0 addr).wr .chp_fab_count_depth 0 depth).wrBit .chp_fab_topo 0 (topo != 0)).wrBit
    .chp_fab_ring 0 (topo != 0 && p ≤ 1)
  let s2 := s1.modFab (fun f => { f with epoch := epoch, parentPort := p, parentAddr := src, blockHi := addr })
  (s2.setRoute p 1 0 0).remember p src 1 0 0

/-- ENUM_ASSIGN (R329, R330, R333): a cleared module takes the address, answers BUSY and explores its own ports; one that
lost its address takes its old one back without exploring; one that already has an address in this epoch answers again on
its UP port, and blocks any other port unless it closes the ring at the root's CP1. -/
def execEnumAssign (port : Fin 4) (src epoch addr depth topo : Nat) (s : State) : Result :=
  let p := port.val
  .next (if s.linkUp p = false then s
  else if s.addr ≠ 0 then
    if epoch ≠ s.fab.epoch then s
    else if s.role p = 1 then s.sendOn p 2 (.enumBusy epoch)
    else if s.bit .chp_fab_root 0 ∧ topo ≠ 0 ∧ p = 1 then s
    else s.blockPort p
  else if s.rd .chp_fab_state 0 = 1 then
    if epoch ≠ s.fab.epoch then s
    else
      let s1 := (s.takeAssign p src epoch addr depth topo).sendOn p 2 (.enumBusy epoch)
      s1.exploreFrom { waiting := false, port := none, busySeen := false, nextAddr := addr + 1, trunc := false, owner := none,
                         busyAt := s.loop.frames }
        false s1.exploreOrder
  else ((s.takeAssign p src epoch addr depth topo).wr .chp_fab_state 0 2).restored p)

/-- ENUM_BUSY (R330): the child being explored is alive. -/
def execEnumBusy (port : Fin 4) (epoch : Nat) (s : State) : Result :=
  .next (match s.fab.explore with
  | some x =>
    if epoch = s.fab.epoch ∧ x.port = some port.val then
      s.modFab (fun f => { f with explore := some { x with busySeen := true, since := s.loop.frames } })
    else s
  | none => s)

/-- ENUM_DONE (R329): the child's block is recorded, its port is DOWN, and exploration goes on. -/
def execEnumDone (port : Fin 4) (epoch hi : Nat) (trunc : Bool) (s : State) : Result :=
  let p := port.val
  .next (match s.fab.explore with
  | some x =>
    if epoch = s.fab.epoch ∧ x.port = some p then
      let s1 := (s.setRoute p 2 x.nextAddr hi).remember p x.nextAddr 2 x.nextAddr hi
      s1.showPtpRoles.exploreAfter { x with port := none, nextAddr := hi + 1, trunc := x.trunc || trunc } p
    else s
  | none => s)

/-- ENUM_ASSIGN_TIMEOUT (R330): the neighbour being explored has been silent for 1 ms; its port is UNUSED and exploration goes
on. -/
def execEnumAssignTimeout (port : Fin 4) (s : State) : Result :=
  let p := port.val
  .next (match s.fab.explore with
  | some x =>
    if x.port = some p ∧ x.since + framesIn 1000000 ≤ s.loop.frames then (s.setRoute p 0 0 0).exploreAfter { x with port := none } p
    else s
  | none => s)

/-- ENUM_REPORT (R332): the root takes a module's entry. -/
def execEnumReport (epoch : Nat) (e : TopoEntry) (s : State) : Result :=
  .next (if s.bit .chp_fab_root 0 ∧ epoch = s.fab.epoch then
    (s.modFab (fun f => { f with topo := insertTopo e f.topo })).tryComplete
  else s)

/-- The depths from address `first` on written over those held. -/
def patchDepths (old : List Nat) (count first : Nat) (ds : List Nat) : List Nat :=
  (patchBytes (old ++ List.replicate (count - old.length) 0) first ds).take count

/-- ENUM_COMPLETE (R329, R335, R338): COUNT, the depths and the ring list. A module that was enumerating then is enumerated,
with the standby link as the cut of its ring; an ISOLATED one that hears the root again has its path back (R333, R337). -/
def execEnumComplete (epoch count first : Nat) (depths : List Nat) (ring : List (Nat × Nat)) (s : State) : Result :=
  .next (if epoch ≠ s.fab.epoch ∨ s.addr = 0 then s
  else
    let fresh : Bool := s.rd .chp_fab_state 0 == 1
    let ds := patchDepths s.fab.depths count first depths
    let s1 := (s.modFab (fun f => { f with depths := ds })).wr .chp_fab_count_count 0 count
    let s2 := if first < s.addr ∧ s.addr ≤ first + depths.length then
      s1.wr .chp_fab_count_depth 0 (ds.getD (s.addr - 1) 0) else s1
    let s3 := if fresh then s2.wr .chp_fab_state 0 2 else s2
    let s4 := if ring ≠ [] ∧ ring ≠ s3.fab.ring then
      let t := s3.modFab (fun f => { f with ring := ring, cut := ring.length - 1 })
      let u := ((t.wr .chp_ring_status_size 0 ring.length).wrBit .chp_ring_status_cut_down 0 false).showCut
      if u.bit .chp_fab_ring 0 then u.setRingRoutes else u
    else s3
    let s5 := match s4.upPort with
      | some u => if s4.portReady u then s4.rejoinFabric u else s4
      | none => s4
    s5.rewire s)

/-! ## Wraps (R336) -/

/-- WRAP_RECEIVED (R336): a ring module that holds another cut adopts the one named, sends the WRAP on and recomputes its
routes. -/
def execWrapReceived (port : Fin 4) (epoch a b : Nat) (s : State) : Result :=
  .next (if s.isRingPort port = false ∨ epoch ≠ s.fab.epoch
      ∨ (s.rd .chp_ring_cut_a 0 = min a b ∧ s.rd .chp_ring_cut_b 0 = max a b) then s
  else match s.linkBetween a b with
    | some j => s.adoptCut j (1 - port.val)
    | none => s)

end Sys2Proof.Machine
end

