-- ==== Sys2Proof/Machine/Remote.lean ====
section
/-! DEFINITION. The remote mailbox transport (R339 to R342). -/

namespace Sys2Proof.Machine

/-! ## The originator -/

/-- The traffic class of a request: TC2 for CAL_RUN, CAL_STATUS and SYSCAL_STEP, otherwise TC5 (R339). -/
def remoteTc (op : Nat) : Nat := if op = 0x40 ∨ op = 0x41 ∨ op = 0x42 then 2 else 5

/-- EXEC_TO of a request: 0 takes the value in CHP_REMOTE_TO, where 0 acts as 1 and above 600 as 600 (R339). -/
def State.execTo (s : State) (v : Nat) : Nat :=
  if v = 0 then max 1 (min 600 (s.rd .chp_remote_to_exec_to 0)) else v

/-- The REQUEST of an outstanding command sent (R340). -/
def State.sendRequest (s : State) (r : RemoteOut) : State :=
  s.sendTo 5 r.tc r.dst (.remote r.reqId 1 r.execTo r.rspLen r.body r.data)

/-- REMOTE (R339): an embedded command of 64 bytes with its request data sent to another module. -/
def execRemote (h : Hdr) (dst rspLen execTo rspBuf : Nat) (cmd data : List Nat) (s : State) : Result :=
  let op := cmd.getD 0 0
  .next (s.checked h
    [(dst < 1 || s.rd .chp_fab_count_count 0 < dst || dst == s.addr || 1024 < data.length || 1024 < rspLen || 600 < execTo
        || op == 0x62 || op == 0xF0 || op == 0xF1, .invalidField),
     (h.mbx != 0 || !s.enumerated, .notPermitted)]
    (fun s =>
      let s1 := s.entered h
      let r : RemoteOut := {
        owner := s1.ownerOf h
        reqId := s1.fab.nextReq
        dst := dst, tc := remoteTc op, execTo := s1.execTo execTo, rspLen := rspLen, rspBuf := rspBuf
        body := cmd, data := data, attempts := 0, acked := false, startAt := s.loop.frames, sentAt := s.loop.frames }
      (s1.modFab (fun f => { f with nextReq := (f.nextReq + 1) % 65536, outReqs := f.outReqs ++ [r] })).sendRequest r))

/-- An outstanding request to a module. -/
def State.outReq (s : State) (dst reqId : Nat) : Option RemoteOut :=
  s.fab.outReqs.find? (fun r => r.dst == dst && r.reqId == reqId)

/-- An outstanding request changed. -/
def State.modOut (s : State) (dst reqId : Nat) (g : RemoteOut → RemoteOut) : State :=
  s.modFab (fun f => { f with outReqs := f.outReqs.map (fun r => if r.dst = dst ∧ r.reqId = reqId then g r else r) })

/-- An outstanding request ended with a status. -/
def State.endOut (s : State) (r : RemoteOut) (st : Status) : State :=
  (s.modFab (fun f => { f with outReqs := f.outReqs.filter (fun x => !(x.dst == r.dst && x.reqId == r.reqId)) })).finish
    r.owner { status := st }

/-- REMOTE_ACK (R341): the request is acknowledged, which is the effect point of its command (R384). -/
def execRemoteAck (src reqId : Nat) (s : State) : Result :=
  .next (match s.outReq src reqId with
  | some r => (s.modOut src reqId (fun x => { x with acked := true })).effect r.owner
  | none => s)

/-- REMOTE_RESPONSE (R340, R341): acknowledged; the completion and then the response data go to the response buffer, and the
command completes with the status that the target posted. -/
def execRemoteResponse (src reqId tc : Nat) (body data : List Nat) (s : State) : Result :=
  let s1 := s.sendTo 5 tc src (.remote reqId 4 0 0 (List.replicate 64 0) [])
  .next (match s.outReq src reqId with
  | some r =>
    (s1.toHost r.owner.mbx r.rspBuf (body.take 16 ++ data.take r.rspLen)).endOut r (Status.ofCode (body.getD 12 0xFF))
  | none => s1)

/-- REMOTE_EXEC_TIMEOUT (R339): no response within EXEC_TO, in seconds. -/
def execRemoteExecTimeout (dst reqId : Nat) (s : State) : Result :=
  .next (match s.outReq dst reqId with
  | some r => if r.startAt + framesIn (r.execTo * 1000000000) ≤ s.loop.frames then s.endOut r .remoteTimeout else s
  | none => s)

/-! ## The target -/

/-- A request that another module sent. -/
def State.inReq (s : State) (src reqId : Nat) : Option RemoteIn :=
  s.fab.inReqs.find? (fun r => r.src == src && r.reqId == reqId)

/-- The ACK of a request (R341). -/
def State.ackRequest (s : State) (src reqId tc : Nat) : State :=
  s.sendTo 5 tc src (.remote reqId 2 0 0 (List.replicate 64 0) [])

/-- The RESPONSE of a request sent again. -/
def State.sendResponse (s : State) (r : RemoteIn) : State :=
  match r.response with
  | some (body, data) => s.sendTo 5 r.tc r.src (.remote r.reqId 3 0 0 body data)
  | none => s

/-- Whether a request that has completed did so more than 1 s ago: it is forgotten (R341). -/
def State.stale (s : State) (r : RemoteIn) : Bool :=
  r.response.isSome && decide (r.doneAt + 1000000000 * tickNs < s.datum.t)

/-- A tag of 16,320 to 16,383 that no request holds (R380). -/
def State.remoteTag (s : State) : Option Nat :=
  (span 16320 64).find? (fun t =>
    !(s.mb 0).flight.any (fun f => f.tag == t && f.remote.isSome)
      && !(s.mb 0).fetched.any (fun e => entryTag e.1 == t && e.2.isSome))

/-- An entry with its TAG replaced. -/
def retag (e : List Nat) (tag : Nat) : List Nat := patchBytes e 2 (leBytes 2 tag)

/-- REMOTE_REQUEST (R341, R342, R380): a new request is acknowledged and waits for admission through MB0 under a reserved tag;
with all 64 in flight it is answered with TAG_EXHAUSTED. A repeated one is acknowledged again while it executes, and has
its response sent again once it has completed. -/
def execRemoteRequest (src reqId rspLen tc : Nat) (body data : List Nat) (s : State) : Result :=
  let s0 := s.modFab (fun f => { f with inReqs := f.inReqs.filter (fun r => !s.stale r) })
  let s1 := s0.ackRequest src reqId tc
  let fresh : RemoteIn := {
    src := src, reqId := reqId, rspLen := rspLen, tc := tc, req := data, data := List.replicate rspLen 0
    response := none, attempts := 0, acked := false, doneAt := 0 }
  .next (match s0.inReq src reqId with
  | some r => if r.response.isSome then s1.sendResponse r else s1
  | none =>
    match s1.remoteTag with
    | some tag =>
      (s1.modFab (fun f => { f with inReqs := f.inReqs ++ [fresh] })).modMb 0 (fun b => { b with
        fetched := b.fetched ++ [(retag body tag, some (src, reqId))] })
    | none =>
      let done : RemoteIn := { fresh with
        response := some (completionBytes { status := .tagExhausted } 0 false ++ List.replicate 48 0, [])
        doneAt := s1.datum.t, sentAt := s1.loop.frames }
      (s1.modFab (fun f => { f with inReqs := f.inReqs ++ [done] })).sendResponse done)

/-- REMOTE_RESPONSE_ACK (R341): the response is acknowledged. -/
def execRemoteResponseAck (src reqId : Nat) (s : State) : Result :=
  .next (s.modFab (fun f => { f with inReqs := f.inReqs.map (fun r =>
    if r.src = src ∧ r.reqId = reqId then { r with acked := true } else r) }))

/-- ACK_TO of R341 in frames: µs, 0 acting as 1. -/
def State.ackTo (s : State) : Nat := framesIn (max 1 (s.rd .chp_remote_to_ack_to 0) * 1000)

/-- REMOTE_ACK_TIMEOUT (R341): no ACK within ACK_TO. The originator sends its request again, at most 3 times, then completes with
REMOTE_TIMEOUT; the target (`response`) sends its response again, at most 3 times. -/
def execRemoteAckTimeout (response : Bool) (peer reqId : Nat) (s : State) : Result :=
  .next (if response then
    match s.inReq peer reqId with
    | some r =>
      if r.response.isSome ∧ r.acked = false ∧ r.attempts < 3 ∧ r.sentAt + s.ackTo ≤ s.loop.frames then
        (s.modFab (fun f => { f with inReqs := f.inReqs.map (fun x =>
          if x.src = peer ∧ x.reqId = reqId then { x with attempts := x.attempts + 1, sentAt := s.loop.frames }
          else x) })).sendResponse r
      else s
    | none => s
  else
    match s.outReq peer reqId with
    | some r =>
      if r.acked ∨ s.loop.frames < r.sentAt + s.ackTo then s
      else if r.attempts < 3 then
        (s.modOut peer reqId (fun x => { x with attempts := x.attempts + 1, sentAt := s.loop.frames })).sendRequest r
      else s.endOut r .remoteTimeout
    | none => s)

end Sys2Proof.Machine
end

