-- ==== Sys2Proof/Machine/SweepOps.lean ====
section
/-! DEFINITION. Calibration records, the end of sweeps and of CAL_RUN, and supervision records (R221, R222, R224 to R227). -/

namespace Sys2Proof.Machine

/-- A calibration record changed by `f`. -/
def State.modCal (s : State) (e : Nat) (f : ElCal → ElCal) : State :=
  { s with loop := { s.loop with cal := Tbl.modify {} s.loop.cal e f } }

/-- The SUPERVISION record of an event (R227). -/
def State.supRecord (s : State) (e event checks : Nat) : List Nat :=
  let x := s.el e
  leBytes 2 e ++ [event, checks] ++ leBytes 4 (x.dGood.toNat % 2 ^ 20)
    ++ leBytes 4 (unsigned 32 (roundRat (x.uopt.getD 0))) ++ leBytes 4 (unsigned 32 x.epsSup)
    ++ leBytes 2 (unsigned 16 x.sigma) ++ leBytes 2 (unsigned 16 x.q) ++ leBytes 2 x.nv ++ [0, 0] ++ leBytes 8 s.frame

/-- A supervision event goes to the rings bound to source 3 (R227). -/
def State.supEvent (s : State) (e event checks : Nat) : State := s.telRound 3 0 [(e, s.supRecord e event checks)]

/-- The number of sweeps that run, in ACTIVE of CAL_ECAL_CTRL. -/
def State.showSweeps (s : State) : State := s.wr .cal_ecal_ctrl_active 0 s.loop.sweeps.length

/-- A CAL_RUN of MODE 0 whose elements all have a result completes (R224). -/
def State.closeRun (s : State) (r : CalRun) : State :=
  if r.waiting = [] then
    ({ s with loop := { s.loop with runs := s.loop.runs.filter (fun x => x.num != r.num) } }).finish r.owner
      { status := if r.fenced then .fenced else if r.results.any (fun c => c != 0) then .calRejected else .ok }
  else { s with loop := { s.loop with runs := s.loop.runs.map (fun x => if x.num = r.num then r else x) } }

/-- An element of a CAL_RUN has a result. -/
def State.runResult (s : State) (run : Option Nat) (e code : Nat) (fenced : Bool) : State :=
  match s.loop.runs.find? (fun r => decide (some r.num = run)) with
  | none => s
  | some r => s.closeRun { r with
      waiting := r.waiting.filter (fun x => x != e), results := r.results ++ [code], fenced := r.fenced || fenced }

/-- The result of an attempt recorded (R225): RESULT and T_ATTEMPT; one other than 0 is counted in REJ_CNT and tells the
supervision rings; one of R221 is reported as source 0x15. -/
def State.noteResult (s : State) (e code : Nat) : State :=
  let s1 := s.modCal e (fun c => { c with result := code, attempt := s.datum.t })
  let s2 := if code = 0 then s1 else s1.sat .cal_ecal_ctrl_rej_cnt 0
  let s3 := if 1 ≤ code ∧ code ≤ 5 then s2.report { src := 0x15, objKind := 1, obj := e, detail := code } else s2
  s3.supEvent e (if code = 0 then 5 else 6) 0

/-- A sweep ends with a result: it no longer runs, and its CAL_RUN has the element's result. -/
def State.endSweep (s : State) (w : Sweep) (code : Nat) (fenced : Bool) : State :=
  let s1 := { s with loop := { s.loop with sweeps := s.loop.sweeps.filter (fun x => x.elem != w.elem) } }
  ((s1.showSweeps).noteResult w.elem code).runResult w.run w.elem code fenced

/-- A release that the module itself schedules for an element (R219, R222). -/
def State.releaseElem (s : State) (e : Nat) : State :=
  s.modEl e (fun x => { x with sched := some (.release, s.loop.frames, none) })

/-- A sweep of an element abandoned with RESULT 6 (R222), where one runs; it is released unless it is fenced. -/
def State.abandonSweep (s : State) (e : Nat) (fenced : Bool) : State :=
  match s.loop.sweeps.find? (fun w => w.elem == e) with
  | none => s
  | some w => if fenced then s.endSweep w 6 true else (s.endSweep w 6 false).releaseElem e

/-- The sweeps of elements that `p` picks abandoned. -/
def State.abandonSweeps (s : State) (p : Nat → Bool) (fenced : Bool) : State :=
  ((s.loop.sweeps.map (fun w => w.elem)).filter p).foldl (fun s e => s.abandonSweep e fenced) s

end Sys2Proof.Machine
end

