-- ==== Sys2Proof/Machine/ConvOps.lean ====
section
/-! DEFINITION. The operations of the converters: ranges, invalid spans, result words, comparators, precision windows, slices
and groups (R70 to R112). -/

namespace Sys2Proof.Machine

/-! ## Numbers and tables (R16, R72) -/

/-- A monitor. -/
def State.mon (s : State) (m : Nat) : Mon := Tbl.get {} s.loop.mons m

/-- A converter group. -/
def State.grp (s : State) (g : Nat) : Grp := Tbl.get {} s.loop.grps g

/-- A converter group changed by `f`. -/
def State.modGrp (s : State) (g : Nat) (f : Grp → Grp) : State :=
  { s with loop := { s.loop with grps := Tbl.modify {} s.loop.grps g f } }

/-- The group of a monitor: 32 monitors to a group. -/
def monGrp (m : Nat) : Nat := m / 32

/-- Full scale of a range in nA (R72). -/
def fsNa (r : Nat) : Nat := 500 * 10 ^ r

/-- Full scale of a range in pA. -/
def fsPa (r : Nat) : Nat := 500000 * 10 ^ r

/-- The 48 groups of a compartment. -/
def grpsOf (n : Nat) : List Nat := span (48 * n) 48

/-- Whether a compartment is in its start-up and rejoin pass (R102). -/
def State.inPass (s : State) (n : Nat) : Bool := (s.cpt n).pass

/-! ## Ranges (R75, R76) -/

/-- Whether a precision window runs on a monitor (R85). -/
def State.winRuns (s : State) (m : Nat) : Bool := match (s.mon m).win with | some w => w.running | none => false

/-- RANGE_PEND of a monitor shown: a range change waits for a running window (R76). -/
def State.showPend (s : State) (m : Nat) : State :=
  s.wrBit .ust_mon_cfg_range_pend m ((s.mon m).want.isSome && s.winRuns m)

/-- A range change asked for (R76); the range in force again withdraws one that waits. -/
def State.wantRange (s : State) (m r : Nat) : State :=
  (s.modMon m (fun x => { x with
    want := if r = s.rd .ust_mon_cfg_range m then none else some (r, s.loop.frames) })).showPend m

/-! ## Invalid frames (R80, R81) -/

/-- A monitor slice that has failed and that no Benchmark slice serves (R100). -/
def State.unserved (s : State) (m : Nat) : Bool := s.bit .ust_mon_cfg_failed m && !s.bit .ust_mon_cfg_subst m

/-- Whether a system calibration window runs on the group of a monitor whose slice has failed (R111). DESIGN CHOICE: the groups of
the compartment are measured in ascending order, back to back, from the frame in progress at the step's admission; the rule
says only that each takes its turn. -/
def State.sysCovers (s : State) (m : Nat) : Bool :=
  match (s.cpt (monCpt m)).step with
  | some w => s.bit .ust_mon_cfg_failed m && (s.loop.frames - w.at0) / w.per == monGrp m % 48
  | none => false

/-- The cause of a monitor's own that makes frame t invalid, 0 for none (R80, R81: the highest-numbered). -/
def State.causeOf (s : State) (m t : Nat) : Nat :=
  let own := (((s.mon m).spans.filter (fun p => p.first ≤ t && t ≤ p.last)).map (fun p => p.cause)).foldl max 0
  max own (max (if s.sysCovers m then 6 else 0) (if s.unserved m then 7 else 0))

/-- The cause that holds for a whole compartment: 7 fenced, 5 in its pass. -/
def State.cptCause (s : State) (n : Nat) : Nat := if s.fenced n then 7 else if s.inPass n then 5 else 0

/-- The monitors that may have a cause of their own. -/
def State.suspects (s : State) : List Nat :=
  (((s.loop.mons.filter (fun p => p.2.spans != [])).map (fun p => p.1)) ++ s.listed .ust_mon_cfg_failed).dedup

/-! ## What a frame delivers (R72, R77) -/

/-- The reading of a monitor in a frame. -/
def FrameRec.raw (f : FrameRec) (m : Nat) : Int := Tbl.get 0 f.samples m

/-- Whether the reading left the span of R72. -/
def FrameRec.ovr (f : FrameRec) (m : Nat) : Bool := f.raw m < -4096 || 32768 < f.raw m

/-- RESULT: the reading clipped to the nearest end of the span. DESIGN CHOICE: +FS itself is 32,768 LSB, which the 16-bit field
cannot hold; it shows 32,767 with OVR 0. -/
def FrameRec.result (f : FrameRec) (m : Nat) : Int := clampInt (-4096) 32767 (f.raw m)

/-- INV_CAUSE of a monitor in a frame. -/
def FrameRec.cause (f : FrameRec) (m : Nat) : Nat := max (Tbl.get 0 f.causes m) (f.cpts.getD (monCpt m) 0)

/-- VALID of a monitor in a frame. -/
def FrameRec.valid (f : FrameRec) (m : Nat) : Bool := f.cause m == 0

/-- The range of a monitor in a frame. -/
def FrameRec.range (f : FrameRec) (m : Nat) : Nat := Tbl.get 3 f.ranges m

/-- CMP_PERSIST as it acts: 0 acts as 1. -/
def State.persistence (s : State) (m : Nat) : Nat := max 1 (s.rd .ust_mon_cfg_cmp_persist m)

/-- The state of the low comparator after the latest frame: its change follows as an event of its own once its persistence count
is complete (R77, R93). -/
def State.cmpAfter (s : State) (m : Nat) : Bool :=
  s.bit .ust_mon_cfg_cmp_low m != decide (s.persistence m ≤ (s.mon m).lowCnt)

/-- The frame result word (R77). -/
def State.resultWord (s : State) (f : FrameRec) (m : Nat) : Nat :=
  unsigned 16 (f.result m) + 65536 * bit01 (f.valid m) + 2 ^ 17 * f.range m + 2 ^ 19 * bit01 (f.subst.contains m)
    + 2 ^ 20 * ((f.num + 1) % 64) + 2 ^ 26 * bit01 (f.ovr m) + 2 ^ 27 * bit01 (s.cmpAfter m)
    + 2 ^ 28 * f.cause m

/-- What the frame that ends now delivers. -/
def State.frameRec (s : State) (samples : List (Nat × Int)) : FrameRec :=
  { num := s.loop.frames, ctr := s.frame
    samples := samples.foldl (fun t p => Tbl.set 0 t p.1 p.2) []
    causes := (s.suspects.filterMap (fun m =>
      let c := s.causeOf m s.loop.frames
      if c = 0 then none else some (m, c))).foldl (fun t p => Tbl.set 0 t p.1 p.2) []
    cpts := (List.range 4).map s.cptCause
    ranges := s.listedVals .ust_mon_cfg_range
    subst := s.listed .ust_mon_cfg_subst
    noPilot := (s.loop.elems.filter (fun p => !s.pilotOn p.1)).map (fun p => p.1) }

/-! ## Comparators (R92, R93) -/

/-- Whether a frame reads so that the low side would change: below LOW_NA while released, at or above it with the hysteresis
while asserted. -/
def State.lowTurns (s : State) (f : FrameRec) (m : Nat) : Bool :=
  let v : Int := f.result m * fsNa (f.range m)
  let low : Int := s.rd .ust_mon_cmp_low_na m
  if s.bit .ust_mon_cfg_cmp_low m then decide (low * (64 + s.rd .ust_mon_cfg_cmp_hyst m : Nat) * 32768 ≤ v * 64)
  else s.bit .ust_mon_cmp_low_na m && decide (v < low * 32768)

/-- Whether a frame reads so that the high side would change; HIGH_NA counts 8 nA. -/
def State.highTurns (s : State) (f : FrameRec) (m : Nat) : Bool :=
  let v : Int := f.result m * fsNa (f.range m)
  let high : Int := ((8 * s.rd .ust_mon_cmp_high_na m : Nat) : Int)
  if s.bit .ust_mon_cfg_cmp_high m then decide (v * 64 < high * (64 - s.rd .ust_mon_cfg_cmp_hyst m : Nat) * 32768)
  else s.bit .ust_mon_cmp_high_na m && decide (high * 32768 < v)

/-- The persistence counts of a monitor after a frame: an invalid frame leaves them (R93). -/
def State.countFrame (s : State) (f : FrameRec) (m : Nat) : State :=
  if f.valid m then
    s.modMon m (fun x => { x with
      lowCnt := if s.lowTurns f m then x.lowCnt + 1 else 0
      highCnt := if s.highTurns f m then x.highCnt + 1 else 0 })
  else s

/-- The monitors with a threshold armed or a side asserted. -/
def State.armedMons (s : State) : List Nat :=
  (s.listed .ust_mon_cmp_low_na ++ s.listed .ust_mon_cmp_high_na ++ s.listed .ust_mon_cfg_cmp_low
    ++ s.listed .ust_mon_cfg_cmp_high).dedup

/-! ## Precision windows (R83 to R90) -/

/-- RUNNING and QUEUED shown; a trigger that finds the window ended is pending, not queued (R85). -/
def State.showWin (s : State) (m : Nat) : State :=
  let x := s.mon m
  ((s.wrBit .ust_pw_status_running m x.win.isSome).wrBit .ust_pw_status_queued m (x.queue.isSome && x.queueAt == 0)).showPend m

/-- A precision command changed. -/
def State.modPw (s : State) (num : Nat) (f : PwCmd → PwCmd) : State :=
  { s with loop := { s.loop with pwCmds := s.loop.pwCmds.map (fun c => if c.num = num then f c else c) } }

/-- Records in ascending monitor order. -/
def insertRec (r : Nat × List Nat) : List (Nat × List Nat) → List (Nat × List Nat)
  | [] => [r]
  | x :: l => if r.1 < x.1 then r :: x :: l else x :: insertRec r l

/-- The header that a precision command writes its buffer with. -/
def PwCmd.hdr (c : PwCmd) : Hdr := { mbx := c.owner.mbx, tag := 0, remote := c.remote }

/-- Whether a monitor has a window, a queued trigger or an arm of a precision command. -/
def State.pwServed (s : State) (num : Nat) : Bool :=
  s.loop.mons.any (fun p => (match p.2.win with | some w => w.cmds.contains num | none => false)
    || (p.2.queue.getD []).contains num || p.2.armed.contains num)

/-- A SINGLE command with no window left to wait for writes its records and completes; a CONTINUOUS one that no monitor serves
any more is over, and completes if none of its windows has started (R90, R91). -/
def State.closePw (s : State) (c : PwCmd) : State :=
  if c.mode = 2 ∧ c.waiting = [] ∧ !s.pwServed c.num then
    ({ s with loop := { s.loop with pwCmds := s.loop.pwCmds.filter (fun x => x.num != c.num) } }).finish c.owner
      { status := if c.fenced then .fenced else .ok }
  else if c.mode = 1 ∧ c.waiting = [] then
    let recs := c.records.foldl (fun l r => insertRec r l) []
    let s1 := { s with loop := { s.loop with pwCmds := s.loop.pwCmds.filter (fun x => x.num != c.num) } }
    let s2 := if c.rings then s1 else s1.hostWrite c.hdr c.buf (recs.flatMap (fun r => r.2))
    s2.finish c.owner { status := if c.fenced then .fenced else .ok }
  else s

/-- A monitor's window no longer belongs to a command's awaited ones. -/
def State.unwait (s : State) (num m : Nat) : State :=
  let s1 := s.modPw num (fun c => { c with waiting := c.waiting.filter (fun x => x != m) })
  match s1.loop.pwCmds.find? (fun c => c.num == num) with
  | some c => s1.closePw c
  | none => s1

/-- A record of a window delivered to one command that it belongs to (R90): to its buffer or its mailbox's rings. -/
def State.deliverTo (s : State) (m num : Nat) (rec : List Nat) (fenced : Bool) : State :=
  match s.loop.pwCmds.find? (fun c => c.num == num) with
  | none => s.telRoundOf (some (s.mon m).mbx) 4 0 [(m, rec)]
  | some c =>
    let s1 := if c.rings then s.telRoundOf (some c.owner.mbx) 4 0 [(m, rec)]
      else if c.mode = 2 then s.hostWrite c.hdr (c.buf + 16 * (m - c.first)) rec else s
    (s1.modPw num (fun d => { d with
      records := if d.rings || d.mode == 2 then d.records else d.records ++ [(m, rec)]
      fenced := d.fenced || fenced })).unwait num m

/-- A record of a window delivered (R90): to the commands that it belongs to, else to a PRECISION source bound to a ring of the
mailbox that configured the monitor. -/
def State.deliverRec (s : State) (m : Nat) (cmds : List Nat) (rec : List Nat) (fenced : Bool) : State :=
  if cmds = [] then s.telRoundOf (some (s.mon m).mbx) 4 0 [(m, rec)]
  else cmds.foldl (fun s num => s.deliverTo m num rec fenced) s

/-- The 16-byte record of a window (R88, R89). -/
def pwRecord (m range : Nat) (w : PwWin) (mean : Int) (frames : Nat) (abandoned : Bool) : List Nat :=
  let ok := w.invalid == 0 && !w.ovr && !w.lenChg && !abandoned
  leBytes 4 (unsigned 24 (clampInt (-8388608) 8388607 mean) + 2 ^ 24 * bit01 ok + 2 ^ 25 * range + 2 ^ 27 * bit01 w.subst
      + 2 ^ 28 * bit01 w.ovr + 2 ^ 29 * bit01 w.lenChg + 2 ^ 30 * bit01 abandoned)
    ++ leBytes 2 frames ++ leBytes 2 w.invalid ++ leBytes 2 m ++ leBytes 2 w.seq ++ leBytes 4 w.startF

/-- LEN in force: 0 acts as 1. -/
def State.pwLen (s : State) (m : Nat) : Nat := max 1 (s.rd .ust_pw_cfg_len m)

/-- A trigger ignored (R85): counted, and the commands that it was for do not wait for it. -/
def State.ignoreTrig (s : State) (m : Nat) (cmds : List Nat) : State :=
  let s1 := (s.sat .ust_pw_status_ovr_cnt m).wrBit .ust_pw_status_overrun m true
  cmds.foldl (fun s num => s.unwait num m) s1

/-- The boundary at which a window starts: a pending one waits out a takeover or return (R87). -/
def Mon.startOf (x : Mon) (w : PwWin) : Nat := if w.running then w.start else max w.start x.noStart

/-- A trigger of a monitor's precision window whose start boundary is frame `st` (R83 to R87); in OFF, in the pass and in a
fenced compartment none starts. -/
def State.trigger (s : State) (m st : Nat) (byTime : Bool) : State :=
  let x := s.mon m
  let mode := s.rd .ust_pw_cfg_mode m
  let s0 := s.modMon m (fun y => { y with armed := [] })
  if (mode ≠ 1 ∧ mode ≠ 2) ∨ s.inPass (monCpt m) ∨ s.fenced (monCpt m) then s
  else if x.cont then s0.ignoreTrig m x.armed
  else match x.win with
    | none =>
      let w : PwWin := { start := st, len := s.pwLen m, byTime := byTime, cmds := x.armed }
      (s0.modMon m (fun y => { y with win := some w, cont := mode == 2 })).showWin m
    | some w =>
      let ended := x.startOf w + w.len ≤ st
      if x.queue = none ∧ (s.bit .ust_pw_cfg_pwq m ∨ ended) then
        (s0.modMon m (fun y => { y with
          queue := some x.armed, queueAt := if ended then st else 0, cont := mode == 2 })).showWin m
      else s0.ignoreTrig m x.armed

/-- What follows a window that has ended or been abandoned at boundary `t`: a queued or a continuous one starts there, or after
the reload frame of a changed LEN (R86), or when a takeover or return is over (R87). -/
def State.afterWin (s : State) (m : Nat) (w : PwWin) (t : Nat) : State :=
  let x := s.mon m
  let st := if w.lenChg then t + 1 else t
  let next (cmds : List Nat) : Option PwWin := some { start := max st x.queueAt, len := s.pwLen m, cmds := cmds }
  let s1 := if w.lenChg then s.wrBit .ust_pw_status_reload m true else s
  (match x.queue with
  | some cmds => s1.modMon m (fun y => { y with win := next cmds, queue := none, queueAt := 0 })
  | none => s1.modMon m (fun y => { y with win := if y.cont then next w.cmds else none })).showWin m

/-- A monitor's window, pending or running, with its queue, abandoned (R89): a running one leaves its record, its mean not
stated (a free value). -/
def State.abandonWin (s : State) (m : Nat) (fenced : Bool) : State :=
  let x := s.mon m
  let drop (s : State) (cmds : List Nat) : State :=
    cmds.foldl (fun s num => (s.modPw num (fun d => { d with fenced := d.fenced || fenced })).unwait num m) s
  let s1 := (s.modMon m (fun y => { y with
    win := none, queue := none, queueAt := 0, cont := false, armed := [] })).showWin m
  let s2 := match x.win with
    | some w =>
      if w.running then
        (s1.useFree).deliverRec m w.cmds
          (pwRecord m (s.rd .ust_mon_cfg_range m) w (signed 24 s.freeVal) (s.loop.frames - w.start) true) fenced
      else drop s1 w.cmds
    | none => s1
  drop (drop s2 (x.queue.getD [])) x.armed

/-- The monitors of a compartment that have a window, a queue or an arm. -/
def State.pwMons (s : State) (n : Nat) : List Nat :=
  (s.loop.mons.filter (fun p => monCpt p.1 == n && (p.2.win.isSome || p.2.queue.isSome || p.2.armed != []))).map
    (fun p => p.1)

/-- Every precision window of a compartment abandoned, by a fence or a reset (R89). -/
def State.abandonWins (s : State) (n : Nat) : State := (s.pwMons n).foldl (fun s m => s.abandonWin m true) s

/-- A frame counted in a running window. -/
def State.countWin (s : State) (f : FrameRec) (m : Nat) : State :=
  s.modMon m (fun x => { x with win := x.win.map (fun w =>
    if w.running then { w with
      invalid := w.invalid + bit01 (!f.valid m), ovr := w.ovr || f.ovr m, subst := w.subst || f.subst.contains m }
    else w) })

/-- LEN of a monitor written (R86): a running window keeps its length and is marked. -/
def State.setPwLen (s : State) (m len : Nat) : State :=
  let chg := s.rd .ust_pw_cfg_len m != len
  (s.wr .ust_pw_cfg_len m len).modMon m (fun x => { x with win := x.win.map (fun w =>
    if chg then (if w.running then { w with lenChg := true } else { w with len := max 1 len }) else w) })

/-- MODE of a monitor written (R83, R89): OFF abandons a running window, and a mode other than CONTINUOUS ends the series. -/
def State.setPwMode (s : State) (m mode : Nat) : State :=
  let s1 := s.wr .ust_pw_cfg_mode m mode
  if mode = 1 ∨ mode = 2 then (if mode = 2 then s1 else s1.modMon m (fun x => { x with cont := false }))
  else s1.abandonWin m false

/-! ## Slices and groups (R96 to R103) -/

/-- A slice of a group. -/
def Grp.slice (g : Grp) (p : Nat) : Slice := Tbl.get {} g.slices p

/-- A slice of a group changed by `f`. -/
def Grp.modSlice (g : Grp) (p : Nat) (f : Slice → Slice) : Grp := { g with slices := Tbl.modify {} g.slices p f }

/-- The monitor at position `p` of a group. -/
def grpMon (g p : Nat) : Nat := 32 * g + p

/-- The object of a slice in fault reports and records: its monitor, or the group's Benchmark slice. -/
def sliceObj (g p : Nat) : Nat × Nat := if p < 32 then (2, grpMon g p) else (10, g)

/-- A slice is FAILED (R100): the first failed monitor slice of a group whose Benchmark slice works is served by it for good;
any other has no substitution; the rotation stops. -/
def State.failSlice (s : State) (g p : Nat) : State :=
  let o := sliceObj g p
  let free := s.rd .cal_grp_status_failed_slice g == 0x3F
  let s1 := s.modGrp g (fun x => x.modSlice p (fun y => { y with failed := true, log := { y.log with result := 6, attempt := s.datum.t } }))
  let s2 := (s1.wrBit .cal_grp_status_stopped g true).wrBit .cal_grp_status_waiting g false
  if p = 32 then
    ((s2.wr .cal_grp_status_failed_slice g 0x20).report { src := 0x14, objKind := o.1, obj := o.2 })
  else
    let s3 := s2.wrBit .ust_mon_cfg_failed (grpMon g p) true
    if free then
      (((s3.wr .cal_grp_status_failed_slice g p).wrBit .ust_mon_cfg_subst (grpMon g p) true).report
        { src := 0x13, objKind := o.1, obj := o.2 })
    else (s3.wrBit .ust_mon_cfg_subst (grpMon g p) false).report { src := 0x14, objKind := o.1, obj := o.2 }

/-- What the rotation of a group needs: background calibration enabled, no pass, no system calibration, no reset (R96, R106). -/
def State.rotates (s : State) (g : Nat) : Bool :=
  !s.bit .cal_grp_status_stopped g && !s.inPass (grpCpt g) && !s.bit .cal_syscal_status_active (grpCpt g)
    && !s.bit .glb_cpt_svc_in_crst (grpCpt g)

/-- The rotation of a compartment's groups resumes (R97, R107, R110) at the next frame boundary, but not in a group with a
failed slice. -/
def State.resumeRotation (s : State) (n : Nat) : State :=
  (grpsOf n).foldl (fun s g =>
    if s.rd .cal_grp_status_failed_slice g = 0x3F ∧ s.bit .cal_grp_status_stopped g then
      (s.modGrp g (fun x => { x with due := s.loop.frames + 1, taken := false, judged := false
                                     pendingCoefs := if x.back then x.pendingCoefs else none })).wrBit
        .cal_grp_status_stopped g false
    else s) s

/-- The Benchmark slice takes a monitor over, or gives it back, at this boundary: three frames are invalid under cause 2 and no
window starts in them (R80, R87). -/
def State.switchSlice (s : State) (m : Nat) (b : Bool) : State :=
  let t := s.loop.frames
  ((s.wrBit .ust_mon_cfg_subst m b).addSpan m { cause := 2, first := t, last := t + 2 }).modMon m (fun x => { x with noStart := t + 3 })

/-- The rotation of a group stops for a system calibration (R106): a monitor that its Benchmark slice serves, and whose slice has
not failed, is to return at the next frame boundary (BENCHMARK_RETURN). -/
def State.stopGroup (s : State) (g : Nat) : State :=
  let m := grpMon g (s.rd .cal_grp_status_pos g)
  let b := (s.grp g).taken && s.rd .cal_grp_status_pos g < 32 && s.bit .ust_mon_cfg_subst m && !s.bit .ust_mon_cfg_failed m
  let s1 := s.modGrp g (fun x => { x with
    back := b, due := s.loop.frames + 1, taken := false, judged := false
    pendingCoefs := if b then x.pendingCoefs else none, zero := [], points := [none, none, none, none] })
  (s1.wrBit .cal_grp_status_stopped g true).wrBit .cal_grp_status_waiting g (b && s.winRuns m)

/-- System calibration of a compartment ends without a result (R107): every old value is kept and the rotation restored. -/
def State.abandonSys (s : State) (n : Nat) : State :=
  let s1 := (s.wrBit .cal_syscal_status_active n false).modCpt n (fun x => { x with step := none })
  let s2 := (grpsOf n).foldl (fun s g => s.modGrp g (fun x => { x with
    zero := [], points := [none, none, none, none]
    system := (({ x.system.getD 0 {} with result := 5, attempt := s.datum.t } : CalRec) :: x.system).take 16 })) s1
  if s2.rd .cal_rot_ctrl_en 0 / 2 ^ n % 2 = 1 then s2.resumeRotation n else s2

end Sys2Proof.Machine
end

