-- ==== Sys2Proof/Machine/Conv.lean ====
section
/-! DEFINITION. The commands and events of the converters and of Benchmark calibration (file 03), but FRAME_BOUNDARY
(Frame.lean). -/

namespace Sys2Proof.Machine

/-! ## Ranges, comparators, MONITOR_READ -/

/-- MONITOR_RANGE_CHANGE (R76, R80): a requested range takes effect at the boundary that ends the frame of the request, or when
the running precision window ends; two frames are invalid under cause 1. -/
def execMonitorRangeChange (m : Fin 6144) (s : State) : Result :=
  let x := s.mon m
  let runs : Bool := match x.win with | some w => w.running | none => false
  .next (match x.want with
  | some (r, f0) =>
    if s.loop.frames ≤ f0 then s
    else if runs then s.showPend m
    else
      let s1 := (s.wr .ust_mon_cfg_range m r).addSpan m { cause := 1, first := s.loop.frames, last := s.loop.frames + 1 }
      (s1.modMon m (fun y => { y with want := none })).showPend m
  | none => s)

/-- COMPARATOR_CHANGE (R92, R94): a side whose persistence count is complete changes, which is reported as source 0x12. -/
def execComparatorChange (m : Fin 6144) (high : Bool) (s : State) : Result :=
  let x := s.mon m
  .next (if high then
    if s.persistence m ≤ x.highCnt then
      ((s.wrBit .ust_mon_cfg_cmp_high m (!s.bit .ust_mon_cfg_cmp_high m)).modMon m (fun y => { y with highCnt := 0 })).report
        { src := 0x12, objKind := 2, obj := m }
    else s
  else if s.persistence m ≤ x.lowCnt then
    ((s.wrBit .ust_mon_cfg_cmp_low m (!s.bit .ust_mon_cfg_cmp_low m)).modMon m (fun y => { y with lowCnt := 0 })).report
      { src := 0x12, objKind := 2, obj := m }
  else s)

/-- MONITOR_READ (R76, R390): the range change is asked for, and the words of one frame are written once it has ended
(FRAME_BOUNDARY). -/
def execMonitorRead (h : Hdr) (first count rangeSet buf : Nat) (s : State) : Result :=
  .next (s.checked h
    [(count < 1 || 1536 < count || 6144 < first + count || (3 < rangeSet && rangeSet != 0xFF) || s.badBuf h buf 4 (4 * count),
        .invalidField),
     (!s.holdsMons h.mbx first count, .outOfPartition)]
    (fun s =>
      let a := s.entered h
      let r : ReadCmd := {
        h := h, owner := a.ownerOf h, first := first, count := count, buf := buf, ranged := rangeSet != 0xFF }
      let s1 := if rangeSet = 0xFF then a else (span first count).foldl (fun s m => s.wantRange m rangeSet) a
      { s1 with loop := { s1.loop with reads := s1.loop.reads ++ [r] } }))

/-! ## Precision windows -/

/-- PW_GO_WRITE (R83): a command trigger of a monitor whose source is the command. -/
def execPwGoWrite (m : Fin 6144) (s : State) : Result :=
  .next (if s.rd .ust_pw_cfg_src m = 0 then s.trigger m (s.loop.frames + 1) false else s)

/-- Whether a takeover or a return of a monitor is due at this boundary and not yet made: it takes precedence over a window that
would start there (R87). -/
def State.switchDue (s : State) (m : Nat) : Bool :=
  let g := monGrp m
  let x := s.grp g
  s.rd .cal_grp_status_pos g == m % 32 && x.returnAt.isNone &&
    ((x.back && decide (x.due ≤ s.loop.frames)) ||
      (s.rotates g && !x.back && (if x.taken then x.judged && decide (x.due + 16381 ≤ s.loop.frames)
        else decide (x.due ≤ s.loop.frames))))

/-- PRECISION_WINDOW_START (R84, R86, R87): a pending window whose boundary has come, and that no reload, takeover or return
keeps waiting, starts; the first window of a CONTINUOUS command completes it. -/
def execPrecisionWindowStart (m : Fin 6144) (s : State) : Result :=
  let x := s.mon m
  .next (match x.win with
  | some w =>
    if w.running ∨ s.loop.frames < w.start ∨ s.loop.frames < x.noStart ∨ s.switchDue m then s
    else
      let w2 : PwWin := { w with running := true, start := s.loop.frames, len := s.pwLen m, seq := (x.winSeq + 1) % 65536
                                 startF := s.frame }
      let s1 := (s.modMon m (fun y => { y with win := some w2, winSeq := (y.winSeq + 1) % 65536 })).wrBit
        .ust_pw_status_reload m false
      let own := s1.loop.pwCmds.filter (fun c => c.mode == 2 && w.cmds.contains c.num)
      (own.foldl (fun s c => s.finish c.owner { status := .ok }) s1).showPend m
  | none => s)

/-- PRECISION_WINDOW_END (R85, R88): a running window reaches its end and leaves its record with the mean it measured. -/
def execPrecisionWindowEnd (m : Fin 6144) (mean : Int) (s : State) : Result :=
  .next (match (s.mon m).win with
  | some w =>
    if !w.running ∨ s.loop.frames < w.start + w.len then s
    else
      let s1 := s.afterWin m w s.loop.frames
      s1.deliverRec m w.cmds (pwRecord m (s.rd .ust_mon_cfg_range m) w mean w.len false) false
  | none => s)

/-- The frames of LEN of PRECISION_MEASURE; none outside its range (R90). -/
def pwLenOf (len : Nat) : Option Nat :=
  if len = 0 then some 16276 else if len = 0xFFFFFFFF then some 19531 else if len ≤ 65535 then some len else none

/-- The frame, counted since reset, of the first boundary at or after a Datum time, or the next one (R84). -/
def State.startFrame (s : State) (t : Nat) : Nat := s.loop.frames + max 1 (frameAt t - s.frame)

/-- A monitor configured and armed by PRECISION_MEASURE (R90), beside the commands that have armed it and still await its first
trigger; a command or time source triggers it now. -/
def State.armMon (s : State) (m len mode src pwq num mbx : Nat) (start : DTime) : State :=
  let s1 := ((s.setPwLen m len).setPwMode m mode).wr .ust_pw_cfg_src m src
  let s2 := (s1.wr .ust_pw_cfg_pwq m pwq).modMon m (fun x => { x with armed := x.armed ++ [num], mbx := mbx })
  if src = 0 then s2.trigger m (s.loop.frames + 1) false
  else if src = 1 then s2.trigger m (s.startFrame (ticksOf start)) true else s2

/-- PRECISION_MEASURE (R90, R91). -/
def execPrecisionMeasure (h : Hdr) (first mode src count pwq rings buf : Nat) (start : DTime) (len : Nat) (s : State) : Result :=
  let mons := span first count
  .next (s.checked h
    [(count < 1 || 1536 < count || 6144 < first + count || (pwLenOf len).isNone || mode < 1 || 2 < mode || 5 < src || 1 < pwq
        || 1 < rings || (rings == 1 && !s.host.sources.any (fun t => t.mbx == h.mbx && t.source == 4)) || (src == 1 && !timeOk start) || (rings == 0 && s.badBuf h buf 16 (16 * count)), .invalidField),
     (!s.holdsMons h.mbx first count, .outOfPartition),
     (mons.any (fun m => s.inPass (monCpt m)), .busy),
     (mons.any (fun m => s.fenced (monCpt m)), .fenced),
     (src == 1 && !s.locked, .datumUnlocked),
     (2 ≤ src && s.rd .dtm_trig_cfg_mode (src - 2) != 1, .notPermitted)]
    (fun s =>
      let a := s.entered h
      let num := a.loop.nextPw
      let c : PwCmd := {
        num := num, owner := a.ownerOf h, mode := mode, buf := buf, first := first, rings := rings == 1, remote := h.remote
        waiting := mons }
      let s1 := { a with loop := { a.loop with pwCmds := a.loop.pwCmds ++ [c], nextPw := num + 1 } }
      mons.foldl (fun s m => s.armMon m ((pwLenOf len).getD 1) mode src pwq num h.mbx start) (s1.effect c.owner)))

/-! ## Benchmark rotation (R96 to R101) -/

/-- BENCHMARK_TAKEOVER (R87, R96): a due position switches its monitor to the Benchmark slice once no window runs; a delay
shifts the position (R97). Position 32 takes no monitor. -/
def execBenchmarkTakeover (g : Fin 192) (s : State) : Result :=
  let p := s.rd .cal_grp_status_pos g
  let x := s.grp g
  .next (if !s.rotates g ∨ x.taken ∨ x.back ∨ x.returnAt.isSome ∨ s.loop.frames < x.due then s
  else if p < 32 ∧ s.winRuns (grpMon g p) then s.wrBit .cal_grp_status_waiting g true
  else
    let s1 := s.modGrp g (fun y => { y with due := s.loop.frames, taken := true, judged := false })
    (if p < 32 then s1.switchSlice (grpMon g p) true else s1).wrBit .cal_grp_status_waiting g false)

/-- The RESULT of a position's readings against the slice's coefficients (R99): 0 accepted, 1 offset, 2 gain, 3 linearity. A
reading is (offset in ppm of FS, gain in ppm, deviation from a line in ppm of FS) by range. -/
def judge (coefs : List Coef) (readings : List (Int × Int × Int)) : Nat :=
  let l := (List.range 4).map (fun r => (coefs.getD r {}, readings.getD r (0, 0, 0)))
  if l.any (fun q => decide (500 < |q.2.1 - q.1.offset|)) then 1
  else if l.any (fun q => decide (1000 < |q.2.2.1 - q.1.gain|)) then 2
  else if l.any (fun q => decide (200 < |q.2.2.2|)) then 3 else 0

/-- BENCHMARK_RESULT (R99, R100): once the measurements of a position are made, its coefficients are accepted or rejected; a
third rejection in succession fails the slice. -/
def execBenchmarkResult (g : Fin 192) (readings : List (Int × Int × Int)) (s : State) : Result :=
  let p := s.rd .cal_grp_status_pos g
  let x := s.grp g
  let y := x.slice p
  let res := judge y.coefs readings
  let o := sliceObj g p
  let log : CalRec := { y.log with result := res, attempt := s.datum.t }
  .next (if !s.rotates g ∨ !x.taken ∨ x.judged ∨ s.loop.frames < x.due + 15363 then s
  else if res = 0 then
    let coefs := readings.map (fun q => ({ offset := q.1, gain := q.2.1 } : Coef))
    (s.modGrp g (fun w => { w.modSlice p (fun z => { z with
        rejects := 0, log := { log with count := z.log.count + 1, success := s.datum.t } }) with
      judged := true, pendingCoefs := some coefs, acceptedAt := if p < 32 then s.loop.frames else w.acceptedAt })).wrBit
        .cal_grp_status_stale g false
  else
    let s1 := (s.modGrp g (fun w => { w.modSlice p (fun z => { z with rejects := z.rejects + 1, log := log }) with
      judged := true, pendingCoefs := none })).sat .cal_grp_status_rej_cnt g
    let s2 := s1.report { src := 0x15, objKind := o.1, obj := o.2, detail := res }
    if 3 ≤ y.rejects + 1 then s2.failSlice g p else s2)

/-- A position's end: an accepted result's coefficients come into force, and with them references that wait for it (R98, R110). -/
def Grp.settle (x : Grp) (p : Nat) : Grp :=
  let y := x.modSlice p (fun z => { z with coefs := x.pendingCoefs.getD z.coefs })
  { y with
    refs := if x.pendingCoefs.isSome then x.newRefs.getD x.refs else x.refs
    newRefs := if x.pendingCoefs.isSome then none else x.newRefs
    taken := false, judged := false, pendingCoefs := none, returnAt := none, back := false }

/-- A position finished: the next one falls due, and a disabled rotation stops (R96, R97). -/
def State.nextPosition (s : State) (g p : Nat) : State :=
  let s1 := s.modGrp g (fun x => { x.settle p with due := s.loop.frames })
  let s2 := s1.wr .cal_grp_status_pos g (if p = 32 then 0 else p + 1)
  let s3 := if p = 32 then s2.inc .cal_grp_status_rot_cnt g else s2
  if (s.rd .cal_rot_ctrl_en 0).testBit (grpCpt g) then s3 else s3.wrBit .cal_grp_status_stopped g true

/-- The three frames of a return are over (R96, R98, R106): the position is finished, or was broken off by a system calibration and
stands to be made again. -/
def State.endReturn (s : State) (g : Nat) : State :=
  let x := s.grp g
  let p := s.rd .cal_grp_status_pos g
  match x.returnAt with
  | some t =>
    if s.loop.frames < t + 3 then s
    else if x.back then s.modGrp g (fun y => y.settle p)
    else s.nextPosition g p
  | none => s

/-- BENCHMARK_RETURN (R80, R87, R96, R98, R106): the monitor returns to its own slice once no window runs, in three invalid frames
whose end FRAME_BOUNDARY makes the position's; position 32 ends after its 16,384 frames. -/
def execBenchmarkReturn (g : Fin 192) (s : State) : Result :=
  let p := s.rd .cal_grp_status_pos g
  let x := s.grp g
  let m := grpMon g p
  let due := if x.back then decide (x.due ≤ s.loop.frames)
    else s.rotates g && x.taken && x.judged && decide (x.due + (if p = 32 then 16384 else 16381) ≤ s.loop.frames)
  .next (if !due ∨ x.returnAt.isSome then s
  else if p = 32 then s.nextPosition g p
  else if s.winRuns m then s.wrBit .cal_grp_status_waiting g true
  else ((s.switchSlice m false).wrBit .cal_grp_status_waiting g false).modGrp g (fun y => { y with
    returnAt := some s.loop.frames }))

/-- CAL_ROT_CTRL_WRITE (R97): clearing a compartment's bit lets its groups finish the running position and stop; setting it
resumes them with the position after the last one finished. -/
def execCalRotCtrlWrite (v : Fin 16) (s : State) : Result :=
  .next (s.expertWrite 0xB0000 .cal_rot_ctrl_en 0 (fun s =>
    let old := s.rd .cal_rot_ctrl_en 0
    let s1 := s.wr .cal_rot_ctrl_en 0 v
    (List.range 4).foldl (fun s n =>
      if !old.testBit n ∧ v.val.testBit n ∧ !s.bit .cal_syscal_status_active n then s.resumeRotation n
      else if !v.val.testBit n then
        (grpsOf n).foldl (fun s g => if (s.grp g).taken then s
          else (s.wrBit .cal_grp_status_stopped g true).wrBit .cal_grp_status_waiting g false) s
      else s) s1))

/-- CALIBRATION_STALE (R101): a group without an accepted result of a monitor slice for more than 10 s sets STALE. -/
def execCalibrationStale (g : Fin 192) (s : State) : Result :=
  .next (if 10000000000 < (s.loop.frames - (s.grp g).acceptedAt) * 1024 then s.wrBit .cal_grp_status_stale g true else s)

/-! ## Start-up and rejoin pass (R102 to R104) -/

/-- Whether the fast pass accepts a slice (R103): the offset within ±0.5 % of FS and the gain within ±2 % on every range. -/
def passAccepts (coefs : List Coef) : Bool :=
  coefs.all (fun c => decide (|c.offset| ≤ 5000) && decide (|c.gain| ≤ 20000))

/-- One slice after the pass: its coefficients, or FAILED where they lie outside (R103); an accepted result ends STALE (R101). -/
def State.passSlice (s : State) (g p : Nat) (coefs : List Coef) : State :=
  let ok := passAccepts coefs
  let s1 := s.modGrp g (fun x => x.modSlice p (fun y => { y with
    coefs := if ok then coefs else y.coefs, rejects := 0, failed := false
    log := { y.log with
      result := 0, attempt := s.datum.t, success := if ok then s.datum.t else y.log.success
      count := if ok then y.log.count + 1 else y.log.count } }))
  if !ok then s1.failSlice g p
  else if p < 32 then (s1.modGrp g (fun x => { x with acceptedAt := s.loop.frames })).wrBit .cal_grp_status_stale g false
  else s1.wrBit .cal_grp_status_stale g false

/-- A group after the pass: FAILED slices re-tested, the Benchmark slice first, since it alone can serve another; the rotation
begins at position 0 (R103, R104). -/
def State.passGroup (s : State) (g : Nat) (coefs : Nat → List Coef) : State :=
  let s1 := ((s.wr .cal_grp_status_failed_slice g 0x3F).wrBit .cal_grp_status_stopped g false).wr .cal_grp_status_pos g 0
  let s2 := (span (32 * g) 32).foldl (fun s m =>
    (s.wrBit .ust_mon_cfg_failed m false).wrBit .ust_mon_cfg_subst m false) s1
  let s3 := s2.modGrp g (fun x => { x with
    due := s.loop.frames, taken := false, judged := false, pendingCoefs := none, returnAt := none, back := false })
  (32 :: List.range 32).foldl (fun s p => s.passSlice g p (coefs p)) s3

/-- The coefficients that a pass measured for a slice: those listed, or nominal. -/
def passCoefs (results : List (Nat × Nat × List (Int × Int))) (g p : Nat) : List Coef :=
  match results.find? (fun r => r.1 == g && r.2.1 == p) with
  | some r => (List.range 4).map (fun i => ({ offset := (r.2.2.getD i (0, 0)).1, gain := (r.2.2.getD i (0, 0)).2 } : Coef))
  | none => [{}, {}, {}, {}]

/-- A REJOIN whose pass fails completes with INTERNAL; the compartment stays fenced (R283). -/
def State.failRejoin (s : State) (n : Nat) : State :=
  let v := Tbl.get {} s.stand.svc n
  let s1 := { s with stand := { s.stand with svc := Tbl.set {} s.stand.svc n { v with rejoin := none, passed := false } } }
  (s1.wrBit .glb_cpt_svc_rejoining n false).finishOpt v.rejoin { status := .internal }

/-- STARTUP_PASS_END (R102, R103, R104, R283): 101,376 frames after it started, the pass of a compartment ends: every slice is
judged, the rotation begins, and the elements go on at the next boundary. A die that does not respond, at the start of the
pass or later, is source 0x10. -/
def execStartupPassEnd (n : Fin 4) (responds : Bool) (results : List (Nat × Nat × List (Int × Int))) (s : State) : Result :=
  .next (if !s.inPass n ∨ (responds ∧ s.loop.frames < (s.cpt n).passFrom + 101376) then s
  else if !responds then
    ((s.modCpt n (fun c => { c with pass := false })).failRejoin n).report { src := 0x10, objKind := 3, obj := n }
  else
    let s1 := (grpsOf n).foldl (fun s g => s.passGroup g (passCoefs results g)) s
    let s2 := s1.modCpt n (fun c => { c with pass := false, passFrom := s.loop.frames })
    let s3 := if (s.rd .cal_rot_ctrl_en 0).testBit n then s2
      else (grpsOf n).foldl (fun s g => s.wrBit .cal_grp_status_stopped g true) s2
    { s3 with stand := { s3.stand with svc := Tbl.modify {} s3.stand.svc n (fun v => { v with passed := v.rejoin.isSome }) } })

/-! ## System calibration (R105 to R111) -/

/-- The checks common to the steps of SYSCAL_STEP. -/
def syscalChecks (h : Hdr) (bad : Bool) : List (Bool × Status) := [(bad, .invalidField), (h.mbx != 0, .notPermitted)]

/-- SYSCAL_STEP_BEGIN (R106, R107): the rotation of the compartment stops and substituted monitors are to return. -/
def execSyscalStepBegin (h : Hdr) (comp : Nat) (s : State) : Result :=
  .next (s.checked h (syscalChecks h (3 < comp) ++
      [(s.bit .cal_syscal_status_active comp || s.inPass comp, .busy), (s.fenced comp, .fenced)])
    (fun s =>
      let s1 := s.modCpt comp (fun c => { c with step := none, stepAt := s.loop.frames })
      let s2 := (grpsOf comp).foldl (fun s g => s.stopGroup g) s1
      ((s2.wr .cal_syscal_status_step comp 1).wrBit .cal_syscal_status_active comp true).status h .ok))

/-- Whether a step is out of the order of R106. -/
def State.outOfOrder (s : State) (comp last : Nat) : Bool :=
  !s.bit .cal_syscal_status_active comp || s.rd .cal_syscal_status_step comp != last || (s.cpt comp).step.isSome

/-- A measuring step is accepted and starts (R107, R111): STEP shows it, it takes `windows` windows on each group in turn, and
completes at their end. -/
def State.startStep (s : State) (h : Hdr) (comp mains windows code : Nat) : State :=
  let a := (s.entered h).wr .cal_syscal_status_step comp code
  let w := if mains = 0 then 19531 else 16276
  a.modCpt comp (fun c => { c with
    step := some { at0 := s.loop.frames, per := windows * w, owner := a.ownerOf h, code := code }, stepAt := s.loop.frames })

/-- SYSCAL_STEP_ZERO (R106): each Benchmark slice measures the calibration input at zero on every range; `readings` are those
currents in pA by local group and range. -/
def execSyscalStepZero (h : Hdr) (comp mains : Nat) (readings : List (List Rat)) (s : State) : Result :=
  .next (s.checked h (syscalChecks h (3 < comp || 1 < mains) ++ [(s.outOfOrder comp 1, .notPermitted)])
    (fun s => ((List.range 48).foldl (fun s i =>
        s.modGrp (48 * comp + i) (fun x => { x with zero := readings.getD i [] })) s).startStep h comp mains 4 2))

/-- A new reference value (R108); where the reading less the zero is 0 the value is not stated: a free value. -/
def newRef (mRef mCal zero : Rat) (applied free : Nat) : Rat :=
  if mCal - zero = 0 then (free : Rat) else mRef * applied / (mCal - zero)

/-- SYSCAL_STEP_POINT (R106, R108): each Benchmark slice measures the applied current and its two references on one range;
`readings` are (M_CAL, M_REF of REF_L, M_REF of REF_H) in pA by local group. -/
def execSyscalStepPoint (h : Hdr) (comp range mains applied : Nat) (readings : List (Rat × Rat × Rat)) (s : State) : Result :=
  .next (s.checked h (syscalChecks h (3 < comp || 3 < range || 1 < mains) ++ [(s.outOfOrder comp (2 + range), .notPermitted)])
    (fun s => ((List.range 48).foldl (fun s i =>
        let q := readings.getD i (0, 0, 0)
        let z := ((s.grp (48 * comp + i)).zero).getD range 0
        (s.useFree).modGrp (48 * comp + i) (fun x => { x with
          points := x.points.set range (some (newRef q.2.1 q.1 z applied s.freeVal, newRef q.2.2 q.1 z applied s.freeVal)) })) s
      ).startStep h comp mains 3 (3 + range)))

/-- The references in force of a group on a range, in pA: nominally FS/8 and 7 FS/8. -/
def Grp.ref (g : Grp) (r : Nat) : Rat × Rat := g.refs.getD r ((fsPa r : Rat) / 8, 7 * (fsPa r : Rat) / 8)

/-- Whether one new reference fails its nominal or its change limit (R109). -/
def refOff (new old nominal : Rat) (limit : Rat) (byOld : Bool) : Bool :=
  let base := if byOld then old else nominal
  decide (limit * |base| < |new - base|)

/-- The check of R109 that a group's range fails: 1 zero, 2 nominal, 3 change, 0 none. -/
def Grp.sysCheck (g : Grp) (r : Nat) : Nat :=
  let z := g.zero.getD r 0
  let new := ((g.points.getD r none)).getD (0, 0)
  let old := g.ref r
  let nom : Rat × Rat := ((fsPa r : Rat) / 8, 7 * (fsPa r : Rat) / 8)
  if (fsPa r : Rat) / 1000 < |z| then 1
  else if refOff new.1 old.1 nom.1 (1 / 100) false ∨ refOff new.2 old.2 nom.2 (1 / 100) false then 2
  else if refOff new.1 old.1 nom.1 (2 / 1000) true ∨ refOff new.2 old.2 nom.2 (2 / 1000) true then 3 else 0

/-- The first group, range and check that fail (R109). -/
def State.sysFail (s : State) (comp : Nat) : Option (Nat × Nat × Nat) :=
  ((grpsOf comp).flatMap (fun g => (List.range 4).map (fun r => (g, r, (s.grp g).sysCheck r)))).find? (fun q => q.2.2 != 0)

/-- The SYSTEM record of every group of a compartment with a result (R112), the latest 16 kept. -/
def State.sysRecord (s : State) (comp result : Nat) : State :=
  (grpsOf comp).foldl (fun s g => s.modGrp g (fun x =>
    let last := x.system.getD 0 {}
    { x with system := (({ last with
        result := result, attempt := s.datum.t
        count := if result = 0 then last.count + 1 else last.count
        success := if result = 0 then s.datum.t else last.success } : CalRec) :: x.system).take 16 })) s

/-- The calibration of a compartment is over, and its rotation resumes where it is enabled. -/
def State.endSys (s : State) (comp : Nat) : State :=
  let s1 := (s.wrBit .cal_syscal_status_active comp false).modCpt comp (fun c => { c with step := none })
  if (s.rd .cal_rot_ctrl_en 0).testBit comp then s1.resumeRotation comp else s1

/-- The present elements of a compartment without a calibration record (R110). -/
def State.uncalibrated (s : State) (n : Nat) : List Nat := (elemsOf n).filter (fun e => s.present e && !s.hasCal e)

/-- SYSCAL_STEP_END (R109, R110): the calibration is judged; accepted, the new references are stored and apply after each
group's next accepted position, the rotation resumes, and elements without a record are to be swept. -/
def execSyscalStepEnd (h : Hdr) (comp : Nat) (s : State) : Result :=
  .next (s.checked h (syscalChecks h (3 < comp) ++ [(s.outOfOrder comp 6, .notPermitted)])
    (fun s =>
      match s.sysFail comp with
      | some (g, r, c) =>
        let s1 := ((s.wr .cal_syscal_status_fail_group comp g).wr .cal_syscal_status_fail_range comp r).wr
          .cal_syscal_status_fail_check comp c
        (((s1.sysRecord comp 4).endSys comp).report { src := 0x15, objKind := 10, obj := g, detail := 4 }).status h .calRejected
      | none =>
        if s.flashRefused then ((s.countRefused).endSys comp).status h .tempInhibit
        else
          let s1 := (grpsOf comp).foldl (fun s g => s.modGrp g (fun x => { x with
            newRefs := some ((List.range 4).map (fun r => (x.points.getD r none).getD (x.ref r))) })) s
          let s2 := ((s1.sysRecord comp 0).endSys comp).wr .cal_syscal_status_step comp 7
          let s3 := (s2.wr .cal_syscal_status_fail_check comp 0)
          ({ s3 with loop := { s3.loop with calWant := (s3.loop.calWant ++ s.uncalibrated comp).dedup } }).status h .ok))

/-- SYSCAL_STEP_ABORT (R107): the calibration is abandoned; a measuring step in progress completes with CAL_REJECTED. -/
def execSyscalStepAbort (h : Hdr) (comp : Nat) (s : State) : Result :=
  .next (s.checked h (syscalChecks h (3 < comp) ++ [(!s.bit .cal_syscal_status_active comp, .notPermitted)])
    (fun s =>
      let s1 := match (s.cpt comp).step with
        | some w => s.finish w.owner { status := .calRejected }
        | none => s
      (s1.abandonSys comp).status h .ok))

/-- SYSCAL_TIMEOUT (R107): 600 s without a step abandon the calibration. DESIGN CHOICE: they are counted from the admission of the
latest step to the admission of the next. -/
def execSyscalTimeout (n : Fin 4) (s : State) : Result :=
  .next (if s.bit .cal_syscal_status_active n ∧ 600000000000 ≤ (s.loop.frames - (s.cpt n).stepAt) * 1024 then s.abandonSys n
  else s)

/-! ## CAL_STATUS (R112, R225) -/

/-- The 32 bytes of a calibration record (R112). -/
def CalRec.bytes (r : CalRec) (kind obj : Nat) : List Nat :=
  [kind, r.result] ++ leBytes 2 obj ++ leBytes 4 r.count ++ timeBytes10 r.success ++ timeBytes10 r.attempt ++ leBytes 4 0

/-- The BACKGROUND record of an object number: a monitor, or 0x8000 + g (R112). -/
def State.backRecord (s : State) (obj : Nat) : List Nat :=
  (if obj < 0x8000 then ((s.grp (monGrp obj)).slice (obj % 32)).log else ((s.grp (obj - 0x8000)).slice 32).log).bytes 1 obj

/-- The SYSTEM records of a group, newest first; before any, the factory record. -/
def State.sysRecords (s : State) (g : Nat) : List (List Nat) :=
  (match (s.grp g).system with
   | [] => [({ result := 7 } : CalRec)]
   | l => l).map (fun (r : CalRec) => r.bytes 2 (0x8000 + g))

/-- The 64 bytes of an element calibration record (R225). -/
def ElCal.bytes (c : ElCal) (e : Nat) : List Nat :=
  leBytes 2 e ++ [c.flags, c.result] ++ leBytes 4 c.count ++ timeBytes10 c.success ++ timeBytes10 c.attempt
    ++ leBytes 4 c.ff0 ++ leBytes 4 c.ff1 ++ leBytes 2 (unsigned 16 c.ssp0) ++ leBytes 2 (unsigned 16 c.ssp1)
    ++ leBytes 4 c.s0 ++ leBytes 4 c.s1 ++ leBytes 4 c.k ++ leBytes 2 c.theta0 ++ leBytes 2 c.theta1 ++ leBytes 4 c.tco
    ++ leBytes 2 (unsigned 16 c.tCal) ++ [0, 0]

/-- The records that CAL_STATUS writes. -/
def State.calRecords (s : State) (kind first count : Nat) : List (List Nat) :=
  (span first count).flatMap (fun i =>
    if kind = 1 then [s.backRecord i] else if kind = 2 then s.sysRecords i else [(s.calRec i).bytes i])

/-- Whether the objects that CAL_STATUS names lie outside those of its kind (R387, R389). -/
def calRangeBad (kind first count : Nat) : Bool :=
  count < 1 || (if kind = 1 then !(first + count ≤ 6144 || (0x8000 ≤ first && first + count ≤ 0x8000 + 192))
    else if kind = 2 then 192 < first + count else 10240 < first + count)

/-- CAL_STATUS (R112, R226): records of the kind that FORM names. -/
def execCalStatus (h : Hdr) (kind first count buf : Nat) (s : State) : Result :=
  let l := s.calRecords kind first count
  .next (s.checked h
    [(kind < 1 || 3 < kind || calRangeBad kind first count || s.badBuf h buf 16 (if kind = 3 then 64 * count else 32 * l.length),
        .invalidField),
     ((kind == 1 && first < 0x8000 && !s.holdsMons h.mbx first count)
        || (kind == 1 && 0x8000 ≤ first && !s.holdsGrps h.mbx (first - 0x8000) count)
        || (kind == 2 && !s.holdsGrps h.mbx first count) || (kind == 3 && !s.holdsElems h.mbx first count),
        .outOfPartition)]
    (fun s => (s.hostWrite h buf l.flatten).complete h { status := .ok, res0 := l.length }))

end Sys2Proof.Machine
end

