-- ==== Sys2Proof/Machine/StandOps.lean ====
section
/-! DEFINITION. The operations of the Stands: surrender, handover, FROZEN, return, and fencing (R265 to R284). The loop state
that State holds is that of the baton holder; the shadow's copy equals it except where `recopy` or `copying` says so. -/

namespace Sys2Proof.Machine

/-- The Stands changed by `f`. -/
def State.modStand (s : State) (f : StandSt → StandSt) : State := { s with stand := f s.stand }

/-- Service of a compartment. -/
def State.svc (s : State) (n : Nat) : Svc := Tbl.get {} s.stand.svc n

/-- Service of a compartment changed by `f`. -/
def State.modSvc (s : State) (n : Nat) (f : Svc → Svc) : State :=
  s.modStand (fun t => { t with svc := Tbl.modify {} t.svc n f })

/-- The key of a register of a Stand. -/
def standKey (st i : Nat) : Nat := 65536 * st + i

/-- STATE of a Stand (R268). -/
def State.standState (s : State) (st : Nat) : Nat := s.rd .stx_stand_status_state (standKey st 0)

/-- STATE of a Stand set. -/
def State.setStand (s : State) (st v : Nat) : State := s.wr .stx_stand_status_state (standKey st 0) v

/-- The baton holder. -/
def State.holder (s : State) : Nat := s.rd .glb_baton_status_holder 0

/-- The other Stand. -/
def State.shadow (s : State) : Nat := 1 - s.holder

/-- Whether the shadow can take the baton (R268). -/
def State.eligible (s : State) : Bool := s.standState s.shadow == 2

/-- Whether the holder is FROZEN. -/
def State.frozen (s : State) : Bool := s.bit .glb_baton_status_frozen 0

/-- The ILK pins show the open write paths (R276). -/
def State.showIlk (s : State) : State :=
  (s.wrBit .glb_baton_status_ilk_a 0 s.stand.openA).wrBit .glb_baton_status_ilk_b 0 s.stand.openB

/-- The write path of a Stand opened or closed. -/
def State.path (s : State) (st : Nat) (b : Bool) : State :=
  (s.modStand (fun t => if st = 0 then { t with openA := b } else { t with openB := b })).showIlk

/-- Whether drives of the holder reach the Understory (R26). -/
def State.writesReach (s : State) : Bool :=
  !s.frozen && ((if s.holder = 0 then s.stand.openA else s.stand.openB) ||
    (match s.stand.handover with | some h => if h.src = 0 then s.stand.openA else s.stand.openB | none => false))

/-- The matching periods of a Stand's compartments cleared (R269). -/
def State.clearSync (s : State) (st : Nat) : State :=
  (List.range 4).foldl (fun s n => s.wr .stx_sync_sync_cnt (standKey st n) 0) s

/-- A Stand put OFFLINE under BRST (R268, R271). -/
def State.offline (s : State) (st : Nat) : State :=
  let s1 := (s.setStand st 0).clearSync st
  s1.modStand (fun t => { t with
    reset := if t.reset.contains st then t.reset else t.reset ++ [st]
    copying := match t.copying with | some c => if c.1 = st then none else some c | none => none
    recopy := [] })

/-! ## FROZEN (R272) -/

/-- The commands of an element that the freeze does not carry out complete with INTERNAL; a trajectory that no Clearing armed
stops where it stands; a range change that has not started is dropped; its window is cleared. -/
def State.freezeElem (s : State) (e : Nat) : State :=
  let x := s.el e
  let s1 := s.dropMove e .internal
  let s2 := match x.catchUp with
    | some (_, o) => s1.finishMove e o { status := .internal }
    | none => s1
  let s3 := match x.rchg with
    | some r => if r.started then s2 else s2.endRange e .internal
    | none => s2
  (if x.jump.isSome then s3.flush e else s3).modEl e (fun y => { y with
    winFrom := s.loop.frames, next := none
    catchUp := y.catchUp.map (fun c => (c.1, none))
    jump := y.jump.map (fun j => if j.clr.isSome then j else { j with ended := true }) })

/-- Every queued Clearing before its point of no return is cancelled for want of a Stand (R272). -/
def State.cancelAll (s : State) : State :=
  (s.trv.queue.filter (fun c => !c.armed)).foldl (fun s c => s.cancelClr c .internal 3) s

/-- The holder enters FROZEN (R272): both paths closed, outputs hold, and what waits is not carried out; it is source 0x0E. -/
def State.freeze (s : State) (cause : Nat) : State :=
  let h := s.holder
  let s1 := ((s.path 0 false).path 1 false).setStand h 4
  let s2 := (s1.wrBit .glb_baton_status_frozen 0 true).wrBit .glb_baton_status_new 0 true
  let s3 := (if s2.standState s2.shadow = 0 then s2 else s2.offline s2.shadow).report
    { src := 0x0E, objKind := 6, obj := h, detail := cause }
  let s4 := s3.modStand (fun t => { t with handover := none, command := none })
  let s5 := match s.stand.command with
    | some (_, _, o) => s4.finishOpt o { status := .internal }
    | none => s4
  (s5.abandonSweeps (fun _ => true) false |>.loop.elems.map (fun p => p.1)).foldl (fun s e => s.freezeElem e)
    (s5.abandonSweeps (fun _ => true) false).cancelAll

/-! ## Handover (R271, R274 to R278) -/

/-- The baton passes to the shadow (R274): INTERLOCK cuts the outgoing path and waits for its confirmation; OVERLAP opens the
incoming path at once. The outgoing Stand takes STATE `out`. -/
def State.passBaton (s : State) (cause out : Nat) : State :=
  let src := s.holder
  let dst := s.shadow
  let overlap := s.bit .glb_baton_cfg_mode 0
  let s1 := ((s.setStand dst 3).wr .glb_baton_status_holder 0 dst).wr .glb_baton_status_last_cause 0 cause
  let s2 := (s1.inc .glb_baton_status_handovers 0).wrBit .glb_baton_status_new 0 true
  let s3 := if out = 0 then s2.offline src else (s2.setStand src out).clearSync src
  let s4 := if overlap then s3.path dst true else s3.path src false
  s4.modStand (fun t => { t with
    handover := some { cause := cause, src := src, dst := dst, overlap := if overlap then [0, 1, 2, 3] else [] } })

/-- The fault source of a cause of R271 (R435). -/
def causeSource (cause : Nat) : Nat :=
  match cause with | 3 => 0x09 | 4 => 0x08 | 5 => 0x0A | 6 => 0x0B | _ => 0x0C

/-- A cause of R271 in the holder acts (R271, R272): a surrender to an ELIGIBLE shadow, else FROZEN. -/
def State.surrender (s : State) (cause : Nat) : State :=
  if s.frozen then s
  else if s.eligible then
    let s1 := s.passBaton cause 0
    match s.stand.command with
    | some (_, _, o) => (s1.modStand (fun t => { t with command := none })).finishOpt o { status := .internal }
    | none => s1
  else s.freeze cause

/-- A cause of R271 detected in a Stand: DIAG shows it and it is reported; the shadow goes OFFLINE under BRST; the incoming
Stand of a running handover holds it; the holder surrenders or freezes. -/
def State.standFault (s : State) (st cause mask : Nat) : State :=
  let k := standKey st 0
  let s1 := s.wr .stx_stand_status_diag k (s.rd .stx_stand_status_diag k ||| 2 ^ (cause - 3))
  let s2 := s1.report { src := causeSource cause, objKind := 6, obj := st, detail := cause + 256 * mask }
  if s.standState st = 0 then s2
  else if st ≠ s.holder then s2.offline st
  else match s.stand.handover with
    | some h => s2.modStand (fun t => { t with handover := some { h with held := h.held ++ [cause] } })
    | none => s2.surrender cause

/-- A handover ends: the outgoing path is cut and the incoming one open; a cause held meanwhile acts (R271). -/
def State.endHandover (s : State) (h : Handover) : State :=
  let s1 := ((s.path h.src false).path h.dst true).modStand (fun t => { t with handover := none })
  match h.held with
  | c :: _ => s1.surrender c
  | [] => s1

/-- The first write of the incoming Stand to a compartment ends the overlap there (R274, R275). -/
def State.endOverlap (s : State) (n : Nat) : State :=
  match s.stand.handover with
  | some h =>
    if h.overlap.contains n then
      let h2 := { h with overlap := h.overlap.filter (fun x => x != n) }
      if h2.overlap = [] then s.endHandover h2 else s.modStand (fun t => { t with handover := some h2 })
    else s
  | none => s

/-- Whether both Stands' writes reach a compartment (R274, R275). -/
def State.overlapped (s : State) (n : Nat) : Bool := s.stand.handover.any (fun h => h.overlap.contains n)

/-- Writes that the Understory discarded, counted (R265, R275). -/
def State.countStale (s : State) (k : Nat) : State :=
  if k = 0 then s else s.wr .glb_baton_status_stale_drop 0 (min 2047 (s.rd .glb_baton_status_stale_drop 0 + k))

/-- Whether boundary `b` is later than boundary `a` (R265). -/
def laterIdx (a b : Nat) : Bool := let d := (b + 2 ^ 24 - a) % 2 ^ 24; 1 ≤ d && d < 2 ^ 23

/-- Whether an element's channel applies a write of this boundary (R265, R275): one later than the last it applied, any where it has
applied none, and in an overlap one of equal boundary from the incoming Stand. -/
def State.applies (s : State) (e : Nat) : Bool :=
  let n := elemCpt e
  let b := Tbl.get 0 s.stand.index n
  match (s.el e).writeIdx with
  | none => true
  | some a => laterIdx a b || (a == b && s.overlapped n)

/-! ## Return (R270, R273) -/

/-- The longest loop period of any compartment, in frames. -/
def State.slowest (s : State) : Nat := ((List.range 4).map (fun n => s.period n)).foldl max 0

/-- An OFFLINE Stand starts to copy the loop state, SYNCING from the start (R270); a return that has not ended by its deadline ends then
(R278). -/
def State.startCopy (s : State) (st : Nat) (owner : Option Owner) : State :=
  ((s.setStand st 1).clearSync st).modStand (fun t => { t with
    copying := some (st, [0, 1, 2, 3]), reset := t.reset.filter (fun x => x != st)
    returnBy := t.returnBy ++ [(owner, s.loop.frames + 256 * s.slowest)] })

/-- Every return ends with its Stand ELIGIBLE, or holding the baton (R273, R278). -/
def State.returned (s : State) : State :=
  s.stand.returnBy.foldl (fun s r => s.finishOpt r.1 { status := .ok }) (s.modStand (fun t => { t with returnBy := [] }))

/-- A compartment copied at its boundary, by a returning Stand (R270) or after a mismatch (R269). -/
def State.copyCpt (s : State) (n : Nat) : State :=
  s.modStand (fun t => { t with
    copying := t.copying.map (fun c => (c.1, c.2.filter (fun x => x != n)))
    recopy := t.recopy.filter (fun x => x != n) })

/-- The shadow's checksum of a compartment compared with the holder's (R269). -/
def State.syncCheck (s : State) (n : Nat) (mismatch : Bool) : State :=
  let sh := s.shadow
  let k := standKey sh n
  if s.frozen ∨ s.fenced n ∨ !(s.standState sh = 1 ∨ s.standState sh = 2) ∨ s.stand.copying.isSome then s
  else if mismatch then
    let s1 := ((s.wr .stx_sync_sync_cnt k 0).sat .stx_stand_status_mismatch (standKey sh 0)).report
      { src := 0x0D, objKind := 6, obj := sh }
    (s1.setStand sh 1).modStand (fun t => { t with recopy := if t.recopy.contains n then t.recopy else t.recopy ++ [n] })
  else s.sat .stx_sync_sync_cnt k

/-- Whether every compartment that is not fenced has 64 matching periods (R269). -/
def State.synced (s : State) : Bool :=
  (List.range 4).all (fun n => s.fenced n || 64 ≤ s.rd .stx_sync_sync_cnt (standKey s.shadow n))

/-! ## Fencing (R281) -/

/-- One element at the fencing moment (R191, R281): it enters FENCED from any state but PARK; its moves end with FENCED. -/
def State.fenceElem (s : State) (e : Nat) : State :=
  let x := s.el e
  if x.state = 0 ∨ x.state = 6 then s.dropMove e .fenced
  else
    let s1 := s.dropMove e .fenced
    let s2 := match x.catchUp with
      | some (_, o) => s1.finishMove e o { status := .fenced }
      | none => s1
    let s3 := match x.rchg with
      | some r => if r.started then s2 else s2.endRange e .fenced
      | none => s2
    (((s3.flush e).setState e 6).modEl e (fun y => { y with
      fencedFrom := match x.jump with
        | some j => if j.goal = .frozen then 5 else if j.goal = .manualBack then 4 else x.state
        | none => x.state
      frozenTgt := x.loopTgt, jump := none, sched := none, next := none, catchUp := none, eps := 0
      suspectDue := false })).settled e

/-- The heaters of a compartment at high impedance (R156). -/
def State.openHeaters (s : State) (n : Nat) : State := (span (9216 + 256 * n) 256).foldl (fun s e => s.setHiz e true) s

/-- A compartment is fenced (R281, R441): its elements enter FENCED, precision windows and sweeps end, a system calibration in
it is abandoned, and its next fault raises INT again. -/
def State.fence (s : State) (n : Nat) (byFault : Bool) : State :=
  let s1 := ((s.wrBit .glb_cpt_svc_fenced n true).wrBit .glb_cpt_svc_by_fault n byFault).inc .glb_cpt_svc_fence_cnt n
  let s2 := { s1 with flt := { s1.flt with quiet := s1.flt.quiet.filter (fun x => x != n) } }
  let s3 := s2.abandonSweeps (fun e => elemCpt e == n) true
  let s4 := (((s3.loop.elems.filter (fun p => elemCpt p.1 == n)).map (fun p => p.1)).foldl (fun s e => s.fenceElem e) s3)
  let s5 := (s4.openHeaters n).abandonWins n
  if s5.bit .cal_syscal_status_active n then
    (match (s5.cpt n).step with
     | some w => s5.finish w.owner { status := .fenced }
     | none => s5).abandonSys n
  else s5

end Sys2Proof.Machine
end

