-- ==== Sys2Proof/Machine/ElemOps.lean ====
section
/-! DEFINITION. What elements do at boundaries: outputs at their clear codes, jumps back, scheduled transitions, returns,
the loss of a channel (R117, R122, R125, R126, R160, R186 to R194, R205, R207). -/

namespace Sys2Proof.Machine

/-! ## Elements and channels -/

/-- The output that a channel holds, as a drive (R187): a V-mode output, an H-mode channel's latest duty. -/
def State.heldDrive (s : State) (e : Nat) : Int :=
  if isV e ∧ !s.gateHeld e then (s.el e).out else (s.el e).drive

/-- The present elements of a compartment. -/
def State.cptPresent (s : State) (n : Nat) : List Nat := (elemsOf n).filter s.present

/-- Whether a V-mode channel waits for a first commit that R123 will bring (R122). -/
def State.awaits (s : State) (e : Nat) : Bool :=
  s.present e && isV e &&
    (if (s.el e).state = 0 then s.hasCal e && (s.el e).waiting else s.atClear e)

/-- CLEARED of a compartment shown (R122). -/
def State.showCleared (s : State) (n : Nat) : State :=
  s.wrBit .ust_vdac_ctrl_cleared n ((span (2304 * n) 2304).any s.awaits)

/-- Whether a clear code is limited as it is applied (R116, R122). -/
def State.clearClamps (s : State) (e : Nat) : Bool := decide (s.clearOf e < (s.rd .ust_vclr_code e : Int))

/-- A V-mode output moved to its clear code, without shaping or deglitching (R122, R124); one that is off stays off. -/
def State.toClear (s : State) (e : Nat) : State :=
  let v := s.clearOf e
  let s1 := (s.setCode e v).modEl e (fun x => { x with
    out := if s.vOff e then x.out else v, held := false, play := [], clamp := bit01 (s.clearClamps e) })
  if s.clearClamps e then s1.wrBit .ust_vdac_status_clamp e true else s1

/-- A channel released from OC or GTRIP returns to its clear code and awaits its first commit (R117, R118, R123). -/
def State.awaitCommit (s : State) (e : Nat) : State :=
  (s.modEl e (fun x => { x with waiting := true, readyAt := s.loop.frames })).toClear e

/-- An element that enters PARK without a move of its own (R20, R186): a V-mode output at its clear code, awaiting its first commit; an
H-mode channel at high impedance. -/
def State.park (s : State) (e : Nat) : State :=
  let s1 := (s.setState e 0).modEl e (fun y => { y with
    waiting := true, jump := none, sched := none, next := none, catchUp := none, fencedFrom := 0 })
  if isV e then s1.toClear e else s1.setHiz e true

/-- The duty word of an H-mode channel latched (R143, R171). -/
def State.setDuty (s : State) (e : Nat) (u : Int) : State :=
  (s.modEl e (fun x => { x with drive := u })).latchDuty e u

/-! ## Jumps back to a held value (R126, R186, R283) -/

/-- An element jumps back to its override value, or to its frozen drive, and is MANUAL or SUSPECT again at the end. -/
def State.backJump (s : State) (e from0 : Nat) : State :=
  let x := s.el e
  let v := if from0 = 4 then x.override else x.drive
  let vs := s.outputOf e
  s.startJump e vs v (decide (vs < s.limited e v)) (if from0 = 4 then .manualBack else .frozen) none none

/-- A jump from the clear code to a value under the profile of its direction (R126). -/
def State.jumpFrom (s : State) (e : Nat) (v : Int) (goal : JumpGoal) (owner : Option Owner) : State :=
  let vs := s.outputOf e
  s.startJump e vs v (decide (vs < s.limited e v)) goal owner none

/-- Whether a timed transition of an element may take place: a Stand computes, and neither CLR_N nor a trip holds it (R125, R159,
R272). -/
def State.mayMove (s : State) (e : Nat) : Bool :=
  !s.frozen && !s.loop.clrLow && !(isV e && s.clrHeld (elemCpt e)) && !(!isV e && s.heatHeld e) && !s.fenced (elemCpt e)

/-! ## What a boundary shows (R198) -/

/-- The FLAGS byte of an element's status (R198). -/
def State.statusFlags (s : State) (e : Nat) : Nat :=
  let x := s.el e
  (if (s.erec e).isCell then x.tgt else 0) + 2 * bit01 x.satHi + 4 * bit01 x.satLo + 8 * bit01 x.gap + 16 * bit01 (s.pilotOn e)
    + 32 * bit01 (isV e && s.bit .ust_vdac_status_clamp e) + 64 * bit01 (!isV e && s.bit .ust_hpwm_status_capped (hIdx e))
    + 128 * bit01 (isV e && s.rangeHi e)

/-- An element as a loop-period boundary shows it: in a fenced compartment with STATE FENCED. -/
def State.snapOf (s : State) (e : Nat) : Shown :=
  let x := s.el e
  { state := if s.fenced (elemCpt e) then 6 else x.state, flags := s.statusFlags e, drive := x.drive.toNat % 2 ^ 20
    integ := x.integ, eps := x.eps, sigma := x.sigma, quad := x.quad, q := x.q, nv := x.nv, coefSet := x.coefSet
    since := x.since, supCnt := x.supCnt, supChecks := x.supChecks, supDark := x.dark, supExcused := x.supExcused
    uopt := roundRat (x.uopt.getD 0) }

/-- What the latest boundary showed of an element; one that is not present reads as PARK with nothing (R51). -/
def State.shownOf (s : State) (e : Nat) : Shown := if s.present e then Tbl.get {} s.loop.shown e else {}

/-- An element shown. -/
def State.snapEl (s : State) (e : Nat) : State :=
  s.modLoop (fun l => { l with shown := Tbl.set {} l.shown e (s.snapOf e) })

/-- The present elements of a compartment shown at its boundary. -/
def State.snapCpt (s : State) (n : Nat) : State := (s.cptPresent n).foldl (fun s e => s.snapEl e) s

/-- Whether the compartment's boundary on this frame has been dealt with. -/
def State.ran (s : State) (n : Nat) : Bool := decide ((s.cpt n).ranAt = some s.loop.frames)

/-- An element that a transition changes on a boundary that has been dealt with is shown again. -/
def State.resnapEl (s : State) (e : Nat) : State := if s.ran (elemCpt e) then s.snapEl e else s

/-- The elements of a compartment that transitions change on a boundary that has been dealt with are shown again. -/
def State.resnapCpt (s : State) (n : Nat) : State := if s.ran n then s.snapCpt n else s

/-- The element of H-mode channel `h`. -/
def hElem (h : Nat) : Nat := 9216 + h

/-! ## Power cap (R34, R164 to R167) -/

/-- The supply limit of R34 in 0.01 W: 48 W from 8 V, else VACT × 6 A; 0 W until the first housekeeping round (R455). -/
def State.supplyCap (s : State) : Nat :=
  if !s.bit .hkp_status_first_done 0 then 0
  else if 8000 ≤ s.rd .hkp_sup_status_v 0 then 4800 else s.rd .hkp_sup_status_v 0 * 6 / 10

/-- The on-current of a channel in 0.25 mA: the one measured, or 33 mA. -/
def State.onCurrent (s : State) (h : Nat) : Nat := if (s.hc (hElem h)).measured then s.rd .ust_hpwm_status_ion h else 132

/-- The commanded power in W (R165). -/
def State.pCmd (s : State) : Rat :=
  let vact : Nat := if s.bit .hkp_status_first_done 0 then s.rd .hkp_sup_status_v 0 else 0
  let on := (s.listed .ust_hpwm_status_hiz).filter (fun h => !s.bit .ust_hpwm_status_hiz h)
  (vact : Rat) / 1000 * (on.map (fun h => ((s.onCurrent h : Rat) / 4000) * (s.hc (hElem h)).duty / 65536)).sum

/-- CAP_ACT, P_CMD and SCALE formed afresh (R164, R165); SCALE is truncated. -/
def State.powerCap (s : State) : State :=
  let a := s.supplyCap
  let p := min 4800 (s.rd .glb_hcap_cap_prog 0)
  let t := s.rd .hkp_thr_status_p_therm 0
  let cap : Nat := min a (min p t)
  let lim := if cap = a then 0 else if cap = p then 1 else 2
  let w := s.pCmd
  let sc : Nat := if w * 100 ≤ (cap : Rat) then 32768 else ((cap : Rat) * 32768 / (w * 100)).floor.toNat
  (((s.wr .glb_hcap_status_cap_act 0 cap).wr .glb_hcap_status_limit 0 lim).wr .glb_hcap_load_p_cmd 0
    (min 65535 (w * 10).floor.toNat)).wr .glb_hcap_load_scale 0 sc

/-! ## Scheduled transitions (R186, R191, R193, R194, R207) -/

/-- The return of a SUSPECT element to service (R207). -/
def State.returnElem (s : State) (e : Nat) (owner : Option Owner) : State :=
  let x := s.el e
  let s0 := s.supEvent e 4 0
  if isV e ∧ s.atClear e then s0.jumpToTarget e owner none
  else if isV e then
    let changed := x.frozenTgt != x.tgt
    let s1 := (s0.modEl e (fun y => { y with catchUp := if changed then some (s.loop.frames, owner) else none })).enterSettle e
      x.dGood
    if changed then s1 else s1.finishMove e owner { status := .ok }
  else
    let d := s0.limited e (s0.targetDrive e x.tgt)
    let s1 := s0.enterSettle e d
    ((s1.setHiz e (s1.hizNow e)).setDuty e d).finishMove e owner { status := .ok }

/-- A scheduled transition takes place at this boundary (R186). -/
def State.runSched (s : State) (e : Nat) (k : Sched) (owner : Option Owner) : State :=
  let x := s.el e
  let s0 := s.modEl e (fun y => { y with sched := none })
  match k with
  | .override v =>
    let s1 := match x.catchUp with
      | some (_, o) => (s0.finishMove e o { status := .busy }).modEl e (fun y => { y with catchUp := none })
      | none => s0
    ((s1.leaveTarget e).startJump e (s1.outputOf e) v (decide (s1.outputOf e < v)) .override owner none).modEl e
      (fun y => { y with override := v })
  | .release =>
    if x.state ≠ 4 then s0.finishOpt owner { status := .ok }
    else if s0.hasCal e then s0.jumpToTarget e owner none
    else s0.jumpFrom e (s0.clearOf e) .clearPark owner
  | .setpoint ff ssp =>
    let s1 := s0.modEl e (fun y => { y with
      ffc := some ff, ssp := match ssp with | some v => some v | none => y.ssp })
    if x.state = 1 ∨ x.state = 2 then s1.jumpToTarget e owner none else s1.finishOpt owner { status := .ok }
  | .sigma v => (s0.modEl e (fun y => { y with ssp := some v })).finishOpt owner { status := .ok }
  | .return => if x.state = 5 then s0.returnElem e owner else s0.finishOpt owner { status := .ok }

/-! ## The return from a clear code (R123, R126) -/

/-- The jump by which an element returns from its clear code (R126): to the drive it held or to its new target; one in MANUAL or
SUSPECT back to its value; a move toward an override goes on (R191). -/
def State.returnJump (s : State) (e : Nat) : State :=
  let x := s.el e
  match x.state, x.jump with
  | 4, _ => s.backJump e 4
  | 5, _ => s.backJump e 5
  | 1, _ | 2, _ =>
    if x.retgt then
      (s.jumpToTarget e (match x.catchUp with | some (_, o) => o | none => none) none).modEl e (fun y => { y with catchUp := none })
    else s.jumpFrom e x.drive .target none
  | 3, some j =>
    if j.goal = .target ∧ x.retgt then s.jumpToTarget e j.owner none
    else s.jumpFrom e (if j.goal = .clearPark then s.clearOf e else j.vt) j.goal j.owner
  | _, _ => s

/-- An element returns from its clear code (R125, R126): a transition that waits makes its own jump, where it has one. -/
def State.fromClear (s : State) (e : Nat) : State :=
  let x := s.el e
  let s1 := match x.sched with
    | some (k, _, o) => if x.state = 3 then s else s.runSched e k o
    | none => s
  let moved := x.state != 3 && (s1.el e).state == 3
  (if moved then s1 else s1.returnJump e).modEl e (fun y => { y with retgt := false })

/-! ## The loss of a channel (R117, R162, R205) -/

/-- An element whose channel is lost enters SUSPECT from a running state; its commands complete with BUSY (R191), a sweep of
it stops. -/
def State.loseElem (s : State) (e event : Nat) : State :=
  let x := s.el e
  if 1 ≤ x.state ∧ x.state ≤ 4 then
    let s1 := { s with loop := { s.loop with sweeps := s.loop.sweeps.filter (fun w => w.elem != e) } }.showSweeps
    let s2 := match x.catchUp with
      | some (_, o) => s1.finishMove e o { status := .busy }
      | none => s1
    (((s2.dropMove e .busy).enterSuspect e x.drive).supEvent e event 0).settled e
  else s

/-! ## Counting, and what the map gives (R55, R116, R203) -/

/-- An element's SUSPECT entry by verdict counted (R203). -/
def State.countSuspect (s : State) (e : Nat) : State :=
  let n := elemCpt e
  ((s.sat .stx_sup_status_sus_cnt n).wr .stx_sup_status_last_elem n e).wrBit .stx_sup_status_new n true

/-- A comparator side of a monitor whose threshold is 0 is not asserted (R92): a side that was is released, which is reported as
source 0x12 (R94). -/
def State.disarm (s : State) (m : Nat) : State :=
  let lo := s.bit .ust_mon_cfg_cmp_low m && s.rd .ust_mon_cmp_low_na m == 0
  let hi := s.bit .ust_mon_cfg_cmp_high m && s.rd .ust_mon_cmp_high_na m == 0
  let s1 := if lo then (s.wrBit .ust_mon_cfg_cmp_low m false).report { src := 0x12, objKind := 2, obj := m } else s
  let s2 := if hi then (s1.wrBit .ust_mon_cfg_cmp_high m false).report { src := 0x12, objKind := 2, obj := m } else s1
  { s2 with loop := { s2.loop with mons := Tbl.modify {} s2.loop.mons m (fun x => { x with
    lowCnt := if s.rd .ust_mon_cmp_low_na m = 0 then 0 else x.lowCnt
    highCnt := if s.rd .ust_mon_cmp_high_na m = 0 then 0 else x.highCnt }) } }

/-- RANGE and LOW_NA of a compartment's monitors as the map gives them (R55, UST_MON_CFG, UST_MON_CMP). -/
def State.loadMons (s : State) (n : Nat) : State :=
  let s1 := s.resetRegs (fun f i => (f == .ust_mon_cfg_range || f == .ust_mon_cmp_low_na) && monCpt i == n)
  let s2 := match s.map.force with
  | some m => (span (1536 * n) 1536).foldl (fun s x =>
      (s.wr .ust_mon_cfg_range x (m.mon x).initRange).wr .ust_mon_cmp_low_na x (m.mon x).lolNa) s1
  | none => s1
  ((s.listed .ust_mon_cfg_cmp_low).filter (fun x => monCpt x == n)).foldl (fun s x => s.disarm x) s2

/-- RANGE and RANGE_ACT of every V-mode channel as the map gives them (UST_VDAC_CFG, UST_VDAC_STATUS). -/
def State.loadRanges (s : State) : State :=
  let s1 := s.resetRegs (fun f _ => f == .ust_vdac_cfg_range || f == .ust_vdac_status_range_act)
  (s.theMap.elems.filter (fun p => isV p.1 && p.2.rangeHi)).foldl (fun s p =>
    (s.wrBit .ust_vdac_cfg_range p.1 true).wrBit .ust_vdac_status_range_act p.1 true) s1

/-- The profiles of a compartment as flash holds them (R142). -/
def State.loadProfs (s : State) (n : Nat) : State :=
  (List.range 16).foldl (fun s p => s.putProf (profIdx n p) (Tbl.get {} s.loop.profs (profIdx n p))) s

/-- A change that moves the pilot amplitude of an element in FDU: the amplitude before and after is noted, with the frame from
which it acts (R174). -/
def State.noteAmp (s : State) (e : Nat) (change : State → State) : State :=
  let t := change s
  t.modEl e (fun x => { x with ampLog :=
    ((s.loop.frames, t.ampFdu e) :: (if x.ampLog = [] then [(0, s.ampFdu e)] else x.ampLog)).take 80 })

/-- The amplitude in FDU that was in force at a frame. -/
def State.ampAt (s : State) (e f : Nat) : Nat :=
  match (s.el e).ampLog.find? (fun p => p.1 ≤ f) with
  | some p => p.2
  | none => match (s.el e).ampLog.getLast? with
    | some p => p.2
    | none => s.ampFdu e

/-! ## The Understory registers of a compartment (R282) -/

/-- Whether a field stands between two fields of the register tables. -/
def Fid.between (a b f : Fid) : Bool := a.ctorIdx ≤ f.ctorIdx && f.ctorIdx ≤ b.ctorIdx

/-- The compartment that a UST register field belongs to. -/
def ustCpt (f : Fid) (i : Nat) : Option Nat :=
  if Fid.between .ust_mon_cfg_range .ust_mon_result_word f then some (monCpt i)
  else if Fid.between .ust_vdac_cfg_range .ust_vclr_code f then some (elemCpt i)
  else if Fid.between .ust_vdac_ctrl_dgl_thr .ust_vdac_ctrl_gtrip_cnt f then some i
  else if Fid.between .ust_profile_count .ust_profile_a3 f then some (i / 16)
  else if Fid.between .ust_hpwm_cfg_per .ust_hpwm_act_b_act f then some (elemCpt (9216 + i))
  else if Fid.between .ust_htrip_cmp_en .ust_htrip_refused f then some i
  else if Fid.between .stx_cpt_cnt_cnt_lo .stx_cpt_cnt_cnt_hi f then some (i % 65536 / 4)
  else none

/-- What CRST restores of a compartment's registers: all but the clear codes and the ranges of its channels (R282). -/
def crstField (n : Nat) (f : Fid) (i : Nat) : Bool :=
  decide (ustCpt f i = some n) && f != .ust_vclr_code && f != .ust_vdac_cfg_range && f != .ust_vdac_status_range_act

end Sys2Proof.Machine
end

