-- ==== Sys2Proof/Machine/Stand.lean ====
section
/-! DEFINITION. The commands and events of the Stands and of compartment service (file 09): surrender, handover, return,
fence, reset, rejoin. -/

namespace Sys2Proof.Machine

/-! ## Causes of R271 -/

/-- STAND_ECC_ERROR (R271): cause 4. -/
def execStandEccError (st : Fin 2) (s : State) : Result := .next (s.standFault st 4 0)

/-- WRITE_PATH_PARITY (R271): cause 5. -/
def execWritePathParity (st : Fin 2) (s : State) : Result := .next (s.standFault st 5 0)

/-- HEARTBEAT_MISSING (R271): cause 6, found of the Stand that holds the baton. -/
def execHeartbeatMissing (s : State) : Result := .next (s.standFault s.holder 6 0)

/-- STAND_CLOCK_FAULT (R271): cause 7. -/
def execStandClockFault (st : Fin 2) (s : State) : Result := .next (s.standFault st 7 0)

/-- CLKREF_LOSS (R271, R500): cause 7 for both Stands, the shadow first, so that no Stand can take the baton; ERR_N is asserted
nothing is
admitted any more, and every chain link drops. -/
def execClkrefLoss (s : State) : Result :=
  .next (if !s.boot.clkref then s
  else
    let s1 := { s with boot := { s.boot with clkref := false }, host := { s.host with admission := false } }
    let s2 := (s1.standFault s1.shadow 7 0).standFault s1.holder 7 0
    let s3 := ((s2.wrBit .flt_err_latch 0 true)).driveErr
    (List.range 4).foldl (fun s p => if s.linkUp p then s.takeLinkDown p false else s) s3)

/-! ## Handover (R274 to R278) -/

/-- INTERLOCK_CONFIRM (R274): the cut is confirmed on the outgoing Stand's pin; the incoming path is open from here, and an
overlap ends. -/
def execInterlockConfirm (s : State) : Result :=
  .next (match s.stand.handover with
  | some h => s.endHandover h
  | none => s)

/-- INTERLOCK_TIMEOUT (R274): a cut not confirmed within 2.0 µs leaves both paths closed; the incoming Stand holds the baton,
FROZEN. In OVERLAP no confirmation is awaited. -/
def execInterlockTimeout (s : State) : Result :=
  .next (match s.stand.handover with
  | some h => if h.overlap = [] then s.freeze (if h.cause < 3 ∨ h.cause = 8 then 0 else h.cause) else s
  | none => s)

/-- ILK_FORCE (R276): a forced handover while EXT_EN is 1; one that finds no ELIGIBLE shadow is counted. -/
def execIlkForce (s : State) : Result :=
  .next (if !s.bit .glb_baton_cfg_ext_en 0 ∨ s.standState s.holder ≠ 3 then s
  else if s.eligible ∧ s.stand.handover = none then s.passBaton 2 1
  else s.sat .glb_baton_status_ign_cnt 0)

/-- FW_ACTIVATE ends with INTERNAL (R287): the shadow reloads the kernel of the active bank; a baton that has passed is to be given
back. -/
def State.failActivation (s : State) : State :=
  let st := s.shadow
  let back := s.boot.actStep == 5
  let s1 := s.offline st
  ({ s1 with boot := { s1.boot with actStep := if back then 8 else 0, actOwner := none } }.wrBit .boot_status_activating 0 false).finishOpt
    s.boot.actOwner { status := .internal }

/-- COMMANDED_HANDOVER (R278, R286): at the chosen boundary the baton passes to the shadow; the former holder goes on as shadow,
or in a firmware activation is the next to be reloaded. DEDUCED: step 3 of an activation that then finds no ELIGIBLE shadow
ends it as step 2 would have (R287). -/
def execCommandedHandover (s : State) : Result :=
  .next (match s.stand.command with
  | some (f, cause, o) =>
    if s.loop.frames < f + 2 ∨ s.frame % 40 ≠ 0 then s
    else
      let s1 := s.modStand (fun t => { t with command := none })
      if !s.eligible then (if s.boot.actStep = 3 then s1.failActivation else s1.finishOpt o { status := .internal })
      else
        let s2 := (s1.passBaton cause (if cause = 8 then 0 else 1)).finishOpt o { status := .ok }
        if cause = 8 then { s2 with boot := { s2.boot with actStep := if s2.boot.actStep = 3 then 4 else 0 } } else s2
  | none => s)

/-- Whether a handover, a return or a firmware activation is in progress (R278). -/
def State.standBusy (s : State) : Bool :=
  s.stand.handover.isSome || s.stand.command.isSome || s.stand.copying.isSome || s.stand.returnBy != []
    || s.boot.actStep != 0

/-- STAND_HANDOVER, HANDOVER (R278). -/
def execStandHandoverHandover (h : Hdr) (s : State) : Result :=
  .next (s.checked h [(h.mbx != 0, .notPermitted), (!s.eligible || s.frozen, .notPermitted), (s.standBusy, .busy)]
    (fun s => (s.entered h).modStand (fun t => { t with command := some (s.loop.frames, 1, some ((s.entered h).ownerOf h)) })))

/-- STAND_HANDOVER, RETURN (R270, R278): the OFFLINE Stand starts to copy; the command completes when it is ELIGIBLE. -/
def execStandHandoverReturn (h : Hdr) (s : State) : Result :=
  .next (s.checked h [(h.mbx != 0, .notPermitted), (s.standState s.shadow != 0, .notPermitted)]
    (fun s => (s.entered h).startCopy s.shadow (some ((s.entered h).ownerOf h))))

/-- STAND_HANDOVER, RELEASE (R278): the shadow goes OFFLINE under BRST, for service. -/
def execStandHandoverRelease (h : Hdr) (s : State) : Result :=
  .next (s.checked h [(h.mbx != 0, .notPermitted),
      (s.frozen || !(s.standState s.shadow == 1 || s.standState s.shadow == 2), .notPermitted)]
    (fun s => (s.offline s.shadow).status h .ok))

/-! ## Return (R269, R270, R273) -/

/-- STAND_COPY_COMPLETE (R270, R273): the copy of every compartment is made. A Stand that returns to a FROZEN module takes the
baton at once; the FROZEN one goes OFFLINE under BRST. -/
def execStandCopyComplete (s : State) : Result :=
  .next (match s.stand.copying with
  | some (st, []) =>
    let s1 := s.modStand (fun t => { t with copying := none })
    if s.frozen then
      let old := s.holder
      let s2 := ((s1.setStand st 3).wr .glb_baton_status_holder 0 st).wrBit .glb_baton_status_frozen 0 false
      let s3 := ((s2.offline old).path old false).path st true
      (s3.modStand (fun t => { t with resume := [0, 1, 2, 3] })).returned
    else s1
  | _ => s)

/-- STAND_ELIGIBLE (R269, R286): the shadow's compartments match for 64 periods; a return ends, and a firmware activation goes
on to its handover or to Forester. -/
def execStandEligible (s : State) : Result :=
  .next (if s.standState s.shadow ≠ 1 ∨ s.stand.copying.isSome ∨ !s.synced ∨ s.frozen then s
  else
    let s1 := (s.setStand s.shadow 2).returned
    match s.boot.actStep with
    | 2 => { s1 with
        boot := { s1.boot with actStep := 3 }
        stand := { s1.stand with command := some (s.loop.frames, 8, none) } }
    | 5 => { s1 with boot := { s1.boot with actStep := 6, actAt := s1.loop.frames } }
    | 8 => { s1 with stand := { s1.stand with command := some (s.loop.frames, 8, none) } }
    | _ => s1)

/-- An element at the first boundary after a take-over from a FROZEN holder (R273). -/
def State.resumeElem (s : State) (e : Nat) : State :=
  let x := s.el e
  if 1 ≤ x.state ∧ x.state ≤ 3 then
    (((s.dropMove e .internal).enterSettle e (s.heldDrive e)).settled e)
  else s

/-- TAKEOVER_RESUME (R273): at a compartment's first boundary after the take-over. -/
def execTakeoverResume (n : Fin 4) (s : State) : Result :=
  .next (if !s.stand.resume.contains n.val ∨ !s.atBoundary n then s
  else
    let s1 := s.modStand (fun t => { t with resume := t.resume.filter (fun x => x != n.val) })
    ((s1.loop.elems.map (fun p => p.1)).filter (fun e => elemCpt e == n.val)).foldl (fun s e => s.resumeElem e) s1)

/-! ## Compartment service (R280 to R283) -/

/-- Whether a reset or a rejoin of a compartment is in progress (R280). -/
def State.svcBusy (s : State) (n : Nat) : Bool := (s.svc n).reset.isSome || (s.svc n).rejoin.isSome

/-- The checks common to the actions of COMPARTMENT_SERVICE (R280). -/
def svcChecks (h : Hdr) (comp : Nat) : List (Bool × Status) := [(3 < comp, .invalidField), (h.mbx != 0, .notPermitted)]

/-- COMPARTMENT_SERVICE, FENCE (R280, R281): completes at the fencing boundary. -/
def execCompartmentServiceFence (h : Hdr) (comp : Nat) (s : State) : Result :=
  .next (s.checked h (svcChecks h comp ++ [(s.fenced comp, .fenced)])
    (fun s => (s.entered h).modSvc comp (fun v => { v with
      fenceAt := match v.fenceAt with
        | some (f, l) => some (f, l ++ [(s.entered h).ownerOf h])
        | none => some (s.loop.frames, [(s.entered h).ownerOf h]) })))

/-- COMPARTMENT_SERVICE, RESET (R280, R282): asks for CRST. -/
def execCompartmentServiceReset (h : Hdr) (comp : Nat) (s : State) : Result :=
  .next (s.checked h (svcChecks h comp ++ [(!s.fenced comp, .notPermitted), (s.svcBusy comp, .busy)])
    (fun s => (s.entered h).modSvc comp (fun v => { v with reset := some ((s.entered h).ownerOf h) })))

/-- COMPARTMENT_SERVICE, REJOIN (R280, R283): the rejoin pass of R102 starts. -/
def execCompartmentServiceRejoin (h : Hdr) (comp : Nat) (s : State) : Result :=
  .next (s.checked h (svcChecks h comp ++ [(!s.fenced comp, .notPermitted), (s.svcBusy comp, .busy)])
    (fun s =>
      let o := (s.entered h).ownerOf h
      let s1 := ((s.entered h).modSvc comp (fun v => { v with rejoin := some o, passed := false })).modCpt comp
        (fun c => { c with pass := true, passFrom := s.loop.frames })
      (s1.wrBit .glb_cpt_svc_rejoining comp true).effect o))

/-- The commands that wait for a compartment's fence complete. -/
def State.fenceDone (s : State) (n : Nat) : State :=
  match (s.svc n).fenceAt with
  | some (_, l) => l.foldl (fun s o => s.finish o { status := .ok }) (s.modSvc n (fun v => { v with fenceAt := none }))
  | none => s

/-- COMPARTMENT_FENCE (R281, R441): a fault fence acts on whatever boundary follows; one of a compartment already fenced only
abandons its rejoin. A commanded fence acts at the first loop-period boundary at least 2 frames after admission. -/
def execCompartmentFence (n : Fin 4) (s : State) : Result :=
  .next (if s.flt.fencePending.contains n.val then
    let s1 := { s with flt := { s.flt with fencePending := s.flt.fencePending.filter (fun x => x != n.val) } }
    if s.fenced n then
      if (s.svc n).rejoin.isSome then (s1.failRejoin n).modCpt n (fun c => { c with pass := false }) else s1
    else (s1.fence n true).fenceDone n
  else match (s.svc n).fenceAt with
    | some (f, _) => if s.nextBoundary n f then (s.fence n false).fenceDone n else s
    | none => s)

/-- The loop state of an element that CRST restores, with the boundary of its channel's latest write (R265); what R182, R189 and R281 keep stays. -/
def Elem.crst (x : Elem) : Elem :=
  { x with integ := 0, sigma := 0, quad := 0, q := 0, nv := 0, eps := 0, gap := false, dark := false, satHi := false, satLo := false,
           supCnt := 0, supChecks := 0, supExcused := false, uopt := none, amp := 64, ampLog := [], held := false
           play := [], epsSup := 0, clipHi := false, clipLo := false, writeIdx := none }

/-- The V-mode channels of a compartment that OC or a group trip holds off: CRST releases them to their clear codes (R282). -/
def State.crstFreed (s : State) (n : Nat) : List Nat := (span (2304 * n) 2304).filter s.vOff

/-- CRST (R282): once every running range change of the compartment has ended, its Understory registers are restored but the
clear codes and ranges; outputs hold; profiles and monitor settings come from flash and map; channels held off by OC or
GTRIP go to their clear codes. -/
def execCrst (n : Fin 4) (s : State) : Result :=
  .next (if s.flt.drstPending ∨ (s.svc n).reset = none ∨ s.bit .glb_cpt_svc_in_crst n
      ∨ s.loop.elems.any (fun p => elemCpt p.1 == n.val && (match p.2.rchg with | some r => r.started | none => false)) then s
  else
    let freed := s.crstFreed n
    let s1 := (s.resetRegs (crstField n)).modLoop (fun l => { l with
      tripped := l.tripped.filter (fun g => g / 48 != n.val)
      shown := l.shown.filter (fun p => elemCpt p.1 != n.val)
      elems := (l.elems.filter (fun p => elemCpt p.1 == n.val)).foldl (fun t p => Tbl.set {} t p.1 p.2.crst) l.elems
      mons := (l.mons.filter (fun p => monCpt p.1 == n.val)).foldl (fun t p => Tbl.set {} t p.1 {}) l.mons
      hch := l.hch.filter (fun p => elemCpt p.1 != n.val) })
    let s2 := (((s1.wrBit .glb_cpt_svc_in_crst n true).inc .glb_cpt_svc_crst_cnt n).loadProfs n).loadMons n
    let s3 := s2.modCpt n (fun c => { c with resumeAt := none })
    ((freed.foldl (fun s e => (s.awaitCommit e).wr .ust_vdac_status_code e 0) s3)).showCleared n)

/-- CRST_COMPLETE (R282): the reset ends, and RESET completes. -/
def execCrstComplete (n : Fin 4) (s : State) : Result :=
  .next (if !s.bit .glb_cpt_svc_in_crst n then s
  else
    let o := (s.svc n).reset
    ((s.wrBit .glb_cpt_svc_in_crst n false).modSvc n (fun v => { v with reset := none })).finishOpt o
      { status := .ok })

/-- A rejoined element's output is at its clear code and must stay there: CLR_N holds it, or its channel is off. Its jump follows
with the event that frees it. -/
def State.jumpWaits (s : State) (e : Nat) : Bool := s.clrHeld (elemCpt e) || s.vOff e

/-- A V-mode element at a rejoin (R283): the first row that fits. -/
def State.rejoinV (s : State) (e : Nat) : State :=
  let x := s.el e
  let moved := x.frozenTgt != x.tgt
  if x.fencedFrom = 4 ∨ x.fencedFrom = 5 then
    if s.atClear e ∧ !s.jumpWaits e then s.backJump e x.fencedFrom else s.setState e x.fencedFrom
  else if !s.hasCal e then s.park e
  else if s.atClear e then
    if s.jumpWaits e then (s.enterSettle e x.drive).modEl e (fun y => { y with retgt := moved })
    else if moved then s.jumpToTarget e none none
    else s.jumpFrom e x.drive .target none
  else (s.modEl e (fun y => { y with catchUp := if moved then some (s.loop.frames, none) else none })).enterSettle e (s.heldDrive e)

/-- An H-mode element at a rejoin (R162, R283): the first row that fits; one in SUSPECT whose latch has been cleared takes a duty only
when it is returned to service. -/
def State.rejoinH (s : State) (e : Nat) : State :=
  let x := s.el e
  if x.fencedFrom = 4 then (s.setState e 4).setDuty e x.override
  else if x.fencedFrom = 5 then (if x.waiting then s.setState e 5 else (s.setState e 5).setDuty e x.drive)
  else if !s.hasCal e then s.park e
  else
    let s1 := (s.modEl e (fun y => { y with
      catchUp := if x.frozenTgt ≠ x.tgt then some (s.loop.frames, none) else none })).enterSettle e (s.heldDrive e)
    s1.setDuty e (s1.el e).drive

/-- One element at a rejoin (R156, R283). -/
def State.rejoinElem (s : State) (e : Nat) : State :=
  if (s.el e).state ≠ 6 then s
  else if isV e then s.rejoinV e
  else
    let s1 := s.rejoinH e
    s1.setHiz e (s1.hizNow e)

/-- REJOIN (R269, R283, R284): at the first loop-period boundary after the rejoin pass at which a Stand's writes reach the channels,
every element leaves FENCED; REJOIN completes, and the shadow has the compartment's matches to make anew. -/
def execRejoin (n : Fin 4) (s : State) : Result :=
  .next (if (s.svc n).rejoin = none ∨ !(s.svc n).passed ∨ !s.atBoundary n ∨ !s.writesReach then s
  else
    let es := (s.loop.elems.map (fun p => p.1)).filter (fun e => elemCpt e == n.val)
    let s0 := (((s.wrBit .glb_cpt_svc_fenced n false).wrBit .glb_cpt_svc_by_fault n false).wrBit .glb_cpt_svc_rejoining n false).wr
      .stx_sync_sync_cnt (standKey s.shadow n) 0
    let s1 := ((es.foldl (fun s e => s.rejoinElem e) s0).powerCap).resnapCpt n
    let s2 := if s1.eligible then s1.setStand s1.shadow 1 else s1
    ((s2.modSvc n (fun v => { v with rejoin := none, passed := false })).showCleared n).finishOpt (s.svc n).rejoin { status := .ok })

end Sys2Proof.Machine
end

