-- ==== Sys2Proof/Machine/BootOps.lean ====
section
/-! DEFINITION. Firmware images, their staging, and element maps loaded from flash (R64 to R69, R472 to R481). -/

namespace Sys2Proof.Machine

/-- The boot part of the state changed by `f`. -/
def State.modBoot (s : State) (f : BootSt → BootSt) : State := { s with boot := f s.boot }

/-! ## Images (R473, R474) -/

/-- A section of an image: its offset and its length. -/
def imgSection (b : Image) (o : Nat) : Nat × Nat := (fld b o 4, fld b (o + 4) 4)

/-- The bytes of a section. -/
def sectionBytes (b : Image) (o : Nat) : List Nat := (b.drop (imgSection b o).1).take (imgSection b o).2

/-- Whether a section starts on a 4 KiB boundary at or after 0x100 and lies within the image. -/
def sectionOk (n : Nat) (p : Nat × Nat) : Bool := 0x100 ≤ p.1 && p.1 % 4096 == 0 && p.1 + p.2 ≤ n

/-- Whether an image is well-formed (R473). -/
def imgFormed (b : Image) : Bool :=
  let ldr := imgSection b 0x14
  let fws := imgSection b 0x1C
  let stk := imgSection b 0x24
  fld b 0 4 == 0x5746584C && fld b 4 2 == 1 && fld b 6 2 < 2 && fld b 0xE 2 == 0 && (b.drop 0xC0).take 64 == List.replicate 64 0
    && fld b 0x10 4 == b.length && b.length ≤ 33554432
    && sectionOk b.length ldr && sectionOk b.length fws && sectionOk b.length stk
    && !overlaps ldr.1 ldr.2 fws.1 fws.2 && !overlaps ldr.1 ldr.2 stk.1 stk.2 && !overlaps fws.1 fws.2 stk.1 stk.2
    && fld b 0x2C 4 == crc32 (b.drop 0x100) && (b.drop 0x30).take 48 == leBytes 48 (Config.sha384 (b.drop 0x100))

/-- VERSION of an image. -/
def imgVersion (b : Image) : Nat := fld b 8 4

/-- SVN of an image. -/
def imgSvn (b : Image) : Nat := fld b 0xC 1

/-- LOOP_FORMAT of an image. -/
def imgLoopFormat (b : Image) : Bool := (fld b 6 2).testBit 0

/-- Whether an image's signature verifies under its key. -/
def imgSigOk (b : Image) : Bool := fld b 0xD 1 ≤ 3 && Config.sigVerifies (b.take 0xC0) (fld b 0xD 1)

/-- Whether the fuses reject an image's signature, key or security version (R474). -/
def State.imgRejected (s : State) (b : Image) : Bool :=
  s.bit .boot_fuse_sig_enf 0 &&
    (!imgSigOk b || (s.rd .boot_fuse_revoke 0).testBit (fld b 0xD 1) || imgSvn b < s.rd .boot_fuse_svn_fuse 0)

/-- Whether an image is accepted (R474). -/
def State.imgAccepted (s : State) (b : Image) : Bool := imgFormed b && !s.imgRejected b

/-- The content of the inactive bank. -/
def BootSt.inactive (b : BootSt) : Option Image := if b.activeB then b.bankA else b.bankB

/-- The content of the active bank. -/
def BootSt.active (b : BootSt) : Option Image := if b.activeB then b.bankB else b.bankA

/-- STAGED_FW and BOOT_STAGED_VER shown. -/
def State.showStaged (s : State) : State :=
  (s.wrBit .boot_status_staged_fw 0 s.boot.inactive.isSome).wr .boot_staged_ver_version 0
    (match s.boot.inactive with | some b => imgVersion b | none => 0)

/-- STAGING shown: a transfer comes in or goes out (BOOT_STATUS). -/
def State.showStaging (s : State) : State := s.wrBit .boot_status_staging 0 (s.boot.xferIn.isSome || s.boot.xferOut.isSome)

/-- Whether an activation runs in this module. -/
def State.activating (s : State) : Bool := s.bit .boot_status_activating 0 || s.boot.actStep != 0

/-- Whether a staging runs that an FW_STAGE with this DST would meet (R479): for this module a staging or an activation here; for
another one a transfer to it from here (DESIGN CHOICE: one at a time goes out). -/
def State.stageBusy (s : State) (dst : Nat) : Bool := if dst = 0 then s.boot.xferIn.isSome || s.activating else s.boot.xferOut.isSome

/-- Whether a staging or an activation runs in this module (R481). -/
def State.fwBusy (s : State) : Bool :=
  s.bit .boot_status_staging 0 || s.activating

/-! ## Element maps (R64 to R69) -/

/-- The loop period and window of every compartment, as the map checks use them (R53, R66). -/
def State.loopShape (s : State) (n : Nat) : Nat × Nat := (s.period n, s.windowLen n)

/-- The result of a map check shown in GLB_EMAP_STATUS; a failure is source 0x0F (R65, R66, R435). -/
def State.showCheck (s : State) (r : Option (Nat × Nat × Nat)) : State :=
  match r with
  | none => ((s.wr .glb_emap_status_check_fail 0 0).wr .glb_emap_status_fail_table 0 0).wr .glb_emap_status_fail_index 0 0
  | some (k, t, i) =>
    (((s.wr .glb_emap_status_check_fail 0 k).wr .glb_emap_status_fail_table 0 t).wr .glb_emap_status_fail_index 0 i).report
      { src := 0x0F, detail := k }

/-- The inactive map slot. -/
def MapSt.inactive (m : MapSt) : Option (List Nat) := if m.activeB then m.slotA else m.slotB

/-- The active map slot. -/
def MapSt.active (m : MapSt) : Option (List Nat) := if m.activeB then m.slotB else m.slotA

/-- LOADED, SOURCE, STAGED_VALID and MAP_SERIAL shown. -/
def State.showMap (s : State) : State :=
  let s1 := (s.wrBit .glb_emap_status_loaded 0 s.map.force.isSome).wr .glb_emap_status_source 0
    (if s.map.force.isNone then 0 else if s.map.activeB then 2 else 1)
  (s1.wrBit .glb_emap_status_staged_valid 0 s.map.inactive.isSome).wr .glb_emap_serial_map_serial 0 s.theMap.serial

/-- The settings that a map gives: the ranges of channels and the ranges and thresholds of monitors (R55, R122). -/
def State.loadMapSettings (s : State) : State :=
  (List.range 4).foldl (fun s n => s.loadMons n) s.loadRanges

/-- The element map read from the active slot and checked, and measured at boot (R64, R65, R435): without one that passes the
module runs with no map, which the fault collector records. -/
def State.loadMap (s : State) (measured : Bool) : State :=
  let s1 := { s with map := { s.map with force := none, reread := false } }
  match s.map.active with
  | none => (s1.report { src := 0x0F }).showMap
  | some f =>
    let r := mapCheck s.loopShape f
    let s2 := (if measured then s1.extend 4 f else s1).showCheck r
    match r with
    | some _ => s2.showMap
    | none => ({ s2 with map := { s2.map with force := some (readMap f) } }).showMap

/-- The cells of a permutation under the map in force; all idle where it cannot be one (R242, R245). -/
def State.solvedFabric (s : State) (q : Perm) : Fabric × Bool :=
  if s.noTrv then ({ perm := [], bits := 0 }, false)
  else
    let ok := q.ok s.theMap.ports
    let p := if ok then q else []
    ({ perm := p, bits := (s.theMap.solve {} p false [] 0xFFFF).bits }, ok)

/-- A state put in force without a Clearing (R245): every cell element's target is that of its cell. -/
def State.putForce (s : State) (f : Fabric) (slot : Nat) (idle : Bool) : State :=
  let s1 := s.modTrv (fun t => { t with force := f, forceCrc := f.perm.crc })
  (s1.cellElems.foldl (fun s e => s.modEl e (fun x => { x with tgt := s.targetIn f.bits e })) s1).showForce slot idle

/-- The start-up state solved and put in force (R245). -/
def State.startForce (s : State) : State :=
  let k := s.trv.boot.getD 0
  let asked := s.trv.boot.isSome && (s.slot k).valid
  let r := s.solvedFabric (if asked then (s.slot k).perm else [])
  let used := asked && r.2
  (s.putForce r.1 (if used then k else 0xFFFF) (!used)).wrBit .trv_boot_used 0 used

/-! ## Staging (R66, R479) -/

/-- A firmware image staged in this module (R474, R479). -/
def State.stageFw (s : State) (b : Image) : State × Status :=
  if !imgFormed b then (s, .invalidField)
  else if s.imgRejected b then (s, .authFailed)
  else if s.flashRefused then (s.countRefused, .tempInhibit)
  else ((s.modBoot (fun t => if t.activeB then { t with bankA := some b } else { t with bankB := some b })).showStaged, .ok)

/-- An element map staged in this module (R66). -/
def State.stageMap (s : State) (f : List Nat) : State × Status :=
  let r := mapCheck s.loopShape f
  if r.isSome then (s.showCheck r, .invalidField)
  else if s.flashRefused then (s.countRefused, .tempInhibit)
  else
    let m := s.map
    let m1 := if m.activeB then { m with slotA := some f } else { m with slotB := some f }
    (({ s.showCheck r with map := m1 }).showMap, .ok)

/-- An image of a kind staged in this module: 1 firmware, 2 element map. -/
def State.stage (s : State) (kind : Nat) (b : List Nat) : State × Status := if kind = 1 then s.stageFw b else s.stageMap b

/-! ## Remote staging (R480) -/

/-- The bytes at most of a DATA frame. -/
def bulkData : Nat := 1408

/-- DATA frames of a transfer from byte `at0`, `n` at most; the originator sends 64 and waits for STATUS (DESIGN CHOICE: the
spec gives the target's STATUS after every 64 and no window). -/
def State.sendBulk (s : State) (x : Xfer) (at0 : Nat) : Nat → State
  | 0 => s
  | n + 1 =>
    if x.image.length ≤ at0 then s
    else
      (s.send 8 x.dst (.bulk 1 x.kind x.xferId x.image.length at0 0 0 ((x.image.drop at0).take bulkData))).sendBulk x
        (at0 + bulkData) n

/-- STATUS or DONE of a transfer sent to its originator. -/
def State.sendBulkReply (s : State) (x : XferIn) (phase status : Nat) : State :=
  s.send 8 x.src (.bulk phase x.kind x.xferId x.total 0 status x.data.length [])

end Sys2Proof.Machine
end

