-- ==== Sys2Proof/Machine/Hmode.lean ====
section
/-! DEFINITION. The commands and events of the H-mode channels (file 05): the duty engine, DIRECT mode, protection, trips, the
power cap. -/

namespace Sys2Proof.Machine

/-- The BAR0 offset of an H-mode channel's register in its compartment's window. -/
def hOffset (h base : Nat) : Nat := 0x100000 + h / 256 * 0x40000 + base + 4 * (h % 256)

/-! ## Edges (R146 to R155) -/

/-- The minimum-pulse filter (R149): the conducting time as it acts, and whether it acted. -/
def minPulse (h minp per dead : Nat) (stretch : Bool) : Nat × Bool :=
  if h = 0 ∨ minp ≤ h then (h, false)
  else if stretch ∧ dead + minp ≤ per then (minp, true) else (0, true)

/-- The compares of R148, and whether it clamped them. -/
def clampPair (a b per : Nat) : Nat × Nat × Bool :=
  let a1 := min a per
  let b1 := max a1 (min b per)
  (a1, b1, a1 != a || b1 != b)

/-- The pilot of an H-mode channel at a tick counted from POR or DRST, in 1/65,536 of full duty (R131, R134, R151). -/
def State.hPilot (s : State) (e t : Nat) : Rat :=
  if s.pilotOn e then
    (pampActs (s.el e).amp : Rat) * Config.sineWave (s.phaseAt e ((t : Int) - (100 * s.loop.frames : Nat)))
  else 0

/-- SCALE as it acts, in 1/32,768: a cap of 0 W allows no power (R164). -/
def State.scale (s : State) : Nat :=
  if s.rd .glb_hcap_status_cap_act 0 = 0 then 0 else s.rd .glb_hcap_load_scale 0

/-- A residue held within −(MINP + 1) and MINP + 1 ticks (R150). -/
def holdResidue (minp : Nat) (r : Rat) : Rat := max (-((minp + 1 : Nat) : Rat)) (min ((minp + 1 : Nat) : Rat) r)

/-! ## The switches (R147) -/

/-- The ticks for which a switch has been open, as far as they matter. -/
def openFor (n : Nat) : Nat := min 65536 n

/-- The ticks from a command of the high side on until it closes: the low side must have been open for `dead` ticks. -/
def Bridge.wait (b : Bridge) (dead : Nat) : Nat := if b.high then 0 else dead - (if b.low then 0 else b.lowOpen)

/-- The switches after `len` ticks in which the high side is commanded on. -/
def Bridge.runOn (b : Bridge) (len dead : Nat) : Bridge :=
  if len = 0 then b
  else
    let lo := openFor ((if b.low then 0 else b.lowOpen) + len)
    if b.wait dead < len then { high := true, low := false, highOpen := 0, lowOpen := lo }
    else { high := false, low := false, highOpen := openFor (b.highOpen + len), lowOpen := lo }

/-- The switches after `len` ticks in which the high side is commanded off. -/
def Bridge.runOff (b : Bridge) (len dead : Nat) : Bridge :=
  if len = 0 then b
  else
    let ho := openFor ((if b.high then 0 else b.highOpen) + len)
    let wait := if b.low then 0 else dead - (if b.high then 0 else b.highOpen)
    if wait < len then { high := false, low := true, highOpen := ho, lowOpen := 0 }
    else { high := false, low := false, highOpen := ho, lowOpen := openFor (b.lowOpen + len) }

/-- The period of a channel that starts: compares A and B, PER_ACT, the conducting time, and no command of the high side where it
is 0. The switches are carried to the end of the period. -/
def State.runPeriod (s : State) (h a b per on : Nat) : State :=
  let e := hElem h
  let dead := s.rd .ust_hpwm_cfg_dead h
  let c := (s.hc e).bridge
  let d := if on = 0 then c.runOff per dead
    else ((c.runOff a dead).runOn (b - a) dead).runOff (per - b) dead
  ((s.modHc e (fun x => { x with bridge := d, on := on })).wr .ust_hpwm_act_a_act h a).wr .ust_hpwm_act_b_act h b

/-- PILOT_BLK as a period starts (R151). -/
def State.showBlk (s : State) (h per : Nat) : State :=
  let e := hElem h
  s.wrBit .ust_hpwm_status_pilot_blk h ((s.erec e).pilotEn && 32000 < per * (s.erec e).pilotK)

/-- The duty engine of R150 for the period that starts at tick `t`; step 7 places a pulse of no length too, which conducts
nothing. -/
def State.loopPeriod (s : State) (h t : Nat) : State :=
  let e := hElem h
  let per : Nat := max 1 (s.rd .ust_hpwm_status_per_act h)
  let dead := s.rd .ust_hpwm_cfg_dead h
  let minp := s.rd .ust_hpwm_cfg_minp h
  let d : Rat := max 0 (min ((s.erec e).driveMax : Rat) (((s.el e).out : Rat) + s.hPilot e t))
  let x : Rat := d * s.scale / 32768 * per / 65536 + (s.hc e).residue
  let whole : Nat := x.floor.toNat
  let top : Nat := per - dead
  let m := minPulse (min whole top) minp per dead (s.bit .ust_hpwm_mode_mpf h)
  let a := s.rd .ust_hpwm_mode_stag h * (per - dead - m.1) / 15
  let s2 := s.modHc e (fun c => { c with duty := d, residue := holdResidue minp (x - (m.1 : Rat)) })
  let s3 := if top < whole then s2.wrBit .ust_hpwm_status_clamped h true else s2
  let s4 := if m.2 then s3.wrBit .ust_hpwm_status_padj h true else s3
  let s5 := s4.wrBit .ust_hpwm_status_capped h (s.scale < 32768 && decide (0 < d))
  s5.runPeriod h a (min per (a + dead + m.1)) per m.1

/-- A period in DIRECT mode (R148, R149, R155): the pulse conducts from where its high side closes to B, which the limit, SCALE and
the filter move; compares that leave no pulse stand as R148 clamps them. -/
def State.directPeriod (s : State) (h : Nat) : State :=
  let e := hElem h
  let per : Nat := max 1 (s.rd .ust_hpwm_status_per_act h)
  let dead := s.rd .ust_hpwm_cfg_dead h
  let p := clampPair (s.hc e).a0 (s.hc e).b0 per
  let wait := ((s.hc e).bridge.runOff p.1 dead).wait dead
  let on : Nat := p.2.1 - p.1 - wait
  let lim : Nat := min on ((s.erec e).driveMax * per / 65536)
  let m := minPulse (lim * s.scale / 32768) (s.rd .ust_hpwm_cfg_minp h) (per - p.1) wait (s.bit .ust_hpwm_mode_mpf h)
  let s1 := s.modHc e (fun c => { c with duty := (lim : Rat) * 65536 / per, residue := 0 })
  let s2 := if p.2.2 then s1.wrBit .ust_hpwm_status_clamped h true else s1
  let s3 := if m.2 then s2.wrBit .ust_hpwm_status_padj h true else s2
  let s4 := s3.wrBit .ust_hpwm_status_capped h (s.scale < 32768 && 0 < lim)
  s4.runPeriod h p.1 (if m.1 = 0 then min p.2.1 (p.1 + wait) else p.1 + wait + m.1) per m.1

/-- A period of a channel at high impedance: a new PER is in force, and there is no pulse. -/
def State.idlePeriod (s : State) (h : Nat) : State :=
  ((((s.wrBit .ust_hpwm_status_capped h false).wr .ust_hpwm_act_a_act h 0).wr .ust_hpwm_act_b_act h 0).modHc (hElem h)
    (fun c => { c with residue := 0, on := 0 }))

/-- Whether a channel's next period starts at or before tick `t`, and the tick at which it starts: the first at a frame boundary, each
later one where the one before it ends (R146). -/
def State.periodStart (s : State) (h t : Nat) : Option Nat :=
  match (s.hc (hElem h)).nextAt with
  | some b => if b ≤ t then some b else none
  | none => if t % 100 = 0 then some t else none

/-- HMODE_PERIOD_BOUNDARY (R146 to R151, R154, R165): at a tick of the present frame the next period starts, where it is due; `ion` is
the on-current measured in the pulse that ended, kept where that pulse conducted for at least 32 ticks. In LOOP mode PER is
taken into PER_ACT. A channel at high impedance has no pulse. -/
def execHmodePeriodBoundary (h : Fin 1024) (tick : Fin 100) (ion : Fin 256) (s : State) : Result :=
  let e := hElem h
  .next (match s.periodStart h (100 * s.loop.frames + tick.val) with
  | none => s
  | some t =>
    let per : Nat := max 1 (if s.bit .ust_hpwm_mode_src h then s.rd .ust_hpwm_status_per_act h else s.rd .ust_hpwm_cfg_per h)
    let s1 := ((s.wr .ust_hpwm_status_per_act h per).showBlk h per).modHc e (fun c => { c with nextAt := some (t + per) })
    if s1.bit .ust_hpwm_status_hiz h then s1.idlePeriod h
    else
      let s2 := if 32 ≤ (s.hc e).on then (s1.wr .ust_hpwm_status_ion h ion).modHc e (fun c => { c with measured := true }) else s1
      if s2.bit .ust_hpwm_mode_src h then s2.directPeriod h else s2.loopPeriod h t)

/-- HPWM_SRC_WRITE (R154): DIRECT mode starts only for an element in MANUAL, and copies the period and compares in force into
the shadows; LOOP mode is taken up again at the next period boundary. -/
def execHpwmSrcWrite (h : Fin 1024) (v : Bool) (s : State) : Result :=
  .next (s.expertWrite (hOffset h 0x20400) .ust_hpwm_mode_src h (fun s =>
    if !v then s.wrBit .ust_hpwm_mode_src h false
    else if (s.el (hElem h)).state ≠ 4 ∨ s.bit .ust_hpwm_mode_src h then s
    else
      let a := s.rd .ust_hpwm_act_a_act h
      let b := s.rd .ust_hpwm_act_b_act h
      let s1 := (((s.wrBit .ust_hpwm_mode_src h true).wr .ust_hpwm_shper_per_sh h (s.rd .ust_hpwm_status_per_act h)).wr
        .ust_hpwm_shcmp_a_sh h a).wr .ust_hpwm_shcmp_b_sh h b
      s1.modHc (hElem h) (fun c => { c with a0 := a, b0 := b, due := [] })))

/-- PCOMMIT_WRITE (R155): a pair commit is asked for. DESIGN CHOICE: one set while SRC is 0 or AUTO is 1 stays set until a pair
commit takes it up; the rule does not say. -/
def execPcommitWrite (h : Fin 1024) (s : State) : Result := .next (s.wrBit .ust_hpwm_mode_pcommit h true)

/-- A shadow register of a DIRECT-mode channel passes to the active one: 0 period, 1 A, 2 B. DESIGN CHOICE: a PER_SH of 0 acts as 1,
the least that PER_ACT takes; the rule does not say. -/
def State.transfer (s : State) (h reg : Nat) : State :=
  let e := hElem h
  match reg with
  | 0 => s.wr .ust_hpwm_status_per_act h (max 1 (s.rd .ust_hpwm_shper_per_sh h))
  | 1 => s.modHc e (fun c => { c with a0 := s.rd .ust_hpwm_shcmp_a_sh h })
  | _ => s.modHc e (fun c => { c with b0 := s.rd .ust_hpwm_shcmp_b_sh h })

/-- SHADOW_TRANSFER (R155): at a period boundary at least 4 ticks after the write: all three under a pair commit, or under auto
commit the one written. -/
def execShadowTransfer (h : Fin 1024) (reg : Fin 3) (s : State) : Result :=
  let e := hElem h
  .next (if !s.bit .ust_hpwm_mode_src h then s
  else if s.bit .ust_hpwm_mode_auto h then
    if (s.hc e).due.contains reg.val then
      (s.modHc e (fun c => { c with due := c.due.filter (fun x => x != reg.val) })).transfer h reg
    else s
  else if s.bit .ust_hpwm_mode_pcommit h then
    ((((s.transfer h 0).transfer h 1).transfer h 2).wrBit .ust_hpwm_mode_pcommit h false).modHc e (fun c => { c with due := [] })
  else s)

/-! ## Protection (R162) -/

/-- A channel protects itself: high impedance, its latch set, its element SUSPECT. -/
def State.hProtect (s : State) (h : Nat) (latch : Fid) (src event : Nat) : State :=
  if s.bit .ust_hpwm_status_hiz h then s
  else
    let s1 := ((s.wrBit latch h true).setHiz (hElem h) true).report { src := src, objKind := 1, obj := hElem h }
    s1.loseElem (hElem h) event

/-- HMODE_OVERCURRENT (R162). -/
def execHmodeOvercurrent (h : Fin 1024) (s : State) : Result := .next (s.hProtect h .ust_hpwm_status_oc 0x18 2)

/-- HMODE_FAST_TRIP (R162). -/
def execHmodeFastTrip (h : Fin 1024) (s : State) : Result := .next (s.hProtect h .ust_hpwm_status_oc 0x18 2)

/-- HMODE_LEAKAGE (R162). -/
def execHmodeLeakage (h : Fin 1024) (s : State) : Result := .next (s.hProtect h .ust_hpwm_status_leak 0x19 3)

/-- OC and LEAK of a channel cleared (R162): it leaves high impedance at duty 0, and takes a duty when its element returns. -/
def State.clearLatches (s : State) (h : Nat) (oc leak : Bool) : State :=
  let e := hElem h
  if !s.latched e then s
  else
    let s1 := if oc then s.wrBit .ust_hpwm_status_oc h false else s
    let s2 := if leak then s1.wrBit .ust_hpwm_status_leak h false else s1
    if s2.latched e then s2
    else ((s2.modEl e (fun x => { x with waiting := true, out := 0 })).modHc e (fun c => { c with duty := 0 })).setHiz e
      (s2.hizNow e)

/-- HMODE_OC_LEAK_CLEAR_WRITE (R162). -/
def execHmodeOcLeakClearWrite (h : Fin 1024) (oc leak : Bool) (s : State) : Result := .next (s.clearLatches h oc leak)

/-! ## Trips (R157 to R160) -/

/-- The held sources of TRIPn: CMP, FB, THERM, SUP (R157). -/
def State.tripInputs (s : State) (n : Nat) : List Bool :=
  [(s.listed .ust_mon_cfg_cmp_high).any (fun m => monCpt m == n), s.loop.fbHeat.contains n, s.thermSource n, s.supSource]

/-- The sources that are asserted and enabled, as a bit set. -/
def State.tripActive (s : State) (n : Nat) : Nat :=
  let en := [s.bit .ust_htrip_cmp_en n, true, s.bit .ust_htrip_therm_en n, s.bit .ust_htrip_sup_en n]
  maskOf ((List.range 4).filter (fun i => (s.tripInputs n).getD i false && en.getD i false))

/-- INPUT shown: the present state of the four sources. -/
def State.showInputs (s : State) (n : Nat) : State :=
  s.wr .ust_htrip_input n (maskOf ((List.range 4).filter (fun i => (s.tripInputs n).getD i false)))

/-- The trip latch of a compartment set for sources (a bit set): its heaters go to high impedance, and sweeps of its H-mode
elements end (R157, R222). -/
def State.trip (s : State) (n causes : Nat) : State :=
  let was := s.bit .ust_htrip_trip n
  let s1 := (s.wrBit .ust_htrip_trip n true).wr .ust_htrip_cause n (s.rd .ust_htrip_cause n ||| causes)
  if was then s1
  else
    let s2 := s1.abandonSweeps (fun e => !isV e && elemCpt e == n) false
    let s3 := (span (9216 + 256 * n) 256).foldl (fun s e => s.setHiz e true) s2
    s3.report { src := 0x1A, objKind := 3, obj := n, detail := causes }

/-- TRIP_SOURCE_ASSERT (R157): the enabled sources that are asserted set the latch. -/
def execTripSourceAssert (n : Fin 4) (s : State) : Result :=
  let s1 := s.showInputs n
  .next (if s1.tripActive n = 0 then s1 else s1.trip n (s1.tripActive n))

/-- A clear of TRIP (R160): refused while an enabled source is asserted; else the heaters resume at a boundary. Answers whether
it was refused. -/
def State.clearTrip (s : State) (n : Nat) : State × Bool :=
  let s1 := s.showInputs n
  if s1.tripActive n ≠ 0 then (s1.sat .ust_htrip_refused n, true)
  else if !s1.bit .ust_htrip_trip n then (s1, false)
  else
    ((((s1.wrBit .ust_htrip_trip n false).wr .ust_htrip_cause n 0).wr .ust_htrip_refused n 0).modCpt n (fun c => { c with
      resumeAt := some s.loop.frames }), false)

/-- TRIP_CLEAR_WRITE (R160). A latch that is not set stays so. -/
def execTripClearWrite (n : Fin 4) (s : State) : Result :=
  .next (if s.bit .ust_htrip_trip n then (s.clearTrip n).1 else s)

/-- SWTRIP_WRITE (R157): a pulse of source SW, never held. -/
def execSwtripWrite (n : Fin 4) (s : State) : Result := .next (s.trip n 16)

/-- One H-mode element as the heaters resume (R160): a trajectory that was abandoned counts as having reached its target, an override
value, a frozen drive or PARK among them. -/
def State.resumeHeater (s : State) (e : Nat) : State :=
  let x := s.el e
  if s.latched e then s
  else
    let s0 := (s.setHiz e (s.hizNow e)).modEl e (fun y => { y with retgt := false })
    let settle (d : Int) (o : Option Owner) : State :=
      let s1 := s0.enterSettle e (s0.limited e d)
      ((s1.setDuty e (s1.el e).drive).finishMove e o { status := .ok }).settled e
    let arrive (st : Nat) (d : Int) (o : Option Owner) : State :=
      (((s0.setState e st).modEl e (fun y => { y with jump := none, override := if st = 4 then d else y.override })).setDuty e d).finishMove
        e o { status := .ok }
    match x.state, x.jump with
    | 1, _ | 2, _ => settle (if x.retgt then s0.targetDrive e x.tgt else x.drive) none
    | 3, some j =>
      match j.goal with
      | .override | .manualBack => arrive 4 j.vt j.owner
      | .frozen => arrive 5 j.vt j.owner
      | .clearPark => (s0.park e).finishMove e j.owner { status := .ok }
      | .target | .dark => settle (if x.retgt then s0.targetDrive e x.tgt else j.vt) j.owner
    | 4, _ => (s0.modEl e (fun y => { y with suspectDue := false })).setDuty e x.override
    | 5, _ => if x.waiting then s0 else s0.setDuty e x.drive
    | _, _ => s0

/-- HMODE_RESUME (R160): at the first loop-period boundary at least 2 frames after a trip was cleared or CLR_N released. -/
def execHmodeResume (n : Fin 4) (s : State) : Result :=
  .next (match (s.cpt n).resumeAt with
  | some f =>
    if !s.nextBoundary n f ∨ s.bit .ust_htrip_trip n ∨ s.loop.clrLow ∨ s.loop.heatClear ∨ !s.writesReach then s
    else
      let s1 := s.modCpt n (fun c => { c with resumeAt := none })
      (((span (9216 + 256 * n.val) 256).foldl (fun s e => s.resumeHeater e) s1).powerCap).resnapCpt n
  | none => s)

end Sys2Proof.Machine
end

