-- ==== Sys2Proof/Machine/FbkOps.lean ====
section
/-! DEFINITION. Firebreak's operations (file 14): its configuration, inputs, outputs, trip sources, lockout, log, and what it
asks of the Crown. -/

namespace Sys2Proof.Machine

/-! ## Configuration (R404, R428, R429) -/

/-- Firebreak changed by `f`. -/
def State.modFbk (s : State) (f : FbkSt → FbkSt) : State := { s with fbk := f s.fbk }

/-- The default of a parameter code (R429). -/
def fbkDefault (code : Nat) : Nat :=
  match code with | 2 => 4 | 3 => 100 | 5 => 300 | 8 => 1 | 11 => 15 | 13 => 1 | _ => 0

/-- The indices that a parameter code has (R429); 0 for a code that is not assigned. -/
def fbkCount (code : Nat) : Nat :=
  if 1 ≤ code ∧ code ≤ 9 then 4 else if code = 10 ∨ code = 13 then 1 else if code = 11 ∨ code = 12 then 6 else 0

/-- The least and greatest value of a parameter (R429). -/
def fbkRange (code : Nat) : Nat × Nat :=
  match code with
  | 1 => (0, 3) | 2 => (1, 16) | 3 => (10, 500) | 4 => (0, 3) | 5 => (50, 1000) | 6 => (0, 1) | 7 => (0, 31) | 8 => (0, 1)
  | 13 => (0, 2) | _ => (0, 15)

/-- Whether a parameter and its value are within R429. -/
def fbkParamOk (code idx v : Nat) : Bool := idx < fbkCount code && (fbkRange code).1 ≤ v && v ≤ (fbkRange code).2

/-- A parameter of a configuration. -/
def fbkGet (c : Tbl Nat) (code idx : Nat) : Nat := Tbl.get (fbkDefault code) c (256 * code + idx)

/-- A parameter of a configuration set. -/
def fbkPut (c : Tbl Nat) (code idx v : Nat) : Tbl Nat := Tbl.set (fbkDefault code) c (256 * code + idx) v

/-- Every parameter of R429, by code and index, in the table's order. -/
def fbkParams : List (Nat × Nat) :=
  (List.range 14).flatMap (fun c => (List.range (fbkCount c)).map (fun i => (c, i)))

/-- A parameter of the configuration in force. -/
def State.fcfg (s : State) (code idx : Nat) : Nat := fbkGet s.fbk.cfg code idx

/-- The configuration that the RWP fields read: the staged one while a session is open (R427). -/
def State.shownCfg (s : State) : Tbl Nat := if s.fbk.session then s.fbk.staged else s.fbk.cfg

/-- The RWP fields shown. -/
def State.showCfg (s : State) : State :=
  let g := fbkGet s.shownCfg
  let pair (s : State) (p : Nat) : State :=
    ((((s.wr .fbk_pair_cfg_in_mode p (g 1 p)).wr .fbk_pair_cfg_filt p (g 2 p)).wr .fbk_pair_cfg_disc p (g 3 p)).wr
      .fbk_pair_cfg_edm_out p (g 4 p)).wr .fbk_pair_cfg_edm_t p (g 5 p)
  let out (s : State) (n : Nat) : State :=
    (((s.wr .fbk_out_cfg_out_en n (g 6 n)).wr .fbk_out_cfg_out_src n (g 7 n)).wr .fbk_out_cfg_restart n (g 8 n)).wr
      .fbk_out_cfg_apr_cpt n (g 9 n)
  let src (s : State) (k : Nat) : State := (s.wr .fbk_src_cfg_dark k (g 11 k)).wr .fbk_src_cfg_heat k (g 12 k)
  let s1 := (List.range 4).foldl (fun s i => out (pair s i) i) s
  let s2 := (List.range 6).foldl src s1
  ((s2.wr .fbk_apr_cfg_na_assert 0 (g 10 0)).wr .fbk_apr_cfg_apr_dark 0 (g 13 0)).wr .fbk_cfg_crc_crc 0
    (Config.fbkCfgCrc (fbkParams.map (fun p => s.fcfg p.1 p.2)))

/-! ## Pairs, outputs and trip sources (R406 to R417) -/

/-- An input pair. -/
def State.fpair (s : State) (p : Nat) : FPair := Tbl.get {} s.fbk.pairs p

/-- An input pair changed by `f`. -/
def State.modPair (s : State) (p : Nat) (f : FPair → FPair) : State :=
  s.modFbk (fun b => { b with pairs := Tbl.modify {} b.pairs p f })

/-- A safety output. -/
def State.fout (s : State) (n : Nat) : FOut := Tbl.get {} s.fbk.outs n

/-- The pairs in demand, as a mask. -/
def State.demandMask (s : State) : Nat := maskOf ((List.range 4).filter (fun p => (s.fpair p).demand))

/-- The active trip sources of R417, as a mask: pairs in demand, APR, LOCKOUT. -/
def State.fbkSources (s : State) : Nat :=
  s.demandMask + (if s.fbk.apr = 0 then 0 else 16) + (if s.fbk.state = 2 then 32 else 0)

/-- Whether the flags of a compartment are "not available" (R95). -/
def State.flagsAway (s : State) (n : Nat) : Bool := s.bit .glb_cpt_svc_in_crst n || s.fenced n || s.inPass n

/-- The monitors with FB_WATCH set in the map in force (R55). -/
def State.watched (s : State) : List Nat := (s.theMap.mons.filter (fun p => p.2.fbWatch)).map (fun p => p.1)

/-- Whether the open-port flag of a monitor counts as asserted (R94, R95, R414). -/
def State.flagCounts (s : State) (m : Nat) : Bool :=
  if s.flagsAway (monCpt m) then (s.fcfg 10 0).testBit (monCpt m) else s.bit .ust_mon_cfg_cmp_low m

/-- The compartments with a counted flag asserted (R414): while the link is lost every flag of every compartment is "not
available". -/
def State.aprMask (s : State) : Nat :=
  if s.fbk.link then maskOf ((s.watched.filter s.flagCounts).map monCpt) else s.fcfg 10 0

/-- Whether a source of OUT_SRC is in demand or fault: pairs 0 to 3, and APR for the output's compartments (R411). -/
def State.srcHolds (s : State) (n k : Nat) : Bool :=
  if k < 4 then (s.fpair k).demand || (s.fpair k).fault else s.fbk.apr &&& s.fcfg 9 n != 0

/-- The sources that an output names. -/
def State.outSources (s : State) (n : Nat) : List Nat := bitsSet 5 (s.fcfg 7 n)

/-- Whether an output may be on, its restart apart (R411). -/
def State.outAllowed (s : State) (n : Nat) : Bool :=
  s.fbk.state == 1 && s.fcfg 6 n == 1 && !(s.outSources n).any (s.srcHolds n)

/-- Whether every source that an output names has been healthy without demand for 20 ms (R412). -/
def State.outReady (s : State) (n : Nat) : Bool :=
  (s.outSources n).all (fun k =>
    if k < 4 then 200 ≤ (s.fpair k).okFor
    else (bitsSet 4 (s.fcfg 9 n)).all (fun c => 200 ≤ Tbl.get 0 s.fbk.aprOk c))

/-- Whether an output waits for a RESTART (R412): it is enabled, MANUAL and off in RUN. -/
def State.outWaits (s : State) (n : Nat) : Bool :=
  s.fbk.state == 1 && s.fcfg 6 n == 1 && s.fcfg 8 n == 1 && !(s.fout n).on

/-- An output switched; the EDM pairs that watch it await their new state (R416). -/
def State.switchOut (s : State) (n : Nat) (on : Bool) : State :=
  if (s.fout n).on = on then s
  else
    let s1 := s.modFbk (fun b => { b with outs := Tbl.set {} b.outs n { on := on, changedAt := b.tick } })
    let watch (s : State) (p : Nat) : State :=
      if s.fcfg 1 p = 3 ∧ s.fcfg 4 p = n then s.modPair p (fun x => { x with reached := false }) else s
    ((List.range 4).foldl watch s1).fbkEvent 3

/-- Every output that may not be on goes off (R411). -/
def State.dropOuts (s : State) : State :=
  (List.range 4).foldl (fun s n => if s.outAllowed n then s else s.switchOut n false) s

/-! ## What Firebreak asks of the Crown (R417 to R421) -/

/-- The compartments that a mask table of active sources names. -/
def State.sourceMask (s : State) (code : Nat) (ks : List Nat) : Nat :=
  (ks.filter (fun k => s.fbkSources.testBit k)).foldl (fun a k => a ||| s.fcfg code k) 0

/-- Whether darkening of a port is asked for (R417): by its gate's compartment, or by APR under APR_DARK. -/
def State.portWanted (s : State) (p : Nat) (flagged : List Nat) : Bool :=
  let r := s.theMap.portRec p
  let dark := s.sourceMask 11 [0, 1, 2, 3, 5]
  let m4 := s.fcfg 11 4
  (r.gate != 0xFFFF && dark.testBit (elemCpt r.gate))
    || (s.fbkSources.testBit 4 &&
        ((s.fcfg 13 0 == 1 && flagged.contains r.tap && m4.testBit (monCpt r.tap))
         || (s.fcfg 13 0 == 2 && r.gate != 0xFFFF && m4.testBit (elemCpt r.gate)
             && flagged.any (fun m => monCpt m == elemCpt r.gate))))

/-- The ports whose darkening is asked for. -/
def State.wantedPorts (s : State) : List Nat :=
  let flagged := s.watched.filter s.flagCounts
  (s.theMap.portRecs.map (fun p => p.1)).filter (fun p => s.portWanted p flagged)

/-- The gate of a port. -/
def State.gateOf (s : State) (p : Nat) : Nat := (s.theMap.portRec p).gate

/-- The requests that reach the Crown while the link is up (R417, R418, R420): ports to darken, gates to release, heaters off. -/
def State.ask (s : State) : State :=
  if !s.fbk.link then s
  else
    let ports := s.wantedPorts
    let t := s.loop.frames
    let want := ports.map (fun p => (s.fbk.want.find? (fun w => w.1 == p)).getD (p, t))
    let gates := ports.map s.gateOf
    let free := s.loop.dark.filter (fun e => !gates.contains e)
    let release := free.map (fun e => (s.fbk.release.find? (fun w => w.1 == e)).getD (e, t))
    let heat := bitsSet 4 (s.sourceMask 12 [0, 1, 2, 3, 4, 5])
    let s1 := (s.modFbk (fun b => { b with want := want, release := release })).modLoop (fun l => { l with fbHeat := heat })
    (List.range 4).foldl (fun s n => s.showInputs n) s1

/-- Whether R421 keeps a port from being dark: no gate, its channel off or at its clear code after OC or GTRIP, CRST of its
compartment, CLR_N, the link lost. -/
def State.undarkable (s : State) (p : Nat) : Bool :=
  let e := s.gateOf p
  e == 0xFFFF || s.vOff e || ((s.el e).waiting && (s.el e).state != 0) || s.bit .glb_cpt_svc_in_crst (elemCpt e)
    || s.loop.clrLow || !s.fbk.link

/-- The ports darkened. -/
def State.darkPorts (s : State) : List Nat :=
  (s.fbk.want.filter (fun w => !s.undarkable w.1 && s.loop.dark.contains (s.gateOf w.1))).map (fun w => w.1)

/-- The ports whose darkening is asked for and kept from by R421. -/
def State.notDark (s : State) : List Nat := (s.fbk.want.filter (fun w => s.undarkable w.1)).map (fun w => w.1)

/-- The 32-bit word `j` of a set of port numbers. -/
def portWord (l : List Nat) (j : Nat) : Nat := maskOf ((l.filter (fun p => p / 32 == j)).map (fun p => p % 32))

/-! ## The registers shown -/

/-- FBK_STATUS, FBK_LOG and the port masks shown. -/
def State.showFbk (s : State) : State :=
  let b := s.fbk
  let s1 := (((s.wr .fbk_status_state 0 b.state).wrBit .fbk_status_fb_ok 0 (b.state == 1)).wrBit .fbk_status_session 0
    b.session).wrBit .fbk_status_link 0 b.link
  let s2 := ((s1.wrBit .fbk_status_reset_pend 0 b.pend.isSome).wrBit .fbk_status_pw_set 0 b.pw.isSome).wr .fbk_status_demand 0
    s.demandMask
  let s3 := (s2.wr .fbk_status_out_on 0 (maskOf ((List.range 4).filter (fun n => (s.fout n).on)))).wr .fbk_status_out_wait 0
    (maskOf ((List.range 4).filter s.outWaits))
  let s4 := (s3.wr .fbk_status_pair_fault 0 (maskOf ((List.range 4).filter (fun p => (s.fpair p).fault)))).wr
    .fbk_status_sources 0 s.fbkSources
  let s5 := s4.wr .fbk_log_pending 0 b.held.length
  let dark := s.darkPorts
  let not := s.notDark
  (List.range 32).foldl (fun s j => (s.wr .fbk_dark_ports_dark j (portWord dark j)).wr .fbk_not_dark_not_dark j (portWord not j)) s5

/-- What the sources, the outputs and the requests become after any change (R411, R417). -/
def State.fbkEval (s : State) : State := ((s.modFbk (fun b => { b with apr := s.aprMask })).dropOuts.ask).showFbk

/-! ## The change log (R432) -/

/-- Whether the log in flash can be written: the link is up and the flash is within its temperature window (R468). -/
def State.fbkFlash (s : State) : Bool := s.fbk.link && !s.flashRefused

/-- An entry appended to the log in flash: the latest 512 are held. -/
def logPush (l : List FLog) (e : FLog) : List FLog := (l ++ [e]).drop (l.length + 1 - 512)

/-- A log entry made (R432): written to flash, held while link or flash is away, at most 32, else lost and counted. -/
def State.fbkLog (s : State) (mailbox kind param old new detail : Nat) : State :=
  let b := s.fbk
  let e : FLog := {
    seq := b.logNext, time := if b.link then some s.datum.t else none, locked := b.link && s.locked, mailbox := mailbox
    kind := kind, param := param, old := old, new := new, detail := detail }
  let s1 := s.modFbk (fun b => { b with logNext := (b.logNext + 1) % 2 ^ 32 })
  if s.fbkFlash && b.held == [] then s1.modFbk (fun b => { b with log := logPush b.log e })
  else if b.held.length < 32 then (s1.modFbk (fun b => { b with held := b.held ++ [e] })).wr .fbk_log_pending 0 (b.held.length + 1)
  else s1.sat .fbk_log_log_lost 0

/-- The 32 bytes of a log entry (R432). -/
def FLog.bytes (e : FLog) : List Nat :=
  leBytes 4 e.seq ++ timeBytes10 (e.time.getD 0) ++ [bit01 e.time.isSome + 2 * bit01 e.locked, e.mailbox, e.kind, 0]
    ++ leBytes 2 e.param ++ leBytes 4 e.old ++ leBytes 4 e.new ++ leBytes 4 e.detail

/-- The CRC-32 of a parameter's value of 4 bytes. -/
def valueCrc (v : Nat) : Nat := crc32 (leBytes 4 v)

/-- The CRC-32 of a password's digest; of none, that of no bytes. -/
def digestCrc (p : Option (Nat × Nat)) : Nat := match p with | some d => crc32 (leBytes 48 d.2) | none => crc32 []

/-! ## Lockout (R424, R425) -/

/-- A lockout's report to the fault collector, entry and exit (R424, R435). -/
def State.lockReport (s : State) (cause obj : Nat) : State :=
  if s.fbk.link then s.report { src := 0x48, detail := cause % 256 + obj % 256 * 256 } else s

/-- A fault of R424: LOCKOUT at once. In LOCKOUT the first fault stays recorded; with RESET_PEND set the fault clears it and
renews the LOCKOUT. -/
def State.lockout (s : State) (cause obj : Nat) : State :=
  let put (s : State) : State := (s.wr .fbk_fault_cause 0 cause).wr .fbk_fault_obj 0 obj
  if s.fbk.state = 2 then
    (if s.fbk.pend.isSome then (put s).modFbk (fun b => { b with pend := none }) else s).fbkEval
  else
    let s1 := (put s).modFbk (fun b => { b with
      state := 2, pend := none, lockouts := min (b.lockouts + 1) 65535, tLock := s.datum.t })
    (((s1.fbkLog 0xFF 6 0 0 0 (cause % 256 + obj % 256 * 256)).fbkEvent 1).lockReport cause obj).fbkEval

/-- A fault of a pair: it is marked, and LOCKOUT follows. -/
def State.pairFault (s : State) (p cause : Nat) : State := (s.modPair p (fun x => { x with fault := true })).lockout cause p

/-- Whether an ACK can leave LOCKOUT: RESET_PEND was set less than 60 s ago (R425). -/
def State.pendNow (s : State) : Bool :=
  match s.fbk.pend with | some t => decide (s.fbk.tick < t + 600000) | none => false

/-! ## Sessions (R426, R427) -/

/-- A session ends and its staged values are discarded; `logged` makes the entry of a session ended without commit. -/
def State.endSession (s : State) (mailbox : Nat) (logged : Bool) : State :=
  if !s.fbk.session then s
  else
    let s1 := s.modFbk (fun b => { b with session := false, staged := [], stagedPw := none })
    let s2 := if logged then s1.fbkLog mailbox 4 0 0 0 0 else s1
    ((s2.fbkEvent 4).showCfg).showFbk

/-! ## The link (R414, R427, R470) -/

/-- The Crown link goes down: every flag becomes "not available" and a session ends. -/
def State.loseLink (s : State) : State :=
  if !s.fbk.link then s
  else (((s.modFbk (fun b => { b with link := false })).endSession 0xFF true).fbkEvent 6).fbkEval

/-- The Crown link comes up, to a Firebreak that has started. -/
def State.openLink (s : State) : State :=
  if s.fbk.link ∨ s.fbk.state = 0 then s else ((s.modFbk (fun b => { b with link := true })).fbkEvent 6).fbkEval

end Sys2Proof.Machine
end

