-- ==== Sys2Proof/Machine/LoopLaw.lean ====
section
/-! DEFINITION. The arithmetic of an element's loop: demodulation, error, PI law, supervision (R172 to R180, R199 to R203, R209
to R211). Currents are in pA and drives in FDU. -/

namespace Sys2Proof.Machine

/-! ## The window (R172 to R176) -/

/-- A frame's result in pA (R72). -/
def FrameRec.pA (f : FrameRec) (m : Nat) : Rat := (f.result m : Rat) * (fsPa (f.range m) : Rat) / 32768

/-- The frames that an element's window may hold: the last W periods, none before its latest entry to SETTLE, the pilot on
throughout (R173). `from0` is a further first frame. -/
def State.windowFrames (s : State) (e from0 : Nat) : List FrameRec :=
  let n := elemCpt e
  let len := s.windowLen n * s.period n
  (s.loop.hist.take len).filter (fun f =>
    max from0 (s.el e).winFrom ≤ f.num && s.loop.frames ≤ f.num + len && !f.noPilot.contains e)

/-- What a window gives at one monitor (R174): the included frames, their mean, and the in-phase and quadrature response in pA
per FDU. -/
structure Demod where
  count : Nat
  mean : Rat
  y : Rat
  q : Rat

/-- The correction for a frame's integration of the pilot, A_k (R174). -/
def frameGain (k : Nat) : Rat := Config.sinTurn ((k : Rat) / 5120) / (Config.piVal * (k : Rat) / 2560)

/-- The response of an element at a monitor over a window, with response phase `theta` in 2π/65,536. -/
def State.demodAt (s : State) (e m theta : Nat) (fs : List FrameRec) : Demod :=
  let k := (s.erec e).pilotK
  let inc := fs.filter (fun f => f.valid m && !f.ovr m)
  let n := inc.length
  let mean : Rat := (inc.map (fun f => f.pA m)).sum / n
  let term (quarter : Rat) (f : FrameRec) : Rat :=
    let turn : Rat := ((k * (100 * f.ctr + 50) % 256000 : Nat) : Rat) / 256000 - (theta : Rat) / 65536 + quarter
    (f.pA m - mean) * Config.sinTurn turn / (s.ampAt e f.num : Rat)
  { count := n, mean := mean
    y := 2 * (inc.map (term 0)).sum / (n * frameGain k)
    q := 2 * (inc.map (term (1 / 4))).sum / (n * frameGain k) }

/-- The monitors of an element with their weights and response phases. -/
def State.monTerms (s : State) (e : Nat) : List (Nat × Int × Nat) :=
  let r := s.erec e
  let c := s.calRec e
  ([(r.mon0, r.wgt0, c.theta0), (r.mon1, r.wgt1, c.theta1)] : List (Nat × Int × Nat)).filter (fun t => t.1 != 0xFFFF)

/-- A value in Q1.15, clipped (R175). DESIGN CHOICE: rounded to the nearest, halves away from zero, for the rule names no rounding. -/
def q15 (v : Rat) : Int := clampInt (-32768) 32767 (roundRat (v * 32768))

/-- What a window gives for an element: N_v, the weighted mean current, σ, the normalised Q_0 and q in Q1.15. -/
structure Meas where
  nv : Nat
  light : Rat
  sigma : Int
  quad0 : Int
  q : Int

/-- K_e in pA per FDU; 0 where it is not finite. -/
def ElCal.kPa (c : ElCal) : Rat := ((ofF32 c.k).getD 0) * 1000000000000

/-- The measurement of an element's window (R173 to R175, R200); without a record σ, Q_0 and q read 0. -/
def State.measure (s : State) (e : Nat) : Meas :=
  let fs := s.windowFrames e 0
  let ds := (s.monTerms e).map (fun t => (t, s.demodAt e t.1 t.2.2 fs))
  let ns := (ds.filter (fun d => d.1.2.1 != 0)).map (fun d => d.2.count)
  let k := (s.calRec e).kPa * 16384
  let sum (f : Demod → Rat) : Rat := (ds.map (fun d => (d.1.2.1 : Rat) * f d.2)).sum
  let known := s.hasCal e
  { nv := match ns with
      | [] => 0
      | a :: l => l.foldl min a
    light := |sum (fun d => d.mean)| / 16384
    sigma := if known then q15 (sum (fun d => d.y) / k) else 0
    quad0 := if known then
        (match ds.find? (fun d => d.1.1 == (s.erec e).mon0) with
         | some d => q15 ((d.1.2.1 : Rat) * d.2.q / k)
         | none => 0)
      else 0
    q := if known then q15 (sum (fun d => d.q) / k) else 0 }

/-- Whether a window is thin (R176). -/
def State.thin (s : State) (e : Nat) (m : Meas) : Bool := 2 * m.nv < s.windowLen (elemCpt e) * s.period (elemCpt e)

/-- Whether a window is dark (R200): LIGHT_MIN is in nA. -/
def State.darkWin (s : State) (e : Nat) (m : Meas) : Bool :=
  decide (m.light < ((1000 * s.rd .stx_sup_cfg_light_min (elemCpt e) : Nat) : Rat))

/-! ## Error and drive (R178 to R180) -/

/-- S_t of the target that the loop is on; 0 where the record's value is not finite. -/
def State.gradient (s : State) (e : Nat) : Rat :=
  (ofF32 (if (s.el e).loopTgt = 0 then (s.calRec e).s0 else (s.calRec e).s1)).getD 0

/-- The error before its limit (R178); 0 where S_t is 0 or not finite. -/
def State.rawEps (s : State) (e : Nat) (sigma : Int) : Rat :=
  if s.gradient e = 0 then 0 else ((s.sspOf e - sigma : Int) : Rat) / 32768 / s.gradient e

/-- A coefficient in force for an element. -/
def State.coef (s : State) (e : Nat) (f : Fid) : Nat := s.rd f (coefIdx (elemCpt e) (s.el e).coefSet)

/-- ε limited to ±EPS_MAX and rounded to an FDU (R178). -/
def State.limEps (s : State) (e : Nat) (raw : Rat) : Int :=
  let lim : Int := s.coef e .stx_coef_act_eps_max
  clampInt (-lim) lim (roundRat raw)

/-- An integrator and the drive that the next boundary is to write (R179), clipped; the saturation that results shown (R180). -/
def State.setNext (s : State) (e : Nat) (i : Int) (u : Rat) : State :=
  let top : Rat := (s.driveMax e : Rat)
  (s.modEl e (fun y => { y with
    integ := i, next := some (max 0 (min top u)), clipHi := decide (top < u), clipLo := decide (u < 0) })).showSat e

/-- The PI law of R179 at a boundary: integrator, drive and flags; `hold` keeps the integrator. DESIGN CHOICE: the integrator's step
is rounded to its 1/256 FDU, halves away from zero, for the rule names no rounding. -/
def State.piLaw (s : State) (e : Nat) (eps : Int) (hold : Bool) : State :=
  let x := s.el e
  let kp : Int := s.coef e .stx_coef_act_kp
  let ki : Int := s.coef e .stx_coef_act_ki
  let sat := s.saturated e
  let step : Int := roundRat (((ki * eps : Int) : Rat) / 256)
  let barred : Bool := hold || (sat.1 && decide (0 < ki * eps)) || (sat.2 && decide (ki * eps < 0))
  let lim := s.ilim e
  let want := if barred then x.integ else x.integ + step
  let i := clampInt (-lim) lim want
  let u : Rat := s.feed e + ((kp * eps : Int) : Rat) / 65536 + (i : Rat) / 256
  s.setNext e i u

/-! ## Temperature feed-forward (R209 to R211) -/

/-- T_e* of an element: TCO times the difference of temperatures, at most ±65,536 FDU; 0 while EN is 0. -/
def State.teGoal (s : State) (e : Nat) : Rat :=
  let n := elemCpt e
  let c := s.calRec e
  if !s.bit .stx_tff_cfg_en n then 0
  else
    let t := ((ofF32 c.tco).getD 0) * ((signed 16 (s.rd .stx_tff_status_t_pd n) - c.tCal : Int) : Rat) / 100
    max (-65536) (min 65536 t)

/-- T_e moves toward T_e* by at most TE_SLEW, or is frozen (R210). -/
def State.slewTe (s : State) (e : Nat) : State :=
  let n := elemCpt e
  if !s.hasCal e ∨ s.bit .stx_tff_status_tfroz n then s
  else
    let slew : Rat := (max 1 (s.rd .stx_tff_cfg_te_slew n) : Nat)
    let g := s.teGoal e
    s.modEl e (fun x => { x with te := max (x.te - slew) (min (x.te + slew) g) })

/-! ## Supervision (R199 to R203) -/

/-- Whether a verdict is excused: another element that names one of its monitors jumped inside the window (R202). -/
def State.excused (s : State) (e : Nat) : Bool :=
  let n := elemCpt e
  let first := max (s.el e).winFrom (s.loop.frames - s.windowLen n * s.period n)
  let mine := (s.erec e).monitors
  s.loop.elems.any (fun p =>
    p.1 != e && p.2.jumpAt.any (fun t => first ≤ t && t < s.loop.frames)
      && (s.erec p.1).monitors.any (fun m => mine.contains m))

/-- The mean of the drives written at boundaries b − W to b − 1, of those since the entry to SETTLE or MANUAL (R199). -/
def State.meanDrive (s : State) (e : Nat) : Rat :=
  let x := s.el e
  let n := elemCpt e
  let l := (x.drives.filter (fun p => p.1 < s.loop.frames && s.loop.frames ≤ p.1 + s.windowLen n * s.period n)).map (fun p => p.2)
  match l with
  | [] => x.drive
  | _ => (l.sum : Rat) / l.length

/-- The checks that a verdict fails, in the bit order of the SUPERVISION record (R201). -/
def State.failedChecks (s : State) (e : Nat) (opt raw : Rat) (q : Int) : Nat :=
  let n := elemCpt e
  let x := s.el e
  let innov := match x.uopt with
    | some v => decide (((s.rd .stx_sup_lim_rlim n : Nat) : Rat) < |opt - v|)
    | none => false
  let dev := decide (((256 * s.rd .stx_sup_lim_dlim n : Nat) : Rat) < |opt - s.feed e|)
  let clip := decide (((s.coef e .stx_coef_act_eps_max : Nat) : Rat) < |raw|)
  let quad := decide (((128 * s.rd .stx_sup_cfg_qlim n : Nat) : Int) < |q|)
  bit01 innov + 2 * bit01 dev + 4 * bit01 clip + 8 * bit01 quad

/-- Whether darkening keeps an element's integrator and supervision (R419). -/
def State.darkHold (s : State) (e : Nat) : Bool := s.gateHeld e || decide (s.loop.frames < (s.el e).darkTo)

/-- Whether an element falls into SUSPECT at this boundary: the verdict of the one before brought its count to SUS_N, and nothing keeps
it in its state (R125, R159, R203). -/
def State.falls (s : State) (e : Nat) : Bool :=
  let x := s.el e
  x.suspectDue && decide (x.suspectAt < s.loop.frames) && s.mayMove e

/-- The verdict of a window (R199 to R203). -/
def State.verdict (s : State) (e : Nat) (raw : Rat) (eps : Int) (q : Int) : State :=
  let x := s.el e
  let opt := s.meanDrive e + (eps : Rat)
  let checks := s.failedChecks e opt raw q
  let exc := s.excused e
  let cnt := if exc then x.supCnt else if checks = 0 then 0 else min 255 (x.supCnt + 1)
  let due := !exc && checks != 0 && cnt == max 1 (s.rd .stx_sup_cfg_sus_n (elemCpt e)) && x.state != 5
  let falls := s.falls e
  s.modEl e (fun y => { y with
    uopt := some opt
    epsSup := eps
    supCnt := cnt
    supChecks := checks
    supExcused := exc
    dGood := if !exc && checks == 0 && y.state != 5 && !falls then y.drive else y.dGood
    suspectDue := if falls then true else due
    suspectAt := if falls then y.suspectAt else s.loop.frames })

/-! ## One element at a boundary (R169, R176, R188) -/

/-- Whether an element's integrator is held (R125, R129, R159, R176, R419). -/
def State.integHeld (s : State) (e : Nat) : Bool :=
  s.loop.clrLow || (isV e && s.clrHeld (elemCpt e)) || (!isV e && s.heatHeld e) || s.darkHold e ||
    (match s.loop.hist with
     | f :: _ => (s.erec e).monitors.any (fun m => f.cause m == 4)
     | [] => false)

/-- The drive due at a boundary written (R169), rounded as it is written (R171); D_good for an element that falls into SUSPECT (R203).
The channel applies it only as a later one (R265). An unfinished element repeats its previous drive (R170); DESIGN CHOICE: the
integrator keeps the step of the computation that came too late. -/
def State.writeDue (s : State) (e : Nat) (late : Bool) : State :=
  let x := s.el e
  let u := match x.state with
    | 4 => if s.falls e then x.dGood else x.override
    | 5 => x.dGood
    | _ => if s.falls e then x.dGood else if late then x.drive else roundRat (x.next.getD x.drive)
  if !s.writesReach then s
  else if s.applies e then
    (s.writeDrive e u).modEl e (fun y => { y with writeIdx := some (Tbl.get 0 s.stand.index (elemCpt e)) })
  else s.countStale 1

/-- The correction that an element in HOLD takes from the window that ends at this boundary (R176, R178, R179). -/
def State.correct (s : State) (e : Nat) : State :=
  let x := s.el e
  let keep := x.gap || x.dark
  let s1 := if keep then s else s.modEl e (fun y => { y with eps := s.limEps e (s.rawEps e x.sigma) })
  s1.piLaw e (s1.el e).eps (keep || s1.integHeld e)

/-- The computation of an element at a boundary, from the window that ends there. ε reads 0 outside HOLD. -/
def State.compute (s : State) (e : Nat) : State :=
  let x := s.el e
  let m := s.measure e
  let isDark := m.nv != 0 && s.darkWin e m
  let isThin := s.thin e m
  let raw := s.rawEps e m.sigma
  let judged := !isThin && !isDark && s.hasCal e && !s.darkHold e && !(s.loop.sweeps.any (fun w => w.elem == e))
  let s1 := s.modEl e (fun y => { y with
    sigma := m.sigma
    quad := m.quad0
    q := m.q
    nv := m.nv
    periods := y.periods + 1
    gap := isThin && !isDark
    dark := isDark
    eps := if x.state = 2 then y.eps else 0 })
  let s2 := if judged then s1.verdict e raw (s.limEps e raw) m.q else s1
  if s.falls e then s2
  else match x.state with
    | 1 => s2.modEl e (fun y => { y with
        next := some (max 0 (min (s.driveMax e : Rat) (s2.feed e + (y.integ : Rat) / 256))), clipHi := false, clipLo := false })
    | 2 => s2.correct e
    | _ => s2

/-- One element at its loop-period boundary: its drive is written, T_e moves, and its next drive is computed. A JUMP computes
nothing; SUSPECT and MANUAL are measured. -/
def State.loopElem (s : State) (e : Nat) (late : Bool) : State :=
  let x := s.el e
  let s1 := s.slewTe e
  match x.state with
  | 1 | 2 | 4 | 5 => ((s1.writeDue e late).compute e).showSat e
  | _ => s1.showSat e

end Sys2Proof.Machine
end

