-- ==== Sys2Proof/Machine/Loops.lean ====
section
/-! DEFINITION. The events of the element loops (file 06) and the entries to and from SUSPECT (file 07): the loop-period
boundary, coefficient swaps, period changes, and every transition of R186. -/

namespace Sys2Proof.Machine

/-! ## The loop-period boundary (R168 to R170, R265, R269) -/

/-- The elements of a compartment that a boundary deals with, ascending: those with loop state or a record. -/
def State.loopElems (s : State) (n : Nat) : List Nat :=
  ((((s.loop.elems.map (fun p => p.1)) ++ (s.loop.cal.map (fun p => p.1))).filter
    (fun e => elemCpt e == n && s.present e)).dedup).mergeSort

/-- The counts of a compartment's elements by state, taken at its boundary (STX_CPT_CNT). -/
def State.countStates (s : State) (n : Nat) : State :=
  let es := s.cptPresent n
  let cnt (st : Nat) : Nat := (es.filter (fun e => (s.el e).state == st)).length
  let gaps := (es.filter (fun e => (s.el e).gap)).length
  let rows : List (Nat × Nat) := [(cnt 2, cnt 1), (cnt 3, cnt 4), (cnt 0, cnt 5), (cnt 6, gaps)]
  [0, 65536].foldl (fun s k => (List.range 4).foldl (fun s i =>
    (s.wr .stx_cpt_cnt_cnt_lo (k + 4 * n + i) (rows.getD i (0, 0)).1).wr .stx_cpt_cnt_cnt_hi (k + 4 * n + i)
      (rows.getD i (0, 0)).2) s) s

/-- The LOOP record of an element (R227), of what the boundary showed. -/
def State.loopRecord (s : State) (e : Nat) : List Nat :=
  let x := s.shownOf e
  leBytes 2 e ++ [x.state, x.flags] ++ leBytes 4 x.drive ++ leBytes 2 (unsigned 16 x.sigma) ++ leBytes 2 (unsigned 16 x.q)
    ++ leBytes 4 (s.frame % 2 ^ 32)

/-- An overrun of the active Stand (R170): counted in every compartment of `mask`, and reported once, by the lowest of them, as cause 3
of R271. -/
def State.overrun (s : State) (n mask : Nat) : State :=
  if !mask.testBit n || (List.range n).any (fun i => mask.testBit i) then s
  else
    let s1 := ((List.range 4).filter (fun i => mask.testBit i)).foldl (fun s i =>
      let k := standKey s.holder i
      (s.sat .stx_cpt_status_ovr_cnt k).wrBit .stx_cpt_status_ovr k true) s
    s1.standFault s.holder 3 mask

/-- The boundary index of a compartment advances by 1, modulo 2^24 (R265). -/
def State.advance (s : State) (n : Nat) : State :=
  s.modStand (fun t => { t with index := Tbl.modify 0 t.index n (fun i => (i + 1) % 2 ^ 24) })

/-! ## Coefficients (R181 to R184) -/

/-- Whether R181 accepts a set of a bank for a window of W periods. -/
def State.setOk (s : State) (kp ki ilim eps : Fid) (i w : Nat) : Bool :=
  let p := s.rd kp i
  let k := s.rd ki i
  p ≤ 16384 && 1 ≤ k && 2 * p + k * (w + 2) ≤ 65536 && s.rd ilim i ≤ 0x80000 && 1 ≤ s.rd eps i && s.rd eps i ≤ 0x40000

/-- Whether every set of a compartment's shadow bank passes R181 for a window. -/
def State.shadowOk (s : State) (n w : Nat) : Bool :=
  (List.range 16).all (fun k => s.setOk .stx_coef_kp .stx_coef_ki .stx_coef_ilim .stx_coef_eps_max (coefIdx n k) w)

/-- Whether every set of a compartment's active bank passes R181 for a window. -/
def State.activeOk (s : State) (n w : Nat) : Bool :=
  (List.range 16).all (fun k =>
    s.setOk .stx_coef_act_kp .stx_coef_act_ki .stx_coef_act_ilim .stx_coef_act_eps_max (coefIdx n k) w)

/-- Whether a commit of the shadow bank passes: for the window in force, and for a pending one (R183). -/
def State.commitOk (s : State) (n : Nat) : Bool :=
  s.shadowOk n (s.windowLen n) &&
    (match (s.cpt n).change with | some (_, w, _, _) => s.shadowOk n (windowOf w) | none => true)

/-- A commit that passed waits for its boundary; one that waits already is completed with it. -/
def State.askSwap (s : State) (n : Nat) (owner : Option Owner) : State :=
  (s.wrBit .stx_coef_ctrl_commit n true).modCpt n (fun c => { c with swap := some (s.loop.frames, owner) })

/-- COEF_COMMIT_WRITE (R183): an expert commit is scheduled, or refused with REJECT. -/
def execCoefCommitWrite (n : Fin 4) (s : State) : Result :=
  .next (if (s.cpt n).swap.isSome then s
  else if s.commitOk n then s.askSwap n none
  else (s.wrBit .stx_coef_ctrl_reject n true).wrBit .stx_coef_ctrl_commit n false)

/-- One register pair of a set swapped between the banks. -/
def State.swapPair (s : State) (a b : Fid) (i : Nat) : State := (s.wr a i (s.rd b i)).wr b i (s.rd a i)

/-- All 16 sets of a compartment swap banks. DESIGN CHOICE: a set written to the shadow bank after the commit's check is swapped in with
the others as it stands, for R183 checks at the commit alone. -/
def State.swapBanks (s : State) (n : Nat) : State :=
  (List.range 16).foldl (fun s k =>
    let i := coefIdx n k
    (((s.swapPair .stx_coef_kp .stx_coef_act_kp i).swapPair .stx_coef_ki .stx_coef_act_ki i).swapPair .stx_coef_ilim
      .stx_coef_act_ilim i).swapPair .stx_coef_eps_max .stx_coef_act_eps_max i) s

/-- An element in HOLD rescaled at the swap (R184): the drive that the old coefficients gave is kept unless the new ILIM acts. -/
def State.rescale (s : State) (e : Nat) : State :=
  let x := s.el e
  if x.state = 2 then
    let pt : Rat := (((s.coef e .stx_coef_act_kp : Int) * x.eps : Int) : Rat) / 65536
    let lim := s.ilim e
    let i := clampInt (-lim) lim (roundRat ((x.next.getD x.drive - s.feed e - pt) * 256))
    s.setNext e i (s.feed e + pt + (i : Rat) / 256)
  else s

/-- The elements of a compartment that a LOOP source names (R227). -/
def State.loopSources (s : State) (n : Nat) : List Nat :=
  let l := s.host.sources.filter (fun t => t.source == 1)
  if l = [] then [] else (elemsOf n).filter (fun e => l.any (fun t => t.first ≤ e && e < t.first + t.count))

/-- The elements of a compartment shown at its boundary, and the LOOP records of those that a source names (R198, R227). -/
def State.sendLoops (s : State) (n : Nat) : State :=
  let s1 := s.snapCpt n
  s1.telRound 1 n ((s1.loopSources n).map (fun e => (e, s1.loopRecord e)))

/-- The elements of a compartment computed at its boundary (R169, R184): where a swap of this boundary waits to rescale them, under
the coefficients that it put away, and rescaled then. -/
def State.computeCpt (s : State) (n : Nat) (late : List Nat) : State :=
  let swapped : Bool := decide ((s.cpt n).rescaleAt = some s.loop.frames)
  let s1 := if swapped then s.swapBanks n else s
  let s2 := (s1.loopElems n).foldl (fun s e => s.loopElem e (late.contains e)) s1
  if swapped then
    let s3 := (s2.swapBanks n).modCpt n (fun c => { c with rescaleAt := none })
    (s3.loopElems n).foldl (fun s e => s.rescale e) s3
  else s2

/-- LOOP_PERIOD_BOUNDARY (R168 to R170, R198, R265, R267, R269, R275): the elements of a compartment at their boundary; the shadow's
checksum (`mismatch`), an overrun of the active Stand (`mask`: the compartments unfinished at this boundary; `late`: their
elements here), and in an overlap the writes of the outgoing Stand that come after the incoming one's (`stale`), which the
Understory discards; what it wrote before, a write of this boundary replaces. A FROZEN Stand computes nothing. -/
def execLoopPeriodBoundary (n : Fin 4) (mismatch : Bool) (mask : Fin 16) (late : List Nat) (stale : Fin 2048) (s : State) :
    Result :=
  .next (if !s.atBoundary n ∨ s.ran n then s
  else
    let s1 := ((s.advance n).copyCpt n).modCpt n (fun c => { c with ranAt := some s.loop.frames })
    if s1.frozen then s1.sendLoops n
    else
      let s2 := s1.computeCpt n (if (mask.val).testBit n then late else [])
      let s3 := (if s1.overlapped n then s2.countStale stale else s2).endOverlap n
      let s5 := (((s3.countStates n).syncCheck n mismatch).powerCap).sendLoops n
      s5.overrun n mask)

/-- COEFFICIENT_SWAP (R183, R184): at the first loop-period boundary at least 2 frames after the commit, all 16 sets swap
together; the elements are rescaled once this boundary has computed their drives under the old ones. -/
def execCoefficientSwap (n : Fin 4) (s : State) : Result :=
  .next (match (s.cpt n).swap with
  | some (f, o) =>
    if !s.nextBoundary n f then s
    else
      let s1 := ((s.swapBanks n).modCpt n (fun c => { c with swap := none })).wrBit .stx_coef_ctrl_commit n false
      let s2 := (s1.wrBit .stx_coef_ctrl_bank n (!s.bit .stx_coef_ctrl_bank n)).inc .stx_coef_ctrl_swap_cnt n
      (if s.ran n then ((s2.loopElems n).foldl (fun s e => s.rescale e) s2).resnapCpt n
       else s2.modCpt n (fun c => { c with rescaleAt := some s.loop.frames })).finishOpt o { status := .ok }
  | none => s)

/-- The drive in force of an element at a boundary: the one that the boundary writes, where it has not done so yet (R169, R187). -/
def State.dueDrive (s : State) (e : Nat) : Int :=
  let x := s.el e
  if s.ran (elemCpt e) then x.drive else roundRat (x.next.getD x.drive)

/-- PERIOD_WINDOW_CHANGE (R125, R159, R196): at a multiple-of-40 boundary at least 2 frames after admission; HOLD enters SETTLE with its
drive, SETTLE starts its window afresh; an element that CLR_N or a trip holds keeps its state, its window afresh. -/
def execPeriodWindowChange (n : Fin 4) (s : State) : Result :=
  .next (match (s.cpt n).change with
  | some (p, w, f, o) =>
    if s.loop.frames < f + 2 ∨ s.frame % 40 ≠ 0 then s
    else
      let s1 := ((s.wr .stx_cpt_cfg_psel n p).wr .stx_cpt_cfg_wsel n w).wrBit .stx_cpt_cfg_pend n false
      let s2 := s1.modCpt n (fun c => { c with change := none })
      let s3 := (s2.loopElems n).foldl (fun s e =>
        let x := s.el e
        if x.state = 2 ∧ s.mayMove e then s.enterSettle e (s.dueDrive e)
        else if x.state = 1 ∨ x.state = 2 then s.modEl e (fun y => { y with winFrom := s.loop.frames, settleAt := s.loop.frames, periods := 0 })
        else s) s2
      (s3.resnapCpt n).finishOpt o { status := .ok }
  | none => s)

/-! ## Transitions (R186 to R193, R203 to R208) -/

/-- SETTLE_ENTRY (R29, R187): at the first loop-period boundary after its trajectory toward a target ends. -/
def execSettleEntry (e : Fin 10240) (s : State) : Result :=
  let x := s.el e
  .next (match x.jump with
  | some j =>
    if x.state ≠ 3 ∨ !s.jumpOver j ∨ j.goal ≠ .target ∨ !s.atBoundary (elemCpt e) ∨ !s.mayMove e then s
    else (((s.enterSettle e j.vt).resnapEl e).settled e).finishMove e j.owner { status := .ok }
  | none => s)

/-- JUMP_EXIT (R186): after a trajectory toward an override, a clear code, a frozen drive or an override value. -/
def execJumpExit (e : Fin 10240) (s : State) : Result :=
  let x := s.el e
  .next (match x.jump with
  | some j =>
    if x.state ≠ 3 ∨ !s.jumpOver j ∨ !s.atBoundary (elemCpt e) ∨ !s.mayMove e then s
    else
      let out (st : Nat) : State := (s.setState e st).modEl e (fun y => { y with jump := none })
      match j.goal with
      | .override | .manualBack => (((out 4).modEl e (fun y => { y with
          drive := j.vt, drives := [(s.loop.frames, j.vt)], override := j.vt, settleAt := s.loop.frames })).resnapEl e).finishMove e
          j.owner { status := .ok }
      | .clearPark => ((s.park e).resnapEl e).finishMove e j.owner { status := .ok }
      | .frozen => ((out 5).modEl e (fun y => { y with drive := j.vt })).resnapEl e
      | .target | .dark => s
  | none => s)

/-- HOLD_ENTRY (R29, R129, R188): at the boundary that completes one full window in SETTLE; a range change keeps the element in SETTLE
for its 46 frames. The drive of this boundary stays F + I; the window that ends here gives the first correction, for the next. -/
def execHoldEntry (e : Fin 10240) (s : State) : Result :=
  let x := s.el e
  let n := elemCpt e
  .next (if x.state ≠ 1 ∨ !s.atBoundary n ∨ s.loop.frames < max x.settleAt x.winFrom + s.windowLen n * s.period n ∨ !s.mayMove e
      ∨ s.loop.frames < x.keepTo then s
  else if s.ran n then (((s.setState e 2).correct e).resnapEl e)
  else s.setState e 2)

/-- A scheduled transition made at this boundary, with the commanded power where a heater takes a duty (R165). -/
def State.makeSched (s : State) (e : Nat) (k : Sched) (o : Option Owner) : State :=
  let s1 := s.runSched e k o
  (if isV e then s1 else s1.powerCap).resnapEl e

/-- SCHEDULED_TRANSITION (R186, R191, R193, R194): at the first loop-period boundary at least 2 frames after admission; while
CLR_N holds the element, and while no Stand's writes reach its channel (R266), it waits. -/
def execScheduledTransition (e : Fin 10240) (s : State) : Result :=
  .next (match (s.el e).sched with
  | some (.return, _, _) => s
  | some (k, f, o) => if s.nextBoundary (elemCpt e) f ∧ s.mayMove e ∧ s.writesReach then s.makeSched e k o else s
  | none => s)

/-- RETURN_TO_SERVICE (R207): an accepted return of a SUSPECT element. -/
def execReturnToService (e : Fin 10240) (s : State) : Result :=
  .next (match (s.el e).sched with
  | some (.return, f, o) => if s.nextBoundary (elemCpt e) f ∧ s.mayMove e ∧ s.writesReach then s.makeSched e .return o else s
  | _ => s)

/-- LOOP_START (R104, R123, R190): after the start-up pass, or once a record is accepted, a PARK element jumps from its clear
code toward its start target; an element released from OC or GTRIP makes its first commit in the same way. -/
def execLoopStart (e : Fin 10240) (s : State) : Result :=
  let x := s.el e
  let n := elemCpt e
  .next (if !s.present e ∨ !x.waiting ∨ s.inPass n ∨ !s.mayMove e ∨ s.latched e ∨ (isV e ∧ s.vOff e) ∨ !s.writesReach
      ∨ !s.nextBoundary n (max (s.cpt n).passFrom x.readyAt) ∨ !s.bit .glb_emap_status_loaded 0 then s
  else if x.state = 0 then
    if !s.hasCal e then s
    else
      let s1 := (s.modEl e (fun y => { y with integ := 0, imem0 := 0, imem1 := 0, frozenTgt := y.tgt })).jumpToTarget e none none
      (s1.showCleared n).resnapEl e
  else if isV e ∧ x.state ≠ 5 then ((s.fromClear e).showCleared n).resnapEl e
  else s)

/-- SUSPECT_ENTRY (R203): at the boundary after the verdict that brought the count to SUS_N; the drive written there is D_good. -/
def execSuspectEntry (e : Fin 10240) (s : State) : Result :=
  let x := s.el e
  .next (if !s.falls e ∨ !s.atBoundary (elemCpt e) ∨ !(x.state = 1 ∨ x.state = 2 ∨ x.state = 4) then s
  else
    let s1 := match x.catchUp with
      | some (_, o) => s.finishMove e o { status := .busy }
      | none => s
    let s2 := ((s1.dropMove e .busy).countSuspect e).enterSuspect e x.dGood
    ((s2.report { src := 0x1B, objKind := 1, obj := e, detail := x.supChecks }).supEvent e 1 x.supChecks).resnapEl e |>.settled e)

/-- CATCH_UP_JUMP (R208): at the first frame boundary at least 2 frames after the entry to SETTLE. -/
def execCatchUpJump (e : Fin 10240) (s : State) : Result :=
  let x := s.el e
  .next (match x.catchUp with
  | some (f, o) =>
    if x.state ≠ 1 ∨ s.loop.frames < f + 2 ∨ s.frozen ∨ s.clrHeld (elemCpt e) ∨ !s.writesReach then s
    else (((s.leaveTarget e).modEl e (fun y => { y with catchUp := none })).jumpToTarget e o none)
  | none => s)

/-- A drive difference of a new record carried into an integrator, within ±ILIM (R197). -/
def State.carry (s : State) (e : Nat) (i : Int) (old new : Nat) : Int :=
  clampInt (-(s.ilim e)) (s.ilim e) (i + 256 * ((old : Int) - new))

/-- CALIBRATION_RECORD_APPLY (R197): a newly accepted record is in force from the next boundary; the integrators take the
difference of the feed-forward drives. FF_c, where set, stands for FF. -/
def execCalibrationRecordApply (e : Fin 10240) (s : State) : Result :=
  let x := s.el e
  .next (match x.newRec with
  | some r =>
    if !s.nextBoundary (elemCpt e) x.readyAt then s
    else
      let o := s.calRec e
      let had := s.hasCal e
      let s1 := (({ s with loop := { s.loop with cal := Tbl.set {} s.loop.cal e.val r } }).modEl e (fun y => { y with newRec := none })).showCleared (elemCpt e)
      if !had then s1
      else
        let i := if x.ffc.isSome then x.integ
          else if x.loopTgt = 0 then s.carry e x.integ o.ff0 r.ff0 else s.carry e x.integ o.ff1 r.ff1
        s1.modEl e (fun y => { y with
          integ := i, imem0 := s.carry e x.imem0 o.ff0 r.ff0, imem1 := s.carry e x.imem1 o.ff1 r.ff1 })
  | none => s)

end Sys2Proof.Machine
end

