-- ==== Sys2Proof/Machine/Superv.lean ====
section
/-! DEFINITION. Outer loops, transfer calibration and its commands (R212 to R226). -/

namespace Sys2Proof.Machine

/-! ## Output-port equalisation (R212 to R216) -/

/-- The port record of an output port. -/
def State.outRec (s : State) (p : Nat) : PortRec := s.theMap.portRec (512 + p)

/-- An outer loop. -/
def State.outer (s : State) (p : Nat) : Outer := Tbl.get {} s.loop.outers p

/-- An outer loop changed by `f`. -/
def State.modOuter (s : State) (p : Nat) (f : Outer → Outer) : State :=
  { s with loop := { s.loop with outers := Tbl.modify {} s.loop.outers p f } }

/-- Whether a port's outer interval ends are reported though its loop is off: an OUTER source names it (R227). -/
def State.outerNamed (s : State) (p : Nat) : Bool := s.host.sources.any (fun t => t.source == 2 && t.first ≤ p && p < t.first + t.count)

/-- The output ports whose outer intervals are followed: those whose loop is enabled, and those that an OUTER source names. -/
def State.outPorts (s : State) : List Nat :=
  if s.host.sources.any (fun t => t.source == 2) then
    (List.range 512).filter (fun p => s.bit .stx_out_cfg_en p || s.outerNamed p)
  else s.listed .stx_out_cfg_en

/-- A frame counted by the outer loops that are followed. -/
def State.countOuters (s : State) (f : FrameRec) : State :=
  s.outPorts.foldl (fun s p =>
    let m := (s.outRec p).tap
    if f.valid m && !f.ovr m then
      s.modOuter p (fun o => { o with cnt := o.cnt + 1, sum := o.sum + f.result m * (fsPa (f.range m) : Int) })
    else s) s

/-- The largest L with 10^(2L − 1) ≤ x^2000, built from its highest bit: 1,000 · log10 x to the nearest unit, as a signed field
of 16 bits (R212). -/
def levelOf (x : Rat) : Int :=
  let a : Nat := x.num.toNat ^ 2000
  let b : Nat := x.den ^ 2000
  let fits (l : Int) : Bool :=
    let k := 2 * l - 1
    if 0 ≤ k then decide (10 ^ k.toNat * b ≤ a) else decide (b ≤ a * 10 ^ (-k).toNat)
  ((List.range 16).reverse).foldl (fun (l : Int) b => if fits (l + 2 ^ b) then l + 2 ^ b else l) (-32768)

/-- The OUTER record of a port (R227). -/
def State.outerRecord (s : State) (p : Nat) (mean : Rat) : List Nat :=
  leBytes 2 p ++ [s.rd .stx_out_status_held p + 2 * s.rd .stx_out_status_dark p + 4 * s.rd .stx_out_status_sat p
      + 8 * s.rd .stx_out_cfg_en p, 0]
    ++ leBytes 2 (s.rd .stx_out_status_level p) ++ leBytes 2 (unsigned 16 (s.sspOf (s.outRec p).gate))
    ++ leBytes 4 (unsigned 32 (roundRat mean)) ++ leBytes 4 (s.frame % 2 ^ 32)

/-- An update of an outer loop that is not held (R214): the step KO · e / 256 is rounded to a Q1.15 unit. -/
def State.outerStep (s : State) (p : Nat) (mean : Rat) : State :=
  let g := (s.outRec p).gate
  let level := levelOf (mean / ((max 1 (s.rd .stx_out_ref_i_ref p) : Nat) : Rat))
  let err := signed 16 (s.rd .stx_out_tgt_target p) - level
  let d := roundRat (((s.rd .stx_out_cfg_ko p : Int) * err : Int) / 256)
  let dl := clampInt (-4096) 4096 d
  let want := |s.sspOf g| - dl
  let got := clampInt 0 (s.rd .stx_out_tgt_sp_max p) want
  let s1 := ((s.wr .stx_out_status_level p (unsigned 16 level)).wrBit .stx_out_status_held p false).wrBit .stx_out_status_dark p false
  (s1.wrBit .stx_out_status_sat p (dl != d || got != want)).modEl g (fun x => { x with
    ssp := some (if s.bit .stx_out_cfg_side p then -got else got) })

/-- OUTER_INTERVAL_END (R212 to R216, R227): every DIV periods of the gate's compartment the loop updates σ_sp, or is held; a port whose
loop is off gives its record alone. -/
def execOuterIntervalEnd (p : Fin 512) (s : State) : Result :=
  let r := s.outRec p
  let n := elemCpt r.gate
  let div := s.rd .stx_out_cfg_div p + 1
  .next (if !(s.bit .stx_out_cfg_en p || s.outerNamed p) ∨ r.gate = 0xFFFF ∨ !s.atBoundary n ∨ s.frame / s.period n % div ≠ 0 then s
  else
    let o := s.outer p
    let mean : Rat := if o.cnt = 0 then 0 else (o.sum : Rat) / 32768 / o.cnt
    let dim : Bool := decide (mean < ((1000 * s.rd .stx_sup_cfg_light_min n : Nat) : Rat)) || decide (mean ≤ 0)
    let held := (s.el r.gate).state != 2 || 2 * o.cnt < div * s.period n || dim || s.loop.dark.contains r.gate || s.fenced n
    let s1 := if !s.bit .stx_out_cfg_en p then s
      else if held then (s.wrBit .stx_out_status_held p (!dim)).wrBit .stx_out_status_dark p dim else s.outerStep p mean
    (s1.modOuter p (fun _ => { from0 := s.loop.frames })).telRound 2 p [(p.val, s1.outerRecord p mean)])

/-- The outer loop of a port turned on or off: it starts from the σ_sp in force, and stores that into SSP_0 when it ends (R214,
R225). -/
def State.outerOn (s : State) (p : Nat) (en : Bool) : State :=
  let g := (s.outRec p).gate
  if en = s.bit .stx_out_cfg_en p then s
  else if en then (s.wrBit .stx_out_cfg_en p true).modOuter p (fun _ => { from0 := s.loop.frames })
  else
    let v := s.sspOf g
    let s1 := s.modCal g (fun c => { c with ssp0 := v })
    ({ s1 with loop := { s1.loop with calFlash := Tbl.modify {} s1.loop.calFlash g (fun c => { c with ssp0 := v }) } }).wrBit
      .stx_out_cfg_en p false

/-- Whether an enabled outer loop feeds an element (R194). -/
def State.outerFeeds (s : State) (e : Nat) : Bool := (s.listed .stx_out_cfg_en).any (fun p => (s.outRec p).gate == e)

/-- Whether R215 refuses a port's gate and tap. -/
def State.badPort (s : State) (p : Nat) : Bool :=
  let r := s.outRec p
  r.gate == 0xFFFF || r.tap == 0xFFFF || monCpt r.tap != elemCpt r.gate

/-- OUTER_CONFIG, EQUALISATION (R215): the loops of output ports FIRST to FIRST + COUNT − 1. -/
def execOuterConfigEqualisation (h : Hdr) (first count en side div ko target spMax iref : Nat) (s : State) : Result :=
  let ps := span first count
  .next (s.checked h
    ([(count = 0 || 512 < first + count || 1 < en || 1 < side || div = 0 || 256 < div || 65535 < ko || 32767 < spMax, .invalidField)]
     ++ s.needsMap ++
     [(ps.any s.badPort, .invalidField),
     (ps.any (fun p => !s.holdsElem h.mbx (s.outRec p).gate), .outOfPartition),
     (ps.any (fun p => s.fenced (elemCpt (s.outRec p).gate)), .fenced)])
    (fun s => (ps.foldl (fun s p =>
      let s1 := (((s.wr .stx_out_cfg_side p side).wr .stx_out_cfg_div p (div - 1)).wr .stx_out_cfg_ko p ko)
      (((s1.wr .stx_out_tgt_target p target).wr .stx_out_tgt_sp_max p spMax).wr .stx_out_ref_i_ref p iref).outerOn p
        (en == 1)) s).status h .ok))

/-- TCO of an element's records written: the one in force, in flash, accepted and on its way, and that which a running sweep is to
replace (R223). -/
def State.putTco (s : State) (e : Nat) (put : ElCal → ElCal) : State :=
  ((s.modCal e put).modEl e (fun x => { x with newRec := x.newRec.map put })).modLoop (fun l => { l with
    calFlash := Tbl.modify {} l.calFlash e put
    calPend := l.calPend.map (fun p => if p.1 = e then (p.1, put p.2.1, p.2.2) else p)
    sweeps := l.sweeps.map (fun w => if w.elem = e then { w with old := put w.old } else w) })

/-- OUTER_CONFIG, TEMPERATURE (R223): TCO into the records of named elements, a flash write; and a compartment's settings. -/
def execOuterConfigTemperature (h : Hdr) (first count tco comp en sensor slew : Nat) (s : State) : Result :=
  let setC := comp != 0xFF
  .next (s.checked h
    ([(10240 < first + count || (setC && 3 < comp) || 1 < en || 3 < sensor, .invalidField),
     (!s.holdsElems h.mbx first count || (setC && !s.holdsCptElems h.mbx comp), .outOfPartition)]
     ++ (if count = 0 then [] else s.needsMap))
    (fun s =>
      if 0 < count ∧ s.flashRefused then s.countRefused.status h .tempInhibit
      else
        let put (c : ElCal) : ElCal := { c with tco := tco, flags := c.flags ||| 8 }
        let s1 := (span first count).foldl (fun s e => s.putTco e put) s
        let s3 := if setC then
            ((s1.wr .stx_tff_cfg_en comp en).wr .stx_tff_cfg_sensor comp sensor).wr .stx_tff_cfg_te_slew comp slew
          else s1
        s3.status h .ok))

/-! ## Sweeps (R217 to R223) -/

/-- Whether T_SUCCESS of an element's record, 0 where it has none, is older than INTERVAL of its compartment (R224). -/
def State.overdue (s : State) (e : Nat) : Bool :=
  let i := s.rd .cal_ecal_sched_interval (elemCpt e)
  i != 0 && decide ((s.calRec e).success + i * 3600 * 1000000000 * tickNs < s.datum.t)

/-- OVERDUE of a compartment shown. -/
def State.showOverdue (s : State) (n : Nat) : State :=
  s.wr .cal_ecal_sched_overdue n
    (((elemsOf n).filter (fun e => s.present e && s.overdue e)).length)

/-- Whether an element is wanted for a sweep: by a CAL_RUN, by the module itself (R110), or by its schedule. -/
def State.sweepWanted (s : State) (e : Nat) : Bool :=
  s.loop.runs.any (fun r => r.waiting.contains e) || s.loop.calWant.contains e || s.overdue e

/-- CAL_PAR as it acts: 0 acts as 1, above 64 as 64. -/
def State.calPar (s : State) : Nat := max 1 (min 64 (s.rd .cal_ecal_ctrl_cal_par 0))

/-- Whether R218 and R300 let a sweep of an element start. -/
def State.sweepable (s : State) (e : Nat) : Bool :=
  let n := elemCpt e
  let x := s.el e
  let mine := (s.erec e).monitors
  s.present e && !s.carries e && (x.state == 2 || x.state == 0) && x.sched.isNone && x.rchg.isNone && !s.fenced n && !s.inPass n
    && !s.bit .cal_syscal_status_active n && (isV e || !s.heatHeld e) && !s.loop.clrLow && !s.clrHeld n && !s.frozen
    && ((s.loop.sweeps.filter (fun w => elemCpt w.elem == n)).length < s.calPar)
    && !(s.loop.sweeps.any (fun w => (s.erec w.elem).monitors.any (fun m => mine.contains m)))
    && !(s.loop.calPend.any (fun p => p.1 == e)) && !s.gateDark e && !s.bit .dtm_status_step_pend 0

/-- The coarse points of a sweep (R219), to the nearest FDU (R171). -/
def coarsePoints (top : Nat) : List Nat := (List.range 33).map (fun i => (i * top + 16) / 32)

/-- An override that a sweep makes. -/
def State.sweepTo (s : State) (e d : Nat) : State :=
  s.modEl e (fun x => { x with sched := some (.override d, s.loop.frames, none) })

/-- SWEEP_START (R218, R219): a sweep of an element that is wanted and eligible starts with its first coarse point. -/
def execSweepStart (e : Fin 10240) (s : State) : Result :=
  .next (if !s.sweepWanted e ∨ !s.sweepable e then s
  else
    let run := (s.loop.runs.find? (fun r => r.waiting.contains e.val)).map (fun r => r.num)
    let w : Sweep := { elem := e, run := run, todo := coarsePoints (s.driveMax e), old := s.calRec e }
    ((s.modLoop (fun l => { l with
      sweeps := l.sweeps ++ [w], calWant := l.calWant.filter (fun x => x != e.val) })).showSweeps).sweepTo e 0)

/-- The weighted sums of a sweep point: Σ WGT Y and Σ WGT Q over the element's monitors, in pA per FDU (R219). -/
def State.pointSum (s : State) (e : Nat) (rs : List (Rat × Rat)) : Rat × Rat :=
  let ws := ((s.monTerms e).map (fun t => (t.2.1 : Rat))).zip rs
  ((ws.map (fun p => p.1 * p.2.1)).sum, (ws.map (fun p => p.1 * p.2.2)).sum)

/-- A sweep point measured over the window since its entry to MANUAL (R219). -/
def State.sweepMeas (s : State) (e d : Nat) : Nat × Rat × List (Rat × Rat) :=
  let fs := s.windowFrames e (s.el e).settleAt
  let ds := (s.monTerms e).map (fun t => (t.2.1, s.demodAt e t.1 t.2.2 fs))
  (d, (ds.map (fun p => (p.1 : Rat) * p.2.mean)).sum / 16384, ds.map (fun p => (p.2.y, p.2.q)))

/-- The coarse indices of the local extrema of the mean current, ascending, ends apart: maxima, or minima. -/
def extrema (l : List Rat) (maxima : Bool) : List Nat :=
  (List.range l.length).filter (fun i =>
    let a := l.getD (i - 1) 0
    let b := l.getD i 0
    let c := l.getD (i + 1) 0
    0 < i && i + 1 < l.length && (if maxima then decide (a < b) && decide (c ≤ b) else decide (b < a) && decide (b ≤ c)))

/-- The extremum that a parabola through a coarse point and its two neighbours gives, as a drive. -/
def vertex (l : List Rat) (i top : Nat) : Rat :=
  let a := l.getD (i - 1) 0
  let b := l.getD i 0
  let c := l.getD (i + 1) 0
  let h : Rat := (top : Rat) / 32
  let den := 2 * (a - 2 * b + c)
  (i : Rat) * h + (if den = 0 then 0 else h * (a - c) / den)

/-- The located extrema of an element's targets (R220): BAR and CROSS of a cell, else the one target; none where one lies at an
end of the range. -/
def State.locate (s : State) (e : Nat) (l : List Rat) : Option (List Rat) :=
  let top := s.driveMax e
  let tops := (extrema l true).map (fun i => vertex l i top)
  if (s.erec e).isCell then
    match tops, (extrema l false).map (fun i => vertex l i top) with
    | a :: _, b :: _ => some [a, b]
    | _, _ => none
  else match tops with
    | [] => none
    | a :: r =>
      if s.hasCal e then
        let ff : Rat := ((s.calRec e).ff0 : Nat)
        some [r.foldl (fun b v => if |v - ff| < |b - ff| then v else b) a]
      else some [a]

/-- The fine points about an extremum (R219). -/
def finePoints (x : Rat) (top : Nat) : List Nat :=
  (List.range 9).map (fun k =>
    (clampInt 0 top (roundRat (x + (((k : Int) - 4 : Int) : Rat) * (top : Rat) / 256))).toNat)

/-- The least-squares line of points (drive, σ): its gradient, its drive at σ = 0, and its rms residual. -/
def fitLine (l : List (Rat × Rat)) : Rat × Rat × Rat :=
  let n : Rat := (l.length : Rat)
  let mx := (l.map (fun p => p.1)).sum / n
  let my := (l.map (fun p => p.2)).sum / n
  let sxx := (l.map (fun p => (p.1 - mx) * (p.1 - mx))).sum
  let g := if sxx = 0 then 0 else (l.map (fun p => (p.1 - mx) * (p.2 - my))).sum / sxx
  let res := (l.map (fun p => (p.2 - my - g * (p.1 - mx)) * (p.2 - my - g * (p.1 - mx)))).sum / n
  (g, if g = 0 then 0 else mx - my / g, res)

/-- The difference of two angles in 2π/65,536, at most half a turn. -/
def turnGap (a b : Nat) : Nat := let d := (a + 65536 - b) % 65536; min d (65536 - d)

/-- What a complete sweep gives: its record and the RESULT of R221. -/
def State.judge (s : State) (w : Sweep) : ElCal × Nat :=
  let e := w.elem
  let coarse := w.points.take 33
  let fine := w.points.drop 33
  let mags := coarse.map (fun p => (Config.magnitude (s.pointSum e p.2.2).1 (s.pointSum e p.2.2).2, p))
  let best := mags.foldl (fun b p => if b.1 < p.1 then p else b) (0, (0, 0, []))
  let k : Rat := best.1 / 16384
  let sig (p : Nat × Rat × List (Rat × Rat)) : Rat × Rat := ((p.1 : Nat), if k = 0 then 0 else (s.pointSum e p.2.2).1 / (16384 * k))
  let f0 := fitLine ((fine.take 9).map sig)
  let f1 := fitLine ((fine.drop 9).map sig)
  let cell := (s.erec e).isCell
  let th (i old : Nat) : Nat := match best.2.2.2[i]? with | some y => (old + Config.angle y.1 y.2) % 65536 | none => 0
  let has0 := (s.erec e).mon0 != 0xFFFF
  let has1 := (s.erec e).mon1 != 0xFFFF
  let ff (v : Rat) : Nat := (clampInt 0 (2 ^ 20 - 1) (roundRat v)).toNat
  let r : ElCal := { w.old with
    flags := (w.old.flags ||| 1 ||| (if cell then 2 else 0))
    result := 0
    count := (w.old.count + 1) % 2 ^ 32
    success := s.datum.t
    attempt := s.datum.t
    ff0 := ff f0.2.1
    ff1 := if cell then ff f1.2.1 else 0
    ssp0 := if s.outerFeeds e then s.sspOf e else 0
    ssp1 := 0
    s0 := toF32 f0.1
    s1 := if cell then toF32 f1.1 else 0
    k := toF32 (k / 1000000000000)
    theta0 := if has0 then th 0 w.old.theta0 else 0
    theta1 := if has1 then th (if has0 then 1 else 0) w.old.theta1 else 0
    tCal := signed 16 (s.rd .stx_tff_status_t_pd (elemCpt e)) }
  let old := w.old
  let means := coarse.map (fun p => p.2.1)
  let hi := means.foldl max (means.headD 0)
  let lo := means.foldl min (means.headD 0)
  let change : Bool := old.flags.testBit 0 &&
    (65536 < (r.ff0 - old.ff0) + (old.ff0 - r.ff0) || (cell && 65536 < (r.ff1 - old.ff1) + (old.ff1 - r.ff1))
      || decide (2 * old.kPa < k) || decide (2 * k < old.kPa)
      || 8192 < turnGap r.theta0 old.theta0 || 8192 < turnGap r.theta1 old.theta1)
  let code :=
    if hi < ((1000 * s.rd .stx_sup_cfg_light_min (elemCpt e) : Nat) : Rat) then 1
    else if fine = [] ∨ (cell ∧ hi < 10 * lo) then 2
    else if k = 0 ∨ 0 ≤ f0.1 ∨ (cell ∧ f1.1 ≤ 0) then 3
    else if change then 4
    else if (5 : Rat) / 100 * (5 / 100) < f0.2.2 ∨ (cell ∧ (5 : Rat) / 100 * (5 / 100) < f1.2.2) then 5
    else 0
  (r, code)

/-- TCO learnt from the previous accepted record, five degrees away or more (R223). -/
def learnTco (r old : ElCal) : ElCal :=
  let d := r.tCal - old.tCal
  if old.flags.testBit 0 ∧ !old.flags.testBit 3 ∧ 500 ≤ |d| then
    { r with tco := toF32 ((((r.ff0 : Int) - old.ff0 : Int) : Rat) * 100 / d), flags := r.flags ||| 4 }
  else r

/-- A sweep whose last point has been made ends (R219, R221, R226): the element is released; an accepted result is written to
flash, or refused for temperature with RESULT 8; one that darkening has met is rejected with RESULT 1 (R422). -/
def State.finishSweep (s : State) (w : Sweep) : State :=
  let v := if w.dimmed then (w.old, 1) else s.judge w
  let s0 := s.releaseElem w.elem
  if v.2 ≠ 0 then s0.endSweep w v.2 false
  else if s.flashRefused then (s0.countRefused).endSweep w 8 false
  else
    (s0.modLoop (fun l => { l with
      sweeps := l.sweeps.filter (fun x => x.elem != w.elem)
      calPend := l.calPend ++ [(w.elem, learnTco v.1 w.old, w.run)] })).showSweeps

/-- SWEEP_POINT (R219): one window of periods after the entry to MANUAL a point is measured, and the sweep moves on. -/
def execSweepPoint (e : Fin 10240) (s : State) : Result :=
  let n := elemCpt e
  let x := s.el e
  .next (match s.loop.sweeps.find? (fun w => w.elem == e.val) with
  | none => s
  | some w =>
    match w.todo with
    | [] => s
    | d :: rest =>
      if x.state ≠ 4 ∨ x.sched.isSome ∨ s.loop.frames < x.settleAt + s.windowLen n * s.period n ∨ s.frozen ∨ s.clrHeld n then s
      else
        let w1 : Sweep := { w with points := w.points ++ [s.sweepMeas e d], todo := rest }
        let put (t : State) (v : Sweep) : State :=
          t.modLoop (fun l => { l with sweeps := l.sweeps.map (fun y => if y.elem = v.elem then v else y) })
        match rest with
        | d2 :: _ => (put s w1).sweepTo e d2
        | [] =>
          if !w.coarse then s.finishSweep w1
          else match s.locate e (w1.points.map (fun p => p.2.1)) with
            | none => s.finishSweep w1
            | some l =>
              let todo := l.flatMap (fun v => finePoints v (s.driveMax e))
              (put s { w1 with coarse := false, todo := todo }).sweepTo e (todo.headD 0))

/-- SWEEP_DEADLINE (R224, R225): an element that a CAL_RUN still waits for at its deadline gets RESULT 9 in SUSPECT or MANUAL,
else 7. A sweep that runs is let end. -/
def execSweepDeadline (e : Fin 10240) (s : State) : Result :=
  let due := s.loop.runs.filter (fun r => r.waiting.contains e.val && r.deadline ≤ s.loop.frames)
  .next (if due = [] ∨ s.loop.sweeps.any (fun w => w.elem == e.val) ∨ s.loop.calPend.any (fun p => p.1 == e.val) then s
  else
    let code := if (s.el e).state = 4 ∨ (s.el e).state = 5 then 9 else 7
    due.foldl (fun s r => s.runResult (some r.num) e code false) (s.noteResult e code))

/-- The checks of CAL_RUN (R191, R224): field, partition, map and presence, fence, SUSPECT. -/
def State.calRunChecks (s : State) (h : Hdr) (first mode count deadline : Nat) : List (Bool × Status) :=
  let es := span first count
  let cpts := (es.map elemCpt).dedup
  [(count = 0 || 10240 < first + count || 1 < mode || (mode = 0 && deadline = 0), .invalidField),
   (if mode = 1 then cpts.any (fun n => !s.holdsCptElems h.mbx n) else !s.holdsElems h.mbx first count, .outOfPartition)] ++ s.needsMap ++ [
   (es.any (fun e => !s.present e), .notPermitted),
   (cpts.any s.fenced, .fenced),
   (es.any (fun e => (s.el e).state == 5), .notPermitted),
   (s.frozen, .internal)]

/-- CAL_RUN, TRANSFER (R224): MODE 1 sets a schedule; MODE 0 asks for one sweep of each named element. -/
def execCalRun (h : Hdr) (first mode count deadline interval : Nat) (s : State) : Result :=
  .next (s.checked h (s.calRunChecks h first mode count deadline) (fun s =>
    if mode = 1 then
      (((span first count).map elemCpt).dedup.foldl (fun s n =>
        (s.wr .cal_ecal_sched_interval n interval).showOverdue n) s).status h .ok
    else
      let s1 := s.entered h
      let o := s1.ownerOf h
      let r : CalRun := { num := s.loop.nextRun, owner := o, waiting := span first count,
                          deadline := s.loop.frames + deadline * 1000000000 / 1024 }
      (s1.modLoop (fun l => { l with runs := l.runs ++ [r], nextRun := l.nextRun + 1 })).effect o))

end Sys2Proof.Machine
end

