-- ==== Sys2Proof/Machine/Boot.lean ====
section
/-! DEFINITION. The boot sequence, staging and activation of firmware and maps, fuses and JTAG (file 17, R66 to R69, R285 to
R287). -/

namespace Sys2Proof.Machine

/-! ## The boot sequence (R470 to R476) -/

/-- The word of BOOT_FUSE. -/
def State.fuseWord (s : State) : Nat :=
  s.rd .boot_fuse_sig_enf 0 + 2 * s.rd .boot_fuse_jtag_lock 0 + 16 * s.rd .boot_fuse_revoke 0
    + 256 * s.rd .boot_fuse_svn_fuse 0

/-- The bank that the ROM boots from: 0 the active one, 1 the inactive one in FALLBACK; none in RECOVERY (R472). -/
def State.bootBank (s : State) : Option (Bool × Image) :=
  let ok (b : Option Image) : Option Image := b.filter s.imgAccepted
  match ok s.boot.active, ok s.boot.inactive with
  | some b, _ => some (false, b)
  | none, some b => some (true, b)
  | none, none => none

/-- Steps 1 and 2: the fault collector and housekeeping start; the measurement registers are cleared (R470, R476). -/
def State.bootStart (s : State) : State :=
  let s1 := { s with
    flt := { s.flt with started := true, dead := false, errTo := 0 }
    hkp := { s.hkp with started := true }
    datum := { s.datum with t := 0 }
    boot := { s.boot with mregs := [], step := 8, actStep := 0 } }
  (s1.inc .boot_status_boots 0).driveErr

/-- Steps 3 and 4: the fuses are measured, the bank is selected, loader, firmware, kernel and header are measured (R470, R472,
R475). -/
def State.bootImage (s : State) : State :=
  let s1 := s.extend 5 (leBytes 4 s.fuseWord ++ leBytes 4 s.bootWord)
  match s1.bootBank with
  | none => (s1.wrBit .boot_status_recovery 0 true).showStaged
  | some (fallback, b) =>
    let s2 := ((s1.extend 0 (sectionBytes b 0x14)).extend 3 (b.take 0xC0)).wrBit .boot_status_bank 0 (s1.boot.activeB != fallback)
    let s3 := ((s2.wrBit .boot_status_fallback 0 fallback).wrBit .boot_status_sig_ok 0 (imgSigOk b)).wr .boot_fw_ver_version 0
      (imgVersion b)
    let s4 := if fallback then s3.extendEvent 4 else s3
    ((s4.extend 1 (sectionBytes b 0x1C)).extend 2 (sectionBytes b 0x24)).showStaged

/-- Steps 6 and 7: profiles and the start-up slot are read and measured, the element map is loaded, persisted slots and
calibration records are loaded, the start-up state is solved, the Firebreak link is opened (R470). -/
def State.bootLoad (s : State) : State :=
  let s1 := (List.range 4).foldl (fun s n => s.loadProfs n) s
  let s2 := (s1.wr .trv_boot_slot 0 (s.trv.boot.getD 0)).wrBit .trv_boot_en 0 s.trv.boot.isSome
  let s3 := (s2.extendProfs.loadMap true).loadMapSettings
  let s4 := (s3.modTrv (fun t => { t with slots := t.flash })).modLoop (fun l => { l with cal := l.calFlash })
  s4.startForce.openLink

/-- Step 8: MB0 admission opens and the start-up pass starts in every compartment (R102, R470). -/
def State.bootOpen (s : State) : State :=
  let s1 := { s with host := { s.host with admission := true } }
  (List.range 4).foldl (fun s n => (s.modCpt n (fun c => { c with pass := true, passFrom := s.loop.frames })).showCleared n) s1

/-- BOOT_SEQUENCE (R470): the release after POR, with CLKREF present, or the end of a DRST. In RECOVERY nothing after step 4 but
admission starts (R472). -/
def execBootSequence (s : State) : Result :=
  .next (if s.boot.step ≠ 0 ∨ s.boot.clkref = false then s
  else
    let s1 := s.bootStart.bootImage
    if s1.bit .boot_status_recovery 0 then { s1 with host := { s1.host with admission := true } }
    else s1.bootLoad.bootOpen)

/-! ## FW_STAGE (R66, R479, R480) -/

/-- The first row of R479 for DST: 0, or a chain address 1 to COUNT other than this module's own. -/
def State.dstBad (s : State) (dst : Nat) : Bool := dst != 0 && (s.rd .chp_fab_count_count 0 < dst || dst == s.addr)

/-- A staging sent to another module (R480): its first DATA frames leave. -/
def State.startXfer (s : State) (h : Hdr) (kind dst : Nat) (b : List Nat) : State :=
  let s1 := s.entered h
  let x : Xfer := {
    owner := s1.ownerOf h, kind := kind, xferId := s.boot.nextXfer, dst := dst, image := b, sentAt := s.loop.frames }
  (s1.modBoot (fun t => { t with xferOut := some x, nextXfer := (t.nextXfer + 1) % 65536 })).showStaging.sendBulk x 0 64

/-- FW_STAGE of either kind after its own length check. -/
def State.fwStage (s : State) (h : Hdr) (kind dst : Nat) (b : List Nat) : State :=
  if dst = 0 then (s.stage kind b).1.status h (s.stage kind b).2 else s.startXfer h kind dst b

/-- FW_STAGE, FIRMWARE (R479). -/
def execFwStageFirmware (h : Hdr) (length dst buf : Nat) (image : List Nat) (s : State) : Result :=
  .next (s.checked h
    [(length == 0 || 33554432 < length || image.length != length || s.dstBad dst || s.badSrc h buf 16 length, .invalidField),
     (h.mbx != 0, .notPermitted), (s.stageBusy dst, .busy)]
    (fun s => s.fwStage h 1 dst image))

/-- FW_STAGE, ELEMENT_MAP (R66, R479). -/
def execFwStageElementMap (h : Hdr) (length dst buf : Nat) (image : List Nat) (s : State) : Result :=
  .next (s.checked h
    [(!mapLengthOk length || image.length != length || s.dstBad dst || s.badSrc h buf 16 length, .invalidField),
     (h.mbx != 0, .notPermitted), (s.stageBusy dst, .busy)]
    (fun s => s.fwStage h 2 dst image))

/-- A staging sent to another module ends with a status (R480). -/
def State.endXfer (s : State) (x : Xfer) (st : Status) : State :=
  (s.modBoot (fun t => { t with xferOut := none })).showStaging.finish x.owner { status := st }

/-- FW_BULK_STATUS (R480): the originator resumes from ACKED. -/
def execFwBulkStatus (src xferId acked : Nat) (s : State) : Result :=
  .next (match s.boot.xferOut with
  | some x =>
    if x.dst = src ∧ x.xferId = xferId ∧ acked ≤ x.image.length then
      let y : Xfer := { x with
        acked := acked, attempts := 0, sentAt := s.loop.frames
        wholeAt := if acked = x.image.length then some (x.wholeAt.getD s.loop.frames) else none }
      (s.modBoot (fun t => { t with xferOut := some y })).sendBulk y acked 64
    else s
  | none => s)

/-- FW_BULK_DONE (R480): the originator's completion carries the target's status. -/
def execFwBulkDone (src xferId status : Nat) (s : State) : Result :=
  .next (match s.boot.xferOut with
  | some x => if x.dst = src ∧ x.xferId = xferId then s.endXfer x (Status.ofCode status) else s
  | none => s)

/-- FW_BULK_TIMEOUT (R480): 10 ms without STATUS or DONE resend from ACKED, and after three such attempts end with REMOTE_TIMEOUT;
so do (`late`) 30 s without DONE once the whole image has been acknowledged. -/
def execFwBulkTimeout (late : Bool) (s : State) : Result :=
  .next (match s.boot.xferOut with
  | some x =>
    match late, x.wholeAt with
    | true, some t => if t + framesIn 30000000000 ≤ s.loop.frames then s.endXfer x .remoteTimeout else s
    | false, none =>
      if s.loop.frames < x.sentAt + framesIn 10000000 then s
      else if 3 ≤ x.attempts then s.endXfer x .remoteTimeout
      else
        let y : Xfer := { x with attempts := x.attempts + 1, sentAt := s.loop.frames }
        (s.modBoot (fun t => { t with xferOut := some y })).sendBulk y y.acked 64
    | _, _ => s
  | none => s)

/-- A transfer refused with DONE (R480). -/
def State.refuseXfer (s : State) (src kind xferId total : Nat) (st : Status) : State :=
  s.sendBulkReply { src := src, kind := kind, xferId := xferId, total := total } 3 st.code

/-- DATA of a transfer that this module receives (R480): without a gap it is kept, and what it has already is not; 64 frames or a
gap are answered with STATUS; the whole image is staged and DONE sent. -/
def State.takeBulk (s : State) (x : XferIn) (offset : Nat) (data : List Nat) : State :=
  if x.data.length < offset then s.sendBulkReply x 2 0
  else
    let y : XferIn := { x with data := if offset < x.data.length then x.data else x.data ++ data, frames := x.frames + 1 }
    if y.total ≤ y.data.length then
      let r := (s.modBoot (fun t => { t with xferIn := none })).showStaging.stage y.kind y.data
      r.1.sendBulkReply y 3 r.2.code
    else
      let s1 := s.modBoot (fun t => { t with xferIn := some y })
      if y.frames % 64 = 0 then s1.sendBulkReply y 2 0 else s1

/-- FW_BULK_DATA (R480): DATA of a remote staging arrives. A transfer is refused where R342 would refuse opcode 0x80, and with BUSY
while another transfer or a staging is held. -/
def execFwBulkData (src kind xferId total offset : Nat) (data : List Nat) (s : State) : Result :=
  let start : XferIn := { src := src, kind := kind, xferId := xferId, total := total }
  .next (match s.boot.xferIn with
  | some x => if x.src = src ∧ x.xferId = xferId then s.takeBulk x offset data else s.refuseXfer src kind xferId total .busy
  | none =>
    if !s.bit .chp_remote_accept 0 ∨ (s.rd .chp_remote_class_en 0).testBit 8 = false then
      s.refuseXfer src kind xferId total .notPermitted
    else if s.activating then s.refuseXfer src kind xferId total .busy
    else (s.modBoot (fun t => { t with xferIn := some start })).showStaging.takeBulk start offset data)

/-! ## FW_ACTIVATE (R67 to R69, R285 to R287, R481) -/

/-- Whether every element is in PARK or FENCED. -/
def State.allParked (s : State) : Bool := s.loop.elems.all (fun p => p.2.state == 0 || p.2.state == 6)

/-- R285: both Stands compute, the shadow is ELIGIBLE, and an image that changes the loop-state format finds every element parked. -/
def State.mayActivate (s : State) (b : Image) : Bool :=
  s.standState s.holder == 3 && s.eligible && (!imgLoopFormat b || s.allParked)

/-- FW_ACTIVATE, FIRMWARE (R285, R286, R472, R481): step 1 starts with the shadow OFFLINE. In RECOVERY the bank is marked active
and DRST requested, unless the flash write is refused (R468). -/
def execFwActivateFirmware (h : Hdr) (s : State) : Result :=
  let b := s.boot.inactive.getD []
  .next (s.checked h
    [(h.mbx != 0, .notPermitted), (s.boot.inactive.isNone, .notFound), (s.fwBusy, .busy), (!imgFormed b, .invalidField),
     (s.imgRejected b, .authFailed), (!s.bit .boot_status_recovery 0 && !s.mayActivate b, .notPermitted)]
    (fun s =>
      if s.bit .boot_status_recovery 0 ∧ s.flashRefused then s.countRefused.status h .tempInhibit
      else if s.bit .boot_status_recovery 0 then
        let s1 := s.modBoot (fun t => { t with activeB := !t.activeB })
        ({ s1 with flt := { s1.flt with drstPending := true } }).status h .ok
      else
        let s1 := s.entered h
        let s2 := s1.modBoot (fun t => { t with actStep := 1, actOwner := some (s1.ownerOf h) })
        (s2.wrBit .boot_status_activating 0 true).offline s.shadow))

/-- FORESTER_RESTART_COMPLETE (R286, R481): the marker moves, the new image is measured, SVN_FUSE rises if signatures are enforced
(`fuseOk` says whether that write works), and the command completes; a marker write refused for temperature ends it with
TEMP_INHIBIT and the new firmware runs. -/
def execForesterRestartComplete (fuseOk : Bool) (s : State) : Result :=
  let b := s.boot.inactive.getD []
  .next (if s.boot.actStep ≠ 6 then s
  else
    let refused := s.flashRefused
    let s1 := s.modBoot (fun t => { t with actStep := 0, actOwner := none, activeB := if refused then t.activeB else !t.activeB })
    let s2 := ((s1.extend 1 (sectionBytes b 0x1C)).extend 2 (sectionBytes b 0x24)).extend 3 (b.take 0xC0)
    let s3 := (((s2.wr .boot_fw_ver_version 0 (imgVersion b)).wrBit .boot_status_bank 0 (!s.boot.activeB)).wrBit
      .boot_status_sig_ok 0 (imgSigOk b)).wrBit .boot_status_activating 0 false
    let raise := !refused && s.bit .boot_fuse_sig_enf 0 && decide (s.rd .boot_fuse_svn_fuse 0 < imgSvn b)
    let s4 := if raise then
        (if fuseOk then s3.wr .boot_fuse_svn_fuse 0 (imgSvn b) else s3.wrBit .boot_fuse_prog_prog_fail 0 true) else s3
    let st : Status := if refused then .tempInhibit else if raise && !fuseOk then .internal else .ok
    ((if refused then s4.countRefused else s4).showStaged).finishOpt s.boot.actOwner { status := st })

/-- FORESTER_WATCHDOG (R287, R435): Forester has not started within 500 ms of step 5; its watchdog, source 0x41, requests DRST. -/
def execForesterWatchdog (s : State) : Result :=
  .next (if s.boot.actStep = 6 ∧ s.boot.actAt + framesIn 500000000 ≤ s.loop.frames then s.report { src := 0x41 } else s)

/-- FW_ACTIVATE, ELEMENT_MAP (R67, R68): allowed with no Clearing queued and every element in PARK or FENCED. The staged map is
checked again and measured; the activation then runs until its marker has been written to flash (FLASH_WRITE_COMPLETE). -/
def execFwActivateElementMap (h : Hdr) (s : State) : Result :=
  let f := s.map.inactive.getD []
  let r := mapCheck s.loopShape f
  .next (s.checked h
    [(h.mbx != 0, .notPermitted), (s.map.inactive.isNone, .notFound), (s.fwBusy, .busy),
     (s.trv.queue != [] || !s.allParked, .notPermitted)]
    (fun s =>
      if r.isSome then (s.showCheck r).status h .invalidField
      else if s.flashRefused then s.countRefused.status h .tempInhibit
      else
        let s1 := ((s.entered h).extend 4 f).showCheck none
        { s1 with map := { s1.map with change := some (s1.ownerOf h) } }.wrBit .boot_status_activating 0 true))

/-- The calibration records of a replaced die discarded (R69): those in force, in flash and on their way there; every element
passes to PARK at once (R186). -/
def State.dropRecords (s : State) : State :=
  let s1 := s.modLoop (fun l => { l with
    cal := [], calFlash := [], calPend := []
    elems := Tbl.modifyAll {} l.elems (l.elems.map (fun p => p.1)) (fun _ x => { x with newRec := none }) })
  let s2 := ((s1.loop.elems.filter (fun p => p.2.state != 0)).map (fun p => p.1)).foldl (fun s e => s.park e) s1
  (List.range 4).foldl (fun s n => s.showCleared n) s2

/-- The slots of the state library under a new map (R244): no cached vector stays, and where PORTS or TOPOLOGY changed a slot that
fails R242 loses VALID. -/
def State.remapSlots (s : State) (reshaped : Bool) : State :=
  let fresh (v : Slot) : Slot := { v with cache := none, valid := v.valid && !(reshaped && !v.perm.ok s.theMap.ports) }
  s.modTrv (fun t => { t with slots := t.slots.foldl (fun u p => Tbl.set {} u p.1 (fresh p.2)) [] })

/-- The end of a map activation (R67 to R69, R186, R244): the staged slot is active and its map in force. -/
def State.endActivation (s : State) (o : Owner) : State :=
  let old := s.theMap
  let had := s.map.force.isSome
  let m := readMap (s.map.inactive.getD [])
  let s1 := { s with map := { s.map with force := some m, activeB := !s.map.activeB, change := none } }
  let s2 := if had && old.dieId == m.dieId then s1 else s1.dropRecords
  let s3 := s2.remapSlots (m.ports != old.ports || m.topology != old.topology)
  let g := s3.solvedFabric s.trv.force.perm
  let slot := if s.rd .trv_inforce_slot 0 = 0xFFF then 0xFFFF else s.rd .trv_inforce_slot 0
  let s4 := ((s3.loadMapSettings.putForce g.1 slot (g.1.perm == [])).showMap).wrBit .boot_status_activating 0 false
  s4.finish o { status := .ok }

/-! ## Flash writes that end (R67, R226, R448) -/

/-- FLASH_WRITE_COMPLETE (R67, R226, R448): an accepted record is then applied at the next boundary; a copied fault-log entry
is marked PERSISTED, the latest 256 being kept; a map activation ends. -/
def execFlashWriteComplete (op : FlashOp) (s : State) : Result :=
  .next (match op with
  | .calRecord e =>
    match s.loop.calPend.find? (fun p => p.1 == e) with
    | none => s
    | some (_, r, run) =>
      let s1 := (s.modLoop (fun l => { l with
        calPend := l.calPend.filter (fun p => p.1 != e), calFlash := Tbl.set {} l.calFlash e r })).modEl e (fun x => { x with
          newRec := some r, readyAt := s.loop.frames })
      (s1.supEvent e 5 0).runResult run e 0 false
  | .mapMarker =>
    match s.map.change with
    | none => s
    | some o => s.endActivation o
  | .faultLog seq =>
    match s.flt.log.find? (fun x => x.seq == seq && 2 ≤ x.cls && !x.persisted) with
    | none => s
    | some x =>
      if s.flashRefused then s.countRefused
      else
        let y : LogEntry := { x with persisted := true }
        { s with flt := { s.flt with
          log := s.flt.log.map (fun z => if z.seq = seq then y else z)
          flash := (s.flt.flash ++ [y]).drop (s.flt.flash.length + 1 - 256) } })

/-! ## Reset requests, fuses, JTAG (R469, R474, R482) -/

/-- GLB_RESET_WRITE (R469): 0xD5 under an unlock of the whole device requests DRST; any other value is discarded. -/
def execGlbResetWrite (key : Nat) (s : State) : Result :=
  .next (s.expertWrite 0x8 .glb_reset_key 0 (fun s =>
    if key = 0xD5 then { s with flt := { s.flt with drstPending := true } } else s.noteDiscard 0x8))

/-- FUSE_PROG_WRITE (R474): under an unlock of the whole device, 0xE5A1 burns SIG_ENF and 0x1A5E burns JTAG_LOCK, measured as an
event; a write refused for temperature, or one that fails (`ok` false), sets PROG_FAIL. -/
def execFuseProgWrite (code : Nat) (ok : Bool) (s : State) : Result :=
  .next (s.expertWrite 0xC0014 .boot_fuse_prog_code 0 (fun s =>
    if code ≠ 0xE5A1 ∧ code ≠ 0x1A5E then s.noteDiscard 0xC0014
    else if s.flashRefused then s.countRefused.wrBit .boot_fuse_prog_prog_fail 0 true
    else if !ok then s.wrBit .boot_fuse_prog_prog_fail 0 true
    else (s.wrBit (if code = 0xE5A1 then .boot_fuse_sig_enf else .boot_fuse_jtag_lock) 0 true).extendEvent 2))

/-- JTAG_INSTRUCTION_LOAD (R482): 0 BYPASS, 1 IDCODE, 2 SAMPLE/PRELOAD, 3 EXTEST, 4 CLAMP, 5 HIGHZ; the last three are measured,
or act as BYPASS under JTAG_LOCK. -/
def execJtagInstructionLoad (i : Fin 6) (s : State) : Result :=
  .next (if i.val < 3 then s.modBoot (fun t => { t with jtag := i })
  else if s.bit .boot_fuse_jtag_lock 0 then s.modBoot (fun t => { t with jtag := 0 })
  else (s.modBoot (fun t => { t with jtag := i })).extendEvent 1)

end Sys2Proof.Machine
end

