-- ==== Sys2Proof/Machine/Canopy.lean ====
section
/-! DEFINITION. The canopy: where each channel, monitor and bias rail sits (R35 to R38), and the reverse bias that the module drives
on the rails (R42, R47). -/

namespace Sys2Proof.Machine

/-! ## Sites (R35 to R38) -/

/-- A canopy site by quadrant, local row and local column (R36). -/
structure Site where
  quadrant : Nat
  row : Nat
  col : Nat
  deriving DecidableEq, Repr

/-- The global row and column of a site (R36). -/
def Site.global (p : Site) : Nat × Nat := (p.row + 80 * (p.quadrant / 2), p.col + 80 * (p.quadrant % 2))

/-- The site of V-mode channel `v` (R38). -/
def vSite (v : Nat) : Site := ⟨v / 2304, 2 + v % 2304 / 64, 8 + v % 2304 % 64⟩

/-- The output site of H-mode channel `h` (R38). -/
def hSite (h : Nat) : Site := ⟨h / 256, 40 + h % 256 / 32, 8 + 2 * (h % 256 % 32)⟩

/-- The return site of H-mode channel `h` (R38). -/
def hReturnSite (h : Nat) : Site := ⟨h / 256, 40 + h % 256 / 32, 9 + 2 * (h % 256 % 32)⟩

/-- The site of monitor `m` (R38). -/
def monSite (m : Nat) : Site := ⟨m / 1536, 50 + m % 1536 / 64, 8 + m % 1536 % 64⟩

/-- The site of bias rail `r` (R37). -/
def railSite (r : Nat) : Site := ⟨r / 16, 76, 8 + 4 * (r % 16)⟩

/-- The bias rail that serves a monitor: local rail m ÷ 96 of its quadrant (R38, R47). -/
def railOf (m : Nat) : Nat := 16 * (m / 1536) + m % 1536 / 96

/-- What a site is for (R37). -/
inductive SiteUse where
  | vOut | hOut | hReturn | monitor | calP | calN | rail | tempTerminal | reserved | ground
  deriving DecidableEq, Repr

/-- The function of a site by its local row and column (R37). -/
def siteUse (row col : Nat) : SiteUse :=
  let inner := 8 ≤ col && col ≤ 71
  if col = 0 ∨ col = 79 then .reserved
  else if 2 ≤ row && row ≤ 37 && inner then .vOut
  else if 40 ≤ row && row ≤ 47 && inner then (if col % 2 = 0 then .hOut else .hReturn)
  else if 50 ≤ row && row ≤ 73 && inner then .monitor
  else if row = 76 then
    (if col = 2 then .calP else if col = 3 then .calN else if col = 76 ∨ col = 77 then .tempTerminal
     else if 8 ≤ col && col ≤ 68 && col % 4 == 0 then .rail else .ground)
  else .ground

/-! ## Bias rails (R42, R47) -/

/-- The reverse bias in mV that the module drives on bias rail `r` (R42): the map's; DESIGN CHOICE: 0 V with no map in force, for
which the spec names no bias. -/
def State.railMv (s : State) (r : Nat) : Nat :=
  match s.map.force with
  | some m => m.rails.getD r 0
  | none => 0

/-- The reverse bias in mV on the photodiode of a monitor (R38, R42). -/
def State.monBiasMv (s : State) (m : Nat) : Nat := s.railMv (railOf m)

/-- The voltage in mV at a monitor input, which the module holds at GND within ±2 mV (R42). -/
def monInputMaxMv : Nat := 2

end Sys2Proof.Machine
end

