-- ==== Sys2Proof/Machine/RegOps.lean ====
section
/-! DEFINITION. Registers by address (R368): the register at a BAR0 offset, and its word. -/

namespace Sys2Proof.Machine

/-- The access type of a field with its index (R9): only the window of supply 0 is writable (HKP_SUP_WIN). -/
def Fid.accessAt (f : Fid) (i : Nat) : Access :=
  match f, i with
  | .hkp_sup_win_lo, _ + 1 => .ro
  | .hkp_sup_win_hi, _ + 1 => .ro
  | f, _ => f.access

/-- The part of a register number that the dimensions of an array give for a byte distance from its base, innermost last;
none where the distance falls between registers. Answers the number and what is left of the distance. -/
def dimIndex : List Dim → Nat → Option (Nat × Nat)
  | [], d => some (0, d)
  | x :: r, d =>
    if d / x.stride < x.count then
      match dimIndex r (d % x.stride) with
      | some (i, rest) => some (d / x.stride * x.mult + i, rest)
      | none => none
    else none

/-- The register that a BAR0 offset falls in: its definition, its number, and the byte inside it. -/
def regAt (off : Nat) : Option (RegDef × Nat × Nat) :=
  regTable.findSome? (fun r =>
    if off < r.base then none
    else match dimIndex r.dims (off - r.base) with
      | some (i, b) => if b < r.width / 8 then some (r, i, b) else none
      | none => none)

/-- The word that a register's fields show (R9: a write-only field reads 0, for nothing is ever stored in it). -/
def State.regWord (s : State) (r : RegDef) (i : Nat) : Nat :=
  (r.fields.map (fun f => s.rd f.fid i % 2 ^ f.w * 2 ^ f.lo)).sum

/-- The bytes of a register as its word shows them. -/
def State.regBytes (s : State) (r : RegDef) (i : Nat) : List Nat := leBytes (r.width / 8) (s.regWord r i)

end Sys2Proof.Machine
end

