-- ==== Sys2Proof/Machine/Sched.lean ====
section
/-! DEFINITION. The chain scheduler (file 12): gate control lists, windows, shapers, transmission selection, policing and
queue sampling. Instants and times are in 0.01 ns of module time. -/

namespace Sys2Proof.Machine

/-! ## Gate control lists (R348, R349) -/

/-- A gate control list: intervals in ns and gates. -/
abbrev Gcl := List (Nat × Nat)

/-- The entries of a list that registers hold: up to the first INTERVAL of 0, at most 64. -/
def State.gclOf (s : State) (fi fg : Fid) (p : Nat) : Gcl :=
  ((List.range 64).map (fun i => (s.rd fi (64 * p + i), s.rd fg (64 * p + i)))).takeWhile (fun e => e.1 != 0)

/-- The operational list of a port. -/
def State.oper (s : State) (p : Nat) : Gcl := s.gclOf .chs_gcl_oper_interval .chs_gcl_oper_gates p

/-- Whether a gate is open in an entry. -/
def gateOpen (c : Nat) (e : Nat × Nat) : Bool := e.2.testBit c

/-- The length in 0.01 ns of the leading run of entries that satisfy `q`. -/
def leadRun (q : Nat × Nat → Bool) (l : Gcl) : Nat := ((l.takeWhile q).map (fun e => e.1 * 100)).sum

/-- The longest circular run of entries that satisfy `q`; none where all do. -/
def longestRun (q : Nat × Nat → Bool) (l : Gcl) : Option Nat :=
  if l.all q then none
  else some (((List.range l.length).map (fun i => leadRun q (l.drop i ++ l.take i))).foldl max 0)

/-- The entry in force at a position in the cycle, and what is left of it, walking the list. -/
def entryAt : Gcl → Nat → Nat → Nat × Nat
  | [], _, i => (i - 1, 0)
  | (iv, _) :: r, x, i => if x < iv * 100 then (i, iv * 100 - x) else entryAt r (x - iv * 100) (i + 1)

/-- The position in its cycle of a list at an instant (R348). -/
def cyclePos (cycle phase t : Nat) : Nat := (t + cycle * 100 - phase * 100 % (cycle * 100)) % (cycle * 100)

/-- The entry of the operational list in force at an instant, and what is left of it. -/
def State.entryNow (s : State) (p t : Nat) : Nat × Nat :=
  entryAt (s.oper p) (cyclePos (s.rd .chs_oper_cycle_act p) (s.sp p).operPhase t) 0

/-- Whether the gate of class `c` is open at an instant. -/
def State.gateAt (s : State) (p c t : Nat) : Bool := gateOpen c ((s.oper p).getD (s.entryNow p t).1 (0, 0))

/-- The time that remains in the window of class `c` at an instant, on the schedule as it will run, a fixed list change
included; none for a window without an end (R349). -/
def State.windowLeft (s : State) (p c t : Nat) : Option Nat :=
  let l := s.oper p
  let (e, left) := s.entryNow p t
  let old : Option Nat :=
    if l.all (gateOpen c) then none
    else if gateOpen c (l.getD e (0, 0)) then some (left + leadRun (gateOpen c) (l.drop (e + 1) ++ l.take (e + 1)))
    else some 0
  match (s.sp p).plan with
  | none => old
  | some g =>
    let d := g.switchAt * 100 - t
    match old with
    | some r =>
      if r < d then some r
      else if g.entries.all (gateOpen c) then none else some (d + leadRun (gateOpen c) g.entries)
    | none => if g.entries.all (gateOpen c) then none else some (d + leadRun (gateOpen c) g.entries)

/-- The transmission time of a frame: 0.32 ns for each byte of its scheduling length (R346). -/
def State.tau (s : State) (p : Nat) (f : QFrame) : Nat := 32 * (f.bytes + s.rd .chs_port_cfg_ovh p)

/-- Whether a frame of class `c` fits its window at an instant (R349). -/
def State.fits (s : State) (p c t : Nat) (f : QFrame) : Bool :=
  match s.windowLeft p c t with
  | none => true
  | some r => decide (s.tau p f ≤ r)

/-- The checks of R350 on an administrative list. -/
def gclOk (l : Gcl) (cycle phase : Nat) : Bool :=
  1024 ≤ cycle && cycle ≤ 16777215 && phase < cycle
    && 1 ≤ l.length && l.length ≤ 64 && l.all (fun e => 32 ≤ e.1) && (l.map (fun e => e.1)).sum == cycle
    && [1, 2, 3, 4, 5, 6, 7].all (fun c =>
        match longestRun (gateOpen c) l with | none => true | some w => decide (50000 ≤ w))

/-- The switch instant of an accepted list in ns: the first start of one of its cycles at or after CHANGE and 4 µs after
acceptance (R350). -/
def switchInstant (cycle phase change now : Nat) : Nat :=
  let t := max change (now + 4000)
  t + (cycle + phase - t % cycle) % cycle

/-- W6 and D6_0 of a port shown in ns, rounded up and saturating (R357). -/
def State.showBound (s : State) (p : Nat) : State :=
  let w6 := match longestRun (fun e => !gateOpen 6 e) (s.oper p) with
    | some 0 => 49216
    | some w => w + 2752 + 49216
    | none => 65535 * 100
  let hop := if (List.range 4).any (fun q => s.bit .chp_cfg_fec q) then 80000 else 55000
  (s.wr .chs_bound_w6 p (min 65535 ((w6 + 99) / 100))).wr .chs_bound_d6_0 p (min 65535 ((hop + w6 + 16400 + 99) / 100))

/-! ## Credits (R352, R353) -/

/-- The shaper of a class in force: EN, IDLESLOPE, HICREDIT. -/
def SchPort.shaperOf (q : SchPort) (c : Nat) : Bool × Nat × Nat := Tbl.get (false, 0, 0x3010) q.shaper c

/-- The index of the CHS_CBS registers of a class. -/
def cbsIdx (p c : Nat) : Nat := 4 * p + (c - 1)

/-- The credit of a class in bits. -/
def State.creditOf (s : State) (p c : Nat) : Rat := Tbl.get 0 (s.sp p).credit c

/-- The credit of a class set and shown, rounded down. -/
def State.setCredit (s : State) (p c : Nat) (v : Rat) : State :=
  (s.modSp p (fun q => { q with credit := Tbl.set 0 q.credit c v })).wr .chs_cbs_credit (cbsIdx p c) (unsigned 32 v.floor)

/-- The credit of a shaped class after `d` of waiting in which it rose: with a frame at most HICREDIT, without one at most 0. -/
def raised (credit : Rat) (slope hi : Nat) (d : Nat) (holds : Bool) : Rat :=
  let up := credit + (slope : Rat) * d / 100000
  if holds then min up hi else if 0 < credit then 0 else min up 0

/-- One class's credit from the last reckoning to `t` (R352). -/
def State.accrueClass (s : State) (p c t : Nat) : State :=
  let q := s.sp p
  let (en, slope0, hi) := q.shaperOf c
  let slope := max 1 slope0
  let at0 := q.creditAt
  let l := if q.fresh.contains c then [] else q.queue c
  let waits (from0 : Nat) : Rat :=
    if s.gateAt p c from0 = false then s.creditOf p c
    else match l with
      | [] => raised (s.creditOf p c) slope hi (t - from0) false
      | f :: _ =>
        match s.windowLeft p c from0 with
        | none => raised (s.creditOf p c) slope hi (t - from0) true
        | some r => raised (s.creditOf p c) slope hi (min (t - from0) (r - s.tau p f)) true
  if en = false ∨ t ≤ at0 then s
  else match q.tx with
    | some (k, fin, _) =>
      if k = c then
        s.setCredit p c (s.creditOf p c - ((min t fin - at0 : Nat) : Rat) * (1 - (slope : Rat) / 25000) / 4)
      else s.setCredit p c (waits at0)
    | none => s.setCredit p c (waits at0)

/-- The credits of a port reckoned up to `t`; a frame that came to an empty queue since the last reckoning came to its head
now. -/
def State.accrue (s : State) (p t : Nat) : State :=
  let s1 := ((s.accrueClass p 1 t).accrueClass p 2 t).accrueClass p 3 t
  s1.modSp p (fun q => { q with
    headAt := Tbl.modifyAll 0 q.headAt q.fresh (fun _ _ => t)
    fresh := []
    creditAt := max q.creditAt t })

/-- Shaper settings taken into force for every class that is not in transmission: the credit is kept, at most HICREDIT, and
starts at 0 where the shaper comes on (R353). -/
def State.takeShapers (s : State) (p : Nat) : State :=
  [1, 2, 3].foldl (fun s c =>
    let q := s.sp p
    let busy : Bool := match q.tx with | some (k, _, _) => k == c | none => false
    let want := (s.bit .chs_cbs_en (cbsIdx p c), s.rd .chs_cbs_idleslope (cbsIdx p c), s.rd .chs_cbs_hicredit (cbsIdx p c))
    if busy ∨ q.shaperOf c = want then s
    else
      let s1 := s.modSp p (fun q => { q with shaper := Tbl.set (false, 0, 0x3010) q.shaper c want })
      s1.setCredit p c (if want.1 ∧ !(q.shaperOf c).1 then 0 else min (s.creditOf p c) want.2.2)) s

/-! ## Transmission selection (R349, R354) -/

/-- The transmission that has ended by `t` leaves the port. -/
def State.endTx (s : State) (p t : Nat) : State :=
  match (s.sp p).tx with
  | some (_, fin, f) =>
    if fin ≤ t then
      ((s.emit (s.frameOut p f.frame f.bad)).modSp p (fun q => { q with tx := none })).takeShapers p
    else s
  | none => s

/-- Head frames too long for any window of their class dropped and counted in OVERSIZE (R349), at most `n` of a class. -/
def State.dropOversize (s : State) (p c t : Nat) : Nat → State
  | 0 => s
  | n + 1 =>
    match (s.sp p).queue c, longestRun (gateOpen c) (s.oper p) with
    | f :: r, some w =>
      if w < s.tau p f then
        (((s.setQueue p c r).modSp p (fun q => { q with headAt := Tbl.set 0 q.headAt c t })).sat
          .chs_qstat_oversize (8 * p + c)).dropOversize p c t n
      else s
    | _, _ => s

/-- Whether class `c` qualifies at `t` (R354). -/
def State.qualifies (s : State) (p c t : Nat) : Bool :=
  match (s.sp p).queue c with
  | [] => false
  | f :: _ => s.gateAt p c t && s.fits p c t f && (!((s.sp p).shaperOf c).1 || decide (0 ≤ s.creditOf p c))

/-- The head frame of a class starts. -/
def State.startTx (s : State) (p c t : Nat) : State :=
  match (s.sp p).queue c with
  | [] => s
  | f :: r =>
    ((s.setQueue p c r).modSp p (fun q => { q with
      tx := some (c, t + s.tau p f, f)
      headAt := Tbl.set 0 q.headAt c t })).drainCrown p c ((Tbl.get [] (s.sp p).crown c).length)

/-- TRANSMISSION_SELECT (R354): a port that is not transmitting at `t` sends the head frame of the highest class that
qualifies, or idle. -/
def execTransmissionSelect (port : Fin 4) (t : Nat) (s : State) : Result :=
  let p := port.val
  let s1 := (s.accrue p t).endTx p t
  .next (if (s1.sp p).tx.isSome ∨ s1.linkUp p = false then s1
  else
    let s2 := (List.range 8).foldl (fun s c => s.dropOversize p c t ((s.sp p).queue c).length) s1
    match [7, 6, 5, 4, 3, 2, 1, 0].find? (fun c => s2.qualifies p c t) with
    | some c => s2.startTx p c t
    | none => s2)

/-- The entry in force shown (CHS_OPER). -/
def State.showEntry (s : State) (p t : Nat) : State := s.wr .chs_oper_entry p (s.entryNow p t).1

/-- GATE_CHANGE (R348): an interval ends and the next entry takes over. -/
def execGateChange (port : Fin 4) (t : Nat) (s : State) : Result := .next ((s.accrue port t).showEntry port t)

/-- A list that R350 accepts is pending until its switch instant; a pending one is replaced. -/
def State.planGcl (s : State) (p : Nat) (l : Gcl) (cycle phase change sub : Nat) : State :=
  (s.modSp p (fun q => { q with
    plan := some ⟨l, cycle, phase, switchInstant cycle phase change (s.nowNs + sub)⟩ })).wrBit .chs_port_cfg_pend p true

/-- GCL_COMMIT_WRITE (R350): COMMIT set `sub` ns after the frame boundary; a list that fails sets REJECT. -/
def execGclCommitWrite (port : Fin 4) (sub : Fin 1024) (s : State) : Result :=
  let p := port.val
  let l := s.gclOf .chs_gcl_admin_interval .chs_gcl_admin_gates p
  let cycle := s.rd .chs_cycle_cycle p
  let phase := s.rd .chs_phase_phase p
  .next (if gclOk l cycle phase then
    s.planGcl p l cycle phase (s.rd .chs_change_sec p * 1000000000 + s.rd .chs_change_ns p) sub
  else s.wrBit .chs_port_cfg_reject p true)

/-- The registers of a list written. -/
def State.putGcl (s : State) (fi fg : Fid) (p : Nat) (l : Gcl) : State :=
  (List.range 64).foldl (fun s i =>
    (s.wr fi (64 * p + i) (l.getD i (0, 0)).1).wr fg (64 * p + i) (l.getD i (0, 0)).2) s

/-- GCL_SWITCH (R350): at the switch instant the accepted list is operational. -/
def execGclSwitch (port : Fin 4) (t : Nat) (s : State) : Result :=
  let p := port.val
  .next (match (s.sp p).plan with
  | some g =>
    if g.switchAt * 100 ≤ t then
      let s1 := ((s.accrue p t).putGcl .chs_gcl_oper_interval .chs_gcl_oper_gates p g.entries).wr .chs_oper_cycle_act p g.cycle
      let s2 := s1.modSp p (fun q => { q with plan := none, operPhase := g.phase, switched := true })
      ((s2.wrBit .chs_port_cfg_pend p false).showEntry p t).showBound p
    else s
  | none => s)

/-- CHS_COUNTER_CLEAR_WRITE (R345): CLR clears QDROP, OVERSIZE and ABORT of the port. -/
def execChsCounterClearWrite (port : Fin 4) (s : State) : Result :=
  let p := port.val
  .next ((List.range 8).foldl (fun s c =>
    (s.wr .chs_qstat_qdrop (8 * p + c) 0).wr .chs_qstat_oversize (8 * p + c) 0) (s.wr .chs_abort_abort p 0))

/-! ## Queue sampling (R361, R362) -/

/-- K: below 10 acts as 10, above 24 as 24. -/
def State.sampleK (s : State) : Nat := max 10 (min 24 (s.rd .chs_smp_cfg_k 0))

/-- The head-of-line time of a class in 8 ns, saturating; 0 for an empty queue. -/
def State.holOf (s : State) (p c t : Nat) : Nat :=
  if (s.sp p).queue c = [] then 0 else min 65535 ((t - Tbl.get 0 (s.sp p).headAt c) / 800)

/-- The 48-byte sample entry of a port at `t` ns (R362). -/
def State.sampleEntry (s : State) (p t : Nat) : List Nat :=
  leBytes 8 t
    ++ (List.range 8).flatMap (fun c =>
        leBytes 2 (min 65535 (qBytes ((s.sp p).queue c) / 16)) ++ leBytes 2 (s.holOf p c (t * 100)))
    ++ [maskOf ((List.range 8).filter (fun c => s.gateAt p c (t * 100))),
        bit01 (s.linkUp p) + 2 * bit01 (s.sp p).stepped + 4 * bit01 (s.sp p).switched]
    ++ leBytes 2 (s.sp p).sampleSeq ++ [0, 0, 0, 0]

/-- One entry written to a port's sample ring, the oldest overwritten and counted in OVW when 1,024 are held. -/
def State.samplePort (s : State) (t p : Nat) : State :=
  let e := s.sampleEntry p t
  let full := 1024 ≤ (s.sp p).samples.length
  let s1 := s.modSp p (fun q => { q with
    samples := (if full then q.samples.drop 1 else q.samples) ++ [e]
    sampleSeq := (q.sampleSeq + 1) % 65536
    stepped := false
    switched := false })
  let s2 := (List.range 8).foldl (fun s c => s.wr .chs_qstat_hol (8 * p + c) (s.holOf p c (t * 100))) s1
  (if full then s2.sat .chs_smp_cfg_ovw 0 else s2).telRound 5 p [(p, e)]

/-- QUEUE_SAMPLE (R361): at a multiple of 2^K ns every port writes one entry; a bound source streams it. -/
def execQueueSample (t : Nat) (s : State) : Result :=
  .next (if s.bit .chs_smp_cfg_en 0 ∧ t % 2 ^ s.sampleK = 0 then
    (List.range 4).foldl (fun s p => (s.accrue p (t * 100)).samplePort t p) s
  else s)

/-! ## SCHED_CFG (R363) -/

/-- SCHED_CFG GCL (R350): the administrative list of a port, `list` as BUF holds it, written and committed `sub` ns after the
frame boundary, if it passes. -/
def execSchedCfgGcl (h : Hdr) (port : Nat) (list : List (Nat × Nat)) (cycle phase : Nat) (change : DTime) (buf : Nat) (sub : Fin 1024)
    (s : State) : Result :=
  let l := list.takeWhile (fun e => e.1 != 0)
  .next (s.checked h
    [(3 < port || !gclOk l cycle phase || list.any (fun e => 16777215 < e.1 || 255 < e.2) || !timeOk change
        || s.badSrc h buf 1 256, .invalidField),
     (h.mbx != 0, .notPermitted)]
    (fun s =>
      let s1 := s.putGcl .chs_gcl_admin_interval .chs_gcl_admin_gates port list
      let s2 := ((s1.wr .chs_cycle_cycle port cycle).wr .chs_phase_phase port phase).wr .chs_change_subns port change.sub
      let s3 := (s2.wr .chs_change_ns port change.ns).wr .chs_change_sec port change.sec
      (s3.planGcl port l cycle phase (change.sec * 1000000000 + change.ns) sub).status h .ok))

/-- The IDLESLOPE sum of a port's enabled shapers if class `c` is set so (R353). -/
def State.slopeSum (s : State) (p c en slope : Nat) : Nat :=
  ([1, 2, 3].map (fun k =>
    if k = c then (if en = 1 then slope else 0)
    else if s.bit .chs_cbs_en (cbsIdx p k) then max 1 (s.rd .chs_cbs_idleslope (cbsIdx p k)) else 0)).sum

/-- SCHED_CFG SHAPER (R353). -/
def execSchedCfgShaper (h : Hdr) (port cls en idleslope hicredit : Nat) (s : State) : Result :=
  .next (s.checked h
    [(3 < port || cls < 1 || 3 < cls || 1 < en || idleslope < 1 || 25000 < idleslope || 65535 < hicredit
        || 20000 < s.slopeSum port cls en idleslope, .invalidField),
     (h.mbx != 0, .notPermitted)]
    (fun s =>
      let i := cbsIdx port cls
      (((((s.wr .chs_cbs_en i en).wr .chs_cbs_idleslope i idleslope).wr .chs_cbs_hicredit i hicredit).takeShapers port).status
        h .ok)))

/-- SCHED_CFG OVERHEAD (R346): in force from the next frame start. -/
def execSchedCfgOverhead (h : Hdr) (port ovh : Nat) (s : State) : Result :=
  .next (s.checked h [(3 < port || 255 < ovh, .invalidField), (h.mbx != 0, .notPermitted)]
    (fun s => (s.wr .chs_port_cfg_ovh port ovh).status h .ok))

/-- What a change of a bucket's configuration does to its level and to a held command (R360). -/
def State.policeChanged (s : State) (m : Nat) (wasEn wasHold : Bool) : State :=
  let en := s.bit .chs_pol_cfg_en m
  let full := s.burst m * tokenUnit
  let s1 := if en then s.setLevel m (if wasEn then min full (s.mb m).level else full) else s.setHeld m false
  if wasHold ∧ s1.bit .chs_pol_cfg_mode m = false then s1.releaseHold m else s1

/-- SCHED_CFG POLICE (R358, R360). -/
def execSchedCfgPolice (h : Hdr) (m en mode rate burst : Nat) (s : State) : Result :=
  .next (s.checked h
    [(7 < m || 1 < en || 1 < mode || rate < 1 || 16777215 < rate || burst < 1 || 4096 < burst, .invalidField),
     (h.mbx != 0, .notPermitted)]
    (fun s =>
      let s1 := ((s.wr .chs_pol_cfg_en m en).wr .chs_pol_cfg_mode m mode).wr .chs_pol_rate_rate m rate
      ((s1.wr .chs_pol_cfg_burst m burst).policeChanged m (s.bit .chs_pol_cfg_en m) (s.bit .chs_pol_cfg_mode m)).status h .ok))

/-- SCHED_CFG SAMPLING (R361). -/
def execSchedCfgSampling (h : Hdr) (en k : Nat) (s : State) : Result :=
  .next (s.checked h [(1 < en || k < 10 || 24 < k, .invalidField), (h.mbx != 0, .notPermitted)]
    (fun s => ((s.wr .chs_smp_cfg_en 0 en).wr .chs_smp_cfg_k 0 k).status h .ok))

/-- SCHED_CFG READ_SAMPLES (R362): entries of a port's ring, oldest first. -/
def execSchedCfgReadSamples (h : Hdr) (port count buf : Nat) (s : State) : Result :=
  let es := (s.sp port).samples.take count
  .next (s.checked h
    [(3 < port || count < 1 || 1024 < count || s.badBuf h buf 16 (48 * es.length), .invalidField),
     (h.mbx != 0, .notPermitted)]
    (fun s => (s.hostWrite h buf es.flatten).status h .ok))

end Sys2Proof.Machine
end

