-- ==== Sys2Proof/Machine/ChainCmds.lean ====
section
/-! DEFINITION. CHAIN_CFG and CHAIN_STATUS (R329, R331, R343, R344). -/

namespace Sys2Proof.Machine

/-- A port's link taken down by its configuration (R320, R343): nothing is locked any more. -/
def State.cutLink (s : State) (p : Nat) : State := (s.showCause p .disabled).takeLinkDown p false

/-- The configuration of a port written: a cleared EN or a changed FEC takes the link down, and FEC changes the bounds of
R357 (R320, R343). -/
def State.setPortCfg (s : State) (p en fec : Nat) : State :=
  let cut := en == 0 || fec != s.rd .chp_cfg_fec p
  let s1 := (s.wr .chp_cfg_en p en).wr .chp_cfg_fec p fec
  (List.range 4).foldl (fun s q => s.showBound q) (if cut then s1.cutLink p else s1)

/-- CHAIN_CFG PORT (R343). -/
def execChainCfgPort (h : Hdr) (port en fec txPre txPost txAmp rxFreeze : Nat) (s : State) : Result :=
  .next (s.checked h
    [(3 < port || 1 < en || 1 < fec || 15 < txPre || 31 < txPost || 15 < txAmp || 1 < rxFreeze, .invalidField),
     (h.mbx != 0, .notPermitted)]
    (fun s =>
      let s1 := ((s.wr .chp_cfg_tx_pre port txPre).wr .chp_cfg_tx_post port txPost).wr .chp_cfg_tx_amp port txAmp
      ((s1.wr .chp_cfg_rx_freeze port rxFreeze).setPortCfg port en fec).status h .ok))

/-- An epoch that this module has not used since POR (R329): any of them, so a free value; never 0, which a module holds
before its first enumeration (DESIGN CHOICE). -/
def State.newEpoch (s : State) : Nat :=
  let v (k : Nat) : Nat := (s.freeVal + k) % (2 ^ 32 - 1) + 1
  v (((List.range (s.fab.used.length + 1)).find? (fun k => !s.fab.used.contains (v k))).getD 0)

/-- This module becomes the root of a new epoch, floods CLEAR and waits (R329). -/
def State.startEnumerate (s : State) (o : Owner) (topo : Nat) : State :=
  let e := s.newEpoch
  let s1 := (s.useFree.clearFabric e).modFab (fun f => { f with used := f.used ++ [e] })
  let s2 := ((s1.wr .chp_fab_addr 0 1).wrBit .chp_fab_root 0 true).wr .chp_fab_topo 0 topo
  let s3 := s2.wr .chp_fab_ring 0 topo
  (s3.modFab (fun f => { f with
    blockHi := 1
    explore := some { waiting := true, port := none, busySeen := false, nextAddr := 2, trunc := false, owner := some o,
                      since := s.loop.frames }
    })).floodClear e none

/-- CHAIN_CFG ENUMERATE (R329, R331): it completes when the last COMPLETE frame has been sent. -/
def execChainCfgEnumerate (h : Hdr) (topo : Nat) (s : State) : Result :=
  .next (s.checked h
    [(1 < topo, .invalidField), (h.mbx != 0, .notPermitted), (s.trv.chains != [] || s.fab.outReqs != [], .busy)]
    (fun s => (s.entered h).startEnumerate ((s.entered h).ownerOf h) topo))

/-- CHAIN_CFG TEST (R322, R323, R324). -/
def execChainCfgTest (h : Hdr) (port gen chk inv injRate : Nat) (s : State) : Result :=
  .next (s.checked h
    [(3 < port || 7 < gen || 7 < chk || 1 < inv || 31 < injRate, .invalidField),
     (h.mbx != 0 || (selects gen chk && !s.testAllowed port), .notPermitted)]
    (fun s =>
      (((s.wr .chp_prbs_cfg_inv port inv).wr .chp_prbs_cfg_inj_rate port injRate).setPattern port gen chk).status h .ok))

/-- CHAIN_CFG REMOTE_POLICY (R342, R343). -/
def execChainCfgRemotePolicy (h : Hdr) (accept classEn ackTo execTo : Nat) (s : State) : Result :=
  .next (s.checked h [(1 < accept || 65535 < classEn || 65535 < ackTo || 65535 < execTo, .invalidField), (h.mbx != 0, .notPermitted)]
    (fun s =>
      let s1 := (s.wr .chp_remote_accept 0 accept).wr .chp_remote_class_en 0 classEn
      ((s1.wr .chp_remote_to_ack_to 0 ackTo).wr .chp_remote_to_exec_to 0 execTo).status h .ok))

/-- The CHP registers with their numbers in offset order (R344): port 0, the fabric, ports 1 to 3. -/
def chpOrder : List (RegDef × Nat) :=
  let port (p : Nat) : List (RegDef × Nat) := (regsChp0.filter (fun r => r.base < 0x43000)).map (fun r => (r, p))
  let fab : List (RegDef × Nat) := ((regsChp0 ++ regsChp1).filter (fun r => 0x43000 ≤ r.base)).map (fun r => (r, 0))
  port 0 ++ fab ++ port 1 ++ port 2 ++ port 3

/-- The 256 bytes of CHAIN_STATUS with FORM = 0 (R344). -/
def State.chpBytes (s : State) : List Nat := chpOrder.flatMap (fun r => s.regBytes r.1 r.2)

/-- Every counter of the CHP registers set to 0 (R344). -/
def State.clearChpCounters (s : State) : State :=
  let one (s : State) (p : Nat) : State :=
    let s1 := ((s.wr .chp_status_link_dn_cnt p 0).wr .chp_err_cnt_fcs p 0).wr .chp_err_cnt_hcrc p 0
    let s2 := ((s1.wr .chp_drop_cnt_dest p 0).wr .chp_drop_cnt_other p 0).wr .chp_fec_cnt_corr p 0
    (s2.wr .chp_fec_cnt_uncorr p 0).wr .chp_prbs_status_err p 0
  ((List.range 4).foldl one s).wr .chp_ring_status_wrap_cnt 0 0

/-- The 16 bytes of a topology entry (R332). -/
def topoBytes (e : TopoEntry) : List Nat :=
  leBytes 2 e.addr ++ leBytes 2 e.parent ++ leBytes 8 e.uid ++ [e.ports] ++ leBytes 2 e.blockHi ++ [0]

/-- CHAIN_STATUS (R344). -/
def execChainStatus (h : Hdr) (form clear buf : Nat) (s : State) : Result :=
  let len := if form = 0 then 256 else 16 * s.fab.topo.length
  .next (s.checked h
    [(1 < form || 1 < clear || s.badBuf h buf 16 len, .invalidField),
     (form == 1 && !s.bit .chp_fab_root 0, .notPermitted)]
    (fun s =>
      if form = 1 then (s.hostWrite h buf (s.fab.topo.flatMap topoBytes)).status h .ok
      else
        let s1 := s.hostWrite h buf s.chpBytes
        (if clear = 1 then s1.clearChpCounters else s1).status h .ok))

end Sys2Proof.Machine
end

