-- ==== Sys2Proof/Machine/Contain.lean ====
section
/-! DEFINITION. FAULT_DETECTED: the containment that a source's own rule takes, then the log entries and the reactions of every
report of the cycle (R434, R435, R453). -/

namespace Sys2Proof.Machine

/-! ## Injected faults (R453) -/

/-- The sources that a checker of FAULT_INJECT detects (PRESUMED for the fault log: R435 gives it no source of its own but the
SRAM row and the collector's self-check). -/
def checkerSources (ck : Nat) : List Nat :=
  if 0x14 ≤ ck ∧ ck ≤ 0x1B then [0x11]
  else if 0x10 ≤ ck ∧ ck ≤ 0x13 then [0x0A]
  else match ck with
    | 0x01 => [0x01, 0x02]
    | 0x02 => [0x01, 0x03]
    | 0x03 => [0x01, 0x04]
    | 0x04 => [0x01, 0x05]
    | 0x05 | 0x06 => [0x01, 0x08]
    | 0x07 => [0x01, 0x06]
    | 0x08 => [0x01, 0x07]
    | 0x09 => [0x40, 0x41]
    | 0x0A => [0x21]
    | 0x1C => [0x01, 0x43]
    | _ => []

/-- The first report of one of these sources that is not injected yet, marked as the injection of a mailbox. -/
def markInjected (srcs : List Nat) (m : Nat) : List FaultRep → List FaultRep
  | [] => []
  | r :: l =>
    if srcs.contains r.src ∧ r.injected = false then { r with injected := true, mbx := m } :: l
    else r :: markInjected srcs m l

/-- An armed injection of a checker has been performed: DONE_CNT counts it and MODE 0 disarms it (R453, FLT_INJ). -/
def State.injected (s : State) (i : Inj) : State :=
  let s1 := s.sat .flt_inj_done_cnt 0
  if i.mode ≠ 0 then s1
  else
    let s2 := { s1 with flt := { s1.flt with injections := s1.flt.injections.filter (fun j => j.checker != i.checker) } }
    if s2.rd .flt_inj_checker 0 = i.checker then s2.wrBit .flt_inj_arm 0 false else s2

/-- The checkers that found an injected error in this cycle: their reports are marked (R453). -/
def State.markAll (s : State) (fired : List Nat) (reps : List FaultRep) : State × List FaultRep :=
  fired.foldl (fun (acc : State × List FaultRep) ck =>
    match acc.1.flt.injections.find? (fun i => i.checker == ck) with
    | some i => (acc.1.injected i, markInjected (checkerSources ck) i.mbx acc.2)
    | none => acc) (s, reps)

/-! ## Containment (R435) -/

/-- The command whose context is lost completes with INTERNAL in its place (R380, R435). -/
def State.loseContext (s : State) (ctx : Option (Nat × Nat)) : State :=
  match ctx with
  | none => s
  | some (m, tag) =>
    s.modMb m (fun b => { b with flight := b.flight.map (fun f =>
      if f.tag = tag ∧ f.comp = none then { f with eff := true, comp := some { status := .internal } } else f) })

/-- Telemetry records lost from rings, counted in DROP (R435). -/
def State.loseRecords (s : State) (lost : List (Nat × Nat)) : State :=
  lost.foldl (fun s p =>
    ({ s with rings := Tbl.modify {} s.rings p.1 (fun r => { r with drop := (r.drop + p.2) % 2 ^ 32 }) }).ringWriteBack p.1) s

/-- A flash write of an element's record fails (R226, R435): the record is not kept and its CAL_RUN completes with INTERNAL. -/
def State.loseCalWrite (s : State) (e : Nat) : State :=
  match s.loop.calPend.find? (fun p => p.1 == e) with
  | none => s
  | some (_, _, run) =>
    let s1 := s.modLoop (fun l => { l with
      calPend := l.calPend.filter (fun p => p.1 != e), runs := l.runs.filter (fun r => run != some r.num) })
    match s.loop.runs.find? (fun r => run == some r.num) with
    | some r => s1.finish r.owner { status := .internal }
    | none => s1

/-- The containment of a report that a checker makes here; the other sources contain themselves in the rows that report them
(R435). -/
def State.contain (s : State) (ctx : Option (Nat × Nat)) (lost : List (Nat × Nat)) (r : FaultRep) : State :=
  match r.src with
  | 0x02 => if r.objKind = 7 ∧ r.obj < 4096 then s.putSlot r.obj { s.slot r.obj with valid := false } else s
  | 0x03 => if r.objKind = 7 ∧ r.obj < 4096 then s.putSlot r.obj { s.slot r.obj with cache := none } else s
  | 0x04 =>
    if r.objKind = 1 then
      s.modEl r.obj (fun x => { x with newRec := some (Tbl.get {} s.loop.calFlash r.obj), readyAt := s.loop.frames })
    else s
  | 0x05 => { s with map := { s.map with reread := true } }
  | 0x06 => s.loseContext ctx
  | 0x07 => s.loseRecords lost
  | 0x42 => if r.objKind = 1 then s.loseCalWrite r.obj else s
  | _ => s

/-- FAULT_DETECTED (R434, R444): the checkers' reports of one cycle, `new` beside those that rows have made, are contained, logged in
ascending source code, and reacted to as one set. `fired` names the checkers that found an injected error, `ctx` the
command (mailbox, tag) whose context is lost with source 0x06, `lost` the records lost per ring with source 0x07. -/
def execFaultDetected (new : List FaultRep) (fired : List Nat) (ctx : Option (Nat × Nat)) (lost : List (Nat × Nat))
    (s : State) : Result :=
  .next (if s.flt.started = false then s
  else
    let (s1, reps) := s.markAll fired (s.flt.reports ++ new)
    let s2 := new.foldl (fun s r => s.contain ctx lost r) { s1 with flt := { s1.flt with reports := [] } }
    ({ s2 with flt := { s2.flt with reports := [] } }).collect (reps ++ s2.flt.reports))

end Sys2Proof.Machine
end

