-- ==== Sys2Proof/Machine/DatumGrid.lean ====
section
/-! DEFINITION. The parts of Datum that touch loops, precision windows and the scheduler: grid steps and TRIG pins
(R84, R300, R301, R312 to R317, R351). -/

namespace Sys2Proof.Machine

/-! ## Asking for a grid step (R300, R315) -/

/-- Whether the source of Datum P lets a step be measured (R300, R304, R315): usable, and in HOLDOVER only while BIG_OFS waits. -/
def State.canRestep (s : State) : Bool :=
  let st := s.rd .dtm_status_p_state 0
  s.usable s.pDom && st != 0 && (st != 4 || s.bit .dtm_status_big_ofs 0)

/-- A grid step asked for (R300): in ACQUIRING it is planned at the end of ACQUIRING, otherwise now, from the latest offset. -/
def State.askStep (s : State) : State :=
  if s.datum.stepPlan.isSome then s
  else if s.rd .dtm_status_p_state 0 = 1 then { s with datum := { s.datum with stepWanted := true } }
  else s.planStep (s.dom s.pDom).offset

/-- DATUM_CFG RESTEP (R300, R315): it completes at the step. -/
def execDatumCfgRestep (h : Hdr) (s : State) : Result :=
  .next (s.checked h
    [(h.mbx != 0, .notPermitted), (s.trv.queue.any (fun c => c.job.exec.isSome), .busy), (!s.canRestep, .datumUnlocked)]
    (fun s =>
      let a := s.entered h
      let o := a.ownerOf h
      let b := a.effect o
      { b with datum := { b.datum with stepOwners := b.datum.stepOwners ++ [o] } }.askStep))

/-- RESTEP_WRITE (R300): writing 1 to RESTEP asks for a step where the command would be accepted. -/
def execRestepWrite (s : State) : Result :=
  .next (if s.trv.queue.any (fun c => c.job.exec.isSome) ∨ s.canRestep = false then s else s.askStep)

/-! ## The step (R300, R301, R351) -/

/-- An instant in 2^-16 ns moved with the clock. -/
def shifted (d : Int) (t : Nat) : Nat := ((t : Int) + d).toNat

/-- The windows of every element restarted (R301). -/
def State.restartWindows (s : State) : State :=
  s.modLoop (fun l => { l with
    elems := Tbl.modifyAll {} l.elems (l.elems.map (fun p => p.1)) (fun _ x => { x with winFrom := s.loop.frames }) })

/-- Whether a monitor has a precision window armed by a Datum time that has not started: pending, or queued behind another. -/
def State.waitsByTime (s : State) (m : Nat) : Bool :=
  let x := s.mon m
  (match x.win with | some w => w.byTime && !w.running | none => false)
    || (x.queue.isSome && s.rd .ust_pw_cfg_src m == 1)

/-- A precision command that ends with DATUM_UNLOCKED (R301). -/
def State.failPw (s : State) (num : Nat) : State :=
  match s.loop.pwCmds.find? (fun c => c.num == num) with
  | some c =>
    (s.modLoop (fun l => { l with pwCmds := l.pwCmds.filter (fun x => x.num != num) })).finish c.owner
      { status := .datumUnlocked }
  | none => s

/-- A monitor's window armed by a Datum time disarmed, and its command ended (R301); a running window goes on. -/
def State.disarmByTime (s : State) (m : Nat) : State :=
  if s.waitsByTime m then
    let x := s.mon m
    let w : Option PwWin := match x.win with | some v => if v.byTime && !v.running then none else some v | none => none
    let dropped : List Nat := (match x.win with | some v => if v.byTime && !v.running then v.cmds else [] | none => [])
      ++ (match x.queue with | some c => if s.rd .ust_pw_cfg_src m = 1 then c else [] | none => [])
    let q := if s.rd .ust_pw_cfg_src m = 1 then none else x.queue
    let s1 := (s.modMon m (fun y => { y with win := w, queue := q, cont := false })).showWin m
    dropped.foldl (fun s num => s.failPw num) s1
  else s

/-- A scheduled TRIG output that has not begun is cancelled and marked LATE (R301). -/
def State.cancelTrig (s : State) (i : Nat) : State :=
  let mode := s.rd .dtm_trig_cfg_mode i
  if (mode = 2 ∨ mode = 3) ∧ (s.trig i).armed = true then
    ((s.modTrig i (fun x => { x with armed := false })).wrBit .dtm_trig_cfg_late i true).dtmEvent 5
  else s

/-- The scheduler of a port at the new time (R351, R361): a frame in transmission completes after the same time. -/
def State.shiftPort (s : State) (d : Int) (p : Nat) : State :=
  let c (t : Nat) : Nat := ((t : Int) + d * 100 / 65536).toNat
  let s1 := s.modSp p (fun q => { q with
    tx := q.tx.map (fun x => (x.1, c x.2.1, x.2.2))
    creditAt := c q.creditAt
    headAt := Tbl.modifyAll 0 q.headAt (q.headAt.map (fun e => e.1)) (fun _ t => c t)
    stepped := true })
  s1.showEntry p (s.datum.t * 100 / 65536)

/-- Whether this boundary permits the step (R300). -/
def State.stepPermitted (s : State) (decided : Nat) : Bool :=
  decide (decided + 2 ≤ s.frame) && s.frame % 40 == 0 && s.trv.queue == []
    && !s.loop.elems.any (fun p => p.2.state == 3) && s.loop.sweeps == []

/-- The clock stepped by K grids (R300, R301): what stands as an instant of the module's own time moves with it; what remains
of the offset is slewed, unless the source has been lost meanwhile. -/
def State.stepClock (s : State) (k r : Int) : State :=
  let d := k * gridTicks
  let dom (own : Bool) (x : Domain) : Domain := { x with
    offset := if own then r else x.offset - d, within := 0, beyond := 0, late := 0
    todAt := shifted d x.todAt, syncAt := shifted d x.syncAt, annAt := shifted d x.annAt }
  let port (x : PtpPort) : PtpPort := { x with sent := x.sent.map (fun e => (e.1, e.2.map (shifted d))) }
  let p := s.pDom
  let clock : DatumSt := { s.datum with
    t := shifted d s.datum.t, ports := s.datum.ports.map (fun e => (e.1, port e.2)), dom0 := dom (p == 0) s.datum.dom0, dom1 := dom (p == 1) s.datum.dom1
    stepPlan := none, stepWanted := false, stepOwners := [], stepped := true, steps := (s.datum.steps + 1) % 65536 }
  let reqs := s.fab.inReqs.map (fun q => { q with doneAt := shifted d q.doneAt })
  let notices := Tbl.modifyAll none s.flt.noticeLast (s.flt.noticeLast.map (fun e => e.1)) (fun _ v => v.map (shifted d))
  let t : State := { s with
    datum := clock, fab := { s.fab with inReqs := reqs }, flt := { s.flt with noticeLast := notices } }
  let u := (t.wr .dtm_offset_offset_p 0 (ps32 (psOfTicks r))).wr .dtm_offset_offset_s 0
    (ps32 (psOfTicks (t.dom (1 - p)).offset))
  let v := (u.wrBit .dtm_status_step_pend 0 false).wrBit .dtm_status_big_ofs 0 false
  let st := s.rd .dtm_status_p_state 0
  if st = 0 ∨ (st = 4 ∧ !s.bit .dtm_status_big_ofs 0) then v else v.runP 2

/-- GRID_STEP (R300, R301, R351): at the first boundary that permits it the clock steps; pilots follow the new F by R134,
windows restart, windows armed by time are disarmed, scheduled outputs are cancelled, and the commands complete. -/
def execGridStep (s : State) : Result :=
  .next (match s.datum.stepPlan with
  | some (k, r, decided) =>
    if s.stepPermitted decided then
      let s1 := (s.stepClock k r).restartWindows
      let s2 := (s.loop.mons.map (fun p => p.1)).foldl (fun s m => s.disarmByTime m) s1
      let s3 := (List.range 4).foldl (fun s i => s.cancelTrig i) s2
      let s4 := (List.range 4).foldl (fun s p => s.shiftPort (k * gridTicks) p) s3
      let s5 := ((s4.inc .dtm_status_step_cnt 0).dtmEvent 2).report { src := 0x29 }
      s.datum.stepOwners.foldl (fun s o => s.finish o { status := .ok }) s5
    else s
  | none => s)

/-! ## TRIG pins (R84, R312 to R317) -/

/-- Whether a monitor's precision configuration that is not OFF names a pin (R317). -/
def State.pinNamed (s : State) (pin : Nat) : Bool :=
  (s.listed .ust_pw_cfg_src).any (fun m =>
    s.rd .ust_pw_cfg_src m == 2 + pin && (s.rd .ust_pw_cfg_mode m == 1 || s.rd .ust_pw_cfg_mode m == 2))

/-- The configuration of a pin written (R313): in OUT_ONCE and OUT_PERIODIC its START is put in force, otherwise nothing is
scheduled. -/
def State.setTrig (s : State) (pin mode edge : Nat) (start : DTime) (period width : Nat) : State :=
  let s1 := ((s.wr .dtm_trig_cfg_mode pin mode).wr .dtm_trig_cfg_edge pin edge).wr .dtm_trig_start_subns pin start.sub
  let s2 := (s1.wr .dtm_trig_start_ns pin start.ns).wr .dtm_trig_start_sec pin start.sec
  let s3 := (s2.wr .dtm_trig_pw_period pin period).wr .dtm_trig_pw_width pin width
  if mode = 2 ∨ mode = 3 then s3.setStart pin (ticksOf start)
  else s3.modTrig pin (fun x => { x with start := ticksOf start, pulses := 0, armed := false })

/-- TRIGGER_CFG (R317). -/
def execTriggerCfg (h : Hdr) (pin mode edge : Nat) (start : DTime) (period width : Nat) (s : State) : Result :=
  .next (s.checked h
    [(3 < pin || 4 < mode || edge < 1 || 3 < edge || !timeOk start || widthBad mode period width, .invalidField),
     (h.mbx != 0, .notPermitted),
     (s.rd .dtm_trig_cfg_mode pin == 1 && mode != 1 && s.pinNamed pin, .busy),
     ((mode == 2 || mode == 3) && !s.locked, .datumUnlocked)]
    (fun s => (s.setTrig pin mode edge start period width).status h .ok))

/-- An edge timestamp put into a pin's FIFO (R314): with 16 entries it is dropped, and OVF is set and counted. -/
def State.pushTrig (s : State) (pin t : Nat) (rising : Bool) : State :=
  if (s.trig pin).fifo.length < 16 then
    ((s.modTrig pin (fun x => { x with fifo := x.fifo ++ [(t, rising)] })).showTrig pin).dtmEvent 7
  else ((s.wrBit .dtm_trig_cfg_ovf pin true).sat .dtm_trig_cfg_ovf_cnt pin).dtmEvent 6

/-- The frame, counted since reset, of the first boundary at least 100 ns after an edge (R84). -/
def State.edgeFrame (s : State) (t : Nat) : Nat :=
  s.loop.frames + max 1 (frameAt (t + 100 * tickNs) - s.frame)

/-- TRIG_INPUT_EDGE (R84, R314): an edge of a pin in mode IN at the Datum P time `t`. The edges that EDGE selects are
timestamped, into the telemetry rings bound to the pin or else into its FIFO; a rising edge triggers the precision windows
of the monitors whose source is the pin. -/
def execTrigInputEdge (pin : Fin 4) (rising : Bool) (t : Nat) (s : State) : Result :=
  let i := pin.val
  let edge := s.rd .dtm_trig_cfg_edge i
  let wanted := edge == 3 || (edge == 1 && rising) || (edge == 2 && !rising)
  let bound := s.host.sources.any (fun x => x.source == 6 && x.first ≤ i && i < x.first + x.count)
  .next (if s.rd .dtm_trig_cfg_mode i ≠ 1 then s
  else
    let s1 := if wanted then
        (if bound then s.telRound 6 i [(i, timeBytes12 t ++ [i, bit01 rising, 0, 0])] else s.pushTrig i t rising)
      else s
    if rising then
      ((s.listed .ust_pw_cfg_src).filter (fun m => s.rd .ust_pw_cfg_src m == 2 + i)).foldl
        (fun s m => s.trigger m (s.edgeFrame t) false) s1
    else s1)

end Sys2Proof.Machine
end

