-- ==== Sys2Proof/Machine/Faults.lean ====
section
/-! DEFINITION. The fault commands and events of file 15, but FAULT_DETECTED (Contain.lean). -/

namespace Sys2Proof.Machine

/-! ## FAULT_LOG_READ (R450) -/

/-- The sequence number at which a read starts: the mailbox's read pointer for FIRST 0xFFFF_FFFF, else FIRST (R450). -/
def State.readStart (s : State) (m first : Nat) : Nat := if first = 0xFFFFFFFF then (s.mb m).logPtr else first

/-- The entries that FAULT_LOG_READ writes, oldest first (R450). -/
def State.readEntries (s : State) (m first count whence : Nat) : List LogEntry :=
  ((if whence = 0 then s.flt.log else s.flt.flash).filter (fun e =>
    s.visible m e && decide (s.readStart m first ≤ e.seq))).take count

/-- What a read of these entries leaves: the read pointer past the last one if asked, and an ACK made possible where MB0 has
been given the entry of the first ERRPIN fault (R443, R450). -/
def State.afterRead (s : State) (m advance : Nat) (es : List LogEntry) : State :=
  let s1 := match advance, es.getLast? with
    | 1, some e => s.modMb m (fun b => { b with logPtr := e.seq + 1 })
    | _, _ => s
  if m = 0 ∧ es.any (fun e => decide (s.flt.firstErr = some e.seq)) then
    { s1 with flt := { s1.flt with ackReady := true } }
  else s1

/-- FAULT_LOG_READ (R450). -/
def execFaultLogRead (h : Hdr) (first count whence advance buf : Nat) (s : State) : Result :=
  let es := s.readEntries h.mbx first count whence
  .next (s.checked h
    [(count < 1 || 4096 < count || 1 < whence || 1 < advance || s.badBuf h buf 16 (32 * es.length), .invalidField)]
    (fun s => ((s.hostWrite h buf (es.flatMap LogEntry.bytes)).afterRead h.mbx advance es).complete h
      { status := .ok, res0 := es.length }))

/-! ## FAULT_POLICY_SET (R438, R439) -/

/-- Whether a reaction set breaks R438 for a source: a bit that is not permitted, or a mandatory bit cleared. -/
def policyBreaks (src react : Nat) : Bool :=
  (react &&& Config.permReact src) != react || (react &&& Config.mandReact src) != Config.mandReact src

/-- FAULT_POLICY_SET (R439). -/
def execFaultPolicySet (h : Hdr) (source react dflt : Nat) (s : State) : Result :=
  .next (s.checked h
    [((Config.faultRow source).isNone || 1 < dflt || (dflt == 0 && policyBreaks source react), .invalidField),
     (h.mbx != 0, .notPermitted)]
    (fun s => (s.wr .flt_policy_react source (if dflt = 1 then Config.defaultReact source else react)).status h .ok))

/-! ## FAULT_INJECT (R453) -/

/-- A checker's kind, true for parity, and the unlocks of which one is needed, as (scope kind, WHICH) (R453). -/
def checkerRow (ck : Nat) : Option (Bool × List (Nat × Nat)) :=
  match ck with
  | 0x01 | 0x02 => some (false, [(1, 0x06), (2, 0)])
  | 0x03 => some (false, [(1, 0x0B), (2, 0)])
  | 0x04 | 0x07 | 0x09 | 0x1C => some (false, [(2, 0)])
  | 0x05 => some (false, [(1, 0x07), (2, 0)])
  | 0x06 => some (false, [(1, 0x08), (2, 0)])
  | 0x08 => some (false, [(1, 0x01), (2, 0)])
  | 0x0A => some (true, [(1, 0x06), (2, 0)])
  | 0x10 | 0x11 | 0x12 | 0x13 => some (true, [(2, 0)])
  | 0x14 | 0x15 | 0x16 | 0x17 => some (true, [(0, ck - 0x14)])
  | 0x18 | 0x19 | 0x1A | 0x1B => some (true, [(0, ck - 0x18)])
  | _ => none

/-- Whether CHECKER, BITS or MODE is invalid: an unassigned checker, BITS outside 1 and 2, two bits on a parity checker, a
MODE above 2 (R453). -/
def injectBad (ck bits mode : Nat) : Bool :=
  match checkerRow ck with
  | none => true
  | some (parity, _) => !(bits == 1 || bits == 2) || (parity && bits == 2) || 2 < mode

/-- Whether the mailbox holds an unlock that the checker needs (R394, R453). -/
def State.injectUnlocked (s : State) (m ck : Nat) : Bool :=
  match checkerRow ck with
  | none => false
  | some (_, need) => need.any (fun u => s.unlockedBy m u.1 u.2)

/-- An injection armed, replacing one of the same checker; MODE 2 stops it (R453). -/
def State.arm (s : State) (ck bits mode m : Nat) : State :=
  let others := s.flt.injections.filter (fun i => i.checker != ck)
  { s with flt := { s.flt with injections := if mode = 2 then others else others ++ [⟨ck, bits, mode, m⟩] } }

/-- FAULT_INJECT (R453). -/
def execFaultInject (h : Hdr) (checker bits mode : Nat) (s : State) : Result :=
  .next (s.checked h
    [(injectBad checker bits mode, .invalidField), (!s.injectUnlocked h.mbx checker, .expertRequired)]
    (fun s => (s.arm checker bits mode h.mbx).status h .ok))

/-- FAULT_INJECT_ARM_WRITE (R453): setting ARM arms what CHECKER, BITS and MODE of FLT_INJ say; BITS other than 1 and 2 act
as 1 and MODE 3 acts as 2. An unassigned checker, or two bits on a parity checker, arms nothing. -/
def execFaultInjectArmWrite (s : State) : Result :=
  let ck := s.rd .flt_inj_checker 0
  let bits := if s.rd .flt_inj_bits 0 = 2 then 2 else 1
  let mode := min 2 (s.rd .flt_inj_mode 0)
  .next (if injectBad ck bits mode then s else (s.arm ck bits mode 0).wrBit .flt_inj_arm 0 (mode != 2))

/-! ## The ERR_N latch and notices -/

/-- ERR_ACK_WRITE (R443): an ACK clears the latch only once the first cause has been read and nothing newer logged. -/
def execErrAckWrite (s : State) : Result :=
  .next (if s.bit .flt_err_latch 0 ∧ s.flt.ackReady then
    ({ s.wrBit .flt_err_latch 0 false with flt := { s.flt with firstErr := none, ackReady := false } }).driveErr
  else s)

/-- FAULT_NOTICE_RECEIVED (R452): a notice for this module, or broadcast, is logged as source 0x34 with REMOTE set, the
carried class, the sender's address as object, and the carried SOURCE, CLASS and REACT in DETAIL. -/
def execFaultNoticeReceived (src cls source react : Nat) (s : State) : Result :=
  .next ((s.sat .flt_notice_rx_cnt 0).report
    { src := 0x34, objKind := 9, obj := src, cls := cls, remote := true,
      detail := source % 65536 + cls % 256 * 65536 + react % 256 * 16777216 })

/-- FAULT_COLLECTOR_DISAGREE (R436): ERR_N is asserted by a path of its own, source 0x43 is logged if the log can still be
written, and DRST follows. -/
def execFaultCollectorDisagree (logWritable : Bool) (s : State) : Result :=
  let s1 := ({ s with flt := { s.flt with dead := true } }).driveErr
  .next (if logWritable then s1.collect [{ src := 0x43 }] else s1.decideDrst)

end Sys2Proof.Machine
end

