-- ==== Sys2Proof/Machine/Firebreak.lean ====
section
/-! DEFINITION. Firebreak's own events (R404 to R425, R432) and the darkening that the Crown carries out (R418 to R421). -/

namespace Sys2Proof.Machine

/-! ## Start (R15, R404) -/

/-- The newer of the stored copies that pass their CRC. -/
def newerCopy (okA okB : Bool) (a b : Option FCopy) : Option FCopy :=
  match (if okA then a else none), (if okB then b else none) with
  | some x, some y => some (if x.gen < y.gen then y else x)
  | some x, none => some x
  | none, y => y

/-- Firebreak without supply: every output off, its registers at their start values; the stored copies, the log in flash and the
next sequence number stay (R15, R404, R432). -/
def State.fbkOff (s : State) : State :=
  let b := s.fbk
  let s1 := { s with fbk := { copyA := b.copyA, copyB := b.copyB, log := b.log, logNext := b.logNext } }
  (s1.resetRegs (fun f _ => f.cls == .vsio)).modLoop (fun l => { l with fbHeat := [] })

/-- FIREBREAK_START (R404): VSIO has risen: the newer valid copy is loaded and the tests are made. `okA` and `okB` say whether
each copy passes its CRC-32, `fail` names the part that failed its self-test. -/
def execFirebreakStart (okA okB : Bool) (fail : Option Nat) (s : State) : Result :=
  .next (if s.fbk.state ≠ 0 then s
  else
    let c := newerCopy okA okB s.fbk.copyA s.fbk.copyB
    let s1 := s.modFbk (fun b => { b with
      cfg := match c with | some x => x.cfg | none => []
      pw := match c with | some x => x.pw | none => none
      state := if (match c with | some x => x.pw.isSome | none => false) then 1 else 3 })
    let s2 := (s1.fbkLog 0xFF 8 0 0 0 0).showCfg
    match fail with
    | some obj => s2.lockout 11 obj
    | none => s2.fbkEval)

/-! ## Inputs (R405 to R409) -/

/-- Whether a sample is blanked (R407, R408): a pair in TP or EDM mode, from the start of its own supply's pulse until 100 µs after
it, TP0 pulsing from sample 0 of every hundred and TP1 from sample 50. -/
def blanked (mode ch tick : Nat) : Bool := (mode == 1 || mode == 3) && (tick + 50 * ch) % 100 < 4

/-- One sample of an input under a filter of `n` samples (R407). -/
def FInput.sample (x : FInput) (level blank : Bool) (n : Nat) : FInput :=
  if blank then x
  else
    let low := if level then 0 else min (x.lowRun + 1) 1000
    let high := if level then min (x.highRun + 1) 1000 else 0
    { x with level := level, lowRun := low, highRun := high, dec := if n < low then true else if n < high then false else x.dec }

/-- The filter of a pair in samples of 100 µs: FILT × 0.5 ms, in OSSD mode at least 1.0 ms (R407). -/
def State.filterLen (s : State) (p : Nat) : Nat :=
  5 * (if s.fcfg 1 p = 2 then max 2 (s.fcfg 2 p) else s.fcfg 2 p)

/-- Whether an EDM pair reads the state that its output asks for (R416): high while it is off, low while it is on. -/
def State.edmMatches (s : State) (p : Nat) (x : FPair) : Bool :=
  let on := (s.fout (s.fcfg 4 p)).on
  x.a.level == !on && x.b.level == !on

/-- Whether a pair is healthy without demand (R406, R408). -/
def State.pairHealthy (s : State) (p : Nat) (x : FPair) : Bool :=
  match s.fcfg 1 p with
  | 0 => true
  | 3 => !x.fault && s.edmMatches p x
  | _ => x.a.level && x.b.level && !x.demand && !x.fault && x.a.stuck == 0 && x.b.stuck == 0

/-- A pair after one sample of its two inputs (R405 to R409). An input decided low waits for the other from its earliest decision
that the other has not followed. -/
def State.samplePair (s : State) (p : Nat) (la lb : Bool) : FPair :=
  let x := s.fpair p
  let mode := s.fcfg 1 p
  let n := s.filterLen p
  let a := x.a.sample la (blanked mode 0 s.fbk.tick) n
  let b := x.b.sample lb (blanked mode 1 s.fbk.tick) n
  let live := mode == 1 || mode == 2
  let newA := a.dec && !x.a.dec
  let newB := b.dec && !x.b.dec
  let demand := live && (newA || newB || (x.demand && !(decide (n < a.highRun) && decide (n < b.highRun))))
  let first := if !live || (a.dec && b.dec) then none
    else if (newA || newB) && (x.first.isNone || x.firstB != newB) then some s.fbk.tick else x.first
  let y : FPair := { x with a := a, b := b, demand := demand, first := first, firstB := if newA || newB then newB else x.firstB }
  let z : FPair := { y with reached := y.reached || (mode == 3 && s.edmMatches p y) }
  { z with okFor := if s.pairHealthy p z then min (x.okFor + 1) 1000 else 0 }

/-- SAFETY_SAMPLE (R405): both channels sample the eight inputs, decide, and act. `copyBad` says that a configuration copy has
failed its CRC at run time. -/
def execSafetySample (inputs : Nat) (copyBad : Bool) (s : State) : Result :=
  .next (if s.fbk.state = 0 then s
  else
    let pairs := (List.range 4).map (fun p => (p, s.samplePair p (inputs.testBit (2 * p)) (inputs.testBit (2 * p + 1))))
    let rose := (pairs.filter (fun q => q.2.demand && !(s.fpair q.1).demand)).length
    let changed := pairs.any (fun q => q.2.demand != (s.fpair q.1).demand)
    let apr := s.aprMask
    let s1 := s.modFbk (fun b => { b with
      tick := b.tick + 1
      pairs := pairs.foldl (fun t q => Tbl.set {} t q.1 q.2) b.pairs
      demands := min (b.demands + rose) (2 ^ 32 - 1)
      aprOk := (List.range 4).foldl (fun t n =>
        Tbl.set 0 t n (if apr.testBit n then 0 else min (Tbl.get 0 t n + 1) 1000)) b.aprOk })
    let s2 := if changed then s1.fbkEvent 0 else s1
    let s3 := s2.fbkEval
    if copyBad then (s3.useFree).lockout 10 (s3.freeVal % 256) else s3)

/-- TEST_PULSE (R408): the pulse of TP0 or TP1 has been watched: `stuck` are the inputs of its own channel that stayed high,
`crossed` those of the other channel that went low during it only, `driver` whether the ball followed its driver. -/
def execTestPulse (tp : Fin 2) (stuck crossed : Nat) (driver : Bool) (s : State) : Result :=
  let watches (s : State) (p : Nat) : Bool := s.fcfg 1 p == 1 || s.fcfg 1 p == 3
  let own (x : FPair) : FInput := if tp.val = 0 then x.a else x.b
  let other (x : FPair) : FInput := if tp.val = 0 then x.b else x.a
  let put (x : FPair) (o r : FInput) : FPair := if tp.val = 0 then { x with a := o, b := r } else { x with a := r, b := o }
  let one (s : State) (p : Nat) : State :=
    if !watches s p then s
    else
      let x := s.fpair p
      let miss := stuck.testBit (2 * p + tp.val)
      let cross := crossed.testBit (2 * p + 1 - tp.val)
      let o : FInput := { own x with stuck := if miss then (own x).stuck + 1 else 0 }
      let r : FInput := { other x with crossed := if cross then (other x).crossed + 1 else 0 }
      let y := put x o r
      let s1 := s.modPair p (fun _ => { y with okFor := if miss then 0 else y.okFor })
      let s2 := if miss then s1.sat .fbk_fault_tp_miss 0 else s1
      if 2 ≤ o.stuck then s2.pairFault p 2 else if 2 ≤ r.crossed then s2.pairFault p 3 else s2
  .next (if s.fbk.state = 0 then s
  else if !driver then s.lockout 4 tp
  else (List.range 4).foldl one s)

/-- INPUT_DISCREPANCY (R409): the partner input has not been decided low within DISC of the first decision. -/
def execInputDiscrepancy (p : Fin 4) (s : State) : Result :=
  .next (match (s.fpair p).first with
  | some t =>
    if s.fbk.state ≠ 0 ∧ t + 10 * s.fcfg 3 p ≤ s.fbk.tick then
      (s.modPair p (fun x => { x with first := none })).pairFault p 1
    else s
  | none => s)

/-- EDM_TIMEOUT (R416): the expected EDM state has not been reached EDM_T after the output changed, or has been lost later. -/
def execEdmTimeout (p : Fin 4) (s : State) : Result :=
  let x := s.fpair p
  .next (if s.fbk.state ≠ 0 ∧ s.fcfg 1 p = 3 ∧ s.edmMatches p x = false
      ∧ (x.reached = true ∨ (s.fout (s.fcfg 4 p)).changedAt + 10 * s.fcfg 5 p ≤ s.fbk.tick) then s.pairFault p 7
  else s)

/-! ## Outputs (R410 to R413) -/

/-- OUTPUT_SWITCH_TEST (R413): a switch of an output that is on has been opened alone and read back;
OBJ is the output, whichever switch it was. -/
def execOutputSwitchTest (n : Fin 4) (_low pass : Bool) (s : State) : Result :=
  .next (if (s.fout n).on ∧ pass = false then s.lockout 5 n else s)

/-- STATIC_CHECK (R413): the nodes of an output that is off and enabled have been read. -/
def execStaticCheck (n : Fin 4) (pass : Bool) (s : State) : Result :=
  .next (if s.fbk.state ≠ 0 ∧ s.fcfg 6 n = 1 ∧ (s.fout n).on = false ∧ pass = false then s.lockout 5 n else s)

/-- OUTPUT_OVERCURRENT (R410): the current of an output has been above its limit for 1.0 ms. -/
def execOutputOvercurrent (n : Fin 4) (s : State) : Result := .next (if (s.fout n).on then s.lockout 6 n else s)

/-- OUTPUT_RESTART (R412): an AUTO output restarts once its sources have been healthy for 20 ms. -/
def execOutputRestart (n : Fin 4) (s : State) : Result :=
  .next (if s.outAllowed n ∧ s.fcfg 8 n = 0 ∧ s.outReady n = true then (s.switchOut n true).showFbk else s)

/-! ## Other faults (R405, R424) -/

/-- OSCILLATOR_FAULT (R405): an oscillator has differed by more than 3 % for 10 ms. -/
def execOscillatorFault (ch : Fin 2) (s : State) : Result := .next (if s.fbk.state = 0 then s else s.lockout 9 ch)

/-- CHANNEL_DISAGREEMENT (R424): the two channels have differed for more than 1.0 ms. -/
def execChannelDisagreement (ch : Fin 2) (s : State) : Result := .next (if s.fbk.state = 0 then s else s.lockout 8 ch)

/-! ## Leaving LOCKOUT (R425) -/

/-- The configured pairs that are not healthy without demand, their marks of fault apart. -/
def State.badPairs (s : State) : List Nat :=
  (List.range 4).filter (fun p => !s.pairHealthy p { s.fpair p with fault := false })

/-- The tests of a reset of LOCKOUT have failed: it stays, with a new CAUSE (R425). -/
def State.stayLocked (s : State) (cause obj : Nat) : State :=
  (((s.wr .fbk_fault_cause 0 cause).wr .fbk_fault_obj 0 obj).modFbk (fun b => { b with pend := none })).fbkEval

/-- FBRST_N_PULSE (R425): a low of `ms` milliseconds has ended; outside 50 to 500 it is ignored and counted. In LOCKOUT the tests
are repeated: `fail` is the CAUSE and OBJ of one that failed; else, with every pair healthy, RESET_PEND is set, and with one
that is not, the new CAUSE is a free value (the rule names none for a pair in mere demand) and OBJ the first such pair. -/
def execFbrstNPulse (ms : Nat) (fail : Option (Nat × Nat)) (s : State) : Result :=
  .next (if s.fbk.state = 0 then s
  else if ms < 50 ∨ 500 < ms then s.sat .fbk_fault_rst_ign 0
  else if s.fbk.state ≠ 2 then s
  else match fail with
    | some (c, o) => s.stayLocked c o
    | none =>
      if s.badPairs = [] then
        ((List.range 4).foldl (fun s p => s.modPair p (fun x => { x with fault := false, first := none }))
          (s.modFbk (fun b => { b with pend := some b.tick }))).showFbk
      else (s.useFree).stayLocked (s.freeVal % 256) (s.badPairs.headD 0))

/-- RESET_PEND_TIMEOUT (R425): 60 s without an ACK. -/
def execResetPendTimeout (s : State) : Result :=
  .next (if s.fbk.pend.isSome ∧ s.pendNow = false then (s.modFbk (fun b => { b with pend := none })).showFbk else s)

/-- SESSION_TIMEOUT (R427): 300 s without a safety command of MB0. -/
def execSessionTimeout (s : State) : Result :=
  .next (if s.fbk.session ∧ s.fbk.lastCmd + 3000000 ≤ s.fbk.tick then s.endSession 0xFF true else s)

/-! ## The link (R414, R421, R427) -/

/-- FIREBREAK_LINK_LOSS (R414, R427): every flag becomes "not available" and a session ends; the Crown reports source 0x49. -/
def execFirebreakLinkLoss (s : State) : Result :=
  .next (if !s.fbk.link then s else s.loseLink.report { src := 0x49 })

/-- FIREBREAK_LINK_RETURN (R414): flags and registers are available again. -/
def execFirebreakLinkReturn (s : State) : Result :=
  .next s.openLink

/-- APR_FLAG_CHANGE (R414, R415, R417): the open-port flags as delivered act on outputs, darkening and heaters. -/
def execAprFlagChange (s : State) : Result := .next (if s.fbk.state = 0 then s else s.fbkEval)

/-! ## Darkening (R418 to R420) -/

/-- GATE_DARK of a port in FDU (R56, R418). -/
def State.gateTarget (s : State) (p : Nat) : Int :=
  codeFdu (s.erec (s.gateOf p)).rangeHi (s.theMap.portRec p).gateDark

/-- A gate's output starts a jump to a value (R418, R420): PROF_REV where it lies below the present output, else PROF_FWD. -/
def State.gateJump (s : State) (e : Nat) (v : Int) : State :=
  let vs := (s.el e).out
  let pr := s.profFor e (!decide (v < vs))
  let j : Jump := {
    vs := vs, vt := s.limited e v, prof := s.profReg (profIdx (elemCpt e) pr), at0 := s.loop.frames, goal := .dark }
  ((s.modEl e (fun x => { x with djump := some j, held := false })).wrBit .ust_vdac_status_play e true).wr
    .ust_vdac_status_prof e pr

/-- Whether a port's gate has to be moved to darkness at this boundary: asked for at least 2 frames ago, not kept from it by
R421, and neither there nor on its way. -/
def State.darkDue (s : State) (w : Nat × Nat) : Bool :=
  let e := s.gateOf w.1
  !s.undarkable w.1 && decide (w.2 + 2 ≤ s.loop.frames)
    && (match (s.el e).djump with
        | some _ => !s.loop.dark.contains e
        | none => !s.loop.dark.contains e || decide ((s.el e).out ≠ s.limited e (s.gateTarget w.1)))

/-- A gate element moved to darkness and held there (R418, R422): a range change ends, its drive stays as the Stand wrote it. -/
def State.darken (s : State) (w : Nat × Nat) : State :=
  if !s.darkDue w then s
  else
    let e := s.gateOf w.1
    let d := (s.el e).drive
    let s1 := (s.endRange e .busy).modEl e (fun x => { x with drive := d })
    let s2 := s1.modLoop (fun l => { l with
      dark := if l.dark.contains e then l.dark else l.dark ++ [e]
      sweeps := l.sweeps.map (fun y => if y.elem = e then { y with dimmed := true } else y) })
    s2.gateJump e (s.gateTarget w.1)

/-- DARKENING_START (R418): at a frame boundary every gate that is due jumps to GATE_DARK. -/
def execDarkeningStart (s : State) : Result :=
  .next (if s.fbk.want.any s.darkDue then ((s.fbk.want.foldl (fun s w => s.darken w) s).fbkEvent 5).showFbk else s)

/-- A released gate returns at a loop-period boundary to the drive last written (R420), its monitors invalid under cause 3; one
whose channel is off or at its clear code is only let go. -/
def State.undarken (s : State) (e : Nat) : State :=
  let t := s.loop.frames
  let s1 := (s.modLoop (fun l => { l with dark := l.dark.filter (fun x => x != e) })).modFbk (fun b => { b with
    release := b.release.filter (fun w => w.1 != e) })
  if s.vOff e ∨ s.atClear e then s1.modEl e (fun x => { x with djump := none })
  else
    let s2 := (s.erec e).monitors.foldl (fun s m => s.addSpan m { cause := 3, first := t, last := t + 1 }) s1
    s2.gateJump e (s.el e).drive

/-- DARKENING_RELEASE (R420): the gates of a compartment whose last source has ended return at its loop-period boundary. -/
def execDarkeningRelease (n : Fin 4) (s : State) : Result :=
  let due := s.fbk.release.filter (fun w => elemCpt w.1 == n.val && s.loop.dark.contains w.1 && s.nextBoundary n w.2)
  .next (if due = [] then s else ((due.foldl (fun s w => s.undarken w.1) s).fbkEvent 5).showFbk)

/-! ## The log (R432) -/

/-- SAFETY_LOG_FLUSH (R432): the entries held are written to flash in order once link and flash are there. -/
def execSafetyLogFlush (s : State) : Result :=
  .next (if s.fbkFlash then (s.modFbk (fun b => { b with log := b.held.foldl logPush b.log, held := [] })).showFbk else s)

end Sys2Proof.Machine
end

