-- ==== Sys2Proof/Machine/Frame.lean ====
section
/-! DEFINITION. FRAME_BOUNDARY (R70, R77, R290): the frame that ends and what follows from it. -/

namespace Sys2Proof.Machine

/-- Whether frames run: the module has booted, not into RECOVERY, and CLKREF is present (R470, R472, R500). -/
def State.clocked (s : State) : Bool := s.boot.step == 8 && !s.bit .boot_status_recovery 0 && s.boot.clkref

/-- The frames kept: those of the longest window, 64 periods of 40 frames (R169). -/
def histFrames : Nat := 2560

/-- The clock one frame later, and the frame noted (R77, R290). -/
def State.takeFrame (s : State) (f : FrameRec) : State :=
  { s with
    datum := { s.datum with t := s.datum.t + tickFrame }
    loop := { s.loop with frames := s.loop.frames + 1, hist := (f :: s.loop.hist).take histFrames } }

/-- The monitors whose precision window runs. -/
def State.runningWins (s : State) : List Nat :=
  (s.loop.mons.filter (fun p => match p.2.win with | some w => w.running | none => false)).map (fun p => p.1)

/-- Invalid spans that are over. -/
def State.pruneSpans (s : State) : State :=
  let old := (s.loop.mons.filter (fun p => p.2.spans != [])).map (fun p => p.1)
  s.modLoop (fun l => { l with
    mons := Tbl.modifyAll {} l.mons old (fun _ x => { x with spans := x.spans.filter (fun p => l.frames ≤ p.last) }) })

/-- What the converters make of the frame that ends: comparators, precision windows, outer loops. -/
def State.countAll (s : State) (f : FrameRec) : State :=
  let s1 := s.armedMons.foldl (fun s m => s.countFrame f m) s
  let s2 := s.runningWins.foldl (fun s m => s.countWin f m) s1
  s2.countOuters f

/-- Whether a MONITOR_READ is served by the frame that has just ended: no range change that it asked for still waits (R390). -/
def State.readReady (s : State) (r : ReadCmd) : Bool :=
  !r.ranged || !(span r.first r.count).any (fun m => (s.mon m).want.isSome)

/-- A MONITOR_READ served (R390): the result words of one frame and its frame counter at the end boundary. -/
def State.serveRead (s : State) (f : FrameRec) (r : ReadCmd) : State :=
  (s.hostWrite r.h r.buf ((span r.first r.count).flatMap (fun m => leBytes 4 (s.resultWord f m)))).finish r.owner
    { status := .ok, res0 := s.frame % 2 ^ 32 }

/-- Every MONITOR_READ whose frame has ended; `ready` are those that waited for no range when it ended. -/
def State.serveReads (s : State) (f : FrameRec) (ready : List ReadCmd) : State :=
  ready.foldl (fun s r => s.serveRead f r)
    (s.modLoop (fun l => { l with reads := l.reads.filter (fun r => !ready.contains r) }))

/-- A measuring step of a system calibration that has taken its windows on every group completes (R106, R107). -/
def State.endSysStep (s : State) (n : Nat) : State :=
  match (s.cpt n).step with
  | some w =>
    if w.at0 + 48 * w.per ≤ s.loop.frames then
      (s.modCpt n (fun c => { c with step := none })).finish w.owner { status := .ok }
    else s
  | none => s

/-- Returns that have not made the Stand ELIGIBLE in 256 periods of the slowest compartment (R278, R287). -/
def State.returnLate (s : State) : State :=
  let late := s.stand.returnBy.filter (fun r => r.2 ≤ s.loop.frames)
  if late = [] then s
  else
    let s1 := late.foldl (fun s r => s.finishOpt r.1 { status := .internal })
      (s.modStand (fun t => { t with returnBy := t.returnBy.filter (fun r => s.loop.frames < r.2) }))
    if s1.boot.actStep = 2 ∨ s1.boot.actStep = 5 then s1.failActivation else s1

/-- The position that every group of a compartment is at in its start-up or rejoin pass, 3,072 frames each, shown (R102). -/
def State.showPass (s : State) (n : Nat) : State :=
  let d := s.loop.frames - (s.cpt n).passFrom
  if s.inPass n ∧ d % 3072 = 0 then (grpsOf n).foldl (fun s g => s.wr .cal_grp_status_pos g (min 32 (d / 3072))) s else s

/-- What converter groups and precision windows do at a frame boundary: returns end, reload frames end, passes go on (R86, R96,
R102). -/
def State.groupWork (s : State) : State :=
  let s1 := ((s.loop.grps.filter (fun p => p.2.returnAt.isSome)).map (fun p => p.1)).foldl (fun s g => s.endReturn g) s
  let s2 := (s1.listed .ust_pw_status_reload).foldl (fun s m => s.wrBit .ust_pw_status_reload m false) s1
  (List.range 4).foldl (fun s n => s.showPass n) s2

/-- The map being reread is in force again at the frame boundary that follows (R435, DESIGN CHOICE), or the module runs without one. -/
def State.endReread (s : State) : State := if s.map.reread then s.loadMap false else s

/-- What the module does at every frame boundary beside the converters: buckets, the Datum switch, the power cap, the trip inputs
and the calibration schedule shown (R165, R224, R307, R358); a map being reread comes back and ERR_N is let go (R435, R443). -/
def State.frameWork (s : State) : State :=
  let s1 := (List.range 8).foldl (fun s m => s.fillBucket m) s.switchAtBoundary
  let s2 := (List.range 4).foldl (fun s n => (s.showInputs n).endSysStep n) s1.powerCap
  let s3 := ((List.range 4).filter (fun n => s2.rd .cal_ecal_sched_interval n != 0)).foldl (fun s n => s.showOverdue n) s2
  s3.groupWork.returnLate.busyWork.endReread.driveErr

/-- FRAME_BOUNDARY (R70, R77, R290): the frame that ends delivers its samples (readings in frame LSB; monitors not listed read
0), the clock is one frame later, and frame-synchronous work proceeds. -/
def execFrameBoundary (samples : List (Nat × Int)) (s : State) : Result :=
  .next (if s.clocked then
    let f := s.frameRec samples
    let ready := s.loop.reads.filter s.readReady
    ((((s.takeFrame f).countAll f).serveReads f ready).pruneSpans).frameWork
  else s)

end Sys2Proof.Machine
end

