-- ==== Sys2Proof/Machine/Vmode.lean ====
section
/-! DEFINITION. The commands and events of the V-mode channels (file 04): overcurrent and group trips, the deglitcher, range
changes, clear codes and CLR_N, profiles, pilot amplitudes. -/

namespace Sys2Proof.Machine

/-- The BAR0 offset of a V-mode channel's register in its compartment's window. -/
def vOffset (e base : Nat) : Nat := 0x100000 + elemCpt e * 0x40000 + base + 4 * (e % 2304)

/-! ## Overcurrent and group limiters (R117, R118) -/

/-- VMODE_OVERCURRENT (R117): a stage at its current limit for 10 µs goes to high impedance. -/
def execVmodeOvercurrent (e : Fin 9216) (s : State) : Result :=
  .next (if s.vOff e then s
  else ((s.wrBit .ust_vdac_status_oc e true).report { src := 0x16, objKind := 1, obj := e }).loseElem e 2)

/-- OC of a channel cleared (R117): it returns to its clear code and waits there. -/
def State.clearOc (s : State) (e : Nat) : State :=
  if s.bit .ust_vdac_status_oc e then
    ((s.wrBit .ust_vdac_status_oc e false).awaitCommit e).showCleared (elemCpt e)
  else s

/-- OC_CLEAR_WRITE (R117). -/
def execOcClearWrite (e : Fin 9216) (s : State) : Result := .next (s.clearOc e)

/-- GROUP_LIMITER_TRIP (R118): group `g` of the compartment, 0 to 47, is switched off. -/
def execGroupLimiterTrip (n : Fin 4) (g : Fin 48) (s : State) : Result :=
  let k := 48 * n.val + g.val
  .next (if s.loop.tripped.contains k then s
  else
    let s1 := s.modLoop (fun l => { l with tripped := l.tripped ++ [k] })
    let s2 := if s1.rd .ust_vdac_ctrl_gtrip_grp n = 0x3F then s1.wr .ust_vdac_ctrl_gtrip_grp n g else s1
    ((s2.wrBit .ust_vdac_ctrl_gtrip n true).sat .ust_vdac_ctrl_gtrip_cnt n).report
      { src := 0x17, objKind := 3, obj := n, detail := g })

/-- GTRIP of a compartment shown: it clears, with its count and first group, when no group remains tripped (R118). -/
def State.showGtrip (s : State) (n : Nat) : State :=
  if s.loop.tripped.any (fun g => g / 48 == n) then s
  else ((s.wrBit .ust_vdac_ctrl_gtrip n false).wr .ust_vdac_ctrl_gtrip_cnt n 0).wr .ust_vdac_ctrl_gtrip_grp n 0x3F

/-- A tripped group re-enabled (R118): every channel of it returns to its clear code. -/
def State.enableGroup (s : State) (k : Nat) : State :=
  let s1 := s.modLoop (fun l => { l with tripped := l.tripped.filter (fun g => g != k) })
  (span (2304 * (k / 48) + 48 * (k % 48)) 48).foldl (fun s e => s.awaitCommit e) s1

/-- GTRIP_CLEAR_WRITE (R118): every tripped group of the compartment is re-enabled. -/
def execGtripClearWrite (n : Fin 4) (s : State) : Result :=
  .next ((((s.loop.tripped.filter (fun g => g / 48 == n.val)).foldl (fun s k => s.enableGroup k) s).showGtrip n).showCleared n)

/-- DEGLITCH_RELEASE (R120, R121): the oldest impulse that the deglitcher holds reaches the output; outside profile play the hold
ends and the output takes the newest value. -/
def execDeglitchRelease (e : Fin 9216) (s : State) : Result :=
  .next (match (s.el e).play with
  | v :: l => s.modEl e (fun x => { x with out := v, play := l })
  | [] => if (s.el e).held then s.modEl e (fun x => { x with held := false, out := s.limited e x.drive }) else s)

/-! ## Range changes (R127 to R130) -/

/-- The largest drive that a change to the LO range must hold: the element's drive, its calibrated targets, an override (R128). -/
def State.needsTop (s : State) (e : Nat) : Int :=
  let x := s.el e
  let cal : Int := if s.hasCal e then
      (if (s.erec e).isCell then max (s.calRec e).ff0 (s.calRec e).ff1 else (s.calRec e).ff0 : Nat) else 0
  max x.drive (max cal (if x.state = 4 then x.override else 0))

/-- The checks of R128 after presence and partition, in its order. -/
def State.rangeChecks (s : State) (e : Nat) (hi : Bool) : List (Bool × Status) :=
  [(!isV e || !s.present e, .notPermitted),
   (s.fenced (elemCpt e), .fenced),
   ((s.el e).state == 3 || (s.el e).rchg.isSome, .busy),
   (s.trv.queue.any (fun c => c.diff.contains e && c.frame * 1024 < s.nowNs + 60000), .busy),
   (!hi && decide ((rangeTop false : Int) < s.needsTop e), .notPermitted)]

/-- A range change asked for (R127, R129); it starts at the next frame boundary. -/
def State.askRange (s : State) (e : Nat) (hi : Bool) (owner : Option Owner) : State :=
  (s.wrBit .ust_vdac_cfg_range e hi).modEl e (fun x => { x with
    rchg := some { at0 := s.loop.frames, hi := hi, owner := owner } })

/-- VDAC_RANGE_WRITE (R10, R127, R128): RANGE written; one that differs from RANGE_ACT asks for a change, and one refused is
discarded. DEDUCED: so is one while the holder is FROZEN, in which no new change starts (R266). -/
def execVdacRangeWrite (e : Fin 9216) (hi : Bool) (s : State) : Result :=
  .next (s.expertWrite (vOffset e 0x8000) .ust_vdac_cfg_range e (fun s =>
    if hi = s.rangeHi e then s
    else if s.frozen || (firstStatus (s.rangeChecks e hi)).isSome then s.noteDiscard (vOffset e 0x8000)
    else s.askRange e hi none))

/-- RANGE_ACT set; the amplitude of the pilot in FDU changes with it (R132, R174). -/
def State.switchRange (s : State) (e : Nat) (hi : Bool) : State :=
  s.noteAmp e (fun t => (t.wrBit .ust_vdac_status_range_act e hi).wrBit .ust_vdac_cfg_range e hi)

/-- RANGE_CHANGE_START (R127, R129): at the first frame boundary after admission. An element in PARK takes the range at once;
another turns its pilot off and starts its ramp from its output, its monitors invalid under cause 4 for 46 frames, for which
it keeps its state. A ramp starts only while a Stand's writes reach the channel (R266). -/
def execRangeChangeStart (e : Fin 9216) (s : State) : Result :=
  .next (match (s.el e).rchg with
  | some r =>
    if r.started ∨ s.loop.frames ≤ r.at0 then s
    else if (s.el e).state = 0 then
      let s1 := ((s.switchRange e r.hi).modEl e (fun x => { x with rchg := none })).toClear e
      s1.finishOpt r.owner (s1.rangeDone e .ok)
    else if !s.writesReach then s
    else
      let f := s.loop.frames
      let v : Int := if (s.el e).held then s.limited e (s.el e).drive else (s.el e).out
      let s1 := (s.modEl e (fun x => { x with
        rchg := some { r with at0 := f, started := true, back := v }, out := v, held := false, keepTo := f + 46 })).wrBit
        .ust_vdac_status_rchg e true
      (s.erec e).monitors.foldl (fun s m => s.addSpan m { cause := 4, first := f, last := f + 45, elem := some e }) s1
  | none => s)

/-- RANGE_SWITCH (R129): 20.0 µs after the start, at 0 V, the output stage switches range. -/
def execRangeSwitch (e : Fin 9216) (s : State) : Result :=
  .next (match (s.el e).rchg with
  | some r =>
    if !r.started ∨ r.switched ∨ s.loop.frames < r.at0 + 19 then s
    else
      (((s.switchRange e r.hi).modEl e (fun x => { x with rchg := some { r with switched := true }, out := 0 }))).setCode e 0
  | none => s)

/-- RANGE_RAMP_UP (R129): 25.0 µs after the start the ramp toward the same voltage starts. -/
def execRangeRampUp (e : Fin 9216) (s : State) : Result :=
  .next (match (s.el e).rchg with
  | some r =>
    if !r.switched ∨ r.ramping ∨ s.loop.frames < r.at0 + 24 then s
    else s.modEl e (fun x => { x with rchg := some { r with ramping := true } })
  | none => s)

/-- RANGE_CHANGE_END (R116, R129): 45.0 µs after the start the output is at its voltage again, in the new range. -/
def execRangeChangeEnd (e : Fin 9216) (s : State) : Result :=
  .next (match (s.el e).rchg with
  | some r =>
    if !r.ramping ∨ s.loop.frames < r.at0 + 43 then s
    else
      let s0 := (s.modEl e (fun x => { x with rchg := none })).wrBit .ust_vdac_status_rchg e false
      let s1 := (s0.latch e r.back).modEl e (fun x => { x with out := s0.limited e r.back })
      s1.finishOpt r.owner (s1.rangeDone e .ok)
  | none => s)

/-! ## Clear codes and CLR_N (R122 to R126) -/

/-- A clear code set (R122): a channel that is held at its clear code moves to the new one. -/
def State.setVclr (s : State) (e code : Nat) : State :=
  let s1 := s.wr .ust_vclr_code e code
  if s.atClear e ∨ (s.el e).state = 0 then s1.toClear e else s1

/-- UST_VCLR_WRITE (R122). -/
def execUstVclrWrite (e : Fin 9216) (code : Nat) (s : State) : Result := .next (s.setVclr e code)

/-- CLRN of every compartment shown. -/
def State.showClrn (s : State) : State :=
  (List.range 4).foldl (fun s n => s.wrBit .ust_vdac_ctrl_clrn n s.loop.clrLow) s

/-- One V-mode element as CLR_N falls (R125, R130): its range change ends, a trajectory is abandoned, its output moves; the
drive that it held is kept for its return. -/
def State.clrElem (s : State) (e : Nat) : State :=
  let d := (s.el e).drive
  let s1 := (s.endRange e .busy).modEl e (fun y => { y with
    drive := d, jump := y.jump.map (fun j => { j with ended := true }), djump := none })
  (s1.wrBit .ust_vdac_status_play e false).toClear e

/-- CLR_N_ASSERT (R124, R125, R161): a low that the V-mode path acts on (`vpath`) moves every V-mode output to its clear code; one
that the H-mode path acts on (`hpath`) puts every heater at high impedance; either is source 0x1C. -/
def execClrNAssert (vpath hpath : Bool) (s : State) : Result :=
  .next (if (!vpath && !hpath) || (s.loop.clrLow || s.loop.heatClear) then s
  else
    let s1 := s.modLoop (fun l => { l with clrLow := vpath, heatClear := hpath })
    let s2 := if vpath then
        ((List.range 9216).foldl (fun s e => s.clrElem e) (s1.abandonSweeps isV false)).showClrn
      else s1
    let s3 := if hpath then
        (List.range 1024).foldl (fun s i => s.setHiz (9216 + i) true) (s2.abandonSweeps (fun e => !isV e) false)
      else s2
    ((List.range 4).foldl (fun s n => s.showCleared n) s3).report { src := 0x1C, detail := 1 })

/-- CLR_N_RELEASE (R126): CLR_N is high again; the outputs stay until the return boundary of each compartment. -/
def execClrNRelease (s : State) : Result :=
  .next (if !s.loop.clrLow && !s.loop.heatClear then s
  else
    let f := s.loop.frames
    let s1 := (List.range 4).foldl (fun s n => s.modCpt n (fun c => { c with
      returnAt := if s.loop.clrLow then some f else c.returnAt
      resumeAt := if s.loop.heatClear ∨ s.loop.clrLow then some f else c.resumeAt })) s
    ((s1.modLoop (fun l => { l with clrLow := false, heatClear := false })).showClrn).report { src := 0x1C, detail := 0 })

/-- CLR_N_RETURN (R126): at the first loop-period boundary at least 2 frames after the release, the elements of the compartment
return from their clear codes. -/
def execClrNReturn (n : Fin 4) (s : State) : Result :=
  .next (match (s.cpt n).returnAt with
  | some f =>
    if !s.nextBoundary n f ∨ s.loop.clrLow ∨ !s.writesReach then s
    else
      let es := ((s.loop.elems.map (fun p => p.1)).filter (fun e => isV e && elemCpt e == n.val && !s.vOff e))
      ((es.foldl (fun s e => s.fromClear e) s).modCpt n (fun c => { c with returnAt := none })).showCleared n
  | none => s)

/-! ## Profiles (R136 to R142) -/

/-- Whether impulse `i` of a jump has fallen due (R140). -/
def State.impulseDue (s : State) (j : Jump) (i : Nat) : Bool := decide (j.at0 * 100 + j.prof.time i < (s.loop.frames + 1) * 100)

/-- Whether an impulse may play: CLR_N plays no jump (R125); a darkening jump needs its channel on; a jump that no Clearing armed is
the Stand's own and needs an open write path (R26, R143). DEDUCED: it waits for one. -/
def State.mayPlay (s : State) (e : Nat) (dark : Bool) (j : Jump) : Bool :=
  if dark then !s.vOff e && !s.clrHeld (elemCpt e) else !s.atClear e && (j.clr.isSome || s.writesReach)

/-- PROFILE_IMPULSE (R121, R139, R140, R153): the next impulse of a jump sets the commanded drive; an impulse of a darkening jump
(R418) moves the output alone. A duty latched at the boundary on which a jump starts counts in the commanded power (R165). -/
def execProfileImpulse (e : Fin 10240) (dark : Bool) (s : State) : Result :=
  let x := s.el e
  .next (match if dark then x.djump else x.jump with
  | some j =>
    if j.ended ∨ j.prof.count ≤ j.played ∨ !s.impulseDue j (j.played + 1) ∨ !s.mayPlay e dark j then s
    else
      let v := j.value (isV e) (j.played + 1)
      let k : Jump := { j with played := j.played + 1 }
      if dark then
        (s.latch e v).modEl e (fun y => { y with djump := some k, play := y.play ++ [s.limited e v] })
      else
        let s1 := (s.impulse e v).modEl e (fun y => { y with jump := some k })
        if !isV e ∧ j.played = 0 then s1.powerCap else s1
  | none => s)

/-- TRAJECTORY_END (R138): every impulse has been played, has reached the output, and the profile's duration is over. -/
def execTrajectoryEnd (e : Fin 10240) (dark : Bool) (s : State) : Result :=
  let x := s.el e
  .next (match if dark then x.djump else x.jump with
  | some j =>
    if j.ended ∨ j.played < j.prof.count ∨ (s.loop.frames + 1) * 102400 ≤ j.endsAt then s
    else
      let s0 := s.flush e
      let s1 := if dark then s0.modEl e (fun y => { y with
          djump := none
          darkTo := if s.loop.dark.contains e then y.darkTo
            else s.loop.frames + 1 + s.windowLen (elemCpt e) * s.period (elemCpt e) })
        else s0.modEl e (fun y => { y with jump := some { j with ended := true }, drive := j.vt })
      if isV e then s1.wrBit .ust_vdac_status_play e false else s1
  | none => s)

/-- UST_PROFILE_WRITE (R142): the last word of a profile checks it and puts it in force; one that fails R137 is discarded
(R10). -/
def execUstProfileWrite (n : Fin 4) (p : Fin 16) (count flags t2 t3 t4 a1 a2 a3 : Nat) (s : State) : Result :=
  let pr : Prof := { count := count, flags := flags, t2 := t2, t3 := t3, t4 := t4, a1 := a1, a2 := a2, a3 := a3 }
  let off : Nat := 0x100000 + n.val * 0x40000 + 0x3F100 + 16 * p.val
  .next (s.expertWrite off .ust_profile_count (profIdx n p) (fun s =>
    if pr.ok then s.putProf (profIdx n p) pr else s.noteDiscard off))

/-! ## Pilots (R132) -/

/-- PILOT_AMPLITUDE_CHANGE (R132): a new PAMP takes effect at a loop-period boundary. -/
def execPilotAmplitudeChange (e : Fin 10240) (s : State) : Result :=
  .next (if (s.el e).amp = s.pampOf e ∨ !s.atBoundary (elemCpt e) then s
  else s.noteAmp e (fun t => t.modEl e (fun x => { x with amp := s.pampOf e })))

end Sys2Proof.Machine
end

