-- ==== Sys2Proof/Machine/LoopCmds.lean ====
section
/-! DEFINITION. The mailbox commands of elements and loops (R120, R122, R128, R132, R142, R152, R157, R160, R164, R182, R183, R191
to R195, R198, R206). -/

namespace Sys2Proof.Machine

/-! ## ELEMENT_SET (R128, R191, R194) -/

/-- The first rows of R191: field, partition, presence. -/
def State.elemChecks (s : State) (h : Hdr) (elem : Nat) (bad : Bool) : List (Bool × Status) :=
  [(10239 < elem || bad, .invalidField), (!s.holdsElem h.mbx elem, .outOfPartition), (!s.present elem, .notPermitted)]

/-- BUSY of an ELEMENT_SET while a map is being activated (R67). -/
def State.mapBusy (s : State) : List (Bool × Status) := [(s.mapAway, .busy)]

/-- R422: the element gates a darkened port. -/
def State.darkCheck (s : State) (elem : Nat) : List (Bool × Status) := [(s.gateDark elem, .notPermitted)]

/-- Whether a drive is above the DRIVE_MAX of a present element. -/
def State.tooHigh (s : State) (e drive : Nat) : Bool := s.present e && s.driveMax e < drive

/-- The rows of R191 after presence. -/
def State.moveChecks (s : State) (elem : Nat) : List (Bool × Status) :=
  [(s.fenced (elemCpt elem), .fenced),
   ((s.el elem).state == 5, .notPermitted),
   ((s.el elem).state == 3 || (s.el elem).rchg.isSome, .busy),
   ((s.el elem).sched.isSome, .busy),
   (s.frozen, .internal)]

/-- A transition scheduled for an element by a command (R186, R384). -/
def State.schedule (s : State) (h : Hdr) (e : Nat) (k : Sched) : State :=
  let s1 := s.entered h
  let o := s1.ownerOf h
  (s1.modEl e (fun x => { x with sched := some (k, s.loop.frames, some o) })).effect o

/-- ELEMENT_SET, OVERRIDE (R191): a jump to an override value is scheduled. -/
def execElementSetOverride (h : Hdr) (elem drive : Nat) (s : State) : Result :=
  .next (s.checked h (s.elemChecks h elem (s.tooHigh elem drive) ++ s.mapBusy ++ s.darkCheck elem ++ s.moveChecks elem)
    (fun s => s.schedule h elem (.override drive)))

/-- ELEMENT_SET, SETPOINT (R159, R194): a new feed-forward drive (0xFFFF_FFFF keeps it) and a new slope setpoint (0x8000 keeps
it) of an element that is no cell's. -/
def execElementSetSetpoint (h : Hdr) (elem ffc ssp : Nat) (s : State) : Result :=
  let r := s.erec elem
  let newF := ffc != 0xFFFFFFFF
  let sp : Option Int := if ssp = 0x8000 then none else some (signed 16 ssp)
  .next (s.checked h
    (s.elemChecks h elem (newF && s.tooHigh elem ffc) ++ s.mapBusy
      ++ [(r.isCell || !(3 ≤ r.role && r.role ≤ 6) || s.outerFeeds elem, .notPermitted)] ++ s.darkCheck elem
        ++ s.moveChecks elem)
    (fun s =>
      let x := s.el elem
      let keep (s : State) : State := s.modEl elem (fun y => { y with
        ffc := if newF then some ffc else y.ffc
        ssp := match sp with | some v => some v | none => y.ssp })
      if x.state = 1 ∨ x.state = 2 then
        if newF then
          if !isV elem ∧ s.bit .ust_htrip_trip (elemCpt elem) then
            ((keep s).modEl elem (fun y => { y with retgt := true })).status h .ok
          else s.schedule h elem (.setpoint ffc sp)
        else match sp with
          | some v => s.schedule h elem (.sigma v)
          | none => s.status h .ok
      else (keep s).status h .ok))

/-- ELEMENT_SET, RANGE (R127 to R130): every completion reports the range in force; a request of that range changes nothing. -/
def execElementSetRange (h : Hdr) (elem range : Nat) (s : State) : Result :=
  let done (s : State) (st : Status) : State := s.complete h (s.rangeDone elem st)
  .next (match firstStatus (s.elemChecks h elem (1 < range) ++ s.mapBusy ++ s.rangeChecks elem (range == 1) ++ [(s.frozen, .internal)]) with
  | some st => done s st
  | none =>
    if (range == 1) = s.rangeHi elem then done s .ok
    else
      let s1 := s.entered h
      (s1.askRange elem (range == 1) (some (s1.ownerOf h))).effect (s1.ownerOf h))

/-! ## ELEMENT_RELEASE (R160, R193, R206) -/

/-- Whether a mailbox holds every present element of an element's V-mode driver group. -/
def State.holdsGroup (s : State) (m e : Nat) : Bool :=
  (span (2304 * (vGroup e / 48) + 48 * (vGroup e % 48)) 48).all (fun x => !s.present x || s.holdsElem m x)

/-- A tripped group re-enabled by the element form of ELEMENT_RELEASE (R118, R193). -/
def State.releaseGroup (s : State) (elem : Nat) : State :=
  ((s.enableGroup (vGroup elem)).showGtrip (elemCpt elem)).showCleared (elemCpt elem)

/-- ELEMENT_RELEASE, ELEMENT (R193): from MANUAL; OC, LEAK, and a tripped group of the element are cleared. -/
def execElementReleaseElement (h : Hdr) (elem : Nat) (s : State) : Result :=
  let trip := isV elem && s.loop.tripped.contains (vGroup elem)
  .next (s.checked h
    (s.elemChecks h elem false ++ s.darkCheck elem ++ [(s.fenced (elemCpt elem), .fenced), ((s.el elem).sched.isSome, .busy), (s.frozen, .internal),
      (trip && !s.holdsGroup h.mbx elem, .outOfPartition)])
    (fun s =>
      if (s.el elem).state = 4 then (if trip then s.releaseGroup elem else s).schedule h elem .release
      else
        let s1 := if isV elem then s.clearOc elem else s.clearLatches (hIdx elem) true true
        (if trip then s1.releaseGroup elem else s1).status h .ok))

/-- ELEMENT_RELEASE, TRIP_RELEASE (R160). -/
def execElementReleaseTrip (h : Hdr) (comp : Nat) (s : State) : Result :=
  .next (s.checked h
    [(3 < comp, .invalidField),
     (!s.holdsElems h.mbx (9216 + 256 * comp) 256, .outOfPartition), (s.frozen, .internal)]
    (fun s => (s.clearTrip comp).1.status h (if (s.clearTrip comp).2 then .tripActive else .ok)))

/-- ELEMENT_RELEASE, RETURN (R206): a SUSPECT element is returned to service at a boundary; a second command waits for the same
return. -/
def execElementReleaseReturn (h : Hdr) (elem : Nat) (s : State) : Result :=
  .next (s.checked h
    (s.elemChecks h elem false ++ s.darkCheck elem ++ [(s.fenced (elemCpt elem), .fenced), (s.latched elem, .notPermitted),
      (s.frozen, .internal)])
    (fun s =>
      if (s.el elem).state ≠ 5 then s.status h .ok
      else if (s.el elem).sched.isSome then
        let s1 := s.entered h
        let o := s1.ownerOf h
        (s1.modEl elem (fun x => { x with joint := x.joint ++ [o] })).effect o
      else s.schedule h elem .return))

/-! ## LOOP_CONFIG -/

/-- PSEL of a period in frames, and WSEL of a window in periods (R195). -/
def pselOf (p : Nat) : Option Nat := match p with | 5 => some 0 | 10 => some 1 | 20 => some 2 | 40 => some 3 | _ => none

/-- WSEL of a window in periods (R195). -/
def wselOf (w : Nat) : Option Nat := match w with | 16 => some 0 | 32 => some 1 | 64 => some 2 | _ => none

/-- Whether a period and a window leave a compartment's pilots on the grid and its coefficient sets acceptable (R62, R195). -/
def State.fitsLoop (s : State) (n period window : Nat) : Bool :=
  (s.theMap.elems.all (fun p => elemCpt p.1 != n || !p.2.present || !p.2.pilotEn || p.2.pilotK % gridStep period window == 0))
    && s.shadowOk n window && s.activeOk n window

/-- A change of a compartment's period and window accepted (R196). -/
def State.askChange (s : State) (n psel wsel : Nat) (owner : Option Owner) : State :=
  (s.wrBit .stx_cpt_cfg_pend n true).modCpt n (fun c => { c with change := some (psel, wsel, s.loop.frames, owner) })

/-- LOOP_CONFIG, COMPARTMENT (R195, R196). -/
def execLoopConfigCompartment (h : Hdr) (comp period window : Nat) (s : State) : Result :=
  let p := (pselOf period).getD 0
  let w := (wselOf window).getD 0
  .next (s.checked h
    [(3 < comp || (pselOf period).isNone || (wselOf window).isNone, .invalidField),
     (!s.holdsCptElems h.mbx comp, .outOfPartition),
     ((s.cpt comp).change.isSome, .busy),
     (!s.fitsLoop comp period window, .invalidField)]
    (fun s =>
      if p = s.rd .stx_cpt_cfg_psel comp ∧ w = s.rd .stx_cpt_cfg_wsel comp then s.status h .ok
      else (s.entered h).askChange comp p w (some ((s.entered h).ownerOf h))))

/-- LOOP_CONFIG, COEFFICIENT (R183): a shadow set is written, and with COMMIT the bank is committed; a commit that fails leaves
everything as it was. -/
def execLoopConfigCoefficient (h : Hdr) (comp set kp ki ilim epsMax commit : Nat) (s : State) : Result :=
  let i := coefIdx comp set
  let write (s : State) : State :=
    (((s.wr .stx_coef_kp i kp).wr .stx_coef_ki i ki).wr .stx_coef_ilim i ilim).wr .stx_coef_eps_max i epsMax
  .next (s.checked h
    [(3 < comp || 15 < set || 2 ^ 20 ≤ ilim || 2 ^ 20 ≤ epsMax || 1 < commit, .invalidField),
     (!s.holdsCptElems h.mbx comp, .outOfPartition),
     (commit = 1 && !(write s).commitOk comp, .invalidField)]
    (fun s =>
      let s1 := write s
      let s2 := if commit = 1 ∧ (s.cpt comp).swap = none then s1.askSwap comp none else s1
      s2.status h .ok))

/-- LOOP_CONFIG, ELEMENT (R182): the coefficient set of a range of elements. -/
def execLoopConfigElement (h : Hdr) (first set count : Nat) (s : State) : Result :=
  .next (s.checked h
    ([(count = 0 || 10240 < first + count || 15 < set, .invalidField), (!s.holdsElems h.mbx first count, .outOfPartition)]
      ++ s.needsMap)
    (fun s => ((s.presentIn first count).foldl (fun s e => s.modEl e (fun x => { x with coefSet := set })) s).status h .ok))

/-- LOOP_CONFIG, CLEAR_CODE (R122): V-mode elements only. -/
def execLoopConfigClearCode (h : Hdr) (first count code : Nat) (s : State) : Result :=
  .next (s.checked h
    ([(count = 0 || 9216 < first + count || 2 ^ 20 ≤ code, .invalidField), (!s.holdsElems h.mbx first count, .outOfPartition)]
      ++ s.needsMap)
    (fun s => ((s.presentIn first count).foldl (fun s e => s.setVclr e code) s).status h .ok))

/-- LOOP_CONFIG, PROFILE (R137, R142): checked, written to flash and to the compartment. -/
def execLoopConfigProfile (h : Hdr) (comp prof count flags t2 t3 t4 a1 a2 a3 rsv : Nat) (s : State) : Result :=
  let p : Prof := { count := count, flags := flags, t2 := t2, t3 := t3, t4 := t4, a1 := a1, a2 := a2, a3 := a3, rsv := rsv }
  .next (s.checked h
    [(3 < comp || 15 < prof || !p.ok, .invalidField), (!s.holdsCptElems h.mbx comp, .outOfPartition)]
    (fun s =>
      if s.flashRefused then s.countRefused.status h .tempInhibit
      else ((s.putProf (profIdx comp prof) p).modLoop (fun l => { l with
        profs := Tbl.set {} l.profs (profIdx comp prof) p })).extendProfs.status h .ok))

/-- PAMP of an element written (R132); it takes effect at a boundary. -/
def State.setPamp (s : State) (e v : Nat) : State :=
  if isV e then s.wr .ust_vdac_cfg_pamp e v else s.wr .ust_hpwm_mode_pamp (hIdx e) v

/-- LOOP_CONFIG, PILOT (R132). -/
def execLoopConfigPilot (h : Hdr) (first count pamp : Nat) (s : State) : Result :=
  .next (s.checked h
    ([(count = 0 || 10240 < first + count || 4095 < pamp, .invalidField), (!s.holdsElems h.mbx first count, .outOfPartition)]
      ++ s.needsMap)
    (fun s => ((s.presentIn first count).foldl (fun s e => s.setPamp e pamp) s).status h .ok))

/-- LOOP_CONFIG, DEGLITCH (R120). -/
def execLoopConfigDeglitch (h : Hdr) (comp thr : Nat) (s : State) : Result :=
  .next (s.checked h
    [(3 < comp || 63 < thr, .invalidField), (!s.holdsCptElems h.mbx comp, .outOfPartition)]
    (fun s => (s.wr .ust_vdac_ctrl_dgl_thr comp thr).status h .ok))

/-- LOOP_CONFIG, HPWM (R152): H-mode elements only; STAG 0xFF keeps h mod 16. -/
def execLoopConfigHpwm (h : Hdr) (first count per dead minp mpf stag : Nat) (s : State) : Result :=
  .next (s.checked h
    ([(count = 0 || first < 9216 || 10240 < first + count || 1 < mpf || (15 < stag && stag != 0xFF) || 65535 < per
        || per < 2 * dead + minp + 2
        || (s.presentIn first count).any (fun e => (s.erec e).pilotEn && 32000 < per * (s.erec e).pilotK), .invalidField),
     (!s.holdsElems h.mbx first count, .outOfPartition)] ++ s.needsMap)
    (fun s => ((s.presentIn first count).foldl (fun s e =>
      let i := hIdx e
      ((((s.wr .ust_hpwm_cfg_per i per).wr .ust_hpwm_cfg_dead i dead).wr .ust_hpwm_cfg_minp i minp).wr .ust_hpwm_mode_mpf i mpf).wr
        .ust_hpwm_mode_stag i (if stag = 0xFF then i % 16 else stag)) s).status h .ok))

/-- LOOP_CONFIG, TRIP (R157, R195): a pulse of source SW. -/
def execLoopConfigTrip (h : Hdr) (comp : Nat) (s : State) : Result :=
  .next (s.checked h
    [(3 < comp, .invalidField), (!s.holdsElems h.mbx (9216 + 256 * comp) 256, .outOfPartition)]
    (fun s => (s.trip comp 16).status h .ok))

/-- LOOP_CONFIG, POWER_CAP (R164): MB0 only. -/
def execLoopConfigPowerCap (h : Hdr) (cap : Nat) (s : State) : Result :=
  .next (s.checked h [(h.mbx != 0, .notPermitted)] (fun s => (s.wr .glb_hcap_cap_prog 0 cap).status h .ok))

/-! ## ELEMENT_STATUS (R198) -/

/-- The STATE that an element shows (R198): of its latest boundary, FENCED in a fenced compartment. -/
def State.shownState (s : State) (e : Nat) : Nat :=
  if s.present e && s.fenced (elemCpt e) then 6 else (s.shownOf e).state

/-- The 32-byte status record of an element, as its latest boundary showed it. -/
def State.statusRecord (s : State) (e : Nat) : List Nat :=
  let x := s.shownOf e
  let u (w : Nat) (v : Int) : List Nat := leBytes (w / 8) (unsigned w v)
  leBytes 2 e ++ [s.shownState e, x.flags] ++ leBytes 4 x.drive ++ u 32 x.integ
    ++ u 32 x.eps ++ u 16 x.sigma ++ u 16 x.quad ++ leBytes 2 x.nv ++ [x.coefSet, 0] ++ leBytes 8 x.since

/-- ELEMENT_STATUS (R198). -/
def execElementStatus (h : Hdr) (first count buf : Nat) (s : State) : Result :=
  .next (s.checked h
    [(count = 0 || 10240 < first + count || s.badBuf h buf 16 (32 * count), .invalidField),
     (!s.holdsElems h.mbx first count, .outOfPartition)]
    (fun s => ((s.entered h).hostWrite h buf ((span first count).flatMap s.statusRecord)).complete h
      { status := .ok, res0 := count }))

end Sys2Proof.Machine
end

