-- ==== Sys2Proof/Machine/Regs.lean ====
section
/-! DEFINITION. Writes of registers that have no row of their own, under their access types (R9, R10, R369, R370), and of BAR2
(R371). -/

namespace Sys2Proof.Machine

/-! ## Fields -/

/-- Fields whose write is a row of its own. -/
def ownRow (f : Fid) : Bool :=
  [Fid.glb_reset_key, .boot_fuse_prog_code, .mbx_sq_db_sq_tail, .mbx_cq_db_cq_head, .mbx_ctrl_en, .mbx_tr_cons_cons,
   .ust_pw_cfg_pw_go, .cal_rot_ctrl_en, .ust_vdac_status_oc, .ust_vdac_ctrl_gtrip, .ust_vdac_cfg_range, .ust_vclr_code,
   .ust_profile_count, .ust_profile_flags, .ust_profile_t2, .ust_profile_t3, .ust_profile_t4, .ust_profile_a1,
   .ust_profile_a2, .ust_profile_a3].contains f ||
  [Fid.ust_hpwm_status_oc, .ust_hpwm_status_leak, .ust_htrip_trip, .ust_htrip_swtrip, .ust_hpwm_mode_src,
   .ust_hpwm_mode_pcommit, .stx_coef_ctrl_commit, .dtm_ctrl_restep, .dtm_ctrl_p_dom, .dtm_trig_start_subns,
   .dtm_trig_start_ns, .dtm_trig_start_sec, .chp_prbs_cfg_gen, .chp_prbs_cfg_chk, .chp_prbs_cfg_inj_one,
   .chp_prbs_cfg_inj_fcs, .chs_port_cfg_commit, .chs_port_cfg_clr, .flt_err_ack, .flt_inj_arm].contains f

/-- The parameter of R429 that an RWP field shows, and the index of its register as the parameter's. -/
def rwpCode (f : Fid) : Nat :=
  match f with
  | .fbk_pair_cfg_in_mode => 1 | .fbk_pair_cfg_filt => 2 | .fbk_pair_cfg_disc => 3 | .fbk_pair_cfg_edm_out => 4
  | .fbk_pair_cfg_edm_t => 5 | .fbk_out_cfg_out_en => 6 | .fbk_out_cfg_out_src => 7 | .fbk_out_cfg_restart => 8
  | .fbk_out_cfg_apr_cpt => 9 | .fbk_apr_cfg_na_assert => 10 | .fbk_src_cfg_dark => 11 | .fbk_src_cfg_heat => 12
  | _ => 13

/-- Whether an RWP field takes a value: within R429, and 3 for APR_DARK, which acts as 0. -/
def rwpOk (f : Fid) (i v : Nat) : Bool := fbkParamOk (rwpCode f) i v || (f == .fbk_apr_cfg_apr_dark && v == 3)

/-- What a write finds in a field: the field, and the mask and the value of the bits that it names, counted from the field's
lowest. -/
structure FieldWrite where
  f : Fid
  mask : Nat
  val : Nat
  deriving DecidableEq, Repr

/-- The field with the named bits replaced. -/
def FieldWrite.merge (w : FieldWrite) (old : Nat) : Nat := (old - (old &&& w.mask)) + (w.val &&& w.mask)

/-- Whether the mailbox of a ring register or a queue register has EN set, so that its bases and sizes are not writable (R373). -/
def State.mbxLocked (s : State) (f : Fid) (i v : Nat) : Bool :=
  ((f == .mbx_sq_base_base || f == .mbx_cq_base_base || f == .mbx_qcfg_sq_log || f == .mbx_qcfg_cq_log) && s.bit .mbx_ctrl_en i)
    || ((f == .mbx_qcfg_sq_log || f == .mbx_qcfg_cq_log) && !(4 ≤ v && v ≤ 16))

/-- A write of one field under its access type (R9): the machine, and whether the write was accepted; a field of the selected
element's window acts on the element (STX_ELEM_CFG). -/
def State.storeField (s : State) (off i : Nat) (w : FieldWrite) : State × Bool :=
  let v := w.merge (s.rd w.f i)
  match w.f.accessAt i with
  | .rw => if s.mbxLocked w.f i v then (s, true) else (s.wr w.f i v, true)
  | .rws => (s.wr w.f i v, true)
  | .w1c => (s.wr w.f i (s.rd w.f i - (s.rd w.f i &&& (w.val &&& w.mask))), true)
  | .rwe =>
    if !s.covers off w.f i then (s, false)
    else
      let e := s.rd .stx_elem_idx_elem 0
      match w.f with
      | .stx_elem_cfg_coef_set =>
        if e < 10240 then (s.modEl e (fun x => { x with coefSet := w.merge x.coefSet }), true) else (s, true)
      | .stx_elem_cfg_sigma_sp =>
        if 10240 ≤ e ∨ (s.erec e).isCell ∨ s.outerFeeds e then (s, false)
        else (s.modEl e (fun x => { x with ssp := some (signed 16 (w.merge (unsigned 16 (s.sspOf e)))) }), true)
      | .flt_policy_react => if policyBreaks i v then (s, false) else (s.wr w.f i v, true)
      | f => (s.wr f i v, true)
  | .rwp =>
    if s.fbk.session ∧ rwpOk w.f i v then
      ((s.modFbk (fun b => { b with staged := fbkPut b.staged (rwpCode w.f) i v })).showCfg, true)
    else (s, false)
  | _ => (s, true)

/-- Every field that a write names and that has no row of its own, stored; answers the fields accepted. One register's discards
are one record. -/
def State.storeAll (s : State) (off i : Nat) (ws : List FieldWrite) : State × List Fid :=
  let r := ws.foldl (fun (acc : State × List Fid × Bool) w =>
    let (t, ok) := acc.1.storeField off i w
    (t, if ok then acc.2.1 ++ [w.f] else acc.2.1, acc.2.2 || !ok)) (s, [], false)
  (if r.2.2 then r.1.noteDiscard off else r.1, r.2.1)

/-! ## What a write brings about -/

/-- The vector of a block raised where EVENT_EN now enables a bit of EVENT that was not enabled before. -/
def State.raiseEnabled (s old : State) (ev en : Fid) (i vector : Nat) : State :=
  if s.rd ev i &&& (s.rd en i) != 0 && old.rd ev i &&& (old.rd en i) == 0 then s.emit (.msix 0 vector) else s

/-- PSEL and WSEL written (R195, R196): a WSEL of 3, a change while one waits, and one that fails R195 are discarded; another
waits for its boundary. -/
def State.cptCfgWritten (s old : State) (off n : Nat) : State :=
  let p := s.rd .stx_cpt_cfg_psel n
  let w := if s.rd .stx_cpt_cfg_wsel n = 3 then old.rd .stx_cpt_cfg_wsel n else s.rd .stx_cpt_cfg_wsel n
  let t := (s.wr .stx_cpt_cfg_psel n (old.rd .stx_cpt_cfg_psel n)).wr .stx_cpt_cfg_wsel n (old.rd .stx_cpt_cfg_wsel n)
  let bad := s.rd .stx_cpt_cfg_wsel n == 3 || (s.cpt n).change.isSome || !s.fitsLoop n (periodOf p) (windowOf w)
  if p = old.rd .stx_cpt_cfg_psel n ∧ s.rd .stx_cpt_cfg_wsel n = old.rd .stx_cpt_cfg_wsel n then t
  else if (s.cpt n).change.isSome ∨ !s.fitsLoop n (periodOf p) (windowOf w) then t.noteDiscard off
  else
    let t1 := if bad then t.noteDiscard off else t
    if p = old.rd .stx_cpt_cfg_psel n ∧ w = old.rd .stx_cpt_cfg_wsel n then t1 else t1.askChange n p w none

/-- EN of an outer loop written (R214, R215). -/
def State.outCfgWritten (s old : State) (off p : Nat) : State :=
  let en := s.bit .stx_out_cfg_en p
  let t := s.wrBit .stx_out_cfg_en p (old.bit .stx_out_cfg_en p)
  if en = old.bit .stx_out_cfg_en p then t
  else if s.badPort p ∨ s.fenced (elemCpt (s.outRec p).gate) then t.noteDiscard off
  else t.outerOn p en

/-- A counter that is cleared when its flag is (UST_PW_STATUS, STX_CPT_STATUS, STX_SUP_STATUS, DTM_TSQ_STATUS,
DTM_TRIG_CFG, MBX_TR_STATUS, GLB_BATON_STATUS). -/
def State.clearWith (s old : State) (flag count : Fid) (i : Nat) : State :=
  if old.bit flag i && !s.bit flag i then s.wr count i 0 else s

/-- MODE of a TRIG pin written (R312, R313, R317): a mode that R317 refuses, or an EDGE of 0, is discarded; an output mode puts START
in force. -/
def State.trigCfgWritten (s old : State) (off pin : Nat) : State :=
  let m := s.rd .dtm_trig_cfg_mode pin
  let was := old.rd .dtm_trig_cfg_mode pin
  let start := ticksOf ⟨s.rd .dtm_trig_start_sec pin, s.rd .dtm_trig_start_ns pin, s.rd .dtm_trig_start_subns pin⟩
  let s0 := s.clearWith old .dtm_trig_cfg_ovf .dtm_trig_cfg_ovf_cnt pin
  let s1 := if s.rd .dtm_trig_cfg_edge pin = 0 then
      (s0.wr .dtm_trig_cfg_edge pin (old.rd .dtm_trig_cfg_edge pin)).noteDiscard off else s0
  if m = was then s1
  else if 4 < m ∨ widthBad m (s.rd .dtm_trig_pw_period pin) (s.rd .dtm_trig_pw_width pin) ∨ (was = 1 ∧ s.pinNamed pin)
      ∨ ((m = 2 ∨ m = 3) ∧ !s.locked) then
    (s1.wr .dtm_trig_cfg_mode pin was).noteDiscard off
  else if m = 2 ∨ m = 3 then s1.setStart pin start
  else s1.modTrig pin (fun x => { x with start := start, pulses := 0, armed := false })

/-- The sources of Datum's domains written (R292, R304). -/
def State.dtmCtrlWritten (s old : State) : State :=
  let ch (d : Nat) (port : Fid) : Bool :=
    s.srcOf d != old.srcOf d || (s.srcOf d == 1 && s.rd port 0 != old.rd port 0)
  let s1 := if ch 0 .dtm_ctrl_port0 then s.resource 0 else s
  let s2 := if ch 1 .dtm_ctrl_port1 then s1.resource 1 else s1
  s2.showPtpRoles

/-- A time register written with NS above 999,999,999 keeps its old value (R288). -/
def State.changeWritten (s old : State) (off p : Nat) : State :=
  if s.rd .chs_change_ns p ≤ 999999999 then s
  else (((s.wr .chs_change_ns p (old.rd .chs_change_ns p)).wr .chs_change_sec p (old.rd .chs_change_sec p)).wr .chs_change_subns p
    (old.rd .chs_change_subns p)).noteDiscard off

/-- RANGE of a monitor written (R76). -/
def State.monCfgWritten (s old : State) (m : Nat) : State :=
  (s.wr .ust_mon_cfg_range m (old.rd .ust_mon_cfg_range m)).wantRange m (s.rd .ust_mon_cfg_range m)

/-- LEN and MODE of a precision window written (R83, R86, R89). -/
def State.pwCfgWritten (s old : State) (m : Nat) : State :=
  let len := s.rd .ust_pw_cfg_len m
  let mode := s.rd .ust_pw_cfg_mode m
  let t := (s.wr .ust_pw_cfg_len m (old.rd .ust_pw_cfg_len m)).wr .ust_pw_cfg_mode m (old.rd .ust_pw_cfg_mode m)
  let t1 := if len = old.rd .ust_pw_cfg_len m then t else t.setPwLen m len
  if mode = old.rd .ust_pw_cfg_mode m then t1 else t1.setPwMode m mode

/-- A shadow register of a channel in DIRECT mode written under auto commit (R155): it transfers at a later period boundary. -/
def State.shadowWritten (s : State) (h : Nat) (regs : List Nat) : State :=
  if s.bit .ust_hpwm_mode_src h ∧ s.bit .ust_hpwm_mode_auto h then
    s.modHc (9216 + h) (fun c => { c with due := c.due ++ regs.filter (fun r => !c.due.contains r) })
  else s

/-- What the accepted writes of a register bring about beside the stored values; `old` is the machine before. -/
def State.written (s old : State) (off i : Nat) (acc : List Fid) : State :=
  let has (f : Fid) : Bool := acc.contains f
  if has .stx_cpt_cfg_psel || has .stx_cpt_cfg_wsel then s.cptCfgWritten old off i
  else if has .stx_out_cfg_en then s.outCfgWritten old off i
  else if has .dtm_trig_cfg_mode || has .dtm_trig_cfg_edge then s.trigCfgWritten old off i
  else if has .dtm_ctrl_src0 || has .dtm_ctrl_src1 then s.dtmCtrlWritten old
  else if has .chs_change_subns || has .chs_change_ns || has .chs_change_sec then s.changeWritten old off i
  else if has .ust_mon_cfg_range then s.monCfgWritten old i
  else if has .ust_pw_cfg_len || has .ust_pw_cfg_mode then s.pwCfgWritten old i
  else if has .ust_mon_cmp_low_na || has .ust_mon_cmp_high_na then s.disarm i
  else if has .ust_pw_status_overrun then s.clearWith old .ust_pw_status_overrun .ust_pw_status_ovr_cnt i
  else if has .ust_hpwm_shper_per_sh then s.shadowWritten i [0]
  else if has .ust_hpwm_shcmp_a_sh || has .ust_hpwm_shcmp_b_sh then s.shadowWritten i [1, 2]
  else if has .chp_cfg_en || has .chp_cfg_fec then
    ((s.wr .chp_cfg_en i (old.rd .chp_cfg_en i)).wr .chp_cfg_fec i (old.rd .chp_cfg_fec i)).setPortCfg i (s.rd .chp_cfg_en i)
      (s.rd .chp_cfg_fec i)
  else if has .chs_port_cfg_ovh then s.showBound i
  else if has .chs_cbs_idleslope then s.takeShapers (i / 4)
  else if has .chs_pol_cfg_en || has .chs_pol_rate_rate then
    s.policeChanged i (old.bit .chs_pol_cfg_en i) (old.bit .chs_pol_cfg_mode i)
  else if has .flt_err_force then s.driveErr
  else if has .cal_ecal_sched_interval then s.showOverdue i
  else if has .stx_cpt_status_ovr then s.clearWith old .stx_cpt_status_ovr .stx_cpt_status_ovr_cnt i
  else if has .stx_sup_status_new then s.clearWith old .stx_sup_status_new .stx_sup_status_sus_cnt i
  else if has .mbx_tr_status_ring_err then s.clearWith old .mbx_tr_status_ring_err .mbx_tr_status_tr_rej i
  else if has .glb_baton_status_new then s.clearWith old .glb_baton_status_new .glb_baton_status_stale_drop i
  else if has .dtm_trig_cfg_ovf then s.clearWith old .dtm_trig_cfg_ovf .dtm_trig_cfg_ovf_cnt i
  else if has .dtm_tsq_status_ovf then s.clearWith old .dtm_tsq_status_ovf .dtm_tsq_status_ovf_cnt i
  else if has .trv_fail_new ∧ old.bit .trv_fail_new i ∧ !s.bit .trv_fail_new i then
    (s.wr .trv_fail_blocked i 0).wr .trv_fail_cancelled i 0
  else if has .dtm_event_event_en then s.raiseEnabled old .dtm_event_event .dtm_event_event_en 0 10
  else if has .chp_event_event_en then s.raiseEnabled old .chp_event_event .chp_event_event_en i (12 + i)
  else if has .fbk_event_event_en then s.raiseEnabled old .fbk_event_event .fbk_event_event_en 0 9
  else if has .hkp_event_event_en then s.raiseEnabled old .hkp_event_event .hkp_event_event_en 0 11
  else s

/-! ## Accesses (R369) -/

/-- The fields of a register that `w` bits from bit `b` touch, rows of their own apart. -/
def touched (r : RegDef) (b w v : Nat) : List FieldWrite :=
  (r.fields.filter (fun q => b < q.lo + q.w && q.lo < b + w && !ownRow q.fid)).map (fun q =>
    let lo := max b q.lo
    let hi := min (b + w) (q.lo + q.w)
    let m := (2 ^ (hi - lo) - 1) * 2 ^ (lo - q.lo)
    { f := q.fid, mask := m, val := v / 2 ^ (lo - b) * 2 ^ (lo - q.lo) % 2 ^ q.w })

/-- `w` bits written from bit `b` of a register. -/
def State.writeBits (s : State) (r : RegDef) (i off b w v : Nat) : State :=
  let t := s.storeAll off i (touched r b w v)
  t.1.written s off i t.2

/-- The low half of a 64-bit register that awaits its high half. -/
def State.putLow (s : State) (off : Nat) (v : Option Nat) : State :=
  { s with host := { s.host with lows := Tbl.set none s.host.lows off v } }

/-- A 32-bit write (R369): the low half of a 64-bit register is held, and its high half takes both into effect; in a wider register
each word acts by itself (DEDUCED). Unassigned offsets discard it (R12). -/
def State.write32 (s : State) (off v : Nat) : State :=
  match regAt off with
  | none => s
  | some (r, i, b) =>
    if r.width = 64 then
      if b = 0 then s.putLow off (some v)
      else match Tbl.get none s.host.lows (off - b) with
        | some lo => (s.putLow (off - b) none).writeBits r i (off - b) 0 64 (lo + v * 2 ^ 32)
        | none => s.writeBits r i (off - b) 32 32 v
    else s.writeBits r i (off - b) (8 * b) 32 v

/-- A 64-bit write: of a 64-bit register at once, otherwise of two words, the low one first. -/
def State.write64 (s : State) (off v : Nat) : State :=
  match regAt off with
  | some (r, i, 0) =>
    if r.width = 64 then (s.putLow off none).writeBits r i off 0 64 v
    else (s.write32 off (v % 2 ^ 32)).write32 (off + 4) (v / 2 ^ 32)
  | _ => (s.write32 off (v % 2 ^ 32)).write32 (off + 4) (v / 2 ^ 32)

/-- The PF BAR0 offset that a function's BAR0 offset means, where it may write there (R368, R369): a VF reaches its mailbox page only,
and the PF's pages 1 to 7 are read-only images. -/
def pfOffset (fn off : Nat) : Option Nat :=
  if fn = 0 then (if 0x11000 ≤ off ∧ off < 0x18000 then none else some off)
  else if off < 0x1000 then some (0x10000 + 0x1000 * fn + off) else none

/-- A write of another width or alignment is discarded (R369); one that meets an RWE or RWP register is recorded (R10). -/
def State.discardAccess (s : State) (off : Nat) : State :=
  match regAt off with
  | some (r, i, b) =>
    if r.fields.any (fun q => q.fid.accessAt i == .rwe || q.fid.accessAt i == .rwp) then s.noteDiscard (off - b) else s
  | none => s

/-- REGISTER_WRITE (R9 to R12, R369, R370): a write of 32 or 64 bits, naturally aligned, at an offset of a function's BAR0; any other
is discarded. -/
def execRegisterWrite (fn : Fin 8) (off width v : Nat) (s : State) : Result :=
  .next (match pfOffset fn off with
    | none => s
    | some o =>
      if !(width = 32 ∧ off % 4 = 0 ∨ width = 64 ∧ off % 8 = 0) then s.discardAccess o
      else if width = 32 then s.write32 o v
      else s.write64 o v)

/-- A word written into a slot of the state library through BAR2. -/
def State.slotWord (s : State) (off v : Nat) : State :=
  let k := off / 2048
  let x := s.slot k
  s.putSlot k { x with perm := Tbl.set 0 x.perm (off % 2048 / 4) v }

/-- Whether BAR2 is open (R371): an unlock of MB0 of the whole device or of Traverse is in force. -/
def State.bar2Open (s : State) : Bool := s.unlockedBy 0 2 0 || s.unlockedBy 0 1 0x06

/-- BAR2_WRITE (R371): a write of 32 or 64 bits, naturally aligned, into the state library, under an unlock of MB0 of the whole
device or of Traverse; the slot's GEN rises, which makes its cached vector stale; no flash copy changes. Any other is
discarded. -/
def execBar2Write (off width v : Nat) (s : State) : Result :=
  let k := off / 2048
  .next (if !(width = 32 ∧ off % 4 = 0 ∨ width = 64 ∧ off % 8 = 0) ∨ 8388608 ≤ off ∨ !s.bar2Open then s
  else
    let s1 := s.slotWord off (v % 2 ^ 32)
    let s2 := if width = 64 then s1.slotWord (off + 4) (v / 2 ^ 32) else s1
    let x := s2.slot k
    s2.putSlot k { x with gen := (x.gen + 1) % 2 ^ 32 })

end Sys2Proof.Machine
end

