-- ==== Sys2Proof/Machine/Reads.lean ====
section
/-! DEFINITION. What a read answers (R9, R12, R369 to R371): of a function's BAR0, of the PF's BAR2. No row of the table reads
a plain register; the reads that act, of DTM_TIME, DTM_TSQ_POP and DTM_TRIG_TS, are rows. -/

namespace Sys2Proof.Machine

/-! ## The values that a register shows at a read -/

/-- The element of the window with what its latest boundary showed, none above 10,239 (STX_ELEM_IDX). -/
def State.shownSel (s : State) : Option (Nat × Shown) :=
  let e := s.rd .stx_elem_idx_elem 0
  if e < 10240 then some (e, s.shownOf e) else none

/-- A field of the element window (STX_ELEM_STATE to STX_ELEM_UOPT); none for any other field. -/
def State.windowField (s : State) (f : Fid) : Option Nat :=
  let show1 (g : Nat → Shown → Nat) : Option Nat :=
    match s.shownSel with
    | some (e, x) => some (g e x)
    | none => some 0
  let flag (k : Nat) : Option Nat := show1 (fun _ x => bit01 (x.flags.testBit k))
  match f with
  | .stx_elem_state_state => show1 (fun e _ => s.shownState e)
  | .stx_elem_state_tgt => flag 0
  | .stx_elem_state_sat_hi => flag 1
  | .stx_elem_state_sat_lo => flag 2
  | .stx_elem_state_gap => flag 3
  | .stx_elem_state_pilot_on => flag 4
  | .stx_elem_state_coef_set => show1 (fun _ x => x.coefSet)
  | .stx_elem_state_nv => show1 (fun _ x => x.nv)
  | .stx_elem_drive_drive => show1 (fun _ x => x.drive)
  | .stx_elem_integ_integ => show1 (fun _ x => unsigned 32 x.integ)
  | .stx_elem_eps_eps => show1 (fun _ x => unsigned 24 x.eps)
  | .stx_elem_cfg_coef_set => show1 (fun e _ => (s.el e).coefSet)
  | .stx_elem_cfg_sigma_sp => show1 (fun e _ => unsigned 16 (s.sspOf e))
  | .stx_elem_sup_cnt => show1 (fun _ x => x.supCnt)
  | .stx_elem_sup_checks => show1 (fun _ x => x.supChecks)
  | .stx_elem_sup_dark => show1 (fun _ x => bit01 x.supDark)
  | .stx_elem_sup_excused => show1 (fun _ x => bit01 x.supExcused)
  | .stx_elem_uopt_uopt => show1 (fun _ x => unsigned 32 x.uopt)
  | _ => none

/-- The current value of a field (R9): the element window shows the selected element, UST_MON_RESULT the latest frame result
word, CHS_CBS and CHS_QSTAT the present credit and head-of-line time; any other field what it holds. A write-only field
holds nothing and reads 0. -/
def State.fieldNow (s : State) (f : Fid) (i : Nat) : Nat :=
  match s.windowField f with
  | some v => v
  | none =>
    match f with
    | .ust_mon_result_word =>
      match s.loop.hist with
      | r :: _ => s.resultWord r i
      | [] => 0
    | .chs_cbs_credit => (s.accrue (i / 4) (s.nowNs * 100)).rd .chs_cbs_credit i
    | .chs_qstat_hol => s.holOf (i / 8) (i % 8) (s.nowNs * 100)
    | f => if f.access == .wo then 0 else s.rd f i

/-- The word that a read of a register answers; reserved bits are 0 (R12). -/
def State.wordNow (s : State) (r : RegDef) (i : Nat) : Nat :=
  (r.fields.map (fun q => s.fieldNow q.fid i % 2 ^ q.w * 2 ^ q.lo)).sum

/-! ## BAR0 (R12, R368, R369) -/

/-- The dword at an offset of PF BAR0 that is a multiple of 4; an unassigned offset reads 0 (R12), and so does every register of
Firebreak, at 0x9_0000, while its link is lost. -/
def State.dwordAt (s : State) (off : Nat) : Nat :=
  if off / 0x10000 = 9 ∧ s.fbk.link = false then 0 else
  match regAt off with
  | none => 0
  | some (r, i, b) => s.wordNow r i / 2 ^ (8 * b) % 2 ^ 32

/-- The PF BAR0 offset that a function's BAR0 offset means for a read (R369): the PF also reads the images of the VF pages, and a VF
its mailbox page. -/
def readOffset (fn off : Nat) : Option Nat :=
  if fn = 0 then some off else if off < 0x1000 then some (0x10000 + 0x1000 * fn + off) else none

/-- What a read of an access width answers from the dwords at multiples of 4 (R369): 64 bits, naturally aligned, two of them; any
other read the containing dword. -/
def readWith (dword : Nat → Nat) (off width : Nat) : Nat :=
  if width = 64 ∧ off % 8 = 0 then dword off + dword (off + 4) * 2 ^ 32 else dword (off - off % 4)

/-- A read of a function's BAR0. -/
def State.bar0Read (s : State) (fn off width : Nat) : Nat :=
  match readOffset fn (off - off % 4) with
  | none => 0
  | some o => readWith s.dwordAt (o + off % 4) width

/-! ## BAR2 (R371) -/

/-- The dword at offset `o` of a byte string; 0 beyond it. -/
def dwordIn (bs : List Nat) (o : Nat) : Nat := leNat ((bs.drop o).take 4)

/-- The bytes of the element map in force: those of the active slot (R64). -/
def State.mapBytes (s : State) : List Nat :=
  if s.map.force.isNone then [] else (if s.map.activeB then s.map.slotB else s.map.slotA).getD []

/-- The 576 bytes of a slot's cached vector (R232, R243); zero where none is cached. -/
def State.cacheBytes (s : State) (k : Nat) : List Nat :=
  match (s.slot k).cache with
  | some c => s.theMap.vector k c.gen c.crc false c.sol
  | none => []

/-- The dword at a BAR2 offset that is a multiple of 4: the state library, the cell-vector cache, the element map, the
calibration records; any other offset is unassigned and reads 0. -/
def State.bar2Dword (s : State) (off : Nat) : Nat :=
  if off < 0x800000 then Tbl.get 0 (s.slot (off / 2048)).perm (off % 2048 / 4)
  else if off < 0x800000 + 4096 * 576 then dwordIn (s.cacheBytes ((off - 0x800000) / 576)) ((off - 0x800000) % 576)
  else if 0x1000000 ≤ off ∧ off < 0x1100000 then dwordIn s.mapBytes (off - 0x1000000)
  else if 0x1100000 ≤ off ∧ off < 0x1100000 + 10240 * 64 then
    dwordIn ((s.calRec ((off - 0x1100000) / 64)).bytes ((off - 0x1100000) / 64)) ((off - 0x1100000) % 64)
  else 0

/-- A read of the PF's BAR2: 0 without an unlock of the whole device or of Traverse. -/
def State.bar2Read (s : State) (off width : Nat) : Nat :=
  if s.bar2Open then readWith s.bar2Dword off width else 0

end Sys2Proof.Machine
end

