-- ==== Sys2Proof/Machine/Traverse.lean ====
section
/-! DEFINITION. The commands and events of Traverse (file 08). -/

namespace Sys2Proof.Machine

/-! ## The state library (R241 to R246) -/

/-- What refuses a command that needs the map (R65, R67, R242): BUSY while a map is being activated, NOT_PERMITTED without one. -/
def State.mapGate (s : State) : List (Bool × Status) := [(s.mapAway, .busy), (s.noTrv, .notPermitted)]

/-- The permutation that a STATE_WRITE leaves in a slot. -/
def State.writtenPerm (s : State) (slot first count clear : Nat) (entries : List Nat) : Perm :=
  Perm.write (if clear = 1 then [] else (s.slot slot).perm) first (entries.take count)

/-- A slot written (R243, R244): GEN advances, the cached vector is stale, and the flash copy follows PERSIST. -/
def State.storeSlot (s : State) (k : Nat) (q : Perm) (persist : Bool) : State :=
  let v : Slot := { perm := q, valid := true, persist := persist, gen := ((s.slot k).gen + 1) % 2 ^ 32, cache := none }
  (s.putSlot k v).modTrv (fun t => { t with flash := Tbl.set {} t.flash k (if persist then v else {}) })

/-- The start-up slot as TRV_BOOT shows it, a change of it measured (R245, R475). -/
def State.showBoot (s : State) (b : Option Nat) : State :=
  let s1 := (s.wr .trv_boot_slot 0 (b.getD 0)).wrBit .trv_boot_en 0 b.isSome
  if s.trv.boot = b then s1 else (s1.modTrv (fun t => { t with boot := b })).extendProfs

/-- The start-up slot set or cleared (R245). -/
def State.setBoot (s : State) (k boot : Nat) : State :=
  match boot with
  | 1 => s.showBoot (some k)
  | 2 => s.showBoot none
  | _ => s

/-- STATE_WRITE (R246): entries of a slot written, with its flash copy and the start-up setting; a flash write refused for
temperature changes neither copy (R244). -/
def execStateWrite (h : Hdr) (first count slot clear persist buf boot : Nat) (entries : List Nat) (s : State) : Result :=
  let q := s.writtenPerm slot first count clear entries
  let flash := persist == 1 || (s.slot slot).persist || boot != 0
  .next (s.checked h
    ([(4096 ≤ slot || count < 1 || 512 < first + count || 1 < clear || 1 < persist || 2 < boot || s.badSrc h buf 4 (4 * count)
        || s.permBad q, .invalidField),
      (!s.holdsSlot h.mbx slot, .outOfPartition)] ++ s.mapGate)
    (fun s => if flash && s.flashRefused then s.countRefused.status h .tempInhibit
      else ((s.storeSlot slot q (persist == 1)).setBoot slot boot).status h .ok))

/-- STATE_READ (R246): entries of a valid slot copied to BUF. -/
def execStateRead (h : Hdr) (first count slot buf : Nat) (s : State) : Result :=
  .next (s.checked h
    ([(4096 ≤ slot || count < 1 || 512 < first + count || s.badBuf h buf 4 (4 * count), .invalidField),
      (!s.holdsSlot h.mbx slot, .outOfPartition), (s.map.force.isSome && s.noTrv, .notPermitted),
      (!(s.slot slot).valid, .notFound)])
    (fun s => (s.hostWrite h buf ((span first count).flatMap (fun p => leBytes 4 (Tbl.get 0 (s.slot slot).perm p)))).status h
      .ok))

/-! ## Solves (R235, R247) -/

/-- Whether SRC, MODE, SLOT, MAX_DIST or a buffer of a solve is invalid (R246, R248); `align` is the alignment asked of RPT. -/
def State.solveBad (s : State) (h : Hdr) (src mode slot maxDist buf rpt align : Nat) : Bool :=
  1 < src || 1 < mode || 4096 ≤ slot || (512 < maxDist && maxDist != 0xFFFF) || (src == 1 && s.badSrc h buf 4 2048)
    || (rpt != 0 && s.badBuf h rpt align 16)

/-- The permutation that a command solves: a slot's, or the inline one. -/
def State.asked (s : State) (src slot : Nat) (entries : List Nat) : Perm :=
  if src = 0 then (s.slot slot).perm else Perm.write [] 0 (entries.take 512)

/-- ROUTE_SOLVE (R247): checked, its solve waits in admission order. -/
def execRouteSolve (h : Hdr) (src mode slot maxDist buf rpt vec : Nat) (entries : List Nat) (s : State) : Result :=
  let q := s.asked src slot entries
  .next (s.checked h
    ([(s.solveBad h src mode slot maxDist buf rpt 16 || (vec != 0 && s.badBuf h vec 16 576) || (src == 1 && s.permBad q),
        .invalidField),
      (src == 0 && !s.holdsSlot h.mbx slot, .outOfPartition)] ++ s.mapGate ++
      [(src == 0 && !(s.slot slot).valid, .notFound), (src == 0 && s.permBad (s.slot slot).perm, .invalidField)])
    (fun s =>
      let a := s.entered h
      let j : Job := {
        h := h, owner := some (a.ownerOf h), commit := false, slot := if src = 0 then slot else 0xFFFF
        gen := (s.slot slot).gen, perm := q, mind := mode == 1, maxDist := maxDist, rpt := rpt, vec := vec }
      (a.modTrv (fun t => { t with waiting := t.waiting ++ [j] })).showQueue))

/-- SOLVE_START (R235): with no solve running, the solve first admitted starts. -/
def execSolveStart (s : State) : Result :=
  .next (match s.trv.running, s.trv.waiting with
  | none, j :: r => (s.modTrv (fun t => { t with running := some j, waiting := r })).showQueue
  | _, _ => s)

/-- A plain solve of a slot is cached with the generation solved, unless a minimum-disturbance solve made it (R243, R247); a
tenant's commit is always such a solve (R251). -/
def State.cacheSolve (s : State) (j : Job) (v : Solution) : State :=
  if j.slot = 0xFFFF ∨ (if j.commit then j.depends else j.mind) = true ∨ (s.slot j.slot).gen ≠ j.gen then s
  else s.putSlot j.slot { s.slot j.slot with cache := some { sol := v, gen := j.gen, serial := s.theMap.serial, crc := j.perm.crc } }

/-- The report of a solve written where one is asked for (R240), also of a blocked one. -/
def State.writeReport (s : State) (j : Job) (old : Fabric) (q : Perm) (v : Solution) : State :=
  if j.rpt = 0 then s else s.hostWrite j.h j.rpt (reportBytes old.perm q q.crc v)

/-- A ROUTE_SOLVE whose solve has ended completes (R247, R390). -/
def State.routeDone (s : State) (j : Job) (v : Solution) : State :=
  let s1 := s.writeReport j s.trv.force j.perm v
  let s2 := if j.vec = 0 ∨ v.result ≠ 0 then s1
    else s1.hostWrite j.h j.vec (s.theMap.vector j.slot j.gen j.perm.crc j.mind v)
  let s3 := if v.result = 0 then s2 else s2.countBlocked
  s3.finishOpt j.owner { status := if v.result = 0 then .ok else .solveBlocked, res0 := j.perm.crc
                         res1 := v.disturbed.length, res2 := v.changed }

/-- SOLVE_COMPLETE (R235): the running solve ends; a ROUTE_SOLVE completes, a commit waits to be queued. -/
def execSolveComplete (s : State) : Result :=
  .next (match s.trv.running with
  | none => s
  | some j =>
    let s1 := (s.modTrv (fun t => { t with running := none })).inc .trv_solve_cnt_solves 0
    if j.commit then
      let v := s1.solveJob j (s1.fabAt (s1.jobFrame j))
      ((s1.cacheSolve j v).modTrv (fun t => { t with solved := t.solved ++ [{ j with sol := some v }] })).showQueue
    else
      let v := s1.theMap.solve s1.trv.force j.perm j.mind [] j.maxDist
      ((s1.cacheSolve j v).routeDone j v).showQueue)

/-! ## STATE_COMMIT and the queue (R248 to R252, R258, R260) -/

/-- The Datum time of EXEC; none for 0 (R248). -/
def execOf (t : DTime) : Option Nat := if ticksOf t = 0 then none else some (ticksOf t)

/-- Whether a named EXEC fails R249 at admission: its value out of range, more than 60 s ahead, its point of no return past. -/
def State.execBad (s : State) (t : DTime) : Bool :=
  !timeOk t ||
  match execOf t with
  | none => false
  | some x => s.datum.t + 60 * 1000000000 * tickNs < x || frameAt x ≤ s.frame

/-- The depth of an address: hops from the root (R331, R336). -/
def State.hopsTo (s : State) (a : Nat) : Nat :=
  let d := s.fab.depths
  let mine := d.getD (s.addr - 1) 0
  if a = s.addr then 0 else if s.bit .chp_fab_root 0 then d.getD (a - 1) 0 else mine + d.getD (a - 1) 0

/-- HOPDLY in ns: 0 acts as 1 (TRV_CHAIN). -/
def State.hopDelay (s : State) : Nat := max 1 (s.rd .trv_chain_hopdly 0)

/-- Whether a participant list breaks R258: its count, a slot above 4,095, an address listed twice or not enumerated. -/
def State.partsBad (s : State) (pcount : Nat) (parts : List (Nat × Nat)) : Bool :=
  pcount < 1 || 2000 < pcount || parts.any (fun p => 4096 ≤ p.2 || p.1 = 0 || s.fab.depths.length < p.1)
    || !decide ((parts.map (fun p => p.1)).Nodup)

/-- The largest hop count to a participant, H of R260. -/
def State.maxHops (s : State) (parts : List (Nat × Nat)) : Nat := (parts.map (fun p => s.hopsTo p.1)).foldl max 0

/-- Whether a chain-scoped EXEC lies too soon (R260): less than 10 µs + 2 H HOPDLY after admission; 0 names none. -/
def State.leadBad (s : State) (t : DTime) (parts : List (Nat × Nat)) : Bool :=
  match execOf t with
  | none => true
  | some x => x < s.datum.t + (10000 + 2 * s.maxHops parts * s.hopDelay) * tickNs

/-- A permutation's port outside the partition: an own input port connected to an output port not held (R250, R251). -/
def State.portOut (s : State) (m : Nat) (q : Perm) : Bool :=
  m != 0 && q.inputs.any (fun p => s.holdsIn m p && !s.holdsOut m ((q.out p).getD 0))

/-- A REQUEST for a participant (R259, R260). -/
def requestOf (j : Job) (frame slot : Nat) : ClrMsg := { j.msg 1 frame with slot := slot }

/-- The commit's job is given to the solver, or taken from its slot's cached vector (R243). -/
def State.giveJob (s : State) (j : Job) : State :=
  match (if j.slot = 0xFFFF ∨ j.depends = true then none else s.cachedOf j.slot) with
  | some v => ((s.inc .trv_solve_cnt_hits 0).modTrv (fun t =>
      { t with solved := t.solved ++ [{ j with sol := some v, cached := true }] })).showQueue
  | none => (s.modTrv (fun t => { t with waiting := t.waiting ++ [j] })).showQueue

/-- The commits that wait for a solve, or for the queue, or are being solved, dropped where `p` holds. -/
def State.dropJobs (s : State) (p : Job → Bool) : State :=
  (s.modTrv (fun t => { t with
    waiting := t.waiting.filter (fun j => !(j.commit && p j)), solved := t.solved.filter (fun j => !p j)
    running := t.running.filter (fun j => !(j.commit && p j)) })).showQueue

/-- Whether an element that a job would move lies in a fenced compartment (R250): the row that stands before the lock of Datum P. -/
def State.meetsFence (s : State) (j : Job) : Bool :=
  let frame := s.jobFrame j
  (s.diffOf frame (s.solveJob j (s.fabAt frame)).bits).any (fun e => s.fenced (elemCpt e))

/-- The rows of R250 that a commit's job meets before its solve: its slot, and Datum P out of lock, unless a fence comes first. -/
def State.jobChecks (s : State) (j : Job) : List (Bool × Status) :=
  [(j.slot != 0xFFFF && !(s.slot j.slot).valid, .notFound), (!s.locked && s.meetsFence j, .fenced), (!s.locked, .datumUnlocked)]

/-- A commit that cannot be queued answers its failing status: to its command, to its originator, or in its own list. -/
def State.refuseJob (s : State) (j : Job) (st : Status) : State :=
  match j.origin with
  | some a =>
    if j.remote then s.sendClr a { j.msg 3 (s.jobFrame j) with status := st.code }
    else
      match s.chainOf j.clrId with
      | some x => s.ownRejected x st
      | none => s
  | none => s.finishOpt j.owner { status := st, res0 := j.clrId, res1 := j.ident, cflags := 16 * bit01 (j.slot == 0xFFFF) }

/-- The originator's own part of a chain-scoped Clearing, on the slot that the list names. -/
def State.ownJob (s : State) (j : Job) (slot : Nat) : Job :=
  { j with slot := slot, perm := (s.slot slot).perm, gen := (s.slot slot).gen, origin := some s.addr, owner := none }

/-- A chain-scoped Clearing starts (R260): a REQUEST to each other participant, and this module's own part if it is listed, checked as a
participant's is. -/
def State.startChain (s : State) (j : Job) (frame plist : Nat) (parts : List (Nat × Nat)) : State :=
  let x : ChainClr := {
    job := j, frame := frame, hops := s.maxHops parts, plist := plist
    parts := parts.map (fun p => { addr := p.1, slot := p.2 }) }
  let s1 := s.modTrv (fun t => { t with chains := t.chains ++ [x] })
  let s2 := (parts.filter (fun p => p.1 != s.addr)).foldl (fun s p => s.sendClr p.1 (requestOf j frame p.2)) s1
  match parts.find? (fun p => p.1 == s.addr) with
  | some p =>
    let k := s2.ownJob j p.2
    match firstStatus (s2.jobChecks k) with
    | some st => s2.refuseJob k st
    | none => s2.giveJob k
  | none => s2

/-- The number of the next STATE_COMMIT (R262): the sequence number advances with each, from 1. -/
def State.nextClrId (s : State) : Nat := s.addr * 65536 + (s.trv.seq + 1) % 65536

/-- STATE_COMMIT (R250): its checks up to the solve, in order; then its solve waits, or its cached vector serves it, and for
chain scope the requests go out. Its sequence number advances with each STATE_COMMIT (R262). -/
def execStateCommit (h : Hdr) (src mode scope atomic slot maxDist buf : Nat) (exec : DTime) (pcount rpt plist : Nat)
    (entries : List Nat) (parts : List (Nat × Nat)) (s : State) : Result :=
  let id := s.nextClrId
  let s0 := (s.entered h).modTrv (fun t => { t with seq := (t.seq + 1) % 65536 })
  let q := s.asked src slot entries
  let j : Job := {
    h := h, owner := some (s0.ownerOf h), commit := true, slot := if src = 0 then slot else 0xFFFF
    gen := (s.slot slot).gen, perm := q, mind := mode == 1, maxDist := maxDist, rpt := rpt, exec := execOf exec
    clrId := id, chain := scope == 1, atomic := atomic == 1 }
  let own := (parts.find? (fun p => p.1 == s.addr)).map (fun p => s.ownJob j p.2)
  let refuse : List (Bool × Status) :=
    [(s.solveBad h src mode slot maxDist buf rpt 1 || 1 < scope || 1 < atomic || s.execBad exec
        || (scope == 0 && s.permBad q)
        || (scope == 1 && (s.badBuf h plist 8 (8 * pcount) || s.partsBad pcount parts || s.leadBad exec parts)),
        .invalidField),
     ((scope == 0 && src == 0 && !s.holdsSlot h.mbx slot) || (scope == 0 && s.portOut h.mbx q), .outOfPartition),
     (s.mapAway, .busy), (s.noTrv || (scope == 1 && h.mbx != 0), .notPermitted),
     (scope == 0 && src == 0 && !(s.slot slot).valid, .notFound),
     (scope == 1 && !s.locked && own.any s.meetsFence, .fenced),
     (scope == 1 && !s.locked, .datumUnlocked),
     (scope == 1 && s.bit .dtm_status_step_pend 0, .busy)]
  .next (match firstStatus refuse with
  | some st => s0.refuseJob j st
  | none => if scope = 1 then (s0.startChain j (frameAt (ticksOf exec)) plist parts).effect (s0.ownerOf h) else s0.giveJob j)

/-- A Clearing put into the queue in order of its frame. -/
def insertClr (c : Clearing) : List Clearing → List Clearing
  | [] => [c]
  | x :: r => if c.frame < x.frame then c :: x :: r else x :: insertClr c r

/-- What the solve lets a commit meet, in the order of R250. -/
def State.queueChecks (s : State) (j : Job) (frame : Nat) (v : Solution) (diff : List Nat) : List (Bool × Status) :=
  [(s.noTrv, .notPermitted), (frame ≤ s.frame, .invalidField),
   (diff.any (fun e => !s.holdsElem j.h.mbx e), .outOfPartition),
   (diff.any (fun e => s.fenced (elemCpt e)), .fenced),
   ((j.exec.isSome || j.chain) && !s.locked, .datumUnlocked),
   (v.result != 0, .solveBlocked),
   (64 ≤ s.trv.queue.length || s.trv.queue.any (fun c => c.frame == frame) || s.bit .dtm_status_step_pend 0, .busy)]

/-- A Clearing that passes its checks is queued (R252, R384): later ones are formed again, an ACCEPT goes to its originator, and
sweeps of elements that now carry a circuit are abandoned (R222). -/
def State.enqueueClr (s : State) (c : Clearing) : State :=
  let s1 := (s.modTrv (fun t => { t with queue := insertClr c t.queue })).recompute (s.behind c.frame)
  let s2 := match c.job.owner with
    | some o => s1.effect o
    | none => s1
  let s3 := match c.job.origin with
    | some a =>
      if a = s.addr then
        match s2.chainOf c.job.clrId with
        | some x => s2.chainTry (x.setPart a (fun p => { p with accepted := true }))
        | none => s2
      else s2.sendClr a (c.reply 2 .ok false)
    | none => s2
  (s3.abandonSweeps (fun e => s3.carriesIn c.fab e) false).showQueue

/-- CLEARING_QUEUE (R252): the solved commit next in line is queued, or refused by the checks that need its solve (R250); while
the holder is FROZEN it is cancelled for want of a Stand (R272). -/
def execClearingQueue (s : State) : Result :=
  .next (match s.trv.solved with
  | [] => s
  | j :: r =>
    let s1 := s.modTrv (fun t => { t with solved := r })
    let frame := s1.jobFrame j
    let base := s1.fabAt frame
    let q := s1.mergedPerm j.h j.perm base
    let v := s1.solveJob j base
    let diff := s1.diffOf frame v.bits
    if s1.permBad q then s1.refuseJob j .invalidField
    else
      let s2 := s1.writeReport j base q v
      let c : Clearing := {
        job := j, fab := ⟨q, v.bits⟩, sol := v, crc := q.crc, frame := frame, locked := s.locked, diff := diff }
      match firstStatus (s2.queueChecks j frame v diff) with
      | some st => (if st = .solveBlocked then s2.countBlocked else s2).refuseJob j st
      | none =>
        if s2.bit .glb_baton_status_frozen 0 then
          (s2.noteClr c 3).finishOpt j.owner (c.completion .internal 3 false)
        else s2.enqueueClr c)

/-! ## Abort and query (R257, R264) -/

/-- A Clearing that a mailbox may abort (R257): its own, and for MB0 any, a part of another module's too. -/
def ownClr (m id : Nat) (c : Clearing) : Bool := c.job.clrId == id && (m == 0 || c.job.h.mbx == m)

/-- A chain-scoped Clearing is aborted at its originator (R257, R260): ABORT to all, its own part cancelled, and completed. -/
def State.abortChain (s : State) (x : ChainClr) (st : Status) (disp : Nat) : State :=
  let s2 := (s.sendAborts x).finishChain x st disp
  match s2.trv.queue.find? (fun c => c.job.clrId == x.job.clrId) with
  | some c => s2.cancelAnd c .ok 1
  | none => s2.dropJobs (fun j => j.clrId == x.job.clrId)

/-- What STATE_ABORT does (R257): before the point of no return, or the abort deadline of a chain-scoped Clearing, the Clearing is
cancelled; after it, ALREADY_COMMITTED; a CLR_ID that is not queued, or not this mailbox's, NOT_FOUND. DESIGN CHOICE: of
another module's part that MB0 aborts, the originator hears REJECT with BUSY; no rule names the status. -/
def State.abortClr (s : State) (h : Hdr) (clrId : Nat) : State :=
  match s.trv.chains.find? (fun x => x.job.clrId == clrId && h.mbx == 0) with
  | some x => if x.deadline then s.status h .alreadyCommitted else ((s.entered h).abortChain x .ok 1).status h .ok
  | none =>
    match s.trv.queue.find? (fun c => ownClr h.mbx clrId c) with
    | some c => if c.armed then s.status h .alreadyCommitted else
        ((s.entered h).cancelAnd c (if c.job.remote then .busy else .ok) 1).status h .ok
    | none =>
      if s.trv.active.any (fun c => ownClr h.mbx clrId c) then s.status h .alreadyCommitted else s.status h .notFound

/-- STATE_ABORT (R242, R257). -/
def execStateAbort (h : Hdr) (clrId : Nat) (s : State) : Result :=
  .next (s.checked h [(s.map.force.isSome && s.noTrv, .notPermitted)] (fun s => s.abortClr h clrId))

/-- The records of CLEARING_QUERY (R264): queued ones in execution order, then executed and cancelled ones, newest first. -/
def State.queryRecords (s : State) (m count : Nat) : List (List Nat) :=
  let mine (c : Clearing) : Bool := m == 0 || (c.job.origin.isNone && c.job.h.mbx == m)
  (((s.trv.queue.filter mine).map (fun c => c.record (bit01 c.armed)))
    ++ ((s.trv.done.filter (fun r => m == 0 || r.mbx == m)).map (fun r => r.bytes))).take count

/-- CLEARING_QUERY (R264). -/
def execClearingQuery (h : Hdr) (count buf : Nat) (s : State) : Result :=
  let l := s.queryRecords h.mbx count
  .next (s.checked h
    [(count < 1 || 320 < count || s.badBuf h buf 1 (32 * l.length), .invalidField),
     (s.map.force.isSome && s.noTrv, .notPermitted)]
    (fun s => (s.hostWrite h buf l.flatten).complete h { status := .ok, res0 := l.length }))

/-! ## Execution (R253, R255, R279) -/

/-- POINT_OF_NO_RETURN (R279): 250 ns before the first queued Clearing's frame boundary the Understory is armed with the jump
target and the profile of every element of the difference set. -/
def execPointOfNoReturn (s : State) : Result :=
  .next (match s.trv.queue with
  | [] => s
  | c :: r =>
    if c.armed ∨ s.frame + 1 < c.frame then s
    else s.modTrv (fun t => { t with queue := { c with
      armed := true, arms := c.diff.map (fun e => (e, s.armOf e (s.targetIn c.fab.bits e))) } :: r }))

/-- The elements of a Clearing treated in ascending order (R30): each plays the jump that its point of no return armed (R279). -/
def State.treatAll (s : State) (c : Clearing) : State :=
  c.diff.foldl (fun s e =>
    let t := s.targetIn c.fab.bits e
    s.clearElem e t (((c.arms.find? (fun a => a.1 == e)).map (fun a => a.2)).getD (s.armOf e t)) c.job.clrId) s

/-- The TRIG pins in mode OUT_CLEARING pulse 350 ns after the boundary (R312). -/
def State.pulseClearing (s : State) : State :=
  (List.range 4).foldl (fun s p =>
    if s.rd .dtm_trig_cfg_mode p = 4 then
      { s with datum := { s.datum with trigs := Tbl.modify {} s.datum.trigs p (fun x =>
          { x with start := s.datum.t + 350 * tickNs, armed := true }) } }
    else s) s

/-- CLEARING_EXECUTION (R30, R253): at its frame boundary the state in force becomes the Clearing's permutation, each element
of the difference set is treated, and the Clearing waits for the moved ones to settle. -/
def execClearingExecution (s : State) : Result :=
  .next (match s.trv.queue with
  | [] => s
  | c :: r =>
    if s.frame < c.frame then s
    else
      let moved := c.diff.filter (fun e => s.movesElem e)
      let d := { c with
        holdover := (c.locked && !s.locked) || s.rd .dtm_status_p_state 0 == 4
        fencedHit := c.diff.any (fun e => s.fenced (elemCpt e))
        moved := moved.length, notMoved := c.diff.length - moved.length, toSettle := moved }
      let s1 := s.modTrv (fun t => { t with queue := r, force := c.fab, forceCrc := c.crc, active := t.active ++ [d] })
      let s2 := (s1.treatAll c).noteClr d (if c.late then 4 else 2)
      ((s2.showForce c.job.slot false).pulseClearing).showQueue.closeClearings)

/-! ## Chain-scoped Clearings (R260, R261) -/

/-- CLEARING_REQUEST (R260): a participant checks the REQUEST as a STATE_COMMIT of its MB0, and its part is solved and queued;
a failing check answers REJECT. -/
def execClearingRequest (src : Nat) (m : ClrMsg) (s : State) : Result :=
  let j : Job := {
    h := { mbx := 0, tag := 0xFFFF }, owner := none, commit := true, slot := m.slot, gen := (s.slot m.slot).gen
    perm := (s.slot m.slot).perm, mind := m.flags.testBit 1, maxDist := m.maxDist, exec := some (ticksOf m.exec)
    clrId := m.clrId, chain := true, atomic := m.flags.testBit 0, origin := some src, remote := true }
  .next (match firstStatus ([(4096 ≤ m.slot || s.execBad m.exec || (512 < m.maxDist && m.maxDist != 0xFFFF) || s.permBad j.perm, .invalidField),
      (s.mapAway, .busy), (s.noTrv, .notPermitted)] ++ s.jobChecks j) with
  | some st => s.refuseJob j st
  | none => s.giveJob j)

/-- CLEARING_ACCEPT (R260): the originator notes it. -/
def execClearingAccept (src : Nat) (m : ClrMsg) (s : State) : Result :=
  .next (match s.chainOf m.clrId with
  | some x => s.chainTry (x.setPart src (fun p => { p with accepted := true }))
  | none => s)

/-- CLEARING_REJECT (R260): an atomic Clearing is aborted at once with the first failing status in list order; another goes on
without the participant. -/
def execClearingReject (src : Nat) (m : ClrMsg) (s : State) : Result :=
  .next (match s.chainOf m.clrId with
  | some x =>
    let y := x.setPart src (fun p => { p with rejected := true, status := m.status })
    if y.job.atomic ∧ y.deadline = false then
      s.abortChain y y.firstFail 1
    else s.chainTry y
  | none => s)

/-- CLEARING_ABORT (R261): a participant cancels its part; after its own point of no return it executes and reports SPLIT. -/
def execClearingAbort (src clrId : Nat) (s : State) : Result :=
  let mine (j : Job) : Bool := j.clrId == clrId && decide (j.origin = some src)
  let late (c : Clearing) : Clearing := if mine c.job then { c with late := true } else c
  .next (match s.trv.queue.find? (fun c => mine c.job) with
  | some c =>
    if c.armed then s.modTrv (fun t => { t with queue := t.queue.map late })
    else
      let s1 := s.modTrv (fun t => { t with queue := t.queue.filter (fun q => !mine q.job) })
      ((s1.noteClr c 3).recompute (s1.behind c.frame)).showQueue
  | none => (s.modTrv (fun t => { t with active := t.active.map late })).dropJobs mine)

/-- A participant's report entered in a chain-scoped Clearing. -/
def ChainClr.entered (x : ChainClr) (src : Nat) (m : ClrMsg) : ChainClr :=
  let split := m.flags.testBit 3
  let y := x.setPart src (fun p => p.report m.status m.moved m.notMoved (m.flags.testBit 2) split)
  { y with split := y.split || split }

/-- The completion of a command that has not been posted yet replaced. -/
def State.amend (s : State) (o : Owner) (c : Completion) : State :=
  s.modMb o.mbx (fun m => { m with flight := m.flight.map (fun f => if f.id = o.id ∧ f.comp.isSome then { f with comp := some c } else f) })

/-- A report of SPLIT for a Clearing that was aborted (R261): its list, and its completion where that is not yet posted, say so. -/
def State.splitEnded (s : State) (x : ChainClr) : State :=
  let s1 := (s.modTrv (fun t => { t with ended := t.ended.map (fun y => if y.job.clrId = x.job.clrId then x else y) })).writeParts x
  match x.job.owner with
  | some o => s1.amend o (x.completion .alreadyCommitted 1)
  | none => s1

/-- CLEARING_REPORT (R260, R261): a participant's report is entered in the list; one with SPLIT sets SPLIT; with every report
the Clearing completes. -/
def execClearingReport (src : Nat) (m : ClrMsg) (s : State) : Result :=
  .next (match s.chainOf m.clrId with
  | some x => s.chainTry (x.entered src m)
  | none =>
    match s.trv.ended.find? (fun x => x.job.clrId == m.clrId) with
    | some x => if m.flags.testBit 3 then s.splitEnded (x.entered src m) else s
    | none => s)

/-- ABORT_DEADLINE (R260): a participant of an atomic Clearing that has not accepted aborts it with REMOTE_TIMEOUT; otherwise
the abort deadline has passed. -/
def execAbortDeadline (clrId : Nat) (s : State) : Result :=
  .next (match s.chainOf clrId with
  | some x =>
    if s.datum.t + tickFrame + (1250 + x.hops * s.hopDelay) * tickNs ≤ x.frame * tickFrame then s
    else if x.job.atomic ∧ x.deadline = false ∧ x.parts.any (fun p => !p.accepted) then
      let y := { x with parts := x.parts.map (fun p =>
        if p.accepted || p.rejected then p else { p with rejected := true, status := Status.remoteTimeout.code }) }
      s.abortChain y y.firstFail 1
    else s.modTrv (fun t => { t with chains := t.chains.map (fun y => if y.job.clrId = clrId then { y with deadline := true } else y) })
  | none => s)

/-- REPORT_TIMEOUT (R260): at the execution boundary plus REPORT_TO the originator completes with REMOTE_TIMEOUT. -/
def execReportTimeout (clrId : Nat) (s : State) : Result :=
  .next (match s.chainOf clrId with
  | some x =>
    if x.frame * tickFrame + max 1 (s.rd .trv_chain_report_to 0) * 1000 * tickNs ≤ s.datum.t then
      s.finishChain { x with parts := x.parts.map (fun p =>
        if p.rejected || p.reported then p else { p with status := Status.remoteTimeout.code }) } .remoteTimeout 0
    else s
  | none => s)

end Sys2Proof.Machine
end

