-- ==== Sys2Proof/Machine/Resets.lean ====
section
/-! DEFINITION. The resets of R13 but CRST (Stand.lean): POR, DRST, HRST, function-level reset, BRST, and the loss of VSIO. -/

namespace Sys2Proof.Machine

/-! ## Mailbox resets (R360, R367, R449) -/

/-- Whether an owner is of mailbox `m`. -/
def Owner.isOf (m : Nat) (o : Owner) : Bool := o.mbx == m

/-- The oldest entry that the fault log still holds, by its sequence number (R449). -/
def State.oldestSeq (s : State) : Nat :=
  match s.flt.log with
  | e :: _ => e.seq
  | [] => s.rd .flt_log_seq_next 0

/-- Whether a register field is one of mailbox `m` that a mailbox reset restores. -/
def mbxField (m : Nat) (f : Fid) (i : Nat) : Bool :=
  f.cls == .hrst && f != .chs_pol_status_pol_cnt && f != .chs_pol_status_level &&
    (if f == .mbx_tr_cons_cons || f == .mbx_tr_status_en || f == .mbx_tr_status_ring_err || f == .mbx_tr_status_tr_rej
     then i / 64 == m else i == m)

/-- The PRECISION_MEASURE commands of a mailbox end (R367): their windows are dropped, a CONTINUOUS series goes on without its
command. -/
def State.dropPw (s : State) (m : Nat) : State :=
  let nums := (s.loop.pwCmds.filter (fun d => d.owner.isOf m)).map (fun d => d.num)
  let rest (l : List Nat) : List Nat := l.filter (fun c => !nums.contains c)
  let ends (x : Mon) (l : List Nat) : Bool := l != [] && rest l == [] && !x.cont
  let keep (x : Mon) : Mon :=
    { x with
      win := match x.win with
        | some w => if ends x w.cmds then none else some { w with cmds := rest w.cmds }
        | none => none
      queue := match x.queue with
        | some l => if ends x l then none else some (rest l)
        | none => none
      armed := rest x.armed }
  let s1 := s.modLoop (fun l => { l with pwCmds := l.pwCmds.filter (fun d => !d.owner.isOf m) })
  (s.loop.mons.map (fun p => p.1)).foldl (fun s k => (s.modMon k keep).showWin k) s1

/-- Solves and commits of a mailbox that are not queued end (R367). -/
def State.dropSolves (s : State) (m : Nat) : State :=
  let own (j : Job) : Bool := j.origin.isNone && j.h.mbx == m
  (s.modTrv (fun t => { t with
    waiting := t.waiting.filter (fun j => !own j), solved := t.solved.filter (fun j => !own j)
    running := t.running.filter (fun j => !own j) })).showQueue

/-- What a compartment still waits to do for a mailbox ends: a period and window change, a commit of coefficients, a fence, a reset
that has not begun (R367). -/
def State.dropCpt (s : State) (m n : Nat) : State :=
  let c := s.cpt n
  let chg := match c.change with | some (_, _, _, some o) => o.isOf m | _ => false
  let swp := match c.swap with | some (_, some o) => o.isOf m | _ => false
  let s1 := if chg then (s.modCpt n (fun c => { c with change := none })).wrBit .stx_cpt_cfg_pend n false else s
  let s2 := if swp then (s1.modCpt n (fun c => { c with swap := none })).wrBit .stx_coef_ctrl_commit n false else s1
  s2.modSvc n (fun v => { v with
    fenceAt := match v.fenceAt with
      | some (f, l) =>
        let rest := l.filter (fun o => !o.isOf m)
        if rest = [] then none else some (f, rest)
      | none => none
    reset := if s2.bit .glb_cpt_svc_in_crst n then v.reset else v.reset.filter (fun o => !o.isOf m) })

/-- A staging to another module and an activation of a mailbox end (R367). -/
def State.dropFw (s : State) (m : Nat) : State :=
  let s1 := match s.boot.xferOut with
    | some x => if x.owner.isOf m then (s.modBoot (fun t => { t with xferOut := none })).showStaging else s
    | none => s
  if s1.map.change.any (fun o => o.isOf m) then
    { s1 with map := { s1.map with change := none } }.wrBit .boot_status_activating 0 false
  else if s1.boot.actOwner.any (fun o => o.isOf m) then
    let s2 := s1.modBoot (fun t => { t with actStep := 0, actOwner := none })
    (if s1.boot.actStep = 3 then s2.modStand (fun t => { t with command := none }) else s2).wrBit .boot_status_activating 0 false
  else s1

/-- A handover that waits, a switch of Datum that waits and the remaining interest of a mailbox in a grid step or an enumeration
end (R367). -/
def State.dropWaits (s : State) (m : Nat) : State :=
  let s1 := match s.stand.command with
    | some (_, _, some o) => if o.isOf m then s.modStand (fun t => { t with command := none }) else s
    | _ => s
  { s1 with
    datum := { s1.datum with
      stepOwners := s1.datum.stepOwners.filter (fun o => !o.isOf m)
      switchDue := match s1.datum.switchDue with
        | some (o :: l) =>
          let rest := (o :: l).filter (fun o => !o.isOf m)
          if rest = [] then none else some rest
        | x => x }
    fab := { s1.fab with
      explore := s1.fab.explore.map (fun x => { x with owner := x.owner.filter (fun o => !o.isOf m) })
      outReqs := s1.fab.outReqs.filter (fun r => !r.owner.isOf m)
      inReqs := if m = 0 then s1.fab.inReqs.filter (fun r => r.response.isSome) else s1.fab.inReqs } }

/-- A mailbox is reset (R360, R367, R449): its commands leave, what they have given the fabric to do continues, every other one
ends without further effect; its registers, MSI-X, unlocks, rings and read pointer are restored and its bucket is full. -/
def State.mailboxReset (s : State) (m : Nat) : State :=
  let s1 := ((((s.dropPw m).dropSolves m).dropFw m).dropWaits m)
  let s2 := (List.range 4).foldl (fun s n => s.dropCpt m n) s1
  let s3 := s2.modLoop (fun l => { l with reads := l.reads.filter (fun r => !r.owner.isOf m) })
  let s4 := { s3 with
    mbx := Tbl.set {} s3.mbx m { part := (s3.mb m).part, logPtr := s3.oldestSeq }
    rings := s3.rings.filter (fun p => p.1 / 64 != m)
    host := { s3.host with
      sources := s3.host.sources.filter (fun t => t.mbx != m)
      held := s3.host.held.filter (fun w => w.1 != m)
      dests := if m = 0 then [] else s3.host.dests }
    flt := { s3.flt with injections := s3.flt.injections.filter (fun i => !(i.mode == 1 && i.mbx == m)) } }
  (s4.resetRegs (mbxField m)).setLevel m (s4.burst m * tokenUnit)

/-- HRST (R13, R360, R367, R427, R477): every mailbox and the endpoint; the safety session and an SPDM exchange end. Nothing of the
fabric changes but what commands that end would still have done. -/
def execHrst (cause : HrstCause) (s : State) : Result :=
  let s1 := ((List.range 8).foldl (fun s m => s.mailboxReset m) s).resetRegs (fun f _ => f == .chs_pol_status_pol_cnt)
  let s2 := s1.modBoot (fun t => { t with spdmVersion := false, spdmCaps := false, spdmAlgs := false })
  let s3 := { s2 with host := { s2.host with
    lows := []
    perstHigh := if cause = HrstCause.perst then false else s2.host.perstHigh
    training := if cause = HrstCause.perst then false else s2.host.training } }
  .next (s3.endSession 0xFF true)

/-- VF_FUNCTION_LEVEL_RESET (R367): the mailbox of one VF (VF k as k − 1), or of every VF where VF Enable is cleared. -/
def execVfFunctionLevelReset (vf : Option (Fin 7)) (s : State) : Result :=
  .next (match vf with
  | some k => s.mailboxReset (k + 1)
  | none => [1, 2, 3, 4, 5, 6, 7].foldl (fun s m => s.mailboxReset m) s)

/-! ## BRST (R13, R254, R308, R440) -/

/-- BRST of a Stand (R440): of the shadow, as a reset; of the holder, as a surrender or FROZEN with the cause of the source that asks
for it, and as nothing where no source does. -/
def State.brstStand (s : State) (st : Nat) (src : Option Nat) : State :=
  if s.standState st = 0 then s
  else if st ≠ s.holder then s.offline st
  else match src with
    | some 0x08 => s.surrender 4
    | some 0x09 => s.surrender 3
    | some 0x0A => s.surrender 5
    | some 0x0B => s.surrender 6
    | some 0x0C => s.surrender 7
    | _ => s

/-- BRST of Traverse (R254): the queue is emptied without execution, solves end, its registers are restored; the library, the state
in force with its registers, the start-up slot and the records of finished Clearings stay. -/
def State.brstTraverse (s : State) : State :=
  let jobs := s.trv.waiting ++ s.trv.running.toList ++ s.trv.solved
  let s1 := s.modTrv (fun t => { t with waiting := [], running := none, solved := [] })
  let s2 := jobs.foldl (fun s j =>
    if j.commit then s.refuseJob j .internal else s.finishOpt j.owner { status := .internal }) s1
  let s3 := s2.trv.queue.foldl (fun s c => s.cancelClr c .internal 3) s2
  (s3.resetRegs (fun f _ =>
    [Fid.trv_chain_hopdly, .trv_chain_report_to, .trv_solve_cnt_solves, .trv_solve_cnt_hits, .trv_fail_blocked,
     .trv_fail_cancelled, .trv_fail_new].contains f)).showQueue

/-- Whether a field is one of a chain port's own registers, apart from the role and the range that the fabric keeps. -/
def portField (p : Nat) (f : Fid) (i : Nat) : Bool :=
  i == p && Fid.between .chp_cfg_en .chp_event_event_en f && f != .chp_status_role && f != .chp_range_lo && f != .chp_range_hi

/-- BRST of a chain port (R440): its link goes down and its registers are restored; what enumeration recorded of its neighbour
stays. -/
def State.brstPort (s : State) (p : Nat) : State :=
  ((s.takeLinkDown p false).resetRegs (portField p)).modPort p (fun x => { known := x.known })

/-- Whether a field of Datum is a status or counter that BRST of Datum resets (R308). -/
def dtmField (f : Fid) : Bool :=
  (regsDtm0 ++ regsDtm1).any (fun r => r.fields.any (fun q => q.fid == f)) && (f.access == .ro || f.access == .w1c)
    && f.cls != .por && !([Fid.dtm_time_subns, .dtm_time_ns, .dtm_time_sec, .dtm_frame_f, .dtm_rate_rho,
      .dtm_status_p_dom_act, .dtm_status_p_state, .dtm_status_s_state].contains f)

/-- BRST of Datum (R308): servos, port states, timestamp queues, statuses and counters are reset; time, rate and configuration
stay. A Datum P that was LOCKED or SLEWING is in HOLDOVER, any other state is FREE. -/
def State.brstDatum (s : State) : State :=
  let p := s.rd .dtm_status_p_state 0
  let held := p == 2 || p == 3
  let d := s.datum
  let owners := d.stepOwners ++ d.switchDue.getD []
  let dom (i : Nat) : Domain := if i = s.pDom then { acquired := held } else {}
  let rho := signed 40 (s.rd .dtm_rate_rho 0)
  let s1 := { s with datum := { d with
    dom0 := dom 0, dom1 := dom 1, stepPlan := none, stepWanted := false, stepOwners := [], ports := [], switchDue := none
    latch := none, est := rho
    trigs := (d.trigs.map (fun (t : Nat × Trig) => (t.1, { t.2 with fifo := [] }))).filter (fun (t : Nat × Trig) => t.2 != ({} : Trig)) } }
  let s2 := ((s1.resetRegs (fun f _ => dtmField f)).setP (if held then 4 else 0)).setS 0
  owners.foldl (fun s o => s.finish o { status := .internal }) s2.showPtpRoles

/-- The sources that ask for BRST of a block, and the object that they name (R438, R440). -/
def blockAsks (b : Block) (src obj : Nat) : Bool :=
  match b with
  | .stand st => 0x08 ≤ src && src ≤ 0x0C && obj == st
  | .traverse => src == 0x21
  | .port p => 0x30 ≤ src && src ≤ 0x33 && obj == p
  | .datum => 0x28 ≤ src && src ≤ 0x2A

/-- BRST (R13, R14, R440): the reset of a block, by a fault reaction or as service; a DRST that is decided absorbs it. -/
def execBrst (block : Block) (s : State) : Result :=
  .next (if s.flt.drstPending then s
  else
    let src := (s.flt.brstPending.find? (fun r => blockAsks block r.1 r.2)).map (fun r => r.1)
    let s1 := { s with flt := { s.flt with brstPending := s.flt.brstPending.filter (fun r => !blockAsks block r.1 r.2) } }
    match block with
    | .stand st => s1.brstStand st src
    | .traverse => s1.brstTraverse
    | .port p => s1.brstPort p
    | .datum => s1.brstDatum)

/-- BRST_END (R270, R286, R287): the BRST of an OFFLINE Stand ends: in a firmware activation it has its kernel loaded and returns;
otherwise it returns by itself while AUTO_RETURN is 1. -/
def execBrstEnd (st : Fin 2) (s : State) : Result :=
  .next (if !s.stand.reset.contains st.val ∨ s.standState st ≠ 0 then s
  else
    let s1 := s.modStand (fun t => { t with reset := t.reset.filter (fun x => x != st.val) })
    match s.boot.actStep with
    | 1 => (s1.startCopy st none).modBoot (fun t => { t with actStep := 2 })
    | 4 => (s1.startCopy st none).modBoot (fun t => { t with actStep := 5 })
    | 8 => s1.startCopy st none
    | _ => if s.bit .glb_baton_cfg_auto_return 0 then s1.startCopy st none else s1)

/-! ## POR and DRST (R13 to R15, R122, R244, R427, R442) -/

/-- Firebreak at a reset of the Crown (R15, R427): its link goes down and its session ends; the rest of it goes on, its requests dated anew. -/
def State.fbkCrown (s : State) : State :=
  s.loseLink.modFbk (fun b => { b with
    want := b.want.map (fun p => (p.1, 0)), release := b.release.map (fun p => (p.1, 0)) })

/-- The elements at DRST: every output at its clear code, the code in force when the reset began (R122). -/
def State.drstOuts (s old : State) : State :=
  ((old.regs.filter (fun p => Fid.ofNat (p.1 % 1024) == .ust_vclr_code)).map (fun p => p.1 / 1024)).foldl (fun s e =>
    (s.setCode e (old.clearOf e)).modEl e (fun x => { x with out := old.clearOf e })) s

/-- The boot part as a reset leaves it: what flash and the pins hold (R472, R482). -/
def BootSt.kept (b : BootSt) (clkref : Bool) : BootSt :=
  { bankA := b.bankA, bankB := b.bankB, activeB := b.activeB, jtag := b.jtag, clkref := clkref }

/-- A converter group as a reset leaves it: its references (R110) and its SYSTEM records (R112), which flash holds. -/
def Grp.kept (g : Grp) : Grp := { refs := g.newRefs.getD g.refs, system := g.system }

/-- The element loops as a reset leaves them: flash, pins and Firebreak's wishes. -/
def LoopSt.kept (l : LoopSt) : LoopSt :=
  { grps := l.grps.foldl (fun t p => Tbl.set {} t p.1 p.2.kept) [], profs := l.profs, calFlash := l.calFlash
    clrLow := l.clrLow, heatClear := l.heatClear, fbHeat := l.fbHeat }

/-- DRST (R13, R14, R442): every field but those of class POR, the fault log and policy, Firebreak, flash, the PCIe link and its
configuration space; every output goes to its clear code; the boot sequence follows. `clkref` says whether CLKREF is present. -/
def execDrst (clkref : Bool) (s : State) : Result :=
  let s0 := s.fbkCrown
  let s1 := s0.resetRegs (fun f _ => f.cls != .por && f.cls != .vsio && f != .flt_status_errn)
  let s2 := { s1 with
    map := { s1.map with force := none, change := none, reread := false }
    loop := s1.loop.kept
    trv := { flash := s1.trv.flash, boot := s1.trv.boot }
    stand := {}
    mbx := (List.range 8).foldl (fun t m => Tbl.set {} t m
      { busMaster := (s1.mb m).busMaster, d3hot := (s1.mb m).d3hot, logPtr := s1.oldestSeq }) []
    rings := []
    host := { nextId := s1.host.nextId, perstHigh := s1.host.perstHigh, training := s1.host.training }
    flt := { s1.flt with
      errTo := s1.flt.errTo - s1.loop.frames, quiet := [], noticeLast := [], injections := [], brstPending := [], drstPending := false
      fencePending := [] }
    hkp := {}
    boot := s1.boot.kept clkref
    datum := { steps := s1.datum.steps }
    ports := []
    fab := { used := s1.fab.used }
    sch := [] }
  .next ((s2.drstOuts s0).driveErr)

/-- The machine after POR but for VSIO (R13, R15): flash, the fuses, Firebreak and the model's own lists stay. -/
def State.por (s : State) (clkref : Bool) : State :=
  let s0 := s.fbkCrown
  let s1 := s0.resetRegs (fun f _ => f.cls != .vsio && f != .flt_status_errn &&
    !([Fid.boot_fuse_sig_enf, .boot_fuse_jtag_lock, .boot_fuse_revoke, .boot_fuse_svn_fuse].contains f))
  State.driveErr {
    regs := s1.regs
    map := { s1.map with force := none, change := none, reread := false }
    loop := s1.loop.kept
    trv := { flash := s1.trv.flash, boot := s1.trv.boot }
    flt := { flash := s1.flt.flash }
    fbk := s1.fbk
    boot := s1.boot.kept clkref
    free := s1.free
    out := s1.out
    pending := s1.pending }

/-- POR (R13). -/
def execPor (clkref : Bool) (s : State) : Result := .next (s.por clkref)

/-- VSIO_RESET (R15): the loss of VSIO resets Firebreak and asserts POR. -/
def execVsioReset (clkref : Bool) (s : State) : Result := .next (s.fbkOff.por clkref)

end Sys2Proof.Machine
end

