-- ==== Sys2Proof/Machine/SafetyCmds.lean ====
section
/-! DEFINITION. The safety commands (R412, R425 to R432). -/

namespace Sys2Proof.Machine

/-- A safety command of MB0 keeps its session open (R427). -/
def State.safetyCmd (s : State) (h : Hdr) : State :=
  if h.mbx = 0 then s.modFbk (fun b => { b with lastCmd := b.tick }) else s

/-- The 64-byte Firebreak status record (R431). -/
def State.fbkRecord (s : State) : List Nat :=
  let b := s.fbk
  let mask (p : Nat → Bool) : Nat := maskOf ((List.range 4).filter p)
  let locked := b.state == 2
  [b.state,
   bit01 (b.state == 1) + 2 * bit01 b.session + 4 * bit01 b.link + 8 * bit01 b.pend.isSome + 16 * bit01 b.pw.isSome,
   mask (fun n => (s.fout n).on) + 16 * mask s.outWaits,
   s.demandMask + 16 * mask (fun p => (s.fpair p).fault),
   if locked then s.rd .fbk_fault_cause 0 else 0,
   if locked then s.rd .fbk_fault_obj 0 else 0,
   s.fbkSources, b.apr]
    ++ leBytes 2 s.darkPorts.length ++ leBytes 2 s.notDark.length ++ leBytes 4 (s.rd .fbk_cfg_crc_crc 0)
    ++ leBytes 4 b.logNext ++ leBytes 4 b.demands ++ leBytes 2 b.lockouts ++ leBytes 2 b.authFail ++ timeBytes10 b.tLock
    ++ List.replicate 26 0

/-- SAFETY_STATUS, READ (R431). -/
def execSafetyStatusRead (h : Hdr) (buf : Nat) (s : State) : Result :=
  .next ((s.safetyCmd h).checked h
    [(s.badBuf h buf 16 64, .invalidField), (!s.fbk.link, .internal)]
    (fun s => (s.hostWrite h buf s.fbkRecord).status h .ok))

/-- LOCKOUT is left (R425): RUN, each output off until it restarts. -/
def State.leaveLockout (s : State) : State :=
  let c := s.rd .fbk_fault_cause 0
  let o := s.rd .fbk_fault_obj 0
  let s1 := s.modFbk (fun b => { b with state := 1, pend := none })
  let s2 := ((s1.fbkLog 0xFF 7 0 0 0 0).fbkEvent 2).lockReport c o
  ((s2.wr .fbk_fault_cause 0 0).wr .fbk_fault_obj 0 0).fbkEval

/-- SAFETY_STATUS, ACK (R425): with RESET_PEND set Firebreak enters RUN; in LOCKOUT without it SAFETY_LOCKOUT; outside LOCKOUT no
effect. -/
def execSafetyStatusAck (h : Hdr) (s : State) : Result :=
  .next ((s.safetyCmd h).checked h
    [(h.mbx != 0 || h.remote.isSome, .notPermitted), (!s.fbk.link, .internal),
     (s.fbk.state == 2 && !s.pendNow, .safetyLockout)]
    (fun s => (if s.fbk.state = 2 then s.leaveLockout else s).status h .ok))

/-- SAFETY_STATUS, RESTART (R412, R430): the named outputs that wait restart; none does where a named output's sources are not
healthy. -/
def execSafetyStatusRestart (h : Hdr) (outputs : Nat) (s : State) : Result :=
  let named := bitsSet 4 outputs
  .next ((s.safetyCmd h).checked h
    [(15 < outputs, .invalidField), (h.mbx != 0, .notPermitted), (!s.fbk.link, .internal),
     (s.fbk.state == 2, .safetyLockout), (named.any (fun n => !s.outReady n), .notPermitted)]
    (fun s => ((named.foldl (fun s n => if s.outWaits n ∧ s.outAllowed n then s.switchOut n true else s) s).showFbk).status
      h .ok))

/-- Whether a password field is malformed (R426). -/
def passwordBad (len : Nat) (pw : List Nat) : Bool :=
  len < 8 || 16 < len || (pw.take len).any (fun b => b < 0x21 || 0x7E < b) || (pw.drop len).any (fun b => b != 0)

/-- Whether openings are blocked: within 60 s of the fifth failed attempt in a row (R426). -/
def State.openBlocked (s : State) : Bool :=
  match s.fbk.blockedAt with | some t => decide (s.fbk.tick < t + 600000) | none => false

/-- Whether a password opens the session: it matches the one that is set, or none is set (R426). -/
def State.passwordOk (s : State) (pw : List Nat) : Bool :=
  match s.fbk.pw with | some d => Config.passwordDigest d.1 pw == d.2 | none => true

/-- A failed opening (R426, R431, R432): counted, logged and flagged; a checked one counts toward five in a row. -/
def State.authFails (s : State) (counted : Bool) : State :=
  let s1 := s.modFbk (fun b => { b with
    authFail := min (b.authFail + 1) 65535
    fails := if counted then (b.fails + 1) % 5 else b.fails
    blockedAt := if counted ∧ b.fails = 4 then some b.tick else b.blockedAt })
  ((s1.fbkLog 0 5 0 0 0 0).fbkEvent 7).showFbk

/-- SAFETY_SESSION_OPEN (R426). -/
def execSafetySessionOpen (h : Hdr) (len : Nat) (password : List Nat) (s : State) : Result :=
  .next ((s.safetyCmd h).checked h
    [(passwordBad len password, .invalidField), (h.mbx != 0 || h.remote.isSome, .notPermitted), (s.fbk.session, .busy),
     (!s.fbk.link, .internal)]
    (fun s =>
      if s.openBlocked then (s.authFails false).status h .authFailed
      else if !s.passwordOk (password.take len) then (s.authFails true).status h .authFailed
      else
        let s1 := s.modFbk (fun b => { b with session := true, staged := b.cfg, stagedPw := none, fails := 0 })
        (((s1.fbkLog 0 3 0 0 0 0).fbkEvent 4).showCfg.showFbk).status h .ok))

/-- SAFETY_CONFIG, PARAMETER (R427, R429): one value staged. -/
def execSafetyConfigParameter (h : Hdr) (param value : Nat) (s : State) : Result :=
  .next ((s.safetyCmd h).checked h
    [(!fbkParamOk (param / 256) (param % 256) value, .invalidField), (h.mbx != 0 || !s.fbk.session, .notPermitted)]
    (fun s => ((s.modFbk (fun b => { b with staged := fbkPut b.staged (param / 256) (param % 256) value })).showCfg).status h .ok))

/-- SAFETY_CONFIG, PASSWORD (R426, R427): a new password staged, with a random salt (a free value). -/
def execSafetyConfigPassword (h : Hdr) (len : Nat) (password : List Nat) (s : State) : Result :=
  .next ((s.safetyCmd h).checked h
    [(passwordBad len password, .invalidField), (h.mbx != 0 || !s.fbk.session, .notPermitted)]
    (fun s => ((s.useFree).modFbk (fun b => { b with
      stagedPw := some (s.freeVal, Config.passwordDigest s.freeVal (password.take len)) })).status h .ok))

/-- Whether the staged configuration passes the checks of R428. -/
def State.stagedOk (s : State) : Bool :=
  let g := fbkGet s.fbk.staged
  (s.fbk.pw.isSome || s.fbk.stagedPw.isSome)
    && (List.range 4).all (fun n => !(g 6 n == 1 && g 7 n == 0))
    && (List.range 4).all (fun n => (bitsSet 4 (g 7 n)).all (fun p => g 1 p == 1 || g 1 p == 2))
    && (List.range 4).all (fun p => !(g 1 p == 3 && g 6 (g 4 p) != 1))

/-- The parameters that a commit changes (R428). -/
def State.changedParams (s : State) : List (Nat × Nat) :=
  fbkParams.filter (fun p => fbkGet s.fbk.staged p.1 p.2 != s.fcfg p.1 p.2)

/-- The log entries of a commit (R428, R432): one for each changed parameter, one for a password change. -/
def State.logCommit (s : State) : State :=
  let s1 := s.changedParams.foldl (fun t p =>
    t.fbkLog 0 1 (256 * p.1 + p.2) (valueCrc (s.fcfg p.1 p.2)) (valueCrc (fbkGet s.fbk.staged p.1 p.2)) 0) s
  match s.fbk.stagedPw with
  | some d => s1.fbkLog 0 2 0 (digestCrc s.fbk.pw) (digestCrc (some d)) 0
  | none => s1

/-- The staged configuration stored and applied (R428): both copies, every output off, every filter restarted. -/
def State.applyCommit (s : State) : State :=
  let b := s.fbk
  let pw := b.stagedPw.orElse (fun _ => b.pw)
  let c : FCopy := {
    cfg := b.staged, pw := pw
    gen := max (match b.copyA with | some x => x.gen | none => 0) (match b.copyB with | some x => x.gen | none => 0) + 1 }
  let fresh (p : Nat) : FPair := {
    demand := (s.fpair p).demand && (fbkGet b.staged 1 p == 1 || fbkGet b.staged 1 p == 2), fault := (s.fpair p).fault }
  let s1 := (List.range 4).foldl (fun s n => s.switchOut n false) s
  let s2 := s1.modFbk (fun b => { b with
    copyA := some c, copyB := some c, cfg := c.cfg, pw := pw
    pairs := (List.range 4).foldl (fun t p => Tbl.set {} t p (fresh p)) []
    aprOk := []
    state := if b.state = 3 then 1 else b.state })
  (s2.endSession 0 false).fbkEval

/-- SAFETY_SESSION_CLOSE, COMMIT (R428). -/
def execSafetySessionCloseCommit (h : Hdr) (s : State) : Result :=
  .next ((s.safetyCmd h).checked h
    [(h.mbx != 0 || !s.fbk.session, .notPermitted), (!s.stagedOk, .invalidField)]
    (fun s =>
      if s.flashRefused ∧ (s.changedParams ≠ [] ∨ s.fbk.stagedPw.isSome = true) then s.countRefused.status h .tempInhibit
      else s.logCommit.applyCommit.status h .ok))

/-- SAFETY_SESSION_CLOSE, DISCARD (R427). -/
def execSafetySessionCloseDiscard (h : Hdr) (s : State) : Result :=
  .next ((s.safetyCmd h).checked h [(h.mbx != 0 || !s.fbk.session, .notPermitted)]
    (fun s => (s.endSession 0 true).status h .ok))

/-- SAFETY_LOG_READ (R430, R432): the entries in flash from FIRST upward. -/
def execSafetyLogRead (h : Hdr) (first count buf : Nat) (s : State) : Result :=
  let es := (s.fbk.log.filter (fun e => decide (first ≤ e.seq))).take count
  .next ((s.safetyCmd h).checked h
    [(count < 1 || 512 < count || s.badBuf h buf 16 (32 * es.length), .invalidField), (h.mbx != 0, .notPermitted)]
    (fun s => (s.hostWrite h buf (es.flatMap FLog.bytes)).complete h { status := .ok, res0 := es.length }))

end Sys2Proof.Machine
end

