-- ==== Sys2Proof/Machine/Spdm.lean ====
section
/-! DEFINITION. DOE discovery and SPDM 1.2 over the PF's DOE mailbox (R477). -/

namespace Sys2Proof.Machine

/-- A response of the DOE mailbox. -/
def State.answer (s : State) (r : DoeResp) : State := s.emit (.doe r)

/-- An SPDM request (R477): while Forester restarts it is answered Busy; one that comes before the exchange has reached it
(`ready`) is UnexpectedRequest (PRESUMED: SPDM 1.2); a request above 4,096 bytes is InvalidRequest. -/
def State.spdm (s : State) (len : Nat) (ready : Bool) (f : State → State) : State :=
  if s.boot.actStep = 6 then s.answer .busy
  else if 4096 < len then s.answer .invalid
  else if !ready then s.answer .unexpected
  else f s

/-- The stage of the exchange set. -/
def State.setSpdm (s : State) (version caps algs : Bool) : State :=
  { s with boot := { s.boot with spdmVersion := version, spdmCaps := caps, spdmAlgs := algs } }

/-- DOE_DISCOVERY (R477): index 0 is discovery itself, index 1 SPDM; beyond, no vendor (PRESUMED: PCIe). -/
def execDoeDiscovery (index : Nat) (s : State) : Result :=
  .next (s.answer (match index with
    | 0 => .discovery 0x0001 0x00 1
    | 1 => .discovery 0x0001 0x01 0
    | _ => .discovery 0xFFFF 0x00 0))

/-- SPDM_GET_VERSION (R477): version 1.2; the exchange starts anew. -/
def execSpdmGetVersion (len : Nat) (s : State) : Result :=
  .next (s.spdm len true (fun s => (s.setSpdm true false false).answer (.version 0x12)))

/-- SPDM_GET_CAPABILITIES (R477). -/
def execSpdmGetCapabilities (len : Nat) (s : State) : Result :=
  .next (s.spdm len s.boot.spdmVersion (fun s => (s.setSpdm true true false).answer (.capabilities true true 2 17)))

/-- SPDM_NEGOTIATE_ALGORITHMS (R477): the request offers DMTF measurements, ECDSA P-384 and SHA-384, or is answered with ERROR. -/
def execSpdmNegotiateAlgorithms (len : Nat) (dmtf p384 sha384 : Bool) (s : State) : Result :=
  .next (s.spdm len s.boot.spdmCaps (fun s =>
    if dmtf && p384 && sha384 then (s.setSpdm true true true).answer .algorithms else s.answer .invalid))

/-- SPDM_GET_DIGESTS (R477): slot 0 only. -/
def execSpdmGetDigests (len : Nat) (s : State) : Result :=
  .next (s.spdm len s.boot.spdmAlgs (fun s => s.answer (.digests 1 (Config.sha384 Config.certChain))))

/-- SPDM_GET_CERTIFICATE (R477): at most 1,024 bytes of slot 0's chain from an offset. -/
def execSpdmGetCertificate (len slot offset length : Nat) (s : State) : Result :=
  let rest := Config.certChain.drop offset
  let n := min length 1024
  .next (s.spdm len s.boot.spdmAlgs (fun s =>
    if slot ≠ 0 ∨ Config.certChain.length < offset then s.answer .invalid
    else s.answer (.certificate (rest.take n) (rest.length - n))))

/-- SPDM_CHALLENGE (R477): signed with the device key over the requester's nonce. -/
def execSpdmChallenge (len slot : Nat) (nonce : List Nat) (s : State) : Result :=
  .next (s.spdm len s.boot.spdmAlgs (fun s =>
    if slot ≠ 0 then s.answer .invalid
    else s.answer (.challengeAuth (Config.sha384 Config.certChain) (Config.deviceSign nonce))))

/-- The measurement blocks of an index: 1 to 8 one, 0xFF all, 0 none. -/
def State.measBlocks (s : State) (index : Nat) : List (Nat × Nat × Nat) :=
  let one (i : Nat) : Nat × Nat × Nat := (i + 1, mregType i, (s.mreg i).value)
  if index = 0xFF then (List.range 8).map one else if 1 ≤ index ∧ index ≤ 8 then [one (index - 1)] else []

/-- SPDM_GET_MEASUREMENTS (R476, R477): digests at one instant, with a signature over them and the nonce where it is asked for. -/
def execSpdmGetMeasurements (len index : Nat) (signed : Bool) (nonce : List Nat) (s : State) : Result :=
  let b := s.measBlocks index
  .next (s.spdm len s.boot.spdmAlgs (fun s =>
    if 8 < index ∧ index ≠ 0xFF then s.answer .invalid
    else s.answer (.measurements 8 b
      (if signed then some (Config.deviceSign (nonce ++ b.flatMap (fun x => x.1 :: leBytes 48 x.2.2))) else none))))

/-- SPDM_UNSUPPORTED_REQUEST (R477). -/
def execSpdmUnsupportedRequest (len : Nat) (s : State) : Result :=
  .next (s.spdm len true (fun s => s.answer .unsupported))

end Sys2Proof.Machine
end

