-- ==== Sys2Proof/Machine/Dispatch.lean ====
section
/-! DEFINITION. exec: one arm per command; each arm is one call of the meaning of its command. -/

namespace Sys2Proof.Machine

def exec (i : Instr) (s : State) : Host.Outcome State Fault Refusal :=
  match i with
  | .por clkref => Sys2Proof.Machine.execPor clkref s
  | .bootSequence => Sys2Proof.Machine.execBootSequence s
  | .drst clkref => Sys2Proof.Machine.execDrst clkref s
  | .glbResetWrite key => Sys2Proof.Machine.execGlbResetWrite key s
  | .hrst cause => Sys2Proof.Machine.execHrst cause s
  | .vfFunctionLevelReset vf => Sys2Proof.Machine.execVfFunctionLevelReset vf s
  | .brst block => Sys2Proof.Machine.execBrst block s
  | .crst n => Sys2Proof.Machine.execCrst n s
  | .crstComplete n => Sys2Proof.Machine.execCrstComplete n s
  | .vsioReset clkref => Sys2Proof.Machine.execVsioReset clkref s
  | .firebreakStart okA okB fail => Sys2Proof.Machine.execFirebreakStart okA okB fail s
  | .clkrefLoss => Sys2Proof.Machine.execClkrefLoss s
  | .sqDoorbell m v => Sys2Proof.Machine.execSqDoorbell m v s
  | .commandFetch m entries => Sys2Proof.Machine.execCommandFetch m entries s
  | .commandAdmission => Sys2Proof.Machine.execCommandAdmission s
  | .policeHoldResume m => Sys2Proof.Machine.execPoliceHoldResume m s
  | .completionPost m => Sys2Proof.Machine.execCompletionPost m s
  | .cqHeadWrite m v => Sys2Proof.Machine.execCqHeadWrite m v s
  | .completionInterrupt m timed => Sys2Proof.Machine.execCompletionInterrupt m timed s
  | .mbxEnableWrite m en => Sys2Proof.Machine.execMbxEnableWrite m en s
  | .mailboxDmaError m cause buffer => Sys2Proof.Machine.execMailboxDmaError m cause buffer s
  | .bar2Write off width v => Sys2Proof.Machine.execBar2Write off width v s
  | .registerWrite fn off width v => Sys2Proof.Machine.execRegisterWrite fn off width v s
  | .ringInterrupt m j timed => Sys2Proof.Machine.execRingInterrupt m j timed s
  | .trConsWrite m j v => Sys2Proof.Machine.execTrConsWrite m j v s
  | .telemetryFrameReceived src ring recs => Sys2Proof.Machine.execTelemetryFrameReceived src ring recs s
  | .unlockExpiry m kind which => Sys2Proof.Machine.execUnlockExpiry m kind which s
  | .identify h buf => Sys2Proof.Machine.execIdentify h buf s
  | .getStatus h => Sys2Proof.Machine.execGetStatus h s
  | .partitionSet h mbx buf table => Sys2Proof.Machine.execPartitionSet h mbx buf table s
  | .stateWrite h first count slot clear persist buf boot entries => Sys2Proof.Machine.execStateWrite h first count slot clear persist buf boot entries s
  | .stateRead h first count slot buf => Sys2Proof.Machine.execStateRead h first count slot buf s
  | .routeSolve h src mode slot maxDist buf rpt vec entries => Sys2Proof.Machine.execRouteSolve h src mode slot maxDist buf rpt vec entries s
  | .stateCommit h src mode scope atomic slot maxDist buf exec pcount rpt plist entries parts => Sys2Proof.Machine.execStateCommit h src mode scope atomic slot maxDist buf exec pcount rpt plist entries parts s
  | .stateAbort h clrId => Sys2Proof.Machine.execStateAbort h clrId s
  | .clearingQuery h count buf => Sys2Proof.Machine.execClearingQuery h count buf s
  | .elementSetOverride h elem drive => Sys2Proof.Machine.execElementSetOverride h elem drive s
  | .elementSetSetpoint h elem ffc ssp => Sys2Proof.Machine.execElementSetSetpoint h elem ffc ssp s
  | .elementSetRange h elem range => Sys2Proof.Machine.execElementSetRange h elem range s
  | .elementReleaseElement h elem => Sys2Proof.Machine.execElementReleaseElement h elem s
  | .elementReleaseTrip h comp => Sys2Proof.Machine.execElementReleaseTrip h comp s
  | .elementReleaseReturn h elem => Sys2Proof.Machine.execElementReleaseReturn h elem s
  | .loopConfigCompartment h comp period window => Sys2Proof.Machine.execLoopConfigCompartment h comp period window s
  | .loopConfigCoefficient h comp set kp ki ilim epsMax commit => Sys2Proof.Machine.execLoopConfigCoefficient h comp set kp ki ilim epsMax commit s
  | .loopConfigElement h first set count => Sys2Proof.Machine.execLoopConfigElement h first set count s
  | .loopConfigClearCode h first count code => Sys2Proof.Machine.execLoopConfigClearCode h first count code s
  | .loopConfigProfile h comp prof count flags t2 t3 t4 a1 a2 a3 rsv => Sys2Proof.Machine.execLoopConfigProfile h comp prof count flags t2 t3 t4 a1 a2 a3 rsv s
  | .loopConfigPilot h first count pamp => Sys2Proof.Machine.execLoopConfigPilot h first count pamp s
  | .loopConfigDeglitch h comp thr => Sys2Proof.Machine.execLoopConfigDeglitch h comp thr s
  | .loopConfigHpwm h first count per dead minp mpf stag => Sys2Proof.Machine.execLoopConfigHpwm h first count per dead minp mpf stag s
  | .loopConfigTrip h comp => Sys2Proof.Machine.execLoopConfigTrip h comp s
  | .loopConfigPowerCap h cap => Sys2Proof.Machine.execLoopConfigPowerCap h cap s
  | .outerConfigEqualisation h first count en side div ko target spMax iref => Sys2Proof.Machine.execOuterConfigEqualisation h first count en side div ko target spMax iref s
  | .outerConfigTemperature h first count tco comp en sensor slew => Sys2Proof.Machine.execOuterConfigTemperature h first count tco comp en sensor slew s
  | .elementStatus h first count buf => Sys2Proof.Machine.execElementStatus h first count buf s
  | .monitorRead h first count rangeSet buf => Sys2Proof.Machine.execMonitorRead h first count rangeSet buf s
  | .precisionMeasure h first mode src count pwq rings buf start len => Sys2Proof.Machine.execPrecisionMeasure h first mode src count pwq rings buf start len s
  | .telemetryCfgRing h ring en rlog recsz origin thresh base wb time => Sys2Proof.Machine.execTelemetryCfgRing h ring en rlog recsz origin thresh base wb time s
  | .telemetryCfgSource h ring source en first count dec dest => Sys2Proof.Machine.execTelemetryCfgSource h ring source en first count dec dest s
  | .calRun h first mode count deadline interval => Sys2Proof.Machine.execCalRun h first mode count deadline interval s
  | .calStatus h kind first count buf => Sys2Proof.Machine.execCalStatus h kind first count buf s
  | .syscalStepBegin h comp => Sys2Proof.Machine.execSyscalStepBegin h comp s
  | .syscalStepZero h comp mains readings => Sys2Proof.Machine.execSyscalStepZero h comp mains readings s
  | .syscalStepPoint h comp range mains applied readings => Sys2Proof.Machine.execSyscalStepPoint h comp range mains applied readings s
  | .syscalStepEnd h comp => Sys2Proof.Machine.execSyscalStepEnd h comp s
  | .syscalStepAbort h comp => Sys2Proof.Machine.execSyscalStepAbort h comp s
  | .syscalTimeout n => Sys2Proof.Machine.execSyscalTimeout n s
  | .datumCfgConfig h port src0 port0 src1 port1 oneStep logSync pdExp asymIn asymEg => Sys2Proof.Machine.execDatumCfgConfig h port src0 port0 src1 port1 oneStep logSync pdExp asymIn asymEg s
  | .datumCfgSelect h domain => Sys2Proof.Machine.execDatumCfgSelect h domain s
  | .datumCfgRestep h => Sys2Proof.Machine.execDatumCfgRestep h s
  | .datumCfgSetTod h sec => Sys2Proof.Machine.execDatumCfgSetTod h sec s
  | .datumCfgLimits h lockThr slewMax swLimit stepLimit servoBw autoS ppsGate => Sys2Proof.Machine.execDatumCfgLimits h lockThr slewMax swLimit stepLimit servoBw autoS ppsGate s
  | .datumStatus h buf => Sys2Proof.Machine.execDatumStatus h buf s
  | .triggerCfg h pin mode edge start period width => Sys2Proof.Machine.execTriggerCfg h pin mode edge start period width s
  | .chainCfgPort h port en fec txPre txPost txAmp rxFreeze => Sys2Proof.Machine.execChainCfgPort h port en fec txPre txPost txAmp rxFreeze s
  | .chainCfgEnumerate h topo => Sys2Proof.Machine.execChainCfgEnumerate h topo s
  | .chainCfgTest h port gen chk inv injRate => Sys2Proof.Machine.execChainCfgTest h port gen chk inv injRate s
  | .chainCfgRemotePolicy h accept classEn ackTo execTo => Sys2Proof.Machine.execChainCfgRemotePolicy h accept classEn ackTo execTo s
  | .chainStatus h form clear buf => Sys2Proof.Machine.execChainStatus h form clear buf s
  | .remote h dst rspLen execTo rspBuf cmd data => Sys2Proof.Machine.execRemote h dst rspLen execTo rspBuf cmd data s
  | .schedCfgGcl h port list cycle phase change buf sub => Sys2Proof.Machine.execSchedCfgGcl h port list cycle phase change buf sub s
  | .schedCfgShaper h port cls en idleslope hicredit => Sys2Proof.Machine.execSchedCfgShaper h port cls en idleslope hicredit s
  | .schedCfgOverhead h port ovh => Sys2Proof.Machine.execSchedCfgOverhead h port ovh s
  | .schedCfgPolice h m en mode rate burst => Sys2Proof.Machine.execSchedCfgPolice h m en mode rate burst s
  | .schedCfgSampling h en k => Sys2Proof.Machine.execSchedCfgSampling h en k s
  | .schedCfgReadSamples h port count buf => Sys2Proof.Machine.execSchedCfgReadSamples h port count buf s
  | .faultLogRead h first count whence advance buf => Sys2Proof.Machine.execFaultLogRead h first count whence advance buf s
  | .faultPolicySet h source react dflt => Sys2Proof.Machine.execFaultPolicySet h source react dflt s
  | .faultInject h checker bits mode => Sys2Proof.Machine.execFaultInject h checker bits mode s
  | .fwStageFirmware h length dst buf image => Sys2Proof.Machine.execFwStageFirmware h length dst buf image s
  | .fwStageElementMap h length dst buf image => Sys2Proof.Machine.execFwStageElementMap h length dst buf image s
  | .fwActivateFirmware h => Sys2Proof.Machine.execFwActivateFirmware h s
  | .fwActivateElementMap h => Sys2Proof.Machine.execFwActivateElementMap h s
  | .measureRead h mask buf => Sys2Proof.Machine.execMeasureRead h mask buf s
  | .safetyStatusRead h buf => Sys2Proof.Machine.execSafetyStatusRead h buf s
  | .safetyStatusAck h => Sys2Proof.Machine.execSafetyStatusAck h s
  | .safetyStatusRestart h outputs => Sys2Proof.Machine.execSafetyStatusRestart h outputs s
  | .safetySessionOpen h len password => Sys2Proof.Machine.execSafetySessionOpen h len password s
  | .safetyConfigParameter h param value => Sys2Proof.Machine.execSafetyConfigParameter h param value s
  | .safetyConfigPassword h len password => Sys2Proof.Machine.execSafetyConfigPassword h len password s
  | .safetySessionCloseCommit h => Sys2Proof.Machine.execSafetySessionCloseCommit h s
  | .safetySessionCloseDiscard h => Sys2Proof.Machine.execSafetySessionCloseDiscard h s
  | .safetyLogRead h first count buf => Sys2Proof.Machine.execSafetyLogRead h first count buf s
  | .standHandoverHandover h => Sys2Proof.Machine.execStandHandoverHandover h s
  | .standHandoverReturn h => Sys2Proof.Machine.execStandHandoverReturn h s
  | .standHandoverRelease h => Sys2Proof.Machine.execStandHandoverRelease h s
  | .compartmentServiceFence h comp => Sys2Proof.Machine.execCompartmentServiceFence h comp s
  | .compartmentServiceReset h comp => Sys2Proof.Machine.execCompartmentServiceReset h comp s
  | .compartmentServiceRejoin h comp => Sys2Proof.Machine.execCompartmentServiceRejoin h comp s
  | .expertUnlock h kind which ttl => Sys2Proof.Machine.execExpertUnlock h kind which ttl s
  | .expertLock h kind which => Sys2Proof.Machine.execExpertLock h kind which s
  | .frameBoundary samples => Sys2Proof.Machine.execFrameBoundary samples s
  | .monitorRangeChange m => Sys2Proof.Machine.execMonitorRangeChange m s
  | .comparatorChange m high => Sys2Proof.Machine.execComparatorChange m high s
  | .pwGoWrite m => Sys2Proof.Machine.execPwGoWrite m s
  | .precisionWindowStart m => Sys2Proof.Machine.execPrecisionWindowStart m s
  | .precisionWindowEnd m mean => Sys2Proof.Machine.execPrecisionWindowEnd m mean s
  | .benchmarkTakeover g => Sys2Proof.Machine.execBenchmarkTakeover g s
  | .benchmarkResult g readings => Sys2Proof.Machine.execBenchmarkResult g readings s
  | .benchmarkReturn g => Sys2Proof.Machine.execBenchmarkReturn g s
  | .calRotCtrlWrite v => Sys2Proof.Machine.execCalRotCtrlWrite v s
  | .calibrationStale g => Sys2Proof.Machine.execCalibrationStale g s
  | .startupPassEnd n responds results => Sys2Proof.Machine.execStartupPassEnd n responds results s
  | .vmodeOvercurrent e => Sys2Proof.Machine.execVmodeOvercurrent e s
  | .ocClearWrite e => Sys2Proof.Machine.execOcClearWrite e s
  | .groupLimiterTrip n g => Sys2Proof.Machine.execGroupLimiterTrip n g s
  | .gtripClearWrite n => Sys2Proof.Machine.execGtripClearWrite n s
  | .deglitchRelease e => Sys2Proof.Machine.execDeglitchRelease e s
  | .vdacRangeWrite e hi => Sys2Proof.Machine.execVdacRangeWrite e hi s
  | .rangeChangeStart e => Sys2Proof.Machine.execRangeChangeStart e s
  | .rangeSwitch e => Sys2Proof.Machine.execRangeSwitch e s
  | .rangeRampUp e => Sys2Proof.Machine.execRangeRampUp e s
  | .rangeChangeEnd e => Sys2Proof.Machine.execRangeChangeEnd e s
  | .ustVclrWrite e code => Sys2Proof.Machine.execUstVclrWrite e code s
  | .profileImpulse e dark => Sys2Proof.Machine.execProfileImpulse e dark s
  | .trajectoryEnd e dark => Sys2Proof.Machine.execTrajectoryEnd e dark s
  | .ustProfileWrite n p count flags t2 t3 t4 a1 a2 a3 => Sys2Proof.Machine.execUstProfileWrite n p count flags t2 t3 t4 a1 a2 a3 s
  | .pilotAmplitudeChange e => Sys2Proof.Machine.execPilotAmplitudeChange e s
  | .clrNAssert vpath hpath => Sys2Proof.Machine.execClrNAssert vpath hpath s
  | .clrNRelease => Sys2Proof.Machine.execClrNRelease s
  | .clrNReturn n => Sys2Proof.Machine.execClrNReturn n s
  | .hmodePeriodBoundary h tick ion => Sys2Proof.Machine.execHmodePeriodBoundary h tick ion s
  | .hmodeOvercurrent h => Sys2Proof.Machine.execHmodeOvercurrent h s
  | .hmodeFastTrip h => Sys2Proof.Machine.execHmodeFastTrip h s
  | .hmodeLeakage h => Sys2Proof.Machine.execHmodeLeakage h s
  | .hmodeOcLeakClearWrite h oc leak => Sys2Proof.Machine.execHmodeOcLeakClearWrite h oc leak s
  | .tripSourceAssert n => Sys2Proof.Machine.execTripSourceAssert n s
  | .tripClearWrite n => Sys2Proof.Machine.execTripClearWrite n s
  | .swtripWrite n => Sys2Proof.Machine.execSwtripWrite n s
  | .hmodeResume n => Sys2Proof.Machine.execHmodeResume n s
  | .hpwmSrcWrite h v => Sys2Proof.Machine.execHpwmSrcWrite h v s
  | .pcommitWrite h => Sys2Proof.Machine.execPcommitWrite h s
  | .shadowTransfer h reg => Sys2Proof.Machine.execShadowTransfer h reg s
  | .loopPeriodBoundary n mismatch mask late stale => Sys2Proof.Machine.execLoopPeriodBoundary n mismatch mask late stale s
  | .coefCommitWrite n => Sys2Proof.Machine.execCoefCommitWrite n s
  | .coefficientSwap n => Sys2Proof.Machine.execCoefficientSwap n s
  | .periodWindowChange n => Sys2Proof.Machine.execPeriodWindowChange n s
  | .settleEntry e => Sys2Proof.Machine.execSettleEntry e s
  | .jumpExit e => Sys2Proof.Machine.execJumpExit e s
  | .holdEntry e => Sys2Proof.Machine.execHoldEntry e s
  | .scheduledTransition e => Sys2Proof.Machine.execScheduledTransition e s
  | .loopStart e => Sys2Proof.Machine.execLoopStart e s
  | .suspectEntry e => Sys2Proof.Machine.execSuspectEntry e s
  | .returnToService e => Sys2Proof.Machine.execReturnToService e s
  | .catchUpJump e => Sys2Proof.Machine.execCatchUpJump e s
  | .calibrationRecordApply e => Sys2Proof.Machine.execCalibrationRecordApply e s
  | .outerIntervalEnd p => Sys2Proof.Machine.execOuterIntervalEnd p s
  | .sweepStart e => Sys2Proof.Machine.execSweepStart e s
  | .sweepPoint e => Sys2Proof.Machine.execSweepPoint e s
  | .sweepDeadline e => Sys2Proof.Machine.execSweepDeadline e s
  | .solveStart => Sys2Proof.Machine.execSolveStart s
  | .solveComplete => Sys2Proof.Machine.execSolveComplete s
  | .clearingQueue => Sys2Proof.Machine.execClearingQueue s
  | .pointOfNoReturn => Sys2Proof.Machine.execPointOfNoReturn s
  | .clearingExecution => Sys2Proof.Machine.execClearingExecution s
  | .clearingRequest src m => Sys2Proof.Machine.execClearingRequest src m s
  | .clearingAccept src m => Sys2Proof.Machine.execClearingAccept src m s
  | .clearingReject src m => Sys2Proof.Machine.execClearingReject src m s
  | .clearingAbort src clrId => Sys2Proof.Machine.execClearingAbort src clrId s
  | .clearingReport src m => Sys2Proof.Machine.execClearingReport src m s
  | .abortDeadline clrId => Sys2Proof.Machine.execAbortDeadline clrId s
  | .reportTimeout clrId => Sys2Proof.Machine.execReportTimeout clrId s
  | .standEccError st => Sys2Proof.Machine.execStandEccError st s
  | .writePathParity st => Sys2Proof.Machine.execWritePathParity st s
  | .heartbeatMissing => Sys2Proof.Machine.execHeartbeatMissing s
  | .standClockFault st => Sys2Proof.Machine.execStandClockFault st s
  | .interlockConfirm => Sys2Proof.Machine.execInterlockConfirm s
  | .interlockTimeout => Sys2Proof.Machine.execInterlockTimeout s
  | .ilkForce => Sys2Proof.Machine.execIlkForce s
  | .standCopyComplete => Sys2Proof.Machine.execStandCopyComplete s
  | .takeoverResume n => Sys2Proof.Machine.execTakeoverResume n s
  | .standEligible => Sys2Proof.Machine.execStandEligible s
  | .commandedHandover => Sys2Proof.Machine.execCommandedHandover s
  | .compartmentFence n => Sys2Proof.Machine.execCompartmentFence n s
  | .rejoin n => Sys2Proof.Machine.execRejoin n s
  | .foresterWatchdog => Sys2Proof.Machine.execForesterWatchdog s
  | .syncReceived port m ingress => Sys2Proof.Machine.execSyncReceived port m ingress s
  | .followUpReceived port m => Sys2Proof.Machine.execFollowUpReceived port m s
  | .pdelayReqReceived port m ingress egress => Sys2Proof.Machine.execPdelayReqReceived port m ingress egress s
  | .pdelayRespReceived port m ingress => Sys2Proof.Machine.execPdelayRespReceived port m ingress s
  | .pdelayRespFollowUpReceived port m => Sys2Proof.Machine.execPdelayRespFollowUpReceived port m s
  | .announceReceived port m => Sys2Proof.Machine.execAnnounceReceived port m s
  | .delayReqReceived port => Sys2Proof.Machine.execDelayReqReceived port s
  | .syncTransmit port domain egress => Sys2Proof.Machine.execSyncTransmit port domain egress s
  | .pdelayTransmit port egress => Sys2Proof.Machine.execPdelayTransmit port egress s
  | .announceTransmit port domain => Sys2Proof.Machine.execAnnounceTransmit port domain s
  | .sourceLost domain timeout => Sys2Proof.Machine.execSourceLost domain timeout s
  | .datumAcquired => Sys2Proof.Machine.execDatumAcquired s
  | .gridStep => Sys2Proof.Machine.execGridStep s
  | .datumLocked => Sys2Proof.Machine.execDatumLocked s
  | .ppsInEdge ingress => Sys2Proof.Machine.execPpsInEdge ingress s
  | .ppsOutPulse => Sys2Proof.Machine.execPpsOutPulse s
  | .trigOutputPulse pin => Sys2Proof.Machine.execTrigOutputPulse pin s
  | .trigInputEdge pin rising t => Sys2Proof.Machine.execTrigInputEdge pin rising t s
  | .restepWrite => Sys2Proof.Machine.execRestepWrite s
  | .pDomWrite v => Sys2Proof.Machine.execPDomWrite v s
  | .dtmTimeLatch => Sys2Proof.Machine.execDtmTimeLatch s
  | .tsqPopRead port => Sys2Proof.Machine.execTsqPopRead port s
  | .trigTsRead pin => Sys2Proof.Machine.execTrigTsRead pin s
  | .trigStartWrite pin start => Sys2Proof.Machine.execTrigStartWrite pin start s
  | .linkUp port => Sys2Proof.Machine.execLinkUp port s
  | .linkDown port cause cutUp => Sys2Proof.Machine.execLinkDown port cause cutUp s
  | .helloTransmit port => Sys2Proof.Machine.execHelloTransmit port s
  | .helloReceived port uid addr nport role epoch blockHi depth => Sys2Proof.Machine.execHelloReceived port uid addr nport role epoch blockHi depth s
  | .cairnFrameReceived port rx c => Sys2Proof.Machine.execCairnFrameReceived port rx c s
  | .enumClear port epoch => Sys2Proof.Machine.execEnumClear port epoch s
  | .enumClearWait => Sys2Proof.Machine.execEnumClearWait s
  | .enumAssign port src epoch addr depth topo => Sys2Proof.Machine.execEnumAssign port src epoch addr depth topo s
  | .enumBusy port epoch => Sys2Proof.Machine.execEnumBusy port epoch s
  | .enumDone port epoch hi trunc => Sys2Proof.Machine.execEnumDone port epoch hi trunc s
  | .enumAssignTimeout port => Sys2Proof.Machine.execEnumAssignTimeout port s
  | .enumReport epoch e => Sys2Proof.Machine.execEnumReport epoch e s
  | .enumComplete epoch count first depths ring => Sys2Proof.Machine.execEnumComplete epoch count first depths ring s
  | .wrapReceived port epoch a b => Sys2Proof.Machine.execWrapReceived port epoch a b s
  | .remoteRequest src reqId rspLen tc body data => Sys2Proof.Machine.execRemoteRequest src reqId rspLen tc body data s
  | .remoteAck src reqId => Sys2Proof.Machine.execRemoteAck src reqId s
  | .remoteResponse src reqId tc body data => Sys2Proof.Machine.execRemoteResponse src reqId tc body data s
  | .remoteResponseAck src reqId => Sys2Proof.Machine.execRemoteResponseAck src reqId s
  | .remoteAckTimeout response peer reqId => Sys2Proof.Machine.execRemoteAckTimeout response peer reqId s
  | .remoteExecTimeout dst reqId => Sys2Proof.Machine.execRemoteExecTimeout dst reqId s
  | .faultNoticeReceived src cls source react => Sys2Proof.Machine.execFaultNoticeReceived src cls source react s
  | .fwBulkData src kind xferId total offset data => Sys2Proof.Machine.execFwBulkData src kind xferId total offset data s
  | .fwBulkStatus src xferId acked => Sys2Proof.Machine.execFwBulkStatus src xferId acked s
  | .fwBulkDone src xferId status => Sys2Proof.Machine.execFwBulkDone src xferId status s
  | .fwBulkTimeout late => Sys2Proof.Machine.execFwBulkTimeout late s
  | .prbsCfgWrite port gen chk => Sys2Proof.Machine.execPrbsCfgWrite port gen chk s
  | .injOneWrite port => Sys2Proof.Machine.execInjOneWrite port s
  | .injFcsWrite port => Sys2Proof.Machine.execInjFcsWrite port s
  | .transmissionSelect port t => Sys2Proof.Machine.execTransmissionSelect port t s
  | .gateChange port t => Sys2Proof.Machine.execGateChange port t s
  | .gclCommitWrite port sub => Sys2Proof.Machine.execGclCommitWrite port sub s
  | .gclSwitch port t => Sys2Proof.Machine.execGclSwitch port t s
  | .chsCounterClearWrite port => Sys2Proof.Machine.execChsCounterClearWrite port s
  | .queueSample t => Sys2Proof.Machine.execQueueSample t s
  | .faultDetected new fired ctx lost => Sys2Proof.Machine.execFaultDetected new fired ctx lost s
  | .faultCollectorDisagree logWritable => Sys2Proof.Machine.execFaultCollectorDisagree logWritable s
  | .errAckWrite => Sys2Proof.Machine.execErrAckWrite s
  | .faultInjectArmWrite => Sys2Proof.Machine.execFaultInjectArmWrite s
  | .housekeepingRound temps supplies iact deaf => Sys2Proof.Machine.execHousekeepingRound temps supplies iact deaf s
  | .safetySample inputs copyBad => Sys2Proof.Machine.execSafetySample inputs copyBad s
  | .testPulse tp stuck crossed driver => Sys2Proof.Machine.execTestPulse tp stuck crossed driver s
  | .inputDiscrepancy p => Sys2Proof.Machine.execInputDiscrepancy p s
  | .edmTimeout p => Sys2Proof.Machine.execEdmTimeout p s
  | .outputSwitchTest n low pass => Sys2Proof.Machine.execOutputSwitchTest n low pass s
  | .staticCheck n pass => Sys2Proof.Machine.execStaticCheck n pass s
  | .outputOvercurrent n => Sys2Proof.Machine.execOutputOvercurrent n s
  | .outputRestart n => Sys2Proof.Machine.execOutputRestart n s
  | .oscillatorFault ch => Sys2Proof.Machine.execOscillatorFault ch s
  | .channelDisagreement ch => Sys2Proof.Machine.execChannelDisagreement ch s
  | .fbrstNPulse ms fail => Sys2Proof.Machine.execFbrstNPulse ms fail s
  | .resetPendTimeout => Sys2Proof.Machine.execResetPendTimeout s
  | .sessionTimeout => Sys2Proof.Machine.execSessionTimeout s
  | .firebreakLinkLoss => Sys2Proof.Machine.execFirebreakLinkLoss s
  | .aprFlagChange => Sys2Proof.Machine.execAprFlagChange s
  | .darkeningStart => Sys2Proof.Machine.execDarkeningStart s
  | .darkeningRelease n => Sys2Proof.Machine.execDarkeningRelease n s
  | .safetyLogFlush => Sys2Proof.Machine.execSafetyLogFlush s
  | .doeDiscovery index => Sys2Proof.Machine.execDoeDiscovery index s
  | .spdmGetVersion len => Sys2Proof.Machine.execSpdmGetVersion len s
  | .spdmGetCapabilities len => Sys2Proof.Machine.execSpdmGetCapabilities len s
  | .spdmNegotiateAlgorithms len dmtf p384 sha384 => Sys2Proof.Machine.execSpdmNegotiateAlgorithms len dmtf p384 sha384 s
  | .spdmGetDigests len => Sys2Proof.Machine.execSpdmGetDigests len s
  | .spdmGetCertificate len slot offset length => Sys2Proof.Machine.execSpdmGetCertificate len slot offset length s
  | .spdmChallenge len slot nonce => Sys2Proof.Machine.execSpdmChallenge len slot nonce s
  | .spdmGetMeasurements len index signed nonce => Sys2Proof.Machine.execSpdmGetMeasurements len index signed nonce s
  | .spdmUnsupportedRequest len => Sys2Proof.Machine.execSpdmUnsupportedRequest len s
  | .jtagInstructionLoad code => Sys2Proof.Machine.execJtagInstructionLoad code s
  | .fuseProgWrite code ok => Sys2Proof.Machine.execFuseProgWrite code ok s
  | .prbsCheckerLock port errors => Sys2Proof.Machine.execPrbsCheckerLock port errors s
  | .brstEnd st => Sys2Proof.Machine.execBrstEnd st s
  | .foresterRestartComplete fuseOk => Sys2Proof.Machine.execForesterRestartComplete fuseOk s
  | .flashWriteComplete op => Sys2Proof.Machine.execFlashWriteComplete op s
  | .perstNRelease => Sys2Proof.Machine.execPerstNRelease s
  | .busMasterEnableChange fn enable d3hot => Sys2Proof.Machine.execBusMasterEnableChange fn enable d3hot s
  | .firebreakLinkReturn => Sys2Proof.Machine.execFirebreakLinkReturn s

end Sys2Proof.Machine
end

