-- ==== Sys2Proof/Safety.lean ====
section
/-! DEFINITION. What counts as a safe run: every step answers a next state, the register file keeps its canonical form with
every field inside its width, the queue is served in order, nothing put out is taken back. -/

namespace Sys2Proof.Machine

/-- A step answers a next state: neither a fault nor a refusal. -/
def Runs (s : State) : Prop := ∃ t, step s = .next t

/-- What an unlisted key of the register file reads as: the reset value of its field. -/
def regDflt (k : Nat) : Nat := (Fid.ofNat (k % 1024)).reset (k / 1024)

/-- The register file in canonical form, every listed field holding a value of its width. -/
def RegsOk (t : Tbl Nat) : Prop :=
  Tbl.wf regDflt t = true ∧ ∀ p ∈ t, p.2 < 2 ^ (Fid.ofNat (p.1 % 1024)).width

/-- The invariant of the block's registers: canonical form, and every field reads as a value of its width. -/
def State.RegInv (s : State) : Prop := RegsOk s.regs ∧ ∀ f i, s.rd f i < 2 ^ f.width

/-! ## What statements about one command say -/

/-- Every register field but those that `p` picks reads the same in `t` as in `s`. -/
def State.RegsBut (s t : State) (p : Fid → Nat → Prop) : Prop := ∀ f i, ¬ p f i → t.rd f i = s.rd f i

/-- Every mailbox but `m` is the same in `t` as in `s`, and mailbox `m` but for its commands in flight. -/
def State.MbxBut (s t : State) (m : Nat) : Prop :=
  (∀ n, n ≠ m → t.mb n = s.mb n) ∧ { t.mb m with flight := (s.mb m).flight } = s.mb m

/-- The command of header `h` has reached its effect point with the result `c`, which falls due (R384). -/
def State.Finished (t : State) (h : Hdr) (c : Completion) : Prop :=
  ∃ f, f ∈ (t.mb h.mbx).flight ∧ f.tag = h.tag ∧ f.remote = h.remote ∧ f.eff = true ∧ f.comp = some c

/-- From `s` to `t` the command of header `h` completes with the result `c`, and nothing else changes: the commands in
flight of its mailbox, their number in MBX_STATUS and the next flight number carry the completion, every other register
field, mailbox and part of the state is the same. -/
structure State.Completed (s t : State) (h : Hdr) (c : Completion) : Prop where
  finished : t.Finished h c
  regs : s.RegsBut t (fun f i => f = .mbx_status_inflight ∧ i = h.mbx)
  mbx : s.MbxBut t h.mbx
  host : { t.host with nextId := s.host.nextId } = s.host
  rest : t = { s with regs := t.regs, mbx := t.mbx, host := t.host }

/-- The parts of the state beside the register file and the queue. -/
inductive StatePart where
  | map | loop | trv | stand | mbx | rings | host | flt | hkp | fbk | boot | datum | ports | fab | sch | free | out
  deriving DecidableEq, Repr

/-- A part of the state is the same in `t` as in `s`. -/
def StatePart.same (s t : State) : StatePart → Prop
  | .map => t.map = s.map
  | .loop => t.loop = s.loop
  | .trv => t.trv = s.trv
  | .stand => t.stand = s.stand
  | .mbx => t.mbx = s.mbx
  | .rings => t.rings = s.rings
  | .host => t.host = s.host
  | .flt => t.flt = s.flt
  | .hkp => t.hkp = s.hkp
  | .fbk => t.fbk = s.fbk
  | .boot => t.boot = s.boot
  | .datum => t.datum = s.datum
  | .ports => t.ports = s.ports
  | .fab => t.fab = s.fab
  | .sch => t.sch = s.sch
  | .free => t.free = s.free
  | .out => t.out = s.out

/-- From `s` to `t` every register field but those of `fs`, with every index, every part of the state but those of `ps`,
and the queue are unchanged. -/
def State.Frame (s t : State) (fs : List Fid) (ps : List StatePart) : Prop :=
  (∀ f, f ∉ fs → ∀ i, t.rd f i = s.rd f i) ∧ (∀ p, p ∉ ps → p.same s t) ∧ t.pending = s.pending

/-- From `s` to `t` the operation of owner `o` ends with the result `c`: its command in flight, not yet due, falls due with
that result and its effect (R384). -/
def State.Concludes (s t : State) (o : Owner) (c : Completion) : Prop :=
  ∀ f, f ∈ (s.mb o.mbx).flight → f.id = o.id → f.comp = none →
    { f with eff := true, comp := some c } ∈ (t.mb o.mbx).flight

/-- From `s` to `t` Firebreak enters LOCKOUT with a cause and an object (R424): every output is off, FB_OK is low, the entry is
counted and its time kept. -/
structure State.LocksOut (s t : State) (cause obj : Nat) : Prop where
  state : t.fbk.state = 2
  outs : ∀ n : Fin 4, (t.fout n).on = false
  cause : t.rd .fbk_fault_cause 0 = cause
  obj : t.rd .fbk_fault_obj 0 = obj
  fbOk : t.rd .fbk_status_fb_ok 0 = 0
  count : t.fbk.lockouts = min (s.fbk.lockouts + 1) 65535
  time : t.fbk.tLock = s.datum.t

/-- The command of header `h` is in flight with number `id` and its completion is not due (R384). -/
def State.InFlight (t : State) (h : Hdr) (id : Nat) : Prop :=
  ∃ f, f ∈ (t.mb h.mbx).flight ∧ f.id = id ∧ f.tag = h.tag ∧ f.remote = h.remote ∧ f.comp = none

end Sys2Proof.Machine
end

