-- ==== Sys2Proof/Certificates/Slice0/Obligations.lean ====
section
/-! DEFINITION. The statements for the provers. -/

set_option linter.unusedVariables false

open Sys2Proof Sys2Proof.Machine

/-- For every command c, every queue rest and every state s, the step of s with c at the front of its queue is exec of
c on s with rest as the queue. The queue first in, first out, is the model's own (assumption 1). -/
def Obligations.StepRunsFrontCommand : Prop :=
  ∀ (c : Instr) (rest : List Instr) (s : State),
    step { s with pending := c :: rest } = exec c { s with pending := rest }

/-- The step of a state whose queue is empty answers that same state (the model's choice, assumption 1); the table of
operations gives no row any bits, so that no word spells a command and placing one changes nothing. -/
def Obligations.EmptyQueueIdles : Prop :=
  (∀ s : State, s.pending = [] → step s = .next s) ∧
  (∀ nbits w, decodeTableWord nbits w = none) ∧
  (∀ (s : State) nbits w, s.withFetchWord nbits w = s)

/-- In the state after reset every register field, with every index, reads its reset value; no command waits and
nothing has been put out; and the register invariant holds: the file is in canonical form and every field is below two
to the power of its width. (Reset values that no rule gives are the model's, assumption 2.) -/
def Obligations.ResetMeetsRegisterInvariant : Prop :=
  (∀ f i, State.reset.rd f i = f.reset i) ∧ State.reset.pending = [] ∧ State.reset.out = [] ∧ State.reset.RegInv

/-- For every state that meets the register invariant (the register file in canonical form, every listed entry and
every field with every index below two to the power of its width), whatever command stands at the front of the queue,
the state that the step answers meets it too. -/
def Obligations.StepKeepsRegisterInvariant : Prop :=
  ∀ s t : State, s.RegInv → step s = .next t → t.RegInv

/-- For every state, the step answers a next state, never a fault or a refusal: every command of the table has its
effect, a status or a discard on every state. The queue of that state is the old one without its front, every output
put out before is still there, in order, before the new ones, and free values are only used up (all three are the
model's own, assumptions 1 and 3). -/
def Obligations.EveryStepAnswers : Prop :=
  ∀ s : State, ∃ t, step s = .next t ∧ t.pending = s.pending.tail ∧ s.out <+: t.out ∧ s.free ≤ t.free

/-- POR answers a state in which every field not of class VSIO reads its reset value, but ERR_N's level and the four
fuse fields, which are as they were; no map is in force, no activation or reread of one is in progress, and the map
slots stay, Traverse keeps only flash and the start-up slot, the fault collector only its flash copy and the end of
the 10 µs for which ERR_N may yet stay low, boot its banks and their marker with the boot step 0, and mailboxes,
Stands, host endpoint, housekeeping, Datum, ports, fabric and scheduler are empty. VSIO_RESET does the same, and every
field of class VSIO reads its reset value and Firebreak keeps its stored copies and starts from state 0 without a
configuration. DRST restores every field of neither class POR nor VSIO but ERR_N's level and the DAC code words,
leaves every field of class POR, takes the map out of force, keeps the fault log, the flash copies and the map slots,
and empties the queues, rings, mailbox flights, library and element states. -/
def Obligations.PowerAndDeviceResetsRestore : Prop :=
  (∀ c s, ∃ t, exec (.por c) s = .next t ∧
    (∀ f i, f.cls ≠ .vsio → f ≠ .flt_status_errn →
      f ∉ [.boot_fuse_sig_enf, .boot_fuse_jtag_lock, .boot_fuse_revoke, .boot_fuse_svn_fuse] → t.rd f i = f.reset i) ∧
    (∀ f i, f ∈ [.boot_fuse_sig_enf, .boot_fuse_jtag_lock, .boot_fuse_revoke, .boot_fuse_svn_fuse] →
      t.rd f i = s.rd f i) ∧
    t.map = { s.map with force := none, change := none, reread := false } ∧
    t.trv = { flash := s.trv.flash, boot := s.trv.boot } ∧ { t.flt with errTo := 0 } = { flash := s.flt.flash } ∧ t.boot.bankA = s.boot.bankA ∧ t.boot.bankB = s.boot.bankB ∧
    t.boot.activeB = s.boot.activeB ∧ t.boot.step = 0 ∧ t.boot.clkref = c ∧ t.loop.elems = [] ∧
    t.mbx = [] ∧ t.rings = [] ∧ t.stand = {} ∧ t.host = {} ∧ t.hkp = {} ∧ t.datum = {} ∧ t.ports = [] ∧ t.fab = {} ∧
    t.sch = []) ∧
  (∀ c s, ∃ t, exec (.vsioReset c) s = .next t ∧
    (∀ f i, f ≠ .flt_status_errn →
      f ∉ [.boot_fuse_sig_enf, .boot_fuse_jtag_lock, .boot_fuse_revoke, .boot_fuse_svn_fuse] → t.rd f i = f.reset i) ∧
    t.fbk = { copyA := s.fbk.copyA, copyB := s.fbk.copyB, log := s.fbk.log, logNext := s.fbk.logNext } ∧
    t.map = { s.map with force := none, change := none, reread := false } ∧ t.boot.step = 0 ∧ t.loop.elems = [] ∧ t.mbx = []) ∧
  (∀ c s, ∃ t, exec (.drst c) s = .next t ∧
    (∀ f i, f.cls ≠ .por → f.cls ≠ .vsio → f ≠ .flt_status_errn → f ≠ .ust_vdac_status_code → t.rd f i = f.reset i) ∧
    (∀ f i, f.cls = .por → t.rd f i = s.rd f i) ∧
    t.map = { s.map with force := none, change := none, reread := false } ∧ t.trv = { flash := s.trv.flash, boot := s.trv.boot } ∧
    t.flt.log = s.flt.log ∧ t.flt.flash = s.flt.flash ∧ t.flt.reports = s.flt.reports ∧ t.flt.drstPending = false ∧
    t.boot.step = 0 ∧ t.boot.clkref = c ∧ t.loop.calFlash = s.loop.calFlash ∧ t.rings = [] ∧ t.stand = {} ∧ t.ports = [] ∧
    t.sch = [] ∧ ∀ m, (t.mb m).flight = [] ∧ (t.mb m).fetched = [])

/-- HRST answers a state in which every mailbox 0 to 7 has no fetched command and none in flight and keeps its
partition, no telemetry ring of one is configured, no SPDM exchange stands, and no safety session is open; the map and
its slots, the elements, the queued Clearings, the state in force, the state library, housekeeping, chain ports and
scheduler are as they were; PERST_N is low after it only where PERST_N caused it. A function-level reset of VF k does
that to mailbox k + 1 alone and leaves every other mailbox, and with VF Enable cleared to mailboxes 1 to 7; the same
parts stay. -/
def Obligations.EndpointResetsLeaveLight : Prop :=
  (∀ cause s, ∃ t, exec (.hrst cause) s = .next t ∧
    (∀ m, m < 8 → (t.mb m).flight = [] ∧ (t.mb m).fetched = [] ∧ (t.mb m).part = (s.mb m).part ∧
      ∀ j, j < 64 → t.ring (64 * m + j) = {}) ∧
    t.boot = { s.boot with spdmVersion := false, spdmCaps := false, spdmAlgs := false
                           xferOut := t.boot.xferOut, actStep := t.boot.actStep, actOwner := t.boot.actOwner } ∧
    t.fbk.session = false ∧ t.map = { s.map with change := t.map.change } ∧ t.loop.elems = s.loop.elems ∧ t.trv.queue = s.trv.queue ∧
    t.trv.force = s.trv.force ∧ t.trv.slots = s.trv.slots ∧ t.hkp = s.hkp ∧ t.ports = s.ports ∧ t.sch = s.sch ∧
    t.host.perstHigh = (if cause = .perst then false else s.host.perstHigh)) ∧
  (∀ (k : Fin 7) s, ∃ t, exec (.vfFunctionLevelReset (some k)) s = .next t ∧
    (t.mb (k + 1)).flight = [] ∧ (t.mb (k + 1)).fetched = [] ∧ (t.mb (k + 1)).part = (s.mb (k + 1)).part ∧
    (∀ n, n ≠ k.val + 1 → t.mb n = s.mb n) ∧
    t.map = { s.map with change := t.map.change } ∧ t.loop.elems = s.loop.elems ∧ t.trv.queue = s.trv.queue ∧ t.trv.force = s.trv.force) ∧
  (∀ s, ∃ t, exec (.vfFunctionLevelReset none) s = .next t ∧
    (∀ m, 1 ≤ m → m < 8 → (t.mb m).flight = [] ∧ (t.mb m).fetched = [] ∧ (t.mb m).part = (s.mb m).part) ∧
    t.mb 0 = s.mb 0 ∧ t.map = { s.map with change := t.map.change } ∧ t.loop.elems = s.loop.elems ∧ t.trv.queue = s.trv.queue ∧
    t.trv.force = s.trv.force)

/-- With no DRST decided: BRST of Traverse empties the Clearing queue and every solve, and the library, its flash
copies, the start-up slot and the state in force stay. BRST of a chain port gives each of its own register fields (its
CHP window but role and range) its reset value and keeps the neighbour that enumeration recorded. BRST of Datum keeps
its time and rate, drops a pending grid step and the timestamp queues, and leaves Datum P in HOLDOVER where it was
SLEWING or LOCKED and FREE otherwise. BRST of a shadow Stand that is not OFFLINE puts it OFFLINE (state 0), under
reset. A DRST that is decided absorbs BRST. BRST_END of an OFFLINE Stand under BRST with AUTO_RETURN 1 and no firmware
activation starts its return: it leaves reset, is SYNCING (state 1), and copies every compartment. -/
def Obligations.BlockResetsRestoreTheirBlock : Prop :=
  (∀ b s, s.flt.drstPending = true → exec (.brst b) s = .next s) ∧
  (∀ s, s.flt.drstPending = false → ∃ t, exec (.brst .traverse) s = .next t ∧ t.trv.queue = [] ∧ t.trv.waiting = [] ∧
    t.trv.running = none ∧ t.trv.solved = [] ∧ t.trv.slots = s.trv.slots ∧ t.trv.flash = s.trv.flash ∧
    t.trv.boot = s.trv.boot ∧ t.trv.force = s.trv.force) ∧
  (∀ (p : Fin 4) s, s.flt.drstPending = false → ∃ t, exec (.brst (.port p)) s = .next t ∧
    (∀ f, Fid.between .chp_cfg_en .chp_event_event_en f = true →
      f ∉ [.chp_status_role, .chp_range_lo, .chp_range_hi] → t.rd f p = f.reset p) ∧
    Tbl.get {} t.ports p = { known := (Tbl.get {} s.ports p).known }) ∧
  (∀ s, s.flt.drstPending = false → ∃ t, exec (.brst .datum) s = .next t ∧ t.datum.t = s.datum.t ∧
    t.rd .dtm_rate_rho 0 = s.rd .dtm_rate_rho 0 ∧ t.datum.stepPlan = none ∧ t.datum.ports = [] ∧
    t.rd .dtm_status_p_state 0 =
      if s.rd .dtm_status_p_state 0 = 2 ∨ s.rd .dtm_status_p_state 0 = 3 then 4 else 0) ∧
  (∀ (st : Fin 2) s, s.flt.drstPending = false → st.val ≠ s.holder → s.standState st ≠ 0 →
    ∃ t, exec (.brst (.stand st)) s = .next t ∧ t.standState st = 0 ∧ st.val ∈ t.stand.reset) ∧
  (∀ (st : Fin 2) s, st.val ∈ s.stand.reset → s.standState st = 0 → s.boot.actStep = 0 →
    s.rd .glb_baton_cfg_auto_return 0 ≠ 0 → ∃ t, exec (.brstEnd st) s = .next t ∧
    st.val ∉ t.stand.reset ∧ t.standState st = 1 ∧ t.stand.copying = some (st.val, [0, 1, 2, 3]))

/-- SQ_DOORBELL of an enabled mailbox with a tail inside the ring sets SQ_TAIL to it; any other value, or EN 0, sets
DB_ERR; nothing else changes. COMMAND_FETCH of a mailbox that can fetch takes the entries up to SQ_TAIL, in order,
after those fetched before, and moves SQ_HEAD past them; its commands in flight and every other mailbox stay. Clearing
EN clears EN and RDY; setting it with nothing fetched or in flight sets heads and tails to 0, the phase to 1, releases
every entry and sets EN. A DMA error without a command's buffer, cause 1 or 3, sets ERR and its cause, clears RDY,
stops fetching and is reported as source 0x38; one of a command's own buffer completes that command with INTERNAL.
BUS_MASTER_ENABLE_CHANGE keeps both bits of its function; where they let it use host memory, the writes that waited
for it are made in order, and otherwise nothing is written. PERST_N rising starts link training. -/
def Obligations.SubmissionSideCompletes : Prop :=
  (∀ (m : Fin 8) v s, v < 65536 →
    (s.rd .mbx_ctrl_en m ≠ 0 → v < s.sqSize m → ∃ t, exec (.sqDoorbell m v) s = .next t ∧ t.rd .mbx_sq_db_sq_tail m = v ∧
      s.RegsBut t (fun f i => f = .mbx_sq_db_sq_tail ∧ i = m) ∧ t = { s with regs := t.regs }) ∧
    (s.rd .mbx_ctrl_en m = 0 ∨ s.sqSize m ≤ v → ∃ t, exec (.sqDoorbell m v) s = .next t ∧ t.rd .mbx_status_db_err m = 1 ∧
      s.RegsBut t (fun f i => f = .mbx_status_db_err ∧ i = m) ∧ t = { s with regs := t.regs })) ∧
  (∀ (m : Fin 8) entries s, s.canFetch m = true → ∃ t, exec (.commandFetch m entries) s = .next t ∧
    (t.mb m).fetched = (s.mb m).fetched ++ (entries.take (s.toFetch m)).map (fun e => (e, none)) ∧
    t.rd .mbx_sq_db_sq_head m = (s.rd .mbx_sq_db_sq_head m + min (s.toFetch m) entries.length) % s.sqSize m
      % 2 ^ Fid.mbx_sq_db_sq_head.width ∧
    (t.mb m).flight = (s.mb m).flight ∧ ∀ n, n ≠ m.val → t.mb n = s.mb n) ∧
  (∀ (m : Fin 8) s, (∃ t, exec (.mbxEnableWrite m false) s = .next t ∧ t.rd .mbx_ctrl_en m = 0 ∧ t.rd .mbx_status_rdy m = 0) ∧
    (s.rd .mbx_ctrl_en m = 0 → (s.mb m).flight = [] → (s.mb m).fetched = [] →
      ∃ t, exec (.mbxEnableWrite m true) s = .next t ∧ t.rd .mbx_ctrl_en m = 1 ∧ t.rd .mbx_sq_db_sq_head m = 0 ∧
        t.rd .mbx_sq_db_sq_tail m = 0 ∧ t.rd .mbx_cq_db_cq_head m = 0 ∧ t.rd .mbx_cq_db_cq_tail m = 0 ∧
        (t.mb m).phase = true ∧ (t.mb m).unreleased = 0 ∧ ∀ n, n ≠ m.val → t.mb n = s.mb n)) ∧
  (∀ (m : Fin 8) (c : Fin 4) s, c.val = 1 ∨ c.val = 3 → ∃ t, exec (.mailboxDmaError m c none) s = .next t ∧
    t.rd .mbx_status_err m = 1 ∧ t.rd .mbx_status_err_cause m = c ∧ t.rd .mbx_status_rdy m = 0 ∧
    (t.mb m).stopped = true ∧ (t.mb m).flight = (s.mb m).flight ∧
    t.flt.reports = s.flt.reports ++ [{ src := 0x38, objKind := 5, obj := m }]) ∧
  (∀ (m : Fin 8) (c : Fin 4) f s, f ∈ (s.mb m).flight → f.remote = none →
    ∃ t, exec (.mailboxDmaError m c (some f.tag)) s = .next t ∧
      { f with eff := true, comp := some { status := .internal } } ∈ (t.mb m).flight) ∧
  (∀ (fn : Fin 8) enable d3hot s, ∃ t, exec (.busMasterEnableChange fn enable d3hot) s = .next t ∧
    t.mb fn = { s.mb fn with busMaster := enable, d3hot := d3hot } ∧ (∀ n, n ≠ fn.val → t.mb n = s.mb n) ∧
    (enable = true → d3hot = false → t.out = s.out ++ (s.host.held.filter (fun w => w.1 == fn.val)).map (fun w =>
        Output.hostWrite fn w.2.1 w.2.2) ∧ t.host.held = s.host.held.filter (fun w => w.1 != fn.val)) ∧
    (enable = false ∨ d3hot = true → t.out = s.out ∧ t.host = s.host)) ∧
  (∀ s, exec .perstNRelease s = .next { s with host := { s.host with perstHigh := true, training := true } })

/-- COMMAND_ADMISSION, with admission open and CLKREF present, of the mailbox whose turn it is, for a host command
that passes the tag and token checks, moves it from the fetched commands to the end of those in flight with the next
number and makes the mailbox the one admitted last; where the opcode, form or unused-field check refuses it, it is in
flight with that status as its completion. POLICE_HOLD_RESUME of a held mailbox whose level holds a command clears
HELD in both registers. COMPLETION_POST of a due completion of the host's own at the head of the order, with host
memory open and room in the ring, puts out its entry at CQ_TAIL with the phase, frees it and advances CQ_TAIL.
CQ_HEAD_WRITE inside the ring releases the entries before it. COMPLETION_INTERRUPT at the threshold, for IMM, or when
the oldest has waited a nonzero IRQ_TIME (its µs in whole frames that cover them, assumption 85), raises the vector
and announces all. -/
def Obligations.AdmissionAndCompletionsComplete : Prop :=
  (∀ m e rest s, s.turn = some m → s.host.admission = true → s.boot.clkref = true → (s.mb m).fetched = (e, none) :: rest →
    s.tagCheck m (entryTag e) = none → s.tokenCheck m (e.getD 0 0) = .pass → ∃ t, exec .commandAdmission s = .next t ∧
      (t.mb m).fetched = rest ∧
      (t.mb m).flight = (s.mb m).flight ++ [{
        id := s.host.nextId, tag := entryTag e, imm := (e.getD 4 0).testBit 0, eff := (s.entryCheck e false).isSome
        comp := (s.entryCheck e false).map (fun st => { status := st }) }] ∧
      t.host = { s.host with nextId := s.host.nextId + 1, lastMbx := m } ∧ ∀ n, n ≠ m → t.mb n = s.mb n) ∧
  (∀ (m : Fin 8) s, s.rd .chs_pol_status_held m ≠ 0 → tokenUnit ≤ (s.mb m).level →
    ∃ t, exec (.policeHoldResume m) s = .next t ∧ t.rd .chs_pol_status_held m = 0 ∧ t.rd .mbx_status_held m = 0 ∧
      s.RegsBut t (fun f i => (f = .chs_pol_status_held ∨ f = .mbx_status_held) ∧ i = m) ∧ t = { s with regs := t.regs }) ∧
  (∀ (m : Fin 8) f c r s, (s.mb m).flight = f :: r → f.comp = some c → f.remote = none → s.hostOpen m = true →
    (s.mb m).unreleased < s.cqSize m → ∃ t, exec (.completionPost m) s = .next t ∧
      t.out = s.out ++ [.completion m (s.rd .mbx_cq_db_cq_tail m) c f.tag (s.mb m).phase] ∧
      (t.mb m).flight = r ∧ (t.mb m).unreleased = (s.mb m).unreleased + 1 ∧
      (t.mb m).unannounced = (s.mb m).unannounced + 1 ∧
      (s.rd .mbx_cq_db_cq_tail m + 1 = s.cqSize m → t.rd .mbx_cq_db_cq_tail m = 0 ∧ (t.mb m).phase = !(s.mb m).phase) ∧
      (s.rd .mbx_cq_db_cq_tail m + 1 ≠ s.cqSize m → (t.mb m).phase = (s.mb m).phase ∧
        t.rd .mbx_cq_db_cq_tail m = (s.rd .mbx_cq_db_cq_tail m + 1) % 2 ^ Fid.mbx_cq_db_cq_tail.width)) ∧
  (∀ (m : Fin 8) v s, v < s.cqSize m → v < 65536 →
    (s.rd .mbx_cq_db_cq_tail m + s.cqSize m - v) % s.cqSize m ≤ (s.mb m).unreleased →
    ∃ t, exec (.cqHeadWrite m v) s = .next t ∧ t.rd .mbx_cq_db_cq_head m = v ∧
      t.mb m = { s.mb m with unreleased := (s.rd .mbx_cq_db_cq_tail m + s.cqSize m - v) % s.cqSize m } ∧
      ∀ n, n ≠ m.val → t.mb n = s.mb n) ∧
  (∀ (m : Fin 8) timed s, 0 < (s.mb m).unannounced → s.hostOpen m = true →
    (if timed = true then s.rd .mbx_ctrl_irq_time m ≠ 0 ∧
        (s.mb m).oldestAt + framesIn (s.rd .mbx_ctrl_irq_time m * 1000) ≤ s.loop.frames
      else s.rd .mbx_ctrl_irq_thresh m ≤ (s.mb m).unannounced ∨ (s.mb m).immPending = true) →
    ∃ t, exec (.completionInterrupt m timed) s = .next t ∧ t.out = s.out ++ [.msix m 0] ∧
      t.mb m = { s.mb m with unannounced := 0, immPending := false })

/-- RING_INTERRUPT of a ring with unannounced records at THRESH, or TIME µs after the first of them, with host memory
open, raises its vector (16 + j of the PF for mailbox 0, else vector 2 of its function) and announces them.
TR_CONS_WRITE sets CONS where the fill it leaves is at most the ring's size, and otherwise sets only RING_ERR.
TELEMETRY_FRAME_RECEIVED from the ring's ORIGIN, with room, writes the record at its place and counts it (a write to
host memory that the mailbox may not use waits); from another source, or with the ring off, it only counts TR_REJ.
TELEMETRY_CFG RING of the mailbox's own ring with valid fields, the ring off and no source bound to it configures it
and completes OK. TELEMETRY_CFG SOURCE with a valid source, range of objects in the partition, ring and record size,
and for LOOP a decimation and a total rate of at most 2^28 records a second, binds it after every other binding; with
EN 0 it unbinds it; both complete OK. -/
def Obligations.TelemetryRingsComplete : Prop :=
  (∀ (m : Fin 8) (j : Fin 48) timed s, j.val < ringCount m → s.hostOpen m = true →
    (s.ring (64 * m + j)).announced ≠ (s.ring (64 * m + j)).prod →
    (if timed = true then (s.ring (64 * m + j)).firstAt + framesIn ((s.ring (64 * m + j)).time * 1000) ≤ s.loop.frames
      else (s.ring (64 * m + j)).thresh ≤ s.ringFill (64 * m + j)) →
    ∃ t, exec (.ringInterrupt m j timed) s = .next t ∧
      t.out = s.out ++ [if m.val = 0 then .msix 0 (16 + j) else .msix m 2] ∧
      t.ring (64 * m + j) = { s.ring (64 * m + j) with announced := (s.ring (64 * m + j)).prod }) ∧
  (∀ (m : Fin 8) (j : Fin 48) v s, j.val < ringCount m → v < 2 ^ 32 →
    ((2 ^ 32 + (s.ring (64 * m + j)).prod - v) % 2 ^ 32 ≤ 2 ^ (s.ring (64 * m + j)).rlog →
      ∃ t, exec (.trConsWrite m j v) s = .next t ∧ t.rd .mbx_tr_cons_cons (64 * m + j) = v ∧
        s.RegsBut t (fun f i => f = .mbx_tr_cons_cons ∧ i = 64 * m.val + j) ∧ t = { s with regs := t.regs }) ∧
    (2 ^ (s.ring (64 * m + j)).rlog < (2 ^ 32 + (s.ring (64 * m + j)).prod - v) % 2 ^ 32 →
      ∃ t, exec (.trConsWrite m j v) s = .next t ∧ t.rd .mbx_tr_status_ring_err (64 * m + j) = 1 ∧
        s.RegsBut t (fun f i => f = .mbx_tr_status_ring_err ∧ i = 64 * m.val + j) ∧ t = { s with regs := t.regs })) ∧
  (∀ src (ring : Fin 62) rec s, src ≠ 0 →
    (s.rd .mbx_tr_status_en (ringOfNumber ring) ≠ 0 → (s.ring (ringOfNumber ring)).origin = src →
      s.ringFill (ringOfNumber ring) ≠ 2 ^ (s.ring (ringOfNumber ring)).rlog →
      ∃ t, exec (.telemetryFrameReceived src ring [rec]) s = .next t ∧
        (t.ring (ringOfNumber ring)).prod = ((s.ring (ringOfNumber ring)).prod + 1) % 2 ^ 32 ∧
        let at0 := (s.ring (ringOfNumber ring)).base + (s.ring (ringOfNumber ring)).prod
          % 2 ^ (s.ring (ringOfNumber ring)).rlog * (s.ring (ringOfNumber ring)).recsz
        (s.hostOpen (ringOfNumber ring / 64) = true → Output.hostWrite (ringOfNumber ring / 64) at0 rec ∈ t.out) ∧
        (s.hostOpen (ringOfNumber ring / 64) = false →
          t.out = s.out ∧ (ringOfNumber ring / 64, at0, rec) ∈ t.host.held)) ∧
    (s.rd .mbx_tr_status_en (ringOfNumber ring) = 0 ∨ (s.ring (ringOfNumber ring)).origin ≠ src →
      ∃ t, exec (.telemetryFrameReceived src ring [rec]) s = .next t ∧ t.rd .mbx_tr_status_tr_rej (ringOfNumber ring) =
          min (s.rd .mbx_tr_status_tr_rej (ringOfNumber ring) + 1) (2 ^ Fid.mbx_tr_status_tr_rej.width - 1) ∧
        t = { s with regs := t.regs })) ∧
  (∀ h ring rlog recsz origin thresh base wb time s, ring < ringCount h.mbx → 8 ≤ rlog → rlog ≤ 20 →
    recsz = 16 ∨ recsz = 32 ∨ recsz = 48 → base % 4096 = 0 → wb % 16 = 0 → h.remote = none →
    s.rd .mbx_tr_status_en (64 * h.mbx + ring) = 0 → (∀ x ∈ s.host.sources, x.mbx ≠ h.mbx ∨ x.ring ≠ ring ∨ x.dest ≠ 0) →
    ∀ en, en ≤ 1 → ∃ t, exec (.telemetryCfgRing h ring en rlog recsz origin thresh base wb time) s = .next t ∧
      t.Finished h { status := .ok } ∧ t.rd .mbx_tr_status_en (64 * h.mbx + ring) = en ∧
      t.ring (64 * h.mbx + ring) = { s.ring (64 * h.mbx + ring) with
        rlog := rlog, recsz := recsz, origin := origin, thresh := thresh, base := base, wb := wb, time := time }) ∧
  (∀ h ring source first count dec s, ring < ringCount h.mbx → 1 ≤ source → source ≤ 6 →
    (5 ≤ source → h.mbx = 0) → (source < 5 → 1 ≤ count) →
    first + (if 5 ≤ source then 1 else count) ≤ sourceLimit source →
    s.sourceHeld h.mbx source first (if 5 ≤ source then 1 else count) = true →
    recSize source = some (s.ring (64 * h.mbx + ring)).recsz →
    (source = 1 → dec ≠ 0 ∧ (((s.host.sources.filter (fun x => !x.sameAs h.mbx ring 1 0)).filter (fun x => x.source == 1)).map
      (fun x => s.loopRate x.first x.count x.dec)).sum + s.loopRate first count dec ≤ 2 ^ 28) →
    (∃ t, exec (.telemetryCfgSource h ring source 1 first count dec 0) s = .next t ∧ t.Finished h { status := .ok } ∧
      t.host.sources = s.host.sources.filter (fun x => !x.sameAs h.mbx ring source 0) ++ [{
        mbx := h.mbx, ring := ring, source := source, first := first, count := if 5 ≤ source then 1 else count
        dec := if source = 1 then dec else 1, dest := 0 }]) ∧
    (∃ t, exec (.telemetryCfgSource h ring source 0 first count dec 0) s = .next t ∧ t.Finished h { status := .ok } ∧
      t.host.sources = s.host.sources.filter (fun x => !x.sameAs h.mbx ring source 0)))

/-- IDENTIFY of a local command writes the identity record of the module and the mailbox to BUF, GET_STATUS returns
the status word, the low frame counter, the unread log entries and the queued Clearings of the mailbox, and
MEASURE_READ of an aligned buffer writes the record of each selected register and returns their number and
BOOT_STATUS; each completes OK and changes nothing else. PARTITION_SET by MB0, local, of a VF mailbox with a table
that R381 accepts and no tag in flight outside it sets the mailbox's partition and tag range and completes OK.
EXPERT_UNLOCK of a valid scope that the mailbox may unlock, held already or with fewer than eight, puts it in force
with its TTL; EXPERT_LOCK ends the named unlock, with FORM 3 every one; both complete OK. UNLOCK_EXPIRY ends the named
unlock whose TTL, in s and not 0, has passed, and no other. -/
def Obligations.SessionCommandsComplete : Prop :=
  (∀ h buf s, h.remote = none → ∃ t, exec (.identify h buf) s = .next t ∧
    (s.toHost h.mbx buf (s.identity h.mbx)).Completed t h { status := .ok }) ∧
  (∀ h s, ∃ t, exec (.getStatus h) s = .next t ∧ s.Completed t h {
    status := .ok, res0 := s.statusWord h.mbx, res1 := s.frame % 2 ^ 32
    res2 := min 65535 (s.unread h.mbx)
      + 65536 * min 65535 (s.trv.queue.filter (fun c => c.job.h.mbx == h.mbx)).length }) ∧
  (∀ h mask buf s, h.remote = none → buf % 16 = 0 → ∃ t, exec (.measureRead h mask buf) s = .next t ∧
    (s.toHost h.mbx buf ((maskSelects mask).flatMap s.mregRecord)).Completed t h {
      status := .ok, res0 := (maskSelects mask).length, res1 := s.bootWord }) ∧
  (∀ h m buf table s, 1 ≤ m → m ≤ 7 → h.mbx = 0 → h.remote = none → s.badSrc h buf 1 2208 = false →
    s.partBad m table = false →
    (∀ f ∈ (s.mb m).flight, fld table 0 2 ≤ f.tag ∧ f.tag < fld table 0 2 + fld table 2 2) →
    ∃ t, exec (.partitionSet h m buf table) s = .next t ∧ t.Finished h { status := .ok } ∧
      (t.mb m).part = partOf table ∧ t.rd .mbx_tags_tag_base m = fld table 0 2 % 2 ^ Fid.mbx_tags_tag_base.width ∧
      t.rd .mbx_tags_tag_count m = fld table 2 2 % 2 ^ Fid.mbx_tags_tag_count.width ∧
      ∀ n, n ≠ m → (t.mb n).part = (s.mb n).part) ∧
  (∀ h kind which ttl s, unlockBad kind which ttl = false → (kind ≠ 0 → h.mbx = 0) → (kind = 1 → which ≠ 9) →
    (kind = 0 → h.mbx ≠ 0 → (s.mb h.mbx).part.expert = true ∧ s.holdsCpt h.mbx which = true) →
    s.unlockedBy h.mbx kind which = true ∨ (s.mb h.mbx).unlocks.length < 8 →
    ∃ t, exec (.expertUnlock h kind which ttl) s = .next t ∧ t.Finished h { status := .ok } ∧
      (t.mb h.mbx).unlocks = (s.mb h.mbx).unlocks.filter (fun x => !(x.kind == kind && x.which == which))
        ++ [⟨kind, which, ttl, s.loop.frames⟩]) ∧
  (∀ h kind which s, kind ≤ 3 → ∃ t, exec (.expertLock h kind which) s = .next t ∧ t.Finished h { status := .ok } ∧
    (t.mb h.mbx).unlocks = (s.mb h.mbx).unlocks.filter
      (fun x => !(kind == 3 || (x.kind == kind && x.which == which)))) ∧
  (∀ (m : Fin 8) kind which s, ∃ t, exec (.unlockExpiry m kind which) s = .next t ∧
    (t.mb m).unlocks = (s.mb m).unlocks.filter (fun x => !(x.kind == kind && x.which == which && x.ttl != 0 &&
      decide (x.since + framesIn (x.ttl * 1000000000) ≤ s.loop.frames))) ∧
    ∀ n, n ≠ m.val → t.mb n = s.mb n)

/-- MONITOR_RANGE_CHANGE of a monitor with a range asked for in an earlier frame and no precision window running puts
the range in force, strikes off the request, marks the two frames of that boundary invalid under cause 1 and leaves
every other monitor. COMPARATOR_CHANGE of a side whose persistence count is complete turns that side over, restarts
its count, leaves the other side and every other monitor, and reports source 0x12 of the monitor. MONITOR_READ, local,
with a count of 1 to 1,536 inside 0 to 6,143, RANGE_SET 0 to 3 or 0xFF, a 4-byte aligned buffer and monitors of the
mailbox's partition is in flight and kept among the reads that wait for a frame; with RANGE_SET 0 to 3 each of its
monitors has that range asked for from this frame, or nothing asked for where it is in force. CAL_STATUS, local, of a
KIND 1 to 3 with objects of that kind, an aligned buffer and objects of the mailbox's partition writes the records to
the buffer, completes OK with their number, and changes nothing else. -/
def Obligations.MonitorCommandsComplete : Prop :=
  (∀ (m : Fin 6144) r f0 s, (s.mon m).want = some (r, f0) → f0 < s.loop.frames → s.winRuns m = false →
    ∃ t, exec (.monitorRangeChange m) s = .next t ∧ t.rd .ust_mon_cfg_range m = r % 2 ^ Fid.ust_mon_cfg_range.width ∧
      (t.mon m).want = none ∧ (t.mon m).spans = (s.mon m).spans ++ [{ cause := 1, first := s.loop.frames, last := s.loop.frames + 1 }] ∧
      ∀ n, n ≠ m.val → t.mon n = s.mon n) ∧
  (∀ (m : Fin 6144) s,
    (s.persistence m ≤ (s.mon m).highCnt → ∃ t, exec (.comparatorChange m true) s = .next t ∧
      t.rd .ust_mon_cfg_cmp_high m = bit01 (s.rd .ust_mon_cfg_cmp_high m == 0) ∧ t.mon m = { s.mon m with highCnt := 0 } ∧
      s.RegsBut t (fun f i => f = .ust_mon_cfg_cmp_high ∧ i = m) ∧ (∀ n, n ≠ m.val → t.mon n = s.mon n) ∧
      t.flt.reports = s.flt.reports ++ [{ src := 0x12, objKind := 2, obj := m }]) ∧
    (s.persistence m ≤ (s.mon m).lowCnt → ∃ t, exec (.comparatorChange m false) s = .next t ∧
      t.rd .ust_mon_cfg_cmp_low m = bit01 (s.rd .ust_mon_cfg_cmp_low m == 0) ∧ t.mon m = { s.mon m with lowCnt := 0 } ∧
      s.RegsBut t (fun f i => f = .ust_mon_cfg_cmp_low ∧ i = m) ∧ (∀ n, n ≠ m.val → t.mon n = s.mon n) ∧
      t.flt.reports = s.flt.reports ++ [{ src := 0x12, objKind := 2, obj := m }])) ∧
  (∀ h first count range buf s, h.remote = none → 1 ≤ count → count ≤ 1536 → first + count ≤ 6144 →
    range ≤ 3 ∨ range = 0xFF → buf % 4 = 0 → s.holdsMons h.mbx first count = true →
    ∃ t id, exec (.monitorRead h first count range buf) s = .next t ∧ t.InFlight h id ∧
      t.loop.reads = s.loop.reads ++ [{ h := h, owner := ⟨h.mbx, id⟩, first := first, count := count, buf := buf
                                        ranged := range != 0xFF }] ∧
      ∀ m, (t.mon m).want = if range ≤ 3 ∧ first ≤ m ∧ m < first + count then
          (if range = s.rd .ust_mon_cfg_range m then none else some (range, s.loop.frames)) else (s.mon m).want) ∧
  (∀ h kind first count buf s, h.remote = none → 1 ≤ kind → kind ≤ 3 → calRangeBad kind first count = false → buf % 16 = 0 →
    (kind = 1 → first < 0x8000 → s.holdsMons h.mbx first count = true) →
    (kind = 1 → 0x8000 ≤ first → s.holdsGrps h.mbx (first - 0x8000) count = true) →
    (kind = 2 → s.holdsGrps h.mbx first count = true) → (kind = 3 → s.holdsElems h.mbx first count = true) →
    ∃ t, exec (.calStatus h kind first count buf) s = .next t ∧
      (s.hostWrite h buf (s.calRecords kind first count).flatten).Completed t h
        { status := .ok, res0 := (s.calRecords kind first count).length })

/-- PW_GO_WRITE of a monitor whose source is not the command changes nothing; with source 0, mode SINGLE or
CONTINUOUS, no window and its compartment neither in its pass nor fenced, it makes a window pending for the next
frame, for the length in force (LEN 0 as 1). PRECISION_WINDOW_START of a pending window whose frame has come, no
takeover or return keeping or due before it, starts it in this frame with the next sequence number and gives every
CONTINUOUS command of the window OK. PRECISION_WINDOW_END of a running window at its end, with nothing queued, leaves
no window, or in CONTINUOUS the next one pending at this frame (a frame later after a changed LEN); its record goes to
the buffer of its one local CONTINUOUS command at 16 bytes a monitor, and as the last of a local SINGLE command to the
buffer, which completes it with OK. PRECISION_MEASURE with valid fields, monitors of the partition neither in the pass
nor fenced is in flight and sets SRC, MODE, PWQ and LEN of each monitor: with SRC 0 and no window there, a window is
pending for the next frame; with a SRC of an event input, the monitor is armed, beside the commands that have armed it
already. Monitors outside its range are unchanged. -/
def Obligations.PrecisionWindowsRun : Prop :=
  (∀ (m : Fin 6144) s, s.rd .ust_pw_cfg_src m ≠ 0 → exec (.pwGoWrite m) s = .next s) ∧
  (∀ (m : Fin 6144) s, s.rd .ust_pw_cfg_src m = 0 → s.rd .ust_pw_cfg_mode m = 1 ∨ s.rd .ust_pw_cfg_mode m = 2 →
    s.inPass (monCpt m) = false → s.fenced (monCpt m) = false → (s.mon m).cont = false → (s.mon m).win = none →
    ∃ t, exec (.pwGoWrite m) s = .next t ∧ t.rd .ust_pw_status_running m = 1 ∧ (t.mon m).win = some {
        start := s.loop.frames + 1, len := max 1 (s.rd .ust_pw_cfg_len m), cmds := (s.mon m).armed } ∧
      ∀ n, n ≠ m.val → t.mon n = s.mon n) ∧
  (∀ (m : Fin 6144) w s, (s.mon m).win = some w → w.running = false → w.start ≤ s.loop.frames →
    (s.mon m).noStart ≤ s.loop.frames → s.switchDue m = false → ∃ t, exec (.precisionWindowStart m) s = .next t ∧
      t.mon m = { s.mon m with
        win := some { w with
          running := true, start := s.loop.frames, len := max 1 (s.rd .ust_pw_cfg_len m), seq := ((s.mon m).winSeq + 1) % 65536
          startF := s.frame }
        winSeq := ((s.mon m).winSeq + 1) % 65536 } ∧
      (∀ n, n ≠ m.val → t.mon n = s.mon n) ∧
      ∀ c, c ∈ s.loop.pwCmds → c.mode = 2 → c.num ∈ w.cmds → s.Concludes t c.owner { status := .ok }) ∧
  (∀ (m : Fin 6144) mean w s, (s.mon m).win = some w → w.running = true → w.start + w.len ≤ s.loop.frames →
    (s.mon m).queue = none → ∃ t, exec (.precisionWindowEnd m mean) s = .next t ∧
      (t.mon m).win = (if (s.mon m).cont then some {
          start := max (if w.lenChg then s.loop.frames + 1 else s.loop.frames) (s.mon m).queueAt
          len := max 1 (s.rd .ust_pw_cfg_len m), cmds := w.cmds } else none) ∧
      (∀ n, n ≠ m.val → t.mon n = s.mon n) ∧
      ∀ num c, w.cmds = [num] → s.loop.pwCmds.find? (fun c => c.num == num) = some c → c.rings = false → c.remote = none →
        (c.mode = 2 → t.out = (s.toHost c.owner.mbx (c.buf + 16 * (m.val - c.first))
          (pwRecord m (s.rd .ust_mon_cfg_range m) w mean w.len false)).out) ∧
        (c.mode = 1 → c.waiting = [m.val] → c.records = [] → c.fenced = false →
          t.out = (s.toHost c.owner.mbx c.buf (pwRecord m (s.rd .ust_mon_cfg_range m) w mean w.len false)).out ∧
          s.Concludes t c.owner { status := .ok })) ∧
  (∀ h first mode src count pwq buf start len s, h.remote = none → 1 ≤ count → count ≤ 1536 → first + count ≤ 6144 →
    (pwLenOf len).isSome = true → 1 ≤ mode → mode ≤ 2 → src ≤ 5 → src ≠ 1 → pwq ≤ 1 → buf % 16 = 0 →
    s.holdsMons h.mbx first count = true → (∀ m, first ≤ m → m < first + count →
      s.inPass (monCpt m) = false ∧ s.fenced (monCpt m) = false ∧ (s.mon m).win = none ∧ (s.mon m).cont = false) →
    (2 ≤ src → s.rd .dtm_trig_cfg_mode (src - 2) = 1) →
    ∃ t id, exec (.precisionMeasure h first mode src count pwq 0 buf start len) s = .next t ∧ t.InFlight h id ∧
      (∃ c, c ∈ t.loop.pwCmds ∧ c.owner = ⟨h.mbx, id⟩ ∧ c.num = s.loop.nextPw ∧ c.mode = mode ∧ c.buf = buf ∧
        c.waiting = span first count) ∧
      (∀ m, first ≤ m → m < first + count → t.rd .ust_pw_cfg_mode m = mode ∧ t.rd .ust_pw_cfg_src m = src ∧
        t.rd .ust_pw_cfg_pwq m = pwq ∧ t.rd .ust_pw_cfg_len m = (pwLenOf len).getD 1 ∧
        (src = 0 → (t.mon m).win = some {
          start := s.loop.frames + 1, len := (pwLenOf len).getD 1, cmds := (s.mon m).armed ++ [s.loop.nextPw] }) ∧
        (2 ≤ src → (t.mon m).win = none ∧ (t.mon m).armed = (s.mon m).armed ++ [s.loop.nextPw])) ∧
      ∀ m, ¬ (first ≤ m ∧ m < first + count) → t.mon m = s.mon m)

/-- For a group whose rotation runs: BENCHMARK_TAKEOVER at its due frame of a position below 32 whose monitor has no
window running sets SUBST of the monitor, three frames invalid under cause 2, no window before the fourth;
BENCHMARK_RESULT 15,363 frames after accepts readings within the limits, to apply at the return, or counts a
rejection, reports source 0x15 and, at the third in succession, marks the slice FAILED and stops the rotation;
BENCHMARK_RETURN 16,381 frames after the due one clears SUBST with three more invalid frames, at whose end (endReturn,
which FRAME_BOUNDARY makes) accepted coefficients apply and the next position falls due, or, where a system
calibration broke the position off, the same one stands; of position 32, 16,384 frames after, it counts the rotation
and begins again at 0. CAL_ROT_CTRL_WRITE under an unlock that covers it sets EN, stops every group with no takeover
made of a compartment without its bit, and resumes a stopped group without a failed slice where the bit is newly set
and no system calibration runs. CALIBRATION_STALE of a group without an accepted result for more than 10 s sets STALE.
STARTUP_PASS_END of a running pass 101,376 frames after its start ends it: each group is at position 0, a slice inside
the limits has its new coefficients, one outside them is FAILED; of a die that does not respond it, at any time of the
pass, only ends the pass and reports source 0x10. -/
def Obligations.BenchmarkRotationRuns : Prop :=
  (∀ (g : Fin 192) p s, s.rd .cal_grp_status_pos g = p → p < 32 → s.rotates g = true →
    ((s.grp g).taken = false → (s.grp g).back = false → (s.grp g).returnAt = none → (s.grp g).due ≤ s.loop.frames →
      s.winRuns (grpMon g p) = false →
      ∃ t, exec (.benchmarkTakeover g) s = .next t ∧ t.rd .ust_mon_cfg_subst (grpMon g p) = 1 ∧
        (t.grp g).taken = true ∧ (t.grp g).due = s.loop.frames ∧
        (t.mon (grpMon g p)).spans = (s.mon (grpMon g p)).spans ++ [{ cause := 2, first := s.loop.frames, last := s.loop.frames + 2 }] ∧
        (t.mon (grpMon g p)).noStart = s.loop.frames + 3) ∧
    ((s.grp g).taken = true → (s.grp g).judged = false → (s.grp g).due + 15363 ≤ s.loop.frames → ∀ readings,
      (judge ((s.grp g).slice p).coefs readings = 0 → ∃ t, exec (.benchmarkResult g readings) s = .next t ∧
        (t.grp g).judged = true ∧ (t.grp g).acceptedAt = s.loop.frames ∧
        (t.grp g).pendingCoefs = some (readings.map (fun q => ({ offset := q.1, gain := q.2.1 } : Coef))) ∧
        ((t.grp g).slice p).rejects = 0 ∧ t.rd .cal_grp_status_stale g = 0) ∧
      (judge ((s.grp g).slice p).coefs readings ≠ 0 → ∃ t, exec (.benchmarkResult g readings) s = .next t ∧
        (t.grp g).judged = true ∧ (t.grp g).pendingCoefs = none ∧ ((t.grp g).slice p).rejects = ((s.grp g).slice p).rejects + 1 ∧
        t.rd .cal_grp_status_rej_cnt g = min (s.rd .cal_grp_status_rej_cnt g + 1) (2 ^ Fid.cal_grp_status_rej_cnt.width - 1) ∧
        { src := 0x15, objKind := 2, obj := grpMon g p, detail := judge ((s.grp g).slice p).coefs readings } ∈ t.flt.reports ∧
        (2 ≤ ((s.grp g).slice p).rejects → ((t.grp g).slice p).failed = true ∧ t.rd .cal_grp_status_stopped g = 1))) ∧
    ((s.grp g).taken = true → (s.grp g).judged = true → (s.grp g).back = false → (s.grp g).returnAt = none →
      (s.grp g).due + 16381 ≤ s.loop.frames → s.winRuns (grpMon g p) = false →
      ∃ t, exec (.benchmarkReturn g) s = .next t ∧ t.rd .ust_mon_cfg_subst (grpMon g p) = 0 ∧
        (t.mon (grpMon g p)).spans = (s.mon (grpMon g p)).spans ++ [
          { cause := 2, first := s.loop.frames, last := s.loop.frames + 2 }] ∧
        (t.mon (grpMon g p)).noStart = s.loop.frames + 3 ∧ t.rd .cal_grp_status_pos g = p ∧
        t.grp g = { s.grp g with returnAt := some s.loop.frames })) ∧
  (∀ (g : Fin 192) p f (s : State), s.rd .cal_grp_status_pos g = p → p < 32 → (s.grp g).returnAt = some f → f + 3 ≤ s.loop.frames →
    (((s.endReturn g).grp g).slice p).coefs = (s.grp g).pendingCoefs.getD ((s.grp g).slice p).coefs ∧
    ((s.endReturn g).grp g).taken = false ∧ ((s.endReturn g).grp g).returnAt = none ∧
    ((s.grp g).back = false → (s.endReturn g).rd .cal_grp_status_pos g = p + 1 ∧
      ((s.endReturn g).grp g).due = s.loop.frames) ∧
    ((s.grp g).back = true → (s.endReturn g).rd .cal_grp_status_pos g = p)) ∧
  (∀ (g : Fin 192) s, s.rd .cal_grp_status_pos g = 32 → s.rotates g = true → (s.grp g).taken = true → (s.grp g).judged = true →
    (s.grp g).back = false → (s.grp g).returnAt = none → (s.grp g).due + 16384 ≤ s.loop.frames → ∃ t, exec (.benchmarkReturn g) s = .next t ∧ t.rd .cal_grp_status_pos g = 0 ∧
      t.rd .cal_grp_status_rot_cnt g = (s.rd .cal_grp_status_rot_cnt g + 1) % 2 ^ Fid.cal_grp_status_rot_cnt.width) ∧
  (∀ (v : Fin 16) s, s.covers 0xB0000 .cal_rot_ctrl_en 0 = true → ∃ t, exec (.calRotCtrlWrite v) s = .next t ∧
    t.rd .cal_rot_ctrl_en 0 = v ∧ ∀ g, g < 192 →
      (v.val.testBit (grpCpt g) = false → (s.grp g).taken = false → t.rd .cal_grp_status_stopped g = 1) ∧
      (v.val.testBit (grpCpt g) = true → (s.rd .cal_rot_ctrl_en 0).testBit (grpCpt g) = false →
        s.rd .cal_syscal_status_active (grpCpt g) = 0 → s.rd .cal_grp_status_failed_slice g = 0x3F →
        t.rd .cal_grp_status_stopped g = 0)) ∧
  (∀ (g : Fin 192) s, 10000000000 < (s.loop.frames - (s.grp g).acceptedAt) * 1024 →
    exec (.calibrationStale g) s = .next (s.wr .cal_grp_status_stale g 1)) ∧
  (∀ (n : Fin 4) results s, s.inPass n = true →
    ((s.cpt n).passFrom + 101376 ≤ s.loop.frames → ∃ t, exec (.startupPassEnd n true results) s = .next t ∧ t.inPass n = false ∧
      ∀ g, grpCpt g = n → t.rd .cal_grp_status_pos g = 0 ∧ ∀ p, p ≤ 32 →
        if passAccepts (passCoefs results g p) then
          ((t.grp g).slice p).coefs = passCoefs results g p ∧ ((t.grp g).slice p).failed = false
        else ((t.grp g).slice p).failed = true) ∧
    ∃ t, exec (.startupPassEnd n false results) s = .next t ∧ t.inPass n = false ∧
      t.flt.reports = s.flt.reports ++ [{ src := 0x10, objKind := 3, obj := n }])

/-- By MB0 for a compartment 0 to 3: SYSCAL_STEP BEGIN, no calibration and no pass running there, not fenced,
completes OK with ACTIVE 1, STEP 1 and every group's rotation stopped, a monitor that its Benchmark slice serves being
given back. ZERO after step 1, and POINT of a range after the one before it, with no measuring step in progress, show
in STEP, are in flight for 4 windows and 3 windows on each of 48 groups and keep what they read; POINT a new pair of
references from M_REF × applied / (M_CAL - zero), where that difference is not 0. END after step 6 with no failing
check and flash not inhibited completes OK with STEP 7, ACTIVE 0 and the new references waiting; with a failing check
it completes CAL_REJECTED, ACTIVE 0, and shows the failing group, range and check. ABORT of a running calibration ends
it, its measuring step with CAL_REJECTED, and completes OK; SYSCAL_TIMEOUT 600 s after the latest step ends it too. -/
def Obligations.SystemCalibrationRuns : Prop :=
  (∀ h comp s, comp ≤ 3 → h.mbx = 0 →
    (s.rd .cal_syscal_status_active comp = 0 → s.inPass comp = false → s.fenced comp = false →
      ∃ t, exec (.syscalStepBegin h comp) s = .next t ∧ t.Finished h { status := .ok } ∧
        t.rd .cal_syscal_status_active comp = 1 ∧ t.rd .cal_syscal_status_step comp = 1 ∧
        ∀ g, grpCpt g = comp → t.rd .cal_grp_status_stopped g = 1 ∧ (t.grp g).taken = false ∧
          ((s.grp g).taken = true → s.rd .cal_grp_status_pos g < 32 →
            s.bit .ust_mon_cfg_subst (grpMon g (s.rd .cal_grp_status_pos g)) = true →
            s.bit .ust_mon_cfg_failed (grpMon g (s.rd .cal_grp_status_pos g)) = false → (t.grp g).back = true)) ∧
    (∀ mains readings, mains ≤ 1 → s.outOfOrder comp 1 = false →
      ∃ t id, exec (.syscalStepZero h comp mains readings) s = .next t ∧ t.InFlight h id ∧
        (t.cpt comp).step = some {
          at0 := s.loop.frames, per := 4 * (if mains = 0 then 19531 else 16276), owner := ⟨h.mbx, id⟩, code := 2 } ∧
        t.rd .cal_syscal_status_step comp = 2 ∧ ∀ i, i < 48 → (t.grp (48 * comp + i)).zero = readings.getD i []) ∧
    (∀ range mains applied readings, range ≤ 3 → mains ≤ 1 → s.outOfOrder comp (2 + range) = false →
      ∃ t id, exec (.syscalStepPoint h comp range mains applied readings) s = .next t ∧ t.InFlight h id ∧
        (t.cpt comp).step = some {
          at0 := s.loop.frames, per := 3 * (if mains = 0 then 19531 else 16276), owner := ⟨h.mbx, id⟩, code := 3 + range } ∧
        t.rd .cal_syscal_status_step comp = 3 + range ∧ ∀ i, i < 48 → ∀ mCal refL refH z, readings.getD i (0, 0, 0) = (mCal, refL, refH) →
          (s.grp (48 * comp + i)).zero.getD range 0 = z → mCal - z ≠ 0 →
          (t.grp (48 * comp + i)).points = (s.grp (48 * comp + i)).points.set range
            (some (refL * (applied : Rat) / (mCal - z), refH * (applied : Rat) / (mCal - z)))) ∧
    (s.outOfOrder comp 6 = false →
      (s.sysFail comp = none → s.flashRefused = false → ∃ t, exec (.syscalStepEnd h comp) s = .next t ∧
        t.Finished h { status := .ok } ∧ t.rd .cal_syscal_status_active comp = 0 ∧ t.rd .cal_syscal_status_step comp = 7 ∧
        ∀ g, grpCpt g = comp → (t.grp g).newRefs.isSome = true) ∧
      ∀ g r c, s.sysFail comp = some (g, r, c) → ∃ t, exec (.syscalStepEnd h comp) s = .next t ∧
        t.Finished h { status := .calRejected } ∧ t.rd .cal_syscal_status_active comp = 0 ∧
        t.rd .cal_syscal_status_fail_group comp = g ∧ t.rd .cal_syscal_status_fail_range comp = r ∧
        t.rd .cal_syscal_status_fail_check comp = c) ∧
    (s.rd .cal_syscal_status_active comp ≠ 0 → ∃ t, exec (.syscalStepAbort h comp) s = .next t ∧
      t.Finished h { status := .ok } ∧ t.rd .cal_syscal_status_active comp = 0 ∧ (t.cpt comp).step = none ∧
      ∀ w, (s.cpt comp).step = some w → s.Concludes t w.owner { status := .calRejected })) ∧
  (∀ (n : Fin 4) s, s.rd .cal_syscal_status_active n ≠ 0 → 600000000000 ≤ (s.loop.frames - (s.cpt n).stepAt) * 1024 →
    ∃ t, exec (.syscalTimeout n) s = .next t ∧ t.rd .cal_syscal_status_active n = 0 ∧ (t.cpt n).step = none)

/-- VMODE_OVERCURRENT of a channel that is on sets OC, reports source 0x16 and puts an element in a running state into
SUSPECT. OC_CLEAR_WRITE clears OC; a channel that had it set awaits its first commit. GROUP_LIMITER_TRIP of a group
not tripped adds it, sets GTRIP and reports source 0x17 with the group. GTRIP_CLEAR_WRITE re-enables exactly the
tripped groups of its compartment and clears GTRIP. DEGLITCH_RELEASE passes the oldest impulse that waits on to the
output; with none it ends the hold of a held output, which takes the newest value, limited; it changes nothing else,
and of one not held, nothing. UST_VCLR_WRITE stores the code, and the output of a channel that is on and at its clear
code takes it. CLR_N_ASSERT, on a path it acts on and not yet low, moves every V-mode output that is on to its clear
code, or puts every heater at high impedance, and reports source 0x1C; CLR_N_RELEASE ends the low, and each
compartment's return waits from this frame; CLR_N_RETURN at its boundary makes each element there in SETTLE, HOLD,
MANUAL or SUSPECT with nothing scheduled and its channel on jump from its clear code. -/
def Obligations.VmodeProtectionAndClearsRun : Prop :=
  (∀ (e : Fin 9216) s, s.vOff e = false → ∃ t, exec (.vmodeOvercurrent e) s = .next t ∧ t.rd .ust_vdac_status_oc e = 1 ∧
    { src := 0x16, objKind := 1, obj := e } ∈ t.flt.reports ∧
    (1 ≤ (s.el e).state → (s.el e).state ≤ 4 → (t.el e).state = 5)) ∧
  (∀ (e : Fin 9216) s, ∃ t, exec (.ocClearWrite e) s = .next t ∧ t.rd .ust_vdac_status_oc e = 0 ∧
    (s.rd .ust_vdac_status_oc e ≠ 0 → (t.el e).waiting = true ∧ (t.el e).readyAt = s.loop.frames) ∧
    ∀ e', e' ≠ e.val → t.el e' = s.el e') ∧
  (∀ (n : Fin 4) (g : Fin 48) s, 48 * n.val + g.val ∉ s.loop.tripped →
    ∃ t, exec (.groupLimiterTrip n g) s = .next t ∧ t.loop = { s.loop with tripped := s.loop.tripped ++ [48 * n.val + g.val] } ∧
      t.rd .ust_vdac_ctrl_gtrip n = 1 ∧
      t.rd .ust_vdac_ctrl_gtrip_cnt n = min (s.rd .ust_vdac_ctrl_gtrip_cnt n + 1) (2 ^ Fid.ust_vdac_ctrl_gtrip_cnt.width - 1) ∧
      t.flt.reports = s.flt.reports ++ [{ src := 0x17, objKind := 3, obj := n, detail := g }]) ∧
  (∀ (n : Fin 4) s, ∃ t, exec (.gtripClearWrite n) s = .next t ∧ t.rd .ust_vdac_ctrl_gtrip n = 0 ∧
    ∀ k, k ∈ t.loop.tripped ↔ k ∈ s.loop.tripped ∧ k / 48 ≠ n.val) ∧
  (∀ (e : Fin 9216) s, ∃ t, exec (.deglitchRelease e) s = .next t ∧ (∀ e', e' ≠ e.val → t.el e' = s.el e') ∧
    t = { s with loop := { s.loop with elems := t.loop.elems } } ∧
    (∀ v l, (s.el e).play = v :: l → t.el e = { s.el e with out := v, play := l }) ∧
    ((s.el e).play = [] → (s.el e).held = true →
      t.el e = { s.el e with held := false, out := s.limited e (s.el e).drive }) ∧
    ((s.el e).play = [] → (s.el e).held = false → t = s)) ∧
  (∀ (e : Fin 9216) code s, code < 2 ^ 20 → ∃ t, exec (.ustVclrWrite e code) s = .next t ∧ t.rd .ust_vclr_code e = code ∧
    (s.atClear e = true ∨ (s.el e).state = 0 → s.vOff e = false → (t.el e).out = t.clearOf e) ∧
    ∀ e', e' ≠ e.val → t.el e' = s.el e') ∧
  (∀ v h s, v = true ∨ h = true → s.loop.clrLow = false → s.loop.heatClear = false →
    ∃ t, exec (.clrNAssert v h) s = .next t ∧ t.loop.clrLow = v ∧ t.loop.heatClear = h ∧
      t.flt.reports.getLast? = some { src := 0x1C, detail := 1 } ∧
      (v = true → (∀ n, n < 4 → t.rd .ust_vdac_ctrl_clrn n = 1) ∧
        ∀ e, e < 9216 → s.vOff e = false → (t.el e).out = s.clearOf e) ∧
      (h = true → ∀ i, i < 1024 → t.rd .ust_hpwm_status_hiz i = 1)) ∧
  (∀ s, s.loop.clrLow = true ∨ s.loop.heatClear = true → ∃ t, exec .clrNRelease s = .next t ∧ t.loop.clrLow = false ∧
    t.loop.heatClear = false ∧ t.flt.reports = s.flt.reports ++ [{ src := 0x1C, detail := 0 }] ∧
    ∀ n, n < 4 → t.rd .ust_vdac_ctrl_clrn n = 0 ∧ (t.cpt n).resumeAt = some s.loop.frames ∧
      (t.cpt n).returnAt = if s.loop.clrLow then some s.loop.frames else (s.cpt n).returnAt) ∧
  (∀ (n : Fin 4) f s, (s.cpt n).returnAt = some f → s.nextBoundary n f = true → s.loop.clrLow = false → s.writesReach = true →
    ∃ t, exec (.clrNReturn n) s = .next t ∧ (t.cpt n).returnAt = none ∧
      ∀ e, isV e = true → elemCpt e = n → s.vOff e = false → (s.el e).sched = none → (s.el e).state ∈ [1, 2, 4, 5] →
        (t.el e).state = 3)

/-- VDAC_RANGE_WRITE under an unlock that covers it, of a range not in force that R128 allows, the holder not FROZEN,
asks for the change. RANGE_CHANGE_START in a later frame puts the range of a PARK element in force, with OK for the
command; another element's change starts once a write path is open, RCHG 1, its monitors invalid under cause 4 for 46
frames. RANGE_SWITCH 19 boundaries later puts the new range in force at 0 V, RANGE_RAMP_UP 24 after the start begins
the ramp, and RANGE_CHANGE_END 43 after it ends the change at the voltage kept, limited in the new range, with OK and
the range for the command. PROFILE_IMPULSE of a due impulse of an element not at its clear code, in a jump that a
Clearing armed or while a write path is open, plays it: a V-mode drive takes the limited value, which, on and not
darkened, waits for the output; an H-mode drive takes the value, and, not held, its duty word; of a darkening jump the
output's impulse alone. TRAJECTORY_END once every impulse is played and the time is over ends the jump at its target
value, or ends a darkening jump. UST_PROFILE_WRITE under an unlock, of a profile that R137 accepts, puts it in force.
PILOT_AMPLITUDE_CHANGE at a boundary makes the amplitude the programmed one. -/
def Obligations.RangesAndTrajectoriesRun : Prop :=
  (∀ (e : Fin 9216) hi s, s.covers (vOffset e 0x8000) .ust_vdac_cfg_range e = true → hi ≠ s.rangeHi e →
    s.frozen = false → firstStatus (s.rangeChecks e hi) = none → ∃ t, exec (.vdacRangeWrite e hi) s = .next t ∧
      t.rd .ust_vdac_cfg_range e = bit01 hi ∧ t.el e = { s.el e with rchg := some { at0 := s.loop.frames, hi := hi } }) ∧
  (∀ (e : Fin 9216) r s, (s.el e).rchg = some r →
    (r.started = false → r.at0 < s.loop.frames →
      ((s.el e).state = 0 → ∃ t, exec (.rangeChangeStart e) s = .next t ∧ t.rd .ust_vdac_status_range_act e = bit01 r.hi ∧
        (t.el e).rchg = none ∧ ∀ o, r.owner = some o → s.Concludes t o { status := .ok, res0 := bit01 r.hi }) ∧
      ((s.el e).state ≠ 0 → s.writesReach = false → exec (.rangeChangeStart e) s = .next s) ∧
      ((s.el e).state ≠ 0 → s.writesReach = true → ∃ t, exec (.rangeChangeStart e) s = .next t ∧
        t.rd .ust_vdac_status_rchg e = 1 ∧
        (t.el e).rchg = some { r with
          at0 := s.loop.frames, started := true, back := if (s.el e).held then s.limited e (s.el e).drive else (s.el e).out } ∧
        ∀ m ∈ (s.erec e).monitors,
          { cause := 4, first := s.loop.frames, last := s.loop.frames + 45, elem := some e.val } ∈ (t.mon m).spans)) ∧
    (r.started = true → r.switched = false → r.at0 + 19 ≤ s.loop.frames → ∃ t, exec (.rangeSwitch e) s = .next t ∧
      t.rd .ust_vdac_status_range_act e = bit01 r.hi ∧ t.rd .ust_vdac_status_code e = 0 ∧ (t.el e).out = 0 ∧
      (t.el e).rchg = some { r with switched := true }) ∧
    (r.switched = true → r.ramping = false → r.at0 + 24 ≤ s.loop.frames → ∃ t, exec (.rangeRampUp e) s = .next t ∧
      t.el e = { s.el e with rchg := some { r with ramping := true } } ∧ t = { s with loop := t.loop }) ∧
    (r.ramping = true → r.at0 + 43 ≤ s.loop.frames → ∃ t, exec (.rangeChangeEnd e) s = .next t ∧
      t.rd .ust_vdac_status_rchg e = 0 ∧ (t.el e).rchg = none ∧ (t.el e).out = s.limited e r.back ∧
      ∀ o, r.owner = some o → s.Concludes t o { status := .ok, res0 := bit01 (s.rangeHi e) })) ∧
  (∀ (e : Fin 10240) j v s, v = j.value (isV e) (j.played + 1) → j.ended = false → j.played < j.prof.count →
    s.impulseDue j (j.played + 1) = true →
    ((s.el e).jump = some j → s.atClear e = false → j.clr.isSome = true ∨ s.writesReach = true →
      ∃ t, exec (.profileImpulse e false) s = .next t ∧ (t.el e).jump = some { j with played := j.played + 1 } ∧
        (isV e = true → (t.el e).drive = s.limited e v ∧ (s.vOff e = false → s.gateHeld e = false →
          (t.el e).play = (s.el e).play ++ [s.limited e v])) ∧
        (isV e = false → (t.el e).drive = v ∧ (s.heatHeld e = false → (t.el e).out = roundRat ((v : Rat) / 16)))) ∧
    ((s.el e).djump = some j → s.vOff e = false → s.clrHeld (elemCpt e) = false →
      ∃ t, exec (.profileImpulse e true) s = .next t ∧ (t.el e).djump = some { j with played := j.played + 1 } ∧
        (t.el e).play = (s.el e).play ++ [s.limited e v] ∧ (t.el e).drive = (s.el e).drive ∧
        (t.el e).jump = (s.el e).jump)) ∧
  (∀ (e : Fin 10240) j s, j.ended = false → j.prof.count ≤ j.played → j.endsAt < (s.loop.frames + 1) * 102400 →
    ((s.el e).jump = some j → ∃ t, exec (.trajectoryEnd e false) s = .next t ∧
      (t.el e).jump = some { j with ended := true } ∧ (t.el e).drive = j.vt ∧ (t.el e).play = [] ∧ (t.el e).held = false) ∧
    ((s.el e).djump = some j → ∃ t, exec (.trajectoryEnd e true) s = .next t ∧ (t.el e).djump = none ∧
      (t.el e).jump = (s.el e).jump ∧ (t.el e).drive = (s.el e).drive ∧ (t.el e).play = [])) ∧
  (∀ (n : Fin 4) (p : Fin 16) (q : Prof) s, q.ok = true →
    s.covers (0x100000 + n * 0x40000 + 0x3F100 + 16 * p) .ust_profile_count (profIdx n p) = true →
    ∃ t, exec (.ustProfileWrite n p q.count q.flags q.t2 q.t3 q.t4 q.a1 q.a2 q.a3) s = .next t ∧ t.profReg (profIdx n p) = q ∧
      t = { s with regs := t.regs }) ∧
  (∀ (e : Fin 10240) s, (s.el e).amp ≠ s.pampOf e → s.atBoundary (elemCpt e) = true →
    ∃ t, exec (.pilotAmplitudeChange e) s = .next t ∧ (t.el e).amp = s.pampOf e ∧ ∀ e', e' ≠ e.val → t.el e' = s.el e')

/-- HMODE_PERIOD_BOUNDARY of a channel whose period is not due changes nothing. A period that is due, in LOOP mode the
configured one, in DIRECT mode that of PER_ACT (0 as 1), is in force and dates the next one, with PILOT_BLK of R151.
At high impedance both compares, the residue and CAPPED are 0; else, in LOOP mode, the compares are those of one pulse
that fits the period with its dead time, placed by the stagger; in DIRECT mode compare A is the shadowed one within
the period. HPWM_SRC_WRITE under an unlock of 0 sets LOOP; of 1, for an element in MANUAL, DIRECT, with the period and
compares in force copied. PCOMMIT_WRITE sets PCOMMIT. SHADOW_TRANSFER in DIRECT mode passes the register that auto
commit has due, or all three under a pair commit (a PER_SH of 0 as 1, assumption 51). HMODE_OVERCURRENT and
HMODE_FAST_TRIP (source 0x18) and HMODE_LEAKAGE (0x19) of a channel in use set its latch, put it at high impedance,
report it and put an element in a running state into SUSPECT; HMODE_OC_LEAK_CLEAR_WRITE clears the latches it names.
TRIP_SOURCE_ASSERT with an enabled source asserted, and SWTRIP_WRITE, set the trip latch, with cause SW for the
latter, and put the compartment's heaters at high impedance when it was not set; TRIP_CLEAR_WRITE of a set latch
clears it and its cause with no enabled source asserted, else counts a refusal. HMODE_RESUME at its boundary,
untripped and CLR_N high, ends the wait, and puts each unlatched element there in SETTLE or HOLD without a jump into
SETTLE, its heater out of high impedance outside a reset. -/
def Obligations.HmodeChannelsRun : Prop :=
  (∀ (h : Fin 1024) (tick : Fin 100) (ion : Fin 256) s, ∃ t, exec (.hmodePeriodBoundary h tick ion) s = .next t ∧
    (s.periodStart h (100 * s.loop.frames + tick.val) = none → t = s) ∧
    ∀ t0 per, s.periodStart h (100 * s.loop.frames + tick.val) = some t0 →
      per = max 1 (if s.rd .ust_hpwm_mode_src h = 0 then s.rd .ust_hpwm_cfg_per h else s.rd .ust_hpwm_status_per_act h) →
      t.rd .ust_hpwm_status_per_act h = per % 2 ^ Fid.ust_hpwm_status_per_act.width ∧
      (t.hc (hElem h)).nextAt = some (t0 + per) ∧
      t.rd .ust_hpwm_status_pilot_blk h =
        bit01 ((s.erec (hElem h)).pilotEn && decide (32000 < per * (s.erec (hElem h)).pilotK)) ∧
      (s.rd .ust_hpwm_status_hiz h ≠ 0 → t.rd .ust_hpwm_act_a_act h = 0 ∧ t.rd .ust_hpwm_act_b_act h = 0 ∧
        (t.hc (hElem h)).residue = 0 ∧ t.rd .ust_hpwm_status_capped h = 0) ∧
      ∀ p, p = max 1 (t.rd .ust_hpwm_status_per_act h) →
        (s.rd .ust_hpwm_status_hiz h = 0 → s.rd .ust_hpwm_mode_src h = 0 → ∀ dead, dead = s.rd .ust_hpwm_cfg_dead h →
          ∃ m, m ≤ p - dead ∧ t.rd .ust_hpwm_act_a_act h =
            s.rd .ust_hpwm_mode_stag h * (p - dead - m) / 15 % 2 ^ Fid.ust_hpwm_act_a_act.width ∧
          t.rd .ust_hpwm_act_b_act h = min p (s.rd .ust_hpwm_mode_stag h * (p - dead - m) / 15 + dead + m)
            % 2 ^ Fid.ust_hpwm_act_b_act.width) ∧
        (s.rd .ust_hpwm_status_hiz h = 0 → s.rd .ust_hpwm_mode_src h ≠ 0 →
          t.rd .ust_hpwm_act_a_act h = min (s.hc (hElem h)).a0 p % 2 ^ Fid.ust_hpwm_act_a_act.width)) ∧
  (∀ (h : Fin 1024) s, s.covers (hOffset h 0x20400) .ust_hpwm_mode_src h = true →
    exec (.hpwmSrcWrite h false) s = .next (s.wr .ust_hpwm_mode_src h 0) ∧
    ((s.el (hElem h)).state = 4 → s.rd .ust_hpwm_mode_src h = 0 → ∃ t, exec (.hpwmSrcWrite h true) s = .next t ∧
      t.rd .ust_hpwm_mode_src h = 1 ∧ (t.hc (hElem h)).a0 = s.rd .ust_hpwm_act_a_act h ∧
      (t.hc (hElem h)).b0 = s.rd .ust_hpwm_act_b_act h ∧ t.rd .ust_hpwm_shper_per_sh h =
        s.rd .ust_hpwm_status_per_act h % 2 ^ Fid.ust_hpwm_shper_per_sh.width)) ∧
  (∀ (h : Fin 1024) s, exec (.pcommitWrite h) s = .next (s.wr .ust_hpwm_mode_pcommit h 1)) ∧
  (∀ (h : Fin 1024) s, s.rd .ust_hpwm_mode_src h ≠ 0 →
    (s.rd .ust_hpwm_mode_auto h ≠ 0 → ∀ reg : Fin 3, reg.val ∈ (s.hc (hElem h)).due →
      ∃ t, exec (.shadowTransfer h reg) s = .next t ∧ reg.val ∉ (t.hc (hElem h)).due ∧
        (reg = 0 → t.rd .ust_hpwm_status_per_act h =
          max 1 (s.rd .ust_hpwm_shper_per_sh h) % 2 ^ Fid.ust_hpwm_status_per_act.width) ∧
        (reg = 1 → (t.hc (hElem h)).a0 = s.rd .ust_hpwm_shcmp_a_sh h) ∧
        (reg = 2 → (t.hc (hElem h)).b0 = s.rd .ust_hpwm_shcmp_b_sh h)) ∧
    (s.rd .ust_hpwm_mode_auto h = 0 → s.rd .ust_hpwm_mode_pcommit h ≠ 0 → ∀ reg,
      ∃ t, exec (.shadowTransfer h reg) s = .next t ∧ t.rd .ust_hpwm_mode_pcommit h = 0 ∧
        t.rd .ust_hpwm_status_per_act h =
          max 1 (s.rd .ust_hpwm_shper_per_sh h) % 2 ^ Fid.ust_hpwm_status_per_act.width ∧
        (t.hc (hElem h)).a0 = s.rd .ust_hpwm_shcmp_a_sh h ∧ (t.hc (hElem h)).b0 = s.rd .ust_hpwm_shcmp_b_sh h)) ∧
  (∀ (h : Fin 1024) s, s.rd .ust_hpwm_status_hiz h = 0 → ∀ c ∈ [(Instr.hmodeOvercurrent h, Fid.ust_hpwm_status_oc, 0x18),
      (.hmodeFastTrip h, .ust_hpwm_status_oc, 0x18), (.hmodeLeakage h, .ust_hpwm_status_leak, 0x19)],
    ∃ t, exec c.1 s = .next t ∧ t.rd c.2.1 h = 1 ∧ t.rd .ust_hpwm_status_hiz h = 1 ∧
      { src := c.2.2, objKind := 1, obj := hElem h } ∈ t.flt.reports ∧
      (1 ≤ (s.el (hElem h)).state → (s.el (hElem h)).state ≤ 4 → (t.el (hElem h)).state = 5)) ∧
  (∀ (h : Fin 1024) oc leak s, ∃ t, exec (.hmodeOcLeakClearWrite h oc leak) s = .next t ∧
    t.rd .ust_hpwm_status_oc h = (if oc then 0 else s.rd .ust_hpwm_status_oc h) ∧
    t.rd .ust_hpwm_status_leak h = (if leak then 0 else s.rd .ust_hpwm_status_leak h)) ∧
  (∀ (n : Fin 4) s,
    (s.tripActive n ≠ 0 → ∃ t, exec (.tripSourceAssert n) s = .next t ∧ t.rd .ust_htrip_trip n = 1 ∧
      (s.rd .ust_htrip_trip n = 0 → ∀ i, i / 256 = n → t.rd .ust_hpwm_status_hiz i = 1)) ∧
    (∃ t, exec (.swtripWrite n) s = .next t ∧ t.rd .ust_htrip_trip n = 1 ∧
      t.rd .ust_htrip_cause n = (s.rd .ust_htrip_cause n ||| 16) % 2 ^ Fid.ust_htrip_cause.width ∧
      (s.rd .ust_htrip_trip n = 0 → ∀ i, i / 256 = n → t.rd .ust_hpwm_status_hiz i = 1)) ∧
    (s.rd .ust_htrip_trip n ≠ 0 → s.tripActive n = 0 → ∃ t, exec (.tripClearWrite n) s = .next t ∧
      t.rd .ust_htrip_trip n = 0 ∧ t.rd .ust_htrip_cause n = 0 ∧ (t.cpt n).resumeAt = some s.loop.frames) ∧
    (s.rd .ust_htrip_trip n ≠ 0 → s.tripActive n ≠ 0 → ∃ t, exec (.tripClearWrite n) s = .next t ∧
      t.rd .ust_htrip_trip n = s.rd .ust_htrip_trip n ∧
      t.rd .ust_htrip_refused n = min (s.rd .ust_htrip_refused n + 1) (2 ^ Fid.ust_htrip_refused.width - 1))) ∧
  (∀ (n : Fin 4) f s, (s.cpt n).resumeAt = some f → s.nextBoundary n f = true → s.rd .ust_htrip_trip n = 0 →
    s.loop.clrLow = false → s.loop.heatClear = false → s.writesReach = true →
    ∃ t, exec (.hmodeResume n) s = .next t ∧ (t.cpt n).resumeAt = none ∧
      ∀ i, i / 256 = n → s.latched (hElem i) = false → (s.el (hElem i)).jump = none →
        (s.el (hElem i)).state = 1 ∨ (s.el (hElem i)).state = 2 → (t.el (hElem i)).state = 1 ∧
        (s.rd .glb_cpt_svc_in_crst n = 0 → t.rd .ust_hpwm_status_hiz i = 0))

/-- STAND_ECC_ERROR (cause 4, source 0x08), WRITE_PATH_PARITY (cause 5, source 0x0A) and STAND_CLOCK_FAULT (cause 7,
source 0x0C) of a shadow that is not OFFLINE set its DIAG bit (cause - 3), report their source for it and put it
OFFLINE under BRST, the holder unchanged. Of the holder, not OFFLINE or FROZEN, with no handover running and the
shadow ELIGIBLE, those three and HEARTBEAT_MISSING (cause 6) pass the baton: HOLDER is the other Stand, which is
COMPUTING (3), the former holder is OFFLINE under BRST, and LAST_CAUSE is the cause. CLKREF_LOSS of a present CLKREF
marks it absent, closes admission, sets the ERR_N latch and takes every chain link down. -/
def Obligations.StandFaultCausesAct : Prop :=
  (∀ (st : Fin 2) s, ∀ c ∈ [(Instr.standEccError st, 4, 0x08), (.writePathParity st, 5, 0x0A), (.standClockFault st, 7, 0x0C)],
    st.val ≠ s.holder → s.standState st ≠ 0 → ∃ t, exec c.1 s = .next t ∧
      (t.rd .stx_stand_status_diag (standKey st 0)).testBit (c.2.1 - 3) = true ∧
      { src := c.2.2, objKind := 6, obj := st, detail := c.2.1 } ∈ t.flt.reports ∧
      t.standState st = 0 ∧ st.val ∈ t.stand.reset ∧ t.holder = s.holder) ∧
  (∀ (st : Fin 2) s, ∀ c ∈ [(Instr.standEccError st, 4), (.writePathParity st, 5), (.heartbeatMissing, 6), (.standClockFault st, 7)],
    st.val = s.holder → s.standState st ≠ 0 → s.frozen = false → s.stand.handover = none → s.eligible = true →
    ∃ t, exec c.1 s = .next t ∧ t.holder = s.shadow ∧ t.standState s.shadow = 3 ∧ t.standState st = 0 ∧
      st.val ∈ t.stand.reset ∧ t.rd .glb_baton_status_last_cause 0 = c.2) ∧
  (∀ s, s.boot.clkref = true → ∃ t, exec .clkrefLoss s = .next t ∧ t.boot.clkref = false ∧ t.host.admission = false ∧
    t.rd .flt_err_latch 0 = 1 ∧ ∀ p : Fin 4, t.linkUp p = false)

/-- INTERLOCK_CONFIRM of a running handover that holds no cause ends it: the outgoing write path is closed, the
incoming one open. INTERLOCK_TIMEOUT of one in INTERLOCK leaves both paths closed, no handover, and FROZEN 1.
ILK_FORCE with EXT_EN 1 and a COMPUTING holder passes the baton to an ELIGIBLE shadow with cause 2, the former holder
going on as SYNCING shadow; with no ELIGIBLE shadow it only counts IGN_CNT, saturating. STAND_HANDOVER HANDOVER by MB0
with an ELIGIBLE shadow, not FROZEN and nothing of the Stands in progress waits, in flight, from the frame of its
admission. COMMANDED_HANDOVER of one that waits (cause other than 8) at a boundary of 40 frames at least 2 frames
later passes the baton with its cause and gives the command OK. -/
def Obligations.BatonHandoversComplete : Prop :=
  (∀ h s, s.stand.handover = some h → h.held = [] → h.src + h.dst = 1 → ∃ t, exec .interlockConfirm s = .next t ∧
    t.stand.handover = none ∧ (if h.src = 0 then t.stand.openA else t.stand.openB) = false ∧
    (if h.dst = 0 then t.stand.openA else t.stand.openB) = true) ∧
  (∀ h s, s.stand.handover = some h → h.overlap = [] → ∃ t, exec .interlockTimeout s = .next t ∧
    t.stand.handover = none ∧ t.stand.openA = false ∧ t.stand.openB = false ∧ t.rd .glb_baton_status_frozen 0 = 1) ∧
  (∀ s, s.rd .glb_baton_cfg_ext_en 0 ≠ 0 → s.standState s.holder = 3 →
    (s.eligible = true → s.stand.handover = none → ∃ t, exec .ilkForce s = .next t ∧ t.holder = s.shadow ∧
      t.standState s.shadow = 3 ∧ t.standState s.holder = 1 ∧ t.rd .glb_baton_status_last_cause 0 = 2) ∧
    (s.eligible = false → ∃ t, exec .ilkForce s = .next t ∧
      t.rd .glb_baton_status_ign_cnt 0 = min (s.rd .glb_baton_status_ign_cnt 0 + 1) (2 ^ Fid.glb_baton_status_ign_cnt.width - 1) ∧
      s.RegsBut t (fun f i => f = .glb_baton_status_ign_cnt ∧ i = 0) ∧ t = { s with regs := t.regs })) ∧
  (∀ h s, h.mbx = 0 → s.eligible = true → s.frozen = false → s.standBusy = false →
    ∃ t id, exec (.standHandoverHandover h) s = .next t ∧ t.InFlight h id ∧
      t.stand = { s.stand with command := some (s.loop.frames, 1, some ⟨0, id⟩) }) ∧
  (∀ f cause o s, s.stand.command = some (f, cause, some o) → f + 2 ≤ s.loop.frames → s.frame % 40 = 0 →
    s.eligible = true → cause < 8 → ∃ t, exec .commandedHandover s = .next t ∧ t.holder = s.shadow ∧
      t.standState s.shadow = 3 ∧ t.standState s.holder = 1 ∧ t.rd .glb_baton_status_last_cause 0 = cause ∧
      t.stand.command = none ∧ s.Concludes t o { status := .ok })

/-- STAND_HANDOVER RELEASE by MB0 of a SYNCING or ELIGIBLE shadow, not FROZEN, puts it OFFLINE under BRST and
completes OK. RETURN of an OFFLINE shadow makes it SYNCING, copying every compartment, the command in flight.
STAND_COPY_COMPLETE with every compartment copied ends the copy: of a module not FROZEN nothing else changes; of a
FROZEN one the returned Stand holds the baton, FROZEN is 0, and every compartment awaits its resumption.
STAND_ELIGIBLE of a SYNCING shadow that matches, outside an activation, makes it ELIGIBLE and gives every command that
awaits its return OK. TAKEOVER_RESUME at the boundary of a compartment that awaits it strikes it off and puts each of
its elements in SETTLE, HOLD or JUMP into SETTLE. -/
def Obligations.StandReturnsComplete : Prop :=
  (∀ h s, h.mbx = 0 → s.frozen = false → s.standState s.shadow = 1 ∨ s.standState s.shadow = 2 →
    ∃ t, exec (.standHandoverRelease h) s = .next t ∧ t.Finished h { status := .ok } ∧ t.standState s.shadow = 0 ∧
      s.shadow ∈ t.stand.reset ∧ t.holder = s.holder) ∧
  (∀ h s, h.mbx = 0 → s.standState s.shadow = 0 → ∃ t id, exec (.standHandoverReturn h) s = .next t ∧ t.InFlight h id ∧
    t.standState s.shadow = 1 ∧ t.stand.copying = some (s.shadow, [0, 1, 2, 3]) ∧
    ∃ f, (some ⟨0, id⟩, f) ∈ t.stand.returnBy) ∧
  (∀ st s, s.stand.copying = some (st, []) →
    (s.frozen = false → exec .standCopyComplete s = .next { s with stand := { s.stand with copying := none } }) ∧
    (s.frozen = true → st < 2 → st ≠ s.holder → ∃ t, exec .standCopyComplete s = .next t ∧ t.holder = st ∧
      t.rd .glb_baton_status_frozen 0 = 0 ∧ t.standState st = 3 ∧ t.standState s.holder = 0 ∧
      t.stand.resume = [0, 1, 2, 3])) ∧
  (∀ s, s.standState s.shadow = 1 → s.stand.copying = none → s.synced = true → s.frozen = false →
    s.boot.actStep = 0 → ∃ t, exec .standEligible s = .next t ∧ t.standState s.shadow = 2 ∧ t.stand.returnBy = [] ∧
      ∀ o f, (some o, f) ∈ s.stand.returnBy → s.Concludes t o { status := .ok }) ∧
  (∀ (n : Fin 4) s, n.val ∈ s.stand.resume → s.atBoundary n = true → ∃ t, exec (.takeoverResume n) s = .next t ∧
    n.val ∉ t.stand.resume ∧
    ∀ e, elemCpt e = n → 1 ≤ (s.el e).state → (s.el e).state ≤ 3 → (t.el e).state = 1)

/-- By MB0 for a compartment 0 to 3: COMPARTMENT_SERVICE FENCE of one not fenced and with no fence waiting waits in
flight from the frame of its admission; RESET and REJOIN of a fenced one with neither in progress wait in flight,
REJOIN with the rejoin pass started and REJOINING 1. COMPARTMENT_FENCE, by a fault or, at a loop-period boundary at
least 2 frames after admission, by command, of a compartment not fenced sets FENCED, BY_FAULT as it was caused, counts
FENCE_CNT, and leaves each of its elements in PARK or FENCED. CRST with no DRST decided, a reset asked for and no
range change running sets IN_CRST and counts CRST_CNT; the elements and monitors of other compartments stay.
CRST_COMPLETE clears IN_CRST and gives RESET OK. REJOIN at a boundary after its pass, with a write path open, clears
FENCED, BY_FAULT and REJOINING, leaves none of its elements in FENCED, and has the shadow's matches of the compartment
made anew. -/
def Obligations.CompartmentServiceCompletes : Prop :=
  (∀ h comp s, comp ≤ 3 → h.mbx = 0 → s.fenced comp = false → (s.svc comp).fenceAt = none →
    ∃ t id, exec (.compartmentServiceFence h comp) s = .next t ∧ t.InFlight h id ∧
      (t.svc comp).fenceAt = some (s.loop.frames, [⟨0, id⟩])) ∧
  (∀ h comp s, comp ≤ 3 → h.mbx = 0 → s.fenced comp = true → s.svcBusy comp = false →
    (∃ t id, exec (.compartmentServiceReset h comp) s = .next t ∧ t.InFlight h id ∧
      (t.svc comp).reset = some ⟨0, id⟩) ∧
    (∃ t id, exec (.compartmentServiceRejoin h comp) s = .next t ∧ t.InFlight h id ∧
      (t.svc comp).rejoin = some ⟨0, id⟩ ∧ (t.cpt comp).pass = true ∧ t.rd .glb_cpt_svc_rejoining comp = 1)) ∧
  (∀ (n : Fin 4) s, s.fenced n = false →
    (n.val ∈ s.flt.fencePending ∨
      (n.val ∉ s.flt.fencePending ∧ ∃ f l, (s.svc n).fenceAt = some (f, l) ∧ s.nextBoundary n f = true)) →
    ∃ t, exec (.compartmentFence n) s = .next t ∧ t.rd .glb_cpt_svc_fenced n = 1 ∧
      t.rd .glb_cpt_svc_by_fault n = bit01 (decide (n.val ∈ s.flt.fencePending)) ∧
      t.rd .glb_cpt_svc_fence_cnt n = (s.rd .glb_cpt_svc_fence_cnt n + 1) % 2 ^ Fid.glb_cpt_svc_fence_cnt.width ∧
      ∀ e, elemCpt e = n → (t.el e).state = 0 ∨ (t.el e).state = 6) ∧
  (∀ (n : Fin 4) o s, s.flt.drstPending = false → (s.svc n).reset = some o → s.rd .glb_cpt_svc_in_crst n = 0 →
    (∀ p ∈ s.loop.elems, elemCpt p.1 = n → p.2.rchg = none) → ∃ t, exec (.crst n) s = .next t ∧
      t.rd .glb_cpt_svc_in_crst n = 1 ∧
      t.rd .glb_cpt_svc_crst_cnt n = (s.rd .glb_cpt_svc_crst_cnt n + 1) % 2 ^ Fid.glb_cpt_svc_crst_cnt.width ∧
      (∀ e, elemCpt e ≠ n → t.el e = s.el e) ∧
      ∀ m, monCpt m ≠ n → Tbl.get {} t.loop.mons m = Tbl.get {} s.loop.mons m) ∧
  (∀ (n : Fin 4) o s, (s.svc n).reset = some o → s.rd .glb_cpt_svc_in_crst n ≠ 0 →
    ∃ t, exec (.crstComplete n) s = .next t ∧ t.rd .glb_cpt_svc_in_crst n = 0 ∧ (t.svc n).reset = none ∧
      s.Concludes t o { status := .ok }) ∧
  (∀ (n : Fin 4) o s, (s.svc n).rejoin = some o → (s.svc n).passed = true → s.atBoundary n = true → s.writesReach = true →
    ∃ t, exec (.rejoin n) s = .next t ∧ t.rd .glb_cpt_svc_fenced n = 0 ∧ t.rd .glb_cpt_svc_by_fault n = 0 ∧
      t.rd .glb_cpt_svc_rejoining n = 0 ∧ (t.svc n).rejoin = none ∧ t.rd .stx_sync_sync_cnt (standKey s.shadow n) = 0 ∧
      (s.eligible = true → t.standState s.shadow = 1) ∧ ∀ e, elemCpt e = n → (t.el e).state ≠ 6)

/-- With valid fields, a map with a fabric, and slots of the mailbox's partition: STATE_WRITE, local, of a permutation
that R242 accepts, flash not inhibited, stores it VALID with PERSIST as named, the next GEN and no cached vector,
leaves every other slot, and completes OK. STATE_READ, local, of a valid slot writes its entries and completes OK,
nothing else changing. ROUTE_SOLVE waits in flight as the last solve admitted. SOLVE_START with none running starts
the solve first admitted; with none waiting, or one running, it changes nothing. SOLVE_COMPLETE counts the solve: a
ROUTE_SOLVE's command completes OK, or SOLVE_BLOCKED, with the permutation's CRC, its disturbed circuits and changed
cells; a commit's is kept solved, last. STATE_COMMIT of local scope is in flight and its job, with the next CLR_ID,
waits to be solved, or is solved by its slot's cached vector; of chain scope, by MB0 with Datum P locked, a
chain-scoped Clearing of its participants starts. CLEARING_QUERY, local, of 1 to 320 records writes them and completes
OK with their number. -/
def Obligations.LibraryAndSolvesComplete : Prop :=
  (∀ h first count slot clear persist buf boot entries s, h.remote = none → slot < 4096 → 1 ≤ count → first + count ≤ 512 →
    clear ≤ 1 → persist ≤ 1 → boot ≤ 2 → buf % 4 = 0 → s.permBad (s.writtenPerm slot first count clear entries) = false →
    s.holdsSlot h.mbx slot = true → s.mapAway = false → s.noTrv = false → s.flashRefused = false →
    ∃ t, exec (.stateWrite h first count slot clear persist buf boot entries) s = .next t ∧ t.Finished h { status := .ok } ∧
      t.slot slot = { perm := s.writtenPerm slot first count clear entries, valid := true, persist := persist == 1
                      gen := ((s.slot slot).gen + 1) % 2 ^ 32, cache := none } ∧
      (∀ k, k ≠ slot → t.slot k = s.slot k) ∧
      t.trv.boot = (if boot = 1 then some slot else if boot = 2 then none else s.trv.boot)) ∧
  (∀ h first count slot buf s, h.remote = none → slot < 4096 → 1 ≤ count → first + count ≤ 512 → buf % 4 = 0 →
    s.holdsSlot h.mbx slot = true → s.noTrv = false → (s.slot slot).valid = true →
    ∃ t, exec (.stateRead h first count slot buf) s = .next t ∧
      (s.hostWrite h buf ((span first count).flatMap (fun p => leBytes 4 (Tbl.get 0 (s.slot slot).perm p)))).Completed t h
        { status := .ok }) ∧
  (∀ h src mode slot maxDist buf rpt vec entries s, s.solveBad h src mode slot maxDist buf rpt 16 = false →
    vec = 0 ∨ s.badBuf h vec 16 576 = false → (src = 1 → s.permBad (s.asked 1 slot entries) = false) →
    s.mapAway = false → s.noTrv = false →
    (src = 0 → s.holdsSlot h.mbx slot = true ∧ (s.slot slot).valid = true ∧ s.permBad (s.slot slot).perm = false) →
    ∃ t id j, exec (.routeSolve h src mode slot maxDist buf rpt vec entries) s = .next t ∧ t.InFlight h id ∧
      t.trv = { s.trv with waiting := s.trv.waiting ++ [j] } ∧ j.commit = false ∧ j.owner = some ⟨h.mbx, id⟩ ∧
      j.perm = s.asked src slot entries ∧ j.mind = (mode == 1) ∧ j.maxDist = maxDist ∧
      j.slot = if src = 0 then slot else 0xFFFF) ∧
  (∀ j r s, s.trv.running = none → s.trv.waiting = j :: r → ∃ t, exec .solveStart s = .next t ∧
    t.trv = { s.trv with running := some j, waiting := r } ∧ t = { s with regs := t.regs, trv := t.trv }) ∧
  (∀ s, s.trv.running ≠ none ∨ s.trv.waiting = [] → exec .solveStart s = .next s) ∧
  (∀ j s, s.trv.running = some j → ∃ t, exec .solveComplete s = .next t ∧ t.trv.running = none ∧
    t.rd .trv_solve_cnt_solves 0 = (s.rd .trv_solve_cnt_solves 0 + 1) % 2 ^ Fid.trv_solve_cnt_solves.width ∧
    (j.commit = true → t.trv.solved = s.trv.solved ++ [{ j with sol := some (s.solveJob j (s.fabAt (s.jobFrame j))) }]) ∧
    (j.commit = false → ∀ v o, v = s.theMap.solve s.trv.force j.perm j.mind [] j.maxDist → j.owner = some o →
      s.Concludes t o { status := if v.result = 0 then .ok else .solveBlocked, res0 := j.perm.crc
                        res1 := v.disturbed.length, res2 := v.changed })) ∧
  (∀ h src mode atomic slot maxDist buf tm pcount rpt plist entries parts s,
    s.solveBad h src mode slot maxDist buf rpt 1 = false → atomic ≤ 1 → s.execBad tm = false → s.mapAway = false →
    s.noTrv = false → s.permBad (s.asked src slot entries) = false → s.portOut h.mbx (s.asked src slot entries) = false →
    (src = 0 → s.holdsSlot h.mbx slot = true ∧ (s.slot slot).valid = true) →
    ∃ t id j, exec (.stateCommit h src mode 0 atomic slot maxDist buf tm pcount rpt plist entries parts) s = .next t ∧
      t.InFlight h id ∧ t.trv.seq = (s.trv.seq + 1) % 65536 ∧ j.commit = true ∧ j.owner = some ⟨h.mbx, id⟩ ∧
      j.clrId = s.addr * 65536 + (s.trv.seq + 1) % 65536 ∧ j.perm = s.asked src slot entries ∧ j.exec = execOf tm ∧
      (t.trv.waiting = s.trv.waiting ++ [j] ∨
        ∃ v, t.trv.solved = s.trv.solved ++ [{ j with sol := some v, cached := true }])) ∧
  (∀ h src mode atomic slot maxDist buf tm pcount rpt plist entries parts s, h.mbx = 0 → h.remote = none →
    s.solveBad h src mode slot maxDist buf rpt 1 = false → atomic ≤ 1 → s.execBad tm = false → s.mapAway = false →
    s.noTrv = false → plist % 8 = 0 → s.partsBad pcount parts = false → s.leadBad tm parts = false → s.locked = true →
    s.rd .dtm_status_step_pend 0 = 0 → (∀ p ∈ parts, p.1 = s.addr → (s.slot p.2).valid = true) →
    ∃ t id x, exec (.stateCommit h src mode 1 atomic slot maxDist buf tm pcount rpt plist entries parts) s = .next t ∧
      t.InFlight h id ∧ x ∈ t.trv.chains ∧ x.job.clrId = s.addr * 65536 + (s.trv.seq + 1) % 65536 ∧ x.job.owner = some ⟨h.mbx, id⟩ ∧
      x.frame = frameAt (ticksOf tm) ∧ x.parts = parts.map (fun p => { addr := p.1, slot := p.2 })) ∧
  (∀ h count buf s, h.remote = none → 1 ≤ count → count ≤ 320 → s.noTrv = false →
    ∃ t, exec (.clearingQuery h count buf) s = .next t ∧
      (s.hostWrite h buf (s.queryRecords h.mbx count).flatten).Completed t h
        { status := .ok, res0 := (s.queryRecords h.mbx count).length })

/-- CLEARING_QUEUE of a solved local commit that passes its checks, behind every queued Clearing, not FROZEN, queues
it last, at its frame. POINT_OF_NO_RETURN at most one frame before the first queued Clearing arms it, with a jump
target and its profile for each element of its difference set, and changes nothing else. CLEARING_EXECUTION at its
frame takes it from the queue, puts its permutation and cells in force, gives every element of the difference set its
target, and shows its CLR_ID. STATE_ABORT of a queued Clearing of its own before the point of no return takes it from
the queue, completes its command with disposition 1 (cancelled) and itself OK. CLEARING_REQUEST that passes its checks
is solved or waits for it, with its originator. CLEARING_ACCEPT, CLEARING_REPORT and, of a Clearing that is not
atomic, CLEARING_REJECT note the participant while another still has to answer; the last REPORT completes the Clearing
OK, or ALREADY_COMMITTED where it is split. A REJECT of an atomic one before its deadline, and the ABORT_DEADLINE of
an atomic one with a participant that has not accepted (REMOTE_TIMEOUT), abort it and complete its command; else the
deadline is marked passed. REPORT_TIMEOUT when due completes it with REMOTE_TIMEOUT. CLEARING_ABORT takes a
participant's part that is not armed from the queue. -/
def Obligations.ClearingsRun : Prop :=
  (∀ j r v base diff s, s.trv.solved = j :: r → j.origin = none → base = s.fabAt (s.jobFrame j) → v = s.solveJob j base →
    diff = s.diffOf (s.jobFrame j) v.bits → s.permBad (s.mergedPerm j.h j.perm base) = false →
    firstStatus (s.queueChecks j (s.jobFrame j) v diff) = none → s.frozen = false →
    (∀ c ∈ s.trv.queue, c.frame ≤ s.jobFrame j) → ∃ t c, exec .clearingQueue s = .next t ∧ t.trv.solved = r ∧
      t.trv.queue = s.trv.queue ++ [c] ∧ c.job = j ∧ c.frame = s.jobFrame j ∧ c.diff = diff ∧ c.armed = false ∧
      c.fab = ⟨s.mergedPerm j.h j.perm base, v.bits⟩) ∧
  (∀ c r s, s.trv.queue = c :: r → c.armed = false → c.frame ≤ s.frame + 1 → ∃ t, exec .pointOfNoReturn s = .next t ∧
    t.trv.queue = { c with
      armed := true, arms := c.diff.map (fun e => (e, s.armOf e (s.targetIn c.fab.bits e))) } :: r ∧
    t = { s with trv := { s.trv with queue := t.trv.queue } }) ∧
  (∀ c r s, s.trv.queue = c :: r → c.frame ≤ s.frame → ∃ t, exec .clearingExecution s = .next t ∧ t.trv.queue = r ∧
    t.trv.force = c.fab ∧ t.trv.forceCrc = c.crc ∧ t.rd .trv_last_clr_id 0 = c.job.clrId % 2 ^ Fid.trv_last_clr_id.width ∧
    ∀ e ∈ c.diff, (t.el e).tgt = s.targetIn c.fab.bits e) ∧
  (∀ h id c s, (∀ x ∈ s.trv.chains, x.job.clrId ≠ id) → s.trv.queue.find? (fun c => ownClr h.mbx id c) = some c →
    c.armed = false → c.job.origin = none → s.noTrv = false → ∃ t, exec (.stateAbort h id) s = .next t ∧ t.Finished h { status := .ok } ∧
      (∀ q ∈ t.trv.queue, q.job.clrId ≠ id) ∧ ∀ o, c.job.owner = some o → s.Concludes t o (c.completion (if c.job.remote then .busy else .ok) 1 false)) ∧
  (∀ src m s, m.slot < 4096 → s.execBad m.exec = false → m.maxDist ≤ 512 ∨ m.maxDist = 0xFFFF → s.mapAway = false → s.noTrv = false →
    s.permBad (s.slot m.slot).perm = false → (s.slot m.slot).valid = true → s.locked = true → ∃ t j, exec (.clearingRequest src m) s = .next t ∧
      j.clrId = m.clrId ∧ j.origin = some src ∧ j.perm = (s.slot m.slot).perm ∧
      (t.trv.waiting = s.trv.waiting ++ [j] ∨
        ∃ v, t.trv.solved = s.trv.solved ++ [{ j with sol := some v, cached := true }])) ∧
  (∀ src m x s, s.chainOf m.clrId = some x →
    (∀ y, y = x.setPart src (fun p => { p with accepted := true }) → y.allIn = false →
      ∃ t, exec (.clearingAccept src m) s = .next t ∧ t.chainOf m.clrId = some y) ∧
    (∀ y, y = x.setPart src (fun p => { p with rejected := true, status := m.status }) →
      (x.job.atomic = false → y.allIn = false → ∃ t, exec (.clearingReject src m) s = .next t ∧ t.chainOf m.clrId = some y) ∧
      (x.job.atomic = true → x.deadline = false → ∃ t c, exec (.clearingReject src m) s = .next t ∧ t.chainOf m.clrId = none ∧
        c = y.completion y.firstFail 1 ∧ ∀ o, x.job.owner = some o → s.Concludes t o c)) ∧
    (∀ y, y = x.entered src m →
      (y.allIn = false → ∃ t, exec (.clearingReport src m) s = .next t ∧ t.chainOf m.clrId = some y) ∧
      (y.allIn = true → ∃ t c, exec (.clearingReport src m) s = .next t ∧ t.chainOf m.clrId = none ∧
        c.status = (if y.split then .alreadyCommitted else .ok) ∧ ∀ o, x.job.owner = some o → s.Concludes t o c))) ∧
  (∀ src id c s, s.trv.queue.find? (fun c => c.job.clrId == id && decide (c.job.origin = some src)) = some c →
    c.armed = false → ∃ t, exec (.clearingAbort src id) s = .next t ∧
      ∀ q ∈ t.trv.queue, ¬ (q.job.clrId = id ∧ q.job.origin = some src)) ∧
  (∀ id x s, s.chainOf id = some x →
    (x.frame * tickFrame < s.datum.t + tickFrame + (1250 + x.hops * s.hopDelay) * tickNs →
      (x.job.atomic = true → x.deadline = false → (∃ p ∈ x.parts, p.accepted = false) → (∀ p ∈ x.parts, p.rejected = false) →
        ∃ t c, exec (.abortDeadline id) s = .next t ∧ t.chainOf id = none ∧ c.status = .remoteTimeout ∧
          ∀ o, x.job.owner = some o → s.Concludes t o c) ∧
      (x.job.atomic = false ∨ x.deadline = true ∨ (∀ p ∈ x.parts, p.accepted = true) → ∃ t, exec (.abortDeadline id) s = .next t ∧
        t.chainOf id = some { x with deadline := true })) ∧
    (x.frame * tickFrame + max 1 (s.rd .trv_chain_report_to 0) * 1000 * tickNs ≤ s.datum.t →
      ∃ t c, exec (.reportTimeout id) s = .next t ∧ t.chainOf id = none ∧ c.status = .remoteTimeout ∧
        ∀ o, x.job.owner = some o → s.Concludes t o c))

/-- A one-step Sync at the slave port of its domain sets the domain's offset to origin + correction + link delay -
ingress; a two-step one waits; its Follow_Up with the same sequence then does so with both corrections; an Announce
there keeps the grandmaster's class, identity, UTC offset and traceability; a Sync whose sequence does not follow
starts the count of valid ones anew. Sync, Follow_Up and Announce elsewhere, Pdelay messages outside the profile, and
every Delay_Req, are discarded and counted in DISCARD, saturating. With a port that may send and nothing in TC7 there:
PDELAY_REQ_RECEIVED of the profile where the port measures its link delay queues its egress timestamp and sends
Pdelay_Resp and its follow-up, PDELAY_TRANSMIT when due there sends Pdelay_Req, opens the exchange with its egress
time and advances the sequence; SYNC_TRANSMIT when due of a master port sends a one-step Sync with its origin time, or
a two-step one with its Follow_Up and a queued timestamp; ANNOUNCE_TRANSMIT when due of a master port sends an
Announce whose class is the received one while LOCKED (on PPS_IN a free value), 7 in HOLDOVER, else 248.
PDELAY_RESP_RECEIVED of the open exchange keeps both times; PDELAY_RESP_FOLLOW_UP_RECEIVED then puts the link delay at
the head of the latest 8 and closes the exchange. Timestamps are those of a queue with fewer than 64 entries. -/
def Obligations.DatumMessagesRun : Prop :=
  (∀ (p : Fin 4) m ing s, (s.atSlave p 0 m = true →
      (m.twoStep = false → ∃ t, exec (.syncReceived p m ing) s = .next t ∧
        (t.dom m.domain).offset = (m.origin : Int) + m.corr + s.linkDelay p - s.ingressAt p ing ∧
        (t.dom m.domain).lastSeq = some m.seq ∧ (s.domState m.domain ≠ 0 → s.domState m.domain ≠ 4 →
          (t.dom m.domain).valid = match (s.dom m.domain).lastSeq with
            | some q => if (q + 1) % 65536 = m.seq then (s.dom m.domain).valid + 1 else 1
            | none => 1)) ∧
      (m.twoStep = true → ∃ t, exec (.syncReceived p m ing) s = .next t ∧
        (t.dom m.domain).awaiting = some (m.seq, s.ingressAt p ing, m.corr) ∧ t = { s with datum := t.datum })) ∧
    (s.atSlave p 8 m = true → ∀ t0 c, (s.dom m.domain).awaiting = some (m.seq, t0, c) → ∃ t, exec (.followUpReceived p m) s = .next t ∧
        (t.dom m.domain).offset = (m.origin : Int) + (c + m.corr) + s.linkDelay p - t0 ∧
        (t.dom m.domain).awaiting = none) ∧
    (s.atSlave p 0xB m = true → ∃ t, exec (.announceReceived p m) s = .next t ∧ (t.dom m.domain).gmClass = m.gmClass ∧ (t.dom m.domain).gmId = m.gmId ∧
        (t.dom m.domain).utc = m.utc ∧ (t.dom m.domain).traceable = m.traceable ∧ (t.dom m.domain).announced = true) ∧
    (∀ ty c, (ty = 0 ∧ c = Instr.syncReceived p m ing) ∨ (ty = 8 ∧ c = .followUpReceived p m) ∨
        (ty = 0xB ∧ c = .announceReceived p m) → s.atSlave p ty m = false → exec c s = .next (s.wr .dtm_port_cfg_discard p
        (min (s.rd .dtm_port_cfg_discard p + 1) (2 ^ Fid.dtm_port_cfg_discard.width - 1)))) ∧
    exec (.delayReqReceived p) s = .next (s.wr .dtm_port_cfg_discard p
      (min (s.rd .dtm_port_cfg_discard p + 1) (2 ^ Fid.dtm_port_cfg_discard.width - 1)))) ∧
  (∀ (p : Fin 4) s, s.portReady p = true → (s.sp p).queue 7 = [] → Tbl.get [] (s.sp p).crown 7 = [] → (s.pp p).tsq.length < 64 →
    (∀ m ing eg, ptpProfile m 2 = true → s.pdelayOn p = true → ∃ t, exec (.pdelayReqReceived p m ing eg) s = .next t ∧
      (t.pp p).tsq = (s.pp p).tsq ++ [⟨m.seq, 3, m.domain, s.egressAt p eg⟩] ∧
      ((t.sp p).queue 7).map (fun f => f.frame) = [
        .ptp { msgType := 3, domain := m.domain, seq := m.seq, twoStep := true, origin := s.ingressAt p ing },
        .ptp { msgType := 0xA, domain := m.domain, seq := m.seq, origin := s.egressAt p eg }]) ∧
    (∀ eg, s.pdelayOn p = true → s.sendDue p 2 (oneSecond * 2 ^ s.rd .dtm_port_cfg_pd_exp p / 16) = true →
      ∃ t, exec (.pdelayTransmit p eg) s = .next t ∧ (t.pp p).nextPdelay = ((s.pp p).nextPdelay + 1) % 65536 ∧
      (t.pp p).reqOpen = some ((s.pp p).nextPdelay, some (s.egressAt p eg)) ∧ (t.pp p).resp = none ∧
      ((t.sp p).queue 7).map (fun f => f.frame) = [.ptp { msgType := 2, domain := s.pdelayDomain p, seq := (s.pp p).nextPdelay }]) ∧
    (∀ (d : Fin 2) eg, s.ptpRole d p = 1 → s.sendDue p d (oneSecond / 2 ^ s.rd .dtm_port_cfg_log_sync p) = true →
      ∃ t, exec (.syncTransmit p d eg) s = .next t ∧
      (t.pp p).nextSync = ((s.pp p).nextSync + 1) % 65536 ∧
      ((t.sp p).queue 7).map (fun f => f.frame) = if s.rd .dtm_port_cfg_one_step p ≠ 0 then
          [.ptp { msgType := 0, domain := d, seq := (s.pp p).nextSync, origin := s.serve d (s.egressAt p eg) }]
        else [.ptp { msgType := 0, domain := d, seq := (s.pp p).nextSync, twoStep := true },
          .ptp { msgType := 8, domain := d, seq := (s.pp p).nextSync, origin := s.serve d (s.egressAt p eg) }]) ∧
    (∀ (d : Fin 2), s.ptpRole d p = 1 → s.sendDue p (4 + d) oneSecond = true → ∃ t, exec (.announceTransmit p d) s = .next t ∧
      (t.pp p).nextAnnounce = ((s.pp p).nextAnnounce + 1) % 65536 ∧
      ((t.sp p).queue 7).map (fun f => f.frame) = [.ptp {
        msgType := 0xB, domain := d, seq := (s.pp p).nextAnnounce
        gmClass := if s.domState d = 3 then (if s.srcOf d = 2 then s.freeVal % 256 else (s.dom d).gmClass) else if s.domState d = 4 then 7 else 248
        gmId := (s.dom d).gmId, utc := (s.dom d).utc, traceable := s.domState d == 3 }])) ∧
  (∀ (p : Fin 4) m q (t1 : Nat) s, (s.pp p).reqOpen = some (q, some t1) → q = m.seq →
    (∀ ing, ptpProfile m 3 = true → ∃ t, exec (.pdelayRespReceived p m ing) s = .next t ∧ (t.pp p).resp = some (q, m.origin, s.ingressAt p ing) ∧
      t = { s with datum := t.datum }) ∧
    ∀ (t2 t4 : Nat), (s.pp p).resp = some (q, t2, t4) → ptpProfile m 0xA = true → ∃ t, exec (.pdelayRespFollowUpReceived p m) s = .next t ∧
      (t.pp p).delays = (((((t4 : Rat) - t1) * rateRatio (s.pp p).lastResp m.origin t4 - ((m.origin : Rat) - t2)) / 2).floor
        :: (s.pp p).delays).take 8 ∧ (t.pp p).reqOpen = none ∧ (t.pp p).lastResp = some (m.origin, t4) ∧
      t.rd .dtm_linkdly_link_dly p = ps32 (psOfTicks (t.linkDelay p)) % 2 ^ Fid.dtm_linkdly_link_dly.width) ∧
  (∀ (p : Fin 4) m ing eg ty c s, (ty = 2 ∧ c = Instr.pdelayReqReceived p m ing eg) ∨ (ty = 3 ∧ c = .pdelayRespReceived p m ing) ∨
    (ty = 0xA ∧ c = .pdelayRespFollowUpReceived p m) → ptpProfile m ty = false → exec c s = .next (s.wr .dtm_port_cfg_discard p
      (min (s.rd .dtm_port_cfg_discard p + 1) (2 ^ Fid.dtm_port_cfg_discard.width - 1))))

/-- SOURCE_LOST changes nothing while no row of R299 of the kind it names, timeout or other, holds; where one does, it
puts a domain neither FREE nor in HOLDOVER in HOLDOVER, or FREE if it never acquired; of a LOCKED Datum P with AUTO_S
and a Datum S that may take over, a switch waits. DATUM_ACQUIRED of an ACQUIRING Datum P with 8 valid Syncs, its link
delays and time of day plans a grid step the first time since reset or for a RESTEP, and else slews within STEP_LIMIT
or holds with BIG_OFS. DATUM_LOCKED after 16 within LOCK_THR, traced, makes Datum P LOCKED, and after 16 with a valid
estimate Datum S. GRID_STEP when permitted moves the clock by K grids, ends the plan, puts Datum P in SLEWING unless
its source is lost meanwhile, counts STEP_CNT and gives its commands OK. RESTEP_WRITE, allowed, plans the step, or
asks for it while ACQUIRING. PPS_IN_EDGE 10 ms or more after SET_TOD sets the domain's offset from its second and
moves to the next; with no domain on PPS_IN it does nothing. PPS_OUT_PULSE and TRIG_OUTPUT_PULSE put out a pulse that
falls in this frame. TRIG_INPUT_EDGE of a selected edge, no ring bound, goes to the pin's FIFO while it has room, and
a rising one starts the pin's idle precision windows. TRIG_TS_READ and TSQ_POP_READ remove the oldest entry.
TRIG_START_WRITE under an unlock stores START and arms a mode 2 or 3 at least 1 µs ahead. DTM_TIME_LATCH shows time
and frame. P_DOM_WRITE under an unlock sets P_DOM, and a switch waits where it may. -/
def Obligations.DatumStatesAndPinsRun : Prop :=
  (∀ (d : Fin 2) late s, (if late = true then s.sourceLate d else s.sourceFails d) = false →
    exec (.sourceLost d late) s = .next s) ∧
  (∀ (d : Fin 2) late st s, (if late = true then s.sourceLate d else s.sourceFails d) = true → s.domState d = st → st ≠ 0 → st ≠ 4 →
    (d.val = s.pDom ∧ st = 3 ∧ s.rd .dtm_ctrl_auto_s 0 ≠ 0 ∧ s.canSwitch = true →
      ∃ t, exec (.sourceLost d late) s = .next t ∧ t.datum.switchDue = some (s.datum.switchDue.getD []) ∧ (t.dom d).announced = false) ∧
    (¬ (d.val = s.pDom ∧ st = 3 ∧ s.rd .dtm_ctrl_auto_s 0 ≠ 0 ∧ s.canSwitch = true) →
      ∃ t, exec (.sourceLost d late) s = .next t ∧ t.domState d = (if (s.dom d).acquired then 4 else 0) ∧
        (t.dom d).announced = false ∧ (t.dom d).valid = 0)) ∧
  (∀ x s, x = s.dom s.pDom → s.rd .dtm_status_p_state 0 = 1 → 8 ≤ x.valid → s.datum.stepPlan = none →
    (∀ p, s.slavePort s.pDom = some p → 4 ≤ (s.pp p).delays.length) → (s.srcOf s.pDom = 2 → x.tod.isSome = true) →
    (s.datum.firstDone = false ∨ s.datum.stepWanted = true → ∃ t, exec .datumAcquired s = .next t ∧ t.rd .dtm_status_step_pend 0 = 1 ∧
      t.datum.stepPlan = some (stepK x.offset, x.offset - stepK x.offset * gridTicks, s.frame)) ∧
    (s.datum.firstDone = true → s.datum.stepWanted = false → ∃ t, exec .datumAcquired s = .next t ∧
      if |x.offset| ≤ ((s.rd .dtm_step_limit_step_limit 0 * 65536 : Nat) : Int) then t.rd .dtm_status_p_state 0 = 2
      else t.rd .dtm_status_p_state 0 = 4 ∧ t.rd .dtm_status_big_ofs 0 = 1)) ∧
  (∀ s, ∃ t, exec .datumLocked s = .next t ∧
    (s.rd .dtm_status_p_state 0 = 2 → 16 ≤ (s.dom s.pDom).within →
      s.srcOf s.pDom = 2 ∨ (s.dom s.pDom).traceable = true → t.rd .dtm_status_p_state 0 = 3) ∧
    (s.rd .dtm_status_s_state 0 = 1 → 8 ≤ (s.dom (1 - s.pDom)).valid → 16 ≤ (s.dom (1 - s.pDom)).good →
      s.srcOf (1 - s.pDom) = 2 ∨ (s.dom (1 - s.pDom)).traceable = true → t.rd .dtm_status_s_state 0 = 3)) ∧
  (∀ k r f s, s.datum.stepPlan = some (k, r, f) → s.stepPermitted f = true → ∃ t, exec .gridStep s = .next t ∧
    t.datum.t = ((s.datum.t : Int) + k * gridTicks).toNat ∧ t.datum.stepPlan = none ∧
    t.rd .dtm_status_p_state 0 = (if s.rd .dtm_status_p_state 0 = 0 ∨
      (s.rd .dtm_status_p_state 0 = 4 ∧ s.rd .dtm_status_big_ofs 0 = 0) then s.rd .dtm_status_p_state 0 else 2) ∧
    t.rd .dtm_status_step_cnt 0 = (s.rd .dtm_status_step_cnt 0 + 1) % 2 ^ Fid.dtm_status_step_cnt.width ∧
    ∀ o ∈ s.datum.stepOwners, (∀ c ∈ s.loop.pwCmds, c.owner ≠ o) → s.Concludes t o { status := .ok }) ∧
  (∀ s, (∀ c ∈ s.trv.queue, c.job.exec = none) → s.canRestep = true → s.datum.stepPlan = none →
    ∃ t, exec .restepWrite s = .next t ∧ if s.rd .dtm_status_p_state 0 = 1 then t.datum.stepWanted = true
      else t.rd .dtm_status_step_pend 0 = 1 ∧ ∃ q, t.datum.stepPlan = some q) ∧
  (∀ (ing edge : Nat) s, edge = ((ing : Int) + ticksOfPs (signed 32 (s.rd .dtm_pps_in_dly_dly 0))).toNat →
    ∃ t, exec (.ppsInEdge ing) s = .next t ∧ (s.srcOf 0 ≠ 2 → s.srcOf 1 ≠ 2 → t = s) ∧
      ∀ d, d < 2 → s.srcOf d = 2 → ∀ sec, (s.dom d).tod = some sec → (s.dom d).todAt + 10000000 * tickNs ≤ edge →
        (t.dom d).tod = some (sec + 1) ∧ (t.dom d).offset = ((sec * 1000000000 * 65536 : Nat) : Int) - edge) ∧
  (∀ ofs start s, ofs = signed 16 (s.rd .dtm_pps_cfg_out_ofs 0) * 65536 →
    start = -(-((s.datum.t : Int) - ofs) / (1000000000 * 65536)) * (1000000000 * 65536) + ofs →
    start < (s.datum.t : Int) + tickFrame → s.rd .dtm_ctrl_pps_gate 0 = 0 ∨ s.locked = true →
    exec .ppsOutPulse s = .next { s with
      out := s.out ++ [.pulse 4 start.toNat (max 1 (min 500 (s.rd .dtm_pps_cfg_width 0)) * 1000000)] }) ∧
  (∀ (i : Fin 4) start s, 2 ≤ s.rd .dtm_trig_cfg_mode i → s.rd .dtm_trig_cfg_mode i ≤ 4 → (s.trig i).armed = true →
    start = (s.trig i).start + (if s.rd .dtm_trig_cfg_mode i = 3 then
      (s.trig i).pulses * s.rd .dtm_trig_pw_period i * 65536 else 0) →
    s.datum.t ≤ start → start < s.datum.t + tickFrame → ∃ t, exec (.trigOutputPulse i) s = .next t ∧
      t.out = s.out ++ [.pulse i start (s.rd .dtm_trig_pw_width i)] ∧
      t.trig i = { s.trig i with pulses := (s.trig i).pulses + 1, armed := s.rd .dtm_trig_cfg_mode i == 3 }) ∧
  (∀ (i : Fin 4) rising tm edge s, s.rd .dtm_trig_cfg_mode i = 1 → edge = s.rd .dtm_trig_cfg_edge i →
    s.host.sources.any (fun x => x.source == 6 && x.first ≤ i.val && i.val < x.first + x.count) = false →
    ∃ t, exec (.trigInputEdge i rising tm) s = .next t ∧
      (edge = 3 ∨ edge = (if rising then 1 else 2) → (s.trig i).fifo.length < 16 →
        (t.trig i).fifo = (s.trig i).fifo ++ [(tm, rising)]) ∧
      (rising = true → ∀ m, s.rd .ust_pw_cfg_src m = 2 + i.val → s.rd .ust_pw_cfg_mode m = 1 ∨ s.rd .ust_pw_cfg_mode m = 2 →
        s.inPass (monCpt m) = false → s.fenced (monCpt m) = false → (s.mon m).win = none → (s.mon m).cont = false →
        (t.mon m).win = some { start := s.edgeFrame tm, len := max 1 (s.rd .ust_pw_cfg_len m), cmds := (s.mon m).armed })) ∧
  (∀ (i : Fin 4) s, (∃ t, exec (.trigTsRead i) s = .next t ∧ t.trig i = { s.trig i with fifo := (s.trig i).fifo.drop 1 } ∧
      ∀ j, j ≠ i.val → t.trig j = s.trig j) ∧
    ∃ t, exec (.tsqPopRead i) s = .next t ∧ t.pp i = { s.pp i with tsq := (s.pp i).tsq.drop 1 } ∧
      ∀ j, j ≠ i.val → t.pp j = s.pp j) ∧
  (∀ (i : Fin 4) start s, timeOk start = true → s.covers (0x30410 + 0x40 * i.val) .dtm_trig_start_ns i = true →
    ∃ t, exec (.trigStartWrite i start) s = .next t ∧ t.rd .dtm_trig_start_sec i = start.sec ∧
      t.rd .dtm_trig_start_ns i = start.ns ∧ t.rd .dtm_trig_start_subns i = start.sub ∧
      (s.rd .dtm_trig_cfg_mode i = 2 ∨ s.rd .dtm_trig_cfg_mode i = 3 → s.datum.t + 1000 * tickNs ≤ ticksOf start →
        (t.trig i).armed = true ∧ (t.trig i).start = ticksOf start ∧ (t.trig i).pulses = 0)) ∧
  (∀ s, ∃ t, exec .dtmTimeLatch s = .next t ∧ t.rd .dtm_time_sec 0 = (timeOf s.datum.t).sec % 2 ^ 48 ∧
    t.rd .dtm_time_ns 0 = (timeOf s.datum.t).ns ∧ t.rd .dtm_time_subns 0 = (timeOf s.datum.t).sub ∧
    t.rd .dtm_frame_f 0 = s.frame ∧ t = { s with regs := t.regs }) ∧
  (∀ (v : Fin 2) s, s.covers 0x30000 .dtm_ctrl_p_dom 0 = true → ∃ t, exec (.pDomWrite v) s = .next t ∧
    t.rd .dtm_ctrl_p_dom 0 = v ∧ t.datum.switchDue =
      if v.val ≠ s.pDom ∧ s.canSwitch = true ∧ s.datum.stepPlan = none then some (s.datum.switchDue.getD []) else s.datum.switchDue)

/-- By MB0 with valid fields: DATUM_CFG CONFIG writes the sources of both domains and the PTP parameters of its port
and completes OK. SELECT of Datum P itself sets P_DOM and completes OK; of the other domain, which may take over and
with no step planned, it waits in flight for the switch. SET_TOD with a domain on PPS_IN gives each such domain SEC,
sets TOD_SET and completes OK. LIMITS writes its seven parameters and completes OK. RESTEP with no Clearing of a named
time queued and a source that allows it is in flight, kept for the step. TRIGGER_CFG of a pin whose input no precision
window names, with Datum P LOCKED for a scheduled output, writes the pin's configuration and completes OK.
DATUM_STATUS, local, with a 16-byte aligned buffer writes the record, completes OK and changes nothing else. -/
def Obligations.DatumCommandsComplete : Prop :=
  (∀ h port src0 port0 src1 port1 one ls pd ain aeg s, h.mbx = 0 → port ≤ 3 → src0 ≤ 2 → port0 ≤ 3 → src1 ≤ 2 → port1 ≤ 3 →
    one ≤ 1 → ls ≤ 7 → pd ≤ 7 → ain < 2 ^ 32 → aeg < 2 ^ 32 → ¬ (src0 = 1 ∧ src1 = 1 ∧ port0 = port1) →
    ∃ t, exec (.datumCfgConfig h port src0 port0 src1 port1 one ls pd ain aeg) s = .next t ∧ t.Finished h { status := .ok } ∧
      t.rd .dtm_ctrl_src0 0 = src0 ∧ t.rd .dtm_ctrl_port0 0 = port0 ∧ t.rd .dtm_ctrl_src1 0 = src1 ∧
      t.rd .dtm_ctrl_port1 0 = port1 ∧ t.rd .dtm_port_cfg_one_step port = one ∧ t.rd .dtm_port_cfg_log_sync port = ls ∧
      t.rd .dtm_port_cfg_pd_exp port = pd ∧ t.rd .dtm_asym_asym_in port = ain ∧ t.rd .dtm_asym_asym_eg port = aeg) ∧
  (∀ h d s, h.mbx = 0 → d ≤ 1 → s.datum.stepPlan = none →
    (d = s.pDom → ∃ t, exec (.datumCfgSelect h d) s = .next t ∧ (s.wr .dtm_ctrl_p_dom 0 d).Completed t h { status := .ok }) ∧
    (d ≠ s.pDom → s.canSwitch = true → ∃ t id, exec (.datumCfgSelect h d) s = .next t ∧ t.InFlight h id ∧
      t.rd .dtm_ctrl_p_dom 0 = d ∧ t.datum = { s.datum with switchDue := some (s.datum.switchDue.getD [] ++ [⟨h.mbx, id⟩]) })) ∧
  (∀ h sec s, h.mbx = 0 → sec < 2 ^ 48 → s.srcOf 0 = 2 ∨ s.srcOf 1 = 2 → ∃ t, exec (.datumCfgSetTod h sec) s = .next t ∧
    t.Finished h { status := .ok } ∧ t.rd .dtm_status_tod_set 0 = 1 ∧ ∀ d, d < 2 →
      (t.dom d).tod = if s.srcOf d = 2 then some sec else (s.dom d).tod) ∧
  (∀ h lt sm sw st bw au pg s, h.mbx = 0 → lt ≤ 255 → sm ≤ 255 → sw ≤ 65535 → st < 2 ^ 32 → bw ≤ 7 → au ≤ 1 → pg ≤ 1 →
    ∃ t, exec (.datumCfgLimits h lt sm sw st bw au pg) s = .next t ∧ t.Finished h { status := .ok } ∧
      t.rd .dtm_limits_lock_thr 0 = lt ∧ t.rd .dtm_limits_slew_max 0 = sm ∧ t.rd .dtm_limits_sw_limit 0 = sw ∧
      t.rd .dtm_step_limit_step_limit 0 = st ∧ t.rd .dtm_ctrl_servo_bw 0 = bw ∧ t.rd .dtm_ctrl_auto_s 0 = au ∧
      t.rd .dtm_ctrl_pps_gate 0 = pg) ∧
  (∀ h s, h.mbx = 0 → (∀ c ∈ s.trv.queue, c.job.exec = none) → s.canRestep = true → ∃ t id, exec (.datumCfgRestep h) s = .next t ∧
    t.InFlight h id ∧ t.datum.stepOwners = s.datum.stepOwners ++ [⟨h.mbx, id⟩] ∧
    (s.datum.stepPlan = none → if s.rd .dtm_status_p_state 0 = 1 then t.datum.stepWanted = true
      else t.rd .dtm_status_step_pend 0 = 1 ∧ ∃ q, t.datum.stepPlan = some q)) ∧
  (∀ h pin mode edge start period width s, h.mbx = 0 → pin ≤ 3 → mode ≤ 4 → 1 ≤ edge → edge ≤ 3 → timeOk start = true →
    widthBad mode period width = false → period < 2 ^ 32 → width < 2 ^ 32 → s.pinNamed pin = false ∨ mode = 1 →
    (mode = 2 ∨ mode = 3 → s.locked = true) → ∃ t, exec (.triggerCfg h pin mode edge start period width) s = .next t ∧
      t.Finished h { status := .ok } ∧ t.rd .dtm_trig_cfg_mode pin = mode ∧ t.rd .dtm_trig_cfg_edge pin = edge ∧
      t.rd .dtm_trig_start_sec pin = start.sec ∧ t.rd .dtm_trig_start_ns pin = start.ns ∧
      t.rd .dtm_trig_pw_period pin = period ∧ t.rd .dtm_trig_pw_width pin = width ∧ (t.trig pin).start = ticksOf start) ∧
  (∀ h buf s, h.remote = none → buf % 16 = 0 → ∃ t, exec (.datumStatus h buf) s = .next t ∧
    (s.hostWrite h buf s.datumRecord).Completed t h { status := .ok })

/-- Of a present element of the mailbox's partition, no gate of a darkened port, not fenced, with no transition
scheduled, of a module not FROZEN, and, but for a release, neither SUSPECT nor in JUMP nor changing range: ELEMENT_SET
OVERRIDE of a drive not above DRIVE_MAX and, of an element in SETTLE or HOLD that is no cell's, has a role 3 to 6, is
fed by no enabled outer loop and, as an H-mode one, is not tripped, SETPOINT with a new drive (or only a new slope)
wait scheduled from this frame, in flight, every other element as before. RANGE of a V-mode element whose range change
nothing hinders completes OK at once for the range in force, else asks for the change in flight. ELEMENT_RELEASE
ELEMENT of a MANUAL element, and RETURN of a SUSPECT one without OC or LEAK, wait scheduled; ELEMENT of another
element clears OC and LEAK and completes OK; both re-enable a tripped group that the partition holds. TRIP_RELEASE
with no enabled source asserted clears TRIP and completes OK. ELEMENT_STATUS of a range inside the partition with a
16-byte aligned buffer writes the records and completes OK with their number. -/
def Obligations.ElementCommandsComplete : Prop :=
  (∀ h elem s, elem ≤ 10239 → s.holdsElem h.mbx elem = true → s.present elem = true → s.gateDark elem = false →
    s.fenced (elemCpt elem) = false → (s.el elem).sched = none → s.frozen = false → s.mapAway = false →
    ((s.el elem).state ≠ 3 → (s.el elem).state ≠ 5 → (s.el elem).rchg = none →
      (∀ drive, drive ≤ s.driveMax elem → ∃ t id, exec (.elementSetOverride h elem drive) s = .next t ∧ t.InFlight h id ∧
        t.el elem = { s.el elem with sched := some (.override drive, s.loop.frames, some ⟨h.mbx, id⟩) } ∧
        ∀ e, e ≠ elem → t.el e = s.el e) ∧
      (∀ ffc ssp, (s.erec elem).isCell = false → 3 ≤ (s.erec elem).role → (s.erec elem).role ≤ 6 → s.outerFeeds elem = false →
        (s.el elem).state = 1 ∨ (s.el elem).state = 2 →
        (ffc ≠ 0xFFFFFFFF → ffc ≤ s.driveMax elem → isV elem = true ∨ s.rd .ust_htrip_trip (elemCpt elem) = 0 →
          ∃ t id, exec (.elementSetSetpoint h elem ffc ssp) s = .next t ∧ t.InFlight h id ∧
            t.el elem = { s.el elem with sched := some (.setpoint ffc (if ssp = 0x8000 then none else some (signed 16 ssp)),
              s.loop.frames, some ⟨h.mbx, id⟩) } ∧ ∀ e, e ≠ elem → t.el e = s.el e) ∧
        (ssp ≠ 0x8000 → ∃ t id, exec (.elementSetSetpoint h elem 0xFFFFFFFF ssp) s = .next t ∧ t.InFlight h id ∧
          t.el elem = { s.el elem with sched := some (.sigma (signed 16 ssp), s.loop.frames, some ⟨h.mbx, id⟩) } ∧
          ∀ e, e ≠ elem → t.el e = s.el e)) ∧
      (∀ range, range ≤ 1 → isV elem = true →
        s.trv.queue.any (fun c => c.diff.contains elem && c.frame * 1024 < s.nowNs + 60000) = false →
        (range = 0 → s.needsTop elem ≤ (rangeTop false : Int)) →
        ((range == 1) = s.rangeHi elem → ∃ t, exec (.elementSetRange h elem range) s = .next t ∧
          s.Completed t h { status := .ok, res0 := bit01 (s.rangeHi elem) }) ∧
        ((range == 1) ≠ s.rangeHi elem → ∃ t id, exec (.elementSetRange h elem range) s = .next t ∧ t.InFlight h id ∧
          t.rd .ust_vdac_cfg_range elem = range ∧
          (t.el elem).rchg = some { at0 := s.loop.frames, hi := range == 1, owner := some ⟨h.mbx, id⟩ }))) ∧
    ((s.el elem).state = 4 → (isV elem = true → vGroup elem ∈ s.loop.tripped → s.holdsGroup h.mbx elem = true) →
      ∃ t id, exec (.elementReleaseElement h elem) s = .next t ∧ t.InFlight h id ∧
      (t.el elem).sched = some (.release, s.loop.frames, some ⟨h.mbx, id⟩) ∧
      (isV elem = false ∨ vGroup elem ∉ s.loop.tripped →
        t.el elem = { s.el elem with sched := some (.release, s.loop.frames, some ⟨h.mbx, id⟩) }) ∧
      (isV elem = true → vGroup elem ∉ t.loop.tripped)) ∧
    ((s.el elem).state ≠ 4 → (isV elem = true → vGroup elem ∈ s.loop.tripped → s.holdsGroup h.mbx elem = true) →
      ∃ t, exec (.elementReleaseElement h elem) s = .next t ∧ t.Finished h { status := .ok } ∧
        (isV elem = true → vGroup elem ∉ t.loop.tripped ∧ t.rd .ust_vdac_status_oc elem = 0) ∧
        (isV elem = false → t.rd .ust_hpwm_status_oc (hIdx elem) = 0 ∧ t.rd .ust_hpwm_status_leak (hIdx elem) = 0)) ∧
    ((s.el elem).state = 5 → s.latched elem = false → ∃ t id, exec (.elementReleaseReturn h elem) s = .next t ∧
      t.InFlight h id ∧ t.el elem = { s.el elem with sched := some (.return, s.loop.frames, some ⟨h.mbx, id⟩) })) ∧
  (∀ h comp s, comp ≤ 3 → s.holdsElems h.mbx (9216 + 256 * comp) 256 = true → s.frozen = false → s.tripActive comp = 0 →
    ∃ t, exec (.elementReleaseTrip h comp) s = .next t ∧ t.Finished h { status := .ok } ∧ t.rd .ust_htrip_trip comp = 0) ∧
  (∀ h first count buf s, h.remote = none → 1 ≤ count → first + count ≤ 10240 → buf % 16 = 0 →
    s.holdsElems h.mbx first count = true → ∃ t, exec (.elementStatus h first count buf) s = .next t ∧
      (s.hostWrite h buf ((span first count).flatMap s.statusRecord)).Completed t h { status := .ok, res0 := count })

/-- With valid fields, inside the mailbox's partition: LOOP_CONFIG COMPARTMENT with no change waiting there and a
period and window that fit its pilots and sets completes OK where they are in force, and else waits in flight with
PEND 1. COEFFICIENT writes the shadow set and completes OK; with COMMIT, the bank acceptable and none waiting, a swap
waits. With a map, not being replaced, and of the present ones of exactly the elements named, ELEMENT sets the
coefficient set, CLEAR_CODE the clear codes, PILOT the amplitudes, HPWM the period, dead time, minimum pulse, filter
mode and stagger (0xFF: h mod 16); DEGLITCH the threshold of the compartment, each completing OK. PROFILE of an
acceptable profile with flash not inhibited puts it in the compartment's registers and in flash and completes OK. TRIP
sets the trip latch and its cause SW and completes OK. POWER_CAP by MB0 sets CAP_PROG and changes nothing else but its
completion, OK. -/
def Obligations.LoopConfigCompletes : Prop :=
  (∀ h comp period window p w s, comp ≤ 3 → pselOf period = some p → wselOf window = some w →
    s.holdsCptElems h.mbx comp = true → (s.cpt comp).change = none → s.fitsLoop comp period window = true →
    (p = s.rd .stx_cpt_cfg_psel comp ∧ w = s.rd .stx_cpt_cfg_wsel comp →
      ∃ t, exec (.loopConfigCompartment h comp period window) s = .next t ∧ s.Completed t h { status := .ok }) ∧
    (¬ (p = s.rd .stx_cpt_cfg_psel comp ∧ w = s.rd .stx_cpt_cfg_wsel comp) →
      ∃ t id, exec (.loopConfigCompartment h comp period window) s = .next t ∧ t.InFlight h id ∧
        t.rd .stx_cpt_cfg_pend comp = 1 ∧ (t.cpt comp).change = some (p, w, s.loop.frames, some ⟨h.mbx, id⟩))) ∧
  (∀ h comp set kp ki ilim eps commit s u, comp ≤ 3 → set ≤ 15 → kp < 65536 → ki < 65536 → ilim < 2 ^ 20 → eps < 2 ^ 20 →
    commit ≤ 1 → s.holdsCptElems h.mbx comp = true →
    u = (((s.wr .stx_coef_kp (coefIdx comp set) kp).wr .stx_coef_ki (coefIdx comp set) ki).wr .stx_coef_ilim
      (coefIdx comp set) ilim).wr .stx_coef_eps_max (coefIdx comp set) eps →
    (commit = 1 → u.commitOk comp = true) → ∃ t, exec (.loopConfigCoefficient h comp set kp ki ilim eps commit) s = .next t ∧
      t.Finished h { status := .ok } ∧ t.rd .stx_coef_kp (coefIdx comp set) = kp ∧ t.rd .stx_coef_ki (coefIdx comp set) = ki ∧
      t.rd .stx_coef_ilim (coefIdx comp set) = ilim ∧ t.rd .stx_coef_eps_max (coefIdx comp set) = eps ∧
      (t.cpt comp).swap = if commit = 1 ∧ (s.cpt comp).swap = none then some (s.loop.frames, none) else (s.cpt comp).swap) ∧
  (∀ h first set count s, 1 ≤ count → first + count ≤ 10240 → set ≤ 15 → s.holdsElems h.mbx first count = true →
    s.mapAway = false → s.map.force.isSome = true →
    ∃ t, exec (.loopConfigElement h first set count) s = .next t ∧ t.Finished h { status := .ok } ∧
      ∀ e, t.el e = if (first ≤ e ∧ e < first + count) ∧ s.present e = true then { s.el e with coefSet := set } else s.el e) ∧
  (∀ h first count code s, 1 ≤ count → first + count ≤ 9216 → code < 2 ^ 20 → s.holdsElems h.mbx first count = true →
    s.mapAway = false → s.map.force.isSome = true →
    ∃ t, exec (.loopConfigClearCode h first count code) s = .next t ∧ t.Finished h { status := .ok } ∧
      ∀ e, t.rd .ust_vclr_code e = if (first ≤ e ∧ e < first + count) ∧ s.present e = true then code else s.rd .ust_vclr_code e) ∧
  (∀ h comp prof (p : Prof) s, comp ≤ 3 → prof ≤ 15 → p.ok = true → s.holdsCptElems h.mbx comp = true →
    s.flashRefused = false →
    ∃ t, exec (.loopConfigProfile h comp prof p.count p.flags p.t2 p.t3 p.t4 p.a1 p.a2 p.a3 p.rsv) s = .next t ∧
      t.Finished h { status := .ok } ∧ t.profReg (profIdx comp prof) = p ∧
      Tbl.get {} t.loop.profs (profIdx comp prof) = p) ∧
  (∀ h first count pamp s, 1 ≤ count → first + count ≤ 10240 → pamp ≤ 4095 → s.holdsElems h.mbx first count = true →
    s.mapAway = false → s.map.force.isSome = true →
    ∃ t, exec (.loopConfigPilot h first count pamp) s = .next t ∧ t.Finished h { status := .ok } ∧
      ∀ e, e < 10240 → t.pampOf e = if (first ≤ e ∧ e < first + count) ∧ s.present e = true then pamp else s.pampOf e) ∧
  (∀ h comp thr s, comp ≤ 3 → thr ≤ 63 → s.holdsCptElems h.mbx comp = true →
    ∃ t, exec (.loopConfigDeglitch h comp thr) s = .next t ∧ (s.wr .ust_vdac_ctrl_dgl_thr comp thr).Completed t h { status := .ok }) ∧
  (∀ h first count per dead minp mpf stag s, 1 ≤ count → 9216 ≤ first → first + count ≤ 10240 → mpf ≤ 1 →
    stag ≤ 15 ∨ stag = 0xFF → per ≤ 65535 → dead < 256 → minp < 256 → 2 * dead + minp + 2 ≤ per →
    (∀ e, first ≤ e → e < first + count → s.present e = true → (s.erec e).pilotEn = true → per * (s.erec e).pilotK ≤ 32000) →
    s.holdsElems h.mbx first count = true → s.mapAway = false → s.map.force.isSome = true →
    ∃ t, exec (.loopConfigHpwm h first count per dead minp mpf stag) s = .next t ∧ t.Finished h { status := .ok } ∧
      ∀ e, first ≤ e → e < first + count → s.present e = true →
        t.rd .ust_hpwm_cfg_per (hIdx e) = per ∧ t.rd .ust_hpwm_cfg_dead (hIdx e) = dead ∧
        t.rd .ust_hpwm_cfg_minp (hIdx e) = minp ∧ t.rd .ust_hpwm_mode_mpf (hIdx e) = mpf ∧
        t.rd .ust_hpwm_mode_stag (hIdx e) = if stag = 0xFF then hIdx e % 16 else stag) ∧
  (∀ h comp s, comp ≤ 3 → s.holdsElems h.mbx (9216 + 256 * comp) 256 = true →
    ∃ t, exec (.loopConfigTrip h comp) s = .next t ∧ t.Finished h { status := .ok } ∧ t.rd .ust_htrip_trip comp = 1 ∧
      t.rd .ust_htrip_cause comp = (s.rd .ust_htrip_cause comp ||| 16) % 2 ^ Fid.ust_htrip_cause.width) ∧
  (∀ h cap s, h.mbx = 0 → ∃ t, exec (.loopConfigPowerCap h cap) s = .next t ∧
    (s.wr .glb_hcap_cap_prog 0 cap).Completed t h { status := .ok })

/-- LOOP_PERIOD_BOUNDARY at a boundary of a compartment, not FROZEN, no handover running, writes reaching the channels
and the compartment finished in time, advances its boundary index modulo 2^24, gives each present element there that
neither falls to SUSPECT nor is held the drive due (SETTLE and HOLD the computed one, MANUAL its override, SUSPECT its
last good drive), and shows the number of elements in HOLD in both Stands' counts; one that is no boundary, or has
been dealt with, changes nothing. COEF_COMMIT_WRITE with no swap waiting asks for one where the bank is acceptable,
else sets REJECT. COEFFICIENT_SWAP at its boundary swaps every coefficient of the two banks, toggles BANK, counts
SWAP_CNT, and gives the command OK. PERIOD_WINDOW_CHANGE at a multiple of 40 frames, at least 2 after admission, puts
PSEL and WSEL in force, clears PEND, puts elements in HOLD that may move into SETTLE and gives the command OK.
CALIBRATION_RECORD_APPLY at its boundary puts a waiting record in force. -/
def Obligations.LoopEventsRun : Prop :=
  (∀ (n : Fin 4) mis (mask : Fin 16) late stale s, s.atBoundary n = false ∨ s.ran n = true →
    exec (.loopPeriodBoundary n mis mask late stale) s = .next s) ∧
  (∀ (n : Fin 4) mis (mask : Fin 16) late stale s, s.atBoundary n = true → s.ran n = false → s.frozen = false → s.stand.handover = none →
    s.writesReach = true → mask.val.testBit n = false → ∃ t, exec (.loopPeriodBoundary n mis mask late stale) s = .next t ∧
      Tbl.get 0 t.stand.index n = (Tbl.get 0 s.stand.index n + 1) % 2 ^ 24 ∧
      (∀ e, elemCpt e = n → s.present e = true → s.falls e = false → s.atClear e = false →
        (isV e = false → s.heatHeld e = false) →
        (∀ a, (s.el e).writeIdx = some a → laterIdx a ((Tbl.get 0 s.stand.index n + 1) % 2 ^ 24) = true) →
        ((s.el e).state = 1 ∨ (s.el e).state = 2 → (t.el e).drive = roundRat ((s.el e).next.getD (s.el e).drive)) ∧
        ((s.el e).state = 4 → (t.el e).drive = (s.el e).override) ∧
        ((s.el e).state = 5 → (t.el e).drive = (s.el e).dGood)) ∧
      ∀ k ∈ [0, 65536], t.rd .stx_cpt_cnt_cnt_lo (k + 4 * n.val) =
        ((t.cptPresent n).filter (fun e => (t.el e).state == 2)).length % 2 ^ Fid.stx_cpt_cnt_cnt_lo.width) ∧
  (∀ (n : Fin 4) s, (s.cpt n).swap = none →
    (s.commitOk n = true → ∃ t, exec (.coefCommitWrite n) s = .next t ∧ t.rd .stx_coef_ctrl_commit n = 1 ∧
      t.cpt n = { s.cpt n with swap := some (s.loop.frames, none) } ∧
      s.RegsBut t (fun f i => f = .stx_coef_ctrl_commit ∧ i = n)) ∧
    (s.commitOk n = false → ∃ t, exec (.coefCommitWrite n) s = .next t ∧ t.rd .stx_coef_ctrl_reject n = 1 ∧
      t.rd .stx_coef_ctrl_commit n = 0 ∧ t = { s with regs := t.regs } ∧
      s.RegsBut t (fun f i => (f = .stx_coef_ctrl_reject ∨ f = .stx_coef_ctrl_commit) ∧ i = n))) ∧
  (∀ (n : Fin 4) f o s, (s.cpt n).swap = some (f, o) → s.nextBoundary n f = true →
    ∃ t, exec (.coefficientSwap n) s = .next t ∧ (t.cpt n).swap = none ∧
      (∀ p ∈ [(Fid.stx_coef_kp, Fid.stx_coef_act_kp), (.stx_coef_ki, .stx_coef_act_ki), (.stx_coef_ilim, .stx_coef_act_ilim),
          (.stx_coef_eps_max, .stx_coef_act_eps_max)], ∀ k, k < 16 →
        t.rd p.1 (coefIdx n k) = s.rd p.2 (coefIdx n k) % 2 ^ p.1.width ∧
        t.rd p.2 (coefIdx n k) = s.rd p.1 (coefIdx n k) % 2 ^ p.2.width) ∧
      t.rd .stx_coef_ctrl_bank n = bit01 (s.rd .stx_coef_ctrl_bank n == 0) ∧
      t.rd .stx_coef_ctrl_swap_cnt n = (s.rd .stx_coef_ctrl_swap_cnt n + 1) % 2 ^ Fid.stx_coef_ctrl_swap_cnt.width ∧
      ∀ w, o = some w → s.Concludes t w { status := .ok }) ∧
  (∀ (n : Fin 4) p w f o s, (s.cpt n).change = some (p, w, f, o) → f + 2 ≤ s.loop.frames → s.frame % 40 = 0 →
    ∃ t, exec (.periodWindowChange n) s = .next t ∧ t.rd .stx_cpt_cfg_psel n = p % 2 ^ Fid.stx_cpt_cfg_psel.width ∧
      t.rd .stx_cpt_cfg_wsel n = w % 2 ^ Fid.stx_cpt_cfg_wsel.width ∧ t.rd .stx_cpt_cfg_pend n = 0 ∧
      (t.cpt n).change = none ∧ (∀ e, elemCpt e = n → s.present e = true → (s.el e).state = 2 → s.mayMove e = true →
        (t.el e).state = 1) ∧
      ∀ o', o = some o' → s.Concludes t o' { status := .ok }) ∧
  (∀ (e : Fin 10240) r s, (s.el e).newRec = some r → s.nextBoundary (elemCpt e) (s.el e).readyAt = true →
    ∃ t, exec (.calibrationRecordApply e) s = .next t ∧ t.calRec e = r ∧ (t.el e).newRec = none ∧
      ∀ e', e' ≠ e.val → t.el e' = s.el e' ∧ t.calRec e' = s.calRec e')

/-- At a loop-period boundary of an element's compartment at which it may move, writes reaching the channels where it
starts a move: SETTLE_ENTRY of a jump toward a target that has ended puts it in SETTLE and gives the jump's command
OK; JUMP_EXIT puts it in MANUAL at its override with OK, in PARK, or back in SUSPECT at its frozen drive; HOLD_ENTRY
after a full window puts it in HOLD and changes no other element. SCHEDULED_TRANSITION at a boundary 2 frames after
admission starts the jump of an override, of a release from MANUAL (with no record, to its clear code) or of a new
setpoint in SETTLE or HOLD, and a new slope is set with OK. RETURN_TO_SERVICE puts a SUSPECT element into SETTLE with
OK where its target is unchanged or it is H-mode; a V-mode one at its clear code jumps. LOOP_START takes a PARK
element that has a record, and a V-mode one in SETTLE or HOLD with nothing scheduled, from its clear code into JUMP.
SUSPECT_ENTRY of one whose verdicts are complete since an earlier boundary puts it in SUSPECT at its last good drive,
and reports source 0x1B. CATCH_UP_JUMP 2 frames after its entry to SETTLE jumps toward its target, with its command.
-/
def Obligations.ElementTransitionsRun : Prop :=
  (∀ (e : Fin 10240) j s, s.atBoundary (elemCpt e) = true → s.mayMove e = true → (s.el e).state = 3 →
    (s.el e).jump = some j → s.jumpOver j = true →
    (j.goal = .target → ∃ t, exec (.settleEntry e) s = .next t ∧ (t.el e).state = 1 ∧ (t.el e).jump = none ∧
      ((∀ c ∈ s.trv.active, e.val ∉ c.toSettle) → ∀ o, j.owner = some o → s.Concludes t o { status := .ok })) ∧
    (j.goal = .override ∨ j.goal = .manualBack → ∃ t, exec (.jumpExit e) s = .next t ∧ (t.el e).state = 4 ∧
      (t.el e).jump = none ∧ (t.el e).override = j.vt ∧ ∀ o, j.owner = some o → s.Concludes t o { status := .ok }) ∧
    (j.goal = .clearPark → ∃ t, exec (.jumpExit e) s = .next t ∧ (t.el e).state = 0 ∧ (t.el e).jump = none ∧
      ∀ o, j.owner = some o → s.Concludes t o { status := .ok }) ∧
    (j.goal = .frozen → ∃ t, exec (.jumpExit e) s = .next t ∧ (t.el e).state = 5 ∧ (t.el e).drive = j.vt)) ∧
  (∀ (e : Fin 10240) s, s.atBoundary (elemCpt e) = true → s.mayMove e = true → (s.el e).state = 1 →
    max (s.el e).settleAt (s.el e).winFrom + s.windowLen (elemCpt e) * s.period (elemCpt e) ≤ s.loop.frames →
    (s.el e).keepTo ≤ s.loop.frames → ∃ t, exec (.holdEntry e) s = .next t ∧ (t.el e).state = 2 ∧ ∀ e', e' ≠ e.val → t.el e' = s.el e') ∧
  (∀ (e : Fin 10240) k f o s, (s.el e).sched = some (k, f, o) → s.nextBoundary (elemCpt e) f = true → s.mayMove e = true →
    s.writesReach = true → (k ≠ .return → ∃ t, exec (.scheduledTransition e) s = .next t ∧ (t.el e).sched = none ∧
      (∀ v, k = .override v → (t.el e).state = 3 ∧ (t.el e).override = v ∧
        ∃ j, (t.el e).jump = some j ∧ j.goal = .override ∧ j.vt = s.limited e v ∧ j.owner = o) ∧
      (k = .release → (s.el e).state = 4 → (t.el e).state = 3 ∧
        ∃ j, (t.el e).jump = some j ∧ j.goal = (if s.hasCal e then .target else .clearPark) ∧ j.owner = o) ∧
      (∀ ff ssp, k = .setpoint ff ssp → (s.el e).state = 1 ∨ (s.el e).state = 2 → (t.el e).state = 3 ∧ (t.el e).ffc = some ff ∧
        ∃ j, (t.el e).jump = some j ∧ j.goal = .target ∧ j.owner = o) ∧
      (∀ v, k = .sigma v → (t.el e).ssp = some v ∧ (t.el e).state = (s.el e).state ∧
        ∀ w, o = some w → s.Concludes t w { status := .ok })) ∧
    (k = .return → (s.el e).state = 5 → ∃ t, exec (.returnToService e) s = .next t ∧ (t.el e).sched = none ∧
      (isV e = true → s.atClear e = true → (t.el e).state = 3) ∧
      (isV e = false ∨ (s.atClear e = false ∧ (s.el e).frozenTgt = (s.el e).tgt) → (t.el e).state = 1 ∧
        ∀ w, o = some w → s.Concludes t w { status := .ok }))) ∧
  (∀ (e : Fin 10240) s, s.present e = true → (s.el e).waiting = true → s.inPass (elemCpt e) = false → s.mayMove e = true →
    s.latched e = false → (isV e = true → s.vOff e = false) → s.writesReach = true →
    s.nextBoundary (elemCpt e) (max (s.cpt (elemCpt e)).passFrom (s.el e).readyAt) = true →
    s.rd .glb_emap_status_loaded 0 ≠ 0 →
    ((s.el e).state = 0 ∧ s.hasCal e = true) ∨
      (isV e = true ∧ ((s.el e).state = 1 ∨ (s.el e).state = 2) ∧ (s.el e).sched = none ∧ (s.el e).catchUp = none) →
    ∃ t, exec (.loopStart e) s = .next t ∧ (t.el e).state = 3 ∧ (t.el e).waiting = false ∧
      ∃ j, (t.el e).jump = some j ∧ j.goal = .target ∧ j.owner = none) ∧
  (∀ (e : Fin 10240) s, s.falls e = true → s.atBoundary (elemCpt e) = true →
    (s.el e).state = 1 ∨ (s.el e).state = 2 ∨ (s.el e).state = 4 → ∃ t, exec (.suspectEntry e) s = .next t ∧
      (t.el e).state = 5 ∧ (t.el e).drive = (s.el e).dGood ∧ (t.el e).suspectDue = false ∧
      { src := 0x1B, objKind := 1, obj := e, detail := (s.el e).supChecks } ∈ t.flt.reports) ∧
  (∀ (e : Fin 10240) f o s, (s.el e).catchUp = some (f, o) → (s.el e).state = 1 → f + 2 ≤ s.loop.frames → s.frozen = false →
    s.clrHeld (elemCpt e) = false → s.writesReach = true → ∃ t, exec (.catchUpJump e) s = .next t ∧ (t.el e).state = 3 ∧ (t.el e).catchUp = none ∧
      ∃ j, (t.el e).jump = some j ∧ j.goal = .target ∧ j.owner = o)

/-- OUTER_INTERVAL_END of an enabled loop at the end of its interval starts a new interval; with its gate in HOLD, the
tap lit in half the frames or more, above LIGHT_MIN, neither darkened nor fenced, it shows LEVEL, is not HELD or DARK,
and sets a slope setpoint of the SIDE's sign within SP_MAX. OUTER_CONFIG EQUALISATION and TEMPERATURE with valid
fields inside the partition write their registers, TCO goes into the records of exactly the elements named, and
complete OK. SWEEP_START of a wanted element that may be swept adds a sweep with its coarse points and schedules an
override at 0. SWEEP_POINT one window after MANUAL adds the measured point and schedules the next; after the last fine
point of one that is accepted, flash not inhibited, its record waits for flash and its element is released.
SWEEP_DEADLINE of the only run that waits, for this element alone, gives it RESULT 9 (in MANUAL or SUSPECT) or 7 and
completes the run with CAL_REJECTED. CAL_RUN of present elements, none fenced or SUSPECT: MODE 0 waits in flight for
every element named; MODE 1 sets INTERVAL of their compartments and completes OK. FLASH_WRITE_COMPLETE of an accepted
record puts it in flash and readies it; of a fault-log entry of a class above the lowest it marks it PERSISTED and
appends it to flash. -/
def Obligations.SweepsAndOuterLoopsRun : Prop :=
  (∀ (p : Fin 512) g n div s, g = (s.outRec p).gate → n = elemCpt g → div = s.rd .stx_out_cfg_div p + 1 →
    s.rd .stx_out_cfg_en p ≠ 0 → g ≠ 0xFFFF → s.atBoundary n = true → s.frame / s.period n % div = 0 →
    ∃ t, exec (.outerIntervalEnd p) s = .next t ∧ t.outer p = { from0 := s.loop.frames } ∧
      ∀ mean : Rat, mean = ((s.outer p).sum : Rat) / 32768 / ((s.outer p).cnt : Rat) → (s.outer p).cnt ≠ 0 →
        (s.el g).state = 2 → div * s.period n ≤ 2 * (s.outer p).cnt →
        ((1000 * s.rd .stx_sup_cfg_light_min n : Nat) : Rat) ≤ mean → 0 < mean → g ∉ s.loop.dark → s.fenced n = false →
        t.rd .stx_out_status_held p = 0 ∧ t.rd .stx_out_status_dark p = 0 ∧
        t.rd .stx_out_status_level p = unsigned 16 (levelOf (mean / ((max 1 (s.rd .stx_out_ref_i_ref p) : Nat) : Rat)))
          % 2 ^ Fid.stx_out_status_level.width ∧
        ∃ v : Int, 0 ≤ v ∧ v ≤ (s.rd .stx_out_tgt_sp_max p : Int) ∧
          (t.el g).ssp = some (if s.rd .stx_out_cfg_side p = 0 then v else -v)) ∧
  (∀ h first count en side div ko target spMax iref s, 1 ≤ count → first + count ≤ 512 → en ≤ 1 → side ≤ 1 → 1 ≤ div →
    div ≤ 256 → ko ≤ 65535 → spMax ≤ 32767 → target < 65536 → iref < 2 ^ 32 →
    (∀ p, first ≤ p → p < first + count → s.badPort p = false ∧ s.holdsElem h.mbx (s.outRec p).gate = true ∧
      s.fenced (elemCpt (s.outRec p).gate) = false) → s.mapAway = false → s.map.force.isSome = true →
    ∃ t, exec (.outerConfigEqualisation h first count en side div ko target spMax iref) s = .next t ∧
      t.Finished h { status := .ok } ∧
      ∀ p, first ≤ p → p < first + count → t.rd .stx_out_cfg_side p = side ∧ t.rd .stx_out_cfg_div p = div - 1 ∧
        t.rd .stx_out_cfg_ko p = ko ∧ t.rd .stx_out_tgt_target p = target ∧ t.rd .stx_out_tgt_sp_max p = spMax ∧
        t.rd .stx_out_ref_i_ref p = iref ∧ (t.rd .stx_out_cfg_en p = 0 ↔ en = 0)) ∧
  (∀ h first count tco comp en sensor slew s, first + count ≤ 10240 → comp ≤ 3 → en ≤ 1 → sensor ≤ 3 → slew < 256 →
    s.holdsElems h.mbx first count = true → s.holdsCptElems h.mbx comp = true → count = 0 ∨ (s.flashRefused = false ∧ s.mapAway = false ∧ s.map.force.isSome = true) →
    ∃ t, exec (.outerConfigTemperature h first count tco comp en sensor slew) s = .next t ∧ t.Finished h { status := .ok } ∧
      t.rd .stx_tff_cfg_en comp = en ∧ t.rd .stx_tff_cfg_sensor comp = sensor ∧ t.rd .stx_tff_cfg_te_slew comp = slew ∧
      ∀ e, t.calRec e = if first ≤ e ∧ e < first + count then { s.calRec e with tco := tco, flags := (s.calRec e).flags ||| 8 }
        else s.calRec e) ∧
  (∀ (e : Fin 10240) s, s.sweepWanted e = true → s.sweepable e = true → ∃ t w, exec (.sweepStart e) s = .next t ∧
    t.loop.sweeps = s.loop.sweeps ++ [w] ∧ w.elem = e.val ∧ w.todo = coarsePoints (s.driveMax e) ∧ w.points = [] ∧
    t.el e = { s.el e with sched := some (.override 0, s.loop.frames, none) }) ∧
  (∀ (e : Fin 10240) w s, s.loop.sweeps.find? (fun w => w.elem == e.val) = some w → (s.el e).state = 4 →
    (s.el e).sched = none → (s.el e).settleAt + s.windowLen (elemCpt e) * s.period (elemCpt e) ≤ s.loop.frames →
    s.frozen = false → s.clrHeld (elemCpt e) = false →
    (∀ (d d2 : Nat) rest, w.todo = d :: d2 :: rest → ∃ t, exec (.sweepPoint e) s = .next t ∧
      t.loop.sweeps.find? (fun w => w.elem == e.val) =
        some { w with points := w.points ++ [s.sweepMeas e d], todo := d2 :: rest } ∧
      t.el e = { s.el e with sched := some (.override d2, s.loop.frames, none) }) ∧
    (∀ (d : Nat) r w1, w.todo = [d] → w.coarse = false → w.dimmed = false →
      w1 = { w with points := w.points ++ [s.sweepMeas e d], todo := [] } → s.judge w1 = (r, 0) → s.flashRefused = false →
      ∃ t, exec (.sweepPoint e) s = .next t ∧ (∀ x ∈ t.loop.sweeps, x.elem ≠ e.val) ∧
        t.loop.calPend = s.loop.calPend ++ [(e.val, learnTco r w.old, w.run)] ∧
        (t.el e).sched = some (.release, s.loop.frames, none))) ∧
  (∀ (e : Fin 10240) r s, s.loop.runs = [r] → r.waiting = [e.val] → r.deadline ≤ s.loop.frames → r.fenced = false →
    (∀ w ∈ s.loop.sweeps, w.elem ≠ e.val) → (∀ p ∈ s.loop.calPend, p.1 ≠ e.val) →
    ∃ t, exec (.sweepDeadline e) s = .next t ∧ t.loop.runs = [] ∧
      (t.calRec e).result = (if (s.el e).state = 4 ∨ (s.el e).state = 5 then 9 else 7) ∧
      s.Concludes t r.owner { status := .calRejected }) ∧
  (∀ h first mode count deadline interval s, 1 ≤ count → first + count ≤ 10240 → s.frozen = false → interval < 65536 →
    s.mapAway = false → s.map.force.isSome = true →
    (∀ e, first ≤ e → e < first + count → s.present e = true ∧ s.fenced (elemCpt e) = false ∧ (s.el e).state ≠ 5) →
    (mode = 0 → 1 ≤ deadline → s.holdsElems h.mbx first count = true →
      ∃ t id, exec (.calRun h first mode count deadline interval) s = .next t ∧ t.InFlight h id ∧
        t.loop.runs = s.loop.runs ++ [{ num := s.loop.nextRun, owner := ⟨h.mbx, id⟩, waiting := span first count
                                        deadline := s.loop.frames + deadline * 1000000000 / 1024 }]) ∧
    (mode = 1 → (∀ e, first ≤ e → e < first + count → s.holdsCptElems h.mbx (elemCpt e) = true) →
      ∃ t, exec (.calRun h first mode count deadline interval) s = .next t ∧ t.Finished h { status := .ok } ∧
        ∀ e, first ≤ e → e < first + count → t.rd .cal_ecal_sched_interval (elemCpt e) = interval)) ∧
  (∀ e k r run s, s.loop.calPend.find? (fun p => p.1 == e) = some (k, r, run) →
    ∃ t, exec (.flashWriteComplete (.calRecord e)) s = .next t ∧ (t.el e).newRec = some r ∧
      (t.el e).readyAt = s.loop.frames ∧ Tbl.get {} t.loop.calFlash e = r ∧ ∀ p ∈ t.loop.calPend, p.1 ≠ e) ∧
  (∀ seq x s, s.flt.log.find? (fun x => x.seq == seq && 2 ≤ x.cls && !x.persisted) = some x → s.flashRefused = false →
    ∃ t, exec (.flashWriteComplete (.faultLog seq)) s = .next t ∧ { x with persisted := true } ∈ t.flt.log ∧
      t.flt.flash.getLast? = some { x with persisted := true })

/-- LINK_UP of a port that is enabled, not up and not under test sets LINK_UP and the lock bits and reports 0x30; of
any other port it does nothing. LINK_DOWN of a port that is up clears LINK_UP and HELLO_OK, counts the event and, in
DEST, the frames lost, and reports 0x30; of a port that is not up only the cause is shown; its cause beyond isolates
an enumerated module other than the root whose port leads up, with state ISOLATED and 0x32, and else does nothing.
HELLO_TRANSMIT when due on a link that is up, with nothing in TC4, queues HELLO; else it does nothing. HELLO_RECEIVED
on a link that is up records the neighbour; where an enumerated module knows another UID on that port, the port is
BLOCKED; on another link it does nothing. PRBS_CFG_WRITE under an unlock: a selection that R323 refuses sets PRBS_REJ
alone; else GEN and CHK are set, ERR and LOCK are 0, and a pattern takes the link down with role TEST; without an
unlock it only reports the discard. PRBS_CHECKER_LOCK with a pattern locks and adds the errors, saturating, and else
does nothing. INJ_ONE_WRITE injects into the pattern, or into a sync header with none. INJ_FCS_WRITE with no pattern
arms the inversion. CAIRN_FRAME_RECEIVED on a link that is down does nothing; else a sound frame for this module is
delivered; one with a bad FCS is counted in FCS, a bad HCRC in HCRC, a foreign EtherType, a VLAN tag, an overlong
frame or a bad header in OTHER; a frame for another module whose route is another ready port with nothing in its class
is queued there with one hop less and its FCS as received. -/
def Obligations.ChainLinksRun : Prop :=
  (∀ (p : Fin 4) s, (s.linkUp p = true ∨ s.bit .chp_cfg_en p = false ∨ s.role p = 5 → exec (.linkUp p) s = .next s) ∧
    (s.linkUp p = false → s.bit .chp_cfg_en p = true → s.role p ≠ 5 → ∃ t, exec (.linkUp p) s = .next t ∧
      t.linkUp p = true ∧ t.rd .chp_status_block_lock p = 1 ∧ t.rd .chp_status_hi_ber p = 0 ∧ t.rd .chp_status_lf p = 0 ∧
      t.rd .chp_status_rf p = 0 ∧ { src := 0x30, objKind := 4, obj := p, detail := 1 } ∈ t.flt.reports)) ∧
  (∀ (p : Fin 4) c cutUp s, c ≠ LinkCause.beyond → ∃ t, exec (.linkDown p c cutUp) s = .next t ∧ t.linkUp p = false ∧
    (s.linkUp p = false → t = { s with regs := t.regs }) ∧
    (s.linkUp p = true → t.rd .chp_status_hello_ok p = 0 ∧
      t.rd .chp_status_link_dn_cnt p = min (s.rd .chp_status_link_dn_cnt p + 1) 65535 ∧
      t.rd .chp_drop_cnt_dest p = min 65535 (s.rd .chp_drop_cnt_dest p + (((List.range 8).map (fun c =>
        ((s.sp p).queue c).length + (Tbl.get [] (s.sp p).crown c).length)).sum + bit01 (s.sp p).tx.isSome)) ∧
      { src := 0x30, objKind := 4, obj := p } ∈ t.flt.reports)) ∧
  (∀ (p : Fin 4) cutUp s, (s.role p = 1 → s.enumerated = true → s.bit .chp_fab_root 0 = false →
      ∃ t, exec (.linkDown p .beyond cutUp) s = .next t ∧ t.rd .chp_fab_state 0 = 3 ∧
        { src := 0x32, objKind := 4, obj := p } ∈ t.flt.reports) ∧
    (s.role p ≠ 1 ∨ s.enumerated = false ∨ s.bit .chp_fab_root 0 = true → exec (.linkDown p .beyond cutUp) s = .next s)) ∧
  (∀ (p : Fin 4) s, (s.linkUp p = false ∨ s.loop.frames < (s.port p).helloAt + 97656 → exec (.helloTransmit p) s = .next s) ∧
    (s.linkUp p = true → (s.port p).helloAt + 97656 ≤ s.loop.frames → ∃ t, exec (.helloTransmit p) s = .next t ∧
      t.nextSeq 1 = (s.nextSeq 1 + 1) % 65536 ∧ (t.port p).helloAt = s.loop.frames ∧
      ((s.sp p).queue 4 = [] → Tbl.get [] (s.sp p).crown 4 = [] → ((t.sp p).queue 4).map (fun f => f.frame) =
        [.cairn (s.cairnOf 1 4 0 (.hello Config.uid s.addr p (s.role p) s.fab.epoch s.fab.blockHi
          (s.rd .chp_fab_count_depth 0)))]))) ∧
  (∀ (p : Fin 4) uid addr nport role epoch blockHi depth s, (s.linkUp p = false →
      exec (.helloReceived p uid addr nport role epoch blockHi depth) s = .next s) ∧
    (s.linkUp p = true → uid < 2 ^ 64 → addr < 2 ^ 16 → nport < 4 →
      ∃ t, exec (.helloReceived p uid addr nport role epoch blockHi depth) s = .next t ∧ t.rd .chp_status_hello_ok p = 1 ∧
        t.rd .chp_neigh_uid_uid p = uid ∧ t.rd .chp_neigh_addr p = addr ∧ t.rd .chp_neigh_port p = nport ∧
        (t.port p).nRole = role ∧ (t.port p).nEpoch = epoch ∧ (t.port p).nBlockHi = blockHi ∧ (t.port p).nDepth = depth ∧
        (s.bit .chp_status_hello_ok p = false → s.addr ≠ 0 → 2 ≤ s.rd .chp_fab_state 0 →
          ∀ k, (s.port p).known = some k → k.1 ≠ uid → t.role p = 4))) ∧
  (∀ (p : Fin 4) (gen chk : Fin 8) s, (s.covers (0x40028 + 0x4000 * p.val) .chp_prbs_cfg_gen p = false →
      exec (.prbsCfgWrite p gen chk) s = .next (s.noteDiscard (0x40028 + 0x4000 * p.val))) ∧
    (s.covers (0x40028 + 0x4000 * p.val) .chp_prbs_cfg_gen p = true → ∃ t, exec (.prbsCfgWrite p gen chk) s = .next t ∧
      if selects gen chk = true ∧ s.testAllowed p = false then t = s.wr .chp_prbs_cfg_prbs_rej p 1
      else t.rd .chp_prbs_cfg_gen p = gen ∧ t.rd .chp_prbs_cfg_chk p = chk ∧ t.rd .chp_prbs_status_err p = 0 ∧
        t.rd .chp_prbs_status_lock p = 0 ∧ (selects gen chk = true → t.linkUp p = false ∧ t.role p = 5))) ∧
  (∀ (p : Fin 4) errors s, (patternOf (s.rd .chp_prbs_cfg_chk p) = 0 → exec (.prbsCheckerLock p errors) s = .next s) ∧
    (patternOf (s.rd .chp_prbs_cfg_chk p) ≠ 0 → exec (.prbsCheckerLock p errors) s = .next ((s.wr .chp_prbs_status_lock p 1).wr
      .chp_prbs_status_err p (min (2 ^ 32 - 1) (s.rd .chp_prbs_status_err p + errors))))) ∧
  (∀ (p : Fin 4) s, exec (.injOneWrite p) s = .next { s with
      out := s.out ++ [.inject p (patternOf (s.rd .chp_prbs_cfg_gen p) == 0)] } ∧
    (patternOf (s.rd .chp_prbs_cfg_gen p) ≠ 0 → exec (.injFcsWrite p) s = .next s) ∧
    (patternOf (s.rd .chp_prbs_cfg_gen p) = 0 →
      exec (.injFcsWrite p) s = .next (s.modPort p (fun x => { x with injFcs := true })))) ∧
  (∀ (p : Fin 4) rx c s, s.linkUp p = false → exec (.cairnFrameReceived p rx c) s = .next s) ∧
  (∀ (p : Fin 4) (rx : RxInfo) c s, s.linkUp p = true → rx.etherType ≠ 0x88F7 →
    (rx.etherType ≠ 0x88B5 ∨ rx.vlan = true ∨ 1518 < rx.bytes → exec (.cairnFrameReceived p rx c) s = .next (s.dropOther p)) ∧
    (rx.etherType = 0x88B5 → rx.vlan = false → rx.bytes ≤ 1518 →
      (rx.hcrcOk = false → ∃ t, exec (.cairnFrameReceived p rx c) s = .next t ∧
        t.rd .chp_err_cnt_hcrc p = min (s.rd .chp_err_cnt_hcrc p + 1) 65535 ∧ t.out = s.out ∧ t.sch = s.sch) ∧
      (rx.hcrcOk = true → headerBad rx c = true → exec (.cairnFrameReceived p rx c) s = .next (s.dropOther p)) ∧
      (rx.hcrcOk = true → headerBad rx c = false → c.src = 0 ∨ c.src ≠ s.addr →
        (c.kind = 1 ∨ c.kind = 3 ∨ c.dst = 0 ∨ (c.dst = s.addr ∧ c.dst ≠ 0xFFFF) →
          (rx.fcsOk = true → exec (.cairnFrameReceived p rx c) s = .next { s with out := s.out ++ [.delivered p c] }) ∧
          (rx.fcsOk = false → ∃ t, exec (.cairnFrameReceived p rx c) s = .next t ∧ t.out = s.out ∧
            t.rd .chp_err_cnt_fcs p = min (s.rd .chp_err_cnt_fcs p + 1) 65535)) ∧
        (c.kind ≠ 1 → c.kind ≠ 3 → c.dst ≠ 0 → c.dst ≠ 0xFFFF → c.dst ≠ s.addr → 1 < c.hops →
          ∀ o, s.routePort c.dst = some o → o ≠ p → s.portReady o = true → (s.sp o).queue c.tc = [] →
          frameBytes (.cairn c) ≤ 65536 → ∃ t, exec (.cairnFrameReceived p rx c) s = .next t ∧
            (t.sp o).queue c.tc = [⟨.cairn { c with hops := c.hops - 1 }, frameBytes (.cairn c), !rx.fcsOk⟩])))) ∧
  (∀ (p : Fin 4) (s : State), (s.dropOther p).rd .chp_drop_cnt_other p = min (s.rd .chp_drop_cnt_other p + 1) 65535 ∧
    (s.dropOther p).out = s.out ∧ (s.dropOther p).sch = s.sch)

/-- ENUM_CLEAR of another epoch takes it, with no address, every role UNUSED and the module enumerating; of the same
one it does nothing. ENUM_CLEAR_WAIT at the root, waiting in a tree for 2 ms, sends ASSIGN of the next address out the
first ready port, whose neighbour has no address of this epoch, and explores it. ENUM_ASSIGN on a link that is up: a
cleared module of that epoch takes address and depth; one with its address lost and state 0 takes them and is
enumerated; one with an address answers BUSY on its UP port, and BLOCKS another unless it closes the ring at the
root's CP1; another epoch changes nothing. ENUM_BUSY of the port being explored marks it alive. ENUM_DONE of that port
makes it DOWN with the range from the next address to HI, and ENUM_ASSIGN_TIMEOUT after 1 ms of silence makes it
UNUSED; exploration of the root's tree goes on at the next ready port, and that of another module after its last port
ends with its block known. ENUM_REPORT at the root of that epoch enters the entry; with the last one missing, the
exploration over and at most 48 ring modules, the module is enumerated with COUNT, TRUNC and the ring, and ENUMERATE
completes OK; above 48 with INVALID_FIELD and no ring. ENUM_COMPLETE of this epoch in a module with an address sets
COUNT and the depths, ends its enumerating, and takes a ring list with the standby link as the cut. WRAP_RECEIVED on a
ring port of a cut not in force adopts it and counts it; of the one in force it does nothing. -/
def Obligations.EnumerationRuns : Prop :=
  (∀ (p : Fin 4) epoch s, (epoch = s.fab.epoch → exec (.enumClear p epoch) s = .next s) ∧
    (epoch ≠ s.fab.epoch → ∃ t, exec (.enumClear p epoch) s = .next t ∧ t.fab.epoch = epoch ∧ t.addr = 0 ∧
      t.rd .chp_fab_state 0 = 1 ∧ t.fab.explore = none ∧ ∀ q : Fin 4, t.role q = 0 ∧ t.rd .chp_range_lo q = 0 ∧
        t.rd .chp_range_hi q = 0)) ∧
  (∀ s, ((∀ x, s.fab.explore = some x → x.waiting = false) → exec .enumClearWait s = .next s) ∧
    ∀ x, s.fab.explore = some x → x.waiting = true → x.since + framesIn 2000000 ≤ s.loop.frames →
      s.bit .chp_fab_root 0 = true → s.bit .chp_fab_ring 0 = false → x.nextAddr ≤ 2000 → ∀ q : Fin 4, (∀ r : Fin 4, r < q → s.portReady r = false) → s.portReady q = true →
      (s.port q).nEpoch ≠ s.fab.epoch → ∃ t, exec .enumClearWait s = .next t ∧
        t.fab.explore = some { x with waiting := false, port := some q.val, busySeen := false, since := s.loop.frames } ∧
        ((s.sp q).queue 5 = [] → Tbl.get [] (s.sp q).crown 5 = [] → ((t.sp q).queue 5).map (fun f => f.frame) =
          [.cairn (s.cairnOf 2 5 0 (.enumAssign s.fab.epoch x.nextAddr (s.rd .chp_fab_count_depth 0 + 1) 0))])) ∧
  (∀ (p : Fin 4) src epoch addr depth topo s, addr < 2 ^ 16 → depth < 2 ^ 16 →
    (s.linkUp p = false → exec (.enumAssign p src epoch addr depth topo) s = .next s) ∧
    (s.linkUp p = true → s.addr = 0 → s.rd .chp_fab_state 0 = 1 → epoch = s.fab.epoch →
      ∃ t, exec (.enumAssign p src epoch addr depth topo) s = .next t ∧ t.addr = addr ∧ t.rd .chp_fab_count_depth 0 = depth) ∧
    (s.linkUp p = true → s.addr = 0 → s.rd .chp_fab_state 0 = 0 →
      ∃ t, exec (.enumAssign p src epoch addr depth topo) s = .next t ∧ t.addr = addr ∧ t.rd .chp_fab_count_depth 0 = depth ∧
        t.rd .chp_fab_state 0 = 2 ∧ t.role p = 1) ∧
    (s.linkUp p = true → s.addr ≠ 0 → (epoch ≠ s.fab.epoch →
        exec (.enumAssign p src epoch addr depth topo) s = .next s) ∧
      (epoch = s.fab.epoch → (s.role p = 1 → (s.sp p).queue 5 = [] → Tbl.get [] (s.sp p).crown 5 = [] →
          ∃ t, exec (.enumAssign p src epoch addr depth topo) s = .next t ∧
            ((t.sp p).queue 5).map (fun f => f.frame) = [.cairn (s.cairnOf 2 5 0 (.enumBusy epoch))]) ∧
        (s.role p ≠ 1 → ¬ (s.bit .chp_fab_root 0 = true ∧ topo ≠ 0 ∧ p = 1) →
          ∃ t, exec (.enumAssign p src epoch addr depth topo) s = .next t ∧ t.role p = 4)))) ∧
  (∀ (p : Fin 4) epoch s x, s.fab.explore = some x → x.port = some p.val → epoch = s.fab.epoch →
    exec (.enumBusy p epoch) s = .next { s with fab := { s.fab with explore := some { x with busySeen := true, since := s.loop.frames } } }) ∧
  (∀ (p q : Fin 4) s x, s.fab.explore = some x → x.port = some p.val → s.bit .chp_fab_root 0 = true →
    s.bit .chp_fab_ring 0 = false → p < q → (∀ r : Fin 4, p < r → r < q → s.portReady r = false) → s.portReady q = true →
    (s.port q).nEpoch ≠ s.fab.epoch →
    (∀ hi trunc, x.nextAddr < 2 ^ 16 → hi < 2000 → ∃ t, exec (.enumDone p s.fab.epoch hi trunc) s = .next t ∧
      t.fab.explore = some { x with
        port := some q.val, busySeen := false, nextAddr := hi + 1, trunc := x.trunc || trunc, since := s.loop.frames } ∧
      t.role p = 2 ∧ t.rd .chp_range_lo p = x.nextAddr ∧ t.rd .chp_range_hi p = hi) ∧
    (x.nextAddr ≤ 2000 → x.since + framesIn 1000000 ≤ s.loop.frames → ∃ t, exec (.enumAssignTimeout p) s = .next t ∧
      t.fab.explore = some { x with port := some q.val, busySeen := false, since := s.loop.frames } ∧ t.role p = 0)) ∧
  (∀ s x, s.fab.explore = some x → x.port = some 3 → s.bit .chp_fab_root 0 = false → s.bit .chp_fab_ring 0 = false →
    s.fab.parentPort ≠ 3 →
    (∀ hi trunc, ∃ t, exec (.enumDone 3 s.fab.epoch hi trunc) s = .next t ∧ t.fab.explore = none ∧ t.fab.blockHi = hi ∧
      t.role 3 = 2) ∧
    (x.since + framesIn 1000000 ≤ s.loop.frames → ∃ t, exec (.enumAssignTimeout 3) s = .next t ∧ t.fab.explore = none ∧ t.fab.blockHi = x.nextAddr - 1 ∧ t.role 3 = 0)) ∧
  (∀ epoch e s, (¬ (s.bit .chp_fab_root 0 = true ∧ epoch = s.fab.epoch) → exec (.enumReport epoch e) s = .next s) ∧
    (s.bit .chp_fab_root 0 = true → epoch = s.fab.epoch →
      ((insertTopo e s.fab.topo).length ≠ s.fab.blockHi → exec (.enumReport epoch e) s = .next { s with
        fab := { s.fab with topo := insertTopo e s.fab.topo } }) ∧
      ∀ x ring, s.fab.explore = some x → x.waiting = false → x.port = none →
        (insertTopo e s.fab.topo).length = s.fab.blockHi → s.fab.blockHi < 2 ^ 16 → ring = ringOf (insertTopo e s.fab.topo) →
        ∃ t, exec (.enumReport epoch e) s = .next t ∧ t.fab.explore = none ∧ t.rd .chp_fab_state 0 = 2 ∧
          t.rd .chp_fab_count_count 0 = s.fab.blockHi ∧ t.rd .chp_fab_trunc 0 = bit01 x.trunc ∧
          (ring.length ≤ 48 → t.fab.ring = ring ∧ t.rd .chp_ring_status_size 0 = ring.length ∧
            ∀ o, x.owner = some o → s.Concludes t o { status := .ok }) ∧
          (48 < ring.length → t.fab.ring = [] ∧ t.rd .chp_fab_topo 0 = 0 ∧
            ∀ o, x.owner = some o → s.Concludes t o { status := .invalidField }))) ∧
  (∀ epoch count first depths ring s, (epoch ≠ s.fab.epoch ∨ s.addr = 0 →
      exec (.enumComplete epoch count first depths ring) s = .next s) ∧
    (epoch = s.fab.epoch → s.addr ≠ 0 → count < 2 ^ 16 →
      ∃ t, exec (.enumComplete epoch count first depths ring) s = .next t ∧ t.rd .chp_fab_count_count 0 = count ∧
        t.fab.depths = patchDepths s.fab.depths count first depths ∧
        (s.rd .chp_fab_state 0 = 1 → t.rd .chp_fab_state 0 = 2) ∧
        (ring ≠ [] → ring ≠ s.fab.ring → ring.length ≤ 48 → t.fab.ring = ring ∧ t.fab.cut = ring.length - 1 ∧
          t.rd .chp_ring_status_size 0 = ring.length ∧ t.rd .chp_ring_status_cut_down 0 = 0))) ∧
  (∀ (p : Fin 4) epoch a b s, (s.isRingPort p = false ∨ epoch ≠ s.fab.epoch ∨
      (s.rd .chp_ring_cut_a 0 = min a b ∧ s.rd .chp_ring_cut_b 0 = max a b) → exec (.wrapReceived p epoch a b) s = .next s) ∧
    (s.isRingPort p = true → epoch = s.fab.epoch →
      ¬ (s.rd .chp_ring_cut_a 0 = min a b ∧ s.rd .chp_ring_cut_b 0 = max a b) → a < 2 ^ 16 → b < 2 ^ 16 →
      ∀ j, s.linkBetween a b = some j → ∃ t, exec (.wrapReceived p epoch a b) s = .next t ∧ t.fab.cut = j ∧
        t.rd .chp_ring_cut_a 0 = min a b ∧ t.rd .chp_ring_cut_b 0 = max a b ∧ t.rd .chp_ring_status_cut_down 0 = 1 ∧
        t.rd .chp_ring_status_wrap_cnt 0 = min (s.rd .chp_ring_status_wrap_cnt 0 + 1) 65535))

/-- By MB0 with fields in range: CHAIN_CFG PORT writes the port's settings and completes OK; a cleared EN or a changed
FEC leaves the link down. ENUMERATE, with no chain Clearing or remote request outstanding, makes this module the root,
address 1, of a new epoch other than 0 that is added to those used, waiting to explore, and stays in flight. TEST,
where R323 allows it, writes the pattern settings and completes OK; a pattern leaves the link down with role TEST.
REMOTE_POLICY writes its four fields and completes OK. CHAIN_STATUS, local with an aligned buffer: FORM 0 writes the
register record and completes OK, with CLEAR = 1 every CHP counter is then 0; FORM 1 at the root writes the topology
entries and completes OK. -/
def Obligations.ChainCommandsComplete : Prop :=
  (∀ h port en fec txPre txPost txAmp rxFreeze s, h.mbx = 0 → port ≤ 3 → en ≤ 1 → fec ≤ 1 → txPre ≤ 15 → txPost ≤ 31 →
    txAmp ≤ 15 → rxFreeze ≤ 1 → ∃ t, exec (.chainCfgPort h port en fec txPre txPost txAmp rxFreeze) s = .next t ∧
      t.rd .chp_cfg_en port = en ∧ t.rd .chp_cfg_fec port = fec ∧ t.rd .chp_cfg_tx_pre port = txPre ∧
      t.rd .chp_cfg_tx_post port = txPost ∧ t.rd .chp_cfg_tx_amp port = txAmp ∧ t.rd .chp_cfg_rx_freeze port = rxFreeze ∧
      (en = 0 ∨ fec ≠ s.rd .chp_cfg_fec port → t.linkUp port = false) ∧ t.Finished h { status := .ok }) ∧
  (∀ h topo s, h.mbx = 0 → topo ≤ 1 → s.trv.chains = [] → s.fab.outReqs = [] →
    ∃ t id, exec (.chainCfgEnumerate h topo) s = .next t ∧
      ((∀ x, s.fab.explore = some x → x.owner ≠ some ⟨h.mbx, id⟩) → t.InFlight h id) ∧ t.addr = 1 ∧ t.rd .chp_fab_root 0 = 1 ∧
      t.rd .chp_fab_topo 0 = topo ∧ t.rd .chp_fab_state 0 = 1 ∧ t.fab.epoch ≠ 0 ∧ t.fab.used = s.fab.used ++ [t.fab.epoch] ∧
      t.fab.explore = some {
        waiting := true, port := none, busySeen := false, nextAddr := 2, trunc := false, owner := some ⟨h.mbx, id⟩
        since := s.loop.frames }) ∧
  (∀ h port gen chk inv rate s, h.mbx = 0 → port ≤ 3 → gen ≤ 7 → chk ≤ 7 → inv ≤ 1 → rate ≤ 31 →
    (selects gen chk = true → s.testAllowed port = true) → ∃ t, exec (.chainCfgTest h port gen chk inv rate) s = .next t ∧
      t.rd .chp_prbs_cfg_gen port = gen ∧ t.rd .chp_prbs_cfg_chk port = chk ∧ t.rd .chp_prbs_cfg_inv port = inv ∧
      t.rd .chp_prbs_cfg_inj_rate port = rate ∧ (selects gen chk = true → t.linkUp port = false ∧ t.role port = 5) ∧
      t.Finished h { status := .ok }) ∧
  (∀ h accept classEn ackTo execTo s, h.mbx = 0 → accept ≤ 1 → classEn ≤ 65535 → ackTo ≤ 65535 → execTo ≤ 65535 →
    ∃ t, exec (.chainCfgRemotePolicy h accept classEn ackTo execTo) s = .next t ∧ t.rd .chp_remote_accept 0 = accept ∧
      t.rd .chp_remote_class_en 0 = classEn ∧ t.rd .chp_remote_to_ack_to 0 = ackTo ∧
      t.rd .chp_remote_to_exec_to 0 = execTo ∧ t.Finished h { status := .ok }) ∧
  (∀ h clear buf s, h.remote = none → buf % 16 = 0 → clear ≤ 1 →
    (∃ t, exec (.chainStatus h 0 clear buf) s = .next t ∧ t.out = (s.toHost h.mbx buf s.chpBytes).out ∧
      t.host.held = (s.toHost h.mbx buf s.chpBytes).host.held ∧
      t.Finished h { status := .ok } ∧ (clear = 1 → t.rd .chp_ring_status_wrap_cnt 0 = 0 ∧ ∀ p : Fin 4,
        t.rd .chp_status_link_dn_cnt p = 0 ∧ t.rd .chp_err_cnt_fcs p = 0 ∧ t.rd .chp_err_cnt_hcrc p = 0 ∧
        t.rd .chp_drop_cnt_dest p = 0 ∧ t.rd .chp_drop_cnt_other p = 0 ∧ t.rd .chp_fec_cnt_corr p = 0 ∧
        t.rd .chp_fec_cnt_uncorr p = 0 ∧ t.rd .chp_prbs_status_err p = 0)) ∧
    (s.bit .chp_fab_root 0 = true → ∃ t, exec (.chainStatus h 1 clear buf) s = .next t ∧
      t.out = (s.toHost h.mbx buf (s.fab.topo.flatMap topoBytes)).out ∧
      t.host.held = (s.toHost h.mbx buf (s.fab.topo.flatMap topoBytes)).host.held ∧ t.Finished h { status := .ok }))

/-- REMOTE by MB0 of an enumerated module, with DST, lengths and opcode in range, is in flight, kept with the next
request number, and sent to DST in its class. REMOTE_ACK marks the request and gives its command its effect point;
REMOTE_RESPONSE writes completion and data to the response buffer, forgets the request and ends its command with the
target's status; REMOTE_EXEC_TIMEOUT when due and the fourth REMOTE_ACK_TIMEOUT without ACK end it with
REMOTE_TIMEOUT, an earlier one counts a repetition; an acknowledged request and one that is not outstanding change
nothing. At the target a new REMOTE_REQUEST is kept and waits for admission through MB0 under a reserved tag; with
none free it is kept as answered with TAG_EXHAUSTED; a repeated one is kept once; requests completed more than 1 s ago
are forgotten. REMOTE_RESPONSE_ACK marks the response; REMOTE_ACK_TIMEOUT when due of one not acknowledged counts a
repetition, at most 3. -/
def Obligations.RemoteTransportRuns : Prop :=
  (∀ h dst rspLen execTo rspBuf cmd data s, h.mbx = 0 → 1 ≤ dst → dst ≤ s.rd .chp_fab_count_count 0 → dst ≠ s.addr →
    data.length ≤ 1024 → rspLen ≤ 1024 → execTo ≤ 600 → cmd.getD 0 0 ∉ [0x62, 0xF0, 0xF1] → s.enumerated = true →
    ∃ t id, exec (.remote h dst rspLen execTo rspBuf cmd data) s = .next t ∧ t.InFlight h id ∧
      t.fab.nextReq = (s.fab.nextReq + 1) % 65536 ∧ t.fab.outReqs = s.fab.outReqs ++ [{
        owner := ⟨h.mbx, id⟩, reqId := s.fab.nextReq, dst := dst, tc := remoteTc (cmd.getD 0 0), execTo := s.execTo execTo
        rspLen := rspLen, rspBuf := rspBuf, body := cmd, data := data, attempts := 0, acked := false
        startAt := s.loop.frames, sentAt := s.loop.frames }] ∧
      ∀ p, s.routePort dst = some p → dst ≠ 0xFFFF → s.portReady p = true →
        (s.sp p).queue (remoteTc (cmd.getD 0 0)) = [] →
        Tbl.get [] (s.sp p).crown (remoteTc (cmd.getD 0 0)) = [] →
        ((t.sp p).queue (remoteTc (cmd.getD 0 0))).map (fun f => f.frame) = [.cairn (s.cairnOf 5 (remoteTc (cmd.getD 0 0)) dst
          (.remote s.fab.nextReq 1 (s.execTo execTo) rspLen cmd data))]) ∧
  (∀ peer id s, s.outReq peer id = none → exec (.remoteAck peer id) s = .next s ∧
    exec (.remoteExecTimeout peer id) s = .next s ∧ exec (.remoteAckTimeout false peer id) s = .next s) ∧
  (∀ peer id s r, s.outReq peer id = some r →
    (∃ t, exec (.remoteAck peer id) s = .next t ∧ t.outReq peer id = some { r with acked := true } ∧
      ∀ f ∈ (s.mb r.owner.mbx).flight, f.id = r.owner.id → { f with eff := true } ∈ (t.mb r.owner.mbx).flight) ∧
    (∀ tc body data, ∃ t, exec (.remoteResponse peer id tc body data) s = .next t ∧ t.outReq peer id = none ∧
      t.out = (s.toHost r.owner.mbx r.rspBuf (body.take 16 ++ data.take r.rspLen)).out ∧
      t.host.held = (s.toHost r.owner.mbx r.rspBuf (body.take 16 ++ data.take r.rspLen)).host.held ∧
      s.Concludes t r.owner { status := Status.ofCode (body.getD 12 0xFF) }) ∧
    (r.startAt + framesIn (r.execTo * 1000000000) ≤ s.loop.frames → ∃ t, exec (.remoteExecTimeout peer id) s = .next t ∧ t.outReq peer id = none ∧
      s.Concludes t r.owner { status := .remoteTimeout }) ∧
    (r.acked = true → exec (.remoteAckTimeout false peer id) s = .next s) ∧
    (r.acked = false → r.sentAt + s.ackTo ≤ s.loop.frames → r.attempts < 3 → ∃ t, exec (.remoteAckTimeout false peer id) s = .next t ∧
      t.outReq peer id = some { r with attempts := r.attempts + 1, sentAt := s.loop.frames } ∧ t.mbx = s.mbx) ∧
    (r.acked = false → r.sentAt + s.ackTo ≤ s.loop.frames → 3 ≤ r.attempts → ∃ t, exec (.remoteAckTimeout false peer id) s = .next t ∧
      t.outReq peer id = none ∧ s.Concludes t r.owner { status := .remoteTimeout })) ∧
  (∀ src id rspLen tc body data s kept, kept = s.fab.inReqs.filter (fun r => !s.stale r) →
    (kept.find? (fun r => r.src == src && r.reqId == id) = none →
      (∀ tag, s.remoteTag = some tag → ∃ t, exec (.remoteRequest src id rspLen tc body data) s = .next t ∧
        t.fab.inReqs = kept ++ [{
          src := src, reqId := id, rspLen := rspLen, tc := tc, req := data, data := List.replicate rspLen 0
          response := none, attempts := 0, acked := false, doneAt := 0 }] ∧
        (t.mb 0).fetched = (s.mb 0).fetched ++ [(retag body tag, some (src, id))]) ∧
      (s.remoteTag = none → ∃ t r, exec (.remoteRequest src id rspLen tc body data) s = .next t ∧
        t.fab.inReqs = kept ++ [r] ∧ r.src = src ∧ r.reqId = id ∧ r.doneAt = s.datum.t ∧ t.mbx = s.mbx ∧
        r.response = some (completionBytes { status := .tagExhausted } 0 false ++ List.replicate 48 0, []))) ∧
    (∀ r, kept.find? (fun r => r.src == src && r.reqId == id) = some r →
      ∃ t, exec (.remoteRequest src id rspLen tc body data) s = .next t ∧ t.fab.inReqs = kept ∧ t.mbx = s.mbx)) ∧
  (∀ src id s, (∃ t, exec (.remoteResponseAck src id) s = .next t ∧ t = { s with fab := t.fab } ∧
      ∀ r ∈ s.fab.inReqs, r.src = src → r.reqId = id → { r with acked := true } ∈ t.fab.inReqs) ∧
    (s.inReq src id = none → exec (.remoteAckTimeout true src id) s = .next s) ∧
    ∀ r, s.inReq src id = some r → (r.response.isSome = true → r.acked = false → r.attempts < 3 →
        r.sentAt + s.ackTo ≤ s.loop.frames → ∃ t, exec (.remoteAckTimeout true src id) s = .next t ∧
          t.inReq src id = some { r with attempts := r.attempts + 1, sentAt := s.loop.frames }) ∧
      (r.response = none ∨ r.acked = true ∨ 3 ≤ r.attempts ∨ s.loop.frames < r.sentAt + s.ackTo → exec (.remoteAckTimeout true src id) s = .next s))

/-- TRANSMISSION_SELECT keeps a frame whose end has not come, sends one whose end has come, and on an idle port with
its link up starts the head frame of the highest class that qualifies, with an end one transmission time later.
GATE_CHANGE shows the entry in force. GCL_COMMIT_WRITE plans an administrative list that R350 accepts, pending, for
its switch instant, and sets REJECT for another. GCL_SWITCH at that instant makes the list operational and ends the
plan, and before it or without one does nothing. CHS_COUNTER_CLEAR_WRITE sets the port's drop counters to 0.
QUEUE_SAMPLE at a multiple of 2^K ns with sampling enabled adds one 48-byte entry of that instant to every port's
ring, the oldest overwritten with 1,024 held; otherwise nothing happens. By MB0 with valid fields: SCHED_CFG GCL
writes the list and plans it; SHAPER writes the shaper; OVERHEAD the overhead; POLICE the bucket, whose level starts
at BURST where it is enabled; SAMPLING its two fields; READ_SAMPLES writes the entries asked for, oldest first; each
completes OK. -/
def Obligations.SchedulerRuns : Prop :=
  (∀ (p : Fin 4) (now : Nat) s,
    (∀ k fin f, (s.sp p).tx = some (k, fin, f) → now < fin →
      ∃ t, exec (.transmissionSelect p now) s = .next t ∧ (t.sp p).tx = some (k, fin, f) ∧ t.out = s.out) ∧
    (∀ k fin f, (s.sp p).tx = some (k, fin, f) → fin ≤ now →
      ∃ t, exec (.transmissionSelect p now) s = .next t ∧ t.out = s.out ++ [s.frameOut p f.frame f.bad] ∧
        (s.linkUp p = false → (t.sp p).tx = none)) ∧
    ((s.sp p).tx = none → s.linkUp p = true → ∀ u, u = (List.range 8).foldl (fun u c =>
        u.dropOversize p c now ((u.sp p).queue c).length) (s.accrue p now) →
      ∀ (c : Fin 8) f r, (u.sp p).queue c = f :: r → u.qualifies p c now = true →
        (∀ k : Fin 8, c < k → u.qualifies p k now = false) →
        ∃ t, exec (.transmissionSelect p now) s = .next t ∧ (t.sp p).tx = some (c.val, now + u.tau p f, f))) ∧
  (∀ (p : Fin 4) (now : Nat) s, ∃ t, exec (.gateChange p now) s = .next t ∧
    t.rd .chs_oper_entry p = (s.entryNow p now).1 % 2 ^ Fid.chs_oper_entry.width) ∧
  (∀ (p : Fin 4) (sub : Fin 1024) s l cycle phase, l = s.gclOf .chs_gcl_admin_interval .chs_gcl_admin_gates p →
    cycle = s.rd .chs_cycle_cycle p → phase = s.rd .chs_phase_phase p → ∃ t, exec (.gclCommitWrite p sub) s = .next t ∧
      (gclOk l cycle phase = true → t.rd .chs_port_cfg_pend p = 1 ∧ (t.sp p).plan = some ⟨l, cycle, phase,
        switchInstant cycle phase (s.rd .chs_change_sec p * 1000000000 + s.rd .chs_change_ns p) (s.nowNs + sub)⟩) ∧
      (gclOk l cycle phase = false → t.rd .chs_port_cfg_reject p = 1 ∧ t.sch = s.sch)) ∧
  (∀ (p : Fin 4) (now : Nat) s, ((s.sp p).plan = none → exec (.gclSwitch p now) s = .next s) ∧
    ∀ g, (s.sp p).plan = some g → (now < g.switchAt * 100 → exec (.gclSwitch p now) s = .next s) ∧
      (g.switchAt * 100 ≤ now → ∃ t, exec (.gclSwitch p now) s = .next t ∧ (t.sp p).plan = none ∧
        (t.sp p).operPhase = g.phase ∧ t.rd .chs_port_cfg_pend p = 0 ∧
        t.rd .chs_oper_cycle_act p = g.cycle % 2 ^ Fid.chs_oper_cycle_act.width ∧ ∀ i : Fin 64,
          t.rd .chs_gcl_oper_interval (64 * p.val + i) =
            (g.entries.getD i (0, 0)).1 % 2 ^ Fid.chs_gcl_oper_interval.width ∧
          t.rd .chs_gcl_oper_gates (64 * p.val + i) = (g.entries.getD i (0, 0)).2 % 2 ^ Fid.chs_gcl_oper_gates.width)) ∧
  (∀ (p : Fin 4) s, ∃ t, exec (.chsCounterClearWrite p) s = .next t ∧ t = { s with regs := t.regs } ∧
    t.rd .chs_abort_abort p = 0 ∧ ∀ c : Fin 8, t.rd .chs_qstat_qdrop (8 * p.val + c) = 0 ∧
      t.rd .chs_qstat_oversize (8 * p.val + c) = 0) ∧
  (∀ (now : Nat) s, (s.bit .chs_smp_cfg_en 0 = false ∨ now % 2 ^ s.sampleK ≠ 0 → exec (.queueSample now) s = .next s) ∧
    (s.bit .chs_smp_cfg_en 0 = true → now % 2 ^ s.sampleK = 0 → ∃ t, exec (.queueSample now) s = .next t ∧
      ∀ p : Fin 4, (t.sp p).sampleSeq = ((s.sp p).sampleSeq + 1) % 65536 ∧ ∃ e, e.length = 48 ∧ e.take 8 = leBytes 8 now ∧
        (t.sp p).samples = (if 1024 ≤ (s.sp p).samples.length then (s.sp p).samples.drop 1 else (s.sp p).samples) ++ [e])) ∧
  (∀ h port list cycle phase change buf (sub : Fin 1024) s, h.mbx = 0 → h.remote = none → port ≤ 3 →
    gclOk (list.takeWhile (fun e => e.1 != 0)) cycle phase = true → (∀ e ∈ list, e.1 ≤ 16777215 ∧ e.2 ≤ 255) →
    timeOk change = true → ∃ t, exec (.schedCfgGcl h port list cycle phase change buf sub) s = .next t ∧
      t.Finished h { status := .ok } ∧ t.rd .chs_cycle_cycle port = cycle ∧ t.rd .chs_phase_phase port = phase ∧
      t.rd .chs_port_cfg_pend port = 1 ∧ (t.sp port).plan = some ⟨list.takeWhile (fun e => e.1 != 0), cycle, phase,
        switchInstant cycle phase (change.sec * 1000000000 + change.ns) (s.nowNs + sub)⟩ ∧
      ∀ i : Fin 64, t.rd .chs_gcl_admin_interval (64 * port + i) = (list.getD i (0, 0)).1 ∧
        t.rd .chs_gcl_admin_gates (64 * port + i) = (list.getD i (0, 0)).2) ∧
  (∀ h port cls en slope hi s, h.mbx = 0 → port ≤ 3 → 1 ≤ cls → cls ≤ 3 → en ≤ 1 → 1 ≤ slope → slope ≤ 25000 →
    hi ≤ 65535 → s.slopeSum port cls en slope ≤ 20000 → ∃ t, exec (.schedCfgShaper h port cls en slope hi) s = .next t ∧
      t.Finished h { status := .ok } ∧ t.rd .chs_cbs_en (4 * port + (cls - 1)) = en ∧
      t.rd .chs_cbs_idleslope (4 * port + (cls - 1)) = slope ∧ t.rd .chs_cbs_hicredit (4 * port + (cls - 1)) = hi ∧
      ((∀ fin f, (s.sp port).tx ≠ some (cls, fin, f)) → (t.sp port).shaperOf cls = (en != 0, slope, hi))) ∧
  (∀ h port ovh s, h.mbx = 0 → port ≤ 3 → ovh ≤ 255 → ∃ t, exec (.schedCfgOverhead h port ovh) s = .next t ∧
    t.rd .chs_port_cfg_ovh port = ovh ∧ t.Finished h { status := .ok }) ∧
  (∀ h m en mode rate burst s, h.mbx = 0 → m ≤ 7 → en ≤ 1 → mode ≤ 1 → 1 ≤ rate → rate ≤ 16777215 → 1 ≤ burst →
    burst ≤ 4096 → ∃ t, exec (.schedCfgPolice h m en mode rate burst) s = .next t ∧ t.Finished h { status := .ok } ∧
      t.rd .chs_pol_cfg_en m = en ∧ t.rd .chs_pol_cfg_mode m = mode ∧ t.rd .chs_pol_rate_rate m = rate ∧
      t.rd .chs_pol_cfg_burst m = burst ∧
      (en = 1 → s.bit .chs_pol_cfg_en m = false → (t.mb m).level = burst * tokenUnit)) ∧
  (∀ h en k s, h.mbx = 0 → en ≤ 1 → 10 ≤ k → k ≤ 24 → ∃ t, exec (.schedCfgSampling h en k) s = .next t ∧
    t.rd .chs_smp_cfg_en 0 = en ∧ t.rd .chs_smp_cfg_k 0 = k ∧ t.Finished h { status := .ok }) ∧
  (∀ h port count buf s, h.mbx = 0 → h.remote = none → port ≤ 3 → 1 ≤ count → count ≤ 1024 → buf % 16 = 0 →
    ∃ t, exec (.schedCfgReadSamples h port count buf) s = .next t ∧ t.Finished h { status := .ok } ∧
      t.out = (s.toHost h.mbx buf ((s.sp port).samples.take count).flatten).out ∧
      t.host.held = (s.toHost h.mbx buf ((s.sp port).samples.take count).flatten).host.held)

/-- FAULT_DETECTED of a started collector with one report of an assigned source without a containment of its own, none
waiting and no coalescing, enters one entry as the newest, with the next sequence number, that source and object, and
counts the sequence; the log holds one entry more, or with 4,096 held as many as before. FAULT_LOG_READ, local, of 1
to 4,096 entries of either copy into an aligned buffer writes the entries asked for, oldest first, returns their
number, and with ADVANCE moves the mailbox's read pointer past the last. FAULT_POLICY_SET by MB0 sets a reaction set
that R438 accepts, or the default one. FAULT_INJECT with valid fields and an unlock it needs arms (MODE 2: stops) the
checker's injection, and the FLT_INJ write does so for what that register says. ERR_ACK after the first cause has been
read clears the latch. A notice counts RX_CNT, saturating, and is reported as source 0x34 of its sender.
FAULT_COLLECTOR_DISAGREE marks the collector dead and, if the log cannot be written, decides DRST; if it can, it logs
source 0x43. -/
def Obligations.FaultCommandsComplete : Prop :=
  (∀ r s, s.flt.started = true → s.flt.reports = [] → (Config.faultRow r.src).isSome = true →
    r.src ∉ [2, 3, 4, 5, 6, 7, 0x42] → s.coalesces r = false → ∃ t e, exec (.faultDetected [r] [] none []) s = .next t ∧
      t.flt.log.getLast? = some e ∧ e.source = r.src ∧
      t.flt.log.length = (if 4096 ≤ s.flt.log.length then s.flt.log.length else s.flt.log.length + 1) ∧
      e.objKind = r.objKind ∧ e.object = r.obj ∧ e.seq = s.rd .flt_log_seq_next 0 ∧ t.flt.reports = [] ∧
      t.rd .flt_log_seq_next 0 = (s.rd .flt_log_seq_next 0 + 1) % 2 ^ Fid.flt_log_seq_next.width) ∧
  (∀ h first count whence advance buf s, h.remote = none → 1 ≤ count → count ≤ 4096 → whence ≤ 1 → advance ≤ 1 →
    buf % 16 = 0 → ∃ t, exec (.faultLogRead h first count whence advance buf) s = .next t ∧
      t.Finished h { status := .ok, res0 := (s.readEntries h.mbx first count whence).length } ∧
      t.out = (s.toHost h.mbx buf ((s.readEntries h.mbx first count whence).flatMap LogEntry.bytes)).out ∧
      t.host.held = (s.toHost h.mbx buf ((s.readEntries h.mbx first count whence).flatMap LogEntry.bytes)).host.held ∧
      t.flt.log = s.flt.log ∧
      ∀ e, (s.readEntries h.mbx first count whence).getLast? = some e →
        (t.mb h.mbx).logPtr = if advance = 1 then e.seq + 1 else (s.mb h.mbx).logPtr) ∧
  (∀ h source react s, h.mbx = 0 → (Config.faultRow source).isSome = true →
    (policyBreaks source react = false → ∃ t, exec (.faultPolicySet h source react 0) s = .next t ∧
      (s.wr .flt_policy_react source react).Completed t h { status := .ok }) ∧
    (∃ t, exec (.faultPolicySet h source react 1) s = .next t ∧
      (s.wr .flt_policy_react source (Config.defaultReact source)).Completed t h { status := .ok })) ∧
  (∀ h ck bits mode s, injectBad ck bits mode = false → s.injectUnlocked h.mbx ck = true →
    ∃ t, exec (.faultInject h ck bits mode) s = .next t ∧ t.Finished h { status := .ok } ∧
      t.flt = { s.flt with injections := s.flt.injections.filter (fun i => i.checker != ck)
        ++ if mode = 2 then [] else [⟨ck, bits, mode, h.mbx⟩] }) ∧
  (∀ ck bits mode s, s.rd .flt_inj_checker 0 = ck → s.rd .flt_inj_bits 0 = bits → s.rd .flt_inj_mode 0 = mode →
    bits = 1 ∨ bits = 2 → mode ≤ 2 → injectBad ck bits mode = false → ∃ t, exec .faultInjectArmWrite s = .next t ∧
      t.rd .flt_inj_arm 0 = bit01 (mode != 2) ∧
      t.flt = { s.flt with injections := s.flt.injections.filter (fun i => i.checker != ck)
        ++ if mode = 2 then [] else [⟨ck, bits, mode, 0⟩] }) ∧
  (∀ s, s.rd .flt_err_latch 0 ≠ 0 → s.flt.ackReady = true → ∃ t, exec .errAckWrite s = .next t ∧
    t.rd .flt_err_latch 0 = 0 ∧ t.flt.firstErr = none ∧ t.flt.ackReady = false ∧ t.flt.log = s.flt.log) ∧
  (∀ src cls source react s, source < 65536 → cls < 256 → react < 256 →
    ∃ t, exec (.faultNoticeReceived src cls source react) s = .next t ∧
      t.rd .flt_notice_rx_cnt 0 = min (s.rd .flt_notice_rx_cnt 0 + 1) (2 ^ Fid.flt_notice_rx_cnt.width - 1) ∧
      t.flt.reports = s.flt.reports ++ [{ src := 0x34, objKind := 9, obj := src, cls := cls, remote := true
                                          detail := source + cls * 65536 + react * 16777216 }]) ∧
  (∀ s, (∃ t, exec (.faultCollectorDisagree false) s = .next t ∧ t.flt.dead = true ∧ t.flt.drstPending = true) ∧
    ∃ t e, exec (.faultCollectorDisagree true) s = .next t ∧ t.flt.dead = true ∧ e ∈ t.flt.log ∧ e.source = 0x43)

/-- HOUSEKEEPING_ROUND of a started sequencer shows the supply readings (VSIO aside, which needs the Firebreak link)
and IACT, counts ROUND and sets FIRST_DONE. FRAME_BOUNDARY of a clocked module with no switch of Datum domains waiting
and no map being reread moves Datum's time by 1,024 ns and the frame count by one, notes the frame at the head of the
kept ones, and fills the bucket of each policed mailbox by its rate, at most to its burst; the command of a module
that is not clocked changes nothing. -/
def Obligations.HousekeepingAndFramesRun : Prop :=
  (∀ temps supplies iact deaf s, s.hkp.started = true →
    ∃ t, exec (.housekeepingRound temps supplies iact deaf) s = .next t ∧ t.rd .hkp_status_first_done 0 = 1 ∧
      t.rd .hkp_status_round 0 = (s.rd .hkp_status_round 0 + 1) % 2 ^ Fid.hkp_status_round.width ∧
      t.rd .hkp_iact_i 0 = iact % 2 ^ Fid.hkp_iact_i.width ∧
      ∀ k, k < 7 → k ≠ 1 → t.rd .hkp_sup_status_v k = supplies.getD k 0 % 2 ^ Fid.hkp_sup_status_v.width) ∧
  (∀ samples s, s.clocked = true → s.datum.switchDue = none → s.map.reread = false →
    ∃ t, exec (.frameBoundary samples) s = .next t ∧
    t.datum.t = s.datum.t + 1024 * 65536 ∧ t.loop.frames = s.loop.frames + 1 ∧
    t.loop.hist = (s.frameRec samples :: s.loop.hist).take 2560 ∧
    ∀ m, m < 8 → s.rd .chs_pol_cfg_en m ≠ 0 → (t.mb m).level =
      min (max 1 (min 4096 (s.rd .chs_pol_cfg_burst m)) * tokenUnit)
        ((s.mb m).level + max 1 (s.rd .chs_pol_rate_rate m) * 1048576)) ∧
  (∀ samples s, s.clocked = false → exec (.frameBoundary samples) s = .next s)

/-- FIREBREAK_START without supply before and with its tests passed loads the newer valid copy and enters RUN, or
UNCONFIGURED without a password; a failed part locks out with cause 11. SAFETY_SAMPLE of a started Firebreak takes the
next sample of every pair, counts new demands, and an output is then on only if it was on and R411 allows it; a bad
copy locks out with cause 10. TEST_PULSE with the driver followed counts a first miss in TP_MISS and nothing with
none; a second miss in a row of a pair locks out with cause 2, a second cross-short with cause 3, the driver with
cause 4. Outside LOCKOUT: INPUT_DISCREPANCY after DISC locks out with cause 1, EDM_TIMEOUT of an EDM pair that lost
its state or has not reached it in EDM_T with 7, OUTPUT_SWITCH_TEST failed on an output that is on and STATIC_CHECK
failed on one enabled and off with 5, OUTPUT_OVERCURRENT of one that is on with 6, CHANNEL_DISAGREEMENT with 8,
OSCILLATOR_FAULT with 9, each naming its object; the ones before their condition, and passed tests, do nothing; in
LOCKOUT the first cause stays. OUTPUT_RESTART of an allowed AUTO output whose sources have been healthy for 20 ms puts
it on, else nothing. -/
def Obligations.FirebreakRuns : Prop :=
  (∀ okA okB s c, s.fbk.state = 0 → c = newerCopy okA okB s.fbk.copyA s.fbk.copyB →
    (∃ t, exec (.firebreakStart okA okB none) s = .next t ∧
      t.fbk.cfg = (match c with | some x => x.cfg | none => []) ∧ t.fbk.pw = (match c with | some x => x.pw | none => none) ∧
      t.fbk.state = if t.fbk.pw.isSome then 1 else 3) ∧
    ∀ obj, obj < 256 → ∃ t, exec (.firebreakStart okA okB (some obj)) s = .next t ∧ s.LocksOut t 11 obj) ∧
  (∀ okA okB fail s, s.fbk.state ≠ 0 → exec (.firebreakStart okA okB fail) s = .next s) ∧
  (∀ inputs s, (∀ bad, s.fbk.state = 0 → exec (.safetySample inputs bad) s = .next s) ∧
    (s.fbk.state ≠ 0 → ∃ t, exec (.safetySample inputs false) s = .next t ∧ t.fbk.tick = s.fbk.tick + 1 ∧
      (∀ p : Fin 4, { t.fpair p with reached := false } =
        { s.samplePair p (inputs.testBit (2 * p.val)) (inputs.testBit (2 * p.val + 1)) with reached := false }) ∧
      t.fbk.demands = min (s.fbk.demands + ((List.range 4).filter (fun p =>
        (s.samplePair p (inputs.testBit (2 * p)) (inputs.testBit (2 * p + 1))).demand && !(s.fpair p).demand)).length)
          (2 ^ 32 - 1) ∧
      ∀ n : Fin 4, (t.fout n).on = ((s.fout n).on && t.outAllowed n)) ∧
    (s.fbk.state = 1 ∨ s.fbk.state = 3 → ∃ t, exec (.safetySample inputs true) s = .next t ∧ t.fbk.state = 2 ∧
      t.rd .fbk_fault_cause 0 = 10 ∧ ∀ n : Fin 4, (t.fout n).on = false)) ∧
  (∀ (tp : Fin 2) (p : Fin 4) s, s.fbk.state ≠ 0 →
    (∃ t, exec (.testPulse tp 0 0 true) s = .next t ∧ t.rd .fbk_fault_tp_miss 0 = s.rd .fbk_fault_tp_miss 0 ∧
      t.fbk.state = s.fbk.state) ∧
    (s.fcfg 1 p = 1 ∨ s.fcfg 1 p = 3 →
      ((if tp = 0 then (s.fpair p).a else (s.fpair p).b).stuck = 0 →
        ∃ t, exec (.testPulse tp (2 ^ (2 * p.val + tp.val)) 0 true) s = .next t ∧ t.fbk.state = s.fbk.state ∧
          t.rd .fbk_fault_tp_miss 0 = min (s.rd .fbk_fault_tp_miss 0 + 1) 255 ∧
          (if tp = 0 then (t.fpair p).a else (t.fpair p).b).stuck = 1) ∧
      (s.fbk.state = 1 ∨ s.fbk.state = 3 →
        (0 < (if tp = 0 then (s.fpair p).a else (s.fpair p).b).stuck →
          ∃ t, exec (.testPulse tp (2 ^ (2 * p.val + tp.val)) 0 true) s = .next t ∧ s.LocksOut t 2 p ∧
            (t.fpair p).fault = true) ∧
        (0 < (if tp = 0 then (s.fpair p).b else (s.fpair p).a).crossed →
          ∃ t, exec (.testPulse tp 0 (2 ^ (2 * p.val + 1 - tp.val)) true) s = .next t ∧ s.LocksOut t 3 p ∧
            (t.fpair p).fault = true)))) ∧
  (∀ s, s.fbk.state = 1 ∨ s.fbk.state = 3 →
    (∀ (tp : Fin 2) stuck crossed, ∃ t, exec (.testPulse tp stuck crossed false) s = .next t ∧ s.LocksOut t 4 tp) ∧
    (∀ (p : Fin 4) first, (s.fpair p).first = some first → first + 10 * s.fcfg 3 p ≤ s.fbk.tick →
      ∃ t, exec (.inputDiscrepancy p) s = .next t ∧ s.LocksOut t 1 p ∧ (t.fpair p).fault = true) ∧
    (∀ p : Fin 4, s.fcfg 1 p = 3 → s.edmMatches p (s.fpair p) = false →
      (s.fpair p).reached = true ∨ (s.fout (s.fcfg 4 p)).changedAt + 10 * s.fcfg 5 p ≤ s.fbk.tick →
      ∃ t, exec (.edmTimeout p) s = .next t ∧ s.LocksOut t 7 p ∧ (t.fpair p).fault = true) ∧
    (∀ (n : Fin 4) low, (s.fout n).on = true → (∃ t, exec (.outputSwitchTest n low false) s = .next t ∧ s.LocksOut t 5 n) ∧
      ∃ t, exec (.outputOvercurrent n) s = .next t ∧ s.LocksOut t 6 n) ∧
    (∀ n : Fin 4, s.fcfg 6 n = 1 → (s.fout n).on = false → ∃ t, exec (.staticCheck n false) s = .next t ∧ s.LocksOut t 5 n) ∧
    (∀ ch : Fin 2, (∃ t, exec (.channelDisagreement ch) s = .next t ∧ s.LocksOut t 8 ch) ∧
      ∃ t, exec (.oscillatorFault ch) s = .next t ∧ s.LocksOut t 9 ch)) ∧
  (∀ s, s.fbk.state = 2 → s.fbk.pend = none → ∀ ch : Fin 2, ∀ c ∈ [Instr.channelDisagreement ch, .oscillatorFault ch],
    ∃ t, exec c s = .next t ∧ t.fbk.state = 2 ∧ t.fbk.lockouts = s.fbk.lockouts ∧
      t.rd .fbk_fault_cause 0 = s.rd .fbk_fault_cause 0 ∧ t.rd .fbk_fault_obj 0 = s.rd .fbk_fault_obj 0) ∧
  (∀ (p : Fin 4) low s, exec (.outputSwitchTest p low true) s = .next s ∧ exec (.staticCheck p true) s = .next s ∧
    ((s.fout p).on = false → exec (.outputOvercurrent p) s = .next s) ∧
    ((s.fpair p).first = none → exec (.inputDiscrepancy p) s = .next s) ∧
    (s.fcfg 1 p ≠ 3 ∨ s.edmMatches p (s.fpair p) = true → exec (.edmTimeout p) s = .next s)) ∧
  (∀ (n : Fin 4) s, (s.outAllowed n = true → s.fcfg 8 n = 0 → s.outReady n = true →
      ∃ t, exec (.outputRestart n) s = .next t ∧ (t.fout n).on = true) ∧
    (s.outAllowed n = false ∨ s.fcfg 8 n ≠ 0 ∨ s.outReady n = false → exec (.outputRestart n) s = .next s))

/-- FBRST_N_PULSE of a started Firebreak outside 50 to 500 ms is counted in RST_IGN; within it, in LOCKOUT, with every
pair healthy and no test failed it sets RESET_PEND and clears the pairs' faults, a failed test renews cause and object
without RESET_PEND, a pair that is not healthy the object, with the cause a free value (assumption 60); outside
LOCKOUT it does nothing. RESET_PEND_TIMEOUT clears RESET_PEND after 60 s, SESSION_TIMEOUT ends a session 300 s after
the last safety command of MB0, keeping the configuration in force. FIREBREAK_LINK_LOSS takes the link down, ends a
session and reports 0x49; FIREBREAK_LINK_RETURN of a started Firebreak takes it up; APR_FLAG_CHANGE counts the flags,
and an output is then on only if it was on and R411 allows it. DARKENING_START of one request that is due starts the
gate's jump to darkness and holds it; of none that is due it does nothing. DARKENING_RELEASE of one gate that is due
lets it go and, unless its channel is off or at its clear code, starts its jump back to its drive. SAFETY_LOG_FLUSH
writes the held entries in order once flash and link are there. -/
def Obligations.FirebreakLinkAndDarkeningRun : Prop :=
  (∀ ms fail s, (s.fbk.state = 0 → exec (.fbrstNPulse ms fail) s = .next s) ∧
    (s.fbk.state ≠ 0 → ms < 50 ∨ 500 < ms → ∃ t, exec (.fbrstNPulse ms fail) s = .next t ∧ t = { s with regs := t.regs } ∧
      t.rd .fbk_fault_rst_ign 0 = min (s.rd .fbk_fault_rst_ign 0 + 1) 255) ∧
    (50 ≤ ms → ms ≤ 500 → (s.fbk.state ≠ 2 → exec (.fbrstNPulse ms fail) s = .next s) ∧
      (s.fbk.state = 2 → (s.badPairs = [] → ∃ t, exec (.fbrstNPulse ms none) s = .next t ∧ t.fbk.state = 2 ∧
          t.fbk.pend = some s.fbk.tick ∧ t.rd .fbk_status_reset_pend 0 = 1 ∧ ∀ p : Fin 4, (t.fpair p).fault = false) ∧
        (s.badPairs ≠ [] → ∃ t, exec (.fbrstNPulse ms none) s = .next t ∧ t.fbk.state = 2 ∧ t.fbk.pend = none ∧
          t.rd .fbk_fault_cause 0 = s.freeVal % 256 ∧ t.rd .fbk_fault_obj 0 = s.badPairs.headD 0 ∧ t.free = s.free + 1) ∧
        ∀ c o, c < 256 → o < 256 → ∃ t, exec (.fbrstNPulse ms (some (c, o))) s = .next t ∧ t.fbk.state = 2 ∧
          t.fbk.pend = none ∧ t.rd .fbk_fault_cause 0 = c ∧ t.rd .fbk_fault_obj 0 = o))) ∧
  (∀ s, (s.fbk.pend = none → exec .resetPendTimeout s = .next s) ∧
    ∀ k, s.fbk.pend = some k → (s.fbk.tick < k + 600000 → exec .resetPendTimeout s = .next s) ∧
      (k + 600000 ≤ s.fbk.tick → ∃ t, exec .resetPendTimeout s = .next t ∧ t.fbk = { s.fbk with pend := none } ∧
        t.rd .fbk_status_reset_pend 0 = 0)) ∧
  (∀ s, (s.fbk.session = false ∨ s.fbk.tick < s.fbk.lastCmd + 3000000 → exec .sessionTimeout s = .next s) ∧
    (s.fbk.session = true → s.fbk.lastCmd + 3000000 ≤ s.fbk.tick → ∃ t, exec .sessionTimeout s = .next t ∧
      t.fbk.session = false ∧ t.fbk.staged = [] ∧ t.fbk.stagedPw = none ∧ t.fbk.cfg = s.fbk.cfg ∧ t.fbk.pw = s.fbk.pw)) ∧
  (∀ s, (s.fbk.link = false → exec .firebreakLinkLoss s = .next s) ∧
    (s.fbk.link = true → ∃ t, exec .firebreakLinkLoss s = .next t ∧ t.fbk.link = false ∧ t.fbk.session = false ∧
      t.rd .fbk_status_link 0 = 0 ∧ ∃ r ∈ t.flt.reports, r.src = 0x49) ∧
    (s.fbk.link = true ∨ s.fbk.state = 0 → exec .firebreakLinkReturn s = .next s) ∧
    (s.fbk.link = false → s.fbk.state ≠ 0 → ∃ t, exec .firebreakLinkReturn s = .next t ∧ t.fbk.link = true ∧
      t.rd .fbk_status_link 0 = 1)) ∧
  (∀ s, (s.fbk.state = 0 → exec .aprFlagChange s = .next s) ∧
    (s.fbk.state ≠ 0 → ∃ t, exec .aprFlagChange s = .next t ∧ t.fbk.apr = s.aprMask ∧
      ∀ n : Fin 4, (t.fout n).on = ((s.fout n).on && t.outAllowed n))) ∧
  (∀ s, (s.fbk.want.any s.darkDue = false → exec .darkeningStart s = .next s) ∧
    ∀ w, s.fbk.want = [w] → s.darkDue w = true → ∃ t, exec .darkeningStart s = .next t ∧
      s.gateOf w.1 ∈ t.loop.dark ∧ (t.el (s.gateOf w.1)).drive = (s.el (s.gateOf w.1)).drive ∧
      ∃ j, (t.el (s.gateOf w.1)).djump = some j ∧ j.goal = .dark ∧ j.at0 = s.loop.frames) ∧
  (∀ (n : Fin 4) s, ((∀ w ∈ s.fbk.release, elemCpt w.1 = n → s.nextBoundary n w.2 = false) →
      exec (.darkeningRelease n) s = .next s) ∧
    ∀ w, s.fbk.release = [w] → elemCpt w.1 = n → w.1 ∈ s.loop.dark → s.nextBoundary n w.2 = true →
      ∃ t, exec (.darkeningRelease n) s = .next t ∧ w.1 ∉ t.loop.dark ∧ t.fbk.release = [] ∧
        if s.vOff w.1 = true ∨ s.atClear w.1 = true then (t.el w.1).djump = none
        else ∃ j, (t.el w.1).djump = some j ∧ j.goal = .dark ∧ j.vt = s.limited w.1 (s.el w.1).drive ∧
          j.vs = (s.el w.1).out) ∧
  (∀ s, (s.fbkFlash = false → exec .safetyLogFlush s = .next s) ∧
    (s.fbkFlash = true → ∃ t, exec .safetyLogFlush s = .next t ∧
      t.fbk = { s.fbk with log := s.fbk.held.foldl logPush s.fbk.log, held := [] } ∧ t.rd .fbk_log_pending 0 = 0))

/-- With the link up: SAFETY_STATUS READ, local with an aligned buffer, writes the status record and completes OK; ACK
by MB0 itself leaves LOCKOUT for RUN with RESET_PEND set for less than 60 s, completes SAFETY_LOCKOUT without, and OK
with no effect outside LOCKOUT; RESTART by MB0 outside LOCKOUT, with every named output's sources ready, puts on each
that waits and is allowed, and completes OK. SAFETY_SESSION_OPEN by MB0 itself with a well-formed password and no
session opens a session on the configuration in force where the password matches or none is set, else completes
AUTH_FAILED and counts it; blocked, it completes AUTH_FAILED. In a session of MB0: CONFIG PARAMETER within R429 stages
the value; CONFIG PASSWORD stages the digest under a fresh salt, a free value; CLOSE COMMIT of a staged configuration
that R428 accepts stores it in both copies, applies it, puts every output off and ends the session, or with flash
writes refused and something changed completes TEMP_INHIBIT and goes on; CLOSE DISCARD ends the session and keeps the
configuration. LOG_READ of 1 to 512 entries by MB0 writes those held from FIRST and returns their number. -/
def Obligations.SafetyCommandsComplete : Prop :=
  (∀ h buf s, h.remote = none → buf % 16 = 0 → s.fbk.link = true → ∃ t, exec (.safetyStatusRead h buf) s = .next t ∧
    t.out = (s.toHost h.mbx buf (s.safetyCmd h).fbkRecord).out ∧
    t.host.held = (s.toHost h.mbx buf (s.safetyCmd h).fbkRecord).host.held ∧ t.Finished h { status := .ok }) ∧
  (∀ h s, h.mbx = 0 → h.remote = none → s.fbk.link = true →
    (s.fbk.state = 2 → s.pendNow = true → ∃ t, exec (.safetyStatusAck h) s = .next t ∧ t.fbk.state = 1 ∧
      t.fbk.pend = none ∧ t.rd .fbk_fault_cause 0 = 0 ∧ t.rd .fbk_fault_obj 0 = 0 ∧ t.rd .fbk_status_fb_ok 0 = 1 ∧
      t.Finished h { status := .ok }) ∧
    (s.fbk.state = 2 → s.pendNow = false → ∃ t, exec (.safetyStatusAck h) s = .next t ∧
      t.fbk = { s.fbk with lastCmd := s.fbk.tick } ∧ t.Finished h { status := .safetyLockout }) ∧
    (s.fbk.state ≠ 2 → ∃ t, exec (.safetyStatusAck h) s = .next t ∧ t.fbk = { s.fbk with lastCmd := s.fbk.tick } ∧
      t.Finished h { status := .ok })) ∧
  (∀ h outputs s, h.mbx = 0 → outputs ≤ 15 → s.fbk.link = true → s.fbk.state ≠ 2 →
    (∀ n ∈ bitsSet 4 outputs, s.outReady n = true) → ∃ t, exec (.safetyStatusRestart h outputs) s = .next t ∧
      t.Finished h { status := .ok } ∧ ∀ n ∈ bitsSet 4 outputs, s.outWaits n = true → s.outAllowed n = true →
        (t.fout n).on = true) ∧
  (∀ h len pw s, h.mbx = 0 → h.remote = none → passwordBad len pw = false → s.fbk.session = false → s.fbk.link = true →
    (s.openBlocked = true → ∃ t, exec (.safetySessionOpen h len pw) s = .next t ∧ t.fbk.session = false ∧
      t.fbk.authFail = min (s.fbk.authFail + 1) 65535 ∧ t.Finished h { status := .authFailed }) ∧
    (s.openBlocked = false → s.passwordOk (pw.take len) = false → ∃ t, exec (.safetySessionOpen h len pw) s = .next t ∧
      t.fbk.session = false ∧ t.fbk.authFail = min (s.fbk.authFail + 1) 65535 ∧ t.fbk.fails = (s.fbk.fails + 1) % 5 ∧
      t.Finished h { status := .authFailed }) ∧
    (s.openBlocked = false → s.passwordOk (pw.take len) = true → ∃ t, exec (.safetySessionOpen h len pw) s = .next t ∧
      t.fbk.session = true ∧ t.fbk.staged = s.fbk.cfg ∧ t.fbk.stagedPw = none ∧ t.fbk.fails = 0 ∧
      t.rd .fbk_status_session 0 = 1 ∧ t.Finished h { status := .ok })) ∧
  (∀ h s, h.mbx = 0 → s.fbk.session = true →
    (∀ param value, fbkParamOk (param / 256) (param % 256) value = true →
      ∃ t, exec (.safetyConfigParameter h param value) s = .next t ∧ t.Finished h { status := .ok } ∧
        t.fbk = { s.fbk with
          lastCmd := s.fbk.tick, staged := fbkPut s.fbk.staged (param / 256) (param % 256) value }) ∧
    (∀ len pw, passwordBad len pw = false → ∃ t, exec (.safetyConfigPassword h len pw) s = .next t ∧
      t.Finished h { status := .ok } ∧ t.free = s.free + 1 ∧
      t.fbk.stagedPw = some (s.freeVal, Config.passwordDigest s.freeVal (pw.take len))) ∧
    (s.stagedOk = true → (s.flashRefused = false ∨ (s.changedParams = [] ∧ s.fbk.stagedPw = none) →
        ∃ t c, exec (.safetySessionCloseCommit h) s = .next t ∧ t.Finished h { status := .ok } ∧ t.fbk.session = false ∧
          t.fbk.cfg = s.fbk.staged ∧ t.fbk.copyA = some c ∧ t.fbk.copyB = some c ∧ c.cfg = s.fbk.staged ∧ c.pw = t.fbk.pw ∧
          t.fbk.pw = (s.fbk.stagedPw.orElse (fun _ => s.fbk.pw)) ∧ (s.fbk.state = 3 → t.fbk.state = 1) ∧
          ∀ n : Fin 4, (t.fout n).on = false) ∧
      (s.flashRefused = true → s.changedParams ≠ [] ∨ s.fbk.stagedPw.isSome = true →
        ∃ t, exec (.safetySessionCloseCommit h) s = .next t ∧ t.Finished h { status := .tempInhibit } ∧
          t.fbk = { s.fbk with lastCmd := s.fbk.tick })) ∧
    (s.stagedOk = false → ∃ t, exec (.safetySessionCloseCommit h) s = .next t ∧ t.Finished h { status := .invalidField }) ∧
    ∃ t, exec (.safetySessionCloseDiscard h) s = .next t ∧ t.Finished h { status := .ok } ∧ t.fbk.session = false ∧
      t.fbk.staged = [] ∧ t.fbk.cfg = s.fbk.cfg ∧ t.fbk.pw = s.fbk.pw) ∧
  (∀ h first count buf s, h.mbx = 0 → h.remote = none → 1 ≤ count → count ≤ 512 → buf % 16 = 0 → ∀ es,
    es = (s.fbk.log.filter (fun e => decide (first ≤ e.seq))).take count →
    ∃ t, exec (.safetyLogRead h first count buf) s = .next t ∧
      t.out = (s.toHost h.mbx buf (es.flatMap FLog.bytes)).out ∧
      t.host.held = (s.toHost h.mbx buf (es.flatMap FLog.bytes)).host.held ∧
      t.Finished h { status := .ok, res0 := es.length })

/-- DOE_DISCOVERY answers index 0 with discovery itself and index 1 with SPDM. While Forester does not restart (its
activation step is not 6) and the request is at most 4,096 bytes: SPDM_GET_VERSION answers version 1.2 and starts the
exchange anew; SPDM_GET_CAPABILITIES after it answers CERT_CAP, CHAL_CAP, MEAS_CAP 2 and CTExponent 17;
SPDM_NEGOTIATE_ALGORITHMS after that, offering all three algorithms, is answered with them; then SPDM_GET_DIGESTS
answers slot 0's digest, SPDM_GET_CERTIFICATE of slot 0 at most 1,024 bytes of its chain from an offset inside it and
the bytes that remain, SPDM_CHALLENGE of slot 0 the digest and a signature over the nonce, SPDM_GET_MEASUREMENTS of an
index 1 to 8 one block of that register, signed where it asks for it; SPDM_UNSUPPORTED_REQUEST is answered with an
error. Nothing else of the state changes. The responses are stated by content (assumption 64). -/
def Obligations.SpdmRequestsAnswered : Prop :=
  (∀ s, exec (.doeDiscovery 0) s = .next { s with out := s.out ++ [.doe (.discovery 1 0 1)] } ∧
    exec (.doeDiscovery 1) s = .next { s with out := s.out ++ [.doe (.discovery 1 1 0)] }) ∧
  ∀ len s, s.boot.actStep ≠ 6 → len ≤ 4096 →
    (exec (.spdmGetVersion len) s = .next { s with
      boot := { s.boot with spdmVersion := true, spdmCaps := false, spdmAlgs := false }
      out := s.out ++ [.doe (.version 0x12)] }) ∧
    (s.boot.spdmVersion = true → exec (.spdmGetCapabilities len) s = .next { s with
      boot := { s.boot with spdmVersion := true, spdmCaps := true, spdmAlgs := false }
      out := s.out ++ [.doe (.capabilities true true 2 17)] }) ∧
    (s.boot.spdmCaps = true → exec (.spdmNegotiateAlgorithms len true true true) s = .next { s with
      boot := { s.boot with spdmVersion := true, spdmCaps := true, spdmAlgs := true }
      out := s.out ++ [.doe .algorithms] }) ∧
    (s.boot.spdmAlgs = true →
      exec (.spdmGetDigests len) s = .next { s with
        out := s.out ++ [.doe (.digests 1 (Config.sha384 Config.certChain))] } ∧
      (∀ offset n, offset ≤ Config.certChain.length → exec (.spdmGetCertificate len 0 offset n) s = .next { s with
        out := s.out ++ [.doe (.certificate ((Config.certChain.drop offset).take (min n 1024))
          (Config.certChain.length - offset - min n 1024))] }) ∧
      (∀ nonce, exec (.spdmChallenge len 0 nonce) s = .next { s with
        out := s.out ++ [.doe (.challengeAuth (Config.sha384 Config.certChain) (Config.deviceSign nonce))] }) ∧
      (∀ i nonce, i < 8 →
        exec (.spdmGetMeasurements len (i + 1) false nonce) s = .next { s with
          out := s.out ++ [.doe (.measurements 8 [(i + 1, mregType i, (s.mreg i).value)] none)] } ∧
        exec (.spdmGetMeasurements len (i + 1) true nonce) s = .next { s with
          out := s.out ++ [.doe (.measurements 8 [(i + 1, mregType i, (s.mreg i).value)]
            (some (Config.deviceSign (nonce ++ (i + 1) :: leBytes 48 (s.mreg i).value))))] })) ∧
    exec (.spdmUnsupportedRequest len) s = .next { s with out := s.out ++ [.doe .unsupported] }

/-- BOOT_SEQUENCE before the release (step 0) with CLKREF present starts the fault collector and housekeeping, counts
BOOTS, sets Datum's time to 0 and opens admission; where no bank holds an accepted image, RECOVERY reads 1 and no map,
loop or Traverse state is loaded. Under an unlock that covers it GLB_RESET 0xD5 requests DRST and changes nothing
else, any other key is a discarded write. BOOT_FUSE_PROG under its unlock, with flash allowed and the write
succeeding, sets SIG_ENF for 0xE5A1 and JTAG_LOCK for 0x1A5E and leaves every other register field. A JTAG instruction
below EXTEST is loaded and nothing else changes; EXTEST and above are loaded and extended into measurement register 7
without JTAG_LOCK, and act as BYPASS under it. FORESTER_WATCHDOG in activation step 6, 500 ms after it began (in
frames, assumption 85), reports source 0x41, and before does nothing. -/
def Obligations.BootFusesAndResetRequests : Prop :=
  (∀ s, s.boot.step = 0 → s.boot.clkref = true → ∃ t, exec .bootSequence s = .next t ∧
    t.flt.started = true ∧ t.hkp.started = true ∧ t.host.admission = true ∧ t.datum.t = 0 ∧
    t.rd .boot_status_boots 0 = (s.rd .boot_status_boots 0 + 1) % 2 ^ Fid.boot_status_boots.width ∧
    (s.bootBank = none → t.rd .boot_status_recovery 0 = 1 ∧ t.map = s.map ∧ t.loop = s.loop ∧ t.trv = s.trv)) ∧
  (∀ key s, s.covers 0x8 .glb_reset_key 0 = true →
    exec (.glbResetWrite key) s =
      .next (if key = 0xD5 then { s with flt := { s.flt with drstPending := true } } else s.noteDiscard 0x8)) ∧
  (∀ s, s.covers 0xC0014 .boot_fuse_prog_code 0 = true → s.rd .hkp_flash_inhibit 0 = 0 →
    (∃ t, exec (.fuseProgWrite 0xE5A1 true) s = .next t ∧ t.rd .boot_fuse_sig_enf 0 = 1 ∧
      s.RegsBut t (fun f i => f = .boot_fuse_sig_enf ∧ i = 0)) ∧
    (∃ t, exec (.fuseProgWrite 0x1A5E true) s = .next t ∧ t.rd .boot_fuse_jtag_lock 0 = 1 ∧
      s.RegsBut t (fun f i => f = .boot_fuse_jtag_lock ∧ i = 0))) ∧
  (∀ (i : Fin 6) s, ∃ t, exec (.jtagInstructionLoad i) s = .next t ∧ (∀ f k, t.rd f k = s.rd f k) ∧
    if i.val < 3 then t = { s with boot := { s.boot with jtag := i } }
    else if s.rd .boot_fuse_jtag_lock 0 ≠ 0 then t = { s with boot := { s.boot with jtag := 0 } }
    else t.boot.jtag = i ∧ (t.mreg 7).count = ((s.mreg 7).count + 1) % 65536 ∧ ∀ k, k ≠ 7 → t.mreg k = s.mreg k) ∧
  (∀ s, (s.boot.actStep = 6 → s.boot.actAt + framesIn 500000000 ≤ s.loop.frames → exec .foresterWatchdog s =
    .next { s with flt := { s.flt with reports := s.flt.reports ++ [{ src := 0x41 }] } }) ∧
    (s.boot.actStep ≠ 6 ∨ s.loop.frames < s.boot.actAt + framesIn 500000000 → exec .foresterWatchdog s = .next s))

/-- FW_STAGE of firmware by MB0, local, of the stated length (1 byte to 32 MiB), with nothing staged or activated
here, of a well-formed image that the fuses accept and with flash allowed, leaves the image in the inactive bank, the
active bank as it was, STAGED_FW 1, and completes OK; of an element map that passes its checks it leaves the map in
the inactive slot, the active slot and the map in force as they were, and completes OK. FW_BULK_DATA at offset 0 with
remote firmware staging accepted, no transfer coming in and no activation starts a transfer with its data and sets
STAGING. For the originator's transfer: FW_BULK_STATUS takes ACKED, clears the attempts and notes the time;
FW_BULK_DONE ends the transfer, clears STAGING unless a transfer comes in, and gives its owner the target's status;
FW_BULK_TIMEOUT, 10 ms after the last frame or STATUS with part of the image not acknowledged, counts an attempt below
three and at three ends the transfer with REMOTE_TIMEOUT; with all acknowledged for 30 s it ends it so; before, or
with no transfer, it does nothing (times in frames, assumption 85). -/
def Obligations.StagingCommandsComplete : Prop :=
  (∀ h length buf image s, length ≠ 0 → length ≤ 33554432 → image.length = length → s.badSrc h buf 16 length = false →
    h.mbx = 0 → s.stageBusy 0 = false → imgFormed image = true → s.imgRejected image = false → s.rd .hkp_flash_inhibit 0 = 0 →
    ∃ t, exec (.fwStageFirmware h length 0 buf image) s = .next t ∧ t.Finished h { status := .ok } ∧
      t.boot.inactive = some image ∧ t.boot.active = s.boot.active ∧ t.rd .boot_status_staged_fw 0 = 1) ∧
  (∀ h length buf image s, mapLengthOk length = true → image.length = length → s.badSrc h buf 16 length = false →
    h.mbx = 0 → s.stageBusy 0 = false → mapCheck s.loopShape image = none → s.rd .hkp_flash_inhibit 0 = 0 →
    ∃ t, exec (.fwStageElementMap h length 0 buf image) s = .next t ∧ t.Finished h { status := .ok } ∧
      t.map.inactive = some image ∧ t.map.active = s.map.active ∧ t.map.force = s.map.force) ∧
  (∀ src kind xferId total data s, s.boot.xferIn = none → s.rd .chp_remote_accept 0 ≠ 0 →
    (s.rd .chp_remote_class_en 0).testBit 8 = true → s.activating = false → data.length < total →
    ∃ t, exec (.fwBulkData src kind xferId total 0 data) s = .next t ∧ t.rd .boot_status_staging 0 = 1 ∧
      t.boot.xferIn = some { src := src, kind := kind, xferId := xferId, total := total, data := data, frames := 1 }) ∧
  (∀ x acked s, s.boot.xferOut = some x → acked ≤ x.image.length →
    ∃ t, exec (.fwBulkStatus x.dst x.xferId acked) s = .next t ∧ t.boot = { s.boot with xferOut := some { x with
      acked := acked, attempts := 0, sentAt := s.loop.frames
      wholeAt := if acked = x.image.length then some (x.wholeAt.getD s.loop.frames) else none } }) ∧
  (∀ x status s, s.boot.xferOut = some x →
    ∃ t, exec (.fwBulkDone x.dst x.xferId status) s = .next t ∧ t.boot = { s.boot with xferOut := none } ∧
      t.rd .boot_status_staging 0 = bit01 s.boot.xferIn.isSome ∧ s.Concludes t x.owner { status := Status.ofCode status }) ∧
  (∀ s late, s.boot.xferOut = none → exec (.fwBulkTimeout late) s = .next s) ∧
  (∀ s x, s.boot.xferOut = some x →
    (∀ t, x.wholeAt = some t → exec (.fwBulkTimeout false) s = .next s ∧
      (s.loop.frames < t + framesIn 30000000000 → exec (.fwBulkTimeout true) s = .next s) ∧
      (t + framesIn 30000000000 ≤ s.loop.frames → ∃ u, exec (.fwBulkTimeout true) s = .next u ∧
        u.boot = { s.boot with xferOut := none } ∧ s.Concludes u x.owner { status := .remoteTimeout })) ∧
    (x.wholeAt = none → exec (.fwBulkTimeout true) s = .next s ∧
      (s.loop.frames < x.sentAt + framesIn 10000000 → exec (.fwBulkTimeout false) s = .next s) ∧
      (x.sentAt + framesIn 10000000 ≤ s.loop.frames → ∃ u, exec (.fwBulkTimeout false) s = .next u ∧
        if x.attempts < 3 then
          u.boot = { s.boot with xferOut := some { x with attempts := x.attempts + 1, sentAt := s.loop.frames } }
        else u.boot = { s.boot with xferOut := none } ∧ s.Concludes u x.owner { status := .remoteTimeout })))

/-- FW_ACTIVATE of firmware by MB0 with a well-formed, accepted staged image and nothing running: in RECOVERY it flips
the active bank, requests DRST and completes OK, or with flash writes refused completes TEMP_INHIBIT with neither;
otherwise, where R285 allows it, the activation enters step 1 with ACTIVATING 1 and the shadow Stand OFFLINE under
BRST. FORESTER_RESTART_COMPLETE in step 6, with flash allowed and signatures not enforced, flips the active bank, ends
the activation, clears ACTIVATING, shows the new version and gives the command OK. FW_ACTIVATE of a staged map that
passes its checks, by MB0, with nothing queued, every element in PARK or FENCED and flash allowed, starts that
activation, with ACTIVATING 1 and the map in force unchanged; FLASH_WRITE_COMPLETE of its marker puts that map in
force, flips the active slot, clears ACTIVATING and completes it OK. -/
def Obligations.ActivationCommandsComplete : Prop :=
  (∀ h b s, h.mbx = 0 → s.boot.inactive = some b → s.fwBusy = false → imgFormed b = true → s.imgRejected b = false →
    (s.rd .boot_status_recovery 0 ≠ 0 ∨ s.mayActivate b = true) → ∃ t, exec (.fwActivateFirmware h) s = .next t ∧
      if s.rd .boot_status_recovery 0 ≠ 0 ∧ s.flashRefused = true then
        t.boot.activeB = s.boot.activeB ∧ t.flt.drstPending = s.flt.drstPending ∧ t.Finished h { status := .tempInhibit }
      else if s.rd .boot_status_recovery 0 ≠ 0 then
        t.boot.activeB = !s.boot.activeB ∧ t.flt.drstPending = true ∧ t.Finished h { status := .ok }
      else t.boot.actStep = 1 ∧ t.rd .boot_status_activating 0 = 1 ∧ t.standState s.shadow = 0 ∧
        s.shadow ∈ t.stand.reset) ∧
  (∀ fuseOk b s, s.boot.actStep = 6 → s.boot.inactive = some b → s.rd .hkp_flash_inhibit 0 = 0 →
    s.rd .boot_fuse_sig_enf 0 = 0 → ∃ t, exec (.foresterRestartComplete fuseOk) s = .next t ∧
      t.boot.activeB = (!s.boot.activeB) ∧ t.boot.actStep = 0 ∧ t.boot.actOwner = none ∧
      t.rd .boot_status_activating 0 = 0 ∧ t.rd .boot_fw_ver_version 0 = imgVersion b % 2 ^ Fid.boot_fw_ver_version.width ∧
      ∀ o, s.boot.actOwner = some o → s.Concludes t o { status := .ok }) ∧
  (∀ h f s, h.mbx = 0 → s.map.inactive = some f → s.fwBusy = false → s.trv.queue = [] → s.allParked = true →
    mapCheck s.loopShape f = none → s.rd .hkp_flash_inhibit 0 = 0 →
    ∃ t, exec (.fwActivateElementMap h) s = .next t ∧ t.InFlight h (s.ownerOf h).id ∧ t.rd .boot_status_activating 0 = 1 ∧
      t.map = { s.map with change := some (s.ownerOf h) }) ∧
  (∀ s, (s.map.change = none → exec (.flashWriteComplete .mapMarker) s = .next s) ∧
    ∀ o, s.map.change = some o → ∃ t, exec (.flashWriteComplete .mapMarker) s = .next t ∧
      t.map = { s.map with force := some (readMap (s.map.inactive.getD [])), activeB := !s.map.activeB, change := none } ∧
      t.rd .boot_status_activating 0 = 0 ∧ s.Concludes t o { status := .ok })

/-- A write that is not 32 or 64 bits wide and naturally aligned changes nothing, except that on a register with an
RWE or RWP field it is reported as source 0x39; one of the PF in its pages 1 to 7, one of a VF beyond its page, and a
32-bit one at an unassigned offset change nothing. By access type, on one register each: an RO register (HKP_STATUS)
is unchanged; W1C bits (FLT_STATUS) written 1 are cleared and the others stay; an RW field (IRQ_THRESH, IRQ_TIME of
MBX_CTRL in every function's page) takes its bits; an RWS one (DTM_PPS_IN_DLY) too; an RWE one (GAIN of HKP_THR_CFG)
only with a covering unlock and an RWP one (FBK_SRC_CFG) only in an open session, into the staged values, else the
write is reported as source 0x39 and changes nothing else. MBX_SQ_BASE with EN = 0 takes a 64-bit write at once, and
two 32-bit writes, low half first, at the write of the high half; with EN = 1 it keeps its value. A BAR2 write of 32
bits into the state library, under an unlock of MB0 of the device or of Traverse, stores its word and raises GEN of
that slot alone; without it, and at every other BAR2 offset, it changes nothing. -/
def Obligations.RegisterAndBar2WritesRun : Prop :=
  (∀ (fn : Fin 8) off width v s, (∀ o, pfOffset fn off = some o → ¬ (width = 32 ∧ off % 4 = 0 ∨ width = 64 ∧ off % 8 = 0) →
      (regAt o = none → exec (.registerWrite fn off width v) s = .next s) ∧
      ∀ r i b, regAt o = some (r, i, b) → exec (.registerWrite fn off width v) s =
        .next (if r.fields.any (fun q => q.fid.accessAt i == .rwe || q.fid.accessAt i == .rwp) then s.noteDiscard (o - b) else s)) ∧
    (fn = 0 → 0x11000 ≤ off → off < 0x18000 → exec (.registerWrite fn off width v) s = .next s) ∧
    (fn ≠ 0 → 0x1000 ≤ off → exec (.registerWrite fn off width v) s = .next s) ∧
    (fn = 0 → regAt off = none → exec (.registerWrite fn off 32 v) s = .next s)) ∧
  (∀ v s, exec (.registerWrite 0 0xA0000 32 v) s = .next s) ∧
  (∀ v s, s.rd .flt_status_ce 0 < 2 → s.rd .flt_status_uc 0 < 2 → s.rd .flt_status_ft 0 < 2 →
    ∃ t, exec (.registerWrite 0 0x20000 32 v) s = .next t ∧ t = { s with regs := t.regs } ∧
      t.rd .flt_status_ce 0 = (if v.testBit 0 then 0 else s.rd .flt_status_ce 0) ∧
      t.rd .flt_status_uc 0 = (if v.testBit 1 then 0 else s.rd .flt_status_uc 0) ∧
      t.rd .flt_status_ft 0 = (if v.testBit 2 then 0 else s.rd .flt_status_ft 0) ∧
      s.RegsBut t (fun f i => (f = .flt_status_ce ∨ f = .flt_status_uc ∨ f = .flt_status_ft) ∧ i = 0)) ∧
  (∀ (fn : Fin 8) v s, ∃ t, exec (.registerWrite fn (if fn = 0 then 0x10000 else 0) 32 v) s = .next t ∧
    t = { s with regs := t.regs } ∧ t.rd .mbx_ctrl_irq_thresh fn = v / 256 % 256 ∧
    t.rd .mbx_ctrl_irq_time fn = v / 65536 % 65536 ∧
    s.RegsBut t (fun f i => (f = .mbx_ctrl_irq_thresh ∨ f = .mbx_ctrl_irq_time) ∧ i = fn)) ∧
  (∀ v s, ∃ t, exec (.registerWrite 0 0x30304 32 v) s = .next t ∧ t = { s with regs := t.regs } ∧
    t.rd .dtm_pps_in_dly_dly 0 = v % 2 ^ 32 ∧ s.RegsBut t (fun f i => f = .dtm_pps_in_dly_dly ∧ i = 0)) ∧
  (∀ v s, (s.covers 0xA0004 .hkp_thr_cfg_gain 0 = true → ∃ t, exec (.registerWrite 0 0xA0004 32 v) s = .next t ∧
      t = { s with regs := t.regs } ∧ t.rd .hkp_thr_cfg_gain 0 = v % 1024 ∧
      s.RegsBut t (fun f i => f = .hkp_thr_cfg_gain ∧ i = 0)) ∧
    (s.covers 0xA0004 .hkp_thr_cfg_gain 0 = false → exec (.registerWrite 0 0xA0004 32 v) s = .next { s with flt :=
      { s.flt with reports := s.flt.reports ++ [{ src := 0x39, objKind := 11, obj := 0xA0004, mbx := 0 }] } })) ∧
  (∀ (k : Fin 6) v s, (s.fbk.session = false → exec (.registerWrite 0 (0x90120 + 4 * k.val) 32 v) s = .next { s with flt :=
      { s.flt with reports := s.flt.reports ++ [{ src := 0x39, objKind := 11, obj := 0x90120 + 4 * k.val, mbx := 0 }] } }) ∧
    (s.fbk.session = true → s.rd .fbk_src_cfg_dark k < 16 → s.rd .fbk_src_cfg_heat k < 16 →
      ∃ t, exec (.registerWrite 0 (0x90120 + 4 * k.val) 32 v) s = .next t ∧ fbkGet t.fbk.staged 11 k = v % 16 ∧
        fbkGet t.fbk.staged 12 k = v / 16 % 16 ∧ t.fbk.cfg = s.fbk.cfg)) ∧
  (∀ (fn : Fin 8) off v s, off = (if fn = 0 then 0x10008 else 8) → v < 2 ^ 64 →
    (s.rd .mbx_ctrl_en fn = 0 → (∃ t, exec (.registerWrite fn off 64 v) s = .next t ∧
        t.rd .mbx_sq_base_base fn = v / 4096) ∧
      ∃ t u, exec (.registerWrite fn off 32 (v % 2 ^ 32)) s = .next t ∧ t.regs = s.regs ∧
        exec (.registerWrite fn (off + 4) 32 (v / 2 ^ 32)) t = .next u ∧ u.rd .mbx_sq_base_base fn = v / 4096) ∧
    (s.rd .mbx_ctrl_en fn ≠ 0 → ∃ t, exec (.registerWrite fn off 64 v) s = .next t ∧ t.regs = s.regs)) ∧
  (∀ off v s, (s.unlockedBy 0 2 0 = true ∨ s.unlockedBy 0 1 6 = true) → off % 4 = 0 → off < 0x800000 →
    ∃ t, exec (.bar2Write off 32 v) s = .next t ∧ t = { s with trv := t.trv } ∧
      Tbl.get 0 (t.slot (off / 2048)).perm (off % 2048 / 4) = v % 2 ^ 32 ∧
      (∀ j, j ≠ off % 2048 / 4 → Tbl.get 0 (t.slot (off / 2048)).perm j = Tbl.get 0 (s.slot (off / 2048)).perm j) ∧
      t.slot (off / 2048) = { s.slot (off / 2048) with
        perm := (t.slot (off / 2048)).perm, gen := ((s.slot (off / 2048)).gen + 1) % 2 ^ 32 } ∧
      ∀ k, k ≠ off / 2048 → t.slot k = s.slot k) ∧
  (∀ off width v s, (s.unlockedBy 0 2 0 = false ∧ s.unlockedBy 0 1 6 = false) ∨ 0x800000 ≤ off ∨
    ¬ (width = 32 ∧ off % 4 = 0 ∨ width = 64 ∧ off % 8 = 0) → exec (.bar2Write off width v) s = .next s)

/-- Each of the mailbox, telemetry and host-interface commands (SQ_DOORBELL, COMMAND_FETCH, COMMAND_ADMISSION,
POLICE_HOLD_RESUME, COMPLETION_POST, CQ_HEAD_WRITE, COMPLETION_INTERRUPT, MBX_ENABLE_WRITE, MAILBOX_DMA_ERROR,
RING_INTERRUPT, TR_CONS_WRITE, TELEMETRY_FRAME_RECEIVED, UNLOCK_EXPIRY, IDENTIFY, GET_STATUS, PARTITION_SET,
TELEMETRY_CFG_RING, TELEMETRY_CFG_SOURCE, MEASURE_READ, EXPERT_UNLOCK, EXPERT_LOCK, PERST_N_RELEASE,
BUS_MASTER_ENABLE_CHANGE), whatever its operands and whatever the state before it, when it answers a next state leaves
every register field outside its own list, with every index, every part of the state outside its own list, and the
queue as they were. MBX_STATUS.INFLIGHT, mbx and host stand in the list of a command because its completion is kept
there. -/
def Obligations.HostFrames : Prop :=
  (∀ a0 a1 s t, exec (.sqDoorbell a0 a1) s = .next t →
    s.Frame t [.mbx_status_db_err, .mbx_sq_db_sq_tail]
      []) ∧
  (∀ a0 a1 s t, exec (.commandFetch a0 a1) s = .next t →
    s.Frame t [.mbx_status_inflight, .mbx_sq_db_sq_head]
      [.mbx]) ∧
  (∀ s t, exec .commandAdmission s = .next t →
    s.Frame t [.chs_pol_status_level, .chs_pol_status_held, .chs_pol_status_pol_cnt, .mbx_status_held,
      .mbx_status_inflight]
      [.mbx, .host]) ∧
  (∀ a0 s t, exec (.policeHoldResume a0) s = .next t →
    s.Frame t [.chs_pol_status_held, .mbx_status_held]
      []) ∧
  (∀ a0 s t, exec (.completionPost a0) s = .next t →
    s.Frame t [.chp_drop_cnt_dest, .chs_qstat_depth, .chs_qstat_qdrop, .mbx_status_inflight, .mbx_cq_db_cq_tail]
      [.mbx, .ports, .fab, .sch, .out]) ∧
  (∀ a0 a1 s t, exec (.cqHeadWrite a0 a1) s = .next t →
    s.Frame t [.mbx_status_inflight, .mbx_cq_db_cq_head]
      [.mbx]) ∧
  (∀ a0 a1 s t, exec (.completionInterrupt a0 a1) s = .next t →
    s.Frame t [.mbx_status_inflight]
      [.mbx, .out]) ∧
  (∀ a0 a1 s t, exec (.mbxEnableWrite a0 a1) s = .next t →
    s.Frame t [.mbx_ctrl_en, .mbx_status_rdy, .mbx_status_inflight, .mbx_sq_db_sq_tail, .mbx_sq_db_sq_head,
      .mbx_cq_db_cq_head, .mbx_cq_db_cq_tail]
      [.mbx]) ∧
  (∀ a0 a1 a2 s t, exec (.mailboxDmaError a0 a1 a2) s = .next t →
    s.Frame t [.mbx_status_rdy, .mbx_status_err, .mbx_status_err_cause, .mbx_status_inflight]
      [.mbx, .flt]) ∧
  (∀ a0 a1 a2 s t, exec (.ringInterrupt a0 a1 a2) s = .next t →
    s.Frame t []
      [.rings, .out]) ∧
  (∀ a0 a1 a2 s t, exec (.trConsWrite a0 a1 a2) s = .next t →
    s.Frame t [.mbx_tr_cons_cons, .mbx_tr_status_ring_err]
      []) ∧
  (∀ a0 a1 a2 s t, exec (.telemetryFrameReceived a0 a1 a2) s = .next t →
    s.Frame t [.mbx_tr_status_tr_rej]
      [.rings, .host, .out]) ∧
  (∀ a0 a1 a2 s t, exec (.unlockExpiry a0 a1 a2) s = .next t →
    s.Frame t [.mbx_status_inflight, .mbx_expert_cpt, .mbx_expert_device, .mbx_expert_blocks]
      [.mbx]) ∧
  (∀ a0 a1 s t, exec (.identify a0 a1) s = .next t →
    s.Frame t [.mbx_status_inflight]
      [.mbx, .host, .fab, .out]) ∧
  (∀ a0 s t, exec (.getStatus a0) s = .next t →
    s.Frame t [.mbx_status_inflight]
      [.mbx, .host]) ∧
  (∀ a0 a1 a2 a3 s t, exec (.partitionSet a0 a1 a2 a3) s = .next t →
    s.Frame t [.mbx_status_inflight, .mbx_tags_tag_base, .mbx_tags_tag_count]
      [.mbx, .host]) ∧
  (∀ a0 a1 a2 a3 a4 a5 a6 a7 a8 a9 s t, exec (.telemetryCfgRing a0 a1 a2 a3 a4 a5 a6 a7 a8 a9) s = .next t →
    s.Frame t [.mbx_status_inflight, .mbx_tr_status_en]
      [.mbx, .rings, .host]) ∧
  (∀ a0 a1 a2 a3 a4 a5 a6 a7 s t, exec (.telemetryCfgSource a0 a1 a2 a3 a4 a5 a6 a7) s = .next t →
    s.Frame t [.mbx_status_inflight]
      [.mbx, .host]) ∧
  (∀ a0 a1 a2 s t, exec (.measureRead a0 a1 a2) s = .next t →
    s.Frame t [.mbx_status_inflight]
      [.mbx, .host, .fab, .out]) ∧
  (∀ a0 a1 a2 a3 s t, exec (.expertUnlock a0 a1 a2 a3) s = .next t →
    s.Frame t [.mbx_status_inflight, .mbx_expert_cpt, .mbx_expert_device, .mbx_expert_blocks]
      [.mbx, .host, .boot]) ∧
  (∀ a0 a1 a2 s t, exec (.expertLock a0 a1 a2) s = .next t →
    s.Frame t [.mbx_status_inflight, .mbx_expert_cpt, .mbx_expert_device, .mbx_expert_blocks]
      [.mbx, .host]) ∧
  (∀ s t, exec .perstNRelease s = .next t →
    s.Frame t []
      [.host]) ∧
  (∀ a0 a1 a2 s t, exec (.busMasterEnableChange a0 a1 a2) s = .next t →
    s.Frame t [.mbx_status_rdy, .mbx_status_inflight]
      [.mbx, .host, .out])

/-- Each of the monitor, precision-window and calibration commands (MONITOR_READ, PRECISION_MEASURE, CAL_STATUS,
SYSCAL_STEP_BEGIN, SYSCAL_STEP_ZERO, SYSCAL_STEP_POINT, SYSCAL_STEP_END, SYSCAL_STEP_ABORT, SYSCAL_TIMEOUT,
MONITOR_RANGE_CHANGE, COMPARATOR_CHANGE, PW_GO_WRITE, PRECISION_WINDOW_START, PRECISION_WINDOW_END,
BENCHMARK_TAKEOVER, BENCHMARK_RESULT, BENCHMARK_RETURN, CAL_ROT_CTRL_WRITE, CALIBRATION_STALE, STARTUP_PASS_END),
whatever its operands and whatever the state before it, when it answers a next state leaves every register field
outside its own list, with every index, every part of the state outside its own list, and the queue as they were.
MBX_STATUS.INFLIGHT, mbx and host stand in the list of a command because its completion is kept there. -/
def Obligations.ConverterFrames : Prop :=
  (∀ a0 a1 a2 a3 a4 s t, exec (.monitorRead a0 a1 a2 a3 a4) s = .next t →
    s.Frame t [.ust_mon_cfg_range_pend, .mbx_status_inflight]
      [.loop, .mbx, .host]) ∧
  (∀ a0 a1 a2 a3 a4 a5 a6 a7 a8 a9 s t, exec (.precisionMeasure a0 a1 a2 a3 a4 a5 a6 a7 a8 a9) s = .next t →
    s.Frame t [.ust_mon_cfg_range_pend, .ust_pw_cfg_len, .ust_pw_cfg_mode, .ust_pw_cfg_src, .ust_pw_cfg_pwq,
      .ust_pw_status_running, .ust_pw_status_queued, .ust_pw_status_ovr_cnt, .ust_pw_status_overrun,
      .chp_drop_cnt_dest, .chs_qstat_depth, .chs_qstat_qdrop, .mbx_status_inflight]
      [.loop, .mbx, .rings, .host, .ports, .fab, .sch, .free, .out]) ∧
  (∀ a0 a1 a2 a3 a4 s t, exec (.calStatus a0 a1 a2 a3 a4) s = .next t →
    s.Frame t [.mbx_status_inflight]
      [.mbx, .host, .fab, .out]) ∧
  (∀ a0 a1 s t, exec (.syscalStepBegin a0 a1) s = .next t →
    s.Frame t [.cal_syscal_status_step, .cal_syscal_status_active, .cal_grp_status_stopped, .cal_grp_status_waiting,
      .mbx_status_inflight]
      [.loop, .mbx, .host]) ∧
  (∀ a0 a1 a2 a3 s t, exec (.syscalStepZero a0 a1 a2 a3) s = .next t →
    s.Frame t [.cal_syscal_status_step, .mbx_status_inflight]
      [.loop, .mbx, .host]) ∧
  (∀ a0 a1 a2 a3 a4 a5 s t, exec (.syscalStepPoint a0 a1 a2 a3 a4 a5) s = .next t →
    s.Frame t [.cal_syscal_status_step, .mbx_status_inflight]
      [.loop, .mbx, .host, .free]) ∧
  (∀ a0 a1 s t, exec (.syscalStepEnd a0 a1) s = .next t →
    s.Frame t [.cal_syscal_status_step, .cal_syscal_status_active, .cal_syscal_status_fail_group,
      .cal_syscal_status_fail_range, .cal_syscal_status_fail_check, .cal_grp_status_stopped,
      .mbx_status_inflight, .hkp_flash_refused]
      [.loop, .mbx, .host, .flt]) ∧
  (∀ a0 a1 s t, exec (.syscalStepAbort a0 a1) s = .next t →
    s.Frame t [.cal_syscal_status_active, .cal_grp_status_stopped, .mbx_status_inflight]
      [.loop, .mbx, .host]) ∧
  (∀ a0 s t, exec (.syscalTimeout a0) s = .next t →
    s.Frame t [.cal_syscal_status_active, .cal_grp_status_stopped]
      [.loop]) ∧
  (∀ a0 s t, exec (.monitorRangeChange a0) s = .next t →
    s.Frame t [.ust_mon_cfg_range, .ust_mon_cfg_range_pend]
      [.loop]) ∧
  (∀ a0 a1 s t, exec (.comparatorChange a0 a1) s = .next t →
    s.Frame t [.ust_mon_cfg_cmp_low, .ust_mon_cfg_cmp_high]
      [.loop, .flt]) ∧
  (∀ a0 s t, exec (.pwGoWrite a0) s = .next t →
    s.Frame t [.ust_mon_cfg_range_pend, .ust_pw_status_running, .ust_pw_status_queued, .ust_pw_status_ovr_cnt,
      .ust_pw_status_overrun, .mbx_status_inflight]
      [.loop, .mbx, .host, .fab, .out]) ∧
  (∀ a0 s t, exec (.precisionWindowStart a0) s = .next t →
    s.Frame t [.ust_mon_cfg_range_pend, .ust_pw_status_reload, .mbx_status_inflight]
      [.loop, .mbx]) ∧
  (∀ a0 a1 s t, exec (.precisionWindowEnd a0 a1) s = .next t →
    s.Frame t [.ust_mon_cfg_range_pend, .ust_pw_status_running, .ust_pw_status_queued, .ust_pw_status_reload,
      .chp_drop_cnt_dest, .chs_qstat_depth, .chs_qstat_qdrop, .mbx_status_inflight]
      [.loop, .mbx, .rings, .host, .ports, .fab, .sch, .out]) ∧
  (∀ a0 s t, exec (.benchmarkTakeover a0) s = .next t →
    s.Frame t [.ust_mon_cfg_subst, .cal_grp_status_waiting]
      [.loop]) ∧
  (∀ a0 a1 s t, exec (.benchmarkResult a0 a1) s = .next t →
    s.Frame t [.ust_mon_cfg_subst, .ust_mon_cfg_failed, .cal_grp_status_failed_slice, .cal_grp_status_stale,
      .cal_grp_status_stopped, .cal_grp_status_waiting, .cal_grp_status_rej_cnt]
      [.loop, .flt]) ∧
  (∀ a0 s t, exec (.benchmarkReturn a0) s = .next t →
    s.Frame t [.ust_mon_cfg_subst, .cal_grp_status_pos, .cal_grp_status_stopped, .cal_grp_status_waiting,
      .cal_grp_status_rot_cnt]
      [.loop]) ∧
  (∀ a0 s t, exec (.calRotCtrlWrite a0) s = .next t →
    s.Frame t [.cal_rot_ctrl_en, .cal_grp_status_stopped, .cal_grp_status_waiting]
      [.loop, .flt]) ∧
  (∀ a0 s t, exec (.calibrationStale a0) s = .next t →
    s.Frame t [.cal_grp_status_stale]
      []) ∧
  (∀ a0 a1 a2 s t, exec (.startupPassEnd a0 a1 a2) s = .next t →
    s.Frame t [.ust_mon_cfg_subst, .ust_mon_cfg_failed, .cal_grp_status_pos, .cal_grp_status_failed_slice,
      .cal_grp_status_stale, .cal_grp_status_stopped, .cal_grp_status_waiting, .glb_cpt_svc_rejoining,
      .mbx_status_inflight]
      [.loop, .stand, .mbx, .flt])

/-- Each of the element and loop configuration commands and of the events of the element loops, the outer loops and
the calibration sweeps (ELEMENT_SET_OVERRIDE, ELEMENT_SET_SETPOINT, ELEMENT_SET_RANGE, ELEMENT_RELEASE_ELEMENT,
ELEMENT_RELEASE_TRIP, ELEMENT_RELEASE_RETURN, LOOP_CONFIG_COMPARTMENT, LOOP_CONFIG_COEFFICIENT, LOOP_CONFIG_ELEMENT,
LOOP_CONFIG_CLEAR_CODE, LOOP_CONFIG_PROFILE, LOOP_CONFIG_PILOT, LOOP_CONFIG_DEGLITCH, LOOP_CONFIG_HPWM,
LOOP_CONFIG_TRIP, LOOP_CONFIG_POWER_CAP, OUTER_CONFIG_EQUALISATION, OUTER_CONFIG_TEMPERATURE, ELEMENT_STATUS, CAL_RUN,
LOOP_PERIOD_BOUNDARY, COEF_COMMIT_WRITE, COEFFICIENT_SWAP, PERIOD_WINDOW_CHANGE, SETTLE_ENTRY, JUMP_EXIT, HOLD_ENTRY,
SCHEDULED_TRANSITION, LOOP_START, SUSPECT_ENTRY, RETURN_TO_SERVICE, CATCH_UP_JUMP, CALIBRATION_RECORD_APPLY,
OUTER_INTERVAL_END, SWEEP_START, SWEEP_POINT, SWEEP_DEADLINE), whatever its operands and whatever the state before it,
when it answers a next state leaves every register field outside its own list, with every index, every part of the
state outside its own list, and the queue as they were. MBX_STATUS.INFLIGHT, mbx and host stand in the list of a
command because its completion is kept there. -/
def Obligations.LoopFrames : Prop :=
  (∀ a0 a1 a2 s t, exec (.elementSetOverride a0 a1 a2) s = .next t →
    s.Frame t [.mbx_status_inflight]
      [.loop, .mbx, .host]) ∧
  (∀ a0 a1 a2 a3 s t, exec (.elementSetSetpoint a0 a1 a2 a3) s = .next t →
    s.Frame t [.mbx_status_inflight]
      [.loop, .mbx, .host]) ∧
  (∀ a0 a1 a2 s t, exec (.elementSetRange a0 a1 a2) s = .next t →
    s.Frame t [.ust_vdac_cfg_range, .mbx_status_inflight]
      [.loop, .mbx, .host]) ∧
  (∀ a0 a1 s t, exec (.elementReleaseElement a0 a1) s = .next t →
    s.Frame t [.ust_vdac_status_code, .ust_vdac_status_clamp, .ust_vdac_status_oc, .ust_vdac_ctrl_cleared,
      .ust_vdac_ctrl_gtrip, .ust_vdac_ctrl_gtrip_grp, .ust_vdac_ctrl_gtrip_cnt, .ust_hpwm_status_hiz,
      .ust_hpwm_status_oc, .ust_hpwm_status_leak, .ust_hpwm_status_capped, .mbx_status_inflight]
      [.loop, .mbx, .host]) ∧
  (∀ a0 a1 s t, exec (.elementReleaseTrip a0 a1) s = .next t →
    s.Frame t [.ust_htrip_trip, .ust_htrip_cause, .ust_htrip_input, .ust_htrip_refused, .mbx_status_inflight]
      [.loop, .mbx, .host]) ∧
  (∀ a0 a1 s t, exec (.elementReleaseReturn a0 a1) s = .next t →
    s.Frame t [.mbx_status_inflight]
      [.loop, .mbx, .host]) ∧
  (∀ a0 a1 a2 a3 s t, exec (.loopConfigCompartment a0 a1 a2 a3) s = .next t →
    s.Frame t [.stx_cpt_cfg_pend, .mbx_status_inflight]
      [.loop, .mbx, .host]) ∧
  (∀ a0 a1 a2 a3 a4 a5 a6 a7 s t, exec (.loopConfigCoefficient a0 a1 a2 a3 a4 a5 a6 a7) s = .next t →
    s.Frame t [.stx_coef_ctrl_commit, .stx_coef_kp, .stx_coef_ki, .stx_coef_ilim, .stx_coef_eps_max, .mbx_status_inflight]
      [.loop, .mbx, .host]) ∧
  (∀ a0 a1 a2 a3 s t, exec (.loopConfigElement a0 a1 a2 a3) s = .next t →
    s.Frame t [.mbx_status_inflight]
      [.loop, .mbx, .host]) ∧
  (∀ a0 a1 a2 a3 s t, exec (.loopConfigClearCode a0 a1 a2 a3) s = .next t →
    s.Frame t [.ust_vdac_status_code, .ust_vdac_status_clamp, .ust_vclr_code, .mbx_status_inflight]
      [.loop, .mbx, .host]) ∧
  (∀ a0 a1 a2 a3 a4 a5 a6 a7 a8 a9 a10 a11 s t, exec (.loopConfigProfile a0 a1 a2 a3 a4 a5 a6 a7 a8 a9 a10 a11) s = .next t →
    s.Frame t [.ust_profile_count, .ust_profile_flags, .ust_profile_t2, .ust_profile_t3, .ust_profile_t4,
      .ust_profile_a1, .ust_profile_a2, .ust_profile_a3, .mbx_status_inflight, .hkp_flash_refused]
      [.loop, .mbx, .host, .boot]) ∧
  (∀ a0 a1 a2 a3 s t, exec (.loopConfigPilot a0 a1 a2 a3) s = .next t →
    s.Frame t [.ust_vdac_cfg_pamp, .ust_hpwm_mode_pamp, .mbx_status_inflight]
      [.mbx, .host]) ∧
  (∀ a0 a1 a2 s t, exec (.loopConfigDeglitch a0 a1 a2) s = .next t →
    s.Frame t [.ust_vdac_ctrl_dgl_thr, .mbx_status_inflight]
      [.mbx, .host]) ∧
  (∀ a0 a1 a2 a3 a4 a5 a6 a7 s t, exec (.loopConfigHpwm a0 a1 a2 a3 a4 a5 a6 a7) s = .next t →
    s.Frame t [.ust_hpwm_cfg_per, .ust_hpwm_cfg_dead, .ust_hpwm_cfg_minp, .ust_hpwm_mode_stag, .ust_hpwm_mode_mpf,
      .mbx_status_inflight]
      [.mbx, .host]) ∧
  (∀ a0 a1 s t, exec (.loopConfigTrip a0 a1) s = .next t →
    s.Frame t [.ust_hpwm_status_hiz, .ust_hpwm_status_capped, .ust_htrip_trip, .ust_htrip_cause, .cal_ecal_ctrl_active,
      .cal_ecal_ctrl_rej_cnt, .chp_drop_cnt_dest, .chs_qstat_depth, .chs_qstat_qdrop, .mbx_status_inflight]
      [.loop, .mbx, .rings, .host, .flt, .ports, .fab, .sch, .out]) ∧
  (∀ a0 a1 s t, exec (.loopConfigPowerCap a0 a1) s = .next t →
    s.Frame t [.glb_hcap_cap_prog, .mbx_status_inflight]
      [.mbx, .host]) ∧
  (∀ a0 a1 a2 a3 a4 a5 a6 a7 a8 a9 s t, exec (.outerConfigEqualisation a0 a1 a2 a3 a4 a5 a6 a7 a8 a9) s = .next t →
    s.Frame t [.stx_out_cfg_en, .stx_out_cfg_side, .stx_out_cfg_div, .stx_out_cfg_ko, .stx_out_tgt_target,
      .stx_out_tgt_sp_max, .stx_out_ref_i_ref, .mbx_status_inflight]
      [.loop, .mbx, .host]) ∧
  (∀ a0 a1 a2 a3 a4 a5 a6 a7 s t, exec (.outerConfigTemperature a0 a1 a2 a3 a4 a5 a6 a7) s = .next t →
    s.Frame t [.stx_tff_cfg_en, .stx_tff_cfg_sensor, .stx_tff_cfg_te_slew, .mbx_status_inflight, .hkp_flash_refused]
      [.loop, .mbx, .host]) ∧
  (∀ a0 a1 a2 a3 s t, exec (.elementStatus a0 a1 a2 a3) s = .next t →
    s.Frame t [.mbx_status_inflight]
      [.mbx, .host, .fab, .out]) ∧
  (∀ a0 a1 a2 a3 a4 a5 s t, exec (.calRun a0 a1 a2 a3 a4 a5) s = .next t →
    s.Frame t [.cal_ecal_sched_interval, .cal_ecal_sched_overdue, .mbx_status_inflight]
      [.loop, .mbx, .host]) ∧
  (∀ a0 a1 a2 a3 a4 s t, exec (.loopPeriodBoundary a0 a1 a2 a3 a4) s = .next t →
    s.Frame t [.ust_vdac_cfg_range, .ust_vdac_status_code, .ust_vdac_status_rchg, .ust_vdac_status_clamp,
      .glb_hcap_status_cap_act, .glb_hcap_status_limit, .glb_hcap_load_p_cmd, .glb_hcap_load_scale,
      .stx_cpt_cnt_cnt_lo, .stx_cpt_cnt_cnt_hi, .stx_cpt_status_ovr_cnt, .stx_cpt_status_ovr, .stx_coef_kp,
      .stx_coef_ki, .stx_coef_ilim, .stx_coef_eps_max, .stx_coef_act_kp, .stx_coef_act_ki, .stx_coef_act_ilim,
      .stx_coef_act_eps_max, .cal_ecal_ctrl_active, .cal_ecal_ctrl_rej_cnt, .trv_qstatus_qdepth,
      .trv_qstatus_solving, .trv_qstatus_swait, .trv_qstatus_next_seq, .trv_last_clr_id, .trv_last_res_moved,
      .trv_last_res_state, .glb_baton_status_holder, .glb_baton_status_frozen, .glb_baton_status_ilk_a,
      .glb_baton_status_ilk_b, .glb_baton_status_last_cause, .glb_baton_status_handovers,
      .glb_baton_status_stale_drop, .glb_baton_status_new, .stx_stand_status_state, .stx_stand_status_mismatch,
      .stx_stand_status_diag, .stx_sync_sync_cnt, .chp_drop_cnt_dest, .chs_qstat_depth, .chs_qstat_qdrop,
      .mbx_status_inflight]
      [.loop, .trv, .stand, .mbx, .rings, .host, .flt, .ports, .fab, .sch, .out]) ∧
  (∀ a0 s t, exec (.coefCommitWrite a0) s = .next t →
    s.Frame t [.stx_coef_ctrl_commit, .stx_coef_ctrl_reject]
      [.loop]) ∧
  (∀ a0 s t, exec (.coefficientSwap a0) s = .next t →
    s.Frame t [.stx_coef_ctrl_commit, .stx_coef_ctrl_bank, .stx_coef_ctrl_swap_cnt, .stx_coef_kp, .stx_coef_ki,
      .stx_coef_ilim, .stx_coef_eps_max, .stx_coef_act_kp, .stx_coef_act_ki, .stx_coef_act_ilim,
      .stx_coef_act_eps_max, .mbx_status_inflight]
      [.loop, .mbx]) ∧
  (∀ a0 s t, exec (.periodWindowChange a0) s = .next t →
    s.Frame t [.ust_hpwm_mode_src, .stx_cpt_cfg_psel, .stx_cpt_cfg_wsel, .stx_cpt_cfg_pend, .mbx_status_inflight]
      [.loop, .mbx]) ∧
  (∀ a0 s t, exec (.settleEntry a0) s = .next t →
    s.Frame t [.ust_hpwm_mode_src, .chp_drop_cnt_dest, .chs_qstat_depth, .chs_qstat_qdrop, .mbx_status_inflight]
      [.loop, .trv, .mbx, .host, .ports, .fab, .sch, .out]) ∧
  (∀ a0 s t, exec (.jumpExit a0) s = .next t →
    s.Frame t [.ust_vdac_status_code, .ust_vdac_status_clamp, .ust_hpwm_mode_src, .ust_hpwm_status_hiz,
      .ust_hpwm_status_capped, .mbx_status_inflight]
      [.loop, .mbx]) ∧
  (∀ a0 s t, exec (.holdEntry a0) s = .next t →
    s.Frame t [.ust_hpwm_mode_src]
      [.loop]) ∧
  (∀ a0 s t, exec (.scheduledTransition a0) s = .next t →
    s.Frame t [.ust_vdac_status_clamp, .ust_vdac_status_play, .ust_vdac_status_prof, .ust_hpwm_mode_src,
      .ust_hpwm_status_hiz, .ust_hpwm_status_capped, .glb_hcap_status_cap_act, .glb_hcap_status_limit,
      .glb_hcap_load_p_cmd, .glb_hcap_load_scale, .chp_drop_cnt_dest, .chs_qstat_depth, .chs_qstat_qdrop,
      .mbx_status_inflight]
      [.loop, .mbx, .rings, .host, .ports, .fab, .sch, .out]) ∧
  (∀ a0 s t, exec (.loopStart a0) s = .next t →
    s.Frame t [.ust_vdac_status_clamp, .ust_vdac_status_play, .ust_vdac_status_prof, .ust_vdac_ctrl_cleared,
      .ust_hpwm_mode_src, .ust_hpwm_status_hiz, .ust_hpwm_status_capped, .chp_drop_cnt_dest, .chs_qstat_depth,
      .chs_qstat_qdrop, .mbx_status_inflight]
      [.loop, .mbx, .rings, .host, .ports, .fab, .sch, .out]) ∧
  (∀ a0 s t, exec (.suspectEntry a0) s = .next t →
    s.Frame t [.ust_hpwm_mode_src, .stx_sup_status_sus_cnt, .stx_sup_status_last_elem, .stx_sup_status_new,
      .chp_drop_cnt_dest, .chs_qstat_depth, .chs_qstat_qdrop, .mbx_status_inflight]
      [.loop, .trv, .mbx, .rings, .host, .flt, .ports, .fab, .sch, .out]) ∧
  (∀ a0 s t, exec (.returnToService a0) s = .next t →
    s.Frame t [.ust_vdac_status_clamp, .ust_vdac_status_play, .ust_vdac_status_prof, .ust_hpwm_mode_src,
      .ust_hpwm_status_hiz, .ust_hpwm_status_capped, .glb_hcap_status_cap_act, .glb_hcap_status_limit,
      .glb_hcap_load_p_cmd, .glb_hcap_load_scale, .chp_drop_cnt_dest, .chs_qstat_depth, .chs_qstat_qdrop,
      .mbx_status_inflight]
      [.loop, .mbx, .rings, .host, .ports, .fab, .sch, .out]) ∧
  (∀ a0 s t, exec (.catchUpJump a0) s = .next t →
    s.Frame t [.ust_vdac_status_clamp, .ust_vdac_status_play, .ust_vdac_status_prof, .ust_hpwm_mode_src,
      .ust_hpwm_status_hiz, .ust_hpwm_status_capped]
      [.loop]) ∧
  (∀ a0 s t, exec (.calibrationRecordApply a0) s = .next t →
    s.Frame t [.ust_vdac_ctrl_cleared]
      [.loop]) ∧
  (∀ a0 s t, exec (.outerIntervalEnd a0) s = .next t →
    s.Frame t [.stx_out_status_level, .stx_out_status_held, .stx_out_status_dark, .stx_out_status_sat,
      .chp_drop_cnt_dest, .chs_qstat_depth, .chs_qstat_qdrop]
      [.loop, .rings, .host, .ports, .fab, .sch, .out]) ∧
  (∀ a0 s t, exec (.sweepStart a0) s = .next t →
    s.Frame t [.cal_ecal_ctrl_active]
      [.loop]) ∧
  (∀ a0 s t, exec (.sweepPoint a0) s = .next t →
    s.Frame t [.cal_ecal_ctrl_active, .cal_ecal_ctrl_rej_cnt, .chp_drop_cnt_dest, .chs_qstat_depth, .chs_qstat_qdrop,
      .mbx_status_inflight, .hkp_flash_refused]
      [.loop, .mbx, .rings, .host, .flt, .ports, .fab, .sch, .out]) ∧
  (∀ a0 s t, exec (.sweepDeadline a0) s = .next t →
    s.Frame t [.cal_ecal_ctrl_rej_cnt, .chp_drop_cnt_dest, .chs_qstat_depth, .chs_qstat_qdrop, .mbx_status_inflight]
      [.loop, .mbx, .rings, .host, .flt, .ports, .fab, .sch, .out])

/-- Each of the V-mode and H-mode channel events and register writes (VMODE_OVERCURRENT, OC_CLEAR_WRITE,
GROUP_LIMITER_TRIP, GTRIP_CLEAR_WRITE, DEGLITCH_RELEASE, VDAC_RANGE_WRITE, RANGE_CHANGE_START, RANGE_SWITCH,
RANGE_RAMP_UP, RANGE_CHANGE_END, UST_VCLR_WRITE, PROFILE_IMPULSE, TRAJECTORY_END, UST_PROFILE_WRITE,
PILOT_AMPLITUDE_CHANGE, CLR_N_ASSERT, CLR_N_RELEASE, CLR_N_RETURN, HMODE_PERIOD_BOUNDARY, HMODE_OVERCURRENT,
HMODE_FAST_TRIP, HMODE_LEAKAGE, HMODE_OC_LEAK_CLEAR_WRITE, TRIP_SOURCE_ASSERT, TRIP_CLEAR_WRITE, SWTRIP_WRITE,
HMODE_RESUME, HPWM_SRC_WRITE, PCOMMIT_WRITE, SHADOW_TRANSFER), whatever its operands and whatever the state before it,
when it answers a next state leaves every register field outside its own list, with every index, every part of the
state outside its own list, and the queue as they were. MBX_STATUS.INFLIGHT, mbx and host stand in the list of a
command because its completion is kept there. -/
def Obligations.ChannelFrames : Prop :=
  (∀ a0 s t, exec (.vmodeOvercurrent a0) s = .next t →
    s.Frame t [.ust_vdac_status_oc, .ust_hpwm_mode_src, .cal_ecal_ctrl_active, .chp_drop_cnt_dest, .chs_qstat_depth,
      .chs_qstat_qdrop, .mbx_status_inflight]
      [.loop, .trv, .mbx, .rings, .host, .flt, .ports, .fab, .sch, .out]) ∧
  (∀ a0 s t, exec (.ocClearWrite a0) s = .next t →
    s.Frame t [.ust_vdac_status_code, .ust_vdac_status_clamp, .ust_vdac_status_oc, .ust_vdac_ctrl_cleared]
      [.loop]) ∧
  (∀ a0 a1 s t, exec (.groupLimiterTrip a0 a1) s = .next t →
    s.Frame t [.ust_vdac_ctrl_gtrip, .ust_vdac_ctrl_gtrip_grp, .ust_vdac_ctrl_gtrip_cnt]
      [.loop, .flt]) ∧
  (∀ a0 s t, exec (.gtripClearWrite a0) s = .next t →
    s.Frame t [.ust_vdac_status_code, .ust_vdac_status_clamp, .ust_vdac_ctrl_cleared, .ust_vdac_ctrl_gtrip,
      .ust_vdac_ctrl_gtrip_grp, .ust_vdac_ctrl_gtrip_cnt]
      [.loop]) ∧
  (∀ a0 s t, exec (.deglitchRelease a0) s = .next t →
    s.Frame t []
      [.loop]) ∧
  (∀ a0 a1 s t, exec (.vdacRangeWrite a0 a1) s = .next t →
    s.Frame t [.ust_vdac_cfg_range]
      [.loop, .flt]) ∧
  (∀ a0 s t, exec (.rangeChangeStart a0) s = .next t →
    s.Frame t [.ust_vdac_cfg_range, .ust_vdac_status_code, .ust_vdac_status_range_act, .ust_vdac_status_rchg,
      .ust_vdac_status_clamp, .mbx_status_inflight]
      [.loop, .mbx]) ∧
  (∀ a0 s t, exec (.rangeSwitch a0) s = .next t →
    s.Frame t [.ust_vdac_cfg_range, .ust_vdac_status_code, .ust_vdac_status_range_act]
      [.loop]) ∧
  (∀ a0 s t, exec (.rangeRampUp a0) s = .next t →
    s.Frame t []
      [.loop]) ∧
  (∀ a0 s t, exec (.rangeChangeEnd a0) s = .next t →
    s.Frame t [.ust_vdac_status_code, .ust_vdac_status_rchg, .ust_vdac_status_clamp, .mbx_status_inflight]
      [.loop, .mbx]) ∧
  (∀ a0 a1 s t, exec (.ustVclrWrite a0 a1) s = .next t →
    s.Frame t [.ust_vdac_status_code, .ust_vdac_status_clamp, .ust_vclr_code]
      [.loop]) ∧
  (∀ a0 a1 s t, exec (.profileImpulse a0 a1) s = .next t →
    s.Frame t [.ust_vdac_status_code, .ust_vdac_status_clamp, .glb_hcap_status_cap_act, .glb_hcap_status_limit,
      .glb_hcap_load_p_cmd, .glb_hcap_load_scale]
      [.loop]) ∧
  (∀ a0 a1 s t, exec (.trajectoryEnd a0 a1) s = .next t →
    s.Frame t [.ust_vdac_status_play]
      [.loop]) ∧
  (∀ a0 a1 a2 a3 a4 a5 a6 a7 a8 a9 s t, exec (.ustProfileWrite a0 a1 a2 a3 a4 a5 a6 a7 a8 a9) s = .next t →
    s.Frame t [.ust_profile_count, .ust_profile_flags, .ust_profile_t2, .ust_profile_t3, .ust_profile_t4,
      .ust_profile_a1, .ust_profile_a2, .ust_profile_a3]
      [.flt]) ∧
  (∀ a0 s t, exec (.pilotAmplitudeChange a0) s = .next t →
    s.Frame t []
      [.loop]) ∧
  (∀ a0 a1 s t, exec (.clrNAssert a0 a1) s = .next t →
    s.Frame t [.ust_vdac_cfg_range, .ust_vdac_status_code, .ust_vdac_status_rchg, .ust_vdac_status_clamp,
      .ust_vdac_status_play, .ust_vdac_ctrl_cleared, .ust_vdac_ctrl_clrn, .ust_hpwm_status_hiz,
      .ust_hpwm_status_capped, .cal_ecal_ctrl_active, .cal_ecal_ctrl_rej_cnt, .chp_drop_cnt_dest,
      .chs_qstat_depth, .chs_qstat_qdrop, .mbx_status_inflight]
      [.loop, .mbx, .rings, .host, .flt, .ports, .fab, .sch, .out]) ∧
  (∀ s t, exec .clrNRelease s = .next t →
    s.Frame t [.ust_vdac_ctrl_clrn]
      [.loop, .flt]) ∧
  (∀ a0 s t, exec (.clrNReturn a0) s = .next t →
    s.Frame t [.ust_vdac_status_clamp, .ust_vdac_status_play, .ust_vdac_status_prof, .ust_vdac_ctrl_cleared,
      .ust_hpwm_mode_src, .ust_hpwm_status_hiz, .ust_hpwm_status_capped, .chp_drop_cnt_dest, .chs_qstat_depth,
      .chs_qstat_qdrop, .mbx_status_inflight]
      [.loop, .mbx, .rings, .host, .ports, .fab, .sch, .out]) ∧
  (∀ a0 a1 a2 s t, exec (.hmodePeriodBoundary a0 a1 a2) s = .next t →
    s.Frame t [.ust_hpwm_status_per_act, .ust_hpwm_status_capped, .ust_hpwm_status_padj, .ust_hpwm_status_clamped,
      .ust_hpwm_status_pilot_blk, .ust_hpwm_status_ion, .ust_hpwm_act_a_act, .ust_hpwm_act_b_act]
      [.loop]) ∧
  (∀ a0 s t, exec (.hmodeOvercurrent a0) s = .next t →
    s.Frame t [.ust_hpwm_mode_src, .ust_hpwm_status_hiz, .ust_hpwm_status_oc, .ust_hpwm_status_capped,
      .cal_ecal_ctrl_active, .chp_drop_cnt_dest, .chs_qstat_depth, .chs_qstat_qdrop, .mbx_status_inflight]
      [.loop, .trv, .mbx, .rings, .host, .flt, .ports, .fab, .sch, .out]) ∧
  (∀ a0 s t, exec (.hmodeFastTrip a0) s = .next t →
    s.Frame t [.ust_hpwm_mode_src, .ust_hpwm_status_hiz, .ust_hpwm_status_oc, .ust_hpwm_status_capped,
      .cal_ecal_ctrl_active, .chp_drop_cnt_dest, .chs_qstat_depth, .chs_qstat_qdrop, .mbx_status_inflight]
      [.loop, .trv, .mbx, .rings, .host, .flt, .ports, .fab, .sch, .out]) ∧
  (∀ a0 s t, exec (.hmodeLeakage a0) s = .next t →
    s.Frame t [.ust_hpwm_mode_src, .ust_hpwm_status_hiz, .ust_hpwm_status_leak, .ust_hpwm_status_capped,
      .cal_ecal_ctrl_active, .chp_drop_cnt_dest, .chs_qstat_depth, .chs_qstat_qdrop, .mbx_status_inflight]
      [.loop, .trv, .mbx, .rings, .host, .flt, .ports, .fab, .sch, .out]) ∧
  (∀ a0 a1 a2 s t, exec (.hmodeOcLeakClearWrite a0 a1 a2) s = .next t →
    s.Frame t [.ust_hpwm_status_hiz, .ust_hpwm_status_oc, .ust_hpwm_status_leak, .ust_hpwm_status_capped]
      [.loop]) ∧
  (∀ a0 s t, exec (.tripSourceAssert a0) s = .next t →
    s.Frame t [.ust_hpwm_status_hiz, .ust_hpwm_status_capped, .ust_htrip_trip, .ust_htrip_cause, .ust_htrip_input,
      .cal_ecal_ctrl_active, .cal_ecal_ctrl_rej_cnt, .chp_drop_cnt_dest, .chs_qstat_depth, .chs_qstat_qdrop,
      .mbx_status_inflight]
      [.loop, .mbx, .rings, .host, .flt, .ports, .fab, .sch, .out]) ∧
  (∀ a0 s t, exec (.tripClearWrite a0) s = .next t →
    s.Frame t [.ust_htrip_trip, .ust_htrip_cause, .ust_htrip_input, .ust_htrip_refused]
      [.loop]) ∧
  (∀ a0 s t, exec (.swtripWrite a0) s = .next t →
    s.Frame t [.ust_hpwm_status_hiz, .ust_hpwm_status_capped, .ust_htrip_trip, .ust_htrip_cause, .cal_ecal_ctrl_active,
      .cal_ecal_ctrl_rej_cnt, .chp_drop_cnt_dest, .chs_qstat_depth, .chs_qstat_qdrop, .mbx_status_inflight]
      [.loop, .mbx, .rings, .host, .flt, .ports, .fab, .sch, .out]) ∧
  (∀ a0 s t, exec (.hmodeResume a0) s = .next t →
    s.Frame t [.ust_vdac_status_code, .ust_vdac_status_clamp, .ust_hpwm_mode_src, .ust_hpwm_status_hiz,
      .ust_hpwm_status_capped, .glb_hcap_status_cap_act, .glb_hcap_status_limit, .glb_hcap_load_p_cmd,
      .glb_hcap_load_scale, .chp_drop_cnt_dest, .chs_qstat_depth, .chs_qstat_qdrop, .mbx_status_inflight]
      [.loop, .trv, .mbx, .host, .ports, .fab, .sch, .out]) ∧
  (∀ a0 a1 s t, exec (.hpwmSrcWrite a0 a1) s = .next t →
    s.Frame t [.ust_hpwm_mode_src, .ust_hpwm_shper_per_sh, .ust_hpwm_shcmp_a_sh, .ust_hpwm_shcmp_b_sh]
      [.loop, .flt]) ∧
  (∀ a0 s t, exec (.pcommitWrite a0) s = .next t →
    s.Frame t [.ust_hpwm_mode_pcommit]
      []) ∧
  (∀ a0 a1 s t, exec (.shadowTransfer a0 a1) s = .next t →
    s.Frame t [.ust_hpwm_mode_pcommit, .ust_hpwm_status_per_act]
      [.loop])

/-- Each of the state-library, solver, Clearing, Stand, interlock and compartment-service commands (CRST_COMPLETE,
CLKREF_LOSS, STATE_WRITE, STATE_READ, ROUTE_SOLVE, STATE_COMMIT, STATE_ABORT, CLEARING_QUERY, STAND_HANDOVER_HANDOVER,
STAND_HANDOVER_RETURN, STAND_HANDOVER_RELEASE, COMPARTMENT_SERVICE_FENCE, COMPARTMENT_SERVICE_RESET,
COMPARTMENT_SERVICE_REJOIN, SOLVE_START, SOLVE_COMPLETE, CLEARING_QUEUE, POINT_OF_NO_RETURN, CLEARING_EXECUTION,
CLEARING_REQUEST, CLEARING_ACCEPT, CLEARING_REJECT, CLEARING_ABORT, CLEARING_REPORT, ABORT_DEADLINE, REPORT_TIMEOUT,
STAND_ECC_ERROR, WRITE_PATH_PARITY, HEARTBEAT_MISSING, STAND_CLOCK_FAULT, INTERLOCK_CONFIRM, INTERLOCK_TIMEOUT,
ILK_FORCE, STAND_COPY_COMPLETE, TAKEOVER_RESUME, STAND_ELIGIBLE, COMMANDED_HANDOVER, COMPARTMENT_FENCE, REJOIN),
whatever its operands and whatever the state before it, when it answers a next state leaves every register field
outside its own list, with every index, every part of the state outside its own list, and the queue as they were.
MBX_STATUS.INFLIGHT, mbx and host stand in the list of a command because its completion is kept there. -/
def Obligations.TraverseAndStandFrames : Prop :=
  (∀ a0 s t, exec (.crstComplete a0) s = .next t →
    s.Frame t [.glb_cpt_svc_in_crst, .mbx_status_inflight]
      [.stand, .mbx]) ∧
  (∀ s t, exec .clkrefLoss s = .next t →
    s.Frame t [.ust_vdac_cfg_range, .ust_vdac_status_rchg, .cal_ecal_ctrl_active, .cal_ecal_ctrl_rej_cnt,
      .trv_qstatus_qdepth, .trv_qstatus_solving, .trv_qstatus_swait, .trv_qstatus_next_seq, .trv_last_clr_id,
      .trv_last_res_moved, .trv_last_res_state, .glb_baton_status_holder, .glb_baton_status_frozen,
      .glb_baton_status_ilk_a, .glb_baton_status_ilk_b, .glb_baton_status_last_cause,
      .glb_baton_status_handovers, .glb_baton_status_new, .stx_stand_status_state, .stx_stand_status_diag,
      .stx_sync_sync_cnt, .dtm_status_p_state, .dtm_status_s_state, .dtm_rate_rho, .dtm_event_event,
      .dtm_port_cfg_role0, .dtm_port_cfg_role1, .chp_status_link_up, .chp_status_hello_ok, .chp_status_role,
      .chp_status_link_dn_cnt, .chp_range_lo, .chp_range_hi, .chp_drop_cnt_dest, .chp_event_event,
      .chp_fab_state, .chp_ring_cut_a, .chp_ring_cut_b, .chp_ring_status_cut_down, .chp_ring_status_wrap_cnt,
      .chs_abort_abort, .chs_qstat_depth, .chs_qstat_qdrop, .mbx_status_inflight, .flt_status_errn,
      .flt_err_latch]
      [.loop, .trv, .stand, .mbx, .rings, .host, .flt, .boot, .datum, .ports, .fab, .sch, .out]) ∧
  (∀ a0 a1 a2 a3 a4 a5 a6 a7 a8 s t, exec (.stateWrite a0 a1 a2 a3 a4 a5 a6 a7 a8) s = .next t →
    s.Frame t [.trv_boot_slot, .trv_boot_en, .mbx_status_inflight, .hkp_flash_refused]
      [.trv, .mbx, .host, .boot]) ∧
  (∀ a0 a1 a2 a3 a4 s t, exec (.stateRead a0 a1 a2 a3 a4) s = .next t →
    s.Frame t [.mbx_status_inflight]
      [.mbx, .host, .fab, .out]) ∧
  (∀ a0 a1 a2 a3 a4 a5 a6 a7 a8 s t, exec (.routeSolve a0 a1 a2 a3 a4 a5 a6 a7 a8) s = .next t →
    s.Frame t [.trv_qstatus_qdepth, .trv_qstatus_solving, .trv_qstatus_swait, .trv_qstatus_next_seq, .mbx_status_inflight]
      [.trv, .mbx, .host]) ∧
  (∀ a0 a1 a2 a3 a4 a5 a6 a7 a8 a9 a10 a11 a12 a13 s t, exec (.stateCommit a0 a1 a2 a3 a4 a5 a6 a7 a8 a9 a10 a11 a12 a13) s = .next t →
    s.Frame t [.trv_qstatus_qdepth, .trv_qstatus_solving, .trv_qstatus_swait, .trv_qstatus_next_seq,
      .trv_solve_cnt_hits, .chp_drop_cnt_dest, .chs_qstat_depth, .chs_qstat_qdrop, .mbx_status_inflight]
      [.trv, .mbx, .host, .ports, .fab, .sch, .out]) ∧
  (∀ a0 a1 s t, exec (.stateAbort a0 a1) s = .next t →
    s.Frame t [.trv_qstatus_qdepth, .trv_qstatus_solving, .trv_qstatus_swait, .trv_qstatus_next_seq, .trv_last_clr_id,
      .trv_last_res_moved, .trv_last_res_state, .trv_fail_cancelled, .trv_fail_new, .chp_drop_cnt_dest,
      .chs_qstat_depth, .chs_qstat_qdrop, .mbx_status_inflight]
      [.trv, .mbx, .host, .ports, .fab, .sch, .free, .out]) ∧
  (∀ a0 a1 a2 s t, exec (.clearingQuery a0 a1 a2) s = .next t →
    s.Frame t [.mbx_status_inflight]
      [.mbx, .host, .fab, .out]) ∧
  (∀ a0 s t, exec (.standHandoverHandover a0) s = .next t →
    s.Frame t [.mbx_status_inflight]
      [.stand, .mbx, .host]) ∧
  (∀ a0 s t, exec (.standHandoverReturn a0) s = .next t →
    s.Frame t [.stx_stand_status_state, .stx_sync_sync_cnt, .mbx_status_inflight]
      [.stand, .mbx, .host]) ∧
  (∀ a0 s t, exec (.standHandoverRelease a0) s = .next t →
    s.Frame t [.stx_stand_status_state, .stx_sync_sync_cnt, .mbx_status_inflight]
      [.stand, .mbx, .host]) ∧
  (∀ a0 a1 s t, exec (.compartmentServiceFence a0 a1) s = .next t →
    s.Frame t [.mbx_status_inflight]
      [.stand, .mbx, .host]) ∧
  (∀ a0 a1 s t, exec (.compartmentServiceReset a0 a1) s = .next t →
    s.Frame t [.mbx_status_inflight]
      [.stand, .mbx, .host]) ∧
  (∀ a0 a1 s t, exec (.compartmentServiceRejoin a0 a1) s = .next t →
    s.Frame t [.glb_cpt_svc_rejoining, .mbx_status_inflight]
      [.loop, .stand, .mbx, .host]) ∧
  (∀ s t, exec .solveStart s = .next t →
    s.Frame t [.trv_qstatus_qdepth, .trv_qstatus_solving, .trv_qstatus_swait, .trv_qstatus_next_seq]
      [.trv]) ∧
  (∀ s t, exec .solveComplete s = .next t →
    s.Frame t [.trv_qstatus_qdepth, .trv_qstatus_solving, .trv_qstatus_swait, .trv_qstatus_next_seq,
      .trv_solve_cnt_solves, .trv_fail_blocked, .trv_fail_new, .mbx_status_inflight]
      [.trv, .mbx, .host, .fab, .out]) ∧
  (∀ s t, exec .clearingQueue s = .next t →
    s.Frame t [.cal_ecal_ctrl_active, .cal_ecal_ctrl_rej_cnt, .trv_qstatus_qdepth, .trv_qstatus_solving,
      .trv_qstatus_swait, .trv_qstatus_next_seq, .trv_last_clr_id, .trv_last_res_moved, .trv_last_res_state,
      .trv_fail_blocked, .trv_fail_cancelled, .trv_fail_new, .chp_drop_cnt_dest, .chs_qstat_depth,
      .chs_qstat_qdrop, .mbx_status_inflight]
      [.loop, .trv, .mbx, .rings, .host, .flt, .ports, .fab, .sch, .free, .out]) ∧
  (∀ s t, exec .pointOfNoReturn s = .next t →
    s.Frame t []
      [.trv]) ∧
  (∀ s t, exec .clearingExecution s = .next t →
    s.Frame t [.ust_vdac_cfg_range, .ust_vdac_status_rchg, .ust_vdac_status_clamp, .ust_vdac_status_play,
      .ust_vdac_status_prof, .ust_hpwm_mode_src, .ust_hpwm_status_hiz, .ust_hpwm_status_capped,
      .trv_qstatus_qdepth, .trv_qstatus_solving, .trv_qstatus_swait, .trv_qstatus_next_seq, .trv_inforce_slot,
      .trv_inforce_inline, .trv_inforce_idle, .trv_inforce_circuits, .trv_last_clr_id, .trv_last_res_moved,
      .trv_last_res_state, .chp_drop_cnt_dest, .chs_qstat_depth, .chs_qstat_qdrop, .mbx_status_inflight]
      [.loop, .trv, .mbx, .host, .datum, .ports, .fab, .sch, .out]) ∧
  (∀ a0 a1 s t, exec (.clearingRequest a0 a1) s = .next t →
    s.Frame t [.trv_qstatus_qdepth, .trv_qstatus_solving, .trv_qstatus_swait, .trv_qstatus_next_seq,
      .trv_solve_cnt_hits, .chp_drop_cnt_dest, .chs_qstat_depth, .chs_qstat_qdrop, .mbx_status_inflight]
      [.trv, .mbx, .host, .ports, .fab, .sch, .out]) ∧
  (∀ a0 a1 s t, exec (.clearingAccept a0 a1) s = .next t →
    s.Frame t [.mbx_status_inflight]
      [.trv, .mbx, .host, .fab, .out]) ∧
  (∀ a0 a1 s t, exec (.clearingReject a0 a1) s = .next t →
    s.Frame t [.trv_qstatus_qdepth, .trv_qstatus_solving, .trv_qstatus_swait, .trv_qstatus_next_seq, .trv_last_clr_id,
      .trv_last_res_moved, .trv_last_res_state, .trv_fail_cancelled, .trv_fail_new, .chp_drop_cnt_dest,
      .chs_qstat_depth, .chs_qstat_qdrop, .mbx_status_inflight]
      [.trv, .mbx, .host, .ports, .fab, .sch, .free, .out]) ∧
  (∀ a0 a1 s t, exec (.clearingAbort a0 a1) s = .next t →
    s.Frame t [.trv_qstatus_qdepth, .trv_qstatus_solving, .trv_qstatus_swait, .trv_qstatus_next_seq, .trv_last_clr_id,
      .trv_last_res_moved, .trv_last_res_state, .trv_fail_cancelled, .trv_fail_new, .chp_drop_cnt_dest,
      .chs_qstat_depth, .chs_qstat_qdrop, .mbx_status_inflight]
      [.trv, .mbx, .host, .ports, .fab, .sch, .free, .out]) ∧
  (∀ a0 a1 s t, exec (.clearingReport a0 a1) s = .next t →
    s.Frame t [.mbx_status_inflight]
      [.trv, .mbx, .host, .fab, .out]) ∧
  (∀ a0 s t, exec (.abortDeadline a0) s = .next t →
    s.Frame t [.trv_qstatus_qdepth, .trv_qstatus_solving, .trv_qstatus_swait, .trv_qstatus_next_seq, .trv_last_clr_id,
      .trv_last_res_moved, .trv_last_res_state, .trv_fail_cancelled, .trv_fail_new, .chp_drop_cnt_dest,
      .chs_qstat_depth, .chs_qstat_qdrop, .mbx_status_inflight]
      [.trv, .mbx, .host, .ports, .fab, .sch, .free, .out]) ∧
  (∀ a0 s t, exec (.reportTimeout a0) s = .next t →
    s.Frame t [.mbx_status_inflight]
      [.trv, .mbx, .host, .fab, .out]) ∧
  (∀ a0 s t, exec (.standEccError a0) s = .next t →
    s.Frame t [.ust_vdac_cfg_range, .ust_vdac_status_rchg, .cal_ecal_ctrl_active, .cal_ecal_ctrl_rej_cnt,
      .trv_qstatus_qdepth, .trv_qstatus_solving, .trv_qstatus_swait, .trv_qstatus_next_seq, .trv_last_clr_id,
      .trv_last_res_moved, .trv_last_res_state, .glb_baton_status_holder, .glb_baton_status_frozen,
      .glb_baton_status_ilk_a, .glb_baton_status_ilk_b, .glb_baton_status_last_cause,
      .glb_baton_status_handovers, .glb_baton_status_new, .stx_stand_status_state, .stx_stand_status_diag,
      .stx_sync_sync_cnt, .chp_drop_cnt_dest, .chs_qstat_depth, .chs_qstat_qdrop, .mbx_status_inflight]
      [.loop, .trv, .stand, .mbx, .rings, .host, .flt, .ports, .fab, .sch, .out]) ∧
  (∀ a0 s t, exec (.writePathParity a0) s = .next t →
    s.Frame t [.ust_vdac_cfg_range, .ust_vdac_status_rchg, .cal_ecal_ctrl_active, .cal_ecal_ctrl_rej_cnt,
      .trv_qstatus_qdepth, .trv_qstatus_solving, .trv_qstatus_swait, .trv_qstatus_next_seq, .trv_last_clr_id,
      .trv_last_res_moved, .trv_last_res_state, .glb_baton_status_holder, .glb_baton_status_frozen,
      .glb_baton_status_ilk_a, .glb_baton_status_ilk_b, .glb_baton_status_last_cause,
      .glb_baton_status_handovers, .glb_baton_status_new, .stx_stand_status_state, .stx_stand_status_diag,
      .stx_sync_sync_cnt, .chp_drop_cnt_dest, .chs_qstat_depth, .chs_qstat_qdrop, .mbx_status_inflight]
      [.loop, .trv, .stand, .mbx, .rings, .host, .flt, .ports, .fab, .sch, .out]) ∧
  (∀ s t, exec .heartbeatMissing s = .next t →
    s.Frame t [.ust_vdac_cfg_range, .ust_vdac_status_rchg, .cal_ecal_ctrl_active, .cal_ecal_ctrl_rej_cnt,
      .trv_qstatus_qdepth, .trv_qstatus_solving, .trv_qstatus_swait, .trv_qstatus_next_seq, .trv_last_clr_id,
      .trv_last_res_moved, .trv_last_res_state, .glb_baton_status_holder, .glb_baton_status_frozen,
      .glb_baton_status_ilk_a, .glb_baton_status_ilk_b, .glb_baton_status_last_cause,
      .glb_baton_status_handovers, .glb_baton_status_new, .stx_stand_status_state, .stx_stand_status_diag,
      .stx_sync_sync_cnt, .chp_drop_cnt_dest, .chs_qstat_depth, .chs_qstat_qdrop, .mbx_status_inflight]
      [.loop, .trv, .stand, .mbx, .rings, .host, .flt, .ports, .fab, .sch, .out]) ∧
  (∀ a0 s t, exec (.standClockFault a0) s = .next t →
    s.Frame t [.ust_vdac_cfg_range, .ust_vdac_status_rchg, .cal_ecal_ctrl_active, .cal_ecal_ctrl_rej_cnt,
      .trv_qstatus_qdepth, .trv_qstatus_solving, .trv_qstatus_swait, .trv_qstatus_next_seq, .trv_last_clr_id,
      .trv_last_res_moved, .trv_last_res_state, .glb_baton_status_holder, .glb_baton_status_frozen,
      .glb_baton_status_ilk_a, .glb_baton_status_ilk_b, .glb_baton_status_last_cause,
      .glb_baton_status_handovers, .glb_baton_status_new, .stx_stand_status_state, .stx_stand_status_diag,
      .stx_sync_sync_cnt, .chp_drop_cnt_dest, .chs_qstat_depth, .chs_qstat_qdrop, .mbx_status_inflight]
      [.loop, .trv, .stand, .mbx, .rings, .host, .flt, .ports, .fab, .sch, .out]) ∧
  (∀ s t, exec .interlockConfirm s = .next t →
    s.Frame t [.ust_vdac_cfg_range, .ust_vdac_status_rchg, .cal_ecal_ctrl_active, .cal_ecal_ctrl_rej_cnt,
      .trv_qstatus_qdepth, .trv_qstatus_solving, .trv_qstatus_swait, .trv_qstatus_next_seq, .trv_last_clr_id,
      .trv_last_res_moved, .trv_last_res_state, .glb_baton_status_holder, .glb_baton_status_frozen,
      .glb_baton_status_ilk_a, .glb_baton_status_ilk_b, .glb_baton_status_last_cause,
      .glb_baton_status_handovers, .glb_baton_status_new, .stx_stand_status_state, .stx_sync_sync_cnt,
      .chp_drop_cnt_dest, .chs_qstat_depth, .chs_qstat_qdrop, .mbx_status_inflight]
      [.loop, .trv, .stand, .mbx, .rings, .host, .flt, .ports, .fab, .sch, .out]) ∧
  (∀ s t, exec .interlockTimeout s = .next t →
    s.Frame t [.ust_vdac_cfg_range, .ust_vdac_status_rchg, .cal_ecal_ctrl_active, .cal_ecal_ctrl_rej_cnt,
      .trv_qstatus_qdepth, .trv_qstatus_solving, .trv_qstatus_swait, .trv_qstatus_next_seq, .trv_last_clr_id,
      .trv_last_res_moved, .trv_last_res_state, .glb_baton_status_frozen, .glb_baton_status_ilk_a,
      .glb_baton_status_ilk_b, .glb_baton_status_new, .stx_stand_status_state, .stx_sync_sync_cnt,
      .chp_drop_cnt_dest, .chs_qstat_depth, .chs_qstat_qdrop, .mbx_status_inflight]
      [.loop, .trv, .stand, .mbx, .rings, .host, .flt, .ports, .fab, .sch, .out]) ∧
  (∀ s t, exec .ilkForce s = .next t →
    s.Frame t [.glb_baton_status_holder, .glb_baton_status_ilk_a, .glb_baton_status_ilk_b, .glb_baton_status_last_cause,
      .glb_baton_status_handovers, .glb_baton_status_ign_cnt, .glb_baton_status_new, .stx_stand_status_state,
      .stx_sync_sync_cnt]
      [.stand]) ∧
  (∀ s t, exec .standCopyComplete s = .next t →
    s.Frame t [.glb_baton_status_holder, .glb_baton_status_frozen, .glb_baton_status_ilk_a, .glb_baton_status_ilk_b,
      .stx_stand_status_state, .stx_sync_sync_cnt, .mbx_status_inflight]
      [.stand, .mbx]) ∧
  (∀ a0 s t, exec (.takeoverResume a0) s = .next t →
    s.Frame t [.ust_hpwm_mode_src, .chp_drop_cnt_dest, .chs_qstat_depth, .chs_qstat_qdrop, .mbx_status_inflight]
      [.loop, .trv, .stand, .mbx, .host, .ports, .fab, .sch, .out]) ∧
  (∀ s t, exec .standEligible s = .next t →
    s.Frame t [.stx_stand_status_state, .mbx_status_inflight]
      [.stand, .mbx, .boot]) ∧
  (∀ s t, exec .commandedHandover s = .next t →
    s.Frame t [.glb_baton_status_holder, .glb_baton_status_ilk_a, .glb_baton_status_ilk_b, .glb_baton_status_last_cause,
      .glb_baton_status_handovers, .glb_baton_status_new, .stx_stand_status_state, .stx_sync_sync_cnt,
      .mbx_status_inflight, .boot_status_activating]
      [.stand, .mbx, .boot]) ∧
  (∀ a0 s t, exec (.compartmentFence a0) s = .next t →
    s.Frame t [.ust_mon_cfg_range_pend, .ust_pw_status_running, .ust_pw_status_queued, .cal_syscal_status_active,
      .cal_grp_status_stopped, .ust_vdac_cfg_range, .ust_vdac_status_rchg, .ust_hpwm_mode_src,
      .ust_hpwm_status_hiz, .ust_hpwm_status_capped, .cal_ecal_ctrl_active, .cal_ecal_ctrl_rej_cnt,
      .glb_cpt_svc_fenced, .glb_cpt_svc_by_fault, .glb_cpt_svc_rejoining, .glb_cpt_svc_fence_cnt,
      .chp_drop_cnt_dest, .chs_qstat_depth, .chs_qstat_qdrop, .mbx_status_inflight]
      [.loop, .trv, .stand, .mbx, .rings, .host, .flt, .ports, .fab, .sch, .free, .out]) ∧
  (∀ a0 s t, exec (.rejoin a0) s = .next t →
    s.Frame t [.ust_vdac_status_code, .ust_vdac_status_clamp, .ust_vdac_status_play, .ust_vdac_status_prof,
      .ust_vdac_ctrl_cleared, .ust_hpwm_mode_src, .ust_hpwm_status_hiz, .ust_hpwm_status_capped,
      .glb_hcap_status_cap_act, .glb_hcap_status_limit, .glb_hcap_load_p_cmd, .glb_hcap_load_scale,
      .glb_cpt_svc_fenced, .glb_cpt_svc_by_fault, .glb_cpt_svc_rejoining, .stx_stand_status_state,
      .stx_sync_sync_cnt, .mbx_status_inflight]
      [.loop, .stand, .mbx])

/-- Each of the Datum commands and events (DATUM_CFG_CONFIG, DATUM_CFG_SELECT, DATUM_CFG_RESTEP, DATUM_CFG_SET_TOD,
DATUM_CFG_LIMITS, DATUM_STATUS, TRIGGER_CFG, SYNC_RECEIVED, FOLLOW_UP_RECEIVED, PDELAY_REQ_RECEIVED,
PDELAY_RESP_RECEIVED, PDELAY_RESP_FOLLOW_UP_RECEIVED, ANNOUNCE_RECEIVED, DELAY_REQ_RECEIVED, SYNC_TRANSMIT,
PDELAY_TRANSMIT, ANNOUNCE_TRANSMIT, SOURCE_LOST, DATUM_ACQUIRED, GRID_STEP, DATUM_LOCKED, PPS_IN_EDGE, PPS_OUT_PULSE,
TRIG_OUTPUT_PULSE, TRIG_INPUT_EDGE, RESTEP_WRITE, P_DOM_WRITE, DTM_TIME_LATCH, TSQ_POP_READ, TRIG_TS_READ,
TRIG_START_WRITE), whatever its operands and whatever the state before it, when it answers a next state leaves every
register field outside its own list, with every index, every part of the state outside its own list, and the queue as
they were. MBX_STATUS.INFLIGHT, mbx and host stand in the list of a command because its completion is kept there. -/
def Obligations.DatumFrames : Prop :=
  (∀ a0 a1 a2 a3 a4 a5 a6 a7 a8 a9 a10 s t, exec (.datumCfgConfig a0 a1 a2 a3 a4 a5 a6 a7 a8 a9 a10) s = .next t →
    s.Frame t [.dtm_ctrl_src0, .dtm_ctrl_port0, .dtm_ctrl_src1, .dtm_ctrl_port1, .dtm_status_p_state,
      .dtm_status_s_state, .dtm_rate_rho, .dtm_event_event, .dtm_port_cfg_one_step, .dtm_port_cfg_log_sync,
      .dtm_port_cfg_pd_exp, .dtm_port_cfg_role0, .dtm_port_cfg_role1, .dtm_asym_asym_in, .dtm_asym_asym_eg,
      .mbx_status_inflight]
      [.mbx, .host, .flt, .datum, .out]) ∧
  (∀ a0 a1 s t, exec (.datumCfgSelect a0 a1) s = .next t →
    s.Frame t [.dtm_ctrl_p_dom, .mbx_status_inflight]
      [.mbx, .host, .datum]) ∧
  (∀ a0 s t, exec (.datumCfgRestep a0) s = .next t →
    s.Frame t [.dtm_status_step_pend, .mbx_status_inflight]
      [.mbx, .host, .datum]) ∧
  (∀ a0 a1 s t, exec (.datumCfgSetTod a0 a1) s = .next t →
    s.Frame t [.dtm_status_tod_set, .mbx_status_inflight]
      [.mbx, .host, .datum]) ∧
  (∀ a0 a1 a2 a3 a4 a5 a6 a7 s t, exec (.datumCfgLimits a0 a1 a2 a3 a4 a5 a6 a7) s = .next t →
    s.Frame t [.dtm_ctrl_auto_s, .dtm_ctrl_servo_bw, .dtm_ctrl_pps_gate, .dtm_limits_lock_thr, .dtm_limits_slew_max,
      .dtm_limits_sw_limit, .dtm_step_limit_step_limit, .mbx_status_inflight]
      [.mbx, .host]) ∧
  (∀ a0 a1 s t, exec (.datumStatus a0 a1) s = .next t →
    s.Frame t [.mbx_status_inflight]
      [.mbx, .host, .fab, .out]) ∧
  (∀ a0 a1 a2 a3 a4 a5 a6 s t, exec (.triggerCfg a0 a1 a2 a3 a4 a5 a6) s = .next t →
    s.Frame t [.dtm_event_event, .dtm_trig_cfg_mode, .dtm_trig_cfg_edge, .dtm_trig_cfg_late, .dtm_trig_start_subns,
      .dtm_trig_start_ns, .dtm_trig_start_sec, .dtm_trig_pw_period, .dtm_trig_pw_width, .mbx_status_inflight]
      [.mbx, .host, .datum, .out]) ∧
  (∀ a0 a1 a2 s t, exec (.syncReceived a0 a1 a2) s = .next t →
    s.Frame t [.dtm_status_p_state, .dtm_status_s_state, .dtm_rate_rho, .dtm_offset_offset_p, .dtm_offset_offset_s,
      .dtm_event_event, .dtm_port_cfg_discard]
      [.flt, .datum, .free, .out]) ∧
  (∀ a0 a1 s t, exec (.followUpReceived a0 a1) s = .next t →
    s.Frame t [.dtm_status_p_state, .dtm_status_s_state, .dtm_rate_rho, .dtm_offset_offset_p, .dtm_offset_offset_s,
      .dtm_event_event, .dtm_port_cfg_discard]
      [.flt, .datum, .free, .out]) ∧
  (∀ a0 a1 a2 a3 s t, exec (.pdelayReqReceived a0 a1 a2 a3) s = .next t →
    s.Frame t [.dtm_event_event, .dtm_port_cfg_discard, .dtm_tsq_status_fill, .dtm_tsq_status_ovf_cnt,
      .dtm_tsq_status_ovf, .dtm_tsq_pop_seq_id, .dtm_tsq_pop_msg_type, .dtm_tsq_pop_domain, .dtm_tsq_pop_valid,
      .dtm_tsq_pop_time, .chs_qstat_depth, .chs_qstat_qdrop]
      [.flt, .datum, .sch, .out]) ∧
  (∀ a0 a1 a2 s t, exec (.pdelayRespReceived a0 a1 a2) s = .next t →
    s.Frame t [.dtm_port_cfg_discard]
      [.datum]) ∧
  (∀ a0 a1 s t, exec (.pdelayRespFollowUpReceived a0 a1) s = .next t →
    s.Frame t [.dtm_port_cfg_discard, .dtm_linkdly_link_dly]
      [.datum]) ∧
  (∀ a0 a1 s t, exec (.announceReceived a0 a1) s = .next t →
    s.Frame t [.dtm_status_p_state, .dtm_status_s_state, .dtm_event_event, .dtm_port_cfg_discard]
      [.flt, .datum, .out]) ∧
  (∀ a0 s t, exec (.delayReqReceived a0) s = .next t →
    s.Frame t [.dtm_port_cfg_discard]
      []) ∧
  (∀ a0 a1 a2 s t, exec (.syncTransmit a0 a1 a2) s = .next t →
    s.Frame t [.dtm_event_event, .dtm_tsq_status_fill, .dtm_tsq_status_ovf_cnt, .dtm_tsq_status_ovf,
      .dtm_tsq_pop_seq_id, .dtm_tsq_pop_msg_type, .dtm_tsq_pop_domain, .dtm_tsq_pop_valid, .dtm_tsq_pop_time,
      .chs_qstat_depth, .chs_qstat_qdrop]
      [.flt, .datum, .sch, .out]) ∧
  (∀ a0 a1 s t, exec (.pdelayTransmit a0 a1) s = .next t →
    s.Frame t [.dtm_event_event, .dtm_tsq_status_fill, .dtm_tsq_status_ovf_cnt, .dtm_tsq_status_ovf,
      .dtm_tsq_pop_seq_id, .dtm_tsq_pop_msg_type, .dtm_tsq_pop_domain, .dtm_tsq_pop_valid, .dtm_tsq_pop_time,
      .chs_qstat_depth, .chs_qstat_qdrop]
      [.flt, .datum, .sch, .out]) ∧
  (∀ a0 a1 s t, exec (.announceTransmit a0 a1) s = .next t →
    s.Frame t [.chs_qstat_depth, .chs_qstat_qdrop]
      [.datum, .sch, .free]) ∧
  (∀ a0 a1 s t, exec (.sourceLost a0 a1) s = .next t →
    s.Frame t [.dtm_status_p_state, .dtm_status_s_state, .dtm_rate_rho, .dtm_event_event]
      [.flt, .datum, .out]) ∧
  (∀ s t, exec .datumAcquired s = .next t →
    s.Frame t [.dtm_status_p_state, .dtm_status_step_pend, .dtm_status_big_ofs, .dtm_rate_rho, .dtm_event_event]
      [.flt, .datum, .free, .out]) ∧
  (∀ s t, exec .gridStep s = .next t →
    s.Frame t [.ust_mon_cfg_range_pend, .ust_pw_status_running, .ust_pw_status_queued, .dtm_status_p_state,
      .dtm_status_step_pend, .dtm_status_big_ofs, .dtm_status_step_cnt, .dtm_rate_rho, .dtm_offset_offset_p,
      .dtm_offset_offset_s, .dtm_event_event, .dtm_trig_cfg_late, .chs_oper_entry, .mbx_status_inflight]
      [.loop, .mbx, .flt, .datum, .fab, .sch, .free, .out]) ∧
  (∀ s t, exec .datumLocked s = .next t →
    s.Frame t [.dtm_status_p_state, .dtm_status_s_state, .dtm_rate_rho, .dtm_event_event]
      [.flt, .datum, .free, .out]) ∧
  (∀ a0 s t, exec (.ppsInEdge a0) s = .next t →
    s.Frame t [.dtm_status_p_state, .dtm_status_s_state, .dtm_rate_rho, .dtm_offset_offset_p, .dtm_offset_offset_s,
      .dtm_event_event]
      [.flt, .datum, .free, .out]) ∧
  (∀ s t, exec .ppsOutPulse s = .next t →
    s.Frame t []
      [.out]) ∧
  (∀ a0 s t, exec (.trigOutputPulse a0) s = .next t →
    s.Frame t []
      [.datum, .out]) ∧
  (∀ a0 a1 a2 s t, exec (.trigInputEdge a0 a1 a2) s = .next t →
    s.Frame t [.ust_mon_cfg_range_pend, .ust_pw_status_running, .ust_pw_status_queued, .ust_pw_status_ovr_cnt,
      .ust_pw_status_overrun, .dtm_event_event, .dtm_trig_cfg_fill, .dtm_trig_cfg_ovf_cnt, .dtm_trig_cfg_ovf,
      .dtm_trig_ts_pol, .dtm_trig_ts_valid, .dtm_trig_ts_time, .chp_drop_cnt_dest, .chs_qstat_depth,
      .chs_qstat_qdrop, .mbx_status_inflight]
      [.loop, .mbx, .rings, .host, .datum, .ports, .fab, .sch, .out]) ∧
  (∀ s t, exec .restepWrite s = .next t →
    s.Frame t [.dtm_status_step_pend]
      [.datum]) ∧
  (∀ a0 s t, exec (.pDomWrite a0) s = .next t →
    s.Frame t [.dtm_ctrl_p_dom]
      [.flt, .datum]) ∧
  (∀ s t, exec .dtmTimeLatch s = .next t →
    s.Frame t [.dtm_time_subns, .dtm_time_ns, .dtm_time_sec, .dtm_frame_f]
      []) ∧
  (∀ a0 s t, exec (.tsqPopRead a0) s = .next t →
    s.Frame t [.dtm_tsq_status_fill, .dtm_tsq_pop_seq_id, .dtm_tsq_pop_msg_type, .dtm_tsq_pop_domain,
      .dtm_tsq_pop_valid, .dtm_tsq_pop_time]
      [.datum]) ∧
  (∀ a0 s t, exec (.trigTsRead a0) s = .next t →
    s.Frame t [.dtm_trig_cfg_fill, .dtm_trig_ts_pol, .dtm_trig_ts_valid, .dtm_trig_ts_time]
      [.datum]) ∧
  (∀ a0 a1 s t, exec (.trigStartWrite a0 a1) s = .next t →
    s.Frame t [.dtm_event_event, .dtm_trig_cfg_late, .dtm_trig_start_subns, .dtm_trig_start_ns, .dtm_trig_start_sec]
      [.flt, .datum, .out])

/-- Each of the chain link, enumeration, remote-transport and scheduler commands (CHAIN_CFG_PORT, CHAIN_CFG_ENUMERATE,
CHAIN_CFG_TEST, CHAIN_CFG_REMOTE_POLICY, CHAIN_STATUS, REMOTE, SCHED_CFG_GCL, SCHED_CFG_SHAPER, SCHED_CFG_OVERHEAD,
SCHED_CFG_POLICE, SCHED_CFG_SAMPLING, SCHED_CFG_READ_SAMPLES, LINK_UP, LINK_DOWN, HELLO_TRANSMIT, HELLO_RECEIVED,
CAIRN_FRAME_RECEIVED, ENUM_CLEAR, ENUM_CLEAR_WAIT, ENUM_ASSIGN, ENUM_BUSY, ENUM_DONE, ENUM_ASSIGN_TIMEOUT,
ENUM_REPORT, ENUM_COMPLETE, WRAP_RECEIVED, REMOTE_REQUEST, REMOTE_ACK, REMOTE_RESPONSE, REMOTE_RESPONSE_ACK,
REMOTE_ACK_TIMEOUT, REMOTE_EXEC_TIMEOUT, PRBS_CFG_WRITE, INJ_ONE_WRITE, INJ_FCS_WRITE, TRANSMISSION_SELECT,
GATE_CHANGE, GCL_COMMIT_WRITE, GCL_SWITCH, CHS_COUNTER_CLEAR_WRITE, QUEUE_SAMPLE, PRBS_CHECKER_LOCK), whatever its
operands and whatever the state before it, when it answers a next state leaves every register field outside its own
list, with every index, every part of the state outside its own list, and the queue as they were. MBX_STATUS.INFLIGHT,
mbx and host stand in the list of a command because its completion is kept there. -/
def Obligations.ChainFrames : Prop :=
  (∀ a0 a1 a2 a3 a4 a5 a6 a7 s t, exec (.chainCfgPort a0 a1 a2 a3 a4 a5 a6 a7) s = .next t →
    s.Frame t [.dtm_status_p_state, .dtm_status_s_state, .dtm_rate_rho, .dtm_event_event, .dtm_port_cfg_role0,
      .dtm_port_cfg_role1, .chp_cfg_en, .chp_cfg_fec, .chp_cfg_tx_pre, .chp_cfg_tx_post, .chp_cfg_tx_amp,
      .chp_cfg_rx_freeze, .chp_status_block_lock, .chp_status_hi_ber, .chp_status_lf, .chp_status_rf,
      .chp_status_fec_align, .chp_status_link_up, .chp_status_hello_ok, .chp_status_role,
      .chp_status_link_dn_cnt, .chp_range_lo, .chp_range_hi, .chp_drop_cnt_dest, .chp_event_event,
      .chp_fab_state, .chp_ring_cut_a, .chp_ring_cut_b, .chp_ring_status_cut_down, .chp_ring_status_wrap_cnt,
      .chs_bound_w6, .chs_bound_d6_0, .chs_abort_abort, .chs_qstat_depth, .chs_qstat_qdrop, .mbx_status_inflight]
      [.mbx, .host, .flt, .datum, .ports, .fab, .sch, .out]) ∧
  (∀ a0 a1 s t, exec (.chainCfgEnumerate a0 a1) s = .next t →
    s.Frame t [.dtm_port_cfg_role0, .dtm_port_cfg_role1, .chp_status_role, .chp_range_lo, .chp_range_hi,
      .chp_event_event, .chp_fab_addr, .chp_fab_root, .chp_fab_topo, .chp_fab_state, .chp_fab_ring,
      .chp_fab_trunc, .chp_fab_count_count, .chp_fab_count_depth, .chp_ring_cut_a, .chp_ring_cut_b,
      .chp_ring_status_size, .chp_ring_status_cut_down, .chs_qstat_depth, .chs_qstat_qdrop, .mbx_status_inflight]
      [.mbx, .host, .ports, .fab, .sch, .free, .out]) ∧
  (∀ a0 a1 a2 a3 a4 a5 s t, exec (.chainCfgTest a0 a1 a2 a3 a4 a5) s = .next t →
    s.Frame t [.dtm_status_p_state, .dtm_status_s_state, .dtm_rate_rho, .dtm_event_event, .dtm_port_cfg_role0,
      .dtm_port_cfg_role1, .chp_status_block_lock, .chp_status_hi_ber, .chp_status_lf, .chp_status_rf,
      .chp_status_fec_align, .chp_status_link_up, .chp_status_hello_ok, .chp_status_role,
      .chp_status_link_dn_cnt, .chp_range_lo, .chp_range_hi, .chp_drop_cnt_dest, .chp_prbs_cfg_gen,
      .chp_prbs_cfg_chk, .chp_prbs_cfg_inv, .chp_prbs_cfg_inj_rate, .chp_prbs_status_lock,
      .chp_prbs_status_err, .chp_event_event, .chp_fab_state, .chp_ring_cut_a, .chp_ring_cut_b,
      .chp_ring_status_cut_down, .chp_ring_status_wrap_cnt, .chs_abort_abort, .chs_qstat_depth,
      .chs_qstat_qdrop, .mbx_status_inflight]
      [.mbx, .host, .flt, .datum, .ports, .fab, .sch, .out]) ∧
  (∀ a0 a1 a2 a3 a4 s t, exec (.chainCfgRemotePolicy a0 a1 a2 a3 a4) s = .next t →
    s.Frame t [.chp_remote_accept, .chp_remote_class_en, .chp_remote_to_ack_to, .chp_remote_to_exec_to,
      .mbx_status_inflight]
      [.mbx, .host]) ∧
  (∀ a0 a1 a2 a3 s t, exec (.chainStatus a0 a1 a2 a3) s = .next t →
    s.Frame t [.chp_status_link_dn_cnt, .chp_err_cnt_fcs, .chp_err_cnt_hcrc, .chp_drop_cnt_dest, .chp_drop_cnt_other,
      .chp_fec_cnt_corr, .chp_fec_cnt_uncorr, .chp_prbs_status_err, .chp_ring_status_wrap_cnt,
      .mbx_status_inflight]
      [.mbx, .host, .fab, .out]) ∧
  (∀ a0 a1 a2 a3 a4 a5 a6 s t, exec (.remote a0 a1 a2 a3 a4 a5 a6) s = .next t →
    s.Frame t [.chp_drop_cnt_dest, .chs_qstat_depth, .chs_qstat_qdrop, .mbx_status_inflight]
      [.mbx, .host, .ports, .fab, .sch]) ∧
  (∀ a0 a1 a2 a3 a4 a5 a6 a7 s t, exec (.schedCfgGcl a0 a1 a2 a3 a4 a5 a6 a7) s = .next t →
    s.Frame t [.chs_port_cfg_pend, .chs_cycle_cycle, .chs_phase_phase, .chs_change_subns, .chs_change_ns,
      .chs_change_sec, .chs_gcl_admin_interval, .chs_gcl_admin_gates, .mbx_status_inflight]
      [.mbx, .host, .sch]) ∧
  (∀ a0 a1 a2 a3 a4 a5 s t, exec (.schedCfgShaper a0 a1 a2 a3 a4 a5) s = .next t →
    s.Frame t [.chs_cbs_idleslope, .chs_cbs_en, .chs_cbs_hicredit, .chs_cbs_credit, .mbx_status_inflight]
      [.mbx, .host, .sch]) ∧
  (∀ a0 a1 a2 s t, exec (.schedCfgOverhead a0 a1 a2) s = .next t →
    s.Frame t [.chs_port_cfg_ovh, .mbx_status_inflight]
      [.mbx, .host]) ∧
  (∀ a0 a1 a2 a3 a4 a5 s t, exec (.schedCfgPolice a0 a1 a2 a3 a4 a5) s = .next t →
    s.Frame t [.chs_pol_cfg_en, .chs_pol_cfg_mode, .chs_pol_cfg_burst, .chs_pol_rate_rate, .chs_pol_status_level,
      .chs_pol_status_held, .mbx_status_held, .mbx_status_inflight]
      [.mbx, .host]) ∧
  (∀ a0 a1 a2 s t, exec (.schedCfgSampling a0 a1 a2) s = .next t →
    s.Frame t [.chs_smp_cfg_en, .chs_smp_cfg_k, .mbx_status_inflight]
      [.mbx, .host]) ∧
  (∀ a0 a1 a2 a3 s t, exec (.schedCfgReadSamples a0 a1 a2 a3) s = .next t →
    s.Frame t [.mbx_status_inflight]
      [.mbx, .host, .fab, .out]) ∧
  (∀ a0 s t, exec (.linkUp a0) s = .next t →
    s.Frame t [.dtm_port_cfg_role0, .dtm_port_cfg_role1, .chp_status_block_lock, .chp_status_hi_ber, .chp_status_lf,
      .chp_status_rf, .chp_status_fec_align, .chp_status_link_up, .chp_event_event, .chp_ring_status_cut_down,
      .chs_qstat_depth, .chs_qstat_qdrop]
      [.flt, .ports, .fab, .sch, .out]) ∧
  (∀ a0 a1 a2 s t, exec (.linkDown a0 a1 a2) s = .next t →
    s.Frame t [.dtm_status_p_state, .dtm_status_s_state, .dtm_rate_rho, .dtm_event_event, .dtm_port_cfg_role0,
      .dtm_port_cfg_role1, .chp_status_block_lock, .chp_status_hi_ber, .chp_status_lf, .chp_status_rf,
      .chp_status_fec_align, .chp_status_link_up, .chp_status_hello_ok, .chp_status_role,
      .chp_status_link_dn_cnt, .chp_range_lo, .chp_range_hi, .chp_drop_cnt_dest, .chp_event_event,
      .chp_fab_state, .chp_ring_cut_a, .chp_ring_cut_b, .chp_ring_status_cut_down, .chp_ring_status_wrap_cnt,
      .chs_abort_abort, .chs_qstat_depth, .chs_qstat_qdrop]
      [.flt, .datum, .ports, .fab, .sch, .out]) ∧
  (∀ a0 s t, exec (.helloTransmit a0) s = .next t →
    s.Frame t [.chs_qstat_depth, .chs_qstat_qdrop]
      [.ports, .fab, .sch]) ∧
  (∀ a0 a1 a2 a3 a4 a5 a6 a7 s t, exec (.helloReceived a0 a1 a2 a3 a4 a5 a6 a7) s = .next t →
    s.Frame t [.dtm_status_p_state, .dtm_status_s_state, .dtm_rate_rho, .dtm_event_event, .dtm_port_cfg_role0,
      .dtm_port_cfg_role1, .chp_status_link_up, .chp_status_hello_ok, .chp_status_role,
      .chp_status_link_dn_cnt, .chp_neigh_uid_uid, .chp_neigh_addr, .chp_neigh_port, .chp_range_lo,
      .chp_range_hi, .chp_drop_cnt_dest, .chp_event_event, .chp_fab_state, .chp_ring_cut_a, .chp_ring_cut_b,
      .chp_ring_status_cut_down, .chp_ring_status_wrap_cnt, .chs_abort_abort, .chs_qstat_depth, .chs_qstat_qdrop]
      [.flt, .datum, .ports, .fab, .sch, .out]) ∧
  (∀ a0 a1 a2 s t, exec (.cairnFrameReceived a0 a1 a2) s = .next t →
    s.Frame t [.chp_err_cnt_fcs, .chp_err_cnt_hcrc, .chp_drop_cnt_dest, .chp_drop_cnt_other, .chs_qstat_depth,
      .chs_qstat_qdrop]
      [.flt, .sch, .out]) ∧
  (∀ a0 a1 s t, exec (.enumClear a0 a1) s = .next t →
    s.Frame t [.dtm_port_cfg_role0, .dtm_port_cfg_role1, .chp_status_role, .chp_range_lo, .chp_range_hi,
      .chp_event_event, .chp_fab_addr, .chp_fab_root, .chp_fab_topo, .chp_fab_state, .chp_fab_ring,
      .chp_fab_trunc, .chp_fab_count_count, .chp_fab_count_depth, .chp_ring_cut_a, .chp_ring_cut_b,
      .chp_ring_status_size, .chp_ring_status_cut_down, .chs_qstat_depth, .chs_qstat_qdrop, .mbx_status_inflight]
      [.mbx, .ports, .fab, .sch, .out]) ∧
  (∀ s t, exec .enumClearWait s = .next t →
    s.Frame t [.dtm_port_cfg_role0, .dtm_port_cfg_role1, .chp_status_role, .chp_range_lo, .chp_range_hi,
      .chp_drop_cnt_dest, .chp_event_event, .chp_fab_topo, .chp_fab_state, .chp_fab_ring, .chp_fab_trunc,
      .chp_fab_count_count, .chp_ring_cut_a, .chp_ring_cut_b, .chp_ring_status_size, .chp_ring_status_cut_down,
      .chs_qstat_depth, .chs_qstat_qdrop, .mbx_status_inflight]
      [.mbx, .flt, .ports, .fab, .sch, .out]) ∧
  (∀ a0 a1 a2 a3 a4 a5 s t, exec (.enumAssign a0 a1 a2 a3 a4 a5) s = .next t →
    s.Frame t [.dtm_port_cfg_role0, .dtm_port_cfg_role1, .chp_status_role, .chp_range_lo, .chp_range_hi,
      .chp_drop_cnt_dest, .chp_event_event, .chp_fab_addr, .chp_fab_topo, .chp_fab_state, .chp_fab_ring,
      .chp_fab_trunc, .chp_fab_count_count, .chp_fab_count_depth, .chp_ring_cut_a, .chp_ring_cut_b,
      .chp_ring_status_size, .chp_ring_status_cut_down, .chs_qstat_depth, .chs_qstat_qdrop, .mbx_status_inflight]
      [.mbx, .flt, .ports, .fab, .sch, .out]) ∧
  (∀ a0 a1 s t, exec (.enumBusy a0 a1) s = .next t →
    s.Frame t []
      [.fab]) ∧
  (∀ a0 a1 a2 a3 s t, exec (.enumDone a0 a1 a2 a3) s = .next t →
    s.Frame t [.dtm_port_cfg_role0, .dtm_port_cfg_role1, .chp_status_role, .chp_range_lo, .chp_range_hi,
      .chp_drop_cnt_dest, .chp_event_event, .chp_fab_topo, .chp_fab_state, .chp_fab_ring, .chp_fab_trunc,
      .chp_fab_count_count, .chp_ring_cut_a, .chp_ring_cut_b, .chp_ring_status_size, .chp_ring_status_cut_down,
      .chs_qstat_depth, .chs_qstat_qdrop, .mbx_status_inflight]
      [.mbx, .flt, .ports, .fab, .sch, .out]) ∧
  (∀ a0 s t, exec (.enumAssignTimeout a0) s = .next t →
    s.Frame t [.dtm_port_cfg_role0, .dtm_port_cfg_role1, .chp_status_role, .chp_range_lo, .chp_range_hi,
      .chp_drop_cnt_dest, .chp_event_event, .chp_fab_topo, .chp_fab_state, .chp_fab_ring, .chp_fab_trunc,
      .chp_fab_count_count, .chp_ring_cut_a, .chp_ring_cut_b, .chp_ring_status_size, .chp_ring_status_cut_down,
      .chs_qstat_depth, .chs_qstat_qdrop, .mbx_status_inflight]
      [.mbx, .flt, .ports, .fab, .sch, .out]) ∧
  (∀ a0 a1 s t, exec (.enumReport a0 a1) s = .next t →
    s.Frame t [.dtm_port_cfg_role0, .dtm_port_cfg_role1, .chp_status_role, .chp_range_lo, .chp_range_hi,
      .chp_drop_cnt_dest, .chp_event_event, .chp_fab_topo, .chp_fab_state, .chp_fab_ring, .chp_fab_trunc,
      .chp_fab_count_count, .chp_ring_cut_a, .chp_ring_cut_b, .chp_ring_status_size, .chp_ring_status_cut_down,
      .chs_qstat_depth, .chs_qstat_qdrop, .mbx_status_inflight]
      [.mbx, .flt, .ports, .fab, .sch, .out]) ∧
  (∀ a0 a1 a2 a3 a4 s t, exec (.enumComplete a0 a1 a2 a3 a4) s = .next t →
    s.Frame t [.dtm_status_p_state, .dtm_status_s_state, .dtm_rate_rho, .dtm_event_event, .dtm_port_cfg_role0,
      .dtm_port_cfg_role1, .chp_status_role, .chp_range_lo, .chp_range_hi, .chp_event_event, .chp_fab_state,
      .chp_fab_count_count, .chp_fab_count_depth, .chp_ring_cut_a, .chp_ring_cut_b, .chp_ring_status_size,
      .chp_ring_status_cut_down]
      [.flt, .datum, .fab, .out]) ∧
  (∀ a0 a1 a2 a3 s t, exec (.wrapReceived a0 a1 a2 a3) s = .next t →
    s.Frame t [.dtm_status_p_state, .dtm_status_s_state, .dtm_rate_rho, .dtm_event_event, .dtm_port_cfg_role0,
      .dtm_port_cfg_role1, .chp_status_role, .chp_range_lo, .chp_range_hi, .chp_drop_cnt_dest,
      .chp_event_event, .chp_ring_cut_a, .chp_ring_cut_b, .chp_ring_status_cut_down, .chp_ring_status_wrap_cnt,
      .chs_abort_abort, .chs_qstat_depth, .chs_qstat_qdrop]
      [.flt, .datum, .ports, .fab, .sch, .out]) ∧
  (∀ a0 a1 a2 a3 a4 a5 s t, exec (.remoteRequest a0 a1 a2 a3 a4 a5) s = .next t →
    s.Frame t [.chp_drop_cnt_dest, .chs_qstat_depth, .chs_qstat_qdrop, .mbx_status_inflight]
      [.mbx, .ports, .fab, .sch]) ∧
  (∀ a0 a1 s t, exec (.remoteAck a0 a1) s = .next t →
    s.Frame t [.mbx_status_inflight]
      [.mbx, .fab]) ∧
  (∀ a0 a1 a2 a3 a4 s t, exec (.remoteResponse a0 a1 a2 a3 a4) s = .next t →
    s.Frame t [.chp_drop_cnt_dest, .chs_qstat_depth, .chs_qstat_qdrop, .mbx_status_inflight]
      [.mbx, .host, .ports, .fab, .sch, .out]) ∧
  (∀ a0 a1 s t, exec (.remoteResponseAck a0 a1) s = .next t →
    s.Frame t []
      [.fab]) ∧
  (∀ a0 a1 a2 s t, exec (.remoteAckTimeout a0 a1 a2) s = .next t →
    s.Frame t [.chp_drop_cnt_dest, .chs_qstat_depth, .chs_qstat_qdrop, .mbx_status_inflight]
      [.mbx, .ports, .fab, .sch]) ∧
  (∀ a0 a1 s t, exec (.remoteExecTimeout a0 a1) s = .next t →
    s.Frame t [.mbx_status_inflight]
      [.mbx, .fab]) ∧
  (∀ a0 a1 a2 s t, exec (.prbsCfgWrite a0 a1 a2) s = .next t →
    s.Frame t [.dtm_status_p_state, .dtm_status_s_state, .dtm_rate_rho, .dtm_event_event, .dtm_port_cfg_role0,
      .dtm_port_cfg_role1, .chp_status_block_lock, .chp_status_hi_ber, .chp_status_lf, .chp_status_rf,
      .chp_status_fec_align, .chp_status_link_up, .chp_status_hello_ok, .chp_status_role,
      .chp_status_link_dn_cnt, .chp_range_lo, .chp_range_hi, .chp_drop_cnt_dest, .chp_prbs_cfg_gen,
      .chp_prbs_cfg_chk, .chp_prbs_cfg_prbs_rej, .chp_prbs_status_lock, .chp_prbs_status_err, .chp_event_event,
      .chp_fab_state, .chp_ring_cut_a, .chp_ring_cut_b, .chp_ring_status_cut_down, .chp_ring_status_wrap_cnt,
      .chs_abort_abort, .chs_qstat_depth, .chs_qstat_qdrop]
      [.flt, .datum, .ports, .fab, .sch, .out]) ∧
  (∀ a0 s t, exec (.injOneWrite a0) s = .next t →
    s.Frame t []
      [.out]) ∧
  (∀ a0 s t, exec (.injFcsWrite a0) s = .next t →
    s.Frame t []
      [.ports]) ∧
  (∀ a0 a1 s t, exec (.transmissionSelect a0 a1) s = .next t →
    s.Frame t [.chs_cbs_credit, .chs_qstat_depth, .chs_qstat_oversize]
      [.sch, .out]) ∧
  (∀ a0 a1 s t, exec (.gateChange a0 a1) s = .next t →
    s.Frame t [.chs_oper_entry, .chs_cbs_credit]
      [.sch]) ∧
  (∀ a0 a1 s t, exec (.gclCommitWrite a0 a1) s = .next t →
    s.Frame t [.chs_port_cfg_pend, .chs_port_cfg_reject]
      [.sch]) ∧
  (∀ a0 a1 s t, exec (.gclSwitch a0 a1) s = .next t →
    s.Frame t [.chs_port_cfg_pend, .chs_oper_cycle_act, .chs_oper_entry, .chs_bound_w6, .chs_bound_d6_0,
      .chs_gcl_oper_interval, .chs_gcl_oper_gates, .chs_cbs_credit]
      [.sch]) ∧
  (∀ a0 s t, exec (.chsCounterClearWrite a0) s = .next t →
    s.Frame t [.chs_abort_abort, .chs_qstat_qdrop, .chs_qstat_oversize]
      []) ∧
  (∀ a0 s t, exec (.queueSample a0) s = .next t →
    s.Frame t [.chp_drop_cnt_dest, .chs_cbs_credit, .chs_qstat_depth, .chs_qstat_hol, .chs_qstat_qdrop, .chs_smp_cfg_ovw]
      [.rings, .host, .ports, .fab, .sch, .out]) ∧
  (∀ a0 a1 s t, exec (.prbsCheckerLock a0 a1) s = .next t →
    s.Frame t [.chp_prbs_status_lock, .chp_prbs_status_err]
      [])

/-- Each of the events of Firebreak and the safety commands (FIREBREAK_START, SAFETY_STATUS_READ, SAFETY_STATUS_ACK,
SAFETY_STATUS_RESTART, SAFETY_SESSION_OPEN, SAFETY_CONFIG_PARAMETER, SAFETY_CONFIG_PASSWORD,
SAFETY_SESSION_CLOSE_COMMIT, SAFETY_SESSION_CLOSE_DISCARD, SAFETY_LOG_READ, SAFETY_SAMPLE, TEST_PULSE,
INPUT_DISCREPANCY, EDM_TIMEOUT, OUTPUT_SWITCH_TEST, STATIC_CHECK, OUTPUT_OVERCURRENT, OUTPUT_RESTART,
OSCILLATOR_FAULT, CHANNEL_DISAGREEMENT, FBRST_N_PULSE, RESET_PEND_TIMEOUT, SESSION_TIMEOUT, FIREBREAK_LINK_LOSS,
APR_FLAG_CHANGE, DARKENING_START, DARKENING_RELEASE, SAFETY_LOG_FLUSH, FIREBREAK_LINK_RETURN), whatever its operands
and whatever the state before it, when it answers a next state leaves every register field outside its own list, with
every index, every part of the state outside its own list, and the queue as they were. MBX_STATUS.INFLIGHT, mbx and
host stand in the list of a command because its completion is kept there. -/
def Obligations.FirebreakFrames : Prop :=
  (∀ a0 a1 a2 s t, exec (.firebreakStart a0 a1 a2) s = .next t →
    s.Frame t [.ust_htrip_input, .fbk_status_state, .fbk_status_fb_ok, .fbk_status_session, .fbk_status_link,
      .fbk_status_reset_pend, .fbk_status_pw_set, .fbk_status_out_on, .fbk_status_out_wait, .fbk_status_demand,
      .fbk_status_pair_fault, .fbk_status_sources, .fbk_fault_cause, .fbk_fault_obj, .fbk_event_event,
      .fbk_pair_cfg_in_mode, .fbk_pair_cfg_filt, .fbk_pair_cfg_edm_out, .fbk_pair_cfg_disc,
      .fbk_pair_cfg_edm_t, .fbk_out_cfg_out_en, .fbk_out_cfg_restart, .fbk_out_cfg_out_src,
      .fbk_out_cfg_apr_cpt, .fbk_src_cfg_dark, .fbk_src_cfg_heat, .fbk_apr_cfg_na_assert,
      .fbk_apr_cfg_apr_dark, .fbk_cfg_crc_crc, .fbk_log_pending, .fbk_log_log_lost, .fbk_dark_ports_dark,
      .fbk_not_dark_not_dark]
      [.loop, .flt, .fbk, .out]) ∧
  (∀ a0 a1 s t, exec (.safetyStatusRead a0 a1) s = .next t →
    s.Frame t [.mbx_status_inflight]
      [.mbx, .host, .fbk, .fab, .out]) ∧
  (∀ a0 s t, exec (.safetyStatusAck a0) s = .next t →
    s.Frame t [.ust_htrip_input, .mbx_status_inflight, .fbk_status_state, .fbk_status_fb_ok, .fbk_status_session,
      .fbk_status_link, .fbk_status_reset_pend, .fbk_status_pw_set, .fbk_status_out_on, .fbk_status_out_wait,
      .fbk_status_demand, .fbk_status_pair_fault, .fbk_status_sources, .fbk_fault_cause, .fbk_fault_obj,
      .fbk_event_event, .fbk_log_pending, .fbk_log_log_lost, .fbk_dark_ports_dark, .fbk_not_dark_not_dark]
      [.loop, .mbx, .host, .flt, .fbk, .out]) ∧
  (∀ a0 a1 s t, exec (.safetyStatusRestart a0 a1) s = .next t →
    s.Frame t [.mbx_status_inflight, .fbk_status_state, .fbk_status_fb_ok, .fbk_status_session, .fbk_status_link,
      .fbk_status_reset_pend, .fbk_status_pw_set, .fbk_status_out_on, .fbk_status_out_wait, .fbk_status_demand,
      .fbk_status_pair_fault, .fbk_status_sources, .fbk_event_event, .fbk_log_pending, .fbk_dark_ports_dark,
      .fbk_not_dark_not_dark]
      [.mbx, .host, .fbk, .out]) ∧
  (∀ a0 a1 a2 s t, exec (.safetySessionOpen a0 a1 a2) s = .next t →
    s.Frame t [.mbx_status_inflight, .fbk_status_state, .fbk_status_fb_ok, .fbk_status_session, .fbk_status_link,
      .fbk_status_reset_pend, .fbk_status_pw_set, .fbk_status_out_on, .fbk_status_out_wait, .fbk_status_demand,
      .fbk_status_pair_fault, .fbk_status_sources, .fbk_event_event, .fbk_pair_cfg_in_mode, .fbk_pair_cfg_filt,
      .fbk_pair_cfg_edm_out, .fbk_pair_cfg_disc, .fbk_pair_cfg_edm_t, .fbk_out_cfg_out_en,
      .fbk_out_cfg_restart, .fbk_out_cfg_out_src, .fbk_out_cfg_apr_cpt, .fbk_src_cfg_dark, .fbk_src_cfg_heat,
      .fbk_apr_cfg_na_assert, .fbk_apr_cfg_apr_dark, .fbk_cfg_crc_crc, .fbk_log_pending, .fbk_log_log_lost,
      .fbk_dark_ports_dark, .fbk_not_dark_not_dark]
      [.mbx, .host, .fbk, .out]) ∧
  (∀ a0 a1 a2 s t, exec (.safetyConfigParameter a0 a1 a2) s = .next t →
    s.Frame t [.mbx_status_inflight, .fbk_pair_cfg_in_mode, .fbk_pair_cfg_filt, .fbk_pair_cfg_edm_out,
      .fbk_pair_cfg_disc, .fbk_pair_cfg_edm_t, .fbk_out_cfg_out_en, .fbk_out_cfg_restart, .fbk_out_cfg_out_src,
      .fbk_out_cfg_apr_cpt, .fbk_src_cfg_dark, .fbk_src_cfg_heat, .fbk_apr_cfg_na_assert,
      .fbk_apr_cfg_apr_dark, .fbk_cfg_crc_crc]
      [.mbx, .host, .fbk]) ∧
  (∀ a0 a1 a2 s t, exec (.safetyConfigPassword a0 a1 a2) s = .next t →
    s.Frame t [.mbx_status_inflight]
      [.mbx, .host, .fbk, .free]) ∧
  (∀ a0 s t, exec (.safetySessionCloseCommit a0) s = .next t →
    s.Frame t [.ust_htrip_input, .mbx_status_inflight, .fbk_status_state, .fbk_status_fb_ok, .fbk_status_session,
      .fbk_status_link, .fbk_status_reset_pend, .fbk_status_pw_set, .fbk_status_out_on, .fbk_status_out_wait,
      .fbk_status_demand, .fbk_status_pair_fault, .fbk_status_sources, .fbk_event_event, .fbk_pair_cfg_in_mode,
      .fbk_pair_cfg_filt, .fbk_pair_cfg_edm_out, .fbk_pair_cfg_disc, .fbk_pair_cfg_edm_t, .fbk_out_cfg_out_en,
      .fbk_out_cfg_restart, .fbk_out_cfg_out_src, .fbk_out_cfg_apr_cpt, .fbk_src_cfg_dark, .fbk_src_cfg_heat,
      .fbk_apr_cfg_na_assert, .fbk_apr_cfg_apr_dark, .fbk_cfg_crc_crc, .fbk_log_pending, .fbk_log_log_lost,
      .fbk_dark_ports_dark, .fbk_not_dark_not_dark, .hkp_flash_refused]
      [.loop, .mbx, .host, .fbk, .out]) ∧
  (∀ a0 s t, exec (.safetySessionCloseDiscard a0) s = .next t →
    s.Frame t [.mbx_status_inflight, .fbk_status_state, .fbk_status_fb_ok, .fbk_status_session, .fbk_status_link,
      .fbk_status_reset_pend, .fbk_status_pw_set, .fbk_status_out_on, .fbk_status_out_wait, .fbk_status_demand,
      .fbk_status_pair_fault, .fbk_status_sources, .fbk_event_event, .fbk_pair_cfg_in_mode, .fbk_pair_cfg_filt,
      .fbk_pair_cfg_edm_out, .fbk_pair_cfg_disc, .fbk_pair_cfg_edm_t, .fbk_out_cfg_out_en,
      .fbk_out_cfg_restart, .fbk_out_cfg_out_src, .fbk_out_cfg_apr_cpt, .fbk_src_cfg_dark, .fbk_src_cfg_heat,
      .fbk_apr_cfg_na_assert, .fbk_apr_cfg_apr_dark, .fbk_cfg_crc_crc, .fbk_log_pending, .fbk_log_log_lost,
      .fbk_dark_ports_dark, .fbk_not_dark_not_dark]
      [.mbx, .host, .fbk, .out]) ∧
  (∀ a0 a1 a2 a3 s t, exec (.safetyLogRead a0 a1 a2 a3) s = .next t →
    s.Frame t [.mbx_status_inflight]
      [.mbx, .host, .fbk, .fab, .out]) ∧
  (∀ a0 a1 s t, exec (.safetySample a0 a1) s = .next t →
    s.Frame t [.ust_htrip_input, .fbk_status_state, .fbk_status_fb_ok, .fbk_status_session, .fbk_status_link,
      .fbk_status_reset_pend, .fbk_status_pw_set, .fbk_status_out_on, .fbk_status_out_wait, .fbk_status_demand,
      .fbk_status_pair_fault, .fbk_status_sources, .fbk_fault_cause, .fbk_fault_obj, .fbk_event_event,
      .fbk_log_pending, .fbk_log_log_lost, .fbk_dark_ports_dark, .fbk_not_dark_not_dark]
      [.loop, .flt, .fbk, .free, .out]) ∧
  (∀ a0 a1 a2 a3 s t, exec (.testPulse a0 a1 a2 a3) s = .next t →
    s.Frame t [.ust_htrip_input, .fbk_status_state, .fbk_status_fb_ok, .fbk_status_session, .fbk_status_link,
      .fbk_status_reset_pend, .fbk_status_pw_set, .fbk_status_out_on, .fbk_status_out_wait, .fbk_status_demand,
      .fbk_status_pair_fault, .fbk_status_sources, .fbk_fault_cause, .fbk_fault_obj, .fbk_fault_tp_miss,
      .fbk_event_event, .fbk_log_pending, .fbk_log_log_lost, .fbk_dark_ports_dark, .fbk_not_dark_not_dark]
      [.loop, .flt, .fbk, .out]) ∧
  (∀ a0 s t, exec (.inputDiscrepancy a0) s = .next t →
    s.Frame t [.ust_htrip_input, .fbk_status_state, .fbk_status_fb_ok, .fbk_status_session, .fbk_status_link,
      .fbk_status_reset_pend, .fbk_status_pw_set, .fbk_status_out_on, .fbk_status_out_wait, .fbk_status_demand,
      .fbk_status_pair_fault, .fbk_status_sources, .fbk_fault_cause, .fbk_fault_obj, .fbk_event_event,
      .fbk_log_pending, .fbk_log_log_lost, .fbk_dark_ports_dark, .fbk_not_dark_not_dark]
      [.loop, .flt, .fbk, .out]) ∧
  (∀ a0 s t, exec (.edmTimeout a0) s = .next t →
    s.Frame t [.ust_htrip_input, .fbk_status_state, .fbk_status_fb_ok, .fbk_status_session, .fbk_status_link,
      .fbk_status_reset_pend, .fbk_status_pw_set, .fbk_status_out_on, .fbk_status_out_wait, .fbk_status_demand,
      .fbk_status_pair_fault, .fbk_status_sources, .fbk_fault_cause, .fbk_fault_obj, .fbk_event_event,
      .fbk_log_pending, .fbk_log_log_lost, .fbk_dark_ports_dark, .fbk_not_dark_not_dark]
      [.loop, .flt, .fbk, .out]) ∧
  (∀ a0 a1 a2 s t, exec (.outputSwitchTest a0 a1 a2) s = .next t →
    s.Frame t [.ust_htrip_input, .fbk_status_state, .fbk_status_fb_ok, .fbk_status_session, .fbk_status_link,
      .fbk_status_reset_pend, .fbk_status_pw_set, .fbk_status_out_on, .fbk_status_out_wait, .fbk_status_demand,
      .fbk_status_pair_fault, .fbk_status_sources, .fbk_fault_cause, .fbk_fault_obj, .fbk_event_event,
      .fbk_log_pending, .fbk_log_log_lost, .fbk_dark_ports_dark, .fbk_not_dark_not_dark]
      [.loop, .flt, .fbk, .out]) ∧
  (∀ a0 a1 s t, exec (.staticCheck a0 a1) s = .next t →
    s.Frame t [.ust_htrip_input, .fbk_status_state, .fbk_status_fb_ok, .fbk_status_session, .fbk_status_link,
      .fbk_status_reset_pend, .fbk_status_pw_set, .fbk_status_out_on, .fbk_status_out_wait, .fbk_status_demand,
      .fbk_status_pair_fault, .fbk_status_sources, .fbk_fault_cause, .fbk_fault_obj, .fbk_event_event,
      .fbk_log_pending, .fbk_log_log_lost, .fbk_dark_ports_dark, .fbk_not_dark_not_dark]
      [.loop, .flt, .fbk, .out]) ∧
  (∀ a0 s t, exec (.outputOvercurrent a0) s = .next t →
    s.Frame t [.ust_htrip_input, .fbk_status_state, .fbk_status_fb_ok, .fbk_status_session, .fbk_status_link,
      .fbk_status_reset_pend, .fbk_status_pw_set, .fbk_status_out_on, .fbk_status_out_wait, .fbk_status_demand,
      .fbk_status_pair_fault, .fbk_status_sources, .fbk_fault_cause, .fbk_fault_obj, .fbk_event_event,
      .fbk_log_pending, .fbk_log_log_lost, .fbk_dark_ports_dark, .fbk_not_dark_not_dark]
      [.loop, .flt, .fbk, .out]) ∧
  (∀ a0 s t, exec (.outputRestart a0) s = .next t →
    s.Frame t [.fbk_status_state, .fbk_status_fb_ok, .fbk_status_session, .fbk_status_link, .fbk_status_reset_pend,
      .fbk_status_pw_set, .fbk_status_out_on, .fbk_status_out_wait, .fbk_status_demand, .fbk_status_pair_fault,
      .fbk_status_sources, .fbk_event_event, .fbk_log_pending, .fbk_dark_ports_dark, .fbk_not_dark_not_dark]
      [.fbk, .out]) ∧
  (∀ a0 s t, exec (.oscillatorFault a0) s = .next t →
    s.Frame t [.ust_htrip_input, .fbk_status_state, .fbk_status_fb_ok, .fbk_status_session, .fbk_status_link,
      .fbk_status_reset_pend, .fbk_status_pw_set, .fbk_status_out_on, .fbk_status_out_wait, .fbk_status_demand,
      .fbk_status_pair_fault, .fbk_status_sources, .fbk_fault_cause, .fbk_fault_obj, .fbk_event_event,
      .fbk_log_pending, .fbk_log_log_lost, .fbk_dark_ports_dark, .fbk_not_dark_not_dark]
      [.loop, .flt, .fbk, .out]) ∧
  (∀ a0 s t, exec (.channelDisagreement a0) s = .next t →
    s.Frame t [.ust_htrip_input, .fbk_status_state, .fbk_status_fb_ok, .fbk_status_session, .fbk_status_link,
      .fbk_status_reset_pend, .fbk_status_pw_set, .fbk_status_out_on, .fbk_status_out_wait, .fbk_status_demand,
      .fbk_status_pair_fault, .fbk_status_sources, .fbk_fault_cause, .fbk_fault_obj, .fbk_event_event,
      .fbk_log_pending, .fbk_log_log_lost, .fbk_dark_ports_dark, .fbk_not_dark_not_dark]
      [.loop, .flt, .fbk, .out]) ∧
  (∀ a0 a1 s t, exec (.fbrstNPulse a0 a1) s = .next t →
    s.Frame t [.ust_htrip_input, .fbk_status_state, .fbk_status_fb_ok, .fbk_status_session, .fbk_status_link,
      .fbk_status_reset_pend, .fbk_status_pw_set, .fbk_status_out_on, .fbk_status_out_wait, .fbk_status_demand,
      .fbk_status_pair_fault, .fbk_status_sources, .fbk_fault_cause, .fbk_fault_obj, .fbk_fault_rst_ign,
      .fbk_event_event, .fbk_log_pending, .fbk_dark_ports_dark, .fbk_not_dark_not_dark]
      [.loop, .fbk, .free, .out]) ∧
  (∀ s t, exec .resetPendTimeout s = .next t →
    s.Frame t [.fbk_status_state, .fbk_status_fb_ok, .fbk_status_session, .fbk_status_link, .fbk_status_reset_pend,
      .fbk_status_pw_set, .fbk_status_out_on, .fbk_status_out_wait, .fbk_status_demand, .fbk_status_pair_fault,
      .fbk_status_sources, .fbk_log_pending, .fbk_dark_ports_dark, .fbk_not_dark_not_dark]
      [.fbk]) ∧
  (∀ s t, exec .sessionTimeout s = .next t →
    s.Frame t [.fbk_status_state, .fbk_status_fb_ok, .fbk_status_session, .fbk_status_link, .fbk_status_reset_pend,
      .fbk_status_pw_set, .fbk_status_out_on, .fbk_status_out_wait, .fbk_status_demand, .fbk_status_pair_fault,
      .fbk_status_sources, .fbk_event_event, .fbk_pair_cfg_in_mode, .fbk_pair_cfg_filt, .fbk_pair_cfg_edm_out,
      .fbk_pair_cfg_disc, .fbk_pair_cfg_edm_t, .fbk_out_cfg_out_en, .fbk_out_cfg_restart, .fbk_out_cfg_out_src,
      .fbk_out_cfg_apr_cpt, .fbk_src_cfg_dark, .fbk_src_cfg_heat, .fbk_apr_cfg_na_assert,
      .fbk_apr_cfg_apr_dark, .fbk_cfg_crc_crc, .fbk_log_pending, .fbk_log_log_lost, .fbk_dark_ports_dark,
      .fbk_not_dark_not_dark]
      [.fbk, .out]) ∧
  (∀ s t, exec .firebreakLinkLoss s = .next t →
    s.Frame t [.ust_htrip_input, .fbk_status_state, .fbk_status_fb_ok, .fbk_status_session, .fbk_status_link,
      .fbk_status_reset_pend, .fbk_status_pw_set, .fbk_status_out_on, .fbk_status_out_wait, .fbk_status_demand,
      .fbk_status_pair_fault, .fbk_status_sources, .fbk_event_event, .fbk_pair_cfg_in_mode, .fbk_pair_cfg_filt,
      .fbk_pair_cfg_edm_out, .fbk_pair_cfg_disc, .fbk_pair_cfg_edm_t, .fbk_out_cfg_out_en,
      .fbk_out_cfg_restart, .fbk_out_cfg_out_src, .fbk_out_cfg_apr_cpt, .fbk_src_cfg_dark, .fbk_src_cfg_heat,
      .fbk_apr_cfg_na_assert, .fbk_apr_cfg_apr_dark, .fbk_cfg_crc_crc, .fbk_log_pending, .fbk_log_log_lost,
      .fbk_dark_ports_dark, .fbk_not_dark_not_dark]
      [.loop, .flt, .fbk, .out]) ∧
  (∀ s t, exec .aprFlagChange s = .next t →
    s.Frame t [.ust_htrip_input, .fbk_status_state, .fbk_status_fb_ok, .fbk_status_session, .fbk_status_link,
      .fbk_status_reset_pend, .fbk_status_pw_set, .fbk_status_out_on, .fbk_status_out_wait, .fbk_status_demand,
      .fbk_status_pair_fault, .fbk_status_sources, .fbk_event_event, .fbk_log_pending, .fbk_dark_ports_dark,
      .fbk_not_dark_not_dark]
      [.loop, .fbk, .out]) ∧
  (∀ s t, exec .darkeningStart s = .next t →
    s.Frame t [.ust_vdac_cfg_range, .ust_vdac_status_rchg, .ust_vdac_status_play, .ust_vdac_status_prof,
      .mbx_status_inflight, .fbk_status_state, .fbk_status_fb_ok, .fbk_status_session, .fbk_status_link,
      .fbk_status_reset_pend, .fbk_status_pw_set, .fbk_status_out_on, .fbk_status_out_wait, .fbk_status_demand,
      .fbk_status_pair_fault, .fbk_status_sources, .fbk_event_event, .fbk_log_pending, .fbk_dark_ports_dark,
      .fbk_not_dark_not_dark]
      [.loop, .mbx, .out]) ∧
  (∀ a0 s t, exec (.darkeningRelease a0) s = .next t →
    s.Frame t [.ust_vdac_status_play, .ust_vdac_status_prof, .fbk_status_state, .fbk_status_fb_ok, .fbk_status_session,
      .fbk_status_link, .fbk_status_reset_pend, .fbk_status_pw_set, .fbk_status_out_on, .fbk_status_out_wait,
      .fbk_status_demand, .fbk_status_pair_fault, .fbk_status_sources, .fbk_event_event, .fbk_log_pending,
      .fbk_dark_ports_dark, .fbk_not_dark_not_dark]
      [.loop, .fbk, .out]) ∧
  (∀ s t, exec .safetyLogFlush s = .next t →
    s.Frame t [.fbk_status_state, .fbk_status_fb_ok, .fbk_status_session, .fbk_status_link, .fbk_status_reset_pend,
      .fbk_status_pw_set, .fbk_status_out_on, .fbk_status_out_wait, .fbk_status_demand, .fbk_status_pair_fault,
      .fbk_status_sources, .fbk_log_pending, .fbk_dark_ports_dark, .fbk_not_dark_not_dark]
      [.fbk]) ∧
  (∀ s t, exec .firebreakLinkReturn s = .next t →
    s.Frame t [.ust_htrip_input, .fbk_status_state, .fbk_status_fb_ok, .fbk_status_session, .fbk_status_link,
      .fbk_status_reset_pend, .fbk_status_pw_set, .fbk_status_out_on, .fbk_status_out_wait, .fbk_status_demand,
      .fbk_status_pair_fault, .fbk_status_sources, .fbk_event_event, .fbk_log_pending, .fbk_dark_ports_dark,
      .fbk_not_dark_not_dark]
      [.loop, .fbk, .out])

/-- Each of the fault, housekeeping, frame-boundary, boot, firmware, trust, BAR2 and service-end commands
(BOOT_SEQUENCE, GLB_RESET_WRITE, BAR2_WRITE, FAULT_LOG_READ, FAULT_POLICY_SET, FAULT_INJECT, FW_STAGE_FIRMWARE,
FW_STAGE_ELEMENT_MAP, FW_ACTIVATE_FIRMWARE, FW_ACTIVATE_ELEMENT_MAP, FRAME_BOUNDARY, FORESTER_WATCHDOG,
FAULT_NOTICE_RECEIVED, FW_BULK_DATA, FW_BULK_STATUS, FW_BULK_DONE, FW_BULK_TIMEOUT, FAULT_DETECTED,
FAULT_COLLECTOR_DISAGREE, ERR_ACK_WRITE, FAULT_INJECT_ARM_WRITE, HOUSEKEEPING_ROUND, DOE_DISCOVERY, SPDM_GET_VERSION,
SPDM_GET_CAPABILITIES, SPDM_NEGOTIATE_ALGORITHMS, SPDM_GET_DIGESTS, SPDM_GET_CERTIFICATE, SPDM_CHALLENGE,
SPDM_GET_MEASUREMENTS, SPDM_UNSUPPORTED_REQUEST, JTAG_INSTRUCTION_LOAD, FUSE_PROG_WRITE, BRST_END,
FORESTER_RESTART_COMPLETE, FLASH_WRITE_COMPLETE), whatever its operands and whatever the state before it, when it
answers a next state leaves every register field outside its own list, with every index, every part of the state
outside its own list, and the queue as they were. MBX_STATUS.INFLIGHT, mbx and host stand in the list of a command
because its completion is kept there. -/
def Obligations.FaultAndBootFrames : Prop :=
  (∀ s t, exec .bootSequence s = .next t →
    s.Frame t [.glb_emap_status_loaded, .glb_emap_status_source, .glb_emap_status_staged_valid,
      .glb_emap_status_check_fail, .glb_emap_status_fail_index, .glb_emap_status_fail_table,
      .glb_emap_serial_map_serial, .ust_mon_cfg_range, .ust_mon_cfg_cmp_low, .ust_mon_cfg_cmp_high,
      .ust_mon_cmp_low_na, .ust_vdac_cfg_range, .ust_vdac_status_range_act, .ust_vdac_ctrl_cleared,
      .ust_profile_count, .ust_profile_flags, .ust_profile_t2, .ust_profile_t3, .ust_profile_t4,
      .ust_profile_a1, .ust_profile_a2, .ust_profile_a3, .ust_htrip_input, .trv_boot_slot, .trv_boot_en,
      .trv_boot_used, .trv_inforce_slot, .trv_inforce_inline, .trv_inforce_idle, .trv_inforce_circuits,
      .fbk_status_state, .fbk_status_fb_ok, .fbk_status_session, .fbk_status_link, .fbk_status_reset_pend,
      .fbk_status_pw_set, .fbk_status_out_on, .fbk_status_out_wait, .fbk_status_demand, .fbk_status_pair_fault,
      .fbk_status_sources, .fbk_event_event, .fbk_log_pending, .fbk_dark_ports_dark, .fbk_not_dark_not_dark,
      .flt_status_errn, .boot_status_bank, .boot_status_fallback, .boot_status_sig_ok, .boot_status_recovery,
      .boot_status_staged_fw, .boot_status_boots, .boot_fw_ver_version, .boot_staged_ver_version]
      [.map, .loop, .trv, .host, .flt, .hkp, .fbk, .boot, .datum, .out]) ∧
  (∀ a0 s t, exec (.glbResetWrite a0) s = .next t →
    s.Frame t []
      [.flt]) ∧
  (∀ a0 a1 a2 s t, exec (.bar2Write a0 a1 a2) s = .next t →
    s.Frame t []
      [.trv]) ∧
  (∀ a0 a1 a2 a3 a4 a5 s t, exec (.faultLogRead a0 a1 a2 a3 a4 a5) s = .next t →
    s.Frame t [.mbx_status_inflight]
      [.mbx, .host, .flt, .fab, .out]) ∧
  (∀ a0 a1 a2 a3 s t, exec (.faultPolicySet a0 a1 a2 a3) s = .next t →
    s.Frame t [.mbx_status_inflight, .flt_policy_react]
      [.mbx, .host]) ∧
  (∀ a0 a1 a2 a3 s t, exec (.faultInject a0 a1 a2 a3) s = .next t →
    s.Frame t [.mbx_status_inflight]
      [.mbx, .host, .flt]) ∧
  (∀ a0 a1 a2 a3 a4 s t, exec (.fwStageFirmware a0 a1 a2 a3 a4) s = .next t →
    s.Frame t [.glb_emap_status_loaded, .glb_emap_status_source, .glb_emap_status_staged_valid,
      .glb_emap_status_check_fail, .glb_emap_status_fail_index, .glb_emap_status_fail_table,
      .glb_emap_serial_map_serial, .chp_drop_cnt_dest, .chs_qstat_depth, .chs_qstat_qdrop,
      .mbx_status_inflight, .hkp_flash_refused, .boot_status_staged_fw, .boot_status_staging,
      .boot_staged_ver_version]
      [.map, .mbx, .host, .flt, .boot, .ports, .fab, .sch]) ∧
  (∀ a0 a1 a2 a3 a4 s t, exec (.fwStageElementMap a0 a1 a2 a3 a4) s = .next t →
    s.Frame t [.glb_emap_status_loaded, .glb_emap_status_source, .glb_emap_status_staged_valid,
      .glb_emap_status_check_fail, .glb_emap_status_fail_index, .glb_emap_status_fail_table,
      .glb_emap_serial_map_serial, .chp_drop_cnt_dest, .chs_qstat_depth, .chs_qstat_qdrop,
      .mbx_status_inflight, .hkp_flash_refused, .boot_status_staged_fw, .boot_status_staging,
      .boot_staged_ver_version]
      [.map, .mbx, .host, .flt, .boot, .ports, .fab, .sch]) ∧
  (∀ a0 s t, exec (.fwActivateFirmware a0) s = .next t →
    s.Frame t [.stx_stand_status_state, .stx_sync_sync_cnt, .mbx_status_inflight, .hkp_flash_refused,
      .boot_status_activating]
      [.stand, .mbx, .host, .flt, .boot]) ∧
  (∀ a0 s t, exec (.fwActivateElementMap a0) s = .next t →
    s.Frame t [.glb_emap_status_check_fail, .glb_emap_status_fail_index, .glb_emap_status_fail_table,
      .mbx_status_inflight, .hkp_flash_refused, .boot_status_activating]
      [.map, .mbx, .host, .flt, .boot]) ∧
  (∀ a0 s t, exec (.frameBoundary a0) s = .next t →
    s.Frame t [.glb_emap_status_loaded, .glb_emap_status_source, .glb_emap_status_staged_valid,
      .glb_emap_status_check_fail, .glb_emap_status_fail_index, .glb_emap_status_fail_table,
      .glb_emap_serial_map_serial, .ust_pw_status_reload, .cal_grp_status_pos, .cal_grp_status_stopped,
      .cal_grp_status_rot_cnt, .ust_htrip_input, .glb_hcap_status_cap_act, .glb_hcap_status_limit,
      .glb_hcap_load_p_cmd, .glb_hcap_load_scale, .cal_ecal_sched_overdue, .stx_stand_status_state,
      .stx_sync_sync_cnt, .dtm_status_p_state, .dtm_status_s_state, .dtm_status_p_dom_act, .dtm_status_big_ofs,
      .dtm_status_sel_cnt, .dtm_rate_rho, .dtm_offset_offset_p, .dtm_offset_offset_s, .dtm_event_event,
      .chs_qstat_depth, .chs_qstat_qdrop, .chs_pol_status_level, .mbx_status_inflight, .flt_status_errn,
      .boot_status_activating]
      [.map, .loop, .stand, .mbx, .host, .flt, .boot, .datum, .ports, .fab, .sch, .free, .out]) ∧
  (∀ s t, exec .foresterWatchdog s = .next t →
    s.Frame t []
      [.flt]) ∧
  (∀ a0 a1 a2 a3 s t, exec (.faultNoticeReceived a0 a1 a2 a3) s = .next t →
    s.Frame t [.flt_notice_rx_cnt]
      [.flt]) ∧
  (∀ a0 a1 a2 a3 a4 a5 s t, exec (.fwBulkData a0 a1 a2 a3 a4 a5) s = .next t →
    s.Frame t [.glb_emap_status_loaded, .glb_emap_status_source, .glb_emap_status_staged_valid,
      .glb_emap_status_check_fail, .glb_emap_status_fail_index, .glb_emap_status_fail_table,
      .glb_emap_serial_map_serial, .chp_drop_cnt_dest, .chs_qstat_depth, .chs_qstat_qdrop, .hkp_flash_refused,
      .boot_status_staged_fw, .boot_status_staging, .boot_staged_ver_version]
      [.map, .flt, .boot, .ports, .fab, .sch]) ∧
  (∀ a0 a1 a2 s t, exec (.fwBulkStatus a0 a1 a2) s = .next t →
    s.Frame t [.chp_drop_cnt_dest, .chs_qstat_depth, .chs_qstat_qdrop]
      [.boot, .ports, .fab, .sch]) ∧
  (∀ a0 a1 a2 s t, exec (.fwBulkDone a0 a1 a2) s = .next t →
    s.Frame t [.mbx_status_inflight, .boot_status_staging]
      [.mbx, .boot]) ∧
  (∀ a0 s t, exec (.fwBulkTimeout a0) s = .next t →
    s.Frame t [.chp_drop_cnt_dest, .chs_qstat_depth, .chs_qstat_qdrop, .mbx_status_inflight, .boot_status_staging]
      [.mbx, .boot, .ports, .fab, .sch]) ∧
  (∀ a0 a1 a2 a3 s t, exec (.faultDetected a0 a1 a2 a3) s = .next t →
    s.Frame t [.chp_drop_cnt_dest, .chs_qstat_depth, .chs_qstat_qdrop, .mbx_status_inflight, .mbx_cq_db_cq_tail,
      .flt_status_ce, .flt_status_uc, .flt_status_ft, .flt_status_errn, .flt_status_lost, .flt_err_latch,
      .flt_err_first_src, .flt_log_seq_next, .flt_inj_arm, .flt_inj_done_cnt]
      [.map, .loop, .trv, .mbx, .rings, .host, .flt, .ports, .fab, .sch, .free, .out]) ∧
  (∀ a0 s t, exec (.faultCollectorDisagree a0) s = .next t →
    s.Frame t [.chp_drop_cnt_dest, .chs_qstat_depth, .chs_qstat_qdrop, .mbx_status_inflight, .mbx_cq_db_cq_tail,
      .flt_status_ce, .flt_status_uc, .flt_status_ft, .flt_status_errn, .flt_status_lost, .flt_err_latch,
      .flt_err_first_src, .flt_log_seq_next]
      [.mbx, .flt, .ports, .fab, .sch, .free, .out]) ∧
  (∀ s t, exec .errAckWrite s = .next t →
    s.Frame t [.flt_status_errn, .flt_err_latch]
      [.flt, .out]) ∧
  (∀ s t, exec .faultInjectArmWrite s = .next t →
    s.Frame t [.flt_inj_arm]
      [.flt]) ∧
  (∀ a0 a1 a2 a3 s t, exec (.housekeepingRound a0 a1 a2 a3) s = .next t →
    s.Frame t [.stx_tff_status_t_pd, .stx_tff_status_tfroz, .hkp_status_round, .hkp_status_warn, .hkp_status_limit,
      .hkp_status_broken, .hkp_status_sup_out, .hkp_status_throttle, .hkp_status_first_done,
      .hkp_thr_status_p_therm, .hkp_thr_status_worst, .hkp_thr_excess_excess, .hkp_event_event,
      .hkp_sns_mean_mean, .hkp_sns_status_t, .hkp_sns_status_rate, .hkp_sns_status_warn, .hkp_sns_status_limit,
      .hkp_sns_status_rise, .hkp_sns_status_broken, .hkp_sns_status_absent, .hkp_sup_status_v,
      .hkp_sup_status_out, .hkp_sup_status_out_cnt, .hkp_iact_i, .hkp_flash_inhibit]
      [.flt, .hkp, .out]) ∧
  (∀ a0 s t, exec (.doeDiscovery a0) s = .next t →
    s.Frame t []
      [.out]) ∧
  (∀ a0 s t, exec (.spdmGetVersion a0) s = .next t →
    s.Frame t []
      [.boot, .out]) ∧
  (∀ a0 s t, exec (.spdmGetCapabilities a0) s = .next t →
    s.Frame t []
      [.boot, .out]) ∧
  (∀ a0 a1 a2 a3 s t, exec (.spdmNegotiateAlgorithms a0 a1 a2 a3) s = .next t →
    s.Frame t []
      [.boot, .out]) ∧
  (∀ a0 s t, exec (.spdmGetDigests a0) s = .next t →
    s.Frame t []
      [.out]) ∧
  (∀ a0 a1 a2 a3 s t, exec (.spdmGetCertificate a0 a1 a2 a3) s = .next t →
    s.Frame t []
      [.out]) ∧
  (∀ a0 a1 a2 s t, exec (.spdmChallenge a0 a1 a2) s = .next t →
    s.Frame t []
      [.out]) ∧
  (∀ a0 a1 a2 a3 s t, exec (.spdmGetMeasurements a0 a1 a2 a3) s = .next t →
    s.Frame t []
      [.out]) ∧
  (∀ a0 s t, exec (.spdmUnsupportedRequest a0) s = .next t →
    s.Frame t []
      [.out]) ∧
  (∀ a0 s t, exec (.jtagInstructionLoad a0) s = .next t →
    s.Frame t []
      [.boot]) ∧
  (∀ a0 a1 s t, exec (.fuseProgWrite a0 a1) s = .next t →
    s.Frame t [.hkp_flash_refused, .boot_fuse_sig_enf, .boot_fuse_jtag_lock, .boot_fuse_prog_prog_fail]
      [.flt, .boot]) ∧
  (∀ a0 s t, exec (.brstEnd a0) s = .next t →
    s.Frame t [.stx_stand_status_state, .stx_sync_sync_cnt]
      [.stand, .boot]) ∧
  (∀ a0 s t, exec (.foresterRestartComplete a0) s = .next t →
    s.Frame t [.mbx_status_inflight, .hkp_flash_refused, .boot_status_bank, .boot_status_sig_ok, .boot_status_staged_fw,
      .boot_status_activating, .boot_fw_ver_version, .boot_staged_ver_version, .boot_fuse_svn_fuse,
      .boot_fuse_prog_prog_fail]
      [.mbx, .boot]) ∧
  (∀ a0 s t, exec (.flashWriteComplete a0) s = .next t →
    s.Frame t [.glb_emap_status_loaded, .glb_emap_status_source, .glb_emap_status_staged_valid,
      .glb_emap_serial_map_serial, .ust_mon_cfg_range, .ust_mon_cfg_cmp_low, .ust_mon_cfg_cmp_high,
      .ust_mon_cmp_low_na, .ust_vdac_cfg_range, .ust_vdac_status_code, .ust_vdac_status_range_act,
      .ust_vdac_status_clamp, .ust_vdac_ctrl_cleared, .ust_hpwm_mode_src, .ust_hpwm_status_hiz,
      .ust_hpwm_status_capped, .trv_inforce_slot, .trv_inforce_inline, .trv_inforce_idle,
      .trv_inforce_circuits, .chp_drop_cnt_dest, .chs_qstat_depth, .chs_qstat_qdrop, .mbx_status_inflight,
      .hkp_flash_refused, .boot_status_activating]
      [.map, .loop, .trv, .mbx, .rings, .host, .flt, .ports, .fab, .sch, .out])

/-- For an element in PARK whose requested range change has not started: at the boundary of the request's own frame
RANGE_CHANGE_START changes nothing; at any later one, the next included, it puts the requested range in force, leaves
no range change running, so no ramp, and leaves every monitor's invalid spans as they were. -/
def Obligations.RangeChangeInParkIsImmediate : Prop :=
  ∀ (e : Fin 9216) s r, (s.el e).state = 0 → (s.el e).rchg = some r → r.started = false →
    (s.loop.frames ≤ r.at0 → exec (.rangeChangeStart e) s = .next s) ∧
    (r.at0 < s.loop.frames → ∃ t, exec (.rangeChangeStart e) s = .next t ∧ t.rangeHi e = r.hi ∧ (t.el e).rchg = none ∧
      t.rd .ust_vdac_status_rchg e = s.rd .ust_vdac_status_rchg e ∧ ∀ m, (t.mon m).spans = (s.mon m).spans)

/-- For a port whose record names no gate: no request to darken it ever becomes due, so DARKENING_START with only such
requests changes nothing; it is not among the darkened ports; and wherever its darkening is asked for it is among the
ports not darkened, whose number stands at 0xA of the record that SAFETY_STATUS READ writes. -/
def Obligations.PortWithoutGateIsNotDarkenable : Prop :=
  ∀ s (port : Nat), s.gateOf port = 0xFFFF →
    (∀ at0, s.darkDue (port, at0) = false) ∧ port ∉ s.darkPorts ∧
    ((∀ w ∈ s.fbk.want, s.gateOf w.1 = 0xFFFF) → exec .darkeningStart s = .next s) ∧
    (∀ at0, (port, at0) ∈ s.fbk.want → port ∈ s.notDark) ∧
    ∀ h buf, h.remote = none → buf % 16 = 0 → s.fbk.link = true → ∃ t rec, exec (.safetyStatusRead h buf) s = .next t ∧
      t.out = (s.toHost h.mbx buf rec).out ∧
      t.host.held = (s.toHost h.mbx buf rec).host.held ∧ (rec.drop 10).take 2 = leBytes 2 s.notDark.length

/-- For a started collector with one report waiting, of an assigned source: if it is of class CE and the newest entry
of its source has the same object and a TIME at most 1 s back (less than), FAULT_DETECTED adds 1 to REPEAT of that
entry, a 16-bit count that stays at its end, takes the report, and changes nothing else. If it is of another class, or
that entry's object differs or its TIME is 1 s back or more, or its source has no entry, an entry of its own is the
newest, with the next sequence number. -/
def Obligations.CorrectedFaultsCoalesce : Prop :=
  ∀ s r, s.flt.started = true → s.flt.reports = [r] → (Config.faultRow r.src).isSome = true →
    (∀ pre e post, s.flt.log = pre ++ e :: post → e.source = r.src → (∀ x ∈ post, x.source ≠ r.src) → e.time ≤ s.datum.t →
      (repClass r = 1 → e.objKind = r.objKind → e.object = r.obj → s.datum.t < e.time + 1000000000 * tickNs →
        exec (.faultDetected [] [] none []) s = .next { s with flt := { s.flt with
          reports := [], log := pre ++ { e with reps := min 65535 (e.reps + 1) } :: post } }) ∧
      (repClass r ≠ 1 ∨ e.objKind ≠ r.objKind ∨ e.object ≠ r.obj ∨ e.time + 1000000000 * tickNs ≤ s.datum.t →
        ∃ t x, exec (.faultDetected [] [] none []) s = .next t ∧ t.flt.log.getLast? = some x ∧ x.source = r.src ∧
          x.objKind = r.objKind ∧ x.object = r.obj ∧ x.seq = s.rd .flt_log_seq_next 0)) ∧
    (repClass r ≠ 1 ∨ (∀ x ∈ s.flt.log, x.source ≠ r.src) → ∃ t x, exec (.faultDetected [] [] none []) s = .next t ∧
      t.flt.log.getLast? = some x ∧ x.source = r.src ∧ x.objKind = r.objKind ∧ x.object = r.obj ∧
      x.seq = s.rd .flt_log_seq_next 0)
end

