-- ==== Sys2Proof/Laws/Tbl.lean ====
section
/-! SUPPORT. The laws of sparse tables: what a read after a write gives, and that every operation keeps the canonical form. -/

namespace Sys2Proof.Machine

set_option Elab.async false

variable {α : Type}

/-! ## Reads after writes -/

theorem Tbl.get_drop_ne (d : α) (t : Tbl α) {k j : Nat} (h : j ≠ k) : Tbl.get d (Tbl.drop t k) j = Tbl.get d t j := by
  unfold Tbl.drop
  induction t with
  | nil => rfl
  | cons p r ih =>
    obtain ⟨i, v⟩ := p
    by_cases hi : i = k
    · subst hi
      simpa [Tbl.get, Ne.symm h] using ih
    · by_cases hj : i = j
      · subst hj
        simp [Tbl.get, hi]
      · simpa [Tbl.get, hi, hj] using ih

theorem Tbl.get_drop_same (d : α) (t : Tbl α) (k : Nat) : Tbl.get d (Tbl.drop t k) k = d := by
  unfold Tbl.drop
  induction t with
  | nil => rfl
  | cons p r ih =>
    obtain ⟨i, v⟩ := p
    by_cases hi : i = k
    · simpa [hi] using ih
    · simpa [Tbl.get, hi] using ih

theorem Tbl.get_put_ne (d : α) (t : Tbl α) {k j : Nat} (v : α) (h : j ≠ k) :
    Tbl.get d (Tbl.put t k v) j = Tbl.get d t j := by
  induction t with
  | nil => simp [Tbl.put, Tbl.get, Ne.symm h]
  | cons p r ih =>
    obtain ⟨i, w⟩ := p
    unfold Tbl.put
    split
    · simp [Tbl.get, Ne.symm h]
    · simp [Tbl.get, ih]

theorem Tbl.get_put_same (d : α) (t : Tbl α) (k : Nat) (v : α) (h : ∀ p ∈ t, p.1 ≠ k) :
    Tbl.get d (Tbl.put t k v) k = v := by
  induction t with
  | nil => simp [Tbl.put, Tbl.get]
  | cons p r ih =>
    obtain ⟨i, w⟩ := p
    unfold Tbl.put
    split
    · simp [Tbl.get]
    · have hi : i ≠ k := h (i, w) (by simp)
      simp [Tbl.get, hi, ih (fun p hp => h p (by simp [hp]))]

variable [DecidableEq α]

/-- A read of the key written gives the value written. -/
@[simp] theorem Tbl.get_set_same (d : α) (t : Tbl α) (k : Nat) (v : α) : Tbl.get d (Tbl.set d t k v) k = v := by
  unfold Tbl.set
  split
  · rename_i h; rw [h, Tbl.get_drop_same]
  · exact Tbl.get_put_same d _ k v (fun p hp => by simpa [Tbl.drop] using (List.mem_filter.mp hp).2)

/-- A read of another key is unchanged. -/
theorem Tbl.get_set_ne (d : α) (t : Tbl α) {k j : Nat} (v : α) (h : j ≠ k) :
    Tbl.get d (Tbl.set d t k v) j = Tbl.get d t j := by
  unfold Tbl.set
  split
  · exact Tbl.get_drop_ne d t h
  · rw [Tbl.get_put_ne d _ v h, Tbl.get_drop_ne d t h]

/-- A table read after one write: the value at the key written, else as before. -/
theorem Tbl.get_set (d e : α) (t : Tbl α) (k j : Nat) (v : α) (he : j = k → e = d) :
    Tbl.get e (Tbl.set d t k v) j = if j = k then v else Tbl.get e t j := by
  split
  · rename_i h; subst h; rw [he rfl]; simp
  · rename_i h
    unfold Tbl.set
    split
    · exact Tbl.get_drop_ne e t h
    · rw [Tbl.get_put_ne e _ v h, Tbl.get_drop_ne e t h]

@[simp] theorem Tbl.get_modify_same (d : α) (t : Tbl α) (k : Nat) (f : α → α) :
    Tbl.get d (Tbl.modify d t k f) k = f (Tbl.get d t k) := by
  simp [Tbl.modify]

theorem Tbl.get_modify_ne (d : α) (t : Tbl α) {k j : Nat} (f : α → α) (h : j ≠ k) :
    Tbl.get d (Tbl.modify d t k f) j = Tbl.get d t j := Tbl.get_set_ne d t _ h

omit [DecidableEq α] in
/-- A table filtered by its keys. -/
theorem Tbl.get_filter (d : α) (t : Tbl α) (q : Nat → Bool) (k : Nat) :
    Tbl.get d (t.filter (fun p => q p.1)) k = if q k then Tbl.get d t k else d := by
  induction t with
  | nil => simp [Tbl.get]
  | cons p r ih =>
    obtain ⟨j, v⟩ := p
    by_cases hj : j = k
    · subst hj
      cases hq : q j <;> simp_all [Tbl.get]
    · cases hq : q j <;> simp_all [Tbl.get]

/-! ## The canonical form -/

omit [DecidableEq α] in
theorem Tbl.rising_iff (t : Tbl α) : Tbl.rising t = true ↔ t.Pairwise (fun p q => p.1 < q.1) := by
  induction t with
  | nil => simp [Tbl.rising]
  | cons p r ih =>
    obtain ⟨i, v⟩ := p
    cases r with
    | nil => simp [Tbl.rising]
    | cons q r =>
      obtain ⟨j, w⟩ := q
      simp only [Tbl.rising, Bool.and_eq_true, decide_eq_true_eq, ih, List.pairwise_cons, List.mem_cons]
      constructor
      · rintro ⟨hij, hjr, hr⟩
        refine ⟨?_, hjr, hr⟩
        rintro p (rfl | hp)
        · exact hij
        · exact hij.trans (hjr p hp)
      · rintro ⟨hi, hjr, hr⟩
        exact ⟨hi _ (.inl rfl), hjr, hr⟩

omit [DecidableEq α] in
theorem Tbl.mem_put {t : Tbl α} {k : Nat} {v : α} {p : Nat × α} (h : p ∈ Tbl.put t k v) : p = (k, v) ∨ p ∈ t := by
  induction t with
  | nil => simpa [Tbl.put] using h
  | cons q r ih =>
    obtain ⟨i, w⟩ := q
    unfold Tbl.put at h
    split at h
    · simpa using h
    · rcases List.mem_cons.mp h with rfl | h
      · simp
      · rcases ih h with h | h
        · exact .inl h
        · exact .inr (List.mem_cons_of_mem _ h)

omit [DecidableEq α] in
/-- A filtered table keeps the rising keys. -/
theorem Tbl.rising_filter {t : Tbl α} (f : Nat × α → Bool) (h : Tbl.rising t = true) : Tbl.rising (t.filter f) = true :=
  (Tbl.rising_iff _).mpr (((Tbl.rising_iff t).mp h).filter f)

omit [DecidableEq α] in
/-- An entry put into a table without its key keeps the rising keys. -/
theorem Tbl.rising_put {t : Tbl α} {k : Nat} (v : α) (h : Tbl.rising t = true) (hk : ∀ p ∈ t, p.1 ≠ k) :
    Tbl.rising (Tbl.put t k v) = true := by
  rw [Tbl.rising_iff] at h ⊢
  induction t with
  | nil => simp [Tbl.put]
  | cons q r ih =>
    obtain ⟨i, w⟩ := q
    rw [List.pairwise_cons] at h
    unfold Tbl.put
    split
    · rename_i hlt
      rw [List.pairwise_cons, List.pairwise_cons]
      refine ⟨?_, h.1, h.2⟩
      rintro p hp
      rcases List.mem_cons.mp hp with rfl | hp
      · exact hlt
      · exact hlt.trans (h.1 p hp)
    · rename_i hge
      have hik : i < k := lt_of_le_of_ne (not_lt.mp hge) (hk (i, w) (by simp))
      rw [List.pairwise_cons]
      refine ⟨?_, ih h.2 (fun p hp => hk p (List.mem_cons_of_mem _ hp))⟩
      intro p hp
      rcases Tbl.mem_put hp with rfl | hp
      · exact hik
      · exact h.1 p hp

/-- A write keeps the rising keys. -/
theorem Tbl.rising_set {t : Tbl α} (d : α) (k : Nat) (v : α) (h : Tbl.rising t = true) :
    Tbl.rising (Tbl.set d t k v) = true := by
  unfold Tbl.set
  split
  · exact Tbl.rising_filter _ h
  · exact Tbl.rising_put v (Tbl.rising_filter _ h)
      (fun p hp => by simpa [Tbl.drop] using (List.mem_filter.mp hp).2)

/-- An entry of a table after a write is the one written, which is not what an unlisted key reads as, or was there before. -/
theorem Tbl.mem_set {t : Tbl α} {d : α} {k : Nat} {v : α} {p : Nat × α} (h : p ∈ Tbl.set d t k v) :
    (p = (k, v) ∧ v ≠ d) ∨ p ∈ t := by
  unfold Tbl.set at h
  split at h
  · exact .inr (List.mem_filter.mp h).1
  · rename_i hv
    rcases Tbl.mem_put h with h | h
    · exact .inl ⟨h, hv⟩
    · exact .inr (List.mem_filter.mp h).1

/-- A write keeps the canonical form. -/
theorem Tbl.wf_set {t : Tbl α} {dflt : Nat → α} (k : Nat) (v : α) (h : Tbl.wf dflt t = true) :
    Tbl.wf dflt (Tbl.set (dflt k) t k v) = true := by
  simp only [Tbl.wf, Bool.and_eq_true, List.all_eq_true, decide_eq_true_eq] at h ⊢
  refine ⟨Tbl.rising_set _ k v h.1, fun p hp => ?_⟩
  rcases Tbl.mem_set hp with ⟨rfl, hv⟩ | hp
  · exact hv
  · exact h.2 p hp

/-- A change of one value keeps the canonical form. -/
theorem Tbl.wf_modify {t : Tbl α} {d : α} (k : Nat) (f : α → α) (h : Tbl.wf (fun _ => d) t = true) :
    Tbl.wf (fun _ => d) (Tbl.modify d t k f) = true := Tbl.wf_set (dflt := fun _ => d) k _ h

/-- A filtered table keeps the canonical form. -/
theorem Tbl.wf_filter {t : Tbl α} {dflt : Nat → α} (f : Nat × α → Bool) (h : Tbl.wf dflt t = true) :
    Tbl.wf dflt (t.filter f) = true := by
  simp only [Tbl.wf, Bool.and_eq_true, List.all_eq_true, decide_eq_true_eq] at h ⊢
  exact ⟨Tbl.rising_filter f h.1, fun p hp => h.2 p (List.mem_filter.mp hp).1⟩

end Sys2Proof.Machine
end

