-- ==== Sys2Proof/Laws/Regs.lean ====
section
/-! SUPPORT. The laws of the register file: a field reads what was last written to it, cut to its width; other fields are
unchanged; every operation on the file keeps its canonical form. -/

namespace Sys2Proof.Machine

set_option Elab.async false

/-! ## Keys -/

theorem Fid.ctorIdx_lt (f : Fid) : f.ctorIdx < 1024 := by cases f <;> decide

theorem regKey_mod (f : Fid) (i : Nat) : regKey f i % 1024 = f.ctorIdx := by
  have h := f.ctorIdx_lt
  simp only [regKey]
  omega

theorem regKey_div (f : Fid) (i : Nat) : regKey f i / 1024 = i := by
  have h := f.ctorIdx_lt
  simp only [regKey]
  omega

/-- The key names its field. -/
@[simp] theorem regKey_fid (f : Fid) (i : Nat) : Fid.ofNat (regKey f i % 1024) = f := by
  rw [regKey_mod, Fid.ofNat_ctorIdx]

theorem regKey_inj {f g : Fid} {i j : Nat} : regKey f i = regKey g j ↔ f = g ∧ i = j := by
  constructor
  · intro h
    exact ⟨by rw [← regKey_fid f i, h, regKey_fid], by rw [← regKey_div f i, h, regKey_div]⟩
  · rintro ⟨rfl, rfl⟩; rfl

/-! ## Fields -/

/-- A field reads what was written to it, cut to its width. -/
@[simp] theorem State.rd_wr_same (s : State) (f : Fid) (i v : Nat) : (s.wr f i v).rd f i = v % 2 ^ f.width := by
  simp [State.rd, State.wr]

/-- A write to one field leaves every other field as it was. -/
theorem State.rd_wr_ne (s : State) {f g : Fid} {i j : Nat} (v : Nat) (h : ¬ (g = f ∧ j = i)) :
    (s.wr f i v).rd g j = s.rd g j := by
  unfold State.rd State.wr
  rw [Tbl.get_set _ _ _ _ _ _ (fun hk => absurd (regKey_inj.mp hk) h), if_neg (fun hk => h (regKey_inj.mp hk))]

/-- A field after a write, whichever was written. -/
theorem State.rd_wr (s : State) (f g : Fid) (i j v : Nat) :
    (s.wr f i v).rd g j = if g = f ∧ j = i then v % 2 ^ f.width else s.rd g j := by
  split
  · rename_i h; obtain ⟨rfl, rfl⟩ := h; simp
  · rename_i h; exact s.rd_wr_ne v h

/-- A flag reads what was written to it. -/
@[simp] theorem State.bit_wrBit_same (s : State) (f : Fid) (i : Nat) (b : Bool) : (s.wrBit f i b).bit f i = b := by
  have hw : 1 % 2 ^ f.width = 1 := by cases f <;> decide
  cases b <;> simp [State.bit, State.wrBit, bit01, hw]

theorem State.rd_wrBit_same (s : State) (f : Fid) (i : Nat) (b : Bool) : (s.wrBit f i b).rd f i = bit01 b := by
  have hw : 1 % 2 ^ f.width = 1 := by cases f <;> decide
  cases b <;> simp [State.wrBit, bit01, hw]

theorem State.rd_wrBit_ne (s : State) {f g : Fid} {i j : Nat} (b : Bool) (h : ¬ (g = f ∧ j = i)) :
    (s.wrBit f i b).rd g j = s.rd g j := s.rd_wr_ne _ h

/-- A field after a reset of those that `p` picks. -/
theorem State.rd_resetRegs (s : State) (p : Fid → Nat → Bool) (f : Fid) (i : Nat) :
    (s.resetRegs p).rd f i = if p f i then f.reset i else s.rd f i := by
  unfold State.rd State.resetRegs
  rw [Tbl.get_filter _ _ (fun k => !p (Fid.ofNat (k % 1024)) (k / 1024)), regKey_fid, regKey_div]
  cases p f i <;> rfl

/-! ## The canonical form of the register file -/

theorem RegsOk.nil : RegsOk [] := ⟨rfl, by simp⟩

theorem RegsOk.set {t : Tbl Nat} (f : Fid) (i v : Nat) (h : RegsOk t) :
    RegsOk (Tbl.set (f.reset i) t (regKey f i) (v % 2 ^ f.width)) := by
  have hd : regDflt (regKey f i) = f.reset i := by simp [regDflt, regKey_div]
  refine ⟨hd ▸ Tbl.wf_set (dflt := regDflt) _ _ h.1, fun p hp => ?_⟩
  rcases Tbl.mem_set hp with ⟨rfl, _⟩ | hp
  · simpa using Nat.mod_lt _ (Nat.two_pow_pos _)
  · exact h.2 p hp

theorem RegsOk.filter {t : Tbl Nat} (q : Nat × Nat → Bool) (h : RegsOk t) : RegsOk (t.filter q) :=
  ⟨Tbl.wf_filter q h.1, fun p hp => h.2 p (List.mem_filter.mp hp).1⟩

/-! ## Operations that leave the register file alone -/

@[simp] theorem State.emit_regs (s : State) (o : Output) : (s.emit o).regs = s.regs := rfl
@[simp] theorem State.useFree_regs (s : State) : s.useFree.regs = s.regs := rfl
@[simp] theorem State.report_regs (s : State) (r : FaultRep) : (s.report r).regs = s.regs := rfl
@[simp] theorem State.emit_rd (s : State) (o : Output) (f : Fid) (i : Nat) : (s.emit o).rd f i = s.rd f i := rfl
@[simp] theorem State.report_rd (s : State) (r : FaultRep) (f : Fid) (i : Nat) : (s.report r).rd f i = s.rd f i := rfl
@[simp] theorem State.report_reports (s : State) (r : FaultRep) : (s.report r).flt.reports = s.flt.reports ++ [r] := rfl
@[simp] theorem State.emit_out (s : State) (o : Output) : (s.emit o).out = s.out ++ [o] := rfl

/-! ## Writes leave every other part of the state alone -/

@[simp] theorem State.wr_pending (s : State) (f : Fid) (i v : Nat) : (s.wr f i v).pending = s.pending := rfl
@[simp] theorem State.wr_out (s : State) (f : Fid) (i v : Nat) : (s.wr f i v).out = s.out := rfl
@[simp] theorem State.wr_free (s : State) (f : Fid) (i v : Nat) : (s.wr f i v).free = s.free := rfl
@[simp] theorem State.wr_map (s : State) (f : Fid) (i v : Nat) : (s.wr f i v).map = s.map := rfl
@[simp] theorem State.wr_loop (s : State) (f : Fid) (i v : Nat) : (s.wr f i v).loop = s.loop := rfl
@[simp] theorem State.wr_trv (s : State) (f : Fid) (i v : Nat) : (s.wr f i v).trv = s.trv := rfl
@[simp] theorem State.wr_stand (s : State) (f : Fid) (i v : Nat) : (s.wr f i v).stand = s.stand := rfl
@[simp] theorem State.wr_mbx (s : State) (f : Fid) (i v : Nat) : (s.wr f i v).mbx = s.mbx := rfl
@[simp] theorem State.wr_rings (s : State) (f : Fid) (i v : Nat) : (s.wr f i v).rings = s.rings := rfl
@[simp] theorem State.wr_host (s : State) (f : Fid) (i v : Nat) : (s.wr f i v).host = s.host := rfl
@[simp] theorem State.wr_flt (s : State) (f : Fid) (i v : Nat) : (s.wr f i v).flt = s.flt := rfl
@[simp] theorem State.wr_hkp (s : State) (f : Fid) (i v : Nat) : (s.wr f i v).hkp = s.hkp := rfl
@[simp] theorem State.wr_fbk (s : State) (f : Fid) (i v : Nat) : (s.wr f i v).fbk = s.fbk := rfl
@[simp] theorem State.wr_boot (s : State) (f : Fid) (i v : Nat) : (s.wr f i v).boot = s.boot := rfl
@[simp] theorem State.wr_datum (s : State) (f : Fid) (i v : Nat) : (s.wr f i v).datum = s.datum := rfl
@[simp] theorem State.wr_ports (s : State) (f : Fid) (i v : Nat) : (s.wr f i v).ports = s.ports := rfl
@[simp] theorem State.wr_fab (s : State) (f : Fid) (i v : Nat) : (s.wr f i v).fab = s.fab := rfl
@[simp] theorem State.wr_sch (s : State) (f : Fid) (i v : Nat) : (s.wr f i v).sch = s.sch := rfl

/-! ## Reset values -/

/-- A row of R435 fits the fields of FLT_POLICY. -/
theorem faultRow_fits {i : Nat} {r} (h : Config.faultRow i = some r) : r.dflt < 128 ∧ r.mand < 128 ∧ r.cls < 4 := by
  have h1 : r ∈ Config.faultTable0 ++ Config.faultTable1 := List.mem_of_find?_eq_some h
  have h2 : ∀ r ∈ Config.faultTable0 ++ Config.faultTable1, r.dflt < 128 ∧ r.mand < 128 ∧ r.cls < 4 := by decide
  exact h2 r h1

/-- An entry of a list whose members lie below a bound, or the default 0, lies below it. -/
theorem getD_zero_lt (l : List Nat) (n b : Nat) (h : ∀ x ∈ l, x < b) (hb : 0 < b) : l.getD n 0 < b := by
  rw [List.getD_eq_getElem?_getD]
  cases h1 : l[n]? with
  | none => simpa using hb
  | some x => simpa using h x (List.mem_of_getElem? h1)

/-- The reset value of every other field is the same at every index. -/
theorem Fid.reset_const (f : Fid) (i j : Nat) (h : f ∉ ([.stx_stand_status_state, .ust_hpwm_mode_stag, .stx_tff_cfg_sensor, .chp_uid_uid, .chs_gcl_admin_interval, .chs_gcl_oper_interval, .chs_gcl_admin_gates,
      .chs_gcl_oper_gates, .mbx_tags_tag_count,
      .flt_policy_react, .flt_policy_mand, .flt_policy_class, .flt_policy_perm,
      .hkp_sns_lim_warn, .hkp_sns_lim_limit, .hkp_sns_cfg_thr, .hkp_sns_cfg_rate_max, .hkp_sns_cfg_thr_en, .hkp_sns_cfg_cpt, .hkp_sup_win_lo, .hkp_sup_win_hi] : List Fid)) :
    f.reset i = f.reset j := by
  cases f <;> first | rfl | exact absurd (by decide) h

/-- The reset value at index 0 fits the field. -/
theorem Fid.reset_zero_lt (f : Fid) (h : f ≠ .chp_uid_uid) : f.reset 0 < 2 ^ f.width := by
  cases f <;> first | decide | exact absurd rfl h

/-- Every reset value fits its field. -/
theorem Fid.reset_lt (f : Fid) (i : Nat) : f.reset i < 2 ^ f.width := by
  cases f
  case stx_stand_status_state => show (if i / 65536 = 0 then 3 else 1) < 8; split <;> decide
  case ust_hpwm_mode_stag => exact Nat.mod_lt _ (by decide)
  case stx_tff_cfg_sensor => exact Nat.mod_lt _ (by decide)
  case chp_uid_uid => exact Config.uidBits.isLt
  case chs_gcl_admin_interval => show (if i % 64 = 0 then 0x200 else if i % 64 = 1 then 0xE00 else 0) < 2 ^ 24; split <;> [decide; (split <;> decide)]
  case chs_gcl_oper_interval => show (if i % 64 = 0 then 0x200 else if i % 64 = 1 then 0xE00 else 0) < 2 ^ 24; split <;> [decide; (split <;> decide)]
  case chs_gcl_admin_gates => show (if i % 64 = 0 then 0xC0 else if i % 64 = 1 then 0xFF else 0) < 2 ^ 8; split <;> [decide; (split <;> decide)]
  case chs_gcl_oper_gates => show (if i % 64 = 0 then 0xC0 else if i % 64 = 1 then 0xFF else 0) < 2 ^ 8; split <;> [decide; (split <;> decide)]
  case mbx_tags_tag_count => show (if i = 0 then 4096 else 0) < 2 ^ 13; split <;> decide
  case flt_policy_react =>
    show Config.defaultReact i < 2 ^ 7; unfold Config.defaultReact
    split
    · exact (faultRow_fits ‹_›).1
    · decide
  case flt_policy_mand =>
    show Config.mandReact i < 2 ^ 7; unfold Config.mandReact
    split
    · exact (faultRow_fits ‹_›).2.1
    · decide
  case flt_policy_class =>
    show Config.faultClassCode i < 4; unfold Config.faultClassCode
    split
    · exact (faultRow_fits ‹_›).2.2
    · decide
  case flt_policy_perm =>
    show Config.permReact i < 2 ^ 7; unfold Config.permReact
    split
    · decide
    · split <;> split <;> split <;> decide
  case hkp_sns_lim_warn => show (if i < 16 then 10000 else 7500) < 2 ^ 16; split <;> decide
  case hkp_sns_lim_limit => show (if i < 8 then 11000 else if i < 16 then 11500 else 9000) < 2 ^ 16; split <;> [decide; (split <;> decide)]
  case hkp_sns_cfg_thr => show (if i < 8 then 10000 else if i < 16 then 9500 else 6500) < 2 ^ 16; split <;> [decide; (split <;> decide)]
  case hkp_sns_cfg_rate_max => show (if i < 16 then 100 else 50) < 2 ^ 8; split <;> decide
  case hkp_sns_cfg_thr_en => show (if i < 8 then 0 else 1) < 2; split <;> decide
  case hkp_sns_cfg_cpt =>
    show (if i < 8 then 0 else if i < 16 then 2 ^ ((i - 8) / 2) else 2 ^ ((i - 16) % 4)) < 2 ^ 4
    split
    · decide
    · split
      · exact Nat.pow_lt_pow_right (by decide) (by omega)
      · exact Nat.pow_lt_pow_right (by decide) (by omega)
  case hkp_sup_win_lo => exact getD_zero_lt _ _ _ (by decide) (by decide)
  case hkp_sup_win_hi => exact getD_zero_lt _ _ _ (by decide) (by decide)
  all_goals exact lt_of_eq_of_lt (Fid.reset_const _ i 0 (by decide)) (Fid.reset_zero_lt _ (by decide))

end Sys2Proof.Machine
end

