-- ==== Sys2Proof/Laws/State.lean ====
section
/-! SUPPORT. The laws of the parts of the state beside the register file: what each named update changes and what it leaves,
and what completing a command does. -/

namespace Sys2Proof.Machine

set_option Elab.async false

/-! ## Mailboxes -/

@[simp] theorem State.wr_mb (s : State) (f : Fid) (i v m : Nat) : (s.wr f i v).mb m = s.mb m := rfl
@[simp] theorem State.wr_ring (s : State) (f : Fid) (i v k : Nat) : (s.wr f i v).ring k = s.ring k := rfl

@[simp] theorem State.modMb_mb_same (s : State) (m : Nat) (f : Mbx → Mbx) : (s.modMb m f).mb m = f (s.mb m) := by
  simp [State.mb, State.modMb, Tbl.get_modify_same]

theorem State.modMb_mb_ne (s : State) {m n : Nat} (f : Mbx → Mbx) (h : n ≠ m) : (s.modMb m f).mb n = s.mb n := by
  simp [State.mb, State.modMb, Tbl.get_modify_ne, h]

theorem State.modMb_rd (s : State) {m : Nat} (f : Mbx → Mbx) {g : Fid} {i : Nat}
    (h : ¬ (g = .mbx_status_inflight ∧ i = m)) : (s.modMb m f).rd g i = s.rd g i := by
  unfold State.modMb
  exact State.rd_wr_ne _ _ h

@[simp] theorem State.modMb_host (s : State) (m : Nat) (f : Mbx → Mbx) : (s.modMb m f).host = s.host := rfl

theorem State.modMb_rest (s : State) (m : Nat) (f : Mbx → Mbx) :
    s.modMb m f = { s with regs := (s.modMb m f).regs, mbx := (s.modMb m f).mbx } := rfl

/-! ## Completing a command (R384) -/

theorem State.finish_rest (s : State) (o : Owner) (c : Completion) :
    s.finish o c = { s with regs := (s.finish o c).regs, mbx := (s.finish o c).mbx } := rfl

theorem State.finish_finished {s : State} {h : Hdr} {f : Flight} (c : Completion) (hf : s.flightOf h = some f) :
    (s.finish ⟨h.mbx, f.id⟩ c).Finished h c := by
  have hp := List.find?_some hf
  simp only [Bool.and_eq_true, beq_iff_eq, decide_eq_true_eq] at hp
  refine ⟨{ f with eff := true, comp := some c }, ?_, hp.1.1, hp.2, rfl, rfl⟩
  unfold State.finish
  rw [State.modMb_mb_same]
  exact List.mem_map.mpr ⟨f, List.mem_of_find?_eq_some hf, by simp [hp.1.2]⟩

theorem State.entered_flightOf (s : State) (h : Hdr) :
    ∃ f, (s.entered h).flightOf h = some f ∧ (s.entered h).ownerOf h = ⟨h.mbx, f.id⟩ := by
  have key : ∃ f, (s.entered h).flightOf h = some f := by
    unfold State.entered
    split
    · rename_i f hf; exact ⟨f, hf⟩
    · rename_i hf
      refine ⟨{ id := s.host.nextId, tag := h.tag, imm := h.imm, remote := h.remote }, ?_⟩
      have e : ∀ (t : State) (x : HostSt), ({ t with host := x } : State).flightOf h = t.flightOf h := fun _ _ => rfl
      rw [e]
      unfold State.flightOf at hf ⊢
      rw [State.modMb_mb_same]
      rw [List.find?_append, hf]
      simp
  obtain ⟨f, hf⟩ := key
  exact ⟨f, hf, by simp [State.ownerOf, hf]⟩

theorem State.entered_mbxBut (s : State) (h : Hdr) : s.MbxBut (s.entered h) h.mbx := by
  unfold State.entered
  split
  · exact ⟨fun _ _ => rfl, rfl⟩
  · have e : ∀ (t : State) (x : HostSt) (n : Nat), ({ t with host := x } : State).mb n = t.mb n := fun _ _ _ => rfl
    refine ⟨fun n hn => ?_, ?_⟩
    · rw [e, State.modMb_mb_ne _ _ hn]
    · rw [e, State.modMb_mb_same]

theorem State.entered_regs (s : State) (h : Hdr) {f : Fid} {i : Nat} (hn : ¬ (f = .mbx_status_inflight ∧ i = h.mbx)) :
    (s.entered h).rd f i = s.rd f i := by
  unfold State.entered
  split
  · rfl
  · exact State.modMb_rd s (fun m => { m with flight := m.flight ++
      [{ id := s.host.nextId, tag := h.tag, imm := h.imm, remote := h.remote }] }) hn

theorem State.entered_rest (s : State) (h : Hdr) :
    s.entered h = { s with regs := (s.entered h).regs, mbx := (s.entered h).mbx, host := (s.entered h).host } := by
  unfold State.entered
  split <;> rfl

theorem State.entered_host (s : State) (h : Hdr) : { (s.entered h).host with nextId := s.host.nextId } = s.host := by
  unfold State.entered
  split <;> rfl

/-- Completing a command does that and nothing else. -/
theorem State.complete_completed (s : State) (h : Hdr) (c : Completion) : s.Completed (s.complete h c) h c := by
  obtain ⟨f, hf, ho⟩ := s.entered_flightOf h
  have hc : s.complete h c = (s.entered h).finish ⟨h.mbx, f.id⟩ c := by rw [← ho]; rfl
  have hm := s.entered_mbxBut h
  refine ⟨hc ▸ State.finish_finished c hf, fun g i hn => ?_, ⟨fun n hn => ?_, ?_⟩, ?_, ?_⟩
  · rw [hc]; unfold State.finish; rw [State.modMb_rd _ _ hn, State.entered_regs _ _ hn]
  · rw [hc]; unfold State.finish; rw [State.modMb_mb_ne _ _ hn, hm.1 n hn]
  · rw [hc]; unfold State.finish; rw [State.modMb_mb_same]; exact hm.2
  · rw [hc]; exact s.entered_host h
  · rw [hc, State.finish_rest]
    conv_lhs => rw [State.entered_rest]
    rfl

theorem State.status_completed (s : State) (h : Hdr) (st : Status) :
    s.Completed (s.status h st) h { status := st } := s.complete_completed h _

/-! ## What the operations on commands leave alone -/
@[simp] theorem State.modMb_map (s : State) (m : Nat) (f : Mbx → Mbx) : (s.modMb m f).map = s.map := rfl
@[simp] theorem State.modMb_loop (s : State) (m : Nat) (f : Mbx → Mbx) : (s.modMb m f).loop = s.loop := rfl
@[simp] theorem State.modMb_trv (s : State) (m : Nat) (f : Mbx → Mbx) : (s.modMb m f).trv = s.trv := rfl
@[simp] theorem State.modMb_stand (s : State) (m : Nat) (f : Mbx → Mbx) : (s.modMb m f).stand = s.stand := rfl
@[simp] theorem State.modMb_rings (s : State) (m : Nat) (f : Mbx → Mbx) : (s.modMb m f).rings = s.rings := rfl
@[simp] theorem State.modMb_flt (s : State) (m : Nat) (f : Mbx → Mbx) : (s.modMb m f).flt = s.flt := rfl
@[simp] theorem State.modMb_hkp (s : State) (m : Nat) (f : Mbx → Mbx) : (s.modMb m f).hkp = s.hkp := rfl
@[simp] theorem State.modMb_fbk (s : State) (m : Nat) (f : Mbx → Mbx) : (s.modMb m f).fbk = s.fbk := rfl
@[simp] theorem State.modMb_boot (s : State) (m : Nat) (f : Mbx → Mbx) : (s.modMb m f).boot = s.boot := rfl
@[simp] theorem State.modMb_datum (s : State) (m : Nat) (f : Mbx → Mbx) : (s.modMb m f).datum = s.datum := rfl
@[simp] theorem State.modMb_ports (s : State) (m : Nat) (f : Mbx → Mbx) : (s.modMb m f).ports = s.ports := rfl
@[simp] theorem State.modMb_fab (s : State) (m : Nat) (f : Mbx → Mbx) : (s.modMb m f).fab = s.fab := rfl
@[simp] theorem State.modMb_sch (s : State) (m : Nat) (f : Mbx → Mbx) : (s.modMb m f).sch = s.sch := rfl
@[simp] theorem State.modMb_free (s : State) (m : Nat) (f : Mbx → Mbx) : (s.modMb m f).free = s.free := rfl
@[simp] theorem State.modMb_out (s : State) (m : Nat) (f : Mbx → Mbx) : (s.modMb m f).out = s.out := rfl
@[simp] theorem State.modMb_pending (s : State) (m : Nat) (f : Mbx → Mbx) : (s.modMb m f).pending = s.pending := rfl

@[simp] theorem State.finish_map (s : State) (o : Owner) (c : Completion) : (s.finish o c).map = s.map := rfl
@[simp] theorem State.finish_loop (s : State) (o : Owner) (c : Completion) : (s.finish o c).loop = s.loop := rfl
@[simp] theorem State.finish_trv (s : State) (o : Owner) (c : Completion) : (s.finish o c).trv = s.trv := rfl
@[simp] theorem State.finish_stand (s : State) (o : Owner) (c : Completion) : (s.finish o c).stand = s.stand := rfl
@[simp] theorem State.finish_rings (s : State) (o : Owner) (c : Completion) : (s.finish o c).rings = s.rings := rfl
@[simp] theorem State.finish_host (s : State) (o : Owner) (c : Completion) : (s.finish o c).host = s.host := rfl
@[simp] theorem State.finish_flt (s : State) (o : Owner) (c : Completion) : (s.finish o c).flt = s.flt := rfl
@[simp] theorem State.finish_hkp (s : State) (o : Owner) (c : Completion) : (s.finish o c).hkp = s.hkp := rfl
@[simp] theorem State.finish_fbk (s : State) (o : Owner) (c : Completion) : (s.finish o c).fbk = s.fbk := rfl
@[simp] theorem State.finish_boot (s : State) (o : Owner) (c : Completion) : (s.finish o c).boot = s.boot := rfl
@[simp] theorem State.finish_datum (s : State) (o : Owner) (c : Completion) : (s.finish o c).datum = s.datum := rfl
@[simp] theorem State.finish_ports (s : State) (o : Owner) (c : Completion) : (s.finish o c).ports = s.ports := rfl
@[simp] theorem State.finish_fab (s : State) (o : Owner) (c : Completion) : (s.finish o c).fab = s.fab := rfl
@[simp] theorem State.finish_sch (s : State) (o : Owner) (c : Completion) : (s.finish o c).sch = s.sch := rfl
@[simp] theorem State.finish_free (s : State) (o : Owner) (c : Completion) : (s.finish o c).free = s.free := rfl
@[simp] theorem State.finish_out (s : State) (o : Owner) (c : Completion) : (s.finish o c).out = s.out := rfl
@[simp] theorem State.finish_pending (s : State) (o : Owner) (c : Completion) : (s.finish o c).pending = s.pending := rfl

@[simp] theorem State.effect_map (s : State) (o : Owner) : (s.effect o).map = s.map := rfl
@[simp] theorem State.effect_loop (s : State) (o : Owner) : (s.effect o).loop = s.loop := rfl
@[simp] theorem State.effect_trv (s : State) (o : Owner) : (s.effect o).trv = s.trv := rfl
@[simp] theorem State.effect_stand (s : State) (o : Owner) : (s.effect o).stand = s.stand := rfl
@[simp] theorem State.effect_rings (s : State) (o : Owner) : (s.effect o).rings = s.rings := rfl
@[simp] theorem State.effect_host (s : State) (o : Owner) : (s.effect o).host = s.host := rfl
@[simp] theorem State.effect_flt (s : State) (o : Owner) : (s.effect o).flt = s.flt := rfl
@[simp] theorem State.effect_hkp (s : State) (o : Owner) : (s.effect o).hkp = s.hkp := rfl
@[simp] theorem State.effect_fbk (s : State) (o : Owner) : (s.effect o).fbk = s.fbk := rfl
@[simp] theorem State.effect_boot (s : State) (o : Owner) : (s.effect o).boot = s.boot := rfl
@[simp] theorem State.effect_datum (s : State) (o : Owner) : (s.effect o).datum = s.datum := rfl
@[simp] theorem State.effect_ports (s : State) (o : Owner) : (s.effect o).ports = s.ports := rfl
@[simp] theorem State.effect_fab (s : State) (o : Owner) : (s.effect o).fab = s.fab := rfl
@[simp] theorem State.effect_sch (s : State) (o : Owner) : (s.effect o).sch = s.sch := rfl
@[simp] theorem State.effect_free (s : State) (o : Owner) : (s.effect o).free = s.free := rfl
@[simp] theorem State.effect_out (s : State) (o : Owner) : (s.effect o).out = s.out := rfl
@[simp] theorem State.effect_pending (s : State) (o : Owner) : (s.effect o).pending = s.pending := rfl

@[simp] theorem State.entered_map (s : State) (h : Hdr) : (s.entered h).map = s.map := by
  unfold State.entered; split <;> rfl
@[simp] theorem State.entered_loop (s : State) (h : Hdr) : (s.entered h).loop = s.loop := by
  unfold State.entered; split <;> rfl
@[simp] theorem State.entered_trv (s : State) (h : Hdr) : (s.entered h).trv = s.trv := by
  unfold State.entered; split <;> rfl
@[simp] theorem State.entered_stand (s : State) (h : Hdr) : (s.entered h).stand = s.stand := by
  unfold State.entered; split <;> rfl
@[simp] theorem State.entered_rings (s : State) (h : Hdr) : (s.entered h).rings = s.rings := by
  unfold State.entered; split <;> rfl
@[simp] theorem State.entered_flt (s : State) (h : Hdr) : (s.entered h).flt = s.flt := by
  unfold State.entered; split <;> rfl
@[simp] theorem State.entered_hkp (s : State) (h : Hdr) : (s.entered h).hkp = s.hkp := by
  unfold State.entered; split <;> rfl
@[simp] theorem State.entered_fbk (s : State) (h : Hdr) : (s.entered h).fbk = s.fbk := by
  unfold State.entered; split <;> rfl
@[simp] theorem State.entered_boot (s : State) (h : Hdr) : (s.entered h).boot = s.boot := by
  unfold State.entered; split <;> rfl
@[simp] theorem State.entered_datum (s : State) (h : Hdr) : (s.entered h).datum = s.datum := by
  unfold State.entered; split <;> rfl
@[simp] theorem State.entered_ports (s : State) (h : Hdr) : (s.entered h).ports = s.ports := by
  unfold State.entered; split <;> rfl
@[simp] theorem State.entered_fab (s : State) (h : Hdr) : (s.entered h).fab = s.fab := by
  unfold State.entered; split <;> rfl
@[simp] theorem State.entered_sch (s : State) (h : Hdr) : (s.entered h).sch = s.sch := by
  unfold State.entered; split <;> rfl
@[simp] theorem State.entered_free (s : State) (h : Hdr) : (s.entered h).free = s.free := by
  unfold State.entered; split <;> rfl
@[simp] theorem State.entered_out (s : State) (h : Hdr) : (s.entered h).out = s.out := by
  unfold State.entered; split <;> rfl
@[simp] theorem State.entered_pending (s : State) (h : Hdr) : (s.entered h).pending = s.pending := by
  unfold State.entered; split <;> rfl

@[simp] theorem State.complete_map (s : State) (h : Hdr) (c : Completion) : (s.complete h c).map = s.map := s.entered_map h
@[simp] theorem State.complete_loop (s : State) (h : Hdr) (c : Completion) : (s.complete h c).loop = s.loop := s.entered_loop h
@[simp] theorem State.complete_trv (s : State) (h : Hdr) (c : Completion) : (s.complete h c).trv = s.trv := s.entered_trv h
@[simp] theorem State.complete_stand (s : State) (h : Hdr) (c : Completion) : (s.complete h c).stand = s.stand := s.entered_stand h
@[simp] theorem State.complete_rings (s : State) (h : Hdr) (c : Completion) : (s.complete h c).rings = s.rings := s.entered_rings h
@[simp] theorem State.complete_flt (s : State) (h : Hdr) (c : Completion) : (s.complete h c).flt = s.flt := s.entered_flt h
@[simp] theorem State.complete_hkp (s : State) (h : Hdr) (c : Completion) : (s.complete h c).hkp = s.hkp := s.entered_hkp h
@[simp] theorem State.complete_fbk (s : State) (h : Hdr) (c : Completion) : (s.complete h c).fbk = s.fbk := s.entered_fbk h
@[simp] theorem State.complete_boot (s : State) (h : Hdr) (c : Completion) : (s.complete h c).boot = s.boot := s.entered_boot h
@[simp] theorem State.complete_datum (s : State) (h : Hdr) (c : Completion) : (s.complete h c).datum = s.datum := s.entered_datum h
@[simp] theorem State.complete_ports (s : State) (h : Hdr) (c : Completion) : (s.complete h c).ports = s.ports := s.entered_ports h
@[simp] theorem State.complete_fab (s : State) (h : Hdr) (c : Completion) : (s.complete h c).fab = s.fab := s.entered_fab h
@[simp] theorem State.complete_sch (s : State) (h : Hdr) (c : Completion) : (s.complete h c).sch = s.sch := s.entered_sch h
@[simp] theorem State.complete_free (s : State) (h : Hdr) (c : Completion) : (s.complete h c).free = s.free := s.entered_free h
@[simp] theorem State.complete_out (s : State) (h : Hdr) (c : Completion) : (s.complete h c).out = s.out := s.entered_out h
@[simp] theorem State.complete_pending (s : State) (h : Hdr) (c : Completion) : (s.complete h c).pending = s.pending := s.entered_pending h

@[simp] theorem State.status_map (s : State) (h : Hdr) (st : Status) : (s.status h st).map = s.map := s.entered_map h
@[simp] theorem State.status_loop (s : State) (h : Hdr) (st : Status) : (s.status h st).loop = s.loop := s.entered_loop h
@[simp] theorem State.status_trv (s : State) (h : Hdr) (st : Status) : (s.status h st).trv = s.trv := s.entered_trv h
@[simp] theorem State.status_stand (s : State) (h : Hdr) (st : Status) : (s.status h st).stand = s.stand := s.entered_stand h
@[simp] theorem State.status_rings (s : State) (h : Hdr) (st : Status) : (s.status h st).rings = s.rings := s.entered_rings h
@[simp] theorem State.status_flt (s : State) (h : Hdr) (st : Status) : (s.status h st).flt = s.flt := s.entered_flt h
@[simp] theorem State.status_hkp (s : State) (h : Hdr) (st : Status) : (s.status h st).hkp = s.hkp := s.entered_hkp h
@[simp] theorem State.status_fbk (s : State) (h : Hdr) (st : Status) : (s.status h st).fbk = s.fbk := s.entered_fbk h
@[simp] theorem State.status_boot (s : State) (h : Hdr) (st : Status) : (s.status h st).boot = s.boot := s.entered_boot h
@[simp] theorem State.status_datum (s : State) (h : Hdr) (st : Status) : (s.status h st).datum = s.datum := s.entered_datum h
@[simp] theorem State.status_ports (s : State) (h : Hdr) (st : Status) : (s.status h st).ports = s.ports := s.entered_ports h
@[simp] theorem State.status_fab (s : State) (h : Hdr) (st : Status) : (s.status h st).fab = s.fab := s.entered_fab h
@[simp] theorem State.status_sch (s : State) (h : Hdr) (st : Status) : (s.status h st).sch = s.sch := s.entered_sch h
@[simp] theorem State.status_free (s : State) (h : Hdr) (st : Status) : (s.status h st).free = s.free := s.entered_free h
@[simp] theorem State.status_out (s : State) (h : Hdr) (st : Status) : (s.status h st).out = s.out := s.entered_out h
@[simp] theorem State.status_pending (s : State) (h : Hdr) (st : Status) : (s.status h st).pending = s.pending := s.entered_pending h

theorem State.finish_rd (s : State) (o : Owner) (c : Completion) {f : Fid} {i : Nat} (h : f ≠ .mbx_status_inflight) :
    (s.finish o c).rd f i = s.rd f i := State.modMb_rd _ _ (fun e => h e.1)

theorem State.effect_rd (s : State) (o : Owner) {f : Fid} {i : Nat} (h : f ≠ .mbx_status_inflight) :
    (s.effect o).rd f i = s.rd f i := State.modMb_rd _ _ (fun e => h e.1)

theorem State.entered_rd (s : State) (h : Hdr) {f : Fid} {i : Nat} (hf : f ≠ .mbx_status_inflight) :
    (s.entered h).rd f i = s.rd f i := State.entered_regs s h (fun e => hf e.1)

theorem State.complete_rd (s : State) (h : Hdr) (c : Completion) {f : Fid} {i : Nat} (hf : f ≠ .mbx_status_inflight) :
    (s.complete h c).rd f i = s.rd f i := (s.complete_completed h c).regs f i (fun e => hf e.1)

theorem State.status_rd (s : State) (h : Hdr) (st : Status) {f : Fid} {i : Nat} (hf : f ≠ .mbx_status_inflight) :
    (s.status h st).rd f i = s.rd f i := (s.status_completed h st).regs f i (fun e => hf e.1)

/-- The operation of an owner ends with its result. -/
theorem State.finish_concludes (s : State) (o : Owner) (c : Completion) : s.Concludes (s.finish o c) o c := by
  intro f hf hi hc
  unfold State.finish
  rw [State.modMb_mb_same]
  exact List.mem_map.mpr ⟨f, hf, by simp [hi, hc]⟩

theorem State.complete_finished (s : State) (h : Hdr) (c : Completion) : (s.complete h c).Finished h c :=
  (s.complete_completed h c).finished

theorem State.status_finished (s : State) (h : Hdr) (st : Status) : (s.status h st).Finished h { status := st } :=
  (s.status_completed h st).finished

/-! ## Guards -/

/-- A command whose checks all pass has its effect. -/
theorem State.checked_pass (s : State) (h : Hdr) (l : List (Bool × Status)) (e : State → State)
    (hl : ∀ p ∈ l, p.1 = false) : s.checked h l e = e s := by
  have : firstStatus l = none := by
    induction l with
    | nil => rfl
    | cons p r ih =>
      simp only [firstStatus, hl p (List.mem_cons_self ..)]
      exact ih (fun q hq => hl q (List.mem_cons_of_mem _ hq))
  simp [State.checked, this]

end Sys2Proof.Machine
end

