-- ==== Sys2Proof/Laws/Evolves.lean ====
section
/-! SUPPORT. What every operation of the block leaves of the state before it: the queue untouched, the outputs only added to,
free values only used up, the register file in canonical form, and every register field and part of the state that is not
in the operation's own mask. One lemma an operation (name_evolves) and one a meaning (name_goes), by which a statement
about every step, or a frame, is proved without unfolding any of them. -/

namespace Sys2Proof.Machine

set_option Elab.async false
set_option exponentiation.threshold 1024

/-- What an operation that may change only what the mask `M` names leaves of the state before it: bits 0 to 16 name the parts
of the state in their order, bit 17 + n the register field with constructor number n. -/
structure Evolves (M : Nat) (s t : State) : Prop where
  pending : t.pending = s.pending
  outs : s.out <+: t.out
  frees : s.free ≤ t.free
  regs : RegsOk s.regs → RegsOk t.regs
  rd : ∀ f i, M.testBit (17 + f.ctorIdx) = false → t.rd f i = s.rd f i
  map : M.testBit 0 = false → t.map = s.map
  loop : M.testBit 1 = false → t.loop = s.loop
  trv : M.testBit 2 = false → t.trv = s.trv
  stand : M.testBit 3 = false → t.stand = s.stand
  mbx : M.testBit 4 = false → t.mbx = s.mbx
  rings : M.testBit 5 = false → t.rings = s.rings
  host : M.testBit 6 = false → t.host = s.host
  flt : M.testBit 7 = false → t.flt = s.flt
  hkp : M.testBit 8 = false → t.hkp = s.hkp
  fbk : M.testBit 9 = false → t.fbk = s.fbk
  boot : M.testBit 10 = false → t.boot = s.boot
  datum : M.testBit 11 = false → t.datum = s.datum
  ports : M.testBit 12 = false → t.ports = s.ports
  fab : M.testBit 13 = false → t.fab = s.fab
  sch : M.testBit 14 = false → t.sch = s.sch
  free : M.testBit 15 = false → t.free = s.free
  out : M.testBit 16 = false → t.out = s.out

/-- An answer that is a next state which evolves from `s`. -/
def Goes (M : Nat) (s : State) (r : Result) : Prop := ∃ t, r = .next t ∧ Evolves M s t

/-! ## Masks -/

theorem mask_trans {a b c : Nat} (h : a &&& b = a) (k : b &&& c = b) : a &&& c = a := by
  rw [← h, Nat.and_assoc, k]

theorem mask_bit {W M k : Nat} (h : W &&& M = W) (hk : W.testBit k = true) : M.testBit k = true := by
  rw [← h, Nat.testBit_and] at hk
  simp only [Bool.and_eq_true] at hk
  exact hk.2

/-- A mask that names every register field. -/
theorem mask_all {W M : Nat} (h : W &&& M = W) (hw : (W >>> 17) % 2 ^ 1024 = 2 ^ 1024 - 1) (f : Fid) :
    M.testBit (17 + f.ctorIdx) = true := by
  refine mask_bit h ?_
  have hb : ((W >>> 17) % 2 ^ 1024).testBit f.ctorIdx = true := by
    rw [hw, Nat.testBit_two_pow_sub_one]
    exact decide_eq_true f.ctorIdx_lt
  rw [Nat.testBit_mod_two_pow, Bool.and_eq_true, Nat.testBit_shiftRight] at hb
  exact hb.2

variable {M : Nat} {o : State}

theorem Evolves.refl (s : State) : Evolves M s s := by
  constructor <;> first | rfl | (intros; rfl) | exact List.prefix_refl _ | exact Nat.le_refl _ | exact id

theorem Goes.next {t : State} (h : Evolves M o t) : Goes M o (.next t) := ⟨t, rfl, h⟩

/-- A state that takes its register file, outputs, free values and queue from one that evolves, and each other part from it,
from another that evolves, or by its mask. -/
theorem Evolves.parts {s : State} (h : Evolves M o s) (map loop trv stand mbx rings host flt hkp fbk boot datum ports fab sch)
    (h0 : map = s.map ∨ (M.testBit 0 = false → map = o.map))
    (h1 : loop = s.loop ∨ (M.testBit 1 = false → loop = o.loop))
    (h2 : trv = s.trv ∨ (M.testBit 2 = false → trv = o.trv))
    (h3 : stand = s.stand ∨ (M.testBit 3 = false → stand = o.stand))
    (h4 : mbx = s.mbx ∨ (M.testBit 4 = false → mbx = o.mbx))
    (h5 : rings = s.rings ∨ (M.testBit 5 = false → rings = o.rings))
    (h6 : host = s.host ∨ (M.testBit 6 = false → host = o.host))
    (h7 : flt = s.flt ∨ (M.testBit 7 = false → flt = o.flt))
    (h8 : hkp = s.hkp ∨ (M.testBit 8 = false → hkp = o.hkp))
    (h9 : fbk = s.fbk ∨ (M.testBit 9 = false → fbk = o.fbk))
    (h10 : boot = s.boot ∨ (M.testBit 10 = false → boot = o.boot))
    (h11 : datum = s.datum ∨ (M.testBit 11 = false → datum = o.datum))
    (h12 : ports = s.ports ∨ (M.testBit 12 = false → ports = o.ports))
    (h13 : fab = s.fab ∨ (M.testBit 13 = false → fab = o.fab))
    (h14 : sch = s.sch ∨ (M.testBit 14 = false → sch = o.sch)) :
    Evolves M o ⟨s.regs, map, loop, trv, stand, mbx, rings, host, flt, hkp, fbk, boot, datum, ports, fab, sch, s.free,
      s.out, s.pending⟩ := by
  refine ⟨h.pending, h.outs, h.frees, h.regs, h.rd, ?_, ?_, ?_, ?_, ?_, ?_, ?_, ?_, ?_, ?_, ?_, ?_, ?_, ?_, ?_, h.free, h.out⟩
  · exact h0.elim (fun e k => e.trans (h.map k)) id
  · exact h1.elim (fun e k => e.trans (h.loop k)) id
  · exact h2.elim (fun e k => e.trans (h.trv k)) id
  · exact h3.elim (fun e k => e.trans (h.stand k)) id
  · exact h4.elim (fun e k => e.trans (h.mbx k)) id
  · exact h5.elim (fun e k => e.trans (h.rings k)) id
  · exact h6.elim (fun e k => e.trans (h.host k)) id
  · exact h7.elim (fun e k => e.trans (h.flt k)) id
  · exact h8.elim (fun e k => e.trans (h.hkp k)) id
  · exact h9.elim (fun e k => e.trans (h.fbk k)) id
  · exact h10.elim (fun e k => e.trans (h.boot k)) id
  · exact h11.elim (fun e k => e.trans (h.datum k)) id
  · exact h12.elim (fun e k => e.trans (h.ports k)) id
  · exact h13.elim (fun e k => e.trans (h.fab k)) id
  · exact h14.elim (fun e k => e.trans (h.sch k)) id

/-- A part that the operation's mask names may change. -/
theorem mask_part {W M k : Nat} {α : Type} {a b c : α} (h : W &&& M = W) (hk : W.testBit k = true) :
    a = b ∨ (M.testBit k = false → a = c) :=
  Or.inr fun hf => absurd (mask_bit h hk) (by simp [hf])

theorem Evolves.ite {a b : State} {c : Prop} [Decidable c] (ha : Evolves M o a) (hb : Evolves M o b) :
    Evolves M o (if c then a else b) := by
  split <;> assumption

theorem Evolves.foldl {α : Type} {s : State} {f : State → α → State} (l : List α) (h : Evolves M o s)
    (hf : ∀ t a, Evolves M o t → Evolves M o (f t a)) : Evolves M o (l.foldl f s) := by
  induction l generalizing s with
  | nil => exact h
  | cons a r ih => exact ih (hf s a h)

theorem State.wr_evolves {s : State} (f i v) (h : Evolves M o s) (hb : M.testBit (17 + f.ctorIdx) = true) :
    Evolves M o (s.wr f i v) := by
  refine ⟨h.pending, h.outs, h.frees, fun k => (h.regs k).set f i v, fun g j hg => ?_, h.map, h.loop, h.trv, h.stand, h.mbx, h.rings,
    h.host, h.flt, h.hkp, h.fbk, h.boot, h.datum, h.ports, h.fab, h.sch, h.free, h.out⟩
  rw [State.rd_wr_ne _ _ (fun e => by rw [e.1, hb] at hg; cases hg)]
  exact h.rd g j hg

theorem State.resetRegs_evolves {s : State} (p) (h : Evolves M o s)
    (hp : ∀ f i, p f i = true → M.testBit (17 + f.ctorIdx) = true) : Evolves M o (s.resetRegs p) := by
  refine ⟨h.pending, h.outs, h.frees, fun k => (h.regs k).filter _, fun g j hg => ?_, h.map, h.loop, h.trv, h.stand, h.mbx, h.rings,
    h.host, h.flt, h.hkp, h.fbk, h.boot, h.datum, h.ports, h.fab, h.sch, h.free, h.out⟩
  rw [State.rd_resetRegs, if_neg (fun e => by rw [hp g j e] at hg; cases hg)]
  exact h.rd g j hg

theorem State.emit_evolves {s : State} (x) (h : Evolves M o s) (hb : M.testBit 16 = true) : Evolves M o (s.emit x) := by
  refine ⟨h.pending, h.outs.trans (List.prefix_append _ _), h.frees, h.regs, h.rd, h.map, h.loop, h.trv, h.stand, h.mbx, h.rings,
    h.host, h.flt, h.hkp, h.fbk, h.boot, h.datum, h.ports, h.fab, h.sch, h.free, fun k => absurd hb (by simp [k])⟩

theorem State.useFree_evolves {s : State} (h : Evolves M o s) (hb : M.testBit 15 = true) : Evolves M o s.useFree := by
  refine ⟨h.pending, h.outs, Nat.le_succ_of_le h.frees, h.regs, h.rd, h.map, h.loop, h.trv, h.stand, h.mbx, h.rings,
    h.host, h.flt, h.hkp, h.fbk, h.boot, h.datum, h.ports, h.fab, h.sch, fun k => absurd hb (by simp [k]), h.out⟩

end Sys2Proof.Machine
end

