-- ==== Sys2Proof/Laws/EvolvesA.lean ====
section
/-! SUPPORT. What each operation and meaning of the files Ops, Flags, Rings, SchedOps, ChainOps, FaultOps, Hkp, LoopOps leaves of the state before it
(Evolves). -/

namespace Sys2Proof.Machine

set_option Elab.async false
set_option linter.unusedTactic false
set_option linter.unreachableTactic false
set_option linter.unusedVariables false
set_option linter.unusedSimpArgs false
set_option exponentiation.threshold 1024

variable {M : Nat} {o : State}

/-! ## Ops -/

theorem State.wrBit_evolves {s : State} (a1 a2 a3) (h : Evolves M o s) (hb1 : M.testBit (17 + (a1 : Fid).ctorIdx) = true)
    (hm : 0x0 &&& M = 0x0) :
    Evolves M o (State.wrBit s a1 a2 a3) := by
  unfold State.wrBit
  try dsimp only
  repeat' first
    | (intro _)
    | with_reducible first
        | assumption | apply State.wr_evolves | apply Evolves.ite | apply Evolves.foldl
    | exact mask_trans (by decide) hm
    | exact mask_bit hm (by decide)
    | fail_if_no_progress beta_reduce
    | split
    | fail_if_no_progress with_reducible apply Evolves.parts
    | exact Or.inl (by with_reducible rfl)
    | exact mask_part hm (by decide)

theorem State.sat_evolves {s : State} (a1 a2) (h : Evolves M o s) (hb1 : M.testBit (17 + (a1 : Fid).ctorIdx) = true)
    (hm : 0x0 &&& M = 0x0) :
    Evolves M o (State.sat s a1 a2) := by
  unfold State.sat
  try dsimp only
  repeat' first
    | (intro _)
    | with_reducible first
        | assumption | apply State.wr_evolves | apply Evolves.ite | apply Evolves.foldl
    | exact mask_trans (by decide) hm
    | exact mask_bit hm (by decide)
    | fail_if_no_progress beta_reduce
    | split
    | fail_if_no_progress with_reducible apply Evolves.parts
    | exact Or.inl (by with_reducible rfl)
    | exact mask_part hm (by decide)

theorem State.inc_evolves {s : State} (a1 a2) (h : Evolves M o s) (hb1 : M.testBit (17 + (a1 : Fid).ctorIdx) = true)
    (hm : 0x0 &&& M = 0x0) :
    Evolves M o (State.inc s a1 a2) := by
  unfold State.inc
  try dsimp only
  repeat' first
    | (intro _)
    | with_reducible first
        | assumption | apply State.wr_evolves | apply Evolves.ite | apply Evolves.foldl
    | exact mask_trans (by decide) hm
    | exact mask_bit hm (by decide)
    | fail_if_no_progress beta_reduce
    | split
    | fail_if_no_progress with_reducible apply Evolves.parts
    | exact Or.inl (by with_reducible rfl)
    | exact mask_part hm (by decide)

theorem State.report_evolves {s : State} (a1) (h : Evolves M o s)
    (hm : 0x80 &&& M = 0x80) :
    Evolves M o (State.report s a1) := by
  unfold State.report
  try dsimp only
  repeat' first
    | (intro _)
    | with_reducible first
        | assumption | apply Evolves.ite | apply Evolves.foldl
    | exact mask_trans (by decide) hm
    | exact mask_bit hm (by decide)
    | fail_if_no_progress beta_reduce
    | split
    | fail_if_no_progress with_reducible apply Evolves.parts
    | exact Or.inl (by with_reducible rfl)
    | exact mask_part hm (by decide)

theorem State.modMb_evolves {s : State} (a1 a2) (h : Evolves M o s)
    (hm : 0x400000000000000000000000000000000000000000000000000000000000000000000000000000000000000000000000010 &&& M = 0x400000000000000000000000000000000000000000000000000000000000000000000000000000000000000000000000010) :
    Evolves M o (State.modMb s a1 a2) := by
  unfold State.modMb
  try dsimp only
  repeat' first
    | (intro _)
    | with_reducible first
        | assumption | apply State.wr_evolves | apply Evolves.ite | apply Evolves.foldl
    | exact mask_trans (by decide) hm
    | exact mask_bit hm (by decide)
    | fail_if_no_progress beta_reduce
    | split
    | fail_if_no_progress with_reducible apply Evolves.parts
    | exact Or.inl (by with_reducible rfl)
    | exact mask_part hm (by decide)

theorem State.entered_evolves {s : State} (a1) (h : Evolves M o s)
    (hm : 0x400000000000000000000000000000000000000000000000000000000000000000000000000000000000000000000000050 &&& M = 0x400000000000000000000000000000000000000000000000000000000000000000000000000000000000000000000000050) :
    Evolves M o (State.entered s a1) := by
  unfold State.entered
  try dsimp only
  repeat' first
    | (intro _)
    | with_reducible first
        | assumption | apply State.modMb_evolves | apply Evolves.ite | apply Evolves.foldl
    | exact mask_trans (by decide) hm
    | exact mask_bit hm (by decide)
    | fail_if_no_progress beta_reduce
    | split
    | fail_if_no_progress with_reducible apply Evolves.parts
    | exact Or.inl (by with_reducible rfl)
    | exact mask_part hm (by decide)

theorem State.finish_evolves {s : State} (a1 a2) (h : Evolves M o s)
    (hm : 0x400000000000000000000000000000000000000000000000000000000000000000000000000000000000000000000000010 &&& M = 0x400000000000000000000000000000000000000000000000000000000000000000000000000000000000000000000000010) :
    Evolves M o (State.finish s a1 a2) := by
  unfold State.finish
  try dsimp only
  repeat' first
    | (intro _)
    | with_reducible first
        | assumption | apply State.modMb_evolves | apply Evolves.ite | apply Evolves.foldl
    | exact mask_trans (by decide) hm
    | exact mask_bit hm (by decide)
    | fail_if_no_progress beta_reduce
    | split
    | fail_if_no_progress with_reducible apply Evolves.parts
    | exact Or.inl (by with_reducible rfl)
    | exact mask_part hm (by decide)

theorem State.effect_evolves {s : State} (a1) (h : Evolves M o s)
    (hm : 0x400000000000000000000000000000000000000000000000000000000000000000000000000000000000000000000000010 &&& M = 0x400000000000000000000000000000000000000000000000000000000000000000000000000000000000000000000000010) :
    Evolves M o (State.effect s a1) := by
  unfold State.effect
  try dsimp only
  repeat' first
    | (intro _)
    | with_reducible first
        | assumption | apply State.modMb_evolves | apply Evolves.ite | apply Evolves.foldl
    | exact mask_trans (by decide) hm
    | exact mask_bit hm (by decide)
    | fail_if_no_progress beta_reduce
    | split
    | fail_if_no_progress with_reducible apply Evolves.parts
    | exact Or.inl (by with_reducible rfl)
    | exact mask_part hm (by decide)

theorem State.complete_evolves {s : State} (a1 a2) (h : Evolves M o s)
    (hm : 0x400000000000000000000000000000000000000000000000000000000000000000000000000000000000000000000000050 &&& M = 0x400000000000000000000000000000000000000000000000000000000000000000000000000000000000000000000000050) :
    Evolves M o (State.complete s a1 a2) := by
  unfold State.complete
  try dsimp only
  repeat' first
    | (intro _)
    | with_reducible first
        | assumption | apply State.finish_evolves | apply State.entered_evolves | apply Evolves.ite
        | apply Evolves.foldl
    | exact mask_trans (by decide) hm
    | exact mask_bit hm (by decide)
    | fail_if_no_progress beta_reduce
    | split
    | fail_if_no_progress with_reducible apply Evolves.parts
    | exact Or.inl (by with_reducible rfl)
    | exact mask_part hm (by decide)

theorem State.status_evolves {s : State} (a1 a2) (h : Evolves M o s)
    (hm : 0x400000000000000000000000000000000000000000000000000000000000000000000000000000000000000000000000050 &&& M = 0x400000000000000000000000000000000000000000000000000000000000000000000000000000000000000000000000050) :
    Evolves M o (State.status s a1 a2) := by
  unfold State.status
  try dsimp only
  repeat' first
    | (intro _)
    | with_reducible first
        | assumption | apply State.complete_evolves | apply Evolves.ite | apply Evolves.foldl
    | exact mask_trans (by decide) hm
    | exact mask_bit hm (by decide)
    | fail_if_no_progress beta_reduce
    | split
    | fail_if_no_progress with_reducible apply Evolves.parts
    | exact Or.inl (by with_reducible rfl)
    | exact mask_part hm (by decide)

theorem State.checked_evolves {s : State} (a1 c) {e : State → State} (h : Evolves M o s)
    (he : ∀ t, Evolves M o t → Evolves M o (e t))
    (hm : 0x400000000000000000000000000000000000000000000000000000000000000000000000000000000000000000000000050 &&& M = 0x400000000000000000000000000000000000000000000000000000000000000000000000000000000000000000000000050) :
    Evolves M o (State.checked s a1 c e) := by
  unfold State.checked
  try dsimp only
  repeat' first
    | (intro _)
    | with_reducible first
        | assumption | apply he | apply State.status_evolves | apply Evolves.ite | apply Evolves.foldl
    | exact mask_trans (by decide) hm
    | exact mask_bit hm (by decide)
    | fail_if_no_progress beta_reduce
    | split
    | fail_if_no_progress with_reducible apply Evolves.parts
    | exact Or.inl (by with_reducible rfl)
    | exact mask_part hm (by decide)

theorem State.toHost_evolves {s : State} (a1 a2 a3) (h : Evolves M o s)
    (hm : 0x10040 &&& M = 0x10040) :
    Evolves M o (State.toHost s a1 a2 a3) := by
  unfold State.toHost
  try dsimp only
  repeat' first
    | (intro _)
    | with_reducible first
        | assumption | apply State.emit_evolves | apply Evolves.ite | apply Evolves.foldl
    | exact mask_trans (by decide) hm
    | exact mask_bit hm (by decide)
    | fail_if_no_progress beta_reduce
    | split
    | fail_if_no_progress with_reducible apply Evolves.parts
    | exact Or.inl (by with_reducible rfl)
    | exact mask_part hm (by decide)

theorem State.hostWrite_evolves {s : State} (a1 a2 a3) (h : Evolves M o s)
    (hm : 0x12040 &&& M = 0x12040) :
    Evolves M o (State.hostWrite s a1 a2 a3) := by
  unfold State.hostWrite
  try dsimp only
  repeat' first
    | (intro _)
    | with_reducible first
        | assumption | apply State.toHost_evolves | apply Evolves.ite | apply Evolves.foldl
    | exact mask_trans (by decide) hm
    | exact mask_bit hm (by decide)
    | fail_if_no_progress beta_reduce
    | split
    | fail_if_no_progress with_reducible apply Evolves.parts
    | exact Or.inl (by with_reducible rfl)
    | exact mask_part hm (by decide)

/-! ## Flags -/

theorem State.event_evolves {s : State} (a1 a2 a3 a4 a5) (h : Evolves M o s) (hb1 : M.testBit (17 + (a1 : Fid).ctorIdx) = true)
    (hm : 0x10000 &&& M = 0x10000) :
    Evolves M o (State.event s a1 a2 a3 a4 a5) := by
  unfold State.event
  try dsimp only
  repeat' first
    | (intro _)
    | with_reducible first
        | assumption | apply State.wr_evolves | apply State.emit_evolves | apply Evolves.ite | apply Evolves.foldl
    | exact mask_trans (by decide) hm
    | exact mask_bit hm (by decide)
    | fail_if_no_progress beta_reduce
    | split
    | fail_if_no_progress with_reducible apply Evolves.parts
    | exact Or.inl (by with_reducible rfl)
    | exact mask_part hm (by decide)

theorem State.dtmEvent_evolves {s : State} (a1) (h : Evolves M o s)
    (hm : 0x20000000000000000000000000000000000000000000000000000000000010000 &&& M = 0x20000000000000000000000000000000000000000000000000000000000010000) :
    Evolves M o (State.dtmEvent s a1) := by
  unfold State.dtmEvent
  try dsimp only
  repeat' first
    | (intro _)
    | with_reducible first
        | assumption | apply State.event_evolves | apply Evolves.ite | apply Evolves.foldl
    | exact mask_trans (by decide) hm
    | exact mask_bit hm (by decide)
    | fail_if_no_progress beta_reduce
    | split
    | fail_if_no_progress with_reducible apply Evolves.parts
    | exact Or.inl (by with_reducible rfl)
    | exact mask_part hm (by decide)

theorem State.chpEvent_evolves {s : State} (a1 a2) (h : Evolves M o s)
    (hm : 0x20000000000000000000000000000000000000000000000000000000000000000000000000000010000 &&& M = 0x20000000000000000000000000000000000000000000000000000000000000000000000000000010000) :
    Evolves M o (State.chpEvent s a1 a2) := by
  unfold State.chpEvent
  try dsimp only
  repeat' first
    | (intro _)
    | with_reducible first
        | assumption | apply State.event_evolves | apply Evolves.ite | apply Evolves.foldl
    | exact mask_trans (by decide) hm
    | exact mask_bit hm (by decide)
    | fail_if_no_progress beta_reduce
    | split
    | fail_if_no_progress with_reducible apply Evolves.parts
    | exact Or.inl (by with_reducible rfl)
    | exact mask_part hm (by decide)

theorem State.hkpEvent_evolves {s : State} (a1) (h : Evolves M o s)
    (hm : 0x800000000000000000000000000000000000000000000000000000000000000000000000000000000000000000000000000000000000000000010000 &&& M = 0x800000000000000000000000000000000000000000000000000000000000000000000000000000000000000000000000000000000000000000010000) :
    Evolves M o (State.hkpEvent s a1) := by
  unfold State.hkpEvent
  try dsimp only
  repeat' first
    | (intro _)
    | with_reducible first
        | assumption | apply State.event_evolves | apply Evolves.ite | apply Evolves.foldl
    | exact mask_trans (by decide) hm
    | exact mask_bit hm (by decide)
    | fail_if_no_progress beta_reduce
    | split
    | fail_if_no_progress with_reducible apply Evolves.parts
    | exact Or.inl (by with_reducible rfl)
    | exact mask_part hm (by decide)

theorem State.fbkEvent_evolves {s : State} (a1) (h : Evolves M o s)
    (hm : 0x80000000000000000000000000000000000000000000000000000000000000000000000000000000000000000000000000000010000 &&& M = 0x80000000000000000000000000000000000000000000000000000000000000000000000000000000000000000000000000000010000) :
    Evolves M o (State.fbkEvent s a1) := by
  unfold State.fbkEvent
  try dsimp only
  repeat' first
    | (intro _)
    | with_reducible first
        | assumption | apply State.event_evolves | apply Evolves.ite | apply Evolves.foldl
    | exact mask_trans (by decide) hm
    | exact mask_bit hm (by decide)
    | fail_if_no_progress beta_reduce
    | split
    | fail_if_no_progress with_reducible apply Evolves.parts
    | exact Or.inl (by with_reducible rfl)
    | exact mask_part hm (by decide)

/-! ## Rings -/

theorem State.postEntry_evolves {s : State} (a1 a2 a3) (h : Evolves M o s)
    (hm : 0x100400000000000000000000000000000000000000000000000000000000000000000000000000000000000000000000010010 &&& M = 0x100400000000000000000000000000000000000000000000000000000000000000000000000000000000000000000000010010) :
    Evolves M o (State.postEntry s a1 a2 a3) := by
  unfold State.postEntry
  try dsimp only
  repeat' first
    | (intro _)
    | with_reducible first
        | assumption | apply State.emit_evolves | apply State.modMb_evolves | apply State.wr_evolves
        | apply Evolves.ite | apply Evolves.foldl
    | exact mask_trans (by decide) hm
    | exact mask_bit hm (by decide)
    | fail_if_no_progress beta_reduce
    | split
    | fail_if_no_progress with_reducible apply Evolves.parts
    | exact Or.inl (by with_reducible rfl)
    | exact mask_part hm (by decide)

theorem State.postUpTo_evolves {s : State} (m k) (h : Evolves M o s)
    (hm : 0x100400000000000000000000000000000000000000000000000000000000000000000000000000000000000000000000010010 &&& M = 0x100400000000000000000000000000000000000000000000000000000000000000000000000000000000000000000000010010) :
    Evolves M o (State.postUpTo s m k) := by
  induction k generalizing s with
  | zero =>
    unfold State.postUpTo
    try dsimp only
    repeat' first
      | (intro _)
      | with_reducible first
          | assumption | apply State.postEntry_evolves | apply Evolves.ite | apply Evolves.foldl
      | exact mask_trans (by decide) hm
      | exact mask_bit hm (by decide)
      | fail_if_no_progress beta_reduce
      | split
      | fail_if_no_progress with_reducible apply Evolves.parts
      | exact Or.inl (by with_reducible rfl)
      | exact mask_part hm (by decide)
  | succ k ih =>
    unfold State.postUpTo
    try dsimp only
    repeat' first
      | (intro _)
      | with_reducible first
          | assumption | apply ih | apply State.postEntry_evolves | apply Evolves.ite | apply Evolves.foldl
      | exact mask_trans (by decide) hm
      | exact mask_bit hm (by decide)
      | fail_if_no_progress beta_reduce
      | split
      | fail_if_no_progress with_reducible apply Evolves.parts
      | exact Or.inl (by with_reducible rfl)
      | exact mask_part hm (by decide)

theorem State.setLevel_evolves {s : State} (a1 a2) (h : Evolves M o s)
    (hm : 0x400800000000000000000000000000000000000000000000000000000000000000000000000000000000000000000000010 &&& M = 0x400800000000000000000000000000000000000000000000000000000000000000000000000000000000000000000000010) :
    Evolves M o (State.setLevel s a1 a2) := by
  unfold State.setLevel
  try dsimp only
  repeat' first
    | (intro _)
    | with_reducible first
        | assumption | apply State.wr_evolves | apply State.modMb_evolves | apply Evolves.ite | apply Evolves.foldl
    | exact mask_trans (by decide) hm
    | exact mask_bit hm (by decide)
    | fail_if_no_progress beta_reduce
    | split
    | fail_if_no_progress with_reducible apply Evolves.parts
    | exact Or.inl (by with_reducible rfl)
    | exact mask_part hm (by decide)

theorem State.fillBucket_evolves {s : State} (a1) (h : Evolves M o s)
    (hm : 0x400800000000000000000000000000000000000000000000000000000000000000000000000000000000000000000000010 &&& M = 0x400800000000000000000000000000000000000000000000000000000000000000000000000000000000000000000000010) :
    Evolves M o (State.fillBucket s a1) := by
  unfold State.fillBucket
  try dsimp only
  repeat' first
    | (intro _)
    | with_reducible first
        | assumption | apply State.setLevel_evolves | apply Evolves.ite | apply Evolves.foldl
    | exact mask_trans (by decide) hm
    | exact mask_bit hm (by decide)
    | fail_if_no_progress beta_reduce
    | split
    | fail_if_no_progress with_reducible apply Evolves.parts
    | exact Or.inl (by with_reducible rfl)
    | exact mask_part hm (by decide)

theorem State.setHeld_evolves {s : State} (a1 a2) (h : Evolves M o s)
    (hm : 0x201000000000000000000000000000000000000000000000000000000000000000000000000000000000000000000000000 &&& M = 0x201000000000000000000000000000000000000000000000000000000000000000000000000000000000000000000000000) :
    Evolves M o (State.setHeld s a1 a2) := by
  unfold State.setHeld
  try dsimp only
  repeat' first
    | (intro _)
    | with_reducible first
        | assumption | apply State.wrBit_evolves | apply Evolves.ite | apply Evolves.foldl
    | exact mask_trans (by decide) hm
    | exact mask_bit hm (by decide)
    | fail_if_no_progress beta_reduce
    | split
    | fail_if_no_progress with_reducible apply Evolves.parts
    | exact Or.inl (by with_reducible rfl)
    | exact mask_part hm (by decide)

theorem State.ringWriteBack_evolves {s : State} (a1) (h : Evolves M o s)
    (hm : 0x10040 &&& M = 0x10040) :
    Evolves M o (State.ringWriteBack s a1) := by
  unfold State.ringWriteBack
  try dsimp only
  repeat' first
    | (intro _)
    | with_reducible first
        | assumption | apply State.toHost_evolves | apply Evolves.ite | apply Evolves.foldl
    | exact mask_trans (by decide) hm
    | exact mask_bit hm (by decide)
    | fail_if_no_progress beta_reduce
    | split
    | fail_if_no_progress with_reducible apply Evolves.parts
    | exact Or.inl (by with_reducible rfl)
    | exact mask_part hm (by decide)

theorem State.ringWrite_evolves {s : State} (a1 a2) (h : Evolves M o s)
    (hm : 0x10060 &&& M = 0x10060) :
    Evolves M o (State.ringWrite s a1 a2) := by
  unfold State.ringWrite
  try dsimp only
  repeat' first
    | (intro _)
    | with_reducible first
        | assumption | apply State.ringWriteBack_evolves | apply State.toHost_evolves | apply Evolves.ite
        | apply Evolves.foldl
    | exact mask_trans (by decide) hm
    | exact mask_bit hm (by decide)
    | fail_if_no_progress beta_reduce
    | split
    | fail_if_no_progress with_reducible apply Evolves.parts
    | exact Or.inl (by with_reducible rfl)
    | exact mask_part hm (by decide)

theorem State.ringRaise_evolves {s : State} (a1) (h : Evolves M o s)
    (hm : 0x10020 &&& M = 0x10020) :
    Evolves M o (State.ringRaise s a1) := by
  unfold State.ringRaise
  try dsimp only
  repeat' first
    | (intro _)
    | with_reducible first
        | assumption | apply State.emit_evolves | apply Evolves.ite | apply Evolves.foldl
    | exact mask_trans (by decide) hm
    | exact mask_bit hm (by decide)
    | fail_if_no_progress beta_reduce
    | split
    | fail_if_no_progress with_reducible apply Evolves.parts
    | exact Or.inl (by with_reducible rfl)
    | exact mask_part hm (by decide)

/-! ## SchedOps -/

theorem State.modSp_evolves {s : State} (a1 a2) (h : Evolves M o s)
    (hm : 0x4000 &&& M = 0x4000) :
    Evolves M o (State.modSp s a1 a2) := by
  unfold State.modSp
  try dsimp only
  repeat' first
    | (intro _)
    | with_reducible first
        | assumption | apply Evolves.ite | apply Evolves.foldl
    | exact mask_trans (by decide) hm
    | exact mask_bit hm (by decide)
    | fail_if_no_progress beta_reduce
    | split
    | fail_if_no_progress with_reducible apply Evolves.parts
    | exact Or.inl (by with_reducible rfl)
    | exact mask_part hm (by decide)

theorem State.showDepth_evolves {s : State} (a1 a2) (h : Evolves M o s)
    (hm : 0x1000000000000000000000000000000000000000000000000000000000000000000000000000000000000000000000 &&& M = 0x1000000000000000000000000000000000000000000000000000000000000000000000000000000000000000000000) :
    Evolves M o (State.showDepth s a1 a2) := by
  unfold State.showDepth
  try dsimp only
  repeat' first
    | (intro _)
    | with_reducible first
        | assumption | apply State.wr_evolves | apply Evolves.ite | apply Evolves.foldl
    | exact mask_trans (by decide) hm
    | exact mask_bit hm (by decide)
    | fail_if_no_progress beta_reduce
    | split
    | fail_if_no_progress with_reducible apply Evolves.parts
    | exact Or.inl (by with_reducible rfl)
    | exact mask_part hm (by decide)

theorem State.setQueue_evolves {s : State} (a1 a2 a3) (h : Evolves M o s)
    (hm : 0x1000000000000000000000000000000000000000000000000000000000000000000000000000000000000000004000 &&& M = 0x1000000000000000000000000000000000000000000000000000000000000000000000000000000000000000004000) :
    Evolves M o (State.setQueue s a1 a2 a3) := by
  unfold State.setQueue
  try dsimp only
  repeat' first
    | (intro _)
    | with_reducible first
        | assumption | apply State.showDepth_evolves | apply State.modSp_evolves | apply Evolves.ite
        | apply Evolves.foldl
    | exact mask_trans (by decide) hm
    | exact mask_bit hm (by decide)
    | fail_if_no_progress beta_reduce
    | split
    | fail_if_no_progress with_reducible apply Evolves.parts
    | exact Or.inl (by with_reducible rfl)
    | exact mask_part hm (by decide)

theorem State.enqueue_evolves {s : State} (a1 a2 a3) (h : Evolves M o s)
    (hm : 0x5000000000000000000000000000000000000000000000000000000000000000000000000000000000000000004000 &&& M = 0x5000000000000000000000000000000000000000000000000000000000000000000000000000000000000000004000) :
    Evolves M o (State.enqueue s a1 a2 a3) := by
  unfold State.enqueue
  try dsimp only
  repeat' first
    | (intro _)
    | with_reducible first
        | assumption | apply State.modSp_evolves | apply State.setQueue_evolves | apply State.sat_evolves
        | apply Evolves.ite | apply Evolves.foldl
    | exact mask_trans (by decide) hm
    | exact mask_bit hm (by decide)
    | fail_if_no_progress beta_reduce
    | split
    | fail_if_no_progress with_reducible apply Evolves.parts
    | exact Or.inl (by with_reducible rfl)
    | exact mask_part hm (by decide)

theorem State.drainCrown_evolves {s : State} (p c k) (h : Evolves M o s)
    (hm : 0x1000000000000000000000000000000000000000000000000000000000000000000000000000000000000000004000 &&& M = 0x1000000000000000000000000000000000000000000000000000000000000000000000000000000000000000004000) :
    Evolves M o (State.drainCrown s p c k) := by
  induction k generalizing s with
  | zero =>
    unfold State.drainCrown
    try dsimp only
    repeat' first
      | (intro _)
      | with_reducible first
          | assumption | apply State.modSp_evolves | apply State.setQueue_evolves | apply Evolves.ite
          | apply Evolves.foldl
      | exact mask_trans (by decide) hm
      | exact mask_bit hm (by decide)
      | fail_if_no_progress beta_reduce
      | split
      | fail_if_no_progress with_reducible apply Evolves.parts
      | exact Or.inl (by with_reducible rfl)
      | exact mask_part hm (by decide)
  | succ k ih =>
    unfold State.drainCrown
    try dsimp only
    repeat' first
      | (intro _)
      | with_reducible first
          | assumption | apply ih | apply State.modSp_evolves | apply State.setQueue_evolves | apply Evolves.ite
          | apply Evolves.foldl
      | exact mask_trans (by decide) hm
      | exact mask_bit hm (by decide)
      | fail_if_no_progress beta_reduce
      | split
      | fail_if_no_progress with_reducible apply Evolves.parts
      | exact Or.inl (by with_reducible rfl)
      | exact mask_part hm (by decide)

theorem State.emptyQueues_evolves {s : State} (a1) (h : Evolves M o s)
    (hm : 0x1000000000000010000000000000000000000000000000000000000000000000000000000000000000000000004000 &&& M = 0x1000000000000010000000000000000000000000000000000000000000000000000000000000000000000000004000) :
    Evolves M o (State.emptyQueues s a1) := by
  unfold State.emptyQueues
  try dsimp only
  repeat' first
    | (intro _)
    | with_reducible first
        | assumption | apply State.setQueue_evolves | apply State.wr_evolves | apply State.modSp_evolves
        | apply Evolves.ite | apply Evolves.foldl
    | exact mask_trans (by decide) hm
    | exact mask_bit hm (by decide)
    | fail_if_no_progress beta_reduce
    | split
    | fail_if_no_progress with_reducible apply Evolves.parts
    | exact Or.inl (by with_reducible rfl)
    | exact mask_part hm (by decide)

theorem State.sendWrap_evolves {s : State} (a1 a2) (h : Evolves M o s)
    (hm : 0x8000000000000000000000000000000000000000000000000000000000000000000000000000000000000014000 &&& M = 0x8000000000000000000000000000000000000000000000000000000000000000000000000000000000000014000) :
    Evolves M o (State.sendWrap s a1 a2) := by
  unfold State.sendWrap
  try dsimp only
  repeat' first
    | (intro _)
    | with_reducible first
        | assumption | apply State.emit_evolves | apply State.sat_evolves | apply State.modSp_evolves
        | apply Evolves.ite | apply Evolves.foldl
    | exact mask_trans (by decide) hm
    | exact mask_bit hm (by decide)
    | fail_if_no_progress beta_reduce
    | split
    | fail_if_no_progress with_reducible apply Evolves.parts
    | exact Or.inl (by with_reducible rfl)
    | exact mask_part hm (by decide)

/-! ## ChainOps -/

theorem State.modPort_evolves {s : State} (a1 a2) (h : Evolves M o s)
    (hm : 0x1000 &&& M = 0x1000) :
    Evolves M o (State.modPort s a1 a2) := by
  unfold State.modPort
  try dsimp only
  repeat' first
    | (intro _)
    | with_reducible first
        | assumption | apply Evolves.ite | apply Evolves.foldl
    | exact mask_trans (by decide) hm
    | exact mask_bit hm (by decide)
    | fail_if_no_progress beta_reduce
    | split
    | fail_if_no_progress with_reducible apply Evolves.parts
    | exact Or.inl (by with_reducible rfl)
    | exact mask_part hm (by decide)

theorem State.setRole_evolves {s : State} (a1 a2) (h : Evolves M o s)
    (hm : 0x20000080000000000000000000000000000000000000000000000000000000000000000000000010000 &&& M = 0x20000080000000000000000000000000000000000000000000000000000000000000000000000010000) :
    Evolves M o (State.setRole s a1 a2) := by
  unfold State.setRole
  try dsimp only
  repeat' first
    | (intro _)
    | with_reducible first
        | assumption | apply State.chpEvent_evolves | apply State.wr_evolves | apply Evolves.ite
        | apply Evolves.foldl
    | exact mask_trans (by decide) hm
    | exact mask_bit hm (by decide)
    | fail_if_no_progress beta_reduce
    | split
    | fail_if_no_progress with_reducible apply Evolves.parts
    | exact Or.inl (by with_reducible rfl)
    | exact mask_part hm (by decide)

theorem State.toPort_evolves {s : State} (a1 a2 a3) (h : Evolves M o s)
    (hm : 0x5000000000000000000000000000000000000000000000000000000000000000000000000000000000000000005000 &&& M = 0x5000000000000000000000000000000000000000000000000000000000000000000000000000000000000000005000) :
    Evolves M o (State.toPort s a1 a2 a3) := by
  unfold State.toPort
  try dsimp only
  repeat' first
    | (intro _)
    | with_reducible first
        | assumption | apply State.enqueue_evolves | apply State.modPort_evolves | apply Evolves.ite
        | apply Evolves.foldl
    | exact mask_trans (by decide) hm
    | exact mask_bit hm (by decide)
    | fail_if_no_progress beta_reduce
    | split
    | fail_if_no_progress with_reducible apply Evolves.parts
    | exact Or.inl (by with_reducible rfl)
    | exact mask_part hm (by decide)

theorem State.useSeq_evolves {s : State} (a1) (h : Evolves M o s)
    (hm : 0x2000 &&& M = 0x2000) :
    Evolves M o (State.useSeq s a1) := by
  unfold State.useSeq
  try dsimp only
  repeat' first
    | (intro _)
    | with_reducible first
        | assumption | apply Evolves.ite | apply Evolves.foldl
    | exact mask_trans (by decide) hm
    | exact mask_bit hm (by decide)
    | fail_if_no_progress beta_reduce
    | split
    | fail_if_no_progress with_reducible apply Evolves.parts
    | exact Or.inl (by with_reducible rfl)
    | exact mask_part hm (by decide)

theorem State.sendOn_evolves {s : State} (a1 a2 a3) (h : Evolves M o s)
    (hm : 0x5000000000000000000000000000000000000000000000000000000000000000000000000000000000000000007000 &&& M = 0x5000000000000000000000000000000000000000000000000000000000000000000000000000000000000000007000) :
    Evolves M o (State.sendOn s a1 a2 a3) := by
  unfold State.sendOn
  try dsimp only
  repeat' first
    | (intro _)
    | with_reducible first
        | assumption | apply State.useSeq_evolves | apply State.toPort_evolves | apply Evolves.ite
        | apply Evolves.foldl
    | exact mask_trans (by decide) hm
    | exact mask_bit hm (by decide)
    | fail_if_no_progress beta_reduce
    | split
    | fail_if_no_progress with_reducible apply Evolves.parts
    | exact Or.inl (by with_reducible rfl)
    | exact mask_part hm (by decide)

theorem State.sendDown_evolves {s : State} (a1 a2) (h : Evolves M o s)
    (hm : 0x5000000000000000000000000000000000000000000000000000000000000000000000000000000000000000005000 &&& M = 0x5000000000000000000000000000000000000000000000000000000000000000000000000000000000000000005000) :
    Evolves M o (State.sendDown s a1 a2) := by
  unfold State.sendDown
  try dsimp only
  repeat' first
    | (intro _)
    | with_reducible first
        | assumption | apply State.toPort_evolves | apply Evolves.ite | apply Evolves.foldl
    | exact mask_trans (by decide) hm
    | exact mask_bit hm (by decide)
    | fail_if_no_progress beta_reduce
    | split
    | fail_if_no_progress with_reducible apply Evolves.parts
    | exact Or.inl (by with_reducible rfl)
    | exact mask_part hm (by decide)

theorem State.sendTo_evolves {s : State} (a1 a2 a3 a4) (h : Evolves M o s)
    (hm : 0x5000000000000010000000000000000000000000000000000000000000000000000000000000000000000000007000 &&& M = 0x5000000000000010000000000000000000000000000000000000000000000000000000000000000000000000007000) :
    Evolves M o (State.sendTo s a1 a2 a3 a4) := by
  unfold State.sendTo
  try dsimp only
  repeat' first
    | (intro _)
    | with_reducible first
        | assumption | apply State.useSeq_evolves | apply State.sendDown_evolves | apply State.toPort_evolves
        | apply State.sat_evolves | apply Evolves.ite | apply Evolves.foldl
    | exact mask_trans (by decide) hm
    | exact mask_bit hm (by decide)
    | fail_if_no_progress beta_reduce
    | split
    | fail_if_no_progress with_reducible apply Evolves.parts
    | exact Or.inl (by with_reducible rfl)
    | exact mask_part hm (by decide)

theorem State.send_evolves {s : State} (a1 a2 a3) (h : Evolves M o s)
    (hm : 0x5000000000000010000000000000000000000000000000000000000000000000000000000000000000000000007000 &&& M = 0x5000000000000010000000000000000000000000000000000000000000000000000000000000000000000000007000) :
    Evolves M o (State.send s a1 a2 a3) := by
  unfold State.send
  try dsimp only
  repeat' first
    | (intro _)
    | with_reducible first
        | assumption | apply State.sendTo_evolves | apply Evolves.ite | apply Evolves.foldl
    | exact mask_trans (by decide) hm
    | exact mask_bit hm (by decide)
    | fail_if_no_progress beta_reduce
    | split
    | fail_if_no_progress with_reducible apply Evolves.parts
    | exact Or.inl (by with_reducible rfl)
    | exact mask_part hm (by decide)

/-! ## FaultOps -/

theorem State.driveErr_evolves {s : State} (h : Evolves M o s)
    (hm : 0x40000000000000000000000000000000000000000000000000000000000000000000000000000000000000000000000000000000000010080 &&& M = 0x40000000000000000000000000000000000000000000000000000000000000000000000000000000000000000000000000000000000010080) :
    Evolves M o (State.driveErr s) := by
  unfold State.driveErr
  try dsimp only
  repeat' first
    | (intro _)
    | with_reducible first
        | assumption | apply State.emit_evolves | apply State.wrBit_evolves | apply Evolves.ite | apply Evolves.foldl
    | exact mask_trans (by decide) hm
    | exact mask_bit hm (by decide)
    | fail_if_no_progress beta_reduce
    | split
    | fail_if_no_progress with_reducible apply Evolves.parts
    | exact Or.inl (by with_reducible rfl)
    | exact mask_part hm (by decide)

theorem State.logWrite_evolves {s : State} (a1) (h : Evolves M o s)
    (hm : 0x10b8000000000000000000000000000000000000000000000000000000000000000000000000000000000000000000000000000000000000080 &&& M = 0x10b8000000000000000000000000000000000000000000000000000000000000000000000000000000000000000000000000000000000000080) :
    Evolves M o (State.logWrite s a1) := by
  unfold State.logWrite
  try dsimp only
  repeat' first
    | (intro _)
    | with_reducible first
        | assumption | apply State.sat_evolves | apply State.inc_evolves | apply State.wrBit_evolves
        | apply Evolves.ite | apply Evolves.foldl
    | exact mask_trans (by decide) hm
    | exact mask_bit hm (by decide)
    | fail_if_no_progress beta_reduce
    | split
    | fail_if_no_progress with_reducible apply Evolves.parts
    | exact Or.inl (by with_reducible rfl)
    | exact mask_part hm (by decide)

theorem State.sendNotice_evolves {s : State} (a1) (h : Evolves M o s)
    (hm : 0x5000000000000010000000000000000000000000000000000000000000000000000000000000000000000000007080 &&& M = 0x5000000000000010000000000000000000000000000000000000000000000000000000000000000000000000007080) :
    Evolves M o (State.sendNotice s a1) := by
  unfold State.sendNotice
  try dsimp only
  repeat' first
    | (intro _)
    | with_reducible first
        | assumption | apply State.send_evolves | apply Evolves.ite | apply Evolves.foldl
    | exact mask_trans (by decide) hm
    | exact mask_bit hm (by decide)
    | fail_if_no_progress beta_reduce
    | split
    | fail_if_no_progress with_reducible apply Evolves.parts
    | exact Or.inl (by with_reducible rfl)
    | exact mask_part hm (by decide)

theorem State.errPin_evolves {s : State} (a1) (h : Evolves M o s)
    (hm : 0x940000000000000000000000000000000000000000000000000000000000000000000000000000000000000000000000000000000000010080 &&& M = 0x940000000000000000000000000000000000000000000000000000000000000000000000000000000000000000000000000000000000010080) :
    Evolves M o (State.errPin s a1) := by
  unfold State.errPin
  try dsimp only
  repeat' first
    | (intro _)
    | with_reducible first
        | assumption | apply State.driveErr_evolves | apply State.wr_evolves | apply State.wrBit_evolves
        | apply Evolves.ite | apply Evolves.foldl
    | exact mask_trans (by decide) hm
    | exact mask_bit hm (by decide)
    | fail_if_no_progress beta_reduce
    | split
    | fail_if_no_progress with_reducible apply Evolves.parts
    | exact Or.inl (by with_reducible rfl)
    | exact mask_part hm (by decide)

theorem State.raiseInt_evolves {s : State} (a1) (h : Evolves M o s)
    (hm : 0x10000 &&& M = 0x10000) :
    Evolves M o (State.raiseInt s a1) := by
  unfold State.raiseInt
  try dsimp only
  repeat' first
    | (intro _)
    | with_reducible first
        | assumption | apply State.emit_evolves | apply Evolves.ite | apply Evolves.foldl
    | exact mask_trans (by decide) hm
    | exact mask_bit hm (by decide)
    | fail_if_no_progress beta_reduce
    | split
    | fail_if_no_progress with_reducible apply Evolves.parts
    | exact Or.inl (by with_reducible rfl)
    | exact mask_part hm (by decide)

theorem State.hush_evolves {s : State} (a1) (h : Evolves M o s)
    (hm : 0x80 &&& M = 0x80) :
    Evolves M o (State.hush s a1) := by
  unfold State.hush
  try dsimp only
  repeat' first
    | (intro _)
    | with_reducible first
        | assumption | apply Evolves.ite | apply Evolves.foldl
    | exact mask_trans (by decide) hm
    | exact mask_bit hm (by decide)
    | fail_if_no_progress beta_reduce
    | split
    | fail_if_no_progress with_reducible apply Evolves.parts
    | exact Or.inl (by with_reducible rfl)
    | exact mask_part hm (by decide)

theorem State.failFlights_evolves {s : State} (a1) (h : Evolves M o s)
    (hm : 0x400000000000000000000000000000000000000000000000000000000000000000000000000000000000000000000000010 &&& M = 0x400000000000000000000000000000000000000000000000000000000000000000000000000000000000000000000000010) :
    Evolves M o (State.failFlights s a1) := by
  unfold State.failFlights
  try dsimp only
  repeat' first
    | (intro _)
    | with_reducible first
        | assumption | apply State.modMb_evolves | apply Evolves.ite | apply Evolves.foldl
    | exact mask_trans (by decide) hm
    | exact mask_bit hm (by decide)
    | fail_if_no_progress beta_reduce
    | split
    | fail_if_no_progress with_reducible apply Evolves.parts
    | exact Or.inl (by with_reducible rfl)
    | exact mask_part hm (by decide)

theorem State.decideDrst_evolves {s : State} (h : Evolves M o s)
    (hm : 0x100400000000000000000000000000000000000000000000000000000000000000000000000000000000000000000000010090 &&& M = 0x100400000000000000000000000000000000000000000000000000000000000000000000000000000000000000000000010090) :
    Evolves M o (State.decideDrst s) := by
  unfold State.decideDrst
  try dsimp only
  repeat' first
    | (intro _)
    | with_reducible first
        | assumption | apply State.postUpTo_evolves | apply State.failFlights_evolves | apply Evolves.ite
        | apply Evolves.foldl
    | exact mask_trans (by decide) hm
    | exact mask_bit hm (by decide)
    | fail_if_no_progress beta_reduce
    | split
    | fail_if_no_progress with_reducible apply Evolves.parts
    | exact Or.inl (by with_reducible rfl)
    | exact mask_part hm (by decide)

theorem State.react_evolves {s : State} (a1 a2) (h : Evolves M o s)
    (hm : 0x940000000000000000005000000000000010000000000000000000000000000000000000000000000000000000000000000000000000017080 &&& M = 0x940000000000000000005000000000000010000000000000000000000000000000000000000000000000000000000000000000000000017080) :
    Evolves M o (State.react s a1 a2) := by
  unfold State.react
  try dsimp only
  repeat' first
    | (intro _)
    | with_reducible first
        | assumption | apply State.hush_evolves | apply State.raiseInt_evolves | apply State.errPin_evolves
        | apply State.sendNotice_evolves | apply Evolves.ite | apply Evolves.foldl
    | exact mask_trans (by decide) hm
    | exact mask_bit hm (by decide)
    | fail_if_no_progress beta_reduce
    | split
    | fail_if_no_progress with_reducible apply Evolves.parts
    | exact Or.inl (by with_reducible rfl)
    | exact mask_part hm (by decide)

theorem State.contextOf_evolves {s : State} (a1) (h : Evolves M o s)
    (hm : 0x8000 &&& M = 0x8000) :
    Evolves M o (State.contextOf s a1).1 := by
  unfold State.contextOf
  try dsimp only
  repeat' first
    | (intro _)
    | with_reducible first
        | assumption | apply State.useFree_evolves | apply Evolves.ite | apply Evolves.foldl
    | exact mask_trans (by decide) hm
    | exact mask_bit hm (by decide)
    | fail_if_no_progress beta_reduce
    | split
    | fail_if_no_progress with_reducible apply Evolves.parts
    | exact Or.inl (by with_reducible rfl)
    | exact mask_part hm (by decide)

theorem State.logReport_evolves {s : State} (a1) (h : Evolves M o s)
    (hm : 0x10b8000000000000000000000000000000000000000000000000000000000000000000000000000000000000000000000000000000000008080 &&& M = 0x10b8000000000000000000000000000000000000000000000000000000000000000000000000000000000000000000000000000000000008080) :
    Evolves M o (State.logReport s a1).1 := by
  unfold State.logReport
  try dsimp only
  repeat' first
    | (intro _)
    | with_reducible first
        | assumption | apply State.contextOf_evolves | apply State.logWrite_evolves | apply Evolves.ite
        | apply Evolves.foldl
    | exact mask_trans (by decide) hm
    | exact mask_bit hm (by decide)
    | fail_if_no_progress beta_reduce
    | split
    | fail_if_no_progress with_reducible apply Evolves.parts
    | exact Or.inl (by with_reducible rfl)
    | exact mask_part hm (by decide)

theorem State.collect_evolves {s : State} (reps) (h : Evolves M o s)
    (hm : 0x19f800000000010040000500000000000001000000000000000000000000000000000000000000000000000000000000000000000000001f090 &&& M = 0x19f800000000010040000500000000000001000000000000000000000000000000000000000000000000000000000000000000000000001f090) :
    Evolves M o (State.collect s reps) := by
  unfold State.collect
  dsimp only
  have key : ∀ (l : List FaultRep) (acc : State × List LogEntry), Evolves M o acc.1 →
      Evolves M o (l.foldl (fun (acc : State × List LogEntry) r =>
        match acc.1.logReport r with
        | (t, some e) => (t, acc.2 ++ [e])
        | (t, none) => (t, acc.2)) acc).1 := by
    intro l
    induction l with
    | nil => exact fun _ k => k
    | cons r l ih =>
      intro acc k
      refine ih _ ?_
      have hr := State.logReport_evolves r k (mask_trans (by decide) hm)
      beta_reduce
      rcases hq : acc.1.logReport r with ⟨t, _ | e⟩ <;> simpa [hq] using hr
  refine Evolves.ite (State.decideDrst_evolves (Evolves.foldl _ (key _ _ h) fun _ _ k => State.react_evolves _ _ k ?_) ?_)
    (Evolves.foldl _ (key _ _ h) fun _ _ k => State.react_evolves _ _ k ?_) <;> exact mask_trans (by decide) hm

/-! ## Hkp -/

theorem State.setSensor_evolves {s : State} (a1 a2) (h : Evolves M o s)
    (hm : 0x100 &&& M = 0x100) :
    Evolves M o (State.setSensor s a1 a2) := by
  unfold State.setSensor
  try dsimp only
  repeat' first
    | (intro _)
    | with_reducible first
        | assumption | apply Evolves.ite | apply Evolves.foldl
    | exact mask_trans (by decide) hm
    | exact mask_bit hm (by decide)
    | fail_if_no_progress beta_reduce
    | split
    | fail_if_no_progress with_reducible apply Evolves.parts
    | exact Or.inl (by with_reducible rfl)
    | exact mask_part hm (by decide)

theorem State.breakSensor_evolves {s : State} (a1) (h : Evolves M o s)
    (hm : 0x8e00800000000000000000000000000000000000000000000000000000000000000000000000000000000000000000000000000000000000000000010180 &&& M = 0x8e00800000000000000000000000000000000000000000000000000000000000000000000000000000000000000000000000000000000000000000010180) :
    Evolves M o (State.breakSensor s a1) := by
  unfold State.breakSensor
  try dsimp only
  repeat' first
    | (intro _)
    | with_reducible first
        | assumption | apply State.setSensor_evolves | apply State.wr_evolves | apply State.report_evolves
        | apply State.hkpEvent_evolves | apply State.wrBit_evolves | apply Evolves.ite | apply Evolves.foldl
    | exact mask_trans (by decide) hm
    | exact mask_bit hm (by decide)
    | fail_if_no_progress beta_reduce
    | split
    | fail_if_no_progress with_reducible apply Evolves.parts
    | exact Or.inl (by with_reducible rfl)
    | exact mask_part hm (by decide)

theorem State.takeReading_evolves {s : State} (a1 a2) (h : Evolves M o s)
    (hm : 0xe00000000000000000000000000000000000000000000000000000000000000000000000000000000000000000000000000000000000000000000000100 &&& M = 0xe00000000000000000000000000000000000000000000000000000000000000000000000000000000000000000000000000000000000000000000000100) :
    Evolves M o (State.takeReading s a1 a2) := by
  unfold State.takeReading
  try dsimp only
  repeat' first
    | (intro _)
    | with_reducible first
        | assumption | apply State.wr_evolves | apply State.setSensor_evolves | apply Evolves.ite
        | apply Evolves.foldl
    | exact mask_trans (by decide) hm
    | exact mask_bit hm (by decide)
    | fail_if_no_progress beta_reduce
    | split
    | fail_if_no_progress with_reducible apply Evolves.parts
    | exact Or.inl (by with_reducible rfl)
    | exact mask_part hm (by decide)

theorem State.readSensor_evolves {s : State} (a1 a2) (h : Evolves M o s)
    (hm : 0x8e00800000000000000000000000000000000000000000000000000000000000000000000000000000000000000000000000000000000000000000010180 &&& M = 0x8e00800000000000000000000000000000000000000000000000000000000000000000000000000000000000000000000000000000000000000000010180) :
    Evolves M o (State.readSensor s a1 a2) := by
  unfold State.readSensor
  try dsimp only
  repeat' first
    | (intro _)
    | with_reducible first
        | assumption | apply State.breakSensor_evolves | apply State.takeReading_evolves
        | apply State.setSensor_evolves | apply State.hkpEvent_evolves | apply State.wrBit_evolves
        | apply Evolves.ite | apply Evolves.foldl
    | exact mask_trans (by decide) hm
    | exact mask_bit hm (by decide)
    | fail_if_no_progress beta_reduce
    | split
    | fail_if_no_progress with_reducible apply Evolves.parts
    | exact Or.inl (by with_reducible rfl)
    | exact mask_part hm (by decide)

theorem State.roundSensor_evolves {s : State} (a1 a2 a3) (h : Evolves M o s)
    (hm : 0x18e00800000000000000000000000000000000000000000000000000000000000000000000000000000000000000000000000000000000000000000010180 &&& M = 0x18e00800000000000000000000000000000000000000000000000000000000000000000000000000000000000000000000000000000000000000000010180) :
    Evolves M o (State.roundSensor s a1 a2 a3) := by
  unfold State.roundSensor
  try dsimp only
  repeat' first
    | (intro _)
    | with_reducible first
        | assumption | apply State.wr_evolves | apply State.wrBit_evolves | apply State.setSensor_evolves
        | apply State.hkpEvent_evolves | apply State.breakSensor_evolves | apply State.readSensor_evolves
        | apply Evolves.ite | apply Evolves.foldl
    | exact mask_trans (by decide) hm
    | exact mask_bit hm (by decide)
    | fail_if_no_progress beta_reduce
    | split
    | fail_if_no_progress with_reducible apply Evolves.parts
    | exact Or.inl (by with_reducible rfl)
    | exact mask_part hm (by decide)

theorem State.condition_evolves {s : State} (a1 a2 a3 a4 a5 a6) (h : Evolves M o s) (hb1 : M.testBit (17 + (a1 : Fid).ctorIdx) = true)
    (hm : 0x800000000000000000000000000000000000000000000000000000000000000000000000000000000000000000000000000000000000000000010080 &&& M = 0x800000000000000000000000000000000000000000000000000000000000000000000000000000000000000000000000000000000000000000010080) :
    Evolves M o (State.condition s a1 a2 a3 a4 a5 a6) := by
  unfold State.condition
  try dsimp only
  repeat' first
    | (intro _)
    | with_reducible first
        | assumption | apply State.hkpEvent_evolves | apply State.wrBit_evolves | apply State.report_evolves
        | apply Evolves.ite | apply Evolves.foldl
    | exact mask_trans (by decide) hm
    | exact mask_bit hm (by decide)
    | fail_if_no_progress beta_reduce
    | split
    | fail_if_no_progress with_reducible apply Evolves.parts
    | exact Or.inl (by with_reducible rfl)
    | exact mask_part hm (by decide)

theorem State.thresholds_evolves {s : State} (a1 a2) (h : Evolves M o s)
    (hm : 0x7000800000000000000000000000000000000000000000000000000000000000000000000000000000000000000000000000000000000000000000010080 &&& M = 0x7000800000000000000000000000000000000000000000000000000000000000000000000000000000000000000000000000000000000000000000010080) :
    Evolves M o (State.thresholds s a1 a2) := by
  unfold State.thresholds
  try dsimp only
  repeat' first
    | (intro _)
    | with_reducible first
        | assumption | apply State.condition_evolves | apply Evolves.ite | apply Evolves.foldl
    | exact mask_trans (by decide) hm
    | exact mask_bit hm (by decide)
    | fail_if_no_progress beta_reduce
    | split
    | fail_if_no_progress with_reducible apply Evolves.parts
    | exact Or.inl (by with_reducible rfl)
    | exact mask_part hm (by decide)

theorem State.throttle_evolves {s : State} (a1) (h : Evolves M o s)
    (hm : 0xf20000000000000000000000000000000000000000000000000000000000000000000000000000000000000000000000000000000000000000010000 &&& M = 0xf20000000000000000000000000000000000000000000000000000000000000000000000000000000000000000000000000000000000000000010000) :
    Evolves M o (State.throttle s a1) := by
  unfold State.throttle
  try dsimp only
  repeat' first
    | (intro _)
    | with_reducible first
        | assumption | apply State.wr_evolves | apply State.wrBit_evolves | apply State.hkpEvent_evolves
        | apply Evolves.ite | apply Evolves.foldl
    | exact mask_trans (by decide) hm
    | exact mask_bit hm (by decide)
    | fail_if_no_progress beta_reduce
    | split
    | fail_if_no_progress with_reducible apply Evolves.parts
    | exact Or.inl (by with_reducible rfl)
    | exact mask_part hm (by decide)

theorem State.roundSupply_evolves {s : State} (a1 a2) (h : Evolves M o s)
    (hm : 0x380000800000000000000000000000000000000000000000000000000000000000000000000000000000000000000000000000000000000000000000010180 &&& M = 0x380000800000000000000000000000000000000000000000000000000000000000000000000000000000000000000000000000000000000000000000010180) :
    Evolves M o (State.roundSupply s a1 a2) := by
  unfold State.roundSupply
  try dsimp only
  repeat' first
    | (intro _)
    | with_reducible first
        | assumption | apply State.wr_evolves | apply State.hkpEvent_evolves | apply State.wrBit_evolves
        | apply State.report_evolves | apply State.sat_evolves | apply Evolves.ite | apply Evolves.foldl
    | exact mask_trans (by decide) hm
    | exact mask_bit hm (by decide)
    | fail_if_no_progress beta_reduce
    | split
    | fail_if_no_progress with_reducible apply Evolves.parts
    | exact Or.inl (by with_reducible rfl)
    | exact mask_part hm (by decide)

theorem State.showInhibit_evolves {s : State} (h : Evolves M o s)
    (hm : 0x800000800000000000000000000000000000000000000000000000000000000000000000000000000000000000000000000000000000000000000000010000 &&& M = 0x800000800000000000000000000000000000000000000000000000000000000000000000000000000000000000000000000000000000000000000000010000) :
    Evolves M o (State.showInhibit s) := by
  unfold State.showInhibit
  try dsimp only
  repeat' first
    | (intro _)
    | with_reducible first
        | assumption | apply State.wrBit_evolves | apply State.hkpEvent_evolves | apply Evolves.ite
        | apply Evolves.foldl
    | exact mask_trans (by decide) hm
    | exact mask_bit hm (by decide)
    | fail_if_no_progress beta_reduce
    | split
    | fail_if_no_progress with_reducible apply Evolves.parts
    | exact Or.inl (by with_reducible rfl)
    | exact mask_part hm (by decide)

theorem State.countRefused_evolves {s : State} (h : Evolves M o s)
    (hm : 0x1000000000000000000000000000000000000000000000000000000000000000000000000000000000000000000000000000000000000000000000000000000 &&& M = 0x1000000000000000000000000000000000000000000000000000000000000000000000000000000000000000000000000000000000000000000000000000000) :
    Evolves M o (State.countRefused s) := by
  unfold State.countRefused
  try dsimp only
  repeat' first
    | (intro _)
    | with_reducible first
        | assumption | apply State.sat_evolves | apply Evolves.ite | apply Evolves.foldl
    | exact mask_trans (by decide) hm
    | exact mask_bit hm (by decide)
    | fail_if_no_progress beta_reduce
    | split
    | fail_if_no_progress with_reducible apply Evolves.parts
    | exact Or.inl (by with_reducible rfl)
    | exact mask_part hm (by decide)

theorem State.showTff_evolves {s : State} (a1) (h : Evolves M o s)
    (hm : 0x180000000000000000000000000000000000000080 &&& M = 0x180000000000000000000000000000000000000080) :
    Evolves M o (State.showTff s a1) := by
  unfold State.showTff
  try dsimp only
  repeat' first
    | (intro _)
    | with_reducible first
        | assumption | apply State.wrBit_evolves | apply State.wr_evolves | apply State.report_evolves
        | apply Evolves.ite | apply Evolves.foldl
    | exact mask_trans (by decide) hm
    | exact mask_bit hm (by decide)
    | fail_if_no_progress beta_reduce
    | split
    | fail_if_no_progress with_reducible apply Evolves.parts
    | exact Or.inl (by with_reducible rfl)
    | exact mask_part hm (by decide)

theorem State.countDeaf_evolves {s : State} (a1) (h : Evolves M o s)
    (hm : 0x100 &&& M = 0x100) :
    Evolves M o (State.countDeaf s a1) := by
  unfold State.countDeaf
  try dsimp only
  repeat' first
    | (intro _)
    | with_reducible first
        | assumption | apply Evolves.ite | apply Evolves.foldl
    | exact mask_trans (by decide) hm
    | exact mask_bit hm (by decide)
    | fail_if_no_progress beta_reduce
    | split
    | fail_if_no_progress with_reducible apply Evolves.parts
    | exact Or.inl (by with_reducible rfl)
    | exact mask_part hm (by decide)

theorem State.showHkp_evolves {s : State} (h : Evolves M o s)
    (hm : 0x1e000000000000000000000000000000000000000000000000000000000000000000000000000000000000000000000000000000000000000000000 &&& M = 0x1e000000000000000000000000000000000000000000000000000000000000000000000000000000000000000000000000000000000000000000000) :
    Evolves M o (State.showHkp s) := by
  unfold State.showHkp
  try dsimp only
  repeat' first
    | (intro _)
    | with_reducible first
        | assumption | apply State.wrBit_evolves | apply Evolves.ite | apply Evolves.foldl
    | exact mask_trans (by decide) hm
    | exact mask_bit hm (by decide)
    | fail_if_no_progress beta_reduce
    | split
    | fail_if_no_progress with_reducible apply Evolves.parts
    | exact Or.inl (by with_reducible rfl)
    | exact mask_part hm (by decide)

theorem execHousekeepingRound_goes {s : State} (a0 a1 a2 a3) (h : Evolves M o s)
    (hm : 0xf9fe00f7f000000000000000000000000000000000000000000000000000000000000000000000000000180000000000000000000000000000000000010180 &&& M = 0xf9fe00f7f000000000000000000000000000000000000000000000000000000000000000000000000000180000000000000000000000000000000000010180) :
    Goes M o (execHousekeepingRound a0 a1 a2 a3 s) := by
  unfold execHousekeepingRound
  try dsimp only
  repeat' first
    | (intro _)
    | with_reducible first
        | assumption | apply Goes.next | apply State.countDeaf_evolves | apply State.roundSensor_evolves
        | apply State.thresholds_evolves | apply State.roundSupply_evolves | apply State.throttle_evolves
        | apply State.showTff_evolves | apply State.showInhibit_evolves | apply State.wr_evolves
        | apply State.showHkp_evolves | apply State.wrBit_evolves | apply State.inc_evolves | apply Evolves.ite
        | apply Evolves.foldl
    | exact mask_trans (by decide) hm
    | exact mask_bit hm (by decide)
    | fail_if_no_progress beta_reduce
    | split
    | fail_if_no_progress with_reducible apply Evolves.parts
    | exact Or.inl (by with_reducible rfl)
    | exact mask_part hm (by decide)

/-! ## LoopOps -/

theorem State.modLoop_evolves {s : State} (a1) (h : Evolves M o s)
    (hm : 0x2 &&& M = 0x2) :
    Evolves M o (State.modLoop s a1) := by
  unfold State.modLoop
  try dsimp only
  repeat' first
    | (intro _)
    | with_reducible first
        | assumption | apply Evolves.ite | apply Evolves.foldl
    | exact mask_trans (by decide) hm
    | exact mask_bit hm (by decide)
    | fail_if_no_progress beta_reduce
    | split
    | fail_if_no_progress with_reducible apply Evolves.parts
    | exact Or.inl (by with_reducible rfl)
    | exact mask_part hm (by decide)

theorem State.modEl_evolves {s : State} (a1 a2) (h : Evolves M o s)
    (hm : 0x2 &&& M = 0x2) :
    Evolves M o (State.modEl s a1 a2) := by
  unfold State.modEl
  try dsimp only
  repeat' first
    | (intro _)
    | with_reducible first
        | assumption | apply Evolves.ite | apply Evolves.foldl
    | exact mask_trans (by decide) hm
    | exact mask_bit hm (by decide)
    | fail_if_no_progress beta_reduce
    | split
    | fail_if_no_progress with_reducible apply Evolves.parts
    | exact Or.inl (by with_reducible rfl)
    | exact mask_part hm (by decide)

theorem State.modCpt_evolves {s : State} (a1 a2) (h : Evolves M o s)
    (hm : 0x2 &&& M = 0x2) :
    Evolves M o (State.modCpt s a1 a2) := by
  unfold State.modCpt
  try dsimp only
  repeat' first
    | (intro _)
    | with_reducible first
        | assumption | apply Evolves.ite | apply Evolves.foldl
    | exact mask_trans (by decide) hm
    | exact mask_bit hm (by decide)
    | fail_if_no_progress beta_reduce
    | split
    | fail_if_no_progress with_reducible apply Evolves.parts
    | exact Or.inl (by with_reducible rfl)
    | exact mask_part hm (by decide)

theorem State.modHc_evolves {s : State} (a1 a2) (h : Evolves M o s)
    (hm : 0x2 &&& M = 0x2) :
    Evolves M o (State.modHc s a1 a2) := by
  unfold State.modHc
  try dsimp only
  repeat' first
    | (intro _)
    | with_reducible first
        | assumption | apply Evolves.ite | apply Evolves.foldl
    | exact mask_trans (by decide) hm
    | exact mask_bit hm (by decide)
    | fail_if_no_progress beta_reduce
    | split
    | fail_if_no_progress with_reducible apply Evolves.parts
    | exact Or.inl (by with_reducible rfl)
    | exact mask_part hm (by decide)

theorem State.setCode_evolves {s : State} (a1 a2) (h : Evolves M o s)
    (hm : 0x1000000000000000 &&& M = 0x1000000000000000) :
    Evolves M o (State.setCode s a1 a2) := by
  unfold State.setCode
  try dsimp only
  repeat' first
    | (intro _)
    | with_reducible first
        | assumption | apply State.wr_evolves | apply Evolves.ite | apply Evolves.foldl
    | exact mask_trans (by decide) hm
    | exact mask_bit hm (by decide)
    | fail_if_no_progress beta_reduce
    | split
    | fail_if_no_progress with_reducible apply Evolves.parts
    | exact Or.inl (by with_reducible rfl)
    | exact mask_part hm (by decide)

theorem State.latch_evolves {s : State} (a1 a2) (h : Evolves M o s)
    (hm : 0x9000000000000002 &&& M = 0x9000000000000002) :
    Evolves M o (State.latch s a1 a2) := by
  unfold State.latch
  try dsimp only
  repeat' first
    | (intro _)
    | with_reducible first
        | assumption | apply State.modEl_evolves | apply State.setCode_evolves | apply State.wrBit_evolves
        | apply Evolves.ite | apply Evolves.foldl
    | exact mask_trans (by decide) hm
    | exact mask_bit hm (by decide)
    | fail_if_no_progress beta_reduce
    | split
    | fail_if_no_progress with_reducible apply Evolves.parts
    | exact Or.inl (by with_reducible rfl)
    | exact mask_part hm (by decide)

theorem State.latchDuty_evolves {s : State} (a1 a2) (h : Evolves M o s)
    (hm : 0x2 &&& M = 0x2) :
    Evolves M o (State.latchDuty s a1 a2) := by
  unfold State.latchDuty
  try dsimp only
  repeat' first
    | (intro _)
    | with_reducible first
        | assumption | apply State.modHc_evolves | apply State.modEl_evolves | apply Evolves.ite
        | apply Evolves.foldl
    | exact mask_trans (by decide) hm
    | exact mask_bit hm (by decide)
    | fail_if_no_progress beta_reduce
    | split
    | fail_if_no_progress with_reducible apply Evolves.parts
    | exact Or.inl (by with_reducible rfl)
    | exact mask_part hm (by decide)

theorem State.noteDrive_evolves {s : State} (a1 a2) (h : Evolves M o s)
    (hm : 0x2 &&& M = 0x2) :
    Evolves M o (State.noteDrive s a1 a2) := by
  unfold State.noteDrive
  try dsimp only
  repeat' first
    | (intro _)
    | with_reducible first
        | assumption | apply State.modEl_evolves | apply Evolves.ite | apply Evolves.foldl
    | exact mask_trans (by decide) hm
    | exact mask_bit hm (by decide)
    | fail_if_no_progress beta_reduce
    | split
    | fail_if_no_progress with_reducible apply Evolves.parts
    | exact Or.inl (by with_reducible rfl)
    | exact mask_part hm (by decide)

theorem State.writeDrive_evolves {s : State} (a1 a2) (h : Evolves M o s)
    (hm : 0x9000000000000002 &&& M = 0x9000000000000002) :
    Evolves M o (State.writeDrive s a1 a2) := by
  unfold State.writeDrive
  try dsimp only
  repeat' first
    | (intro _)
    | with_reducible first
        | assumption | apply State.noteDrive_evolves | apply State.latch_evolves | apply State.modEl_evolves
        | apply State.latchDuty_evolves | apply Evolves.ite | apply Evolves.foldl
    | exact mask_trans (by decide) hm
    | exact mask_bit hm (by decide)
    | fail_if_no_progress beta_reduce
    | split
    | fail_if_no_progress with_reducible apply Evolves.parts
    | exact Or.inl (by with_reducible rfl)
    | exact mask_part hm (by decide)

theorem State.impulse_evolves {s : State} (a1 a2) (h : Evolves M o s)
    (hm : 0x9000000000000002 &&& M = 0x9000000000000002) :
    Evolves M o (State.impulse s a1 a2) := by
  unfold State.impulse
  try dsimp only
  repeat' first
    | (intro _)
    | with_reducible first
        | assumption | apply State.modEl_evolves | apply State.latch_evolves | apply State.latchDuty_evolves
        | apply Evolves.ite | apply Evolves.foldl
    | exact mask_trans (by decide) hm
    | exact mask_bit hm (by decide)
    | fail_if_no_progress beta_reduce
    | split
    | fail_if_no_progress with_reducible apply Evolves.parts
    | exact Or.inl (by with_reducible rfl)
    | exact mask_part hm (by decide)

theorem State.flush_evolves {s : State} (a1) (h : Evolves M o s)
    (hm : 0x2 &&& M = 0x2) :
    Evolves M o (State.flush s a1) := by
  unfold State.flush
  try dsimp only
  repeat' first
    | (intro _)
    | with_reducible first
        | assumption | apply State.modEl_evolves | apply Evolves.ite | apply Evolves.foldl
    | exact mask_trans (by decide) hm
    | exact mask_bit hm (by decide)
    | fail_if_no_progress beta_reduce
    | split
    | fail_if_no_progress with_reducible apply Evolves.parts
    | exact Or.inl (by with_reducible rfl)
    | exact mask_part hm (by decide)

theorem State.showSat_evolves {s : State} (a1) (h : Evolves M o s)
    (hm : 0x2 &&& M = 0x2) :
    Evolves M o (State.showSat s a1) := by
  unfold State.showSat
  try dsimp only
  repeat' first
    | (intro _)
    | with_reducible first
        | assumption | apply State.modEl_evolves | apply Evolves.ite | apply Evolves.foldl
    | exact mask_trans (by decide) hm
    | exact mask_bit hm (by decide)
    | fail_if_no_progress beta_reduce
    | split
    | fail_if_no_progress with_reducible apply Evolves.parts
    | exact Or.inl (by with_reducible rfl)
    | exact mask_part hm (by decide)

theorem State.setHiz_evolves {s : State} (a1 a2) (h : Evolves M o s)
    (hm : 0x4800000000000000000000002 &&& M = 0x4800000000000000000000002) :
    Evolves M o (State.setHiz s a1 a2) := by
  unfold State.setHiz
  try dsimp only
  repeat' first
    | (intro _)
    | with_reducible first
        | assumption | apply State.wrBit_evolves | apply State.modHc_evolves | apply Evolves.ite
        | apply Evolves.foldl
    | exact mask_trans (by decide) hm
    | exact mask_bit hm (by decide)
    | fail_if_no_progress beta_reduce
    | split
    | fail_if_no_progress with_reducible apply Evolves.parts
    | exact Or.inl (by with_reducible rfl)
    | exact mask_part hm (by decide)

theorem State.setState_evolves {s : State} (a1 a2) (h : Evolves M o s)
    (hm : 0x8000000000000000000002 &&& M = 0x8000000000000000000002) :
    Evolves M o (State.setState s a1 a2) := by
  unfold State.setState
  try dsimp only
  repeat' first
    | (intro _)
    | with_reducible first
        | assumption | apply State.modEl_evolves | apply State.wrBit_evolves | apply Evolves.ite
        | apply Evolves.foldl
    | exact mask_trans (by decide) hm
    | exact mask_bit hm (by decide)
    | fail_if_no_progress beta_reduce
    | split
    | fail_if_no_progress with_reducible apply Evolves.parts
    | exact Or.inl (by with_reducible rfl)
    | exact mask_part hm (by decide)

theorem State.enterSettle_evolves {s : State} (a1 a2) (h : Evolves M o s)
    (hm : 0x8000000000000000000002 &&& M = 0x8000000000000000000002) :
    Evolves M o (State.enterSettle s a1 a2) := by
  unfold State.enterSettle
  try dsimp only
  repeat' first
    | (intro _)
    | with_reducible first
        | assumption | apply State.showSat_evolves | apply State.modEl_evolves | apply State.setState_evolves
        | apply Evolves.ite | apply Evolves.foldl
    | exact mask_trans (by decide) hm
    | exact mask_bit hm (by decide)
    | fail_if_no_progress beta_reduce
    | split
    | fail_if_no_progress with_reducible apply Evolves.parts
    | exact Or.inl (by with_reducible rfl)
    | exact mask_part hm (by decide)

theorem State.enterSuspect_evolves {s : State} (a1 a2) (h : Evolves M o s)
    (hm : 0x8000000000000000000002 &&& M = 0x8000000000000000000002) :
    Evolves M o (State.enterSuspect s a1 a2) := by
  unfold State.enterSuspect
  try dsimp only
  repeat' first
    | (intro _)
    | with_reducible first
        | assumption | apply State.modEl_evolves | apply State.setState_evolves | apply Evolves.ite
        | apply Evolves.foldl
    | exact mask_trans (by decide) hm
    | exact mask_bit hm (by decide)
    | fail_if_no_progress beta_reduce
    | split
    | fail_if_no_progress with_reducible apply Evolves.parts
    | exact Or.inl (by with_reducible rfl)
    | exact mask_part hm (by decide)

theorem State.putProf_evolves {s : State} (a1 a2) (h : Evolves M o s)
    (hm : 0x3fc000000000000000000 &&& M = 0x3fc000000000000000000) :
    Evolves M o (State.putProf s a1 a2) := by
  unfold State.putProf
  try dsimp only
  repeat' first
    | (intro _)
    | with_reducible first
        | assumption | apply State.wr_evolves | apply Evolves.ite | apply Evolves.foldl
    | exact mask_trans (by decide) hm
    | exact mask_bit hm (by decide)
    | fail_if_no_progress beta_reduce
    | split
    | fail_if_no_progress with_reducible apply Evolves.parts
    | exact Or.inl (by with_reducible rfl)
    | exact mask_part hm (by decide)

theorem State.addSpan_evolves {s : State} (a1 a2) (h : Evolves M o s)
    (hm : 0x2 &&& M = 0x2) :
    Evolves M o (State.addSpan s a1 a2) := by
  unfold State.addSpan
  try dsimp only
  repeat' first
    | (intro _)
    | with_reducible first
        | assumption | apply Evolves.ite | apply Evolves.foldl
    | exact mask_trans (by decide) hm
    | exact mask_bit hm (by decide)
    | fail_if_no_progress beta_reduce
    | split
    | fail_if_no_progress with_reducible apply Evolves.parts
    | exact Or.inl (by with_reducible rfl)
    | exact mask_part hm (by decide)

theorem State.startJump_evolves {s : State} (a1 a2 a3 a4 a5 a6 a7) (h : Evolves M o s)
    (hm : 0x4808000068000000000000002 &&& M = 0x4808000068000000000000002) :
    Evolves M o (State.startJump s a1 a2 a3 a4 a5 a6 a7) := by
  unfold State.startJump
  try dsimp only
  repeat' first
    | (intro _)
    | with_reducible first
        | assumption | apply State.modEl_evolves | apply State.setState_evolves | apply State.flush_evolves
        | apply State.addSpan_evolves | apply State.wr_evolves | apply State.wrBit_evolves
        | apply State.setHiz_evolves | apply Evolves.ite | apply Evolves.foldl
    | exact mask_trans (by decide) hm
    | exact mask_bit hm (by decide)
    | fail_if_no_progress beta_reduce
    | split
    | fail_if_no_progress with_reducible apply Evolves.parts
    | exact Or.inl (by with_reducible rfl)
    | exact mask_part hm (by decide)

theorem State.jumpToTarget_evolves {s : State} (a1 a2 a3) (h : Evolves M o s)
    (hm : 0x4808000068000000000000002 &&& M = 0x4808000068000000000000002) :
    Evolves M o (State.jumpToTarget s a1 a2 a3) := by
  unfold State.jumpToTarget
  try dsimp only
  repeat' first
    | (intro _)
    | with_reducible first
        | assumption | apply State.startJump_evolves | apply Evolves.ite | apply Evolves.foldl
    | exact mask_trans (by decide) hm
    | exact mask_bit hm (by decide)
    | fail_if_no_progress beta_reduce
    | split
    | fail_if_no_progress with_reducible apply Evolves.parts
    | exact Or.inl (by with_reducible rfl)
    | exact mask_part hm (by decide)

theorem State.leaveTarget_evolves {s : State} (a1) (h : Evolves M o s)
    (hm : 0x2 &&& M = 0x2) :
    Evolves M o (State.leaveTarget s a1) := by
  unfold State.leaveTarget
  try dsimp only
  repeat' first
    | (intro _)
    | with_reducible first
        | assumption | apply State.modEl_evolves | apply Evolves.ite | apply Evolves.foldl
    | exact mask_trans (by decide) hm
    | exact mask_bit hm (by decide)
    | fail_if_no_progress beta_reduce
    | split
    | fail_if_no_progress with_reducible apply Evolves.parts
    | exact Or.inl (by with_reducible rfl)
    | exact mask_part hm (by decide)

theorem State.retarget_evolves {s : State} (a1 a2) (h : Evolves M o s)
    (hm : 0x2 &&& M = 0x2) :
    Evolves M o (State.retarget s a1 a2) := by
  unfold State.retarget
  try dsimp only
  repeat' first
    | (intro _)
    | with_reducible first
        | assumption | apply State.modEl_evolves | apply State.leaveTarget_evolves | apply Evolves.ite
        | apply Evolves.foldl
    | exact mask_trans (by decide) hm
    | exact mask_bit hm (by decide)
    | fail_if_no_progress beta_reduce
    | split
    | fail_if_no_progress with_reducible apply Evolves.parts
    | exact Or.inl (by with_reducible rfl)
    | exact mask_part hm (by decide)

end Sys2Proof.Machine
end

