-- ==== Sys2Proof/Laws/EvolvesB.lean ====
section
/-! SUPPORT. What each operation and meaning of the files VOps, TrvOps, TelOps, SweepOps, ConvOps, DatumOps leaves of the state before it
(Evolves). -/

namespace Sys2Proof.Machine

set_option Elab.async false
set_option linter.unusedTactic false
set_option linter.unreachableTactic false
set_option linter.unusedVariables false
set_option linter.unusedSimpArgs false
set_option exponentiation.threshold 1024

variable {M : Nat} {o : State}

/-! ## VOps -/

theorem State.finishOpt_evolves {s : State} (a1 a2) (h : Evolves M o s)
    (hm : 0x400000000000000000000000000000000000000000000000000000000000000000000000000000000000000000000000010 &&& M = 0x400000000000000000000000000000000000000000000000000000000000000000000000000000000000000000000000010) :
    Evolves M o (State.finishOpt s a1 a2) := by
  unfold State.finishOpt
  try dsimp only
  repeat' first
    | (intro _)
    | with_reducible first
        | assumption | apply State.finish_evolves | apply Evolves.ite | apply Evolves.foldl
    | exact mask_trans (by decide) hm
    | exact mask_bit hm (by decide)
    | fail_if_no_progress beta_reduce
    | split
    | fail_if_no_progress with_reducible apply Evolves.parts
    | exact Or.inl (by with_reducible rfl)
    | exact mask_part hm (by decide)

theorem State.modMon_evolves {s : State} (a1 a2) (h : Evolves M o s)
    (hm : 0x2 &&& M = 0x2) :
    Evolves M o (State.modMon s a1 a2) := by
  unfold State.modMon
  try dsimp only
  repeat' first
    | (intro _)
    | with_reducible first
        | assumption | apply Evolves.ite | apply Evolves.foldl
    | exact mask_trans (by decide) hm
    | exact mask_bit hm (by decide)
    | fail_if_no_progress beta_reduce
    | split
    | fail_if_no_progress with_reducible apply Evolves.parts
    | exact Or.inl (by with_reducible rfl)
    | exact mask_part hm (by decide)

theorem State.endRange_evolves {s : State} (a1 a2) (h : Evolves M o s)
    (hm : 0x400000000000000000000000000000000000000000000000000000000000000000000000000000000004400000000000012 &&& M = 0x400000000000000000000000000000000000000000000000000000000000000000000000000000000004400000000000012) :
    Evolves M o (State.endRange s a1 a2) := by
  unfold State.endRange
  try dsimp only
  repeat' first
    | (intro _)
    | with_reducible first
        | assumption | apply State.modEl_evolves | apply State.modMon_evolves | apply State.wrBit_evolves
        | apply State.finishOpt_evolves | apply Evolves.ite | apply Evolves.foldl
    | exact mask_trans (by decide) hm
    | exact mask_bit hm (by decide)
    | fail_if_no_progress beta_reduce
    | split
    | fail_if_no_progress with_reducible apply Evolves.parts
    | exact Or.inl (by with_reducible rfl)
    | exact mask_part hm (by decide)

theorem State.finishMove_evolves {s : State} (a1 a2 a3) (h : Evolves M o s)
    (hm : 0x400000000000000000000000000000000000000000000000000000000000000000000000000000000000000000000000012 &&& M = 0x400000000000000000000000000000000000000000000000000000000000000000000000000000000000000000000000012) :
    Evolves M o (State.finishMove s a1 a2 a3) := by
  unfold State.finishMove
  try dsimp only
  repeat' first
    | (intro _)
    | with_reducible first
        | assumption | apply State.finishOpt_evolves | apply State.modEl_evolves | apply State.finish_evolves
        | apply Evolves.ite | apply Evolves.foldl
    | exact mask_trans (by decide) hm
    | exact mask_bit hm (by decide)
    | fail_if_no_progress beta_reduce
    | split
    | fail_if_no_progress with_reducible apply Evolves.parts
    | exact Or.inl (by with_reducible rfl)
    | exact mask_part hm (by decide)

theorem State.dropMove_evolves {s : State} (a1 a2) (h : Evolves M o s)
    (hm : 0x400000000000000000000000000000000000000000000000000000000000000000000000000000000000000000000000012 &&& M = 0x400000000000000000000000000000000000000000000000000000000000000000000000000000000000000000000000012) :
    Evolves M o (State.dropMove s a1 a2) := by
  unfold State.dropMove
  try dsimp only
  repeat' first
    | (intro _)
    | with_reducible first
        | assumption | apply State.modEl_evolves | apply State.finishMove_evolves | apply Evolves.ite
        | apply Evolves.foldl
    | exact mask_trans (by decide) hm
    | exact mask_bit hm (by decide)
    | fail_if_no_progress beta_reduce
    | split
    | fail_if_no_progress with_reducible apply Evolves.parts
    | exact Or.inl (by with_reducible rfl)
    | exact mask_part hm (by decide)

/-! ## TrvOps -/

theorem State.modTrv_evolves {s : State} (a1) (h : Evolves M o s)
    (hm : 0x4 &&& M = 0x4) :
    Evolves M o (State.modTrv s a1) := by
  unfold State.modTrv
  try dsimp only
  repeat' first
    | (intro _)
    | with_reducible first
        | assumption | apply Evolves.ite | apply Evolves.foldl
    | exact mask_trans (by decide) hm
    | exact mask_bit hm (by decide)
    | fail_if_no_progress beta_reduce
    | split
    | fail_if_no_progress with_reducible apply Evolves.parts
    | exact Or.inl (by with_reducible rfl)
    | exact mask_part hm (by decide)

theorem State.putSlot_evolves {s : State} (a1 a2) (h : Evolves M o s)
    (hm : 0x4 &&& M = 0x4) :
    Evolves M o (State.putSlot s a1 a2) := by
  unfold State.putSlot
  try dsimp only
  repeat' first
    | (intro _)
    | with_reducible first
        | assumption | apply State.modTrv_evolves | apply Evolves.ite | apply Evolves.foldl
    | exact mask_trans (by decide) hm
    | exact mask_bit hm (by decide)
    | fail_if_no_progress beta_reduce
    | split
    | fail_if_no_progress with_reducible apply Evolves.parts
    | exact Or.inl (by with_reducible rfl)
    | exact mask_part hm (by decide)

theorem State.showQueue_evolves {s : State} (h : Evolves M o s)
    (hm : 0x7800000000000000000000000000000000000000000000000 &&& M = 0x7800000000000000000000000000000000000000000000000) :
    Evolves M o (State.showQueue s) := by
  unfold State.showQueue
  try dsimp only
  repeat' first
    | (intro _)
    | with_reducible first
        | assumption | apply State.wrBit_evolves | apply State.wr_evolves | apply Evolves.ite | apply Evolves.foldl
    | exact mask_trans (by decide) hm
    | exact mask_bit hm (by decide)
    | fail_if_no_progress beta_reduce
    | split
    | fail_if_no_progress with_reducible apply Evolves.parts
    | exact Or.inl (by with_reducible rfl)
    | exact mask_part hm (by decide)

theorem State.showForce_evolves {s : State} (a1 a2) (h : Evolves M o s)
    (hm : 0x78000000000000000000000000000000000000000000000000 &&& M = 0x78000000000000000000000000000000000000000000000000) :
    Evolves M o (State.showForce s a1 a2) := by
  unfold State.showForce
  try dsimp only
  repeat' first
    | (intro _)
    | with_reducible first
        | assumption | apply State.wrBit_evolves | apply State.wr_evolves | apply Evolves.ite | apply Evolves.foldl
    | exact mask_trans (by decide) hm
    | exact mask_bit hm (by decide)
    | fail_if_no_progress beta_reduce
    | split
    | fail_if_no_progress with_reducible apply Evolves.parts
    | exact Or.inl (by with_reducible rfl)
    | exact mask_part hm (by decide)

theorem State.noteClr_evolves {s : State} (a1 a2) (h : Evolves M o s)
    (hm : 0x380000000000000000000000000000000000000000000000004 &&& M = 0x380000000000000000000000000000000000000000000000004) :
    Evolves M o (State.noteClr s a1 a2) := by
  unfold State.noteClr
  try dsimp only
  repeat' first
    | (intro _)
    | with_reducible first
        | assumption | apply State.modTrv_evolves | apply State.wr_evolves | apply Evolves.ite | apply Evolves.foldl
    | exact mask_trans (by decide) hm
    | exact mask_bit hm (by decide)
    | fail_if_no_progress beta_reduce
    | split
    | fail_if_no_progress with_reducible apply Evolves.parts
    | exact Or.inl (by with_reducible rfl)
    | exact mask_part hm (by decide)

theorem State.sendClr_evolves {s : State} (a1 a2) (h : Evolves M o s)
    (hm : 0x5000000000000010000000000000000000000000000000000000000000000000000000000000000000000000007000 &&& M = 0x5000000000000010000000000000000000000000000000000000000000000000000000000000000000000000007000) :
    Evolves M o (State.sendClr s a1 a2) := by
  unfold State.sendClr
  try dsimp only
  repeat' first
    | (intro _)
    | with_reducible first
        | assumption | apply State.send_evolves | apply Evolves.ite | apply Evolves.foldl
    | exact mask_trans (by decide) hm
    | exact mask_bit hm (by decide)
    | fail_if_no_progress beta_reduce
    | split
    | fail_if_no_progress with_reducible apply Evolves.parts
    | exact Or.inl (by with_reducible rfl)
    | exact mask_part hm (by decide)

theorem State.writeParts_evolves {s : State} (a1) (h : Evolves M o s)
    (hm : 0x12040 &&& M = 0x12040) :
    Evolves M o (State.writeParts s a1) := by
  unfold State.writeParts
  try dsimp only
  repeat' first
    | (intro _)
    | with_reducible first
        | assumption | apply State.hostWrite_evolves | apply Evolves.ite | apply Evolves.foldl
    | exact mask_trans (by decide) hm
    | exact mask_bit hm (by decide)
    | fail_if_no_progress beta_reduce
    | split
    | fail_if_no_progress with_reducible apply Evolves.parts
    | exact Or.inl (by with_reducible rfl)
    | exact mask_part hm (by decide)

theorem State.finishChain_evolves {s : State} (a1 a2 a3) (h : Evolves M o s)
    (hm : 0x400000000000000000000000000000000000000000000000000000000000000000000000000000000000000000000012054 &&& M = 0x400000000000000000000000000000000000000000000000000000000000000000000000000000000000000000000012054) :
    Evolves M o (State.finishChain s a1 a2 a3) := by
  unfold State.finishChain
  try dsimp only
  repeat' first
    | (intro _)
    | with_reducible first
        | assumption | apply State.modTrv_evolves | apply State.finishOpt_evolves | apply State.writeParts_evolves
        | apply Evolves.ite | apply Evolves.foldl
    | exact mask_trans (by decide) hm
    | exact mask_bit hm (by decide)
    | fail_if_no_progress beta_reduce
    | split
    | fail_if_no_progress with_reducible apply Evolves.parts
    | exact Or.inl (by with_reducible rfl)
    | exact mask_part hm (by decide)

theorem State.sendAborts_evolves {s : State} (a1) (h : Evolves M o s)
    (hm : 0x5000000000000010000000000000000000000000000000000000000000000000000000000000000000000000007000 &&& M = 0x5000000000000010000000000000000000000000000000000000000000000000000000000000000000000000007000) :
    Evolves M o (State.sendAborts s a1) := by
  unfold State.sendAborts
  try dsimp only
  repeat' first
    | (intro _)
    | with_reducible first
        | assumption | apply State.sendClr_evolves | apply Evolves.ite | apply Evolves.foldl
    | exact mask_trans (by decide) hm
    | exact mask_bit hm (by decide)
    | fail_if_no_progress beta_reduce
    | split
    | fail_if_no_progress with_reducible apply Evolves.parts
    | exact Or.inl (by with_reducible rfl)
    | exact mask_part hm (by decide)

theorem State.chainTry_evolves {s : State} (a1) (h : Evolves M o s)
    (hm : 0x400000000000000000000000000000000000000000000000000000000000000000000000000000000000000000000012054 &&& M = 0x400000000000000000000000000000000000000000000000000000000000000000000000000000000000000000000012054) :
    Evolves M o (State.chainTry s a1) := by
  unfold State.chainTry
  try dsimp only
  repeat' first
    | (intro _)
    | with_reducible first
        | assumption | apply State.finishChain_evolves | apply State.modTrv_evolves | apply Evolves.ite
        | apply Evolves.foldl
    | exact mask_trans (by decide) hm
    | exact mask_bit hm (by decide)
    | fail_if_no_progress beta_reduce
    | split
    | fail_if_no_progress with_reducible apply Evolves.parts
    | exact Or.inl (by with_reducible rfl)
    | exact mask_part hm (by decide)

theorem State.ownRejected_evolves {s : State} (a1 a2) (h : Evolves M o s)
    (hm : 0x400005000000000000010000000000000000000000000000000000000000000000000000000000000000000000000017054 &&& M = 0x400005000000000000010000000000000000000000000000000000000000000000000000000000000000000000000017054) :
    Evolves M o (State.ownRejected s a1 a2) := by
  unfold State.ownRejected
  try dsimp only
  repeat' first
    | (intro _)
    | with_reducible first
        | assumption | apply State.finishChain_evolves | apply State.sendAborts_evolves
        | apply State.chainTry_evolves | apply Evolves.ite | apply Evolves.foldl
    | exact mask_trans (by decide) hm
    | exact mask_bit hm (by decide)
    | fail_if_no_progress beta_reduce
    | split
    | fail_if_no_progress with_reducible apply Evolves.parts
    | exact Or.inl (by with_reducible rfl)
    | exact mask_part hm (by decide)

theorem State.reportClr_evolves {s : State} (a1) (h : Evolves M o s)
    (hm : 0x400005000000000000010000000000000000000000000000000000000000000000000000000000000000000000000017054 &&& M = 0x400005000000000000010000000000000000000000000000000000000000000000000000000000000000000000000017054) :
    Evolves M o (State.reportClr s a1) := by
  unfold State.reportClr
  try dsimp only
  repeat' first
    | (intro _)
    | with_reducible first
        | assumption | apply State.chainTry_evolves | apply State.sendClr_evolves | apply State.finishOpt_evolves
        | apply Evolves.ite | apply Evolves.foldl
    | exact mask_trans (by decide) hm
    | exact mask_bit hm (by decide)
    | fail_if_no_progress beta_reduce
    | split
    | fail_if_no_progress with_reducible apply Evolves.parts
    | exact Or.inl (by with_reducible rfl)
    | exact mask_part hm (by decide)

theorem State.closeClearings_evolves {s : State} (h : Evolves M o s)
    (hm : 0x400005000000000000010000000000000000000000000000000000000000000000000000000000000000000000000017054 &&& M = 0x400005000000000000010000000000000000000000000000000000000000000000000000000000000000000000000017054) :
    Evolves M o (State.closeClearings s) := by
  unfold State.closeClearings
  try dsimp only
  repeat' first
    | (intro _)
    | with_reducible first
        | assumption | apply State.modTrv_evolves | apply State.reportClr_evolves | apply Evolves.ite
        | apply Evolves.foldl
    | exact mask_trans (by decide) hm
    | exact mask_bit hm (by decide)
    | fail_if_no_progress beta_reduce
    | split
    | fail_if_no_progress with_reducible apply Evolves.parts
    | exact Or.inl (by with_reducible rfl)
    | exact mask_part hm (by decide)

theorem State.settled_evolves {s : State} (a1) (h : Evolves M o s)
    (hm : 0x400005000000000000010000000000000000000000000000000000000000000000000000000000000000000000000017054 &&& M = 0x400005000000000000010000000000000000000000000000000000000000000000000000000000000000000000000017054) :
    Evolves M o (State.settled s a1) := by
  unfold State.settled
  try dsimp only
  repeat' first
    | (intro _)
    | with_reducible first
        | assumption | apply State.closeClearings_evolves | apply State.modTrv_evolves | apply Evolves.ite
        | apply Evolves.foldl
    | exact mask_trans (by decide) hm
    | exact mask_bit hm (by decide)
    | fail_if_no_progress beta_reduce
    | split
    | fail_if_no_progress with_reducible apply Evolves.parts
    | exact Or.inl (by with_reducible rfl)
    | exact mask_part hm (by decide)

theorem State.cancelClr_evolves {s : State} (a1 a2 a3) (h : Evolves M o s)
    (hm : 0x400005000000000000010000000000000000000000000000387800000000000000000000000000000000000000000017054 &&& M = 0x400005000000000000010000000000000000000000000000387800000000000000000000000000000000000000000017054) :
    Evolves M o (State.cancelClr s a1 a2 a3) := by
  unfold State.cancelClr
  try dsimp only
  repeat' first
    | (intro _)
    | with_reducible first
        | assumption | apply State.modTrv_evolves | apply State.showQueue_evolves | apply State.noteClr_evolves
        | apply State.ownRejected_evolves | apply State.sendClr_evolves | apply State.finishOpt_evolves
        | apply Evolves.ite | apply Evolves.foldl
    | exact mask_trans (by decide) hm
    | exact mask_bit hm (by decide)
    | fail_if_no_progress beta_reduce
    | split
    | fail_if_no_progress with_reducible apply Evolves.parts
    | exact Or.inl (by with_reducible rfl)
    | exact mask_part hm (by decide)

theorem State.countCancel_evolves {s : State} (h : Evolves M o s)
    (hm : 0x6000000000000000000000000000000000000000000000000000 &&& M = 0x6000000000000000000000000000000000000000000000000000) :
    Evolves M o (State.countCancel s) := by
  unfold State.countCancel
  try dsimp only
  repeat' first
    | (intro _)
    | with_reducible first
        | assumption | apply State.wrBit_evolves | apply State.sat_evolves | apply Evolves.ite | apply Evolves.foldl
    | exact mask_trans (by decide) hm
    | exact mask_bit hm (by decide)
    | fail_if_no_progress beta_reduce
    | split
    | fail_if_no_progress with_reducible apply Evolves.parts
    | exact Or.inl (by with_reducible rfl)
    | exact mask_part hm (by decide)

theorem State.countBlocked_evolves {s : State} (h : Evolves M o s)
    (hm : 0x5000000000000000000000000000000000000000000000000000 &&& M = 0x5000000000000000000000000000000000000000000000000000) :
    Evolves M o (State.countBlocked s) := by
  unfold State.countBlocked
  try dsimp only
  repeat' first
    | (intro _)
    | with_reducible first
        | assumption | apply State.wrBit_evolves | apply State.sat_evolves | apply Evolves.ite | apply Evolves.foldl
    | exact mask_trans (by decide) hm
    | exact mask_bit hm (by decide)
    | fail_if_no_progress beta_reduce
    | split
    | fail_if_no_progress with_reducible apply Evolves.parts
    | exact Or.inl (by with_reducible rfl)
    | exact mask_part hm (by decide)

theorem State.recomputeFrom_evolves {s : State} (ns l) (h : Evolves M o s)
    (hm : 0x40000500000000000001000000000000000000000000000638780000000000000000000000000000000000000000001f054 &&& M = 0x40000500000000000001000000000000000000000000000638780000000000000000000000000000000000000000001f054) :
    Evolves M o (State.recomputeFrom s ns l) := by
  induction l generalizing s ns with
  | nil =>
    unfold State.recomputeFrom
    try dsimp only
    repeat' first
      | (intro _)
      | with_reducible first
          | assumption | apply State.cancelClr_evolves | apply State.useFree_evolves
          | apply State.countCancel_evolves | apply State.modTrv_evolves | apply Evolves.ite | apply Evolves.foldl
      | exact mask_trans (by decide) hm
      | exact mask_bit hm (by decide)
      | fail_if_no_progress beta_reduce
      | split
      | fail_if_no_progress with_reducible apply Evolves.parts
      | exact Or.inl (by with_reducible rfl)
      | exact mask_part hm (by decide)
  | cons i r ih =>
    unfold State.recomputeFrom
    try dsimp only
    repeat' first
      | (intro _)
      | with_reducible first
          | assumption | apply ih | apply State.cancelClr_evolves | apply State.useFree_evolves
          | apply State.countCancel_evolves | apply State.modTrv_evolves | apply Evolves.ite | apply Evolves.foldl
      | exact mask_trans (by decide) hm
      | exact mask_bit hm (by decide)
      | fail_if_no_progress beta_reduce
      | split
      | fail_if_no_progress with_reducible apply Evolves.parts
      | exact Or.inl (by with_reducible rfl)
      | exact mask_part hm (by decide)

theorem State.recompute_evolves {s : State} (a1) (h : Evolves M o s)
    (hm : 0x40000500000000000001000000000000000000000000000638780000000000000000000000000000000000000000001f054 &&& M = 0x40000500000000000001000000000000000000000000000638780000000000000000000000000000000000000000001f054) :
    Evolves M o (State.recompute s a1) := by
  unfold State.recompute
  try dsimp only
  repeat' first
    | (intro _)
    | with_reducible first
        | assumption | apply State.recomputeFrom_evolves | apply Evolves.ite | apply Evolves.foldl
    | exact mask_trans (by decide) hm
    | exact mask_bit hm (by decide)
    | fail_if_no_progress beta_reduce
    | split
    | fail_if_no_progress with_reducible apply Evolves.parts
    | exact Or.inl (by with_reducible rfl)
    | exact mask_part hm (by decide)

theorem State.cancelAnd_evolves {s : State} (a1 a2 a3) (h : Evolves M o s)
    (hm : 0x40000500000000000001000000000000000000000000000638780000000000000000000000000000000000000000001f054 &&& M = 0x40000500000000000001000000000000000000000000000638780000000000000000000000000000000000000000001f054) :
    Evolves M o (State.cancelAnd s a1 a2 a3) := by
  unfold State.cancelAnd
  try dsimp only
  repeat' first
    | (intro _)
    | with_reducible first
        | assumption | apply State.recompute_evolves | apply State.cancelClr_evolves | apply Evolves.ite
        | apply Evolves.foldl
    | exact mask_trans (by decide) hm
    | exact mask_bit hm (by decide)
    | fail_if_no_progress beta_reduce
    | split
    | fail_if_no_progress with_reducible apply Evolves.parts
    | exact Or.inl (by with_reducible rfl)
    | exact mask_part hm (by decide)

theorem State.armedElem_evolves {s : State} (a1 a2 a3 a4) (h : Evolves M o s)
    (hm : 0x40000000000000000000000000000000000000000000000000000000000000000000000000480800006c400000000000012 &&& M = 0x40000000000000000000000000000000000000000000000000000000000000000000000000480800006c400000000000012) :
    Evolves M o (State.armedElem s a1 a2 a3 a4) := by
  unfold State.armedElem
  try dsimp only
  repeat' first
    | (intro _)
    | with_reducible first
        | assumption | apply State.modEl_evolves | apply State.endRange_evolves | apply State.retarget_evolves
        | apply State.dropMove_evolves | apply State.startJump_evolves | apply Evolves.ite | apply Evolves.foldl
    | exact mask_trans (by decide) hm
    | exact mask_bit hm (by decide)
    | fail_if_no_progress beta_reduce
    | split
    | fail_if_no_progress with_reducible apply Evolves.parts
    | exact Or.inl (by with_reducible rfl)
    | exact mask_part hm (by decide)

theorem State.clearElem_evolves {s : State} (a1 a2 a3 a4) (h : Evolves M o s)
    (hm : 0x40000000000000000000000000000000000000000000000000000000000000000000000000480800006c400000000000012 &&& M = 0x40000000000000000000000000000000000000000000000000000000000000000000000000480800006c400000000000012) :
    Evolves M o (State.clearElem s a1 a2 a3 a4) := by
  unfold State.clearElem
  try dsimp only
  repeat' first
    | (intro _)
    | with_reducible first
        | assumption | apply State.retarget_evolves | apply State.modEl_evolves | apply State.armedElem_evolves
        | apply Evolves.ite | apply Evolves.foldl
    | exact mask_trans (by decide) hm
    | exact mask_bit hm (by decide)
    | fail_if_no_progress beta_reduce
    | split
    | fail_if_no_progress with_reducible apply Evolves.parts
    | exact Or.inl (by with_reducible rfl)
    | exact mask_part hm (by decide)

/-! ## TelOps -/

theorem State.putTelDest_evolves {s : State} (a1) (h : Evolves M o s)
    (hm : 0x40 &&& M = 0x40) :
    Evolves M o (State.putTelDest s a1) := by
  unfold State.putTelDest
  try dsimp only
  repeat' first
    | (intro _)
    | with_reducible first
        | assumption | apply Evolves.ite | apply Evolves.foldl
    | exact mask_trans (by decide) hm
    | exact mask_bit hm (by decide)
    | fail_if_no_progress beta_reduce
    | split
    | fail_if_no_progress with_reducible apply Evolves.parts
    | exact Or.inl (by with_reducible rfl)
    | exact mask_part hm (by decide)

theorem State.telSend_evolves {s : State} (d r c z l k) (h : Evolves M o s)
    (hm : 0x5000000000000010000000000000000000000000000000000000000000000000000000000000000000000000007040 &&& M = 0x5000000000000010000000000000000000000000000000000000000000000000000000000000000000000000007040) :
    Evolves M o (State.telSend s d r c z l k) := by
  induction k generalizing s d l z with
  | zero =>
    unfold State.telSend
    try dsimp only
    repeat' first
      | (intro _)
      | with_reducible first
          | assumption | apply State.putTelDest_evolves | apply State.send_evolves | apply Evolves.ite
          | apply Evolves.foldl
      | exact mask_trans (by decide) hm
      | exact mask_bit hm (by decide)
      | fail_if_no_progress beta_reduce
      | split
      | fail_if_no_progress with_reducible apply Evolves.parts
      | exact Or.inl (by with_reducible rfl)
      | exact mask_part hm (by decide)
  | succ k ih =>
    unfold State.telSend
    try dsimp only
    repeat' first
      | (intro _)
      | with_reducible first
          | assumption | apply ih | apply State.putTelDest_evolves | apply State.send_evolves | apply Evolves.ite
          | apply Evolves.foldl
      | exact mask_trans (by decide) hm
      | exact mask_bit hm (by decide)
      | fail_if_no_progress beta_reduce
      | split
      | fail_if_no_progress with_reducible apply Evolves.parts
      | exact Or.inl (by with_reducible rfl)
      | exact mask_part hm (by decide)

theorem State.telDeliver_evolves {s : State} (a1 a2) (h : Evolves M o s)
    (hm : 0x5000000000000010000000000000000000000000000000000000000000000000000000000000000000000000017060 &&& M = 0x5000000000000010000000000000000000000000000000000000000000000000000000000000000000000000017060) :
    Evolves M o (State.telDeliver s a1 a2) := by
  unfold State.telDeliver
  try dsimp only
  repeat' first
    | (intro _)
    | with_reducible first
        | assumption | apply State.ringWrite_evolves | apply State.telSend_evolves | apply Evolves.ite
        | apply Evolves.foldl
    | exact mask_trans (by decide) hm
    | exact mask_bit hm (by decide)
    | fail_if_no_progress beta_reduce
    | split
    | fail_if_no_progress with_reducible apply Evolves.parts
    | exact Or.inl (by with_reducible rfl)
    | exact mask_part hm (by decide)

theorem State.telRoundOf_evolves {s : State} (a1 a2 a3 a4) (h : Evolves M o s)
    (hm : 0x5000000000000010000000000000000000000000000000000000000000000000000000000000000000000000017060 &&& M = 0x5000000000000010000000000000000000000000000000000000000000000000000000000000000000000000017060) :
    Evolves M o (State.telRoundOf s a1 a2 a3 a4) := by
  unfold State.telRoundOf
  try dsimp only
  repeat' first
    | (intro _)
    | with_reducible first
        | assumption | apply State.telDeliver_evolves | apply Evolves.ite | apply Evolves.foldl
    | exact mask_trans (by decide) hm
    | exact mask_bit hm (by decide)
    | fail_if_no_progress beta_reduce
    | split
    | fail_if_no_progress with_reducible apply Evolves.parts
    | exact Or.inl (by with_reducible rfl)
    | exact mask_part hm (by decide)

theorem State.telRound_evolves {s : State} (a1 a2 a3) (h : Evolves M o s)
    (hm : 0x5000000000000010000000000000000000000000000000000000000000000000000000000000000000000000017060 &&& M = 0x5000000000000010000000000000000000000000000000000000000000000000000000000000000000000000017060) :
    Evolves M o (State.telRound s a1 a2 a3) := by
  unfold State.telRound
  try dsimp only
  repeat' first
    | (intro _)
    | with_reducible first
        | assumption | apply State.telRoundOf_evolves | apply Evolves.ite | apply Evolves.foldl
    | exact mask_trans (by decide) hm
    | exact mask_bit hm (by decide)
    | fail_if_no_progress beta_reduce
    | split
    | fail_if_no_progress with_reducible apply Evolves.parts
    | exact Or.inl (by with_reducible rfl)
    | exact mask_part hm (by decide)

/-! ## SweepOps -/

theorem State.modCal_evolves {s : State} (a1 a2) (h : Evolves M o s)
    (hm : 0x2 &&& M = 0x2) :
    Evolves M o (State.modCal s a1 a2) := by
  unfold State.modCal
  try dsimp only
  repeat' first
    | (intro _)
    | with_reducible first
        | assumption | apply Evolves.ite | apply Evolves.foldl
    | exact mask_trans (by decide) hm
    | exact mask_bit hm (by decide)
    | fail_if_no_progress beta_reduce
    | split
    | fail_if_no_progress with_reducible apply Evolves.parts
    | exact Or.inl (by with_reducible rfl)
    | exact mask_part hm (by decide)

theorem State.supEvent_evolves {s : State} (a1 a2 a3) (h : Evolves M o s)
    (hm : 0x5000000000000010000000000000000000000000000000000000000000000000000000000000000000000000017060 &&& M = 0x5000000000000010000000000000000000000000000000000000000000000000000000000000000000000000017060) :
    Evolves M o (State.supEvent s a1 a2 a3) := by
  unfold State.supEvent
  try dsimp only
  repeat' first
    | (intro _)
    | with_reducible first
        | assumption | apply State.telRound_evolves | apply Evolves.ite | apply Evolves.foldl
    | exact mask_trans (by decide) hm
    | exact mask_bit hm (by decide)
    | fail_if_no_progress beta_reduce
    | split
    | fail_if_no_progress with_reducible apply Evolves.parts
    | exact Or.inl (by with_reducible rfl)
    | exact mask_part hm (by decide)

theorem State.showSweeps_evolves {s : State} (h : Evolves M o s)
    (hm : 0x4000000000000000000000000000000000000000000000 &&& M = 0x4000000000000000000000000000000000000000000000) :
    Evolves M o (State.showSweeps s) := by
  unfold State.showSweeps
  try dsimp only
  repeat' first
    | (intro _)
    | with_reducible first
        | assumption | apply State.wr_evolves | apply Evolves.ite | apply Evolves.foldl
    | exact mask_trans (by decide) hm
    | exact mask_bit hm (by decide)
    | fail_if_no_progress beta_reduce
    | split
    | fail_if_no_progress with_reducible apply Evolves.parts
    | exact Or.inl (by with_reducible rfl)
    | exact mask_part hm (by decide)

theorem State.closeRun_evolves {s : State} (a1) (h : Evolves M o s)
    (hm : 0x400000000000000000000000000000000000000000000000000000000000000000000000000000000000000000000000012 &&& M = 0x400000000000000000000000000000000000000000000000000000000000000000000000000000000000000000000000012) :
    Evolves M o (State.closeRun s a1) := by
  unfold State.closeRun
  try dsimp only
  repeat' first
    | (intro _)
    | with_reducible first
        | assumption | apply State.finish_evolves | apply Evolves.ite | apply Evolves.foldl
    | exact mask_trans (by decide) hm
    | exact mask_bit hm (by decide)
    | fail_if_no_progress beta_reduce
    | split
    | fail_if_no_progress with_reducible apply Evolves.parts
    | exact Or.inl (by with_reducible rfl)
    | exact mask_part hm (by decide)

theorem State.runResult_evolves {s : State} (a1 a2 a3 a4) (h : Evolves M o s)
    (hm : 0x400000000000000000000000000000000000000000000000000000000000000000000000000000000000000000000000012 &&& M = 0x400000000000000000000000000000000000000000000000000000000000000000000000000000000000000000000000012) :
    Evolves M o (State.runResult s a1 a2 a3 a4) := by
  unfold State.runResult
  try dsimp only
  repeat' first
    | (intro _)
    | with_reducible first
        | assumption | apply State.closeRun_evolves | apply Evolves.ite | apply Evolves.foldl
    | exact mask_trans (by decide) hm
    | exact mask_bit hm (by decide)
    | fail_if_no_progress beta_reduce
    | split
    | fail_if_no_progress with_reducible apply Evolves.parts
    | exact Or.inl (by with_reducible rfl)
    | exact mask_part hm (by decide)

theorem State.noteResult_evolves {s : State} (a1 a2) (h : Evolves M o s)
    (hm : 0x50000000000000100000000000000000000000000000000080000000000000000000000000000000000000000170e2 &&& M = 0x50000000000000100000000000000000000000000000000080000000000000000000000000000000000000000170e2) :
    Evolves M o (State.noteResult s a1 a2) := by
  unfold State.noteResult
  try dsimp only
  repeat' first
    | (intro _)
    | with_reducible first
        | assumption | apply State.modCal_evolves | apply State.sat_evolves | apply State.report_evolves
        | apply State.supEvent_evolves | apply Evolves.ite | apply Evolves.foldl
    | exact mask_trans (by decide) hm
    | exact mask_bit hm (by decide)
    | fail_if_no_progress beta_reduce
    | split
    | fail_if_no_progress with_reducible apply Evolves.parts
    | exact Or.inl (by with_reducible rfl)
    | exact mask_part hm (by decide)

theorem State.endSweep_evolves {s : State} (a1 a2 a3) (h : Evolves M o s)
    (hm : 0x40000500000000000001000000000000000000000000000000000c0000000000000000000000000000000000000000170f2 &&& M = 0x40000500000000000001000000000000000000000000000000000c0000000000000000000000000000000000000000170f2) :
    Evolves M o (State.endSweep s a1 a2 a3) := by
  unfold State.endSweep
  try dsimp only
  repeat' first
    | (intro _)
    | with_reducible first
        | assumption | apply State.runResult_evolves | apply State.noteResult_evolves
        | apply State.showSweeps_evolves | apply Evolves.ite | apply Evolves.foldl
    | exact mask_trans (by decide) hm
    | exact mask_bit hm (by decide)
    | fail_if_no_progress beta_reduce
    | split
    | fail_if_no_progress with_reducible apply Evolves.parts
    | exact Or.inl (by with_reducible rfl)
    | exact mask_part hm (by decide)

theorem State.releaseElem_evolves {s : State} (a1) (h : Evolves M o s)
    (hm : 0x2 &&& M = 0x2) :
    Evolves M o (State.releaseElem s a1) := by
  unfold State.releaseElem
  try dsimp only
  repeat' first
    | (intro _)
    | with_reducible first
        | assumption | apply State.modEl_evolves | apply Evolves.ite | apply Evolves.foldl
    | exact mask_trans (by decide) hm
    | exact mask_bit hm (by decide)
    | fail_if_no_progress beta_reduce
    | split
    | fail_if_no_progress with_reducible apply Evolves.parts
    | exact Or.inl (by with_reducible rfl)
    | exact mask_part hm (by decide)

theorem State.abandonSweep_evolves {s : State} (a1 a2) (h : Evolves M o s)
    (hm : 0x40000500000000000001000000000000000000000000000000000c0000000000000000000000000000000000000000170f2 &&& M = 0x40000500000000000001000000000000000000000000000000000c0000000000000000000000000000000000000000170f2) :
    Evolves M o (State.abandonSweep s a1 a2) := by
  unfold State.abandonSweep
  try dsimp only
  repeat' first
    | (intro _)
    | with_reducible first
        | assumption | apply State.endSweep_evolves | apply State.releaseElem_evolves | apply Evolves.ite
        | apply Evolves.foldl
    | exact mask_trans (by decide) hm
    | exact mask_bit hm (by decide)
    | fail_if_no_progress beta_reduce
    | split
    | fail_if_no_progress with_reducible apply Evolves.parts
    | exact Or.inl (by with_reducible rfl)
    | exact mask_part hm (by decide)

theorem State.abandonSweeps_evolves {s : State} (a1 a2) (h : Evolves M o s)
    (hm : 0x40000500000000000001000000000000000000000000000000000c0000000000000000000000000000000000000000170f2 &&& M = 0x40000500000000000001000000000000000000000000000000000c0000000000000000000000000000000000000000170f2) :
    Evolves M o (State.abandonSweeps s a1 a2) := by
  unfold State.abandonSweeps
  try dsimp only
  repeat' first
    | (intro _)
    | with_reducible first
        | assumption | apply State.abandonSweep_evolves | apply Evolves.ite | apply Evolves.foldl
    | exact mask_trans (by decide) hm
    | exact mask_bit hm (by decide)
    | fail_if_no_progress beta_reduce
    | split
    | fail_if_no_progress with_reducible apply Evolves.parts
    | exact Or.inl (by with_reducible rfl)
    | exact mask_part hm (by decide)

/-! ## ConvOps -/

theorem State.modGrp_evolves {s : State} (a1 a2) (h : Evolves M o s)
    (hm : 0x2 &&& M = 0x2) :
    Evolves M o (State.modGrp s a1 a2) := by
  unfold State.modGrp
  try dsimp only
  repeat' first
    | (intro _)
    | with_reducible first
        | assumption | apply Evolves.ite | apply Evolves.foldl
    | exact mask_trans (by decide) hm
    | exact mask_bit hm (by decide)
    | fail_if_no_progress beta_reduce
    | split
    | fail_if_no_progress with_reducible apply Evolves.parts
    | exact Or.inl (by with_reducible rfl)
    | exact mask_part hm (by decide)

theorem State.showPend_evolves {s : State} (a1) (h : Evolves M o s)
    (hm : 0x2000000 &&& M = 0x2000000) :
    Evolves M o (State.showPend s a1) := by
  unfold State.showPend
  try dsimp only
  repeat' first
    | (intro _)
    | with_reducible first
        | assumption | apply State.wrBit_evolves | apply Evolves.ite | apply Evolves.foldl
    | exact mask_trans (by decide) hm
    | exact mask_bit hm (by decide)
    | fail_if_no_progress beta_reduce
    | split
    | fail_if_no_progress with_reducible apply Evolves.parts
    | exact Or.inl (by with_reducible rfl)
    | exact mask_part hm (by decide)

theorem State.wantRange_evolves {s : State} (a1 a2) (h : Evolves M o s)
    (hm : 0x2000002 &&& M = 0x2000002) :
    Evolves M o (State.wantRange s a1 a2) := by
  unfold State.wantRange
  try dsimp only
  repeat' first
    | (intro _)
    | with_reducible first
        | assumption | apply State.showPend_evolves | apply State.modMon_evolves | apply Evolves.ite
        | apply Evolves.foldl
    | exact mask_trans (by decide) hm
    | exact mask_bit hm (by decide)
    | fail_if_no_progress beta_reduce
    | split
    | fail_if_no_progress with_reducible apply Evolves.parts
    | exact Or.inl (by with_reducible rfl)
    | exact mask_part hm (by decide)

theorem State.countFrame_evolves {s : State} (a1 a2) (h : Evolves M o s)
    (hm : 0x2 &&& M = 0x2) :
    Evolves M o (State.countFrame s a1 a2) := by
  unfold State.countFrame
  try dsimp only
  repeat' first
    | (intro _)
    | with_reducible first
        | assumption | apply State.modMon_evolves | apply Evolves.ite | apply Evolves.foldl
    | exact mask_trans (by decide) hm
    | exact mask_bit hm (by decide)
    | fail_if_no_progress beta_reduce
    | split
    | fail_if_no_progress with_reducible apply Evolves.parts
    | exact Or.inl (by with_reducible rfl)
    | exact mask_part hm (by decide)

theorem State.showWin_evolves {s : State} (a1) (h : Evolves M o s)
    (hm : 0x18002000000 &&& M = 0x18002000000) :
    Evolves M o (State.showWin s a1) := by
  unfold State.showWin
  try dsimp only
  repeat' first
    | (intro _)
    | with_reducible first
        | assumption | apply State.showPend_evolves | apply State.wrBit_evolves | apply Evolves.ite
        | apply Evolves.foldl
    | exact mask_trans (by decide) hm
    | exact mask_bit hm (by decide)
    | fail_if_no_progress beta_reduce
    | split
    | fail_if_no_progress with_reducible apply Evolves.parts
    | exact Or.inl (by with_reducible rfl)
    | exact mask_part hm (by decide)

theorem State.modPw_evolves {s : State} (a1 a2) (h : Evolves M o s)
    (hm : 0x2 &&& M = 0x2) :
    Evolves M o (State.modPw s a1 a2) := by
  unfold State.modPw
  try dsimp only
  repeat' first
    | (intro _)
    | with_reducible first
        | assumption | apply Evolves.ite | apply Evolves.foldl
    | exact mask_trans (by decide) hm
    | exact mask_bit hm (by decide)
    | fail_if_no_progress beta_reduce
    | split
    | fail_if_no_progress with_reducible apply Evolves.parts
    | exact Or.inl (by with_reducible rfl)
    | exact mask_part hm (by decide)

theorem State.closePw_evolves {s : State} (a1) (h : Evolves M o s)
    (hm : 0x400000000000000000000000000000000000000000000000000000000000000000000000000000000000000000000012052 &&& M = 0x400000000000000000000000000000000000000000000000000000000000000000000000000000000000000000000012052) :
    Evolves M o (State.closePw s a1) := by
  unfold State.closePw
  try dsimp only
  repeat' first
    | (intro _)
    | with_reducible first
        | assumption | apply State.finish_evolves | apply State.hostWrite_evolves | apply Evolves.ite
        | apply Evolves.foldl
    | exact mask_trans (by decide) hm
    | exact mask_bit hm (by decide)
    | fail_if_no_progress beta_reduce
    | split
    | fail_if_no_progress with_reducible apply Evolves.parts
    | exact Or.inl (by with_reducible rfl)
    | exact mask_part hm (by decide)

theorem State.unwait_evolves {s : State} (a1 a2) (h : Evolves M o s)
    (hm : 0x400000000000000000000000000000000000000000000000000000000000000000000000000000000000000000000012052 &&& M = 0x400000000000000000000000000000000000000000000000000000000000000000000000000000000000000000000012052) :
    Evolves M o (State.unwait s a1 a2) := by
  unfold State.unwait
  try dsimp only
  repeat' first
    | (intro _)
    | with_reducible first
        | assumption | apply State.modPw_evolves | apply State.closePw_evolves | apply Evolves.ite
        | apply Evolves.foldl
    | exact mask_trans (by decide) hm
    | exact mask_bit hm (by decide)
    | fail_if_no_progress beta_reduce
    | split
    | fail_if_no_progress with_reducible apply Evolves.parts
    | exact Or.inl (by with_reducible rfl)
    | exact mask_part hm (by decide)

theorem State.deliverTo_evolves {s : State} (a1 a2 a3 a4) (h : Evolves M o s)
    (hm : 0x400005000000000000010000000000000000000000000000000000000000000000000000000000000000000000000017072 &&& M = 0x400005000000000000010000000000000000000000000000000000000000000000000000000000000000000000000017072) :
    Evolves M o (State.deliverTo s a1 a2 a3 a4) := by
  unfold State.deliverTo
  try dsimp only
  repeat' first
    | (intro _)
    | with_reducible first
        | assumption | apply State.telRoundOf_evolves | apply State.hostWrite_evolves | apply State.unwait_evolves
        | apply State.modPw_evolves | apply Evolves.ite | apply Evolves.foldl
    | exact mask_trans (by decide) hm
    | exact mask_bit hm (by decide)
    | fail_if_no_progress beta_reduce
    | split
    | fail_if_no_progress with_reducible apply Evolves.parts
    | exact Or.inl (by with_reducible rfl)
    | exact mask_part hm (by decide)

theorem State.deliverRec_evolves {s : State} (a1 a2 a3 a4) (h : Evolves M o s)
    (hm : 0x400005000000000000010000000000000000000000000000000000000000000000000000000000000000000000000017072 &&& M = 0x400005000000000000010000000000000000000000000000000000000000000000000000000000000000000000000017072) :
    Evolves M o (State.deliverRec s a1 a2 a3 a4) := by
  unfold State.deliverRec
  try dsimp only
  repeat' first
    | (intro _)
    | with_reducible first
        | assumption | apply State.telRoundOf_evolves | apply State.deliverTo_evolves | apply Evolves.ite
        | apply Evolves.foldl
    | exact mask_trans (by decide) hm
    | exact mask_bit hm (by decide)
    | fail_if_no_progress beta_reduce
    | split
    | fail_if_no_progress with_reducible apply Evolves.parts
    | exact Or.inl (by with_reducible rfl)
    | exact mask_part hm (by decide)

theorem State.ignoreTrig_evolves {s : State} (a1 a2) (h : Evolves M o s)
    (hm : 0x4000000000000000000000000000000000000000000000000000000000000000000000000000000000000000c0000012052 &&& M = 0x4000000000000000000000000000000000000000000000000000000000000000000000000000000000000000c0000012052) :
    Evolves M o (State.ignoreTrig s a1 a2) := by
  unfold State.ignoreTrig
  try dsimp only
  repeat' first
    | (intro _)
    | with_reducible first
        | assumption | apply State.wrBit_evolves | apply State.sat_evolves | apply State.unwait_evolves
        | apply Evolves.ite | apply Evolves.foldl
    | exact mask_trans (by decide) hm
    | exact mask_bit hm (by decide)
    | fail_if_no_progress beta_reduce
    | split
    | fail_if_no_progress with_reducible apply Evolves.parts
    | exact Or.inl (by with_reducible rfl)
    | exact mask_part hm (by decide)

theorem State.trigger_evolves {s : State} (a1 a2 a3) (h : Evolves M o s)
    (hm : 0x4000000000000000000000000000000000000000000000000000000000000000000000000000000000000000d8002012052 &&& M = 0x4000000000000000000000000000000000000000000000000000000000000000000000000000000000000000d8002012052) :
    Evolves M o (State.trigger s a1 a2 a3) := by
  unfold State.trigger
  try dsimp only
  repeat' first
    | (intro _)
    | with_reducible first
        | assumption | apply State.modMon_evolves | apply State.ignoreTrig_evolves | apply State.showWin_evolves
        | apply Evolves.ite | apply Evolves.foldl
    | exact mask_trans (by decide) hm
    | exact mask_bit hm (by decide)
    | fail_if_no_progress beta_reduce
    | split
    | fail_if_no_progress with_reducible apply Evolves.parts
    | exact Or.inl (by with_reducible rfl)
    | exact mask_part hm (by decide)

theorem State.afterWin_evolves {s : State} (a1 a2 a3) (h : Evolves M o s)
    (hm : 0x38002000002 &&& M = 0x38002000002) :
    Evolves M o (State.afterWin s a1 a2 a3) := by
  unfold State.afterWin
  try dsimp only
  repeat' first
    | (intro _)
    | with_reducible first
        | assumption | apply State.wrBit_evolves | apply State.showWin_evolves | apply State.modMon_evolves
        | apply Evolves.ite | apply Evolves.foldl
    | exact mask_trans (by decide) hm
    | exact mask_bit hm (by decide)
    | fail_if_no_progress beta_reduce
    | split
    | fail_if_no_progress with_reducible apply Evolves.parts
    | exact Or.inl (by with_reducible rfl)
    | exact mask_part hm (by decide)

theorem State.abandonWin_evolves {s : State} (a1 a2) (h : Evolves M o s)
    (hm : 0x40000500000000000001000000000000000000000000000000000000000000000000000000000000000000001800201f072 &&& M = 0x40000500000000000001000000000000000000000000000000000000000000000000000000000000000000001800201f072) :
    Evolves M o (State.abandonWin s a1 a2) := by
  unfold State.abandonWin
  try dsimp only
  repeat' first
    | (intro _)
    | with_reducible first
        | assumption | apply State.unwait_evolves | apply State.modPw_evolves | apply State.showWin_evolves
        | apply State.modMon_evolves | apply State.deliverRec_evolves | apply State.useFree_evolves
        | apply Evolves.ite | apply Evolves.foldl
    | exact mask_trans (by decide) hm
    | exact mask_bit hm (by decide)
    | fail_if_no_progress beta_reduce
    | split
    | fail_if_no_progress with_reducible apply Evolves.parts
    | exact Or.inl (by with_reducible rfl)
    | exact mask_part hm (by decide)

theorem State.abandonWins_evolves {s : State} (a1) (h : Evolves M o s)
    (hm : 0x40000500000000000001000000000000000000000000000000000000000000000000000000000000000000001800201f072 &&& M = 0x40000500000000000001000000000000000000000000000000000000000000000000000000000000000000001800201f072) :
    Evolves M o (State.abandonWins s a1) := by
  unfold State.abandonWins
  try dsimp only
  repeat' first
    | (intro _)
    | with_reducible first
        | assumption | apply State.abandonWin_evolves | apply Evolves.ite | apply Evolves.foldl
    | exact mask_trans (by decide) hm
    | exact mask_bit hm (by decide)
    | fail_if_no_progress beta_reduce
    | split
    | fail_if_no_progress with_reducible apply Evolves.parts
    | exact Or.inl (by with_reducible rfl)
    | exact mask_part hm (by decide)

theorem State.countWin_evolves {s : State} (a1 a2) (h : Evolves M o s)
    (hm : 0x2 &&& M = 0x2) :
    Evolves M o (State.countWin s a1 a2) := by
  unfold State.countWin
  try dsimp only
  repeat' first
    | (intro _)
    | with_reducible first
        | assumption | apply State.modMon_evolves | apply Evolves.ite | apply Evolves.foldl
    | exact mask_trans (by decide) hm
    | exact mask_bit hm (by decide)
    | fail_if_no_progress beta_reduce
    | split
    | fail_if_no_progress with_reducible apply Evolves.parts
    | exact Or.inl (by with_reducible rfl)
    | exact mask_part hm (by decide)

theorem State.setPwLen_evolves {s : State} (a1 a2) (h : Evolves M o s)
    (hm : 0x400000002 &&& M = 0x400000002) :
    Evolves M o (State.setPwLen s a1 a2) := by
  unfold State.setPwLen
  try dsimp only
  repeat' first
    | (intro _)
    | with_reducible first
        | assumption | apply State.modMon_evolves | apply State.wr_evolves | apply Evolves.ite | apply Evolves.foldl
    | exact mask_trans (by decide) hm
    | exact mask_bit hm (by decide)
    | fail_if_no_progress beta_reduce
    | split
    | fail_if_no_progress with_reducible apply Evolves.parts
    | exact Or.inl (by with_reducible rfl)
    | exact mask_part hm (by decide)

theorem State.setPwMode_evolves {s : State} (a1 a2) (h : Evolves M o s)
    (hm : 0x40000500000000000001000000000000000000000000000000000000000000000000000000000000000000001880201f072 &&& M = 0x40000500000000000001000000000000000000000000000000000000000000000000000000000000000000001880201f072) :
    Evolves M o (State.setPwMode s a1 a2) := by
  unfold State.setPwMode
  try dsimp only
  repeat' first
    | (intro _)
    | with_reducible first
        | assumption | apply State.wr_evolves | apply State.modMon_evolves | apply State.abandonWin_evolves
        | apply Evolves.ite | apply Evolves.foldl
    | exact mask_trans (by decide) hm
    | exact mask_bit hm (by decide)
    | fail_if_no_progress beta_reduce
    | split
    | fail_if_no_progress with_reducible apply Evolves.parts
    | exact Or.inl (by with_reducible rfl)
    | exact mask_part hm (by decide)

theorem State.failSlice_evolves {s : State} (a1 a2) (h : Evolves M o s)
    (hm : 0xd0000030000082 &&& M = 0xd0000030000082) :
    Evolves M o (State.failSlice s a1 a2) := by
  unfold State.failSlice
  try dsimp only
  repeat' first
    | (intro _)
    | with_reducible first
        | assumption | apply State.modGrp_evolves | apply State.wrBit_evolves | apply State.report_evolves
        | apply State.wr_evolves | apply Evolves.ite | apply Evolves.foldl
    | exact mask_trans (by decide) hm
    | exact mask_bit hm (by decide)
    | fail_if_no_progress beta_reduce
    | split
    | fail_if_no_progress with_reducible apply Evolves.parts
    | exact Or.inl (by with_reducible rfl)
    | exact mask_part hm (by decide)

theorem State.resumeRotation_evolves {s : State} (a1) (h : Evolves M o s)
    (hm : 0x40000000000002 &&& M = 0x40000000000002) :
    Evolves M o (State.resumeRotation s a1) := by
  unfold State.resumeRotation
  try dsimp only
  repeat' first
    | (intro _)
    | with_reducible first
        | assumption | apply State.wrBit_evolves | apply State.modGrp_evolves | apply Evolves.ite
        | apply Evolves.foldl
    | exact mask_trans (by decide) hm
    | exact mask_bit hm (by decide)
    | fail_if_no_progress beta_reduce
    | split
    | fail_if_no_progress with_reducible apply Evolves.parts
    | exact Or.inl (by with_reducible rfl)
    | exact mask_part hm (by decide)

theorem State.switchSlice_evolves {s : State} (a1 a2) (h : Evolves M o s)
    (hm : 0x10000002 &&& M = 0x10000002) :
    Evolves M o (State.switchSlice s a1 a2) := by
  unfold State.switchSlice
  try dsimp only
  repeat' first
    | (intro _)
    | with_reducible first
        | assumption | apply State.modMon_evolves | apply State.addSpan_evolves | apply State.wrBit_evolves
        | apply Evolves.ite | apply Evolves.foldl
    | exact mask_trans (by decide) hm
    | exact mask_bit hm (by decide)
    | fail_if_no_progress beta_reduce
    | split
    | fail_if_no_progress with_reducible apply Evolves.parts
    | exact Or.inl (by with_reducible rfl)
    | exact mask_part hm (by decide)

theorem State.stopGroup_evolves {s : State} (a1) (h : Evolves M o s)
    (hm : 0xc0000000000002 &&& M = 0xc0000000000002) :
    Evolves M o (State.stopGroup s a1) := by
  unfold State.stopGroup
  try dsimp only
  repeat' first
    | (intro _)
    | with_reducible first
        | assumption | apply State.modGrp_evolves | apply State.wrBit_evolves | apply Evolves.ite
        | apply Evolves.foldl
    | exact mask_trans (by decide) hm
    | exact mask_bit hm (by decide)
    | fail_if_no_progress beta_reduce
    | split
    | fail_if_no_progress with_reducible apply Evolves.parts
    | exact Or.inl (by with_reducible rfl)
    | exact mask_part hm (by decide)

theorem State.abandonSys_evolves {s : State} (a1) (h : Evolves M o s)
    (hm : 0x40800000000002 &&& M = 0x40800000000002) :
    Evolves M o (State.abandonSys s a1) := by
  unfold State.abandonSys
  try dsimp only
  repeat' first
    | (intro _)
    | with_reducible first
        | assumption | apply State.modCpt_evolves | apply State.wrBit_evolves | apply State.modGrp_evolves
        | apply State.resumeRotation_evolves | apply Evolves.ite | apply Evolves.foldl
    | exact mask_trans (by decide) hm
    | exact mask_bit hm (by decide)
    | fail_if_no_progress beta_reduce
    | split
    | fail_if_no_progress with_reducible apply Evolves.parts
    | exact Or.inl (by with_reducible rfl)
    | exact mask_part hm (by decide)

/-! ## DatumOps -/

theorem State.modDom_evolves {s : State} (a1 a2) (h : Evolves M o s)
    (hm : 0x800 &&& M = 0x800) :
    Evolves M o (State.modDom s a1 a2) := by
  unfold State.modDom
  try dsimp only
  repeat' first
    | (intro _)
    | with_reducible first
        | assumption | apply Evolves.ite | apply Evolves.foldl
    | exact mask_trans (by decide) hm
    | exact mask_bit hm (by decide)
    | fail_if_no_progress beta_reduce
    | split
    | fail_if_no_progress with_reducible apply Evolves.parts
    | exact Or.inl (by with_reducible rfl)
    | exact mask_part hm (by decide)

theorem State.showPtpRoles_evolves {s : State} (h : Evolves M o s)
    (hm : 0xc00000000000000000000000000000000000000000000000000000000000000000 &&& M = 0xc00000000000000000000000000000000000000000000000000000000000000000) :
    Evolves M o (State.showPtpRoles s) := by
  unfold State.showPtpRoles
  try dsimp only
  repeat' first
    | (intro _)
    | with_reducible first
        | assumption | apply State.wr_evolves | apply Evolves.ite | apply Evolves.foldl
    | exact mask_trans (by decide) hm
    | exact mask_bit hm (by decide)
    | fail_if_no_progress beta_reduce
    | split
    | fail_if_no_progress with_reducible apply Evolves.parts
    | exact Or.inl (by with_reducible rfl)
    | exact mask_part hm (by decide)

theorem State.setP_evolves {s : State} (a1) (h : Evolves M o s)
    (hm : 0x20000400000000000000000000000000000000000000000000000000000010880 &&& M = 0x20000400000000000000000000000000000000000000000000000000000010880) :
    Evolves M o (State.setP s a1) := by
  unfold State.setP
  try dsimp only
  repeat' first
    | (intro _)
    | with_reducible first
        | assumption | apply State.report_evolves | apply State.dtmEvent_evolves | apply State.wr_evolves
        | apply Evolves.ite | apply Evolves.foldl
    | exact mask_trans (by decide) hm
    | exact mask_bit hm (by decide)
    | fail_if_no_progress beta_reduce
    | split
    | fail_if_no_progress with_reducible apply Evolves.parts
    | exact Or.inl (by with_reducible rfl)
    | exact mask_part hm (by decide)

theorem State.setS_evolves {s : State} (a1) (h : Evolves M o s)
    (hm : 0x20000800000000000000000000000000000000000000000000000000000010080 &&& M = 0x20000800000000000000000000000000000000000000000000000000000010080) :
    Evolves M o (State.setS s a1) := by
  unfold State.setS
  try dsimp only
  repeat' first
    | (intro _)
    | with_reducible first
        | assumption | apply State.report_evolves | apply State.dtmEvent_evolves | apply State.wr_evolves
        | apply Evolves.ite | apply Evolves.foldl
    | exact mask_trans (by decide) hm
    | exact mask_bit hm (by decide)
    | fail_if_no_progress beta_reduce
    | split
    | fail_if_no_progress with_reducible apply Evolves.parts
    | exact Or.inl (by with_reducible rfl)
    | exact mask_part hm (by decide)

theorem State.setDom_evolves {s : State} (a1 a2) (h : Evolves M o s)
    (hm : 0x20000c00000000000000000000000000000000000000000000000000000010880 &&& M = 0x20000c00000000000000000000000000000000000000000000000000000010880) :
    Evolves M o (State.setDom s a1 a2) := by
  unfold State.setDom
  try dsimp only
  repeat' first
    | (intro _)
    | with_reducible first
        | assumption | apply State.setP_evolves | apply State.setS_evolves | apply Evolves.ite | apply Evolves.foldl
    | exact mask_trans (by decide) hm
    | exact mask_bit hm (by decide)
    | fail_if_no_progress beta_reduce
    | split
    | fail_if_no_progress with_reducible apply Evolves.parts
    | exact Or.inl (by with_reducible rfl)
    | exact mask_part hm (by decide)

theorem State.setRho_evolves {s : State} (a1) (h : Evolves M o s)
    (hm : 0x4000000000000000000000000000000000000000000000000000000000000000 &&& M = 0x4000000000000000000000000000000000000000000000000000000000000000) :
    Evolves M o (State.setRho s a1) := by
  unfold State.setRho
  try dsimp only
  repeat' first
    | (intro _)
    | with_reducible first
        | assumption | apply State.wr_evolves | apply Evolves.ite | apply Evolves.foldl
    | exact mask_trans (by decide) hm
    | exact mask_bit hm (by decide)
    | fail_if_no_progress beta_reduce
    | split
    | fail_if_no_progress with_reducible apply Evolves.parts
    | exact Or.inl (by with_reducible rfl)
    | exact mask_part hm (by decide)

theorem State.setEst_evolves {s : State} (a1) (h : Evolves M o s)
    (hm : 0x800 &&& M = 0x800) :
    Evolves M o (State.setEst s a1) := by
  unfold State.setEst
  try dsimp only
  repeat' first
    | (intro _)
    | with_reducible first
        | assumption | apply Evolves.ite | apply Evolves.foldl
    | exact mask_trans (by decide) hm
    | exact mask_bit hm (by decide)
    | fail_if_no_progress beta_reduce
    | split
    | fail_if_no_progress with_reducible apply Evolves.parts
    | exact Or.inl (by with_reducible rfl)
    | exact mask_part hm (by decide)

theorem State.steer_evolves {s : State} (h : Evolves M o s)
    (hm : 0x4000000000000000000000000000000000000000000000000000000000008000 &&& M = 0x4000000000000000000000000000000000000000000000000000000000008000) :
    Evolves M o (State.steer s) := by
  unfold State.steer
  try dsimp only
  repeat' first
    | (intro _)
    | with_reducible first
        | assumption | apply State.setRho_evolves | apply State.useFree_evolves | apply Evolves.ite
        | apply Evolves.foldl
    | exact mask_trans (by decide) hm
    | exact mask_bit hm (by decide)
    | fail_if_no_progress beta_reduce
    | split
    | fail_if_no_progress with_reducible apply Evolves.parts
    | exact Or.inl (by with_reducible rfl)
    | exact mask_part hm (by decide)

theorem State.runP_evolves {s : State} (a1) (h : Evolves M o s)
    (hm : 0x24000400000000000000000000000000000000000000000000000000000018880 &&& M = 0x24000400000000000000000000000000000000000000000000000000000018880) :
    Evolves M o (State.runP s a1) := by
  unfold State.runP
  try dsimp only
  repeat' first
    | (intro _)
    | with_reducible first
        | assumption | apply State.steer_evolves | apply State.setP_evolves | apply Evolves.ite | apply Evolves.foldl
    | exact mask_trans (by decide) hm
    | exact mask_bit hm (by decide)
    | fail_if_no_progress beta_reduce
    | split
    | fail_if_no_progress with_reducible apply Evolves.parts
    | exact Or.inl (by with_reducible rfl)
    | exact mask_part hm (by decide)

theorem State.lose_evolves {s : State} (a1) (h : Evolves M o s)
    (hm : 0x24000c00000000000000000000000000000000000000000000000000000010880 &&& M = 0x24000c00000000000000000000000000000000000000000000000000000010880) :
    Evolves M o (State.lose s a1) := by
  unfold State.lose
  try dsimp only
  repeat' first
    | (intro _)
    | with_reducible first
        | assumption | apply State.modDom_evolves | apply State.setDom_evolves | apply State.setRho_evolves
        | apply Evolves.ite | apply Evolves.foldl
    | exact mask_trans (by decide) hm
    | exact mask_bit hm (by decide)
    | fail_if_no_progress beta_reduce
    | split
    | fail_if_no_progress with_reducible apply Evolves.parts
    | exact Or.inl (by with_reducible rfl)
    | exact mask_part hm (by decide)

theorem State.acquire_evolves {s : State} (a1) (h : Evolves M o s)
    (hm : 0x20000c00000000000000000000000000000000000000000000000000000010880 &&& M = 0x20000c00000000000000000000000000000000000000000000000000000010880) :
    Evolves M o (State.acquire s a1) := by
  unfold State.acquire
  try dsimp only
  repeat' first
    | (intro _)
    | with_reducible first
        | assumption | apply State.setDom_evolves | apply State.modDom_evolves | apply Evolves.ite
        | apply Evolves.foldl
    | exact mask_trans (by decide) hm
    | exact mask_bit hm (by decide)
    | fail_if_no_progress beta_reduce
    | split
    | fail_if_no_progress with_reducible apply Evolves.parts
    | exact Or.inl (by with_reducible rfl)
    | exact mask_part hm (by decide)

theorem State.modPp_evolves {s : State} (a1 a2) (h : Evolves M o s)
    (hm : 0x800 &&& M = 0x800) :
    Evolves M o (State.modPp s a1 a2) := by
  unfold State.modPp
  try dsimp only
  repeat' first
    | (intro _)
    | with_reducible first
        | assumption | apply Evolves.ite | apply Evolves.foldl
    | exact mask_trans (by decide) hm
    | exact mask_bit hm (by decide)
    | fail_if_no_progress beta_reduce
    | split
    | fail_if_no_progress with_reducible apply Evolves.parts
    | exact Or.inl (by with_reducible rfl)
    | exact mask_part hm (by decide)

theorem State.takeOffset_evolves {s : State} (a1 a2 a3) (h : Evolves M o s)
    (hm : 0x1c000000000000000000000000000000000000000000000000000000000008800 &&& M = 0x1c000000000000000000000000000000000000000000000000000000000008800) :
    Evolves M o (State.takeOffset s a1 a2 a3) := by
  unfold State.takeOffset
  try dsimp only
  repeat' first
    | (intro _)
    | with_reducible first
        | assumption | apply State.modDom_evolves | apply State.wr_evolves | apply State.steer_evolves
        | apply State.setEst_evolves | apply Evolves.ite | apply Evolves.foldl
    | exact mask_trans (by decide) hm
    | exact mask_bit hm (by decide)
    | fail_if_no_progress beta_reduce
    | split
    | fail_if_no_progress with_reducible apply Evolves.parts
    | exact Or.inl (by with_reducible rfl)
    | exact mask_part hm (by decide)

theorem State.planStep_evolves {s : State} (a1) (h : Evolves M o s)
    (hm : 0x2000000000000000000000000000000000000000000000000000000000800 &&& M = 0x2000000000000000000000000000000000000000000000000000000000800) :
    Evolves M o (State.planStep s a1) := by
  unfold State.planStep
  try dsimp only
  repeat' first
    | (intro _)
    | with_reducible first
        | assumption | apply State.wrBit_evolves | apply Evolves.ite | apply Evolves.foldl
    | exact mask_trans (by decide) hm
    | exact mask_bit hm (by decide)
    | fail_if_no_progress beta_reduce
    | split
    | fail_if_no_progress with_reducible apply Evolves.parts
    | exact Or.inl (by with_reducible rfl)
    | exact mask_part hm (by decide)

theorem State.switchNow_evolves {s : State} (a1) (h : Evolves M o s)
    (hm : 0x3c025c00000000000000000000000000000000000000000000000000000018880 &&& M = 0x3c025c00000000000000000000000000000000000000000000000000000018880) :
    Evolves M o (State.switchNow s a1) := by
  unfold State.switchNow
  try dsimp only
  repeat' first
    | (intro _)
    | with_reducible first
        | assumption | apply State.dtmEvent_evolves | apply State.inc_evolves | apply State.wr_evolves
        | apply State.report_evolves | apply State.runP_evolves | apply State.setEst_evolves
        | apply State.wrBit_evolves | apply State.setS_evolves | apply Evolves.ite | apply Evolves.foldl
    | exact mask_trans (by decide) hm
    | exact mask_bit hm (by decide)
    | fail_if_no_progress beta_reduce
    | split
    | fail_if_no_progress with_reducible apply Evolves.parts
    | exact Or.inl (by with_reducible rfl)
    | exact mask_part hm (by decide)

theorem State.switchAtBoundary_evolves {s : State} (h : Evolves M o s)
    (hm : 0x40000000000000000000000000000000003c025c00000000000000000000000000000000000000000000000000000018890 &&& M = 0x40000000000000000000000000000000003c025c00000000000000000000000000000000000000000000000000000018890) :
    Evolves M o (State.switchAtBoundary s) := by
  unfold State.switchAtBoundary
  try dsimp only
  repeat' first
    | (intro _)
    | with_reducible first
        | assumption | apply State.finish_evolves | apply State.switchNow_evolves | apply State.lose_evolves
        | apply Evolves.ite | apply Evolves.foldl
    | exact mask_trans (by decide) hm
    | exact mask_bit hm (by decide)
    | fail_if_no_progress beta_reduce
    | split
    | fail_if_no_progress with_reducible apply Evolves.parts
    | exact Or.inl (by with_reducible rfl)
    | exact mask_part hm (by decide)

theorem State.sendPtp_evolves {s : State} (a1 a2) (h : Evolves M o s)
    (hm : 0x5000000000000000000000000000000000000000000000000000000000000000000000000000000000000000004000 &&& M = 0x5000000000000000000000000000000000000000000000000000000000000000000000000000000000000000004000) :
    Evolves M o (State.sendPtp s a1 a2) := by
  unfold State.sendPtp
  try dsimp only
  repeat' first
    | (intro _)
    | with_reducible first
        | assumption | apply State.enqueue_evolves | apply Evolves.ite | apply Evolves.foldl
    | exact mask_trans (by decide) hm
    | exact mask_bit hm (by decide)
    | fail_if_no_progress beta_reduce
    | split
    | fail_if_no_progress with_reducible apply Evolves.parts
    | exact Or.inl (by with_reducible rfl)
    | exact mask_part hm (by decide)

theorem State.showTsq_evolves {s : State} (a1) (h : Evolves M o s)
    (hm : 0xf90000000000000000000000000000000000000000000000000000000000000000000 &&& M = 0xf90000000000000000000000000000000000000000000000000000000000000000000) :
    Evolves M o (State.showTsq s a1) := by
  unfold State.showTsq
  try dsimp only
  repeat' first
    | (intro _)
    | with_reducible first
        | assumption | apply State.wr_evolves | apply State.wrBit_evolves | apply Evolves.ite | apply Evolves.foldl
    | exact mask_trans (by decide) hm
    | exact mask_bit hm (by decide)
    | fail_if_no_progress beta_reduce
    | split
    | fail_if_no_progress with_reducible apply Evolves.parts
    | exact Or.inl (by with_reducible rfl)
    | exact mask_part hm (by decide)

theorem State.pushTsq_evolves {s : State} (a1 a2) (h : Evolves M o s)
    (hm : 0xff0020000000000000000000000000000000000000000000000000000000000010880 &&& M = 0xff0020000000000000000000000000000000000000000000000000000000000010880) :
    Evolves M o (State.pushTsq s a1 a2).1 := by
  unfold State.pushTsq
  try dsimp only
  repeat' first
    | (intro _)
    | with_reducible first
        | assumption | apply State.showTsq_evolves | apply State.modPp_evolves | apply State.report_evolves
        | apply State.dtmEvent_evolves | apply State.sat_evolves | apply State.wrBit_evolves | apply Evolves.ite
        | apply Evolves.foldl
    | exact mask_trans (by decide) hm
    | exact mask_bit hm (by decide)
    | fail_if_no_progress beta_reduce
    | split
    | fail_if_no_progress with_reducible apply Evolves.parts
    | exact Or.inl (by with_reducible rfl)
    | exact mask_part hm (by decide)

theorem State.discardPtp_evolves {s : State} (a1) (h : Evolves M o s)
    (hm : 0x1000000000000000000000000000000000000000000000000000000000000000000 &&& M = 0x1000000000000000000000000000000000000000000000000000000000000000000) :
    Evolves M o (State.discardPtp s a1) := by
  unfold State.discardPtp
  try dsimp only
  repeat' first
    | (intro _)
    | with_reducible first
        | assumption | apply State.sat_evolves | apply Evolves.ite | apply Evolves.foldl
    | exact mask_trans (by decide) hm
    | exact mask_bit hm (by decide)
    | fail_if_no_progress beta_reduce
    | split
    | fail_if_no_progress with_reducible apply Evolves.parts
    | exact Or.inl (by with_reducible rfl)
    | exact mask_part hm (by decide)

theorem State.modTrig_evolves {s : State} (a1 a2) (h : Evolves M o s)
    (hm : 0x800 &&& M = 0x800) :
    Evolves M o (State.modTrig s a1 a2) := by
  unfold State.modTrig
  try dsimp only
  repeat' first
    | (intro _)
    | with_reducible first
        | assumption | apply Evolves.ite | apply Evolves.foldl
    | exact mask_trans (by decide) hm
    | exact mask_bit hm (by decide)
    | fail_if_no_progress beta_reduce
    | split
    | fail_if_no_progress with_reducible apply Evolves.parts
    | exact Or.inl (by with_reducible rfl)
    | exact mask_part hm (by decide)

theorem State.showTrig_evolves {s : State} (a1) (h : Evolves M o s)
    (hm : 0x1c040000000000000000000000000000000000000000000000000000000000000000000000 &&& M = 0x1c040000000000000000000000000000000000000000000000000000000000000000000000) :
    Evolves M o (State.showTrig s a1) := by
  unfold State.showTrig
  try dsimp only
  repeat' first
    | (intro _)
    | with_reducible first
        | assumption | apply State.wr_evolves | apply State.wrBit_evolves | apply Evolves.ite | apply Evolves.foldl
    | exact mask_trans (by decide) hm
    | exact mask_bit hm (by decide)
    | fail_if_no_progress beta_reduce
    | split
    | fail_if_no_progress with_reducible apply Evolves.parts
    | exact Or.inl (by with_reducible rfl)
    | exact mask_part hm (by decide)

theorem State.setStart_evolves {s : State} (a1 a2) (h : Evolves M o s)
    (hm : 0x20000020000000000000000000000000000000000000000000000000000000000010800 &&& M = 0x20000020000000000000000000000000000000000000000000000000000000000010800) :
    Evolves M o (State.setStart s a1 a2) := by
  unfold State.setStart
  try dsimp only
  repeat' first
    | (intro _)
    | with_reducible first
        | assumption | apply State.modTrig_evolves | apply State.dtmEvent_evolves | apply State.wrBit_evolves
        | apply Evolves.ite | apply Evolves.foldl
    | exact mask_trans (by decide) hm
    | exact mask_bit hm (by decide)
    | fail_if_no_progress beta_reduce
    | split
    | fail_if_no_progress with_reducible apply Evolves.parts
    | exact Or.inl (by with_reducible rfl)
    | exact mask_part hm (by decide)

theorem State.noteDiscard_evolves {s : State} (a1) (h : Evolves M o s)
    (hm : 0x80 &&& M = 0x80) :
    Evolves M o (State.noteDiscard s a1) := by
  unfold State.noteDiscard
  try dsimp only
  repeat' first
    | (intro _)
    | with_reducible first
        | assumption | apply State.report_evolves | apply Evolves.ite | apply Evolves.foldl
    | exact mask_trans (by decide) hm
    | exact mask_bit hm (by decide)
    | fail_if_no_progress beta_reduce
    | split
    | fail_if_no_progress with_reducible apply Evolves.parts
    | exact Or.inl (by with_reducible rfl)
    | exact mask_part hm (by decide)

theorem State.expertWrite_evolves {s : State} (a f i) {e : State → State} (h : Evolves M o s)
    (he : ∀ t, Evolves M o t → Evolves M o (e t))
    (hm : 0x80 &&& M = 0x80) :
    Evolves M o (State.expertWrite s a f i e) := by
  unfold State.expertWrite
  try dsimp only
  repeat' first
    | (intro _)
    | with_reducible first
        | assumption | apply he | apply State.noteDiscard_evolves | apply Evolves.ite | apply Evolves.foldl
    | exact mask_trans (by decide) hm
    | exact mask_bit hm (by decide)
    | fail_if_no_progress beta_reduce
    | split
    | fail_if_no_progress with_reducible apply Evolves.parts
    | exact Or.inl (by with_reducible rfl)
    | exact mask_part hm (by decide)

end Sys2Proof.Machine
end

