-- ==== Sys2Proof/Laws/EvolvesC.lean ====
section
/-! SUPPORT. What each operation and meaning of the files Conv, StandOps, ElemOps, Datum leaves of the state before it
(Evolves). -/

namespace Sys2Proof.Machine

set_option Elab.async false
set_option linter.unusedTactic false
set_option linter.unreachableTactic false
set_option linter.unusedVariables false
set_option linter.unusedSimpArgs false
set_option exponentiation.threshold 1024

variable {M : Nat} {o : State}

/-! ## Conv -/

theorem execMonitorRangeChange_goes {s : State} (a0) (h : Evolves M o s)
    (hm : 0x3000002 &&& M = 0x3000002) :
    Goes M o (execMonitorRangeChange a0 s) := by
  unfold execMonitorRangeChange
  try dsimp only
  repeat' first
    | (intro _)
    | with_reducible first
        | assumption | apply Goes.next | apply State.showPend_evolves | apply State.addSpan_evolves
        | apply State.wr_evolves | apply State.modMon_evolves | apply Evolves.ite | apply Evolves.foldl
    | exact mask_trans (by decide) hm
    | exact mask_bit hm (by decide)
    | fail_if_no_progress beta_reduce
    | split
    | fail_if_no_progress with_reducible apply Evolves.parts
    | exact Or.inl (by with_reducible rfl)
    | exact mask_part hm (by decide)

theorem execComparatorChange_goes {s : State} (a0 a1) (h : Evolves M o s)
    (hm : 0xc0000082 &&& M = 0xc0000082) :
    Goes M o (execComparatorChange a0 a1 s) := by
  unfold execComparatorChange
  try dsimp only
  repeat' first
    | (intro _)
    | with_reducible first
        | assumption | apply Goes.next | apply State.report_evolves | apply State.modMon_evolves
        | apply State.wrBit_evolves | apply Evolves.ite | apply Evolves.foldl
    | exact mask_trans (by decide) hm
    | exact mask_bit hm (by decide)
    | fail_if_no_progress beta_reduce
    | split
    | fail_if_no_progress with_reducible apply Evolves.parts
    | exact Or.inl (by with_reducible rfl)
    | exact mask_part hm (by decide)

theorem execMonitorRead_goes {s : State} (a0 a1 a2 a3 a4) (h : Evolves M o s)
    (hm : 0x400000000000000000000000000000000000000000000000000000000000000000000000000000000000000000002000052 &&& M = 0x400000000000000000000000000000000000000000000000000000000000000000000000000000000000000000002000052) :
    Goes M o (execMonitorRead a0 a1 a2 a3 a4 s) := by
  unfold execMonitorRead
  try dsimp only
  repeat' first
    | (intro _)
    | with_reducible first
        | assumption | apply Goes.next | apply State.checked_evolves | apply State.entered_evolves
        | apply State.wantRange_evolves | apply Evolves.ite | apply Evolves.foldl
    | exact mask_trans (by decide) hm
    | exact mask_bit hm (by decide)
    | fail_if_no_progress beta_reduce
    | split
    | fail_if_no_progress with_reducible apply Evolves.parts
    | exact Or.inl (by with_reducible rfl)
    | exact mask_part hm (by decide)

theorem execPwGoWrite_goes {s : State} (a0) (h : Evolves M o s)
    (hm : 0x4000000000000000000000000000000000000000000000000000000000000000000000000000000000000000d8002012052 &&& M = 0x4000000000000000000000000000000000000000000000000000000000000000000000000000000000000000d8002012052) :
    Goes M o (execPwGoWrite a0 s) := by
  unfold execPwGoWrite
  try dsimp only
  repeat' first
    | (intro _)
    | with_reducible first
        | assumption | apply Goes.next | apply State.trigger_evolves | apply Evolves.ite | apply Evolves.foldl
    | exact mask_trans (by decide) hm
    | exact mask_bit hm (by decide)
    | fail_if_no_progress beta_reduce
    | split
    | fail_if_no_progress with_reducible apply Evolves.parts
    | exact Or.inl (by with_reducible rfl)
    | exact mask_part hm (by decide)

theorem execPrecisionWindowStart_goes {s : State} (a0) (h : Evolves M o s)
    (hm : 0x400000000000000000000000000000000000000000000000000000000000000000000000000000000000000020002000012 &&& M = 0x400000000000000000000000000000000000000000000000000000000000000000000000000000000000000020002000012) :
    Goes M o (execPrecisionWindowStart a0 s) := by
  unfold execPrecisionWindowStart
  try dsimp only
  repeat' first
    | (intro _)
    | with_reducible first
        | assumption | apply Goes.next | apply State.wrBit_evolves | apply State.modMon_evolves
        | apply State.showPend_evolves | apply State.finish_evolves | apply Evolves.ite | apply Evolves.foldl
    | exact mask_trans (by decide) hm
    | exact mask_bit hm (by decide)
    | fail_if_no_progress beta_reduce
    | split
    | fail_if_no_progress with_reducible apply Evolves.parts
    | exact Or.inl (by with_reducible rfl)
    | exact mask_part hm (by decide)

theorem execPrecisionWindowEnd_goes {s : State} (a0 a1) (h : Evolves M o s)
    (hm : 0x400005000000000000010000000000000000000000000000000000000000000000000000000000000000000038002017072 &&& M = 0x400005000000000000010000000000000000000000000000000000000000000000000000000000000000000038002017072) :
    Goes M o (execPrecisionWindowEnd a0 a1 s) := by
  unfold execPrecisionWindowEnd
  try dsimp only
  repeat' first
    | (intro _)
    | with_reducible first
        | assumption | apply Goes.next | apply State.afterWin_evolves | apply State.deliverRec_evolves
        | apply Evolves.ite | apply Evolves.foldl
    | exact mask_trans (by decide) hm
    | exact mask_bit hm (by decide)
    | fail_if_no_progress beta_reduce
    | split
    | fail_if_no_progress with_reducible apply Evolves.parts
    | exact Or.inl (by with_reducible rfl)
    | exact mask_part hm (by decide)

theorem State.armMon_evolves {s : State} (a1 a2 a3 a4 a5 a6 a7 a8) (h : Evolves M o s)
    (hm : 0x4000050000000000000100000000000000000000000000000000000000000000000000000000000000000000dbc0201f072 &&& M = 0x4000050000000000000100000000000000000000000000000000000000000000000000000000000000000000dbc0201f072) :
    Evolves M o (State.armMon s a1 a2 a3 a4 a5 a6 a7 a8) := by
  unfold State.armMon
  try dsimp only
  repeat' first
    | (intro _)
    | with_reducible first
        | assumption | apply State.wr_evolves | apply State.setPwMode_evolves | apply State.setPwLen_evolves
        | apply State.modMon_evolves | apply State.trigger_evolves | apply Evolves.ite | apply Evolves.foldl
    | exact mask_trans (by decide) hm
    | exact mask_bit hm (by decide)
    | fail_if_no_progress beta_reduce
    | split
    | fail_if_no_progress with_reducible apply Evolves.parts
    | exact Or.inl (by with_reducible rfl)
    | exact mask_part hm (by decide)

theorem execPrecisionMeasure_goes {s : State} (a0 a1 a2 a3 a4 a5 a6 a7 a8 a9) (h : Evolves M o s)
    (hm : 0x4000050000000000000100000000000000000000000000000000000000000000000000000000000000000000dbc0201f072 &&& M = 0x4000050000000000000100000000000000000000000000000000000000000000000000000000000000000000dbc0201f072) :
    Goes M o (execPrecisionMeasure a0 a1 a2 a3 a4 a5 a6 a7 a8 a9 s) := by
  unfold execPrecisionMeasure
  try dsimp only
  repeat' first
    | (intro _)
    | with_reducible first
        | assumption | apply Goes.next | apply State.checked_evolves | apply State.entered_evolves
        | apply State.armMon_evolves | apply State.effect_evolves | apply Evolves.ite | apply Evolves.foldl
    | exact mask_trans (by decide) hm
    | exact mask_bit hm (by decide)
    | fail_if_no_progress beta_reduce
    | split
    | fail_if_no_progress with_reducible apply Evolves.parts
    | exact Or.inl (by with_reducible rfl)
    | exact mask_part hm (by decide)

theorem execBenchmarkTakeover_goes {s : State} (a0) (h : Evolves M o s)
    (hm : 0x80000010000002 &&& M = 0x80000010000002) :
    Goes M o (execBenchmarkTakeover a0 s) := by
  unfold execBenchmarkTakeover
  try dsimp only
  repeat' first
    | (intro _)
    | with_reducible first
        | assumption | apply Goes.next | apply State.wrBit_evolves | apply State.modGrp_evolves
        | apply State.switchSlice_evolves | apply Evolves.ite | apply Evolves.foldl
    | exact mask_trans (by decide) hm
    | exact mask_bit hm (by decide)
    | fail_if_no_progress beta_reduce
    | split
    | fail_if_no_progress with_reducible apply Evolves.parts
    | exact Or.inl (by with_reducible rfl)
    | exact mask_part hm (by decide)

theorem execBenchmarkResult_goes {s : State} (a0 a1) (h : Evolves M o s)
    (hm : 0x1f0000030000082 &&& M = 0x1f0000030000082) :
    Goes M o (execBenchmarkResult a0 a1 s) := by
  unfold execBenchmarkResult
  try dsimp only
  repeat' first
    | (intro _)
    | with_reducible first
        | assumption | apply Goes.next | apply State.wrBit_evolves | apply State.modGrp_evolves
        | apply State.sat_evolves | apply State.report_evolves | apply State.failSlice_evolves | apply Evolves.ite
        | apply Evolves.foldl
    | exact mask_trans (by decide) hm
    | exact mask_bit hm (by decide)
    | fail_if_no_progress beta_reduce
    | split
    | fail_if_no_progress with_reducible apply Evolves.parts
    | exact Or.inl (by with_reducible rfl)
    | exact mask_part hm (by decide)

theorem State.nextPosition_evolves {s : State} (a1 a2) (h : Evolves M o s)
    (hm : 0x248000000000002 &&& M = 0x248000000000002) :
    Evolves M o (State.nextPosition s a1 a2) := by
  unfold State.nextPosition
  try dsimp only
  repeat' first
    | (intro _)
    | with_reducible first
        | assumption | apply State.modGrp_evolves | apply State.wr_evolves | apply State.inc_evolves
        | apply State.wrBit_evolves | apply Evolves.ite | apply Evolves.foldl
    | exact mask_trans (by decide) hm
    | exact mask_bit hm (by decide)
    | fail_if_no_progress beta_reduce
    | split
    | fail_if_no_progress with_reducible apply Evolves.parts
    | exact Or.inl (by with_reducible rfl)
    | exact mask_part hm (by decide)

theorem State.endReturn_evolves {s : State} (a1) (h : Evolves M o s)
    (hm : 0x248000000000002 &&& M = 0x248000000000002) :
    Evolves M o (State.endReturn s a1) := by
  unfold State.endReturn
  try dsimp only
  repeat' first
    | (intro _)
    | with_reducible first
        | assumption | apply State.modGrp_evolves | apply State.nextPosition_evolves | apply Evolves.ite
        | apply Evolves.foldl
    | exact mask_trans (by decide) hm
    | exact mask_bit hm (by decide)
    | fail_if_no_progress beta_reduce
    | split
    | fail_if_no_progress with_reducible apply Evolves.parts
    | exact Or.inl (by with_reducible rfl)
    | exact mask_part hm (by decide)

theorem execBenchmarkReturn_goes {s : State} (a0) (h : Evolves M o s)
    (hm : 0x2c8000010000002 &&& M = 0x2c8000010000002) :
    Goes M o (execBenchmarkReturn a0 s) := by
  unfold execBenchmarkReturn
  try dsimp only
  repeat' first
    | (intro _)
    | with_reducible first
        | assumption | apply Goes.next | apply State.nextPosition_evolves | apply State.wrBit_evolves
        | apply State.modGrp_evolves | apply State.switchSlice_evolves | apply Evolves.ite | apply Evolves.foldl
    | exact mask_trans (by decide) hm
    | exact mask_bit hm (by decide)
    | fail_if_no_progress beta_reduce
    | split
    | fail_if_no_progress with_reducible apply Evolves.parts
    | exact Or.inl (by with_reducible rfl)
    | exact mask_part hm (by decide)

theorem execCalRotCtrlWrite_goes {s : State} (a0) (h : Evolves M o s)
    (hm : 0xc0200000000082 &&& M = 0xc0200000000082) :
    Goes M o (execCalRotCtrlWrite a0 s) := by
  unfold execCalRotCtrlWrite
  try dsimp only
  repeat' first
    | (intro _)
    | with_reducible first
        | assumption | apply Goes.next | apply State.expertWrite_evolves | apply State.wr_evolves
        | apply State.resumeRotation_evolves | apply State.wrBit_evolves | apply Evolves.ite | apply Evolves.foldl
    | exact mask_trans (by decide) hm
    | exact mask_bit hm (by decide)
    | fail_if_no_progress beta_reduce
    | split
    | fail_if_no_progress with_reducible apply Evolves.parts
    | exact Or.inl (by with_reducible rfl)
    | exact mask_part hm (by decide)

theorem execCalibrationStale_goes {s : State} (a0) (h : Evolves M o s)
    (hm : 0x20000000000000 &&& M = 0x20000000000000) :
    Goes M o (execCalibrationStale a0 s) := by
  unfold execCalibrationStale
  try dsimp only
  repeat' first
    | (intro _)
    | with_reducible first
        | assumption | apply Goes.next | apply State.wrBit_evolves | apply Evolves.ite | apply Evolves.foldl
    | exact mask_trans (by decide) hm
    | exact mask_bit hm (by decide)
    | fail_if_no_progress beta_reduce
    | split
    | fail_if_no_progress with_reducible apply Evolves.parts
    | exact Or.inl (by with_reducible rfl)
    | exact mask_part hm (by decide)

theorem State.passSlice_evolves {s : State} (a1 a2 a3) (h : Evolves M o s)
    (hm : 0xf0000030000082 &&& M = 0xf0000030000082) :
    Evolves M o (State.passSlice s a1 a2 a3) := by
  unfold State.passSlice
  try dsimp only
  repeat' first
    | (intro _)
    | with_reducible first
        | assumption | apply State.modGrp_evolves | apply State.failSlice_evolves | apply State.wrBit_evolves
        | apply Evolves.ite | apply Evolves.foldl
    | exact mask_trans (by decide) hm
    | exact mask_bit hm (by decide)
    | fail_if_no_progress beta_reduce
    | split
    | fail_if_no_progress with_reducible apply Evolves.parts
    | exact Or.inl (by with_reducible rfl)
    | exact mask_part hm (by decide)

theorem State.passGroup_evolves {s : State} (a1 a2) (h : Evolves M o s)
    (hm : 0xf8000030000082 &&& M = 0xf8000030000082) :
    Evolves M o (State.passGroup s a1 a2) := by
  unfold State.passGroup
  try dsimp only
  repeat' first
    | (intro _)
    | with_reducible first
        | assumption | apply State.wr_evolves | apply State.wrBit_evolves | apply State.modGrp_evolves
        | apply State.passSlice_evolves | apply Evolves.ite | apply Evolves.foldl
    | exact mask_trans (by decide) hm
    | exact mask_bit hm (by decide)
    | fail_if_no_progress beta_reduce
    | split
    | fail_if_no_progress with_reducible apply Evolves.parts
    | exact Or.inl (by with_reducible rfl)
    | exact mask_part hm (by decide)

theorem State.failRejoin_evolves {s : State} (a1) (h : Evolves M o s)
    (hm : 0x400000000000000000000000000000000000000000040000000000000000000000000000000000000000000000000000018 &&& M = 0x400000000000000000000000000000000000000000040000000000000000000000000000000000000000000000000000018) :
    Evolves M o (State.failRejoin s a1) := by
  unfold State.failRejoin
  try dsimp only
  repeat' first
    | (intro _)
    | with_reducible first
        | assumption | apply State.finishOpt_evolves | apply State.wrBit_evolves | apply Evolves.ite
        | apply Evolves.foldl
    | exact mask_trans (by decide) hm
    | exact mask_bit hm (by decide)
    | fail_if_no_progress beta_reduce
    | split
    | fail_if_no_progress with_reducible apply Evolves.parts
    | exact Or.inl (by with_reducible rfl)
    | exact mask_part hm (by decide)

theorem execStartupPassEnd_goes {s : State} (a0 a1 a2) (h : Evolves M o s)
    (hm : 0x4000000000000000000000000000000000000000000400000000000000000000000000000000000000000f800003000009a &&& M = 0x4000000000000000000000000000000000000000000400000000000000000000000000000000000000000f800003000009a) :
    Goes M o (execStartupPassEnd a0 a1 a2 s) := by
  unfold execStartupPassEnd
  try dsimp only
  repeat' first
    | (intro _)
    | with_reducible first
        | assumption | apply Goes.next | apply State.report_evolves | apply State.failRejoin_evolves
        | apply State.modCpt_evolves | apply State.passGroup_evolves | apply State.wrBit_evolves | apply Evolves.ite
        | apply Evolves.foldl
    | exact mask_trans (by decide) hm
    | exact mask_bit hm (by decide)
    | fail_if_no_progress beta_reduce
    | split
    | fail_if_no_progress with_reducible apply Evolves.parts
    | exact Or.inl (by with_reducible rfl)
    | exact mask_part hm (by decide)

theorem execSyscalStepBegin_goes {s : State} (a0 a1) (h : Evolves M o s)
    (hm : 0x4000000000000000000000000000000000000000000000000000000000000000000000000000000000000c0c00000000052 &&& M = 0x4000000000000000000000000000000000000000000000000000000000000000000000000000000000000c0c00000000052) :
    Goes M o (execSyscalStepBegin a0 a1 s) := by
  unfold execSyscalStepBegin
  try dsimp only
  repeat' first
    | (intro _)
    | with_reducible first
        | assumption | apply Goes.next | apply State.checked_evolves | apply State.modCpt_evolves
        | apply State.stopGroup_evolves | apply State.status_evolves | apply State.wrBit_evolves
        | apply State.wr_evolves | apply Evolves.ite | apply Evolves.foldl
    | exact mask_trans (by decide) hm
    | exact mask_bit hm (by decide)
    | fail_if_no_progress beta_reduce
    | split
    | fail_if_no_progress with_reducible apply Evolves.parts
    | exact Or.inl (by with_reducible rfl)
    | exact mask_part hm (by decide)

theorem State.startStep_evolves {s : State} (a1 a2 a3 a4 a5) (h : Evolves M o s)
    (hm : 0x400000000000000000000000000000000000000000000000000000000000000000000000000000000000000400000000052 &&& M = 0x400000000000000000000000000000000000000000000000000000000000000000000000000000000000000400000000052) :
    Evolves M o (State.startStep s a1 a2 a3 a4 a5) := by
  unfold State.startStep
  try dsimp only
  repeat' first
    | (intro _)
    | with_reducible first
        | assumption | apply State.wr_evolves | apply State.entered_evolves | apply State.modCpt_evolves
        | apply Evolves.ite | apply Evolves.foldl
    | exact mask_trans (by decide) hm
    | exact mask_bit hm (by decide)
    | fail_if_no_progress beta_reduce
    | split
    | fail_if_no_progress with_reducible apply Evolves.parts
    | exact Or.inl (by with_reducible rfl)
    | exact mask_part hm (by decide)

theorem execSyscalStepZero_goes {s : State} (a0 a1 a2 a3) (h : Evolves M o s)
    (hm : 0x400000000000000000000000000000000000000000000000000000000000000000000000000000000000000400000000052 &&& M = 0x400000000000000000000000000000000000000000000000000000000000000000000000000000000000000400000000052) :
    Goes M o (execSyscalStepZero a0 a1 a2 a3 s) := by
  unfold execSyscalStepZero
  try dsimp only
  repeat' first
    | (intro _)
    | with_reducible first
        | assumption | apply Goes.next | apply State.checked_evolves | apply State.startStep_evolves
        | apply State.modGrp_evolves | apply Evolves.ite | apply Evolves.foldl
    | exact mask_trans (by decide) hm
    | exact mask_bit hm (by decide)
    | fail_if_no_progress beta_reduce
    | split
    | fail_if_no_progress with_reducible apply Evolves.parts
    | exact Or.inl (by with_reducible rfl)
    | exact mask_part hm (by decide)

theorem execSyscalStepPoint_goes {s : State} (a0 a1 a2 a3 a4 a5) (h : Evolves M o s)
    (hm : 0x400000000000000000000000000000000000000000000000000000000000000000000000000000000000000400000008052 &&& M = 0x400000000000000000000000000000000000000000000000000000000000000000000000000000000000000400000008052) :
    Goes M o (execSyscalStepPoint a0 a1 a2 a3 a4 a5 s) := by
  unfold execSyscalStepPoint
  try dsimp only
  repeat' first
    | (intro _)
    | with_reducible first
        | assumption | apply Goes.next | apply State.checked_evolves | apply State.startStep_evolves
        | apply State.modGrp_evolves | apply State.useFree_evolves | apply Evolves.ite | apply Evolves.foldl
    | exact mask_trans (by decide) hm
    | exact mask_bit hm (by decide)
    | fail_if_no_progress beta_reduce
    | split
    | fail_if_no_progress with_reducible apply Evolves.parts
    | exact Or.inl (by with_reducible rfl)
    | exact mask_part hm (by decide)

theorem State.sysRecord_evolves {s : State} (a1 a2) (h : Evolves M o s)
    (hm : 0x2 &&& M = 0x2) :
    Evolves M o (State.sysRecord s a1 a2) := by
  unfold State.sysRecord
  try dsimp only
  repeat' first
    | (intro _)
    | with_reducible first
        | assumption | apply State.modGrp_evolves | apply Evolves.ite | apply Evolves.foldl
    | exact mask_trans (by decide) hm
    | exact mask_bit hm (by decide)
    | fail_if_no_progress beta_reduce
    | split
    | fail_if_no_progress with_reducible apply Evolves.parts
    | exact Or.inl (by with_reducible rfl)
    | exact mask_part hm (by decide)

theorem State.endSys_evolves {s : State} (a1) (h : Evolves M o s)
    (hm : 0x40800000000002 &&& M = 0x40800000000002) :
    Evolves M o (State.endSys s a1) := by
  unfold State.endSys
  try dsimp only
  repeat' first
    | (intro _)
    | with_reducible first
        | assumption | apply State.modCpt_evolves | apply State.wrBit_evolves | apply State.resumeRotation_evolves
        | apply Evolves.ite | apply Evolves.foldl
    | exact mask_trans (by decide) hm
    | exact mask_bit hm (by decide)
    | fail_if_no_progress beta_reduce
    | split
    | fail_if_no_progress with_reducible apply Evolves.parts
    | exact Or.inl (by with_reducible rfl)
    | exact mask_part hm (by decide)

theorem execSyscalStepEnd_goes {s : State} (a0 a1) (h : Evolves M o s)
    (hm : 0x1000000000000000000000000000400000000000000000000000000000000000000000000000000000000000000000000000000000000000047c000000000d2 &&& M = 0x1000000000000000000000000000400000000000000000000000000000000000000000000000000000000000000000000000000000000000047c000000000d2) :
    Goes M o (execSyscalStepEnd a0 a1 s) := by
  unfold execSyscalStepEnd
  try dsimp only
  repeat' first
    | (intro _)
    | with_reducible first
        | assumption | apply Goes.next | apply State.checked_evolves | apply State.wr_evolves
        | apply State.status_evolves | apply State.report_evolves | apply State.endSys_evolves
        | apply State.sysRecord_evolves | apply State.countRefused_evolves | apply State.modGrp_evolves
        | apply Evolves.ite | apply Evolves.foldl
    | exact mask_trans (by decide) hm
    | exact mask_bit hm (by decide)
    | fail_if_no_progress beta_reduce
    | split
    | fail_if_no_progress with_reducible apply Evolves.parts
    | exact Or.inl (by with_reducible rfl)
    | exact mask_part hm (by decide)

theorem execSyscalStepAbort_goes {s : State} (a0 a1) (h : Evolves M o s)
    (hm : 0x400000000000000000000000000000000000000000000000000000000000000000000000000000000000040800000000052 &&& M = 0x400000000000000000000000000000000000000000000000000000000000000000000000000000000000040800000000052) :
    Goes M o (execSyscalStepAbort a0 a1 s) := by
  unfold execSyscalStepAbort
  try dsimp only
  repeat' first
    | (intro _)
    | with_reducible first
        | assumption | apply Goes.next | apply State.checked_evolves | apply State.finish_evolves
        | apply State.status_evolves | apply State.abandonSys_evolves | apply Evolves.ite | apply Evolves.foldl
    | exact mask_trans (by decide) hm
    | exact mask_bit hm (by decide)
    | fail_if_no_progress beta_reduce
    | split
    | fail_if_no_progress with_reducible apply Evolves.parts
    | exact Or.inl (by with_reducible rfl)
    | exact mask_part hm (by decide)

theorem execSyscalTimeout_goes {s : State} (a0) (h : Evolves M o s)
    (hm : 0x40800000000002 &&& M = 0x40800000000002) :
    Goes M o (execSyscalTimeout a0 s) := by
  unfold execSyscalTimeout
  try dsimp only
  repeat' first
    | (intro _)
    | with_reducible first
        | assumption | apply Goes.next | apply State.abandonSys_evolves | apply Evolves.ite | apply Evolves.foldl
    | exact mask_trans (by decide) hm
    | exact mask_bit hm (by decide)
    | fail_if_no_progress beta_reduce
    | split
    | fail_if_no_progress with_reducible apply Evolves.parts
    | exact Or.inl (by with_reducible rfl)
    | exact mask_part hm (by decide)

theorem execCalStatus_goes {s : State} (a0 a1 a2 a3 a4) (h : Evolves M o s)
    (hm : 0x400000000000000000000000000000000000000000000000000000000000000000000000000000000000000000000012050 &&& M = 0x400000000000000000000000000000000000000000000000000000000000000000000000000000000000000000000012050) :
    Goes M o (execCalStatus a0 a1 a2 a3 a4 s) := by
  unfold execCalStatus
  try dsimp only
  repeat' first
    | (intro _)
    | with_reducible first
        | assumption | apply Goes.next | apply State.checked_evolves | apply State.complete_evolves
        | apply State.hostWrite_evolves | apply Evolves.ite | apply Evolves.foldl
    | exact mask_trans (by decide) hm
    | exact mask_bit hm (by decide)
    | fail_if_no_progress beta_reduce
    | split
    | fail_if_no_progress with_reducible apply Evolves.parts
    | exact Or.inl (by with_reducible rfl)
    | exact mask_part hm (by decide)

/-! ## StandOps -/

theorem State.modStand_evolves {s : State} (a1) (h : Evolves M o s)
    (hm : 0x8 &&& M = 0x8) :
    Evolves M o (State.modStand s a1) := by
  unfold State.modStand
  try dsimp only
  repeat' first
    | (intro _)
    | with_reducible first
        | assumption | apply Evolves.ite | apply Evolves.foldl
    | exact mask_trans (by decide) hm
    | exact mask_bit hm (by decide)
    | fail_if_no_progress beta_reduce
    | split
    | fail_if_no_progress with_reducible apply Evolves.parts
    | exact Or.inl (by with_reducible rfl)
    | exact mask_part hm (by decide)

theorem State.modSvc_evolves {s : State} (a1 a2) (h : Evolves M o s)
    (hm : 0x8 &&& M = 0x8) :
    Evolves M o (State.modSvc s a1 a2) := by
  unfold State.modSvc
  try dsimp only
  repeat' first
    | (intro _)
    | with_reducible first
        | assumption | apply State.modStand_evolves | apply Evolves.ite | apply Evolves.foldl
    | exact mask_trans (by decide) hm
    | exact mask_bit hm (by decide)
    | fail_if_no_progress beta_reduce
    | split
    | fail_if_no_progress with_reducible apply Evolves.parts
    | exact Or.inl (by with_reducible rfl)
    | exact mask_part hm (by decide)

theorem State.setStand_evolves {s : State} (a1 a2) (h : Evolves M o s)
    (hm : 0x200000000000000000000000000000000000000000000000000000000 &&& M = 0x200000000000000000000000000000000000000000000000000000000) :
    Evolves M o (State.setStand s a1 a2) := by
  unfold State.setStand
  try dsimp only
  repeat' first
    | (intro _)
    | with_reducible first
        | assumption | apply State.wr_evolves | apply Evolves.ite | apply Evolves.foldl
    | exact mask_trans (by decide) hm
    | exact mask_bit hm (by decide)
    | fail_if_no_progress beta_reduce
    | split
    | fail_if_no_progress with_reducible apply Evolves.parts
    | exact Or.inl (by with_reducible rfl)
    | exact mask_part hm (by decide)

theorem State.showIlk_evolves {s : State} (h : Evolves M o s)
    (hm : 0x300000000000000000000000000000000000000000000000000000 &&& M = 0x300000000000000000000000000000000000000000000000000000) :
    Evolves M o (State.showIlk s) := by
  unfold State.showIlk
  try dsimp only
  repeat' first
    | (intro _)
    | with_reducible first
        | assumption | apply State.wrBit_evolves | apply Evolves.ite | apply Evolves.foldl
    | exact mask_trans (by decide) hm
    | exact mask_bit hm (by decide)
    | fail_if_no_progress beta_reduce
    | split
    | fail_if_no_progress with_reducible apply Evolves.parts
    | exact Or.inl (by with_reducible rfl)
    | exact mask_part hm (by decide)

theorem State.path_evolves {s : State} (a1 a2) (h : Evolves M o s)
    (hm : 0x300000000000000000000000000000000000000000000000000008 &&& M = 0x300000000000000000000000000000000000000000000000000008) :
    Evolves M o (State.path s a1 a2) := by
  unfold State.path
  try dsimp only
  repeat' first
    | (intro _)
    | with_reducible first
        | assumption | apply State.showIlk_evolves | apply State.modStand_evolves | apply Evolves.ite
        | apply Evolves.foldl
    | exact mask_trans (by decide) hm
    | exact mask_bit hm (by decide)
    | fail_if_no_progress beta_reduce
    | split
    | fail_if_no_progress with_reducible apply Evolves.parts
    | exact Or.inl (by with_reducible rfl)
    | exact mask_part hm (by decide)

theorem State.clearSync_evolves {s : State} (a1) (h : Evolves M o s)
    (hm : 0x1000000000000000000000000000000000000000000000000000000000 &&& M = 0x1000000000000000000000000000000000000000000000000000000000) :
    Evolves M o (State.clearSync s a1) := by
  unfold State.clearSync
  try dsimp only
  repeat' first
    | (intro _)
    | with_reducible first
        | assumption | apply State.wr_evolves | apply Evolves.ite | apply Evolves.foldl
    | exact mask_trans (by decide) hm
    | exact mask_bit hm (by decide)
    | fail_if_no_progress beta_reduce
    | split
    | fail_if_no_progress with_reducible apply Evolves.parts
    | exact Or.inl (by with_reducible rfl)
    | exact mask_part hm (by decide)

theorem State.offline_evolves {s : State} (a1) (h : Evolves M o s)
    (hm : 0x1200000000000000000000000000000000000000000000000000000008 &&& M = 0x1200000000000000000000000000000000000000000000000000000008) :
    Evolves M o (State.offline s a1) := by
  unfold State.offline
  try dsimp only
  repeat' first
    | (intro _)
    | with_reducible first
        | assumption | apply State.clearSync_evolves | apply State.setStand_evolves | apply State.modStand_evolves
        | apply Evolves.ite | apply Evolves.foldl
    | exact mask_trans (by decide) hm
    | exact mask_bit hm (by decide)
    | fail_if_no_progress beta_reduce
    | split
    | fail_if_no_progress with_reducible apply Evolves.parts
    | exact Or.inl (by with_reducible rfl)
    | exact mask_part hm (by decide)

theorem State.freezeElem_evolves {s : State} (a1) (h : Evolves M o s)
    (hm : 0x400000000000000000000000000000000000000000000000000000000000000000000000000000000004400000000000012 &&& M = 0x400000000000000000000000000000000000000000000000000000000000000000000000000000000004400000000000012) :
    Evolves M o (State.freezeElem s a1) := by
  unfold State.freezeElem
  try dsimp only
  repeat' first
    | (intro _)
    | with_reducible first
        | assumption | apply State.dropMove_evolves | apply State.finishMove_evolves | apply State.endRange_evolves
        | apply State.modEl_evolves | apply State.flush_evolves | apply Evolves.ite | apply Evolves.foldl
    | exact mask_trans (by decide) hm
    | exact mask_bit hm (by decide)
    | fail_if_no_progress beta_reduce
    | split
    | fail_if_no_progress with_reducible apply Evolves.parts
    | exact Or.inl (by with_reducible rfl)
    | exact mask_part hm (by decide)

theorem State.cancelAll_evolves {s : State} (h : Evolves M o s)
    (hm : 0x400005000000000000010000000000000000000000000000387800000000000000000000000000000000000000000017054 &&& M = 0x400005000000000000010000000000000000000000000000387800000000000000000000000000000000000000000017054) :
    Evolves M o (State.cancelAll s) := by
  unfold State.cancelAll
  try dsimp only
  repeat' first
    | (intro _)
    | with_reducible first
        | assumption | apply State.cancelClr_evolves | apply Evolves.ite | apply Evolves.foldl
    | exact mask_trans (by decide) hm
    | exact mask_bit hm (by decide)
    | fail_if_no_progress beta_reduce
    | split
    | fail_if_no_progress with_reducible apply Evolves.parts
    | exact Or.inl (by with_reducible rfl)
    | exact mask_part hm (by decide)

theorem State.freeze_evolves {s : State} (a1) (h : Evolves M o s)
    (hm : 0x40000500000000000001000000000000000000000120438038780c0000000000000000000000000000044000000000170fe &&& M = 0x40000500000000000001000000000000000000000120438038780c0000000000000000000000000000044000000000170fe) :
    Evolves M o (State.freeze s a1) := by
  unfold State.freeze
  try dsimp only
  repeat' first
    | (intro _)
    | with_reducible first
        | assumption | apply State.setStand_evolves | apply State.path_evolves | apply State.wrBit_evolves
        | apply State.report_evolves | apply State.offline_evolves | apply State.modStand_evolves
        | apply State.finishOpt_evolves | apply State.freezeElem_evolves | apply State.cancelAll_evolves
        | apply State.abandonSweeps_evolves | apply Evolves.ite | apply Evolves.foldl
    | exact mask_trans (by decide) hm
    | exact mask_bit hm (by decide)
    | fail_if_no_progress beta_reduce
    | split
    | fail_if_no_progress with_reducible apply Evolves.parts
    | exact Or.inl (by with_reducible rfl)
    | exact mask_part hm (by decide)

theorem State.passBaton_evolves {s : State} (a1 a2) (h : Evolves M o s)
    (hm : 0x1204f40000000000000000000000000000000000000000000000000008 &&& M = 0x1204f40000000000000000000000000000000000000000000000000008) :
    Evolves M o (State.passBaton s a1 a2) := by
  unfold State.passBaton
  try dsimp only
  repeat' first
    | (intro _)
    | with_reducible first
        | assumption | apply State.wr_evolves | apply State.setStand_evolves | apply State.wrBit_evolves
        | apply State.inc_evolves | apply State.offline_evolves | apply State.clearSync_evolves
        | apply State.path_evolves | apply State.modStand_evolves | apply Evolves.ite | apply Evolves.foldl
    | exact mask_trans (by decide) hm
    | exact mask_bit hm (by decide)
    | fail_if_no_progress beta_reduce
    | split
    | fail_if_no_progress with_reducible apply Evolves.parts
    | exact Or.inl (by with_reducible rfl)
    | exact mask_part hm (by decide)

theorem State.surrender_evolves {s : State} (a1) (h : Evolves M o s)
    (hm : 0x400005000000000000010000000000000000000001204fc038780c0000000000000000000000000000044000000000170fe &&& M = 0x400005000000000000010000000000000000000001204fc038780c0000000000000000000000000000044000000000170fe) :
    Evolves M o (State.surrender s a1) := by
  unfold State.surrender
  try dsimp only
  repeat' first
    | (intro _)
    | with_reducible first
        | assumption | apply State.passBaton_evolves | apply State.finishOpt_evolves | apply State.modStand_evolves
        | apply State.freeze_evolves | apply Evolves.ite | apply Evolves.foldl
    | exact mask_trans (by decide) hm
    | exact mask_bit hm (by decide)
    | fail_if_no_progress beta_reduce
    | split
    | fail_if_no_progress with_reducible apply Evolves.parts
    | exact Or.inl (by with_reducible rfl)
    | exact mask_part hm (by decide)

theorem State.standFault_evolves {s : State} (a1 a2 a3) (h : Evolves M o s)
    (hm : 0x400005000000000000010000000000000000000001a04fc038780c0000000000000000000000000000044000000000170fe &&& M = 0x400005000000000000010000000000000000000001a04fc038780c0000000000000000000000000000044000000000170fe) :
    Evolves M o (State.standFault s a1 a2 a3) := by
  unfold State.standFault
  try dsimp only
  repeat' first
    | (intro _)
    | with_reducible first
        | assumption | apply State.wr_evolves | apply State.report_evolves | apply State.offline_evolves
        | apply State.modStand_evolves | apply State.surrender_evolves | apply Evolves.ite | apply Evolves.foldl
    | exact mask_trans (by decide) hm
    | exact mask_bit hm (by decide)
    | fail_if_no_progress beta_reduce
    | split
    | fail_if_no_progress with_reducible apply Evolves.parts
    | exact Or.inl (by with_reducible rfl)
    | exact mask_part hm (by decide)

theorem State.endHandover_evolves {s : State} (a1) (h : Evolves M o s)
    (hm : 0x400005000000000000010000000000000000000001204fc038780c0000000000000000000000000000044000000000170fe &&& M = 0x400005000000000000010000000000000000000001204fc038780c0000000000000000000000000000044000000000170fe) :
    Evolves M o (State.endHandover s a1) := by
  unfold State.endHandover
  try dsimp only
  repeat' first
    | (intro _)
    | with_reducible first
        | assumption | apply State.modStand_evolves | apply State.path_evolves | apply State.surrender_evolves
        | apply Evolves.ite | apply Evolves.foldl
    | exact mask_trans (by decide) hm
    | exact mask_bit hm (by decide)
    | fail_if_no_progress beta_reduce
    | split
    | fail_if_no_progress with_reducible apply Evolves.parts
    | exact Or.inl (by with_reducible rfl)
    | exact mask_part hm (by decide)

theorem State.endOverlap_evolves {s : State} (a1) (h : Evolves M o s)
    (hm : 0x400005000000000000010000000000000000000001204fc038780c0000000000000000000000000000044000000000170fe &&& M = 0x400005000000000000010000000000000000000001204fc038780c0000000000000000000000000000044000000000170fe) :
    Evolves M o (State.endOverlap s a1) := by
  unfold State.endOverlap
  try dsimp only
  repeat' first
    | (intro _)
    | with_reducible first
        | assumption | apply State.endHandover_evolves | apply State.modStand_evolves | apply Evolves.ite
        | apply Evolves.foldl
    | exact mask_trans (by decide) hm
    | exact mask_bit hm (by decide)
    | fail_if_no_progress beta_reduce
    | split
    | fail_if_no_progress with_reducible apply Evolves.parts
    | exact Or.inl (by with_reducible rfl)
    | exact mask_part hm (by decide)

theorem State.countStale_evolves {s : State} (a1) (h : Evolves M o s)
    (hm : 0x2000000000000000000000000000000000000000000000000000000 &&& M = 0x2000000000000000000000000000000000000000000000000000000) :
    Evolves M o (State.countStale s a1) := by
  unfold State.countStale
  try dsimp only
  repeat' first
    | (intro _)
    | with_reducible first
        | assumption | apply State.wr_evolves | apply Evolves.ite | apply Evolves.foldl
    | exact mask_trans (by decide) hm
    | exact mask_bit hm (by decide)
    | fail_if_no_progress beta_reduce
    | split
    | fail_if_no_progress with_reducible apply Evolves.parts
    | exact Or.inl (by with_reducible rfl)
    | exact mask_part hm (by decide)

theorem State.startCopy_evolves {s : State} (a1 a2) (h : Evolves M o s)
    (hm : 0x1200000000000000000000000000000000000000000000000000000008 &&& M = 0x1200000000000000000000000000000000000000000000000000000008) :
    Evolves M o (State.startCopy s a1 a2) := by
  unfold State.startCopy
  try dsimp only
  repeat' first
    | (intro _)
    | with_reducible first
        | assumption | apply State.modStand_evolves | apply State.clearSync_evolves | apply State.setStand_evolves
        | apply Evolves.ite | apply Evolves.foldl
    | exact mask_trans (by decide) hm
    | exact mask_bit hm (by decide)
    | fail_if_no_progress beta_reduce
    | split
    | fail_if_no_progress with_reducible apply Evolves.parts
    | exact Or.inl (by with_reducible rfl)
    | exact mask_part hm (by decide)

theorem State.returned_evolves {s : State} (h : Evolves M o s)
    (hm : 0x400000000000000000000000000000000000000000000000000000000000000000000000000000000000000000000000018 &&& M = 0x400000000000000000000000000000000000000000000000000000000000000000000000000000000000000000000000018) :
    Evolves M o (State.returned s) := by
  unfold State.returned
  try dsimp only
  repeat' first
    | (intro _)
    | with_reducible first
        | assumption | apply State.finishOpt_evolves | apply State.modStand_evolves | apply Evolves.ite
        | apply Evolves.foldl
    | exact mask_trans (by decide) hm
    | exact mask_bit hm (by decide)
    | fail_if_no_progress beta_reduce
    | split
    | fail_if_no_progress with_reducible apply Evolves.parts
    | exact Or.inl (by with_reducible rfl)
    | exact mask_part hm (by decide)

theorem State.copyCpt_evolves {s : State} (a1) (h : Evolves M o s)
    (hm : 0x8 &&& M = 0x8) :
    Evolves M o (State.copyCpt s a1) := by
  unfold State.copyCpt
  try dsimp only
  repeat' first
    | (intro _)
    | with_reducible first
        | assumption | apply State.modStand_evolves | apply Evolves.ite | apply Evolves.foldl
    | exact mask_trans (by decide) hm
    | exact mask_bit hm (by decide)
    | fail_if_no_progress beta_reduce
    | split
    | fail_if_no_progress with_reducible apply Evolves.parts
    | exact Or.inl (by with_reducible rfl)
    | exact mask_part hm (by decide)

theorem State.syncCheck_evolves {s : State} (a1 a2) (h : Evolves M o s)
    (hm : 0x1600000000000000000000000000000000000000000000000000000088 &&& M = 0x1600000000000000000000000000000000000000000000000000000088) :
    Evolves M o (State.syncCheck s a1 a2) := by
  unfold State.syncCheck
  try dsimp only
  repeat' first
    | (intro _)
    | with_reducible first
        | assumption | apply State.report_evolves | apply State.sat_evolves | apply State.wr_evolves
        | apply State.modStand_evolves | apply State.setStand_evolves | apply Evolves.ite | apply Evolves.foldl
    | exact mask_trans (by decide) hm
    | exact mask_bit hm (by decide)
    | fail_if_no_progress beta_reduce
    | split
    | fail_if_no_progress with_reducible apply Evolves.parts
    | exact Or.inl (by with_reducible rfl)
    | exact mask_part hm (by decide)

theorem State.fenceElem_evolves {s : State} (a1) (h : Evolves M o s)
    (hm : 0x400005000000000000010000000000000000000000000000000000000000000000000000000008000004400000000017056 &&& M = 0x400005000000000000010000000000000000000000000000000000000000000000000000000008000004400000000017056) :
    Evolves M o (State.fenceElem s a1) := by
  unfold State.fenceElem
  try dsimp only
  repeat' first
    | (intro _)
    | with_reducible first
        | assumption | apply State.dropMove_evolves | apply State.finishMove_evolves | apply State.endRange_evolves
        | apply State.settled_evolves | apply State.modEl_evolves | apply State.setState_evolves
        | apply State.flush_evolves | apply Evolves.ite | apply Evolves.foldl
    | exact mask_trans (by decide) hm
    | exact mask_bit hm (by decide)
    | fail_if_no_progress beta_reduce
    | split
    | fail_if_no_progress with_reducible apply Evolves.parts
    | exact Or.inl (by with_reducible rfl)
    | exact mask_part hm (by decide)

theorem State.openHeaters_evolves {s : State} (a1) (h : Evolves M o s)
    (hm : 0x4800000000000000000000002 &&& M = 0x4800000000000000000000002) :
    Evolves M o (State.openHeaters s a1) := by
  unfold State.openHeaters
  try dsimp only
  repeat' first
    | (intro _)
    | with_reducible first
        | assumption | apply State.setHiz_evolves | apply Evolves.ite | apply Evolves.foldl
    | exact mask_trans (by decide) hm
    | exact mask_bit hm (by decide)
    | fail_if_no_progress beta_reduce
    | split
    | fail_if_no_progress with_reducible apply Evolves.parts
    | exact Or.inl (by with_reducible rfl)
    | exact mask_part hm (by decide)

theorem State.fence_evolves {s : State} (a1 a2) (h : Evolves M o s)
    (hm : 0x40000500000000000001000000000000000000000009800000000c00000000000000000000480800000444081800201f0f6 &&& M = 0x40000500000000000001000000000000000000000009800000000c00000000000000000000480800000444081800201f0f6) :
    Evolves M o (State.fence s a1 a2) := by
  unfold State.fence
  try dsimp only
  repeat' first
    | (intro _)
    | with_reducible first
        | assumption | apply State.inc_evolves | apply State.wrBit_evolves | apply State.abandonSweeps_evolves
        | apply State.fenceElem_evolves | apply State.abandonWins_evolves | apply State.openHeaters_evolves
        | apply State.abandonSys_evolves | apply State.finish_evolves | apply Evolves.ite | apply Evolves.foldl
    | exact mask_trans (by decide) hm
    | exact mask_bit hm (by decide)
    | fail_if_no_progress beta_reduce
    | split
    | fail_if_no_progress with_reducible apply Evolves.parts
    | exact Or.inl (by with_reducible rfl)
    | exact mask_part hm (by decide)

/-! ## ElemOps -/

theorem State.showCleared_evolves {s : State} (a1) (h : Evolves M o s)
    (hm : 0x200000000000000000 &&& M = 0x200000000000000000) :
    Evolves M o (State.showCleared s a1) := by
  unfold State.showCleared
  try dsimp only
  repeat' first
    | (intro _)
    | with_reducible first
        | assumption | apply State.wrBit_evolves | apply Evolves.ite | apply Evolves.foldl
    | exact mask_trans (by decide) hm
    | exact mask_bit hm (by decide)
    | fail_if_no_progress beta_reduce
    | split
    | fail_if_no_progress with_reducible apply Evolves.parts
    | exact Or.inl (by with_reducible rfl)
    | exact mask_part hm (by decide)

theorem State.toClear_evolves {s : State} (a1) (h : Evolves M o s)
    (hm : 0x9000000000000002 &&& M = 0x9000000000000002) :
    Evolves M o (State.toClear s a1) := by
  unfold State.toClear
  try dsimp only
  repeat' first
    | (intro _)
    | with_reducible first
        | assumption | apply State.modEl_evolves | apply State.setCode_evolves | apply State.wrBit_evolves
        | apply Evolves.ite | apply Evolves.foldl
    | exact mask_trans (by decide) hm
    | exact mask_bit hm (by decide)
    | fail_if_no_progress beta_reduce
    | split
    | fail_if_no_progress with_reducible apply Evolves.parts
    | exact Or.inl (by with_reducible rfl)
    | exact mask_part hm (by decide)

theorem State.awaitCommit_evolves {s : State} (a1) (h : Evolves M o s)
    (hm : 0x9000000000000002 &&& M = 0x9000000000000002) :
    Evolves M o (State.awaitCommit s a1) := by
  unfold State.awaitCommit
  try dsimp only
  repeat' first
    | (intro _)
    | with_reducible first
        | assumption | apply State.toClear_evolves | apply State.modEl_evolves | apply Evolves.ite
        | apply Evolves.foldl
    | exact mask_trans (by decide) hm
    | exact mask_bit hm (by decide)
    | fail_if_no_progress beta_reduce
    | split
    | fail_if_no_progress with_reducible apply Evolves.parts
    | exact Or.inl (by with_reducible rfl)
    | exact mask_part hm (by decide)

theorem State.park_evolves {s : State} (a1) (h : Evolves M o s)
    (hm : 0x4808000009000000000000002 &&& M = 0x4808000009000000000000002) :
    Evolves M o (State.park s a1) := by
  unfold State.park
  try dsimp only
  repeat' first
    | (intro _)
    | with_reducible first
        | assumption | apply State.modEl_evolves | apply State.setState_evolves | apply State.toClear_evolves
        | apply State.setHiz_evolves | apply Evolves.ite | apply Evolves.foldl
    | exact mask_trans (by decide) hm
    | exact mask_bit hm (by decide)
    | fail_if_no_progress beta_reduce
    | split
    | fail_if_no_progress with_reducible apply Evolves.parts
    | exact Or.inl (by with_reducible rfl)
    | exact mask_part hm (by decide)

theorem State.setDuty_evolves {s : State} (a1 a2) (h : Evolves M o s)
    (hm : 0x2 &&& M = 0x2) :
    Evolves M o (State.setDuty s a1 a2) := by
  unfold State.setDuty
  try dsimp only
  repeat' first
    | (intro _)
    | with_reducible first
        | assumption | apply State.latchDuty_evolves | apply State.modEl_evolves | apply Evolves.ite
        | apply Evolves.foldl
    | exact mask_trans (by decide) hm
    | exact mask_bit hm (by decide)
    | fail_if_no_progress beta_reduce
    | split
    | fail_if_no_progress with_reducible apply Evolves.parts
    | exact Or.inl (by with_reducible rfl)
    | exact mask_part hm (by decide)

theorem State.backJump_evolves {s : State} (a1 a2) (h : Evolves M o s)
    (hm : 0x4808000068000000000000002 &&& M = 0x4808000068000000000000002) :
    Evolves M o (State.backJump s a1 a2) := by
  unfold State.backJump
  try dsimp only
  repeat' first
    | (intro _)
    | with_reducible first
        | assumption | apply State.startJump_evolves | apply Evolves.ite | apply Evolves.foldl
    | exact mask_trans (by decide) hm
    | exact mask_bit hm (by decide)
    | fail_if_no_progress beta_reduce
    | split
    | fail_if_no_progress with_reducible apply Evolves.parts
    | exact Or.inl (by with_reducible rfl)
    | exact mask_part hm (by decide)

theorem State.jumpFrom_evolves {s : State} (a1 a2 a3 a4) (h : Evolves M o s)
    (hm : 0x4808000068000000000000002 &&& M = 0x4808000068000000000000002) :
    Evolves M o (State.jumpFrom s a1 a2 a3 a4) := by
  unfold State.jumpFrom
  try dsimp only
  repeat' first
    | (intro _)
    | with_reducible first
        | assumption | apply State.startJump_evolves | apply Evolves.ite | apply Evolves.foldl
    | exact mask_trans (by decide) hm
    | exact mask_bit hm (by decide)
    | fail_if_no_progress beta_reduce
    | split
    | fail_if_no_progress with_reducible apply Evolves.parts
    | exact Or.inl (by with_reducible rfl)
    | exact mask_part hm (by decide)

theorem State.snapEl_evolves {s : State} (a1) (h : Evolves M o s)
    (hm : 0x2 &&& M = 0x2) :
    Evolves M o (State.snapEl s a1) := by
  unfold State.snapEl
  try dsimp only
  repeat' first
    | (intro _)
    | with_reducible first
        | assumption | apply State.modLoop_evolves | apply Evolves.ite | apply Evolves.foldl
    | exact mask_trans (by decide) hm
    | exact mask_bit hm (by decide)
    | fail_if_no_progress beta_reduce
    | split
    | fail_if_no_progress with_reducible apply Evolves.parts
    | exact Or.inl (by with_reducible rfl)
    | exact mask_part hm (by decide)

theorem State.snapCpt_evolves {s : State} (a1) (h : Evolves M o s)
    (hm : 0x2 &&& M = 0x2) :
    Evolves M o (State.snapCpt s a1) := by
  unfold State.snapCpt
  try dsimp only
  repeat' first
    | (intro _)
    | with_reducible first
        | assumption | apply State.snapEl_evolves | apply Evolves.ite | apply Evolves.foldl
    | exact mask_trans (by decide) hm
    | exact mask_bit hm (by decide)
    | fail_if_no_progress beta_reduce
    | split
    | fail_if_no_progress with_reducible apply Evolves.parts
    | exact Or.inl (by with_reducible rfl)
    | exact mask_part hm (by decide)

theorem State.resnapEl_evolves {s : State} (a1) (h : Evolves M o s)
    (hm : 0x2 &&& M = 0x2) :
    Evolves M o (State.resnapEl s a1) := by
  unfold State.resnapEl
  try dsimp only
  repeat' first
    | (intro _)
    | with_reducible first
        | assumption | apply State.snapEl_evolves | apply Evolves.ite | apply Evolves.foldl
    | exact mask_trans (by decide) hm
    | exact mask_bit hm (by decide)
    | fail_if_no_progress beta_reduce
    | split
    | fail_if_no_progress with_reducible apply Evolves.parts
    | exact Or.inl (by with_reducible rfl)
    | exact mask_part hm (by decide)

theorem State.resnapCpt_evolves {s : State} (a1) (h : Evolves M o s)
    (hm : 0x2 &&& M = 0x2) :
    Evolves M o (State.resnapCpt s a1) := by
  unfold State.resnapCpt
  try dsimp only
  repeat' first
    | (intro _)
    | with_reducible first
        | assumption | apply State.snapCpt_evolves | apply Evolves.ite | apply Evolves.foldl
    | exact mask_trans (by decide) hm
    | exact mask_bit hm (by decide)
    | fail_if_no_progress beta_reduce
    | split
    | fail_if_no_progress with_reducible apply Evolves.parts
    | exact Or.inl (by with_reducible rfl)
    | exact mask_part hm (by decide)

theorem State.powerCap_evolves {s : State} (h : Evolves M o s)
    (hm : 0x780000000000000000000000000000 &&& M = 0x780000000000000000000000000000) :
    Evolves M o (State.powerCap s) := by
  unfold State.powerCap
  try dsimp only
  repeat' first
    | (intro _)
    | with_reducible first
        | assumption | apply State.wr_evolves | apply Evolves.ite | apply Evolves.foldl
    | exact mask_trans (by decide) hm
    | exact mask_bit hm (by decide)
    | fail_if_no_progress beta_reduce
    | split
    | fail_if_no_progress with_reducible apply Evolves.parts
    | exact Or.inl (by with_reducible rfl)
    | exact mask_part hm (by decide)

theorem State.returnElem_evolves {s : State} (a1 a2) (h : Evolves M o s)
    (hm : 0x400005000000000000010000000000000000000000000000000000000000000000000000004808000068000000000017072 &&& M = 0x400005000000000000010000000000000000000000000000000000000000000000000000004808000068000000000017072) :
    Evolves M o (State.returnElem s a1 a2) := by
  unfold State.returnElem
  try dsimp only
  repeat' first
    | (intro _)
    | with_reducible first
        | assumption | apply State.supEvent_evolves | apply State.jumpToTarget_evolves
        | apply State.enterSettle_evolves | apply State.modEl_evolves | apply State.finishMove_evolves
        | apply State.setDuty_evolves | apply State.setHiz_evolves | apply Evolves.ite | apply Evolves.foldl
    | exact mask_trans (by decide) hm
    | exact mask_bit hm (by decide)
    | fail_if_no_progress beta_reduce
    | split
    | fail_if_no_progress with_reducible apply Evolves.parts
    | exact Or.inl (by with_reducible rfl)
    | exact mask_part hm (by decide)

theorem State.runSched_evolves {s : State} (a1 a2 a3) (h : Evolves M o s)
    (hm : 0x400005000000000000010000000000000000000000000000000000000000000000000000004808000068000000000017072 &&& M = 0x400005000000000000010000000000000000000000000000000000000000000000000000004808000068000000000017072) :
    Evolves M o (State.runSched s a1 a2 a3) := by
  unfold State.runSched
  try dsimp only
  repeat' first
    | (intro _)
    | with_reducible first
        | assumption | apply State.modEl_evolves | apply State.finishMove_evolves | apply State.startJump_evolves
        | apply State.leaveTarget_evolves | apply State.finishOpt_evolves | apply State.jumpToTarget_evolves
        | apply State.jumpFrom_evolves | apply State.returnElem_evolves | apply Evolves.ite | apply Evolves.foldl
    | exact mask_trans (by decide) hm
    | exact mask_bit hm (by decide)
    | fail_if_no_progress beta_reduce
    | split
    | fail_if_no_progress with_reducible apply Evolves.parts
    | exact Or.inl (by with_reducible rfl)
    | exact mask_part hm (by decide)

theorem State.returnJump_evolves {s : State} (a1) (h : Evolves M o s)
    (hm : 0x4808000068000000000000002 &&& M = 0x4808000068000000000000002) :
    Evolves M o (State.returnJump s a1) := by
  unfold State.returnJump
  try dsimp only
  repeat' first
    | (intro _)
    | with_reducible first
        | assumption | apply State.backJump_evolves | apply State.modEl_evolves | apply State.jumpToTarget_evolves
        | apply State.jumpFrom_evolves | apply Evolves.ite | apply Evolves.foldl
    | exact mask_trans (by decide) hm
    | exact mask_bit hm (by decide)
    | fail_if_no_progress beta_reduce
    | split
    | fail_if_no_progress with_reducible apply Evolves.parts
    | exact Or.inl (by with_reducible rfl)
    | exact mask_part hm (by decide)

theorem State.fromClear_evolves {s : State} (a1) (h : Evolves M o s)
    (hm : 0x400005000000000000010000000000000000000000000000000000000000000000000000004808000068000000000017072 &&& M = 0x400005000000000000010000000000000000000000000000000000000000000000000000004808000068000000000017072) :
    Evolves M o (State.fromClear s a1) := by
  unfold State.fromClear
  try dsimp only
  repeat' first
    | (intro _)
    | with_reducible first
        | assumption | apply State.runSched_evolves | apply State.modEl_evolves | apply State.returnJump_evolves
        | apply Evolves.ite | apply Evolves.foldl
    | exact mask_trans (by decide) hm
    | exact mask_bit hm (by decide)
    | fail_if_no_progress beta_reduce
    | split
    | fail_if_no_progress with_reducible apply Evolves.parts
    | exact Or.inl (by with_reducible rfl)
    | exact mask_part hm (by decide)

theorem State.loseElem_evolves {s : State} (a1 a2) (h : Evolves M o s)
    (hm : 0x400005000000000000010000000000000000000000000000000004000000000000000000000008000000000000000017076 &&& M = 0x400005000000000000010000000000000000000000000000000004000000000000000000000008000000000000000017076) :
    Evolves M o (State.loseElem s a1 a2) := by
  unfold State.loseElem
  try dsimp only
  repeat' first
    | (intro _)
    | with_reducible first
        | assumption | apply State.showSweeps_evolves | apply State.finishMove_evolves | apply State.settled_evolves
        | apply State.supEvent_evolves | apply State.enterSuspect_evolves | apply State.dropMove_evolves
        | apply Evolves.ite | apply Evolves.foldl
    | exact mask_trans (by decide) hm
    | exact mask_bit hm (by decide)
    | fail_if_no_progress beta_reduce
    | split
    | fail_if_no_progress with_reducible apply Evolves.parts
    | exact Or.inl (by with_reducible rfl)
    | exact mask_part hm (by decide)

theorem State.countSuspect_evolves {s : State} (a1) (h : Evolves M o s)
    (hm : 0xe000000000000000000000000000000000000000 &&& M = 0xe000000000000000000000000000000000000000) :
    Evolves M o (State.countSuspect s a1) := by
  unfold State.countSuspect
  try dsimp only
  repeat' first
    | (intro _)
    | with_reducible first
        | assumption | apply State.wrBit_evolves | apply State.wr_evolves | apply State.sat_evolves
        | apply Evolves.ite | apply Evolves.foldl
    | exact mask_trans (by decide) hm
    | exact mask_bit hm (by decide)
    | fail_if_no_progress beta_reduce
    | split
    | fail_if_no_progress with_reducible apply Evolves.parts
    | exact Or.inl (by with_reducible rfl)
    | exact mask_part hm (by decide)

theorem State.disarm_evolves {s : State} (a1) (h : Evolves M o s)
    (hm : 0xc0000082 &&& M = 0xc0000082) :
    Evolves M o (State.disarm s a1) := by
  unfold State.disarm
  try dsimp only
  repeat' first
    | (intro _)
    | with_reducible first
        | assumption | apply State.report_evolves | apply State.wrBit_evolves | apply Evolves.ite
        | apply Evolves.foldl
    | exact mask_trans (by decide) hm
    | exact mask_bit hm (by decide)
    | fail_if_no_progress beta_reduce
    | split
    | fail_if_no_progress with_reducible apply Evolves.parts
    | exact Or.inl (by with_reducible rfl)
    | exact mask_part hm (by decide)

theorem State.loadMons_evolves {s : State} (a1) (h : Evolves M o s)
    (hm : 0x1c1000082 &&& M = 0x1c1000082) :
    Evolves M o (State.loadMons s a1) := by
  unfold State.loadMons
  try dsimp only
  repeat' first
    | (intro _)
    | with_reducible first
        | assumption | apply State.resetRegs_evolves | apply State.wr_evolves | apply State.disarm_evolves
        | apply Evolves.ite | apply Evolves.foldl
    | exact mask_trans (by decide) hm
    | exact mask_bit hm (by decide)
    | fail_if_no_progress beta_reduce
    | split
    | fail_if_no_progress with_reducible apply Evolves.parts
    | exact Or.inl (by with_reducible rfl)
    | exact mask_part hm (by decide)
  all_goals
    rename_i f i hp
    have hf : f = .ust_mon_cfg_range ∨ f = .ust_mon_cmp_low_na := by
      simp only [Bool.and_eq_true, Bool.or_eq_true, beq_iff_eq] at hp
      first | exact hp.1 | exact hp
    rcases hf with rfl | rfl <;> exact mask_bit hm (by decide)

theorem State.loadRanges_evolves {s : State} (h : Evolves M o s)
    (hm : 0x2400000000000000 &&& M = 0x2400000000000000) :
    Evolves M o (State.loadRanges s) := by
  unfold State.loadRanges
  try dsimp only
  repeat' first
    | (intro _)
    | with_reducible first
        | assumption | apply State.resetRegs_evolves | apply State.wrBit_evolves | apply Evolves.ite
        | apply Evolves.foldl
    | exact mask_trans (by decide) hm
    | exact mask_bit hm (by decide)
    | fail_if_no_progress beta_reduce
    | split
    | fail_if_no_progress with_reducible apply Evolves.parts
    | exact Or.inl (by with_reducible rfl)
    | exact mask_part hm (by decide)
  all_goals
    rename_i f i hp
    have hf : f = .ust_vdac_cfg_range ∨ f = .ust_vdac_status_range_act := by
      simp only [Bool.and_eq_true, Bool.or_eq_true, beq_iff_eq] at hp
      first | exact hp.1 | exact hp
    rcases hf with rfl | rfl <;> exact mask_bit hm (by decide)

theorem State.loadProfs_evolves {s : State} (a1) (h : Evolves M o s)
    (hm : 0x3fc000000000000000000 &&& M = 0x3fc000000000000000000) :
    Evolves M o (State.loadProfs s a1) := by
  unfold State.loadProfs
  try dsimp only
  repeat' first
    | (intro _)
    | with_reducible first
        | assumption | apply State.putProf_evolves | apply Evolves.ite | apply Evolves.foldl
    | exact mask_trans (by decide) hm
    | exact mask_bit hm (by decide)
    | fail_if_no_progress beta_reduce
    | split
    | fail_if_no_progress with_reducible apply Evolves.parts
    | exact Or.inl (by with_reducible rfl)
    | exact mask_part hm (by decide)

theorem State.noteAmp_evolves {s : State} (a) {e : State → State} (h : Evolves M o s)
    (he : ∀ t, Evolves M o t → Evolves M o (e t))
    (hm : 0x2 &&& M = 0x2) :
    Evolves M o (State.noteAmp s a e) := by
  unfold State.noteAmp
  try dsimp only
  repeat' first
    | (intro _)
    | with_reducible first
        | assumption | apply he | apply State.modEl_evolves | apply Evolves.ite | apply Evolves.foldl
    | exact mask_trans (by decide) hm
    | exact mask_bit hm (by decide)
    | fail_if_no_progress beta_reduce
    | split
    | fail_if_no_progress with_reducible apply Evolves.parts
    | exact Or.inl (by with_reducible rfl)
    | exact mask_part hm (by decide)

/-! ## Datum -/

theorem State.takeSync_evolves {s : State} (a1 a2 a3 a4) (h : Evolves M o s)
    (hm : 0x3c000c00000000000000000000000000000000000000000000000000000018880 &&& M = 0x3c000c00000000000000000000000000000000000000000000000000000018880) :
    Evolves M o (State.takeSync s a1 a2 a3 a4) := by
  unfold State.takeSync
  try dsimp only
  repeat' first
    | (intro _)
    | with_reducible first
        | assumption | apply State.modDom_evolves | apply State.takeOffset_evolves | apply State.acquire_evolves
        | apply Evolves.ite | apply Evolves.foldl
    | exact mask_trans (by decide) hm
    | exact mask_bit hm (by decide)
    | fail_if_no_progress beta_reduce
    | split
    | fail_if_no_progress with_reducible apply Evolves.parts
    | exact Or.inl (by with_reducible rfl)
    | exact mask_part hm (by decide)

theorem execSyncReceived_goes {s : State} (a0 a1 a2) (h : Evolves M o s)
    (hm : 0x103c000c00000000000000000000000000000000000000000000000000000018880 &&& M = 0x103c000c00000000000000000000000000000000000000000000000000000018880) :
    Goes M o (execSyncReceived a0 a1 a2 s) := by
  unfold execSyncReceived
  try dsimp only
  repeat' first
    | (intro _)
    | with_reducible first
        | assumption | apply Goes.next | apply State.modDom_evolves | apply State.takeSync_evolves
        | apply State.discardPtp_evolves | apply Evolves.ite | apply Evolves.foldl
    | exact mask_trans (by decide) hm
    | exact mask_bit hm (by decide)
    | fail_if_no_progress beta_reduce
    | split
    | fail_if_no_progress with_reducible apply Evolves.parts
    | exact Or.inl (by with_reducible rfl)
    | exact mask_part hm (by decide)

theorem execFollowUpReceived_goes {s : State} (a0 a1) (h : Evolves M o s)
    (hm : 0x103c000c00000000000000000000000000000000000000000000000000000018880 &&& M = 0x103c000c00000000000000000000000000000000000000000000000000000018880) :
    Goes M o (execFollowUpReceived a0 a1 s) := by
  unfold execFollowUpReceived
  try dsimp only
  repeat' first
    | (intro _)
    | with_reducible first
        | assumption | apply Goes.next | apply State.takeSync_evolves | apply State.modDom_evolves
        | apply State.discardPtp_evolves | apply Evolves.ite | apply Evolves.foldl
    | exact mask_trans (by decide) hm
    | exact mask_bit hm (by decide)
    | fail_if_no_progress beta_reduce
    | split
    | fail_if_no_progress with_reducible apply Evolves.parts
    | exact Or.inl (by with_reducible rfl)
    | exact mask_part hm (by decide)

theorem execAnnounceReceived_goes {s : State} (a0 a1) (h : Evolves M o s)
    (hm : 0x1020000c00000000000000000000000000000000000000000000000000000010880 &&& M = 0x1020000c00000000000000000000000000000000000000000000000000000010880) :
    Goes M o (execAnnounceReceived a0 a1 s) := by
  unfold execAnnounceReceived
  try dsimp only
  repeat' first
    | (intro _)
    | with_reducible first
        | assumption | apply Goes.next | apply State.modDom_evolves | apply State.acquire_evolves
        | apply State.discardPtp_evolves | apply Evolves.ite | apply Evolves.foldl
    | exact mask_trans (by decide) hm
    | exact mask_bit hm (by decide)
    | fail_if_no_progress beta_reduce
    | split
    | fail_if_no_progress with_reducible apply Evolves.parts
    | exact Or.inl (by with_reducible rfl)
    | exact mask_part hm (by decide)

theorem execDelayReqReceived_goes {s : State} (a0) (h : Evolves M o s)
    (hm : 0x1000000000000000000000000000000000000000000000000000000000000000000 &&& M = 0x1000000000000000000000000000000000000000000000000000000000000000000) :
    Goes M o (execDelayReqReceived a0 s) := by
  unfold execDelayReqReceived
  try dsimp only
  repeat' first
    | (intro _)
    | with_reducible first
        | assumption | apply Goes.next | apply State.discardPtp_evolves | apply Evolves.ite | apply Evolves.foldl
    | exact mask_trans (by decide) hm
    | exact mask_bit hm (by decide)
    | fail_if_no_progress beta_reduce
    | split
    | fail_if_no_progress with_reducible apply Evolves.parts
    | exact Or.inl (by with_reducible rfl)
    | exact mask_part hm (by decide)

theorem execPdelayReqReceived_goes {s : State} (a0 a1 a2 a3) (h : Evolves M o s)
    (hm : 0x5000000000000000000000000ff1020000000000000000000000000000000000000000000000000000000000014880 &&& M = 0x5000000000000000000000000ff1020000000000000000000000000000000000000000000000000000000000014880) :
    Goes M o (execPdelayReqReceived a0 a1 a2 a3 s) := by
  unfold execPdelayReqReceived
  try dsimp only
  repeat' first
    | (intro _)
    | with_reducible first
        | assumption | apply Goes.next | apply State.discardPtp_evolves | apply State.sendPtp_evolves
        | apply State.pushTsq_evolves | apply Evolves.ite | apply Evolves.foldl
    | exact mask_trans (by decide) hm
    | exact mask_bit hm (by decide)
    | fail_if_no_progress beta_reduce
    | split
    | fail_if_no_progress with_reducible apply Evolves.parts
    | exact Or.inl (by with_reducible rfl)
    | exact mask_part hm (by decide)

theorem execPdelayTransmit_goes {s : State} (a0 a1) (h : Evolves M o s)
    (hm : 0x5000000000000000000000000ff0020000000000000000000000000000000000000000000000000000000000014880 &&& M = 0x5000000000000000000000000ff0020000000000000000000000000000000000000000000000000000000000014880) :
    Goes M o (execPdelayTransmit a0 a1 s) := by
  unfold execPdelayTransmit
  try dsimp only
  repeat' first
    | (intro _)
    | with_reducible first
        | assumption | apply Goes.next | apply State.sendPtp_evolves | apply State.pushTsq_evolves
        | apply State.modPp_evolves | apply Evolves.ite | apply Evolves.foldl
    | exact mask_trans (by decide) hm
    | exact mask_bit hm (by decide)
    | fail_if_no_progress beta_reduce
    | split
    | fail_if_no_progress with_reducible apply Evolves.parts
    | exact Or.inl (by with_reducible rfl)
    | exact mask_part hm (by decide)

theorem execPdelayRespReceived_goes {s : State} (a0 a1 a2) (h : Evolves M o s)
    (hm : 0x1000000000000000000000000000000000000000000000000000000000000000800 &&& M = 0x1000000000000000000000000000000000000000000000000000000000000000800) :
    Goes M o (execPdelayRespReceived a0 a1 a2 s) := by
  unfold execPdelayRespReceived
  try dsimp only
  repeat' first
    | (intro _)
    | with_reducible first
        | assumption | apply Goes.next | apply State.discardPtp_evolves | apply State.modPp_evolves
        | apply Evolves.ite | apply Evolves.foldl
    | exact mask_trans (by decide) hm
    | exact mask_bit hm (by decide)
    | fail_if_no_progress beta_reduce
    | split
    | fail_if_no_progress with_reducible apply Evolves.parts
    | exact Or.inl (by with_reducible rfl)
    | exact mask_part hm (by decide)

theorem execPdelayRespFollowUpReceived_goes {s : State} (a0 a1) (h : Evolves M o s)
    (hm : 0x9000000000000000000000000000000000000000000000000000000000000000800 &&& M = 0x9000000000000000000000000000000000000000000000000000000000000000800) :
    Goes M o (execPdelayRespFollowUpReceived a0 a1 s) := by
  unfold execPdelayRespFollowUpReceived
  try dsimp only
  repeat' first
    | (intro _)
    | with_reducible first
        | assumption | apply Goes.next | apply State.discardPtp_evolves | apply State.modPp_evolves
        | apply State.wr_evolves | apply Evolves.ite | apply Evolves.foldl
    | exact mask_trans (by decide) hm
    | exact mask_bit hm (by decide)
    | fail_if_no_progress beta_reduce
    | split
    | fail_if_no_progress with_reducible apply Evolves.parts
    | exact Or.inl (by with_reducible rfl)
    | exact mask_part hm (by decide)

theorem execSyncTransmit_goes {s : State} (a0 a1 a2) (h : Evolves M o s)
    (hm : 0x5000000000000000000000000ff0020000000000000000000000000000000000000000000000000000000000014880 &&& M = 0x5000000000000000000000000ff0020000000000000000000000000000000000000000000000000000000000014880) :
    Goes M o (execSyncTransmit a0 a1 a2 s) := by
  unfold execSyncTransmit
  try dsimp only
  repeat' first
    | (intro _)
    | with_reducible first
        | assumption | apply Goes.next | apply State.modPp_evolves | apply State.sendPtp_evolves
        | apply State.pushTsq_evolves | apply Evolves.ite | apply Evolves.foldl
    | exact mask_trans (by decide) hm
    | exact mask_bit hm (by decide)
    | fail_if_no_progress beta_reduce
    | split
    | fail_if_no_progress with_reducible apply Evolves.parts
    | exact Or.inl (by with_reducible rfl)
    | exact mask_part hm (by decide)

theorem execAnnounceTransmit_goes {s : State} (a0 a1) (h : Evolves M o s)
    (hm : 0x500000000000000000000000000000000000000000000000000000000000000000000000000000000000000000c800 &&& M = 0x500000000000000000000000000000000000000000000000000000000000000000000000000000000000000000c800) :
    Goes M o (execAnnounceTransmit a0 a1 s) := by
  unfold execAnnounceTransmit
  try dsimp only
  repeat' first
    | (intro _)
    | with_reducible first
        | assumption | apply Goes.next | apply State.sendPtp_evolves | apply State.modPp_evolves
        | apply State.useFree_evolves | apply Evolves.ite | apply Evolves.foldl
    | exact mask_trans (by decide) hm
    | exact mask_bit hm (by decide)
    | fail_if_no_progress beta_reduce
    | split
    | fail_if_no_progress with_reducible apply Evolves.parts
    | exact Or.inl (by with_reducible rfl)
    | exact mask_part hm (by decide)

theorem execSourceLost_goes {s : State} (a0 a1) (h : Evolves M o s)
    (hm : 0x24000c00000000000000000000000000000000000000000000000000000010880 &&& M = 0x24000c00000000000000000000000000000000000000000000000000000010880) :
    Goes M o (execSourceLost a0 a1 s) := by
  unfold execSourceLost
  try dsimp only
  repeat' first
    | (intro _)
    | with_reducible first
        | assumption | apply Goes.next | apply State.modDom_evolves | apply State.lose_evolves | apply Evolves.ite
        | apply Evolves.foldl
    | exact mask_trans (by decide) hm
    | exact mask_bit hm (by decide)
    | fail_if_no_progress beta_reduce
    | split
    | fail_if_no_progress with_reducible apply Evolves.parts
    | exact Or.inl (by with_reducible rfl)
    | exact mask_part hm (by decide)

theorem execDatumAcquired_goes {s : State} (h : Evolves M o s)
    (hm : 0x24006400000000000000000000000000000000000000000000000000000018880 &&& M = 0x24006400000000000000000000000000000000000000000000000000000018880) :
    Goes M o (execDatumAcquired s) := by
  unfold execDatumAcquired
  try dsimp only
  repeat' first
    | (intro _)
    | with_reducible first
        | assumption | apply Goes.next | apply State.modDom_evolves | apply State.planStep_evolves
        | apply State.runP_evolves | apply State.wrBit_evolves | apply State.setP_evolves | apply Evolves.ite
        | apply Evolves.foldl
    | exact mask_trans (by decide) hm
    | exact mask_bit hm (by decide)
    | fail_if_no_progress beta_reduce
    | split
    | fail_if_no_progress with_reducible apply Evolves.parts
    | exact Or.inl (by with_reducible rfl)
    | exact mask_part hm (by decide)

theorem execDatumLocked_goes {s : State} (h : Evolves M o s)
    (hm : 0x24000c00000000000000000000000000000000000000000000000000000018880 &&& M = 0x24000c00000000000000000000000000000000000000000000000000000018880) :
    Goes M o (execDatumLocked s) := by
  unfold execDatumLocked
  try dsimp only
  repeat' first
    | (intro _)
    | with_reducible first
        | assumption | apply Goes.next | apply State.runP_evolves | apply State.setS_evolves
        | apply State.modDom_evolves | apply Evolves.ite | apply Evolves.foldl
    | exact mask_trans (by decide) hm
    | exact mask_bit hm (by decide)
    | fail_if_no_progress beta_reduce
    | split
    | fail_if_no_progress with_reducible apply Evolves.parts
    | exact Or.inl (by with_reducible rfl)
    | exact mask_part hm (by decide)

theorem State.ppsEdge_evolves {s : State} (a1 a2) (h : Evolves M o s)
    (hm : 0x3c000c00000000000000000000000000000000000000000000000000000018880 &&& M = 0x3c000c00000000000000000000000000000000000000000000000000000018880) :
    Evolves M o (State.ppsEdge s a1 a2) := by
  unfold State.ppsEdge
  try dsimp only
  repeat' first
    | (intro _)
    | with_reducible first
        | assumption | apply State.modDom_evolves | apply State.acquire_evolves | apply State.takeOffset_evolves
        | apply Evolves.ite | apply Evolves.foldl
    | exact mask_trans (by decide) hm
    | exact mask_bit hm (by decide)
    | fail_if_no_progress beta_reduce
    | split
    | fail_if_no_progress with_reducible apply Evolves.parts
    | exact Or.inl (by with_reducible rfl)
    | exact mask_part hm (by decide)

theorem execPpsInEdge_goes {s : State} (a0) (h : Evolves M o s)
    (hm : 0x3c000c00000000000000000000000000000000000000000000000000000018880 &&& M = 0x3c000c00000000000000000000000000000000000000000000000000000018880) :
    Goes M o (execPpsInEdge a0 s) := by
  unfold execPpsInEdge
  try dsimp only
  repeat' first
    | (intro _)
    | with_reducible first
        | assumption | apply Goes.next | apply State.ppsEdge_evolves | apply Evolves.ite | apply Evolves.foldl
    | exact mask_trans (by decide) hm
    | exact mask_bit hm (by decide)
    | fail_if_no_progress beta_reduce
    | split
    | fail_if_no_progress with_reducible apply Evolves.parts
    | exact Or.inl (by with_reducible rfl)
    | exact mask_part hm (by decide)

theorem execPpsOutPulse_goes {s : State} (h : Evolves M o s)
    (hm : 0x10000 &&& M = 0x10000) :
    Goes M o (execPpsOutPulse s) := by
  unfold execPpsOutPulse
  try dsimp only
  repeat' first
    | (intro _)
    | with_reducible first
        | assumption | apply Goes.next | apply State.emit_evolves | apply Evolves.ite | apply Evolves.foldl
    | exact mask_trans (by decide) hm
    | exact mask_bit hm (by decide)
    | fail_if_no_progress beta_reduce
    | split
    | fail_if_no_progress with_reducible apply Evolves.parts
    | exact Or.inl (by with_reducible rfl)
    | exact mask_part hm (by decide)

theorem execTrigOutputPulse_goes {s : State} (a0) (h : Evolves M o s)
    (hm : 0x10800 &&& M = 0x10800) :
    Goes M o (execTrigOutputPulse a0 s) := by
  unfold execTrigOutputPulse
  try dsimp only
  repeat' first
    | (intro _)
    | with_reducible first
        | assumption | apply Goes.next | apply State.emit_evolves | apply State.modTrig_evolves | apply Evolves.ite
        | apply Evolves.foldl
    | exact mask_trans (by decide) hm
    | exact mask_bit hm (by decide)
    | fail_if_no_progress beta_reduce
    | split
    | fail_if_no_progress with_reducible apply Evolves.parts
    | exact Or.inl (by with_reducible rfl)
    | exact mask_part hm (by decide)

theorem execTrigTsRead_goes {s : State} (a0) (h : Evolves M o s)
    (hm : 0x1c040000000000000000000000000000000000000000000000000000000000000000000800 &&& M = 0x1c040000000000000000000000000000000000000000000000000000000000000000000800) :
    Goes M o (execTrigTsRead a0 s) := by
  unfold execTrigTsRead
  try dsimp only
  repeat' first
    | (intro _)
    | with_reducible first
        | assumption | apply Goes.next | apply State.showTrig_evolves | apply State.modTrig_evolves
        | apply Evolves.ite | apply Evolves.foldl
    | exact mask_trans (by decide) hm
    | exact mask_bit hm (by decide)
    | fail_if_no_progress beta_reduce
    | split
    | fail_if_no_progress with_reducible apply Evolves.parts
    | exact Or.inl (by with_reducible rfl)
    | exact mask_part hm (by decide)

theorem execTrigStartWrite_goes {s : State} (a0 a1) (h : Evolves M o s)
    (hm : 0xe20000020000000000000000000000000000000000000000000000000000000000010880 &&& M = 0xe20000020000000000000000000000000000000000000000000000000000000000010880) :
    Goes M o (execTrigStartWrite a0 a1 s) := by
  unfold execTrigStartWrite
  try dsimp only
  repeat' first
    | (intro _)
    | with_reducible first
        | assumption | apply Goes.next | apply State.noteDiscard_evolves | apply State.expertWrite_evolves
        | apply State.wr_evolves | apply State.setStart_evolves | apply Evolves.ite | apply Evolves.foldl
    | exact mask_trans (by decide) hm
    | exact mask_bit hm (by decide)
    | fail_if_no_progress beta_reduce
    | split
    | fail_if_no_progress with_reducible apply Evolves.parts
    | exact Or.inl (by with_reducible rfl)
    | exact mask_part hm (by decide)

theorem execTsqPopRead_goes {s : State} (a0) (h : Evolves M o s)
    (hm : 0xf90000000000000000000000000000000000000000000000000000000000000000800 &&& M = 0xf90000000000000000000000000000000000000000000000000000000000000000800) :
    Goes M o (execTsqPopRead a0 s) := by
  unfold execTsqPopRead
  try dsimp only
  repeat' first
    | (intro _)
    | with_reducible first
        | assumption | apply Goes.next | apply State.showTsq_evolves | apply State.modPp_evolves | apply Evolves.ite
        | apply Evolves.foldl
    | exact mask_trans (by decide) hm
    | exact mask_bit hm (by decide)
    | fail_if_no_progress beta_reduce
    | split
    | fail_if_no_progress with_reducible apply Evolves.parts
    | exact Or.inl (by with_reducible rfl)
    | exact mask_part hm (by decide)

theorem execDtmTimeLatch_goes {s : State} (h : Evolves M o s)
    (hm : 0x3c00000000000000000000000000000000000000000000000000000000000000 &&& M = 0x3c00000000000000000000000000000000000000000000000000000000000000) :
    Goes M o (execDtmTimeLatch s) := by
  unfold execDtmTimeLatch
  try dsimp only
  repeat' first
    | (intro _)
    | with_reducible first
        | assumption | apply Goes.next | apply State.wr_evolves | apply Evolves.ite | apply Evolves.foldl
    | exact mask_trans (by decide) hm
    | exact mask_bit hm (by decide)
    | fail_if_no_progress beta_reduce
    | split
    | fail_if_no_progress with_reducible apply Evolves.parts
    | exact Or.inl (by with_reducible rfl)
    | exact mask_part hm (by decide)

theorem execPDomWrite_goes {s : State} (a0) (h : Evolves M o s)
    (hm : 0x2000000000000000000000000000000000000000000000000000000880 &&& M = 0x2000000000000000000000000000000000000000000000000000000880) :
    Goes M o (execPDomWrite a0 s) := by
  unfold execPDomWrite
  try dsimp only
  repeat' first
    | (intro _)
    | with_reducible first
        | assumption | apply Goes.next | apply State.expertWrite_evolves | apply State.wr_evolves | apply Evolves.ite
        | apply Evolves.foldl
    | exact mask_trans (by decide) hm
    | exact mask_bit hm (by decide)
    | fail_if_no_progress beta_reduce
    | split
    | fail_if_no_progress with_reducible apply Evolves.parts
    | exact Or.inl (by with_reducible rfl)
    | exact mask_part hm (by decide)

theorem State.resource_evolves {s : State} (a1) (h : Evolves M o s)
    (hm : 0x24000c00000000000000000000000000000000000000000000000000000010880 &&& M = 0x24000c00000000000000000000000000000000000000000000000000000010880) :
    Evolves M o (State.resource s a1) := by
  unfold State.resource
  try dsimp only
  repeat' first
    | (intro _)
    | with_reducible first
        | assumption | apply State.modDom_evolves | apply State.lose_evolves | apply State.setDom_evolves
        | apply Evolves.ite | apply Evolves.foldl
    | exact mask_trans (by decide) hm
    | exact mask_bit hm (by decide)
    | fail_if_no_progress beta_reduce
    | split
    | fail_if_no_progress with_reducible apply Evolves.parts
    | exact Or.inl (by with_reducible rfl)
    | exact mask_part hm (by decide)

theorem execDatumCfgConfig_goes {s : State} (a0 a1 a2 a3 a4 a5 a6 a7 a8 a9 a10) (h : Evolves M o s)
    (hm : 0x400000000000000000000000000000006fa4000c780000000000000000000000000000000000000000000000000000108d0 &&& M = 0x400000000000000000000000000000006fa4000c780000000000000000000000000000000000000000000000000000108d0) :
    Goes M o (execDatumCfgConfig a0 a1 a2 a3 a4 a5 a6 a7 a8 a9 a10 s) := by
  unfold execDatumCfgConfig
  try dsimp only
  repeat' first
    | (intro _)
    | with_reducible first
        | assumption | apply Goes.next | apply State.checked_evolves | apply State.wr_evolves
        | apply State.resource_evolves | apply State.status_evolves | apply State.showPtpRoles_evolves
        | apply Evolves.ite | apply Evolves.foldl
    | exact mask_trans (by decide) hm
    | exact mask_bit hm (by decide)
    | fail_if_no_progress beta_reduce
    | split
    | fail_if_no_progress with_reducible apply Evolves.parts
    | exact Or.inl (by with_reducible rfl)
    | exact mask_part hm (by decide)

theorem execDatumCfgSelect_goes {s : State} (a0 a1) (h : Evolves M o s)
    (hm : 0x400000000000000000000000000000000000000002000000000000000000000000000000000000000000000000000000850 &&& M = 0x400000000000000000000000000000000000000002000000000000000000000000000000000000000000000000000000850) :
    Goes M o (execDatumCfgSelect a0 a1 s) := by
  unfold execDatumCfgSelect
  try dsimp only
  repeat' first
    | (intro _)
    | with_reducible first
        | assumption | apply Goes.next | apply State.checked_evolves | apply State.wr_evolves
        | apply State.status_evolves | apply State.entered_evolves | apply Evolves.ite | apply Evolves.foldl
    | exact mask_trans (by decide) hm
    | exact mask_bit hm (by decide)
    | fail_if_no_progress beta_reduce
    | split
    | fail_if_no_progress with_reducible apply Evolves.parts
    | exact Or.inl (by with_reducible rfl)
    | exact mask_part hm (by decide)

theorem execDatumCfgSetTod_goes {s : State} (a0 a1) (h : Evolves M o s)
    (hm : 0x400000000000000000000000000000000000008000000000000000000000000000000000000000000000000000000000850 &&& M = 0x400000000000000000000000000000000000008000000000000000000000000000000000000000000000000000000000850) :
    Goes M o (execDatumCfgSetTod a0 a1 s) := by
  unfold execDatumCfgSetTod
  try dsimp only
  repeat' first
    | (intro _)
    | with_reducible first
        | assumption | apply Goes.next | apply State.checked_evolves | apply State.modDom_evolves
        | apply State.status_evolves | apply State.wrBit_evolves | apply Evolves.ite | apply Evolves.foldl
    | exact mask_trans (by decide) hm
    | exact mask_bit hm (by decide)
    | fail_if_no_progress beta_reduce
    | split
    | fail_if_no_progress with_reducible apply Evolves.parts
    | exact Or.inl (by with_reducible rfl)
    | exact mask_part hm (by decide)

theorem execDatumCfgLimits_goes {s : State} (a0 a1 a2 a3 a4 a5 a6 a7) (h : Evolves M o s)
    (hm : 0x4000000000000000000000000000000000003c0184000000000000000000000000000000000000000000000000000000050 &&& M = 0x4000000000000000000000000000000000003c0184000000000000000000000000000000000000000000000000000000050) :
    Goes M o (execDatumCfgLimits a0 a1 a2 a3 a4 a5 a6 a7 s) := by
  unfold execDatumCfgLimits
  try dsimp only
  repeat' first
    | (intro _)
    | with_reducible first
        | assumption | apply Goes.next | apply State.checked_evolves | apply State.wr_evolves
        | apply State.status_evolves | apply Evolves.ite | apply Evolves.foldl
    | exact mask_trans (by decide) hm
    | exact mask_bit hm (by decide)
    | fail_if_no_progress beta_reduce
    | split
    | fail_if_no_progress with_reducible apply Evolves.parts
    | exact Or.inl (by with_reducible rfl)
    | exact mask_part hm (by decide)

theorem execDatumStatus_goes {s : State} (a0 a1) (h : Evolves M o s)
    (hm : 0x400000000000000000000000000000000000000000000000000000000000000000000000000000000000000000000012050 &&& M = 0x400000000000000000000000000000000000000000000000000000000000000000000000000000000000000000000012050) :
    Goes M o (execDatumStatus a0 a1 s) := by
  unfold execDatumStatus
  try dsimp only
  repeat' first
    | (intro _)
    | with_reducible first
        | assumption | apply Goes.next | apply State.checked_evolves | apply State.status_evolves
        | apply State.hostWrite_evolves | apply Evolves.ite | apply Evolves.foldl
    | exact mask_trans (by decide) hm
    | exact mask_bit hm (by decide)
    | fail_if_no_progress beta_reduce
    | split
    | fail_if_no_progress with_reducible apply Evolves.parts
    | exact Or.inl (by with_reducible rfl)
    | exact mask_part hm (by decide)

end Sys2Proof.Machine
end

