-- ==== Sys2Proof/Laws/EvolvesD.lean ====
section
/-! SUPPORT. What each operation and meaning of the files FabricOps, Stand, Host, MeasOps, HostCmds leaves of the state before it
(Evolves). -/

namespace Sys2Proof.Machine

set_option Elab.async false
set_option linter.unusedTactic false
set_option linter.unreachableTactic false
set_option linter.unusedVariables false
set_option linter.unusedSimpArgs false
set_option exponentiation.threshold 1024

variable {M : Nat} {o : State}

/-! ## FabricOps -/

theorem State.modFab_evolves {s : State} (a1) (h : Evolves M o s)
    (hm : 0x2000 &&& M = 0x2000) :
    Evolves M o (State.modFab s a1) := by
  unfold State.modFab
  try dsimp only
  repeat' first
    | (intro _)
    | with_reducible first
        | assumption | apply Evolves.ite | apply Evolves.foldl
    | exact mask_trans (by decide) hm
    | exact mask_bit hm (by decide)
    | fail_if_no_progress beta_reduce
    | split
    | fail_if_no_progress with_reducible apply Evolves.parts
    | exact Or.inl (by with_reducible rfl)
    | exact mask_part hm (by decide)

theorem State.sendHello_evolves {s : State} (a1) (h : Evolves M o s)
    (hm : 0x5000000000000000000000000000000000000000000000000000000000000000000000000000000000000000007000 &&& M = 0x5000000000000000000000000000000000000000000000000000000000000000000000000000000000000000007000) :
    Evolves M o (State.sendHello s a1) := by
  unfold State.sendHello
  try dsimp only
  repeat' first
    | (intro _)
    | with_reducible first
        | assumption | apply State.sendOn_evolves | apply State.modPort_evolves | apply Evolves.ite
        | apply Evolves.foldl
    | exact mask_trans (by decide) hm
    | exact mask_bit hm (by decide)
    | fail_if_no_progress beta_reduce
    | split
    | fail_if_no_progress with_reducible apply Evolves.parts
    | exact Or.inl (by with_reducible rfl)
    | exact mask_part hm (by decide)

theorem State.setRoute_evolves {s : State} (a1 a2 a3 a4) (h : Evolves M o s)
    (hm : 0x20003080000000000000000000000000000000000000000000000000000000000000000000000010000 &&& M = 0x20003080000000000000000000000000000000000000000000000000000000000000000000000010000) :
    Evolves M o (State.setRoute s a1 a2 a3 a4) := by
  unfold State.setRoute
  try dsimp only
  repeat' first
    | (intro _)
    | with_reducible first
        | assumption | apply State.wr_evolves | apply State.setRole_evolves | apply Evolves.ite | apply Evolves.foldl
    | exact mask_trans (by decide) hm
    | exact mask_bit hm (by decide)
    | fail_if_no_progress beta_reduce
    | split
    | fail_if_no_progress with_reducible apply Evolves.parts
    | exact Or.inl (by with_reducible rfl)
    | exact mask_part hm (by decide)

theorem State.blockPort_evolves {s : State} (a1) (h : Evolves M o s)
    (hm : 0x20003080000000000000000000000000000000000000000000000000000000000000000000000010080 &&& M = 0x20003080000000000000000000000000000000000000000000000000000000000000000000000010080) :
    Evolves M o (State.blockPort s a1) := by
  unfold State.blockPort
  try dsimp only
  repeat' first
    | (intro _)
    | with_reducible first
        | assumption | apply State.report_evolves | apply State.chpEvent_evolves | apply State.setRoute_evolves
        | apply Evolves.ite | apply Evolves.foldl
    | exact mask_trans (by decide) hm
    | exact mask_bit hm (by decide)
    | fail_if_no_progress beta_reduce
    | split
    | fail_if_no_progress with_reducible apply Evolves.parts
    | exact Or.inl (by with_reducible rfl)
    | exact mask_part hm (by decide)

theorem State.rewire_evolves {s : State} (a1) (h : Evolves M o s)
    (hm : 0xc24000c00000000000000000000000000000000000000000000000000000010880 &&& M = 0xc24000c00000000000000000000000000000000000000000000000000000010880) :
    Evolves M o (State.rewire s a1) := by
  unfold State.rewire
  try dsimp only
  repeat' first
    | (intro _)
    | with_reducible first
        | assumption | apply State.lose_evolves | apply State.showPtpRoles_evolves | apply Evolves.ite
        | apply Evolves.foldl
    | exact mask_trans (by decide) hm
    | exact mask_bit hm (by decide)
    | fail_if_no_progress beta_reduce
    | split
    | fail_if_no_progress with_reducible apply Evolves.parts
    | exact Or.inl (by with_reducible rfl)
    | exact mask_part hm (by decide)

theorem State.ringDown_evolves {s : State} (a1 a2 a3) (h : Evolves M o s)
    (hm : 0x20003080000000000000000000000000000000000000000000000000000000000000000000000010000 &&& M = 0x20003080000000000000000000000000000000000000000000000000000000000000000000000010000) :
    Evolves M o (State.ringDown s a1 a2 a3) := by
  unfold State.ringDown
  try dsimp only
  repeat' first
    | (intro _)
    | with_reducible first
        | assumption | apply State.setRoute_evolves | apply Evolves.ite | apply Evolves.foldl
    | exact mask_trans (by decide) hm
    | exact mask_bit hm (by decide)
    | fail_if_no_progress beta_reduce
    | split
    | fail_if_no_progress with_reducible apply Evolves.parts
    | exact Or.inl (by with_reducible rfl)
    | exact mask_part hm (by decide)

theorem State.setRingRoutes_evolves {s : State} (h : Evolves M o s)
    (hm : 0x20003080000000000000000000000000000000000000000000000000000000000000000000000010000 &&& M = 0x20003080000000000000000000000000000000000000000000000000000000000000000000000010000) :
    Evolves M o (State.setRingRoutes s) := by
  unfold State.setRingRoutes
  try dsimp only
  repeat' first
    | (intro _)
    | with_reducible first
        | assumption | apply State.ringDown_evolves | apply State.setRoute_evolves | apply Evolves.ite
        | apply Evolves.foldl
    | exact mask_trans (by decide) hm
    | exact mask_bit hm (by decide)
    | fail_if_no_progress beta_reduce
    | split
    | fail_if_no_progress with_reducible apply Evolves.parts
    | exact Or.inl (by with_reducible rfl)
    | exact mask_part hm (by decide)

theorem State.showCut_evolves {s : State} (h : Evolves M o s)
    (hm : 0x30000000000000000000000000000000000000000000000000000000000000000000000000000000000000 &&& M = 0x30000000000000000000000000000000000000000000000000000000000000000000000000000000000000) :
    Evolves M o (State.showCut s) := by
  unfold State.showCut
  try dsimp only
  repeat' first
    | (intro _)
    | with_reducible first
        | assumption | apply State.wr_evolves | apply Evolves.ite | apply Evolves.foldl
    | exact mask_trans (by decide) hm
    | exact mask_bit hm (by decide)
    | fail_if_no_progress beta_reduce
    | split
    | fail_if_no_progress with_reducible apply Evolves.parts
    | exact Or.inl (by with_reducible rfl)
    | exact mask_part hm (by decide)

theorem State.announceDepths_evolves {s : State} (h : Evolves M o s)
    (hm : 0x5000000000000010000000000000000000000000000000000000000000000000000000000000000000000000007000 &&& M = 0x5000000000000010000000000000000000000000000000000000000000000000000000000000000000000000007000) :
    Evolves M o (State.announceDepths s) := by
  unfold State.announceDepths
  try dsimp only
  repeat' first
    | (intro _)
    | with_reducible first
        | assumption | apply State.send_evolves | apply State.modFab_evolves | apply Evolves.ite
        | apply Evolves.foldl
    | exact mask_trans (by decide) hm
    | exact mask_bit hm (by decide)
    | fail_if_no_progress beta_reduce
    | split
    | fail_if_no_progress with_reducible apply Evolves.parts
    | exact Or.inl (by with_reducible rfl)
    | exact mask_part hm (by decide)

theorem State.rootAnnounce_evolves {s : State} (h : Evolves M o s)
    (hm : 0x5000000000000010000000000000000000000000000000000000000000000000000000000000000000000000007000 &&& M = 0x5000000000000010000000000000000000000000000000000000000000000000000000000000000000000000007000) :
    Evolves M o (State.rootAnnounce s) := by
  unfold State.rootAnnounce
  try dsimp only
  repeat' first
    | (intro _)
    | with_reducible first
        | assumption | apply State.announceDepths_evolves | apply Evolves.ite | apply Evolves.foldl
    | exact mask_trans (by decide) hm
    | exact mask_bit hm (by decide)
    | fail_if_no_progress beta_reduce
    | split
    | fail_if_no_progress with_reducible apply Evolves.parts
    | exact Or.inl (by with_reducible rfl)
    | exact mask_part hm (by decide)

theorem State.wrapOn_evolves {s : State} (a1) (h : Evolves M o s)
    (hm : 0x8000000000000000000000000000000000000000000000000000000000000000000000000000000000000016000 &&& M = 0x8000000000000000000000000000000000000000000000000000000000000000000000000000000000000016000) :
    Evolves M o (State.wrapOn s a1) := by
  unfold State.wrapOn
  try dsimp only
  repeat' first
    | (intro _)
    | with_reducible first
        | assumption | apply State.useSeq_evolves | apply State.sendWrap_evolves | apply Evolves.ite
        | apply Evolves.foldl
    | exact mask_trans (by decide) hm
    | exact mask_bit hm (by decide)
    | fail_if_no_progress beta_reduce
    | split
    | fail_if_no_progress with_reducible apply Evolves.parts
    | exact Or.inl (by with_reducible rfl)
    | exact mask_part hm (by decide)

theorem State.adoptCut_evolves {s : State} (a1 a2) (h : Evolves M o s)
    (hm : 0x50080001b0020013080000000000c24000c00000000000000000000000000000000000000000000000000000017880 &&& M = 0x50080001b0020013080000000000c24000c00000000000000000000000000000000000000000000000000000017880) :
    Evolves M o (State.adoptCut s a1 a2) := by
  unfold State.adoptCut
  try dsimp only
  repeat' first
    | (intro _)
    | with_reducible first
        | assumption | apply State.sat_evolves | apply State.wrBit_evolves | apply State.showCut_evolves
        | apply State.modFab_evolves | apply State.report_evolves | apply State.chpEvent_evolves
        | apply State.setRingRoutes_evolves | apply State.rootAnnounce_evolves | apply State.wrapOn_evolves
        | apply State.rewire_evolves | apply Evolves.ite | apply Evolves.foldl
    | exact mask_trans (by decide) hm
    | exact mask_bit hm (by decide)
    | fail_if_no_progress beta_reduce
    | split
    | fail_if_no_progress with_reducible apply Evolves.parts
    | exact Or.inl (by with_reducible rfl)
    | exact mask_part hm (by decide)

theorem State.isolate_evolves {s : State} (a1) (h : Evolves M o s)
    (hm : 0x420000000000000000000000000000000000000000000000000000000000000000000000000000010080 &&& M = 0x420000000000000000000000000000000000000000000000000000000000000000000000000000010080) :
    Evolves M o (State.isolate s a1) := by
  unfold State.isolate
  try dsimp only
  repeat' first
    | (intro _)
    | with_reducible first
        | assumption | apply State.report_evolves | apply State.chpEvent_evolves | apply State.wr_evolves
        | apply Evolves.ite | apply Evolves.foldl
    | exact mask_trans (by decide) hm
    | exact mask_bit hm (by decide)
    | fail_if_no_progress beta_reduce
    | split
    | fail_if_no_progress with_reducible apply Evolves.parts
    | exact Or.inl (by with_reducible rfl)
    | exact mask_part hm (by decide)

theorem State.rejoinFabric_evolves {s : State} (a1) (h : Evolves M o s)
    (hm : 0x420000000000000000000000000000000000000000000000000000000000000000000000000000010080 &&& M = 0x420000000000000000000000000000000000000000000000000000000000000000000000000000010080) :
    Evolves M o (State.rejoinFabric s a1) := by
  unfold State.rejoinFabric
  try dsimp only
  repeat' first
    | (intro _)
    | with_reducible first
        | assumption | apply State.report_evolves | apply State.chpEvent_evolves | apply State.wr_evolves
        | apply Evolves.ite | apply Evolves.foldl
    | exact mask_trans (by decide) hm
    | exact mask_bit hm (by decide)
    | fail_if_no_progress beta_reduce
    | split
    | fail_if_no_progress with_reducible apply Evolves.parts
    | exact Or.inl (by with_reducible rfl)
    | exact mask_part hm (by decide)

theorem State.ringLinkLost_evolves {s : State} (a1 a2) (h : Evolves M o s)
    (hm : 0x50080001b0420013080000000000c24000c00000000000000000000000000000000000000000000000000000017880 &&& M = 0x50080001b0420013080000000000c24000c00000000000000000000000000000000000000000000000000000017880) :
    Evolves M o (State.ringLinkLost s a1 a2) := by
  unfold State.ringLinkLost
  try dsimp only
  repeat' first
    | (intro _)
    | with_reducible first
        | assumption | apply State.wrBit_evolves | apply State.adoptCut_evolves | apply State.isolate_evolves
        | apply Evolves.ite | apply Evolves.foldl
    | exact mask_trans (by decide) hm
    | exact mask_bit hm (by decide)
    | fail_if_no_progress beta_reduce
    | split
    | fail_if_no_progress with_reducible apply Evolves.parts
    | exact Or.inl (by with_reducible rfl)
    | exact mask_part hm (by decide)

theorem State.treeLinkLost_evolves {s : State} (a1) (h : Evolves M o s)
    (hm : 0x420003080000000000000000000000000000000000000000000000000000000000000000000000010080 &&& M = 0x420003080000000000000000000000000000000000000000000000000000000000000000000000010080) :
    Evolves M o (State.treeLinkLost s a1) := by
  unfold State.treeLinkLost
  try dsimp only
  repeat' first
    | (intro _)
    | with_reducible first
        | assumption | apply State.setRoute_evolves | apply State.isolate_evolves | apply Evolves.ite
        | apply Evolves.foldl
    | exact mask_trans (by decide) hm
    | exact mask_bit hm (by decide)
    | fail_if_no_progress beta_reduce
    | split
    | fail_if_no_progress with_reducible apply Evolves.parts
    | exact Or.inl (by with_reducible rfl)
    | exact mask_part hm (by decide)

theorem State.takeLinkDown_evolves {s : State} (a1 a2) (h : Evolves M o s)
    (hm : 0x50080001b04200131e0000000000c24000c00000000000000000000000000000000000000000000000000000017880 &&& M = 0x50080001b04200131e0000000000c24000c00000000000000000000000000000000000000000000000000000017880) :
    Evolves M o (State.takeLinkDown s a1 a2) := by
  unfold State.takeLinkDown
  try dsimp only
  repeat' first
    | (intro _)
    | with_reducible first
        | assumption | apply State.sat_evolves | apply State.wrBit_evolves | apply State.report_evolves
        | apply State.chpEvent_evolves | apply State.emptyQueues_evolves | apply State.ringLinkLost_evolves
        | apply State.treeLinkLost_evolves | apply State.showPtpRoles_evolves | apply Evolves.ite
        | apply Evolves.foldl
    | exact mask_trans (by decide) hm
    | exact mask_bit hm (by decide)
    | fail_if_no_progress beta_reduce
    | split
    | fail_if_no_progress with_reducible apply Evolves.parts
    | exact Or.inl (by with_reducible rfl)
    | exact mask_part hm (by decide)

theorem State.takeLinkUp_evolves {s : State} (a1) (h : Evolves M o s)
    (hm : 0x5000000080020000020000000000c00000000000000000000000000000000000000000000000000000000000017080 &&& M = 0x5000000080020000020000000000c00000000000000000000000000000000000000000000000000000000000017080) :
    Evolves M o (State.takeLinkUp s a1) := by
  unfold State.takeLinkUp
  try dsimp only
  repeat' first
    | (intro _)
    | with_reducible first
        | assumption | apply State.report_evolves | apply State.chpEvent_evolves | apply State.wrBit_evolves
        | apply State.showPtpRoles_evolves | apply State.sendHello_evolves | apply Evolves.ite | apply Evolves.foldl
    | exact mask_trans (by decide) hm
    | exact mask_bit hm (by decide)
    | fail_if_no_progress beta_reduce
    | split
    | fail_if_no_progress with_reducible apply Evolves.parts
    | exact Or.inl (by with_reducible rfl)
    | exact mask_part hm (by decide)

theorem State.remember_evolves {s : State} (a1 a2 a3 a4 a5) (h : Evolves M o s)
    (hm : 0x1000 &&& M = 0x1000) :
    Evolves M o (State.remember s a1 a2 a3 a4 a5) := by
  unfold State.remember
  try dsimp only
  repeat' first
    | (intro _)
    | with_reducible first
        | assumption | apply State.modPort_evolves | apply Evolves.ite | apply Evolves.foldl
    | exact mask_trans (by decide) hm
    | exact mask_bit hm (by decide)
    | fail_if_no_progress beta_reduce
    | split
    | fail_if_no_progress with_reducible apply Evolves.parts
    | exact Or.inl (by with_reducible rfl)
    | exact mask_part hm (by decide)

theorem State.restored_evolves {s : State} (a1) (h : Evolves M o s)
    (hm : 0x5000000000020010000000000000c00000000000000000000000000000000000000000000000000000000000017080 &&& M = 0x5000000000020010000000000000c00000000000000000000000000000000000000000000000000000000000017080) :
    Evolves M o (State.restored s a1) := by
  unfold State.restored
  try dsimp only
  repeat' first
    | (intro _)
    | with_reducible first
        | assumption | apply State.showPtpRoles_evolves | apply State.rootAnnounce_evolves
        | apply State.report_evolves | apply State.chpEvent_evolves | apply Evolves.ite | apply Evolves.foldl
    | exact mask_trans (by decide) hm
    | exact mask_bit hm (by decide)
    | fail_if_no_progress beta_reduce
    | split
    | fail_if_no_progress with_reducible apply Evolves.parts
    | exact Or.inl (by with_reducible rfl)
    | exact mask_part hm (by decide)

theorem State.restore_evolves {s : State} (a1 a2 a3 a4 a5 a6) (h : Evolves M o s)
    (hm : 0x5000000000420013080000000000c00000000000000000000000000000000000000000000000000000000000017080 &&& M = 0x5000000000420013080000000000c00000000000000000000000000000000000000000000000000000000000017080) :
    Evolves M o (State.restore s a1 a2 a3 a4 a5 a6) := by
  unfold State.restore
  try dsimp only
  repeat' first
    | (intro _)
    | with_reducible first
        | assumption | apply State.setRingRoutes_evolves | apply State.setRoute_evolves | apply State.sendOn_evolves
        | apply State.restored_evolves | apply State.rejoinFabric_evolves | apply Evolves.ite | apply Evolves.foldl
    | exact mask_trans (by decide) hm
    | exact mask_bit hm (by decide)
    | fail_if_no_progress beta_reduce
    | split
    | fail_if_no_progress with_reducible apply Evolves.parts
    | exact Or.inl (by with_reducible rfl)
    | exact mask_part hm (by decide)

theorem State.meet_evolves {s : State} (a1 a2 a3 a4 a5 a6) (h : Evolves M o s)
    (hm : 0x5000000000420013080000000000c00000000000000000000000000000000000000000000000000000000000017080 &&& M = 0x5000000000420013080000000000c00000000000000000000000000000000000000000000000000000000000017080) :
    Evolves M o (State.meet s a1 a2 a3 a4 a5 a6) := by
  unfold State.meet
  try dsimp only
  repeat' first
    | (intro _)
    | with_reducible first
        | assumption | apply State.blockPort_evolves | apply State.restore_evolves | apply State.restored_evolves
        | apply State.modFab_evolves | apply State.remember_evolves | apply State.setRoute_evolves
        | apply Evolves.ite | apply Evolves.foldl
    | exact mask_trans (by decide) hm
    | exact mask_bit hm (by decide)
    | fail_if_no_progress beta_reduce
    | split
    | fail_if_no_progress with_reducible apply Evolves.parts
    | exact Or.inl (by with_reducible rfl)
    | exact mask_part hm (by decide)

theorem State.tryComplete_evolves {s : State} (h : Evolves M o s)
    (hm : 0x4000050000000f3e20013080000000000c00000000000000000000000000000000000000000000000000000000000017090 &&& M = 0x4000050000000f3e20013080000000000c00000000000000000000000000000000000000000000000000000000000017090) :
    Evolves M o (State.tryComplete s) := by
  unfold State.tryComplete
  try dsimp only
  repeat' first
    | (intro _)
    | with_reducible first
        | assumption | apply State.modFab_evolves | apply State.wr_evolves | apply State.wrBit_evolves
        | apply State.setRingRoutes_evolves | apply State.showCut_evolves | apply State.blockPort_evolves
        | apply State.showPtpRoles_evolves | apply State.announceDepths_evolves | apply State.finish_evolves
        | apply Evolves.ite | apply Evolves.foldl
    | exact mask_trans (by decide) hm
    | exact mask_bit hm (by decide)
    | fail_if_no_progress beta_reduce
    | split
    | fail_if_no_progress with_reducible apply Evolves.parts
    | exact Or.inl (by with_reducible rfl)
    | exact mask_part hm (by decide)

theorem State.endExplore_evolves {s : State} (a1 a2) (h : Evolves M o s)
    (hm : 0x4000050000000f3e20013080000000000c00000000000000000000000000000000000000000000000000000000000017090 &&& M = 0x4000050000000f3e20013080000000000c00000000000000000000000000000000000000000000000000000000000017090) :
    Evolves M o (State.endExplore s a1 a2) := by
  unfold State.endExplore
  try dsimp only
  repeat' first
    | (intro _)
    | with_reducible first
        | assumption | apply State.modFab_evolves | apply State.tryComplete_evolves | apply State.sendOn_evolves
        | apply State.send_evolves | apply Evolves.ite | apply Evolves.foldl
    | exact mask_trans (by decide) hm
    | exact mask_bit hm (by decide)
    | fail_if_no_progress beta_reduce
    | split
    | fail_if_no_progress with_reducible apply Evolves.parts
    | exact Or.inl (by with_reducible rfl)
    | exact mask_part hm (by decide)

theorem State.exploreFrom_evolves {s : State} (x b l) (h : Evolves M o s)
    (hm : 0x4000050000000f3e20013080000000000c00000000000000000000000000000000000000000000000000000000000017090 &&& M = 0x4000050000000f3e20013080000000000c00000000000000000000000000000000000000000000000000000000000017090) :
    Evolves M o (State.exploreFrom s x b l) := by
  induction l generalizing s x b with
  | nil =>
    unfold State.exploreFrom
    try dsimp only
    repeat' first
      | (intro _)
      | with_reducible first
          | assumption | apply State.endExplore_evolves | apply State.setRoute_evolves
          | apply State.blockPort_evolves | apply State.modFab_evolves | apply State.sendOn_evolves
          | apply Evolves.ite | apply Evolves.foldl
      | exact mask_trans (by decide) hm
      | exact mask_bit hm (by decide)
      | fail_if_no_progress beta_reduce
      | split
      | fail_if_no_progress with_reducible apply Evolves.parts
      | exact Or.inl (by with_reducible rfl)
      | exact mask_part hm (by decide)
  | cons q l ih =>
    unfold State.exploreFrom
    try dsimp only
    repeat' first
      | (intro _)
      | with_reducible first
          | assumption | apply ih | apply State.endExplore_evolves | apply State.setRoute_evolves
          | apply State.blockPort_evolves | apply State.modFab_evolves | apply State.sendOn_evolves
          | apply Evolves.ite | apply Evolves.foldl
      | exact mask_trans (by decide) hm
      | exact mask_bit hm (by decide)
      | fail_if_no_progress beta_reduce
      | split
      | fail_if_no_progress with_reducible apply Evolves.parts
      | exact Or.inl (by with_reducible rfl)
      | exact mask_part hm (by decide)

theorem State.exploreAfter_evolves {s : State} (a1 a2) (h : Evolves M o s)
    (hm : 0x4000050000000f3e20013080000000000c00000000000000000000000000000000000000000000000000000000000017090 &&& M = 0x4000050000000f3e20013080000000000c00000000000000000000000000000000000000000000000000000000000017090) :
    Evolves M o (State.exploreAfter s a1 a2) := by
  unfold State.exploreAfter
  try dsimp only
  repeat' first
    | (intro _)
    | with_reducible first
        | assumption | apply State.exploreFrom_evolves | apply Evolves.ite | apply Evolves.foldl
    | exact mask_trans (by decide) hm
    | exact mask_bit hm (by decide)
    | fail_if_no_progress beta_reduce
    | split
    | fail_if_no_progress with_reducible apply Evolves.parts
    | exact Or.inl (by with_reducible rfl)
    | exact mask_part hm (by decide)

theorem State.clearFabric_evolves {s : State} (a1) (h : Evolves M o s)
    (hm : 0x4000000000000f7fa0003080000000000c00000000000000000000000000000000000000000000000000000000000013010 &&& M = 0x4000000000000f7fa0003080000000000c00000000000000000000000000000000000000000000000000000000000013010) :
    Evolves M o (State.clearFabric s a1) := by
  unfold State.clearFabric
  try dsimp only
  repeat' first
    | (intro _)
    | with_reducible first
        | assumption | apply State.finish_evolves | apply State.modPort_evolves | apply State.setRoute_evolves
        | apply State.modFab_evolves | apply State.wr_evolves | apply State.showPtpRoles_evolves | apply Evolves.ite
        | apply Evolves.foldl
    | exact mask_trans (by decide) hm
    | exact mask_bit hm (by decide)
    | fail_if_no_progress beta_reduce
    | split
    | fail_if_no_progress with_reducible apply Evolves.parts
    | exact Or.inl (by with_reducible rfl)
    | exact mask_part hm (by decide)

theorem State.busyWork_evolves {s : State} (h : Evolves M o s)
    (hm : 0x5000000000000000000000000000000000000000000000000000000000000000000000000000000000000000007000 &&& M = 0x5000000000000000000000000000000000000000000000000000000000000000000000000000000000000000007000) :
    Evolves M o (State.busyWork s) := by
  unfold State.busyWork
  try dsimp only
  repeat' first
    | (intro _)
    | with_reducible first
        | assumption | apply State.sendOn_evolves | apply State.modFab_evolves | apply Evolves.ite
        | apply Evolves.foldl
    | exact mask_trans (by decide) hm
    | exact mask_bit hm (by decide)
    | fail_if_no_progress beta_reduce
    | split
    | fail_if_no_progress with_reducible apply Evolves.parts
    | exact Or.inl (by with_reducible rfl)
    | exact mask_part hm (by decide)

theorem State.floodClear_evolves {s : State} (a1 a2) (h : Evolves M o s)
    (hm : 0x5000000000000000000000000000000000000000000000000000000000000000000000000000000000000000007000 &&& M = 0x5000000000000000000000000000000000000000000000000000000000000000000000000000000000000000007000) :
    Evolves M o (State.floodClear s a1 a2) := by
  unfold State.floodClear
  try dsimp only
  repeat' first
    | (intro _)
    | with_reducible first
        | assumption | apply State.sendOn_evolves | apply Evolves.ite | apply Evolves.foldl
    | exact mask_trans (by decide) hm
    | exact mask_bit hm (by decide)
    | fail_if_no_progress beta_reduce
    | split
    | fail_if_no_progress with_reducible apply Evolves.parts
    | exact Or.inl (by with_reducible rfl)
    | exact mask_part hm (by decide)

/-! ## Stand -/

theorem execStandEccError_goes {s : State} (a0) (h : Evolves M o s)
    (hm : 0x400005000000000000010000000000000000000001a04fc038780c0000000000000000000000000000044000000000170fe &&& M = 0x400005000000000000010000000000000000000001a04fc038780c0000000000000000000000000000044000000000170fe) :
    Goes M o (execStandEccError a0 s) := by
  unfold execStandEccError
  try dsimp only
  repeat' first
    | (intro _)
    | with_reducible first
        | assumption | apply Goes.next | apply State.standFault_evolves | apply Evolves.ite | apply Evolves.foldl
    | exact mask_trans (by decide) hm
    | exact mask_bit hm (by decide)
    | fail_if_no_progress beta_reduce
    | split
    | fail_if_no_progress with_reducible apply Evolves.parts
    | exact Or.inl (by with_reducible rfl)
    | exact mask_part hm (by decide)

theorem execWritePathParity_goes {s : State} (a0) (h : Evolves M o s)
    (hm : 0x400005000000000000010000000000000000000001a04fc038780c0000000000000000000000000000044000000000170fe &&& M = 0x400005000000000000010000000000000000000001a04fc038780c0000000000000000000000000000044000000000170fe) :
    Goes M o (execWritePathParity a0 s) := by
  unfold execWritePathParity
  try dsimp only
  repeat' first
    | (intro _)
    | with_reducible first
        | assumption | apply Goes.next | apply State.standFault_evolves | apply Evolves.ite | apply Evolves.foldl
    | exact mask_trans (by decide) hm
    | exact mask_bit hm (by decide)
    | fail_if_no_progress beta_reduce
    | split
    | fail_if_no_progress with_reducible apply Evolves.parts
    | exact Or.inl (by with_reducible rfl)
    | exact mask_part hm (by decide)

theorem execHeartbeatMissing_goes {s : State} (h : Evolves M o s)
    (hm : 0x400005000000000000010000000000000000000001a04fc038780c0000000000000000000000000000044000000000170fe &&& M = 0x400005000000000000010000000000000000000001a04fc038780c0000000000000000000000000000044000000000170fe) :
    Goes M o (execHeartbeatMissing s) := by
  unfold execHeartbeatMissing
  try dsimp only
  repeat' first
    | (intro _)
    | with_reducible first
        | assumption | apply Goes.next | apply State.standFault_evolves | apply Evolves.ite | apply Evolves.foldl
    | exact mask_trans (by decide) hm
    | exact mask_bit hm (by decide)
    | fail_if_no_progress beta_reduce
    | split
    | fail_if_no_progress with_reducible apply Evolves.parts
    | exact Or.inl (by with_reducible rfl)
    | exact mask_part hm (by decide)

theorem execStandClockFault_goes {s : State} (a0) (h : Evolves M o s)
    (hm : 0x400005000000000000010000000000000000000001a04fc038780c0000000000000000000000000000044000000000170fe &&& M = 0x400005000000000000010000000000000000000001a04fc038780c0000000000000000000000000000044000000000170fe) :
    Goes M o (execStandClockFault a0 s) := by
  unfold execStandClockFault
  try dsimp only
  repeat' first
    | (intro _)
    | with_reducible first
        | assumption | apply Goes.next | apply State.standFault_evolves | apply Evolves.ite | apply Evolves.foldl
    | exact mask_trans (by decide) hm
    | exact mask_bit hm (by decide)
    | fail_if_no_progress beta_reduce
    | split
    | fail_if_no_progress with_reducible apply Evolves.parts
    | exact Or.inl (by with_reducible rfl)
    | exact mask_part hm (by decide)

theorem execClkrefLoss_goes {s : State} (h : Evolves M o s)
    (hm : 0x1400000000000004000050080001b04200131e0000000000c24000c01a04fc038780c000000000000000000000000000004400000000017cfe &&& M = 0x1400000000000004000050080001b04200131e0000000000c24000c01a04fc038780c000000000000000000000000000004400000000017cfe) :
    Goes M o (execClkrefLoss s) := by
  unfold execClkrefLoss
  try dsimp only
  repeat' first
    | (intro _)
    | with_reducible first
        | assumption | apply Goes.next | apply State.standFault_evolves | apply State.driveErr_evolves
        | apply State.wrBit_evolves | apply State.takeLinkDown_evolves | apply Evolves.ite | apply Evolves.foldl
    | exact mask_trans (by decide) hm
    | exact mask_bit hm (by decide)
    | fail_if_no_progress beta_reduce
    | split
    | fail_if_no_progress with_reducible apply Evolves.parts
    | exact Or.inl (by with_reducible rfl)
    | exact mask_part hm (by decide)

theorem execInterlockConfirm_goes {s : State} (h : Evolves M o s)
    (hm : 0x400005000000000000010000000000000000000001204fc038780c0000000000000000000000000000044000000000170fe &&& M = 0x400005000000000000010000000000000000000001204fc038780c0000000000000000000000000000044000000000170fe) :
    Goes M o (execInterlockConfirm s) := by
  unfold execInterlockConfirm
  try dsimp only
  repeat' first
    | (intro _)
    | with_reducible first
        | assumption | apply Goes.next | apply State.endHandover_evolves | apply Evolves.ite | apply Evolves.foldl
    | exact mask_trans (by decide) hm
    | exact mask_bit hm (by decide)
    | fail_if_no_progress beta_reduce
    | split
    | fail_if_no_progress with_reducible apply Evolves.parts
    | exact Or.inl (by with_reducible rfl)
    | exact mask_part hm (by decide)

theorem execInterlockTimeout_goes {s : State} (h : Evolves M o s)
    (hm : 0x40000500000000000001000000000000000000000120438038780c0000000000000000000000000000044000000000170fe &&& M = 0x40000500000000000001000000000000000000000120438038780c0000000000000000000000000000044000000000170fe) :
    Goes M o (execInterlockTimeout s) := by
  unfold execInterlockTimeout
  try dsimp only
  repeat' first
    | (intro _)
    | with_reducible first
        | assumption | apply Goes.next | apply State.freeze_evolves | apply Evolves.ite | apply Evolves.foldl
    | exact mask_trans (by decide) hm
    | exact mask_bit hm (by decide)
    | fail_if_no_progress beta_reduce
    | split
    | fail_if_no_progress with_reducible apply Evolves.parts
    | exact Or.inl (by with_reducible rfl)
    | exact mask_part hm (by decide)

theorem execIlkForce_goes {s : State} (h : Evolves M o s)
    (hm : 0x1205f40000000000000000000000000000000000000000000000000008 &&& M = 0x1205f40000000000000000000000000000000000000000000000000008) :
    Goes M o (execIlkForce s) := by
  unfold execIlkForce
  try dsimp only
  repeat' first
    | (intro _)
    | with_reducible first
        | assumption | apply Goes.next | apply State.passBaton_evolves | apply State.sat_evolves | apply Evolves.ite
        | apply Evolves.foldl
    | exact mask_trans (by decide) hm
    | exact mask_bit hm (by decide)
    | fail_if_no_progress beta_reduce
    | split
    | fail_if_no_progress with_reducible apply Evolves.parts
    | exact Or.inl (by with_reducible rfl)
    | exact mask_part hm (by decide)

theorem State.failActivation_evolves {s : State} (h : Evolves M o s)
    (hm : 0x100000000000000000000000000000400000000000000000000000000000000000000001200000000000000000000000000000000000000000000000000000418 &&& M = 0x100000000000000000000000000000400000000000000000000000000000000000000001200000000000000000000000000000000000000000000000000000418) :
    Evolves M o (State.failActivation s) := by
  unfold State.failActivation
  try dsimp only
  repeat' first
    | (intro _)
    | with_reducible first
        | assumption | apply State.offline_evolves | apply State.finishOpt_evolves | apply State.wrBit_evolves
        | apply Evolves.ite | apply Evolves.foldl
    | exact mask_trans (by decide) hm
    | exact mask_bit hm (by decide)
    | fail_if_no_progress beta_reduce
    | split
    | fail_if_no_progress with_reducible apply Evolves.parts
    | exact Or.inl (by with_reducible rfl)
    | exact mask_part hm (by decide)

theorem execCommandedHandover_goes {s : State} (h : Evolves M o s)
    (hm : 0x100000000000000000000000000000400000000000000000000000000000000000000001204f40000000000000000000000000000000000000000000000000418 &&& M = 0x100000000000000000000000000000400000000000000000000000000000000000000001204f40000000000000000000000000000000000000000000000000418) :
    Goes M o (execCommandedHandover s) := by
  unfold execCommandedHandover
  try dsimp only
  repeat' first
    | (intro _)
    | with_reducible first
        | assumption | apply Goes.next | apply State.modStand_evolves | apply State.failActivation_evolves
        | apply State.finishOpt_evolves | apply State.passBaton_evolves | apply Evolves.ite | apply Evolves.foldl
    | exact mask_trans (by decide) hm
    | exact mask_bit hm (by decide)
    | fail_if_no_progress beta_reduce
    | split
    | fail_if_no_progress with_reducible apply Evolves.parts
    | exact Or.inl (by with_reducible rfl)
    | exact mask_part hm (by decide)

theorem execStandHandoverHandover_goes {s : State} (a0) (h : Evolves M o s)
    (hm : 0x400000000000000000000000000000000000000000000000000000000000000000000000000000000000000000000000058 &&& M = 0x400000000000000000000000000000000000000000000000000000000000000000000000000000000000000000000000058) :
    Goes M o (execStandHandoverHandover a0 s) := by
  unfold execStandHandoverHandover
  try dsimp only
  repeat' first
    | (intro _)
    | with_reducible first
        | assumption | apply Goes.next | apply State.checked_evolves | apply State.modStand_evolves
        | apply State.entered_evolves | apply Evolves.ite | apply Evolves.foldl
    | exact mask_trans (by decide) hm
    | exact mask_bit hm (by decide)
    | fail_if_no_progress beta_reduce
    | split
    | fail_if_no_progress with_reducible apply Evolves.parts
    | exact Or.inl (by with_reducible rfl)
    | exact mask_part hm (by decide)

theorem execStandHandoverReturn_goes {s : State} (a0) (h : Evolves M o s)
    (hm : 0x400000000000000000000000000000000000000001200000000000000000000000000000000000000000000000000000058 &&& M = 0x400000000000000000000000000000000000000001200000000000000000000000000000000000000000000000000000058) :
    Goes M o (execStandHandoverReturn a0 s) := by
  unfold execStandHandoverReturn
  try dsimp only
  repeat' first
    | (intro _)
    | with_reducible first
        | assumption | apply Goes.next | apply State.checked_evolves | apply State.startCopy_evolves
        | apply State.entered_evolves | apply Evolves.ite | apply Evolves.foldl
    | exact mask_trans (by decide) hm
    | exact mask_bit hm (by decide)
    | fail_if_no_progress beta_reduce
    | split
    | fail_if_no_progress with_reducible apply Evolves.parts
    | exact Or.inl (by with_reducible rfl)
    | exact mask_part hm (by decide)

theorem execStandHandoverRelease_goes {s : State} (a0) (h : Evolves M o s)
    (hm : 0x400000000000000000000000000000000000000001200000000000000000000000000000000000000000000000000000058 &&& M = 0x400000000000000000000000000000000000000001200000000000000000000000000000000000000000000000000000058) :
    Goes M o (execStandHandoverRelease a0 s) := by
  unfold execStandHandoverRelease
  try dsimp only
  repeat' first
    | (intro _)
    | with_reducible first
        | assumption | apply Goes.next | apply State.checked_evolves | apply State.status_evolves
        | apply State.offline_evolves | apply Evolves.ite | apply Evolves.foldl
    | exact mask_trans (by decide) hm
    | exact mask_bit hm (by decide)
    | fail_if_no_progress beta_reduce
    | split
    | fail_if_no_progress with_reducible apply Evolves.parts
    | exact Or.inl (by with_reducible rfl)
    | exact mask_part hm (by decide)

theorem execStandCopyComplete_goes {s : State} (h : Evolves M o s)
    (hm : 0x4000000000000000000000000000000000000000012003c0000000000000000000000000000000000000000000000000018 &&& M = 0x4000000000000000000000000000000000000000012003c0000000000000000000000000000000000000000000000000018) :
    Goes M o (execStandCopyComplete s) := by
  unfold execStandCopyComplete
  try dsimp only
  repeat' first
    | (intro _)
    | with_reducible first
        | assumption | apply Goes.next | apply State.modStand_evolves | apply State.wrBit_evolves
        | apply State.wr_evolves | apply State.setStand_evolves | apply State.path_evolves
        | apply State.offline_evolves | apply State.returned_evolves | apply Evolves.ite | apply Evolves.foldl
    | exact mask_trans (by decide) hm
    | exact mask_bit hm (by decide)
    | fail_if_no_progress beta_reduce
    | split
    | fail_if_no_progress with_reducible apply Evolves.parts
    | exact Or.inl (by with_reducible rfl)
    | exact mask_part hm (by decide)

theorem execStandEligible_goes {s : State} (h : Evolves M o s)
    (hm : 0x400000000000000000000000000000000000000000200000000000000000000000000000000000000000000000000000418 &&& M = 0x400000000000000000000000000000000000000000200000000000000000000000000000000000000000000000000000418) :
    Goes M o (execStandEligible s) := by
  unfold execStandEligible
  try dsimp only
  repeat' first
    | (intro _)
    | with_reducible first
        | assumption | apply Goes.next | apply State.returned_evolves | apply State.setStand_evolves
        | apply Evolves.ite | apply Evolves.foldl
    | exact mask_trans (by decide) hm
    | exact mask_bit hm (by decide)
    | fail_if_no_progress beta_reduce
    | split
    | fail_if_no_progress with_reducible apply Evolves.parts
    | exact Or.inl (by with_reducible rfl)
    | exact mask_part hm (by decide)

theorem State.resumeElem_evolves {s : State} (a1) (h : Evolves M o s)
    (hm : 0x400005000000000000010000000000000000000000000000000000000000000000000000000008000000000000000017056 &&& M = 0x400005000000000000010000000000000000000000000000000000000000000000000000000008000000000000000017056) :
    Evolves M o (State.resumeElem s a1) := by
  unfold State.resumeElem
  try dsimp only
  repeat' first
    | (intro _)
    | with_reducible first
        | assumption | apply State.settled_evolves | apply State.enterSettle_evolves | apply State.dropMove_evolves
        | apply Evolves.ite | apply Evolves.foldl
    | exact mask_trans (by decide) hm
    | exact mask_bit hm (by decide)
    | fail_if_no_progress beta_reduce
    | split
    | fail_if_no_progress with_reducible apply Evolves.parts
    | exact Or.inl (by with_reducible rfl)
    | exact mask_part hm (by decide)

theorem execTakeoverResume_goes {s : State} (a0) (h : Evolves M o s)
    (hm : 0x40000500000000000001000000000000000000000000000000000000000000000000000000000800000000000000001705e &&& M = 0x40000500000000000001000000000000000000000000000000000000000000000000000000000800000000000000001705e) :
    Goes M o (execTakeoverResume a0 s) := by
  unfold execTakeoverResume
  try dsimp only
  repeat' first
    | (intro _)
    | with_reducible first
        | assumption | apply Goes.next | apply State.modStand_evolves | apply State.resumeElem_evolves
        | apply Evolves.ite | apply Evolves.foldl
    | exact mask_trans (by decide) hm
    | exact mask_bit hm (by decide)
    | fail_if_no_progress beta_reduce
    | split
    | fail_if_no_progress with_reducible apply Evolves.parts
    | exact Or.inl (by with_reducible rfl)
    | exact mask_part hm (by decide)

theorem execCompartmentServiceFence_goes {s : State} (a0 a1) (h : Evolves M o s)
    (hm : 0x400000000000000000000000000000000000000000000000000000000000000000000000000000000000000000000000058 &&& M = 0x400000000000000000000000000000000000000000000000000000000000000000000000000000000000000000000000058) :
    Goes M o (execCompartmentServiceFence a0 a1 s) := by
  unfold execCompartmentServiceFence
  try dsimp only
  repeat' first
    | (intro _)
    | with_reducible first
        | assumption | apply Goes.next | apply State.checked_evolves | apply State.modSvc_evolves
        | apply State.entered_evolves | apply Evolves.ite | apply Evolves.foldl
    | exact mask_trans (by decide) hm
    | exact mask_bit hm (by decide)
    | fail_if_no_progress beta_reduce
    | split
    | fail_if_no_progress with_reducible apply Evolves.parts
    | exact Or.inl (by with_reducible rfl)
    | exact mask_part hm (by decide)

theorem execCompartmentServiceReset_goes {s : State} (a0 a1) (h : Evolves M o s)
    (hm : 0x400000000000000000000000000000000000000000000000000000000000000000000000000000000000000000000000058 &&& M = 0x400000000000000000000000000000000000000000000000000000000000000000000000000000000000000000000000058) :
    Goes M o (execCompartmentServiceReset a0 a1 s) := by
  unfold execCompartmentServiceReset
  try dsimp only
  repeat' first
    | (intro _)
    | with_reducible first
        | assumption | apply Goes.next | apply State.checked_evolves | apply State.modSvc_evolves
        | apply State.entered_evolves | apply Evolves.ite | apply Evolves.foldl
    | exact mask_trans (by decide) hm
    | exact mask_bit hm (by decide)
    | fail_if_no_progress beta_reduce
    | split
    | fail_if_no_progress with_reducible apply Evolves.parts
    | exact Or.inl (by with_reducible rfl)
    | exact mask_part hm (by decide)

theorem execCompartmentServiceRejoin_goes {s : State} (a0 a1) (h : Evolves M o s)
    (hm : 0x40000000000000000000000000000000000000000004000000000000000000000000000000000000000000000000000005a &&& M = 0x40000000000000000000000000000000000000000004000000000000000000000000000000000000000000000000000005a) :
    Goes M o (execCompartmentServiceRejoin a0 a1 s) := by
  unfold execCompartmentServiceRejoin
  try dsimp only
  repeat' first
    | (intro _)
    | with_reducible first
        | assumption | apply Goes.next | apply State.checked_evolves | apply State.entered_evolves
        | apply State.modCpt_evolves | apply State.modSvc_evolves | apply State.effect_evolves
        | apply State.wrBit_evolves | apply Evolves.ite | apply Evolves.foldl
    | exact mask_trans (by decide) hm
    | exact mask_bit hm (by decide)
    | fail_if_no_progress beta_reduce
    | split
    | fail_if_no_progress with_reducible apply Evolves.parts
    | exact Or.inl (by with_reducible rfl)
    | exact mask_part hm (by decide)

theorem State.fenceDone_evolves {s : State} (a1) (h : Evolves M o s)
    (hm : 0x400000000000000000000000000000000000000000000000000000000000000000000000000000000000000000000000018 &&& M = 0x400000000000000000000000000000000000000000000000000000000000000000000000000000000000000000000000018) :
    Evolves M o (State.fenceDone s a1) := by
  unfold State.fenceDone
  try dsimp only
  repeat' first
    | (intro _)
    | with_reducible first
        | assumption | apply State.finish_evolves | apply State.modSvc_evolves | apply Evolves.ite
        | apply Evolves.foldl
    | exact mask_trans (by decide) hm
    | exact mask_bit hm (by decide)
    | fail_if_no_progress beta_reduce
    | split
    | fail_if_no_progress with_reducible apply Evolves.parts
    | exact Or.inl (by with_reducible rfl)
    | exact mask_part hm (by decide)

theorem execCompartmentFence_goes {s : State} (a0) (h : Evolves M o s)
    (hm : 0x4000050000000000000100000000000000000000000d800000000c00000000000000000000480800000444081800201f0fe &&& M = 0x4000050000000000000100000000000000000000000d800000000c00000000000000000000480800000444081800201f0fe) :
    Goes M o (execCompartmentFence a0 s) := by
  unfold execCompartmentFence
  try dsimp only
  repeat' first
    | (intro _)
    | with_reducible first
        | assumption | apply Goes.next | apply State.modCpt_evolves | apply State.failRejoin_evolves
        | apply State.fenceDone_evolves | apply State.fence_evolves | apply Evolves.ite | apply Evolves.foldl
    | exact mask_trans (by decide) hm
    | exact mask_bit hm (by decide)
    | fail_if_no_progress beta_reduce
    | split
    | fail_if_no_progress with_reducible apply Evolves.parts
    | exact Or.inl (by with_reducible rfl)
    | exact mask_part hm (by decide)

theorem execCrst_goes {s : State} (a0) (h : Evolves M o s)
    (hm : 0x1fffffffffffffffffffffffffffffffffffffffffffffffffffffffffffffffffffffffffffffffffffffffffffffffffffffffffffffffffffffffffffffffffffffffffffffffffffffffffffffffffffffffffffffffffffffffffffffffffffffffffffffffffffffffffffffffffffffffffffffffffffffffffffffffe0082 &&& M = 0x1fffffffffffffffffffffffffffffffffffffffffffffffffffffffffffffffffffffffffffffffffffffffffffffffffffffffffffffffffffffffffffffffffffffffffffffffffffffffffffffffffffffffffffffffffffffffffffffffffffffffffffffffffffffffffffffffffffffffffffffffffffffffffffffffe0082) :
    Goes M o (execCrst a0 s) := by
  unfold execCrst
  try dsimp only
  repeat' first
    | (intro _)
    | with_reducible first
        | assumption | apply Goes.next | apply State.modLoop_evolves | apply State.resetRegs_evolves
        | apply State.loadMons_evolves | apply State.loadProfs_evolves | apply State.inc_evolves
        | apply State.wrBit_evolves | apply State.modCpt_evolves | apply State.showCleared_evolves
        | apply State.wr_evolves | apply State.awaitCommit_evolves | apply Evolves.ite | apply Evolves.foldl
    | exact mask_trans (by decide) hm
    | exact mask_bit hm (by decide)
    | fail_if_no_progress beta_reduce
    | split
    | fail_if_no_progress with_reducible apply Evolves.parts
    | exact Or.inl (by with_reducible rfl)
    | exact mask_part hm (by decide)
    | exact mask_all hm (by decide) _

theorem execCrstComplete_goes {s : State} (a0) (h : Evolves M o s)
    (hm : 0x400000000000000000000000000000000000000000020000000000000000000000000000000000000000000000000000018 &&& M = 0x400000000000000000000000000000000000000000020000000000000000000000000000000000000000000000000000018) :
    Goes M o (execCrstComplete a0 s) := by
  unfold execCrstComplete
  try dsimp only
  repeat' first
    | (intro _)
    | with_reducible first
        | assumption | apply Goes.next | apply State.finishOpt_evolves | apply State.modSvc_evolves
        | apply State.wrBit_evolves | apply Evolves.ite | apply Evolves.foldl
    | exact mask_trans (by decide) hm
    | exact mask_bit hm (by decide)
    | fail_if_no_progress beta_reduce
    | split
    | fail_if_no_progress with_reducible apply Evolves.parts
    | exact Or.inl (by with_reducible rfl)
    | exact mask_part hm (by decide)

theorem State.rejoinV_evolves {s : State} (a1) (h : Evolves M o s)
    (hm : 0x4808000069000000000000002 &&& M = 0x4808000069000000000000002) :
    Evolves M o (State.rejoinV s a1) := by
  unfold State.rejoinV
  try dsimp only
  repeat' first
    | (intro _)
    | with_reducible first
        | assumption | apply State.backJump_evolves | apply State.setState_evolves | apply State.park_evolves
        | apply State.modEl_evolves | apply State.enterSettle_evolves | apply State.jumpToTarget_evolves
        | apply State.jumpFrom_evolves | apply Evolves.ite | apply Evolves.foldl
    | exact mask_trans (by decide) hm
    | exact mask_bit hm (by decide)
    | fail_if_no_progress beta_reduce
    | split
    | fail_if_no_progress with_reducible apply Evolves.parts
    | exact Or.inl (by with_reducible rfl)
    | exact mask_part hm (by decide)

theorem State.rejoinH_evolves {s : State} (a1) (h : Evolves M o s)
    (hm : 0x4808000009000000000000002 &&& M = 0x4808000009000000000000002) :
    Evolves M o (State.rejoinH s a1) := by
  unfold State.rejoinH
  try dsimp only
  repeat' first
    | (intro _)
    | with_reducible first
        | assumption | apply State.setDuty_evolves | apply State.setState_evolves | apply State.park_evolves
        | apply State.enterSettle_evolves | apply State.modEl_evolves | apply Evolves.ite | apply Evolves.foldl
    | exact mask_trans (by decide) hm
    | exact mask_bit hm (by decide)
    | fail_if_no_progress beta_reduce
    | split
    | fail_if_no_progress with_reducible apply Evolves.parts
    | exact Or.inl (by with_reducible rfl)
    | exact mask_part hm (by decide)

theorem State.rejoinElem_evolves {s : State} (a1) (h : Evolves M o s)
    (hm : 0x4808000069000000000000002 &&& M = 0x4808000069000000000000002) :
    Evolves M o (State.rejoinElem s a1) := by
  unfold State.rejoinElem
  try dsimp only
  repeat' first
    | (intro _)
    | with_reducible first
        | assumption | apply State.rejoinV_evolves | apply State.rejoinH_evolves | apply State.setHiz_evolves
        | apply Evolves.ite | apply Evolves.foldl
    | exact mask_trans (by decide) hm
    | exact mask_bit hm (by decide)
    | fail_if_no_progress beta_reduce
    | split
    | fail_if_no_progress with_reducible apply Evolves.parts
    | exact Or.inl (by with_reducible rfl)
    | exact mask_part hm (by decide)

theorem execRejoin_goes {s : State} (a0) (h : Evolves M o s)
    (hm : 0x40000000000000000000000000000000000000000125800000000000000000000000078000480800026900000000000001a &&& M = 0x40000000000000000000000000000000000000000125800000000000000000000000078000480800026900000000000001a) :
    Goes M o (execRejoin a0 s) := by
  unfold execRejoin
  try dsimp only
  repeat' first
    | (intro _)
    | with_reducible first
        | assumption | apply Goes.next | apply State.wr_evolves | apply State.wrBit_evolves
        | apply State.resnapCpt_evolves | apply State.powerCap_evolves | apply State.rejoinElem_evolves
        | apply State.setStand_evolves | apply State.finishOpt_evolves | apply State.showCleared_evolves
        | apply State.modSvc_evolves | apply Evolves.ite | apply Evolves.foldl
    | exact mask_trans (by decide) hm
    | exact mask_bit hm (by decide)
    | fail_if_no_progress beta_reduce
    | split
    | fail_if_no_progress with_reducible apply Evolves.parts
    | exact Or.inl (by with_reducible rfl)
    | exact mask_part hm (by decide)

/-! ## Host -/

theorem State.showRdy_evolves {s : State} (a1) (h : Evolves M o s)
    (hm : 0x20000000000000000000000000000000000000000000000000000000000000000000000000000000000000000000000000 &&& M = 0x20000000000000000000000000000000000000000000000000000000000000000000000000000000000000000000000000) :
    Evolves M o (State.showRdy s a1) := by
  unfold State.showRdy
  try dsimp only
  repeat' first
    | (intro _)
    | with_reducible first
        | assumption | apply State.wrBit_evolves | apply Evolves.ite | apply Evolves.foldl
    | exact mask_trans (by decide) hm
    | exact mask_bit hm (by decide)
    | fail_if_no_progress beta_reduce
    | split
    | fail_if_no_progress with_reducible apply Evolves.parts
    | exact Or.inl (by with_reducible rfl)
    | exact mask_part hm (by decide)

theorem execSqDoorbell_goes {s : State} (a0 a1) (h : Evolves M o s)
    (hm : 0x20080000000000000000000000000000000000000000000000000000000000000000000000000000000000000000000000000 &&& M = 0x20080000000000000000000000000000000000000000000000000000000000000000000000000000000000000000000000000) :
    Goes M o (execSqDoorbell a0 a1 s) := by
  unfold execSqDoorbell
  try dsimp only
  repeat' first
    | (intro _)
    | with_reducible first
        | assumption | apply Goes.next | apply State.wrBit_evolves | apply State.wr_evolves | apply Evolves.ite
        | apply Evolves.foldl
    | exact mask_trans (by decide) hm
    | exact mask_bit hm (by decide)
    | fail_if_no_progress beta_reduce
    | split
    | fail_if_no_progress with_reducible apply Evolves.parts
    | exact Or.inl (by with_reducible rfl)
    | exact mask_part hm (by decide)

theorem execCommandFetch_goes {s : State} (a0 a1) (h : Evolves M o s)
    (hm : 0x40400000000000000000000000000000000000000000000000000000000000000000000000000000000000000000000000010 &&& M = 0x40400000000000000000000000000000000000000000000000000000000000000000000000000000000000000000000000010) :
    Goes M o (execCommandFetch a0 a1 s) := by
  unfold execCommandFetch
  try dsimp only
  repeat' first
    | (intro _)
    | with_reducible first
        | assumption | apply Goes.next | apply State.wr_evolves | apply State.modMb_evolves | apply Evolves.ite
        | apply Evolves.foldl
    | exact mask_trans (by decide) hm
    | exact mask_bit hm (by decide)
    | fail_if_no_progress beta_reduce
    | split
    | fail_if_no_progress with_reducible apply Evolves.parts
    | exact Or.inl (by with_reducible rfl)
    | exact mask_part hm (by decide)

theorem execMbxEnableWrite_goes {s : State} (a0 a1) (h : Evolves M o s)
    (hm : 0x1e0424000000000000000000000000000000000000000000000000000000000000000000000000000000000000000000000010 &&& M = 0x1e0424000000000000000000000000000000000000000000000000000000000000000000000000000000000000000000000010) :
    Goes M o (execMbxEnableWrite a0 a1 s) := by
  unfold execMbxEnableWrite
  try dsimp only
  repeat' first
    | (intro _)
    | with_reducible first
        | assumption | apply Goes.next | apply State.showRdy_evolves | apply State.wrBit_evolves
        | apply State.modMb_evolves | apply State.wr_evolves | apply Evolves.ite | apply Evolves.foldl
    | exact mask_trans (by decide) hm
    | exact mask_bit hm (by decide)
    | fail_if_no_progress beta_reduce
    | split
    | fail_if_no_progress with_reducible apply Evolves.parts
    | exact Or.inl (by with_reducible rfl)
    | exact mask_part hm (by decide)

theorem execMailboxDmaError_goes {s : State} (a0 a1 a2) (h : Evolves M o s)
    (hm : 0x560000000000000000000000000000000000000000000000000000000000000000000000000000000000000000000000090 &&& M = 0x560000000000000000000000000000000000000000000000000000000000000000000000000000000000000000000000090) :
    Goes M o (execMailboxDmaError a0 a1 a2 s) := by
  unfold execMailboxDmaError
  try dsimp only
  repeat' first
    | (intro _)
    | with_reducible first
        | assumption | apply Goes.next | apply State.modMb_evolves | apply State.report_evolves
        | apply State.showRdy_evolves | apply State.wr_evolves | apply State.wrBit_evolves | apply Evolves.ite
        | apply Evolves.foldl
    | exact mask_trans (by decide) hm
    | exact mask_bit hm (by decide)
    | fail_if_no_progress beta_reduce
    | split
    | fail_if_no_progress with_reducible apply Evolves.parts
    | exact Or.inl (by with_reducible rfl)
    | exact mask_part hm (by decide)

theorem State.flushHost_evolves {s : State} (a1) (h : Evolves M o s)
    (hm : 0x10040 &&& M = 0x10040) :
    Evolves M o (State.flushHost s a1) := by
  unfold State.flushHost
  try dsimp only
  repeat' first
    | (intro _)
    | with_reducible first
        | assumption | apply State.emit_evolves | apply Evolves.ite | apply Evolves.foldl
    | exact mask_trans (by decide) hm
    | exact mask_bit hm (by decide)
    | fail_if_no_progress beta_reduce
    | split
    | fail_if_no_progress with_reducible apply Evolves.parts
    | exact Or.inl (by with_reducible rfl)
    | exact mask_part hm (by decide)

theorem execBusMasterEnableChange_goes {s : State} (a0 a1 a2) (h : Evolves M o s)
    (hm : 0x420000000000000000000000000000000000000000000000000000000000000000000000000000000000000000000010050 &&& M = 0x420000000000000000000000000000000000000000000000000000000000000000000000000000000000000000000010050) :
    Goes M o (execBusMasterEnableChange a0 a1 a2 s) := by
  unfold execBusMasterEnableChange
  try dsimp only
  repeat' first
    | (intro _)
    | with_reducible first
        | assumption | apply Goes.next | apply State.flushHost_evolves | apply State.showRdy_evolves
        | apply State.modMb_evolves | apply Evolves.ite | apply Evolves.foldl
    | exact mask_trans (by decide) hm
    | exact mask_bit hm (by decide)
    | fail_if_no_progress beta_reduce
    | split
    | fail_if_no_progress with_reducible apply Evolves.parts
    | exact Or.inl (by with_reducible rfl)
    | exact mask_part hm (by decide)

theorem execPerstNRelease_goes {s : State} (h : Evolves M o s)
    (hm : 0x40 &&& M = 0x40) :
    Goes M o (execPerstNRelease s) := by
  unfold execPerstNRelease
  try dsimp only
  repeat' first
    | (intro _)
    | with_reducible first
        | assumption | apply Goes.next | apply Evolves.ite | apply Evolves.foldl
    | exact mask_trans (by decide) hm
    | exact mask_bit hm (by decide)
    | fail_if_no_progress beta_reduce
    | split
    | fail_if_no_progress with_reducible apply Evolves.parts
    | exact Or.inl (by with_reducible rfl)
    | exact mask_part hm (by decide)

theorem State.takeToken_evolves {s : State} (a1 a2) (h : Evolves M o s)
    (hm : 0x400800000000000000000000000000000000000000000000000000000000000000000000000000000000000000000000010 &&& M = 0x400800000000000000000000000000000000000000000000000000000000000000000000000000000000000000000000010) :
    Evolves M o (State.takeToken s a1 a2) := by
  unfold State.takeToken
  try dsimp only
  repeat' first
    | (intro _)
    | with_reducible first
        | assumption | apply State.setLevel_evolves | apply Evolves.ite | apply Evolves.foldl
    | exact mask_trans (by decide) hm
    | exact mask_bit hm (by decide)
    | fail_if_no_progress beta_reduce
    | split
    | fail_if_no_progress with_reducible apply Evolves.parts
    | exact Or.inl (by with_reducible rfl)
    | exact mask_part hm (by decide)

theorem State.takeIn_evolves {s : State} (a1 a2 a3 a4) (h : Evolves M o s)
    (hm : 0x400000000000000000000000000000000000000000000000000000000000000000000000000000000000000000000000050 &&& M = 0x400000000000000000000000000000000000000000000000000000000000000000000000000000000000000000000000050) :
    Evolves M o (State.takeIn s a1 a2 a3 a4) := by
  unfold State.takeIn
  try dsimp only
  repeat' first
    | (intro _)
    | with_reducible first
        | assumption | apply State.modMb_evolves | apply Evolves.ite | apply Evolves.foldl
    | exact mask_trans (by decide) hm
    | exact mask_bit hm (by decide)
    | fail_if_no_progress beta_reduce
    | split
    | fail_if_no_progress with_reducible apply Evolves.parts
    | exact Or.inl (by with_reducible rfl)
    | exact mask_part hm (by decide)

theorem State.admitHead_evolves {s : State} (a1) (h : Evolves M o s)
    (hm : 0x603800000000000000000000000000000000000000000000000000000000000000000000000000000000000000000000050 &&& M = 0x603800000000000000000000000000000000000000000000000000000000000000000000000000000000000000000000050) :
    Evolves M o (State.admitHead s a1) := by
  unfold State.admitHead
  try dsimp only
  repeat' first
    | (intro _)
    | with_reducible first
        | assumption | apply State.takeIn_evolves | apply State.sat_evolves | apply State.setHeld_evolves
        | apply State.takeToken_evolves | apply Evolves.ite | apply Evolves.foldl
    | exact mask_trans (by decide) hm
    | exact mask_bit hm (by decide)
    | fail_if_no_progress beta_reduce
    | split
    | fail_if_no_progress with_reducible apply Evolves.parts
    | exact Or.inl (by with_reducible rfl)
    | exact mask_part hm (by decide)

theorem execCommandAdmission_goes {s : State} (h : Evolves M o s)
    (hm : 0x603800000000000000000000000000000000000000000000000000000000000000000000000000000000000000000000050 &&& M = 0x603800000000000000000000000000000000000000000000000000000000000000000000000000000000000000000000050) :
    Goes M o (execCommandAdmission s) := by
  unfold execCommandAdmission
  try dsimp only
  repeat' first
    | (intro _)
    | with_reducible first
        | assumption | apply Goes.next | apply State.admitHead_evolves | apply Evolves.ite | apply Evolves.foldl
    | exact mask_trans (by decide) hm
    | exact mask_bit hm (by decide)
    | fail_if_no_progress beta_reduce
    | split
    | fail_if_no_progress with_reducible apply Evolves.parts
    | exact Or.inl (by with_reducible rfl)
    | exact mask_part hm (by decide)

theorem execPoliceHoldResume_goes {s : State} (a0) (h : Evolves M o s)
    (hm : 0x201000000000000000000000000000000000000000000000000000000000000000000000000000000000000000000000000 &&& M = 0x201000000000000000000000000000000000000000000000000000000000000000000000000000000000000000000000000) :
    Goes M o (execPoliceHoldResume a0 s) := by
  unfold execPoliceHoldResume
  try dsimp only
  repeat' first
    | (intro _)
    | with_reducible first
        | assumption | apply Goes.next | apply State.setHeld_evolves | apply Evolves.ite | apply Evolves.foldl
    | exact mask_trans (by decide) hm
    | exact mask_bit hm (by decide)
    | fail_if_no_progress beta_reduce
    | split
    | fail_if_no_progress with_reducible apply Evolves.parts
    | exact Or.inl (by with_reducible rfl)
    | exact mask_part hm (by decide)

theorem State.releaseHold_evolves {s : State} (a1) (h : Evolves M o s)
    (hm : 0x601000000000000000000000000000000000000000000000000000000000000000000000000000000000000000000000050 &&& M = 0x601000000000000000000000000000000000000000000000000000000000000000000000000000000000000000000000050) :
    Evolves M o (State.releaseHold s a1) := by
  unfold State.releaseHold
  try dsimp only
  repeat' first
    | (intro _)
    | with_reducible first
        | assumption | apply State.setHeld_evolves | apply State.takeIn_evolves | apply Evolves.ite
        | apply Evolves.foldl
    | exact mask_trans (by decide) hm
    | exact mask_bit hm (by decide)
    | fail_if_no_progress beta_reduce
    | split
    | fail_if_no_progress with_reducible apply Evolves.parts
    | exact Or.inl (by with_reducible rfl)
    | exact mask_part hm (by decide)

theorem State.postRemote_evolves {s : State} (a1 a2 a3 a4 a5) (h : Evolves M o s)
    (hm : 0x400005000000000000010000000000000000000000000000000000000000000000000000000000000000000000000007010 &&& M = 0x400005000000000000010000000000000000000000000000000000000000000000000000000000000000000000000007010) :
    Evolves M o (State.postRemote s a1 a2 a3 a4 a5) := by
  unfold State.postRemote
  try dsimp only
  repeat' first
    | (intro _)
    | with_reducible first
        | assumption | apply State.modMb_evolves | apply State.sendTo_evolves | apply Evolves.ite
        | apply Evolves.foldl
    | exact mask_trans (by decide) hm
    | exact mask_bit hm (by decide)
    | fail_if_no_progress beta_reduce
    | split
    | fail_if_no_progress with_reducible apply Evolves.parts
    | exact Or.inl (by with_reducible rfl)
    | exact mask_part hm (by decide)

theorem execCompletionPost_goes {s : State} (a0) (h : Evolves M o s)
    (hm : 0x100400005000000000000010000000000000000000000000000000000000000000000000000000000000000000000000017010 &&& M = 0x100400005000000000000010000000000000000000000000000000000000000000000000000000000000000000000000017010) :
    Goes M o (execCompletionPost a0 s) := by
  unfold execCompletionPost
  try dsimp only
  repeat' first
    | (intro _)
    | with_reducible first
        | assumption | apply Goes.next | apply State.postRemote_evolves | apply State.postEntry_evolves
        | apply Evolves.ite | apply Evolves.foldl
    | exact mask_trans (by decide) hm
    | exact mask_bit hm (by decide)
    | fail_if_no_progress beta_reduce
    | split
    | fail_if_no_progress with_reducible apply Evolves.parts
    | exact Or.inl (by with_reducible rfl)
    | exact mask_part hm (by decide)

theorem execCqHeadWrite_goes {s : State} (a0 a1) (h : Evolves M o s)
    (hm : 0x80400000000000000000000000000000000000000000000000000000000000000000000000000000000000000000000000010 &&& M = 0x80400000000000000000000000000000000000000000000000000000000000000000000000000000000000000000000000010) :
    Goes M o (execCqHeadWrite a0 a1 s) := by
  unfold execCqHeadWrite
  try dsimp only
  repeat' first
    | (intro _)
    | with_reducible first
        | assumption | apply Goes.next | apply State.wr_evolves | apply State.modMb_evolves | apply Evolves.ite
        | apply Evolves.foldl
    | exact mask_trans (by decide) hm
    | exact mask_bit hm (by decide)
    | fail_if_no_progress beta_reduce
    | split
    | fail_if_no_progress with_reducible apply Evolves.parts
    | exact Or.inl (by with_reducible rfl)
    | exact mask_part hm (by decide)

theorem execCompletionInterrupt_goes {s : State} (a0 a1) (h : Evolves M o s)
    (hm : 0x400000000000000000000000000000000000000000000000000000000000000000000000000000000000000000000010010 &&& M = 0x400000000000000000000000000000000000000000000000000000000000000000000000000000000000000000000010010) :
    Goes M o (execCompletionInterrupt a0 a1 s) := by
  unfold execCompletionInterrupt
  try dsimp only
  repeat' first
    | (intro _)
    | with_reducible first
        | assumption | apply Goes.next | apply State.emit_evolves | apply State.modMb_evolves | apply Evolves.ite
        | apply Evolves.foldl
    | exact mask_trans (by decide) hm
    | exact mask_bit hm (by decide)
    | fail_if_no_progress beta_reduce
    | split
    | fail_if_no_progress with_reducible apply Evolves.parts
    | exact Or.inl (by with_reducible rfl)
    | exact mask_part hm (by decide)

theorem execRingInterrupt_goes {s : State} (a0 a1 a2) (h : Evolves M o s)
    (hm : 0x10020 &&& M = 0x10020) :
    Goes M o (execRingInterrupt a0 a1 a2 s) := by
  unfold execRingInterrupt
  try dsimp only
  repeat' first
    | (intro _)
    | with_reducible first
        | assumption | apply Goes.next | apply State.ringRaise_evolves | apply Evolves.ite | apply Evolves.foldl
    | exact mask_trans (by decide) hm
    | exact mask_bit hm (by decide)
    | fail_if_no_progress beta_reduce
    | split
    | fail_if_no_progress with_reducible apply Evolves.parts
    | exact Or.inl (by with_reducible rfl)
    | exact mask_part hm (by decide)

theorem execTrConsWrite_goes {s : State} (a0 a1 a2) (h : Evolves M o s)
    (hm : 0x5000000000000000000000000000000000000000000000000000000000000000000000000000000000000000000000000000000 &&& M = 0x5000000000000000000000000000000000000000000000000000000000000000000000000000000000000000000000000000000) :
    Goes M o (execTrConsWrite a0 a1 a2 s) := by
  unfold execTrConsWrite
  try dsimp only
  repeat' first
    | (intro _)
    | with_reducible first
        | assumption | apply Goes.next | apply State.wrBit_evolves | apply State.wr_evolves | apply Evolves.ite
        | apply Evolves.foldl
    | exact mask_trans (by decide) hm
    | exact mask_bit hm (by decide)
    | fail_if_no_progress beta_reduce
    | split
    | fail_if_no_progress with_reducible apply Evolves.parts
    | exact Or.inl (by with_reducible rfl)
    | exact mask_part hm (by decide)

theorem execTelemetryFrameReceived_goes {s : State} (a0 a1 a2) (h : Evolves M o s)
    (hm : 0x8000000000000000000000000000000000000000000000000000000000000000000000000000000000000000000000000010060 &&& M = 0x8000000000000000000000000000000000000000000000000000000000000000000000000000000000000000000000000010060) :
    Goes M o (execTelemetryFrameReceived a0 a1 a2 s) := by
  unfold execTelemetryFrameReceived
  try dsimp only
  repeat' first
    | (intro _)
    | with_reducible first
        | assumption | apply Goes.next | apply State.ringWrite_evolves | apply State.sat_evolves | apply Evolves.ite
        | apply Evolves.foldl
    | exact mask_trans (by decide) hm
    | exact mask_bit hm (by decide)
    | fail_if_no_progress beta_reduce
    | split
    | fail_if_no_progress with_reducible apply Evolves.parts
    | exact Or.inl (by with_reducible rfl)
    | exact mask_part hm (by decide)

theorem State.showExpert_evolves {s : State} (a1) (h : Evolves M o s)
    (hm : 0xe00000000000000000000000000000000000000000000000000000000000000000000000000000000000000000000000000000 &&& M = 0xe00000000000000000000000000000000000000000000000000000000000000000000000000000000000000000000000000000) :
    Evolves M o (State.showExpert s a1) := by
  unfold State.showExpert
  try dsimp only
  repeat' first
    | (intro _)
    | with_reducible first
        | assumption | apply State.wr_evolves | apply State.wrBit_evolves | apply Evolves.ite | apply Evolves.foldl
    | exact mask_trans (by decide) hm
    | exact mask_bit hm (by decide)
    | fail_if_no_progress beta_reduce
    | split
    | fail_if_no_progress with_reducible apply Evolves.parts
    | exact Or.inl (by with_reducible rfl)
    | exact mask_part hm (by decide)

theorem State.dropUnlocks_evolves {s : State} (a1 a2) (h : Evolves M o s)
    (hm : 0xe00400000000000000000000000000000000000000000000000000000000000000000000000000000000000000000000000010 &&& M = 0xe00400000000000000000000000000000000000000000000000000000000000000000000000000000000000000000000000010) :
    Evolves M o (State.dropUnlocks s a1 a2) := by
  unfold State.dropUnlocks
  try dsimp only
  repeat' first
    | (intro _)
    | with_reducible first
        | assumption | apply State.showExpert_evolves | apply State.modMb_evolves | apply Evolves.ite
        | apply Evolves.foldl
    | exact mask_trans (by decide) hm
    | exact mask_bit hm (by decide)
    | fail_if_no_progress beta_reduce
    | split
    | fail_if_no_progress with_reducible apply Evolves.parts
    | exact Or.inl (by with_reducible rfl)
    | exact mask_part hm (by decide)

theorem execUnlockExpiry_goes {s : State} (a0 a1 a2) (h : Evolves M o s)
    (hm : 0xe00400000000000000000000000000000000000000000000000000000000000000000000000000000000000000000000000010 &&& M = 0xe00400000000000000000000000000000000000000000000000000000000000000000000000000000000000000000000000010) :
    Goes M o (execUnlockExpiry a0 a1 a2 s) := by
  unfold execUnlockExpiry
  try dsimp only
  repeat' first
    | (intro _)
    | with_reducible first
        | assumption | apply Goes.next | apply State.dropUnlocks_evolves | apply Evolves.ite | apply Evolves.foldl
    | exact mask_trans (by decide) hm
    | exact mask_bit hm (by decide)
    | fail_if_no_progress beta_reduce
    | split
    | fail_if_no_progress with_reducible apply Evolves.parts
    | exact Or.inl (by with_reducible rfl)
    | exact mask_part hm (by decide)

/-! ## MeasOps -/

theorem State.extend_evolves {s : State} (a1 a2) (h : Evolves M o s)
    (hm : 0x400 &&& M = 0x400) :
    Evolves M o (State.extend s a1 a2) := by
  unfold State.extend
  try dsimp only
  repeat' first
    | (intro _)
    | with_reducible first
        | assumption | apply Evolves.ite | apply Evolves.foldl
    | exact mask_trans (by decide) hm
    | exact mask_bit hm (by decide)
    | fail_if_no_progress beta_reduce
    | split
    | fail_if_no_progress with_reducible apply Evolves.parts
    | exact Or.inl (by with_reducible rfl)
    | exact mask_part hm (by decide)

theorem State.extendEvent_evolves {s : State} (a1) (h : Evolves M o s)
    (hm : 0x400 &&& M = 0x400) :
    Evolves M o (State.extendEvent s a1) := by
  unfold State.extendEvent
  try dsimp only
  repeat' first
    | (intro _)
    | with_reducible first
        | assumption | apply State.extend_evolves | apply Evolves.ite | apply Evolves.foldl
    | exact mask_trans (by decide) hm
    | exact mask_bit hm (by decide)
    | fail_if_no_progress beta_reduce
    | split
    | fail_if_no_progress with_reducible apply Evolves.parts
    | exact Or.inl (by with_reducible rfl)
    | exact mask_part hm (by decide)

theorem State.extendProfs_evolves {s : State} (h : Evolves M o s)
    (hm : 0x400 &&& M = 0x400) :
    Evolves M o (State.extendProfs s) := by
  unfold State.extendProfs
  try dsimp only
  repeat' first
    | (intro _)
    | with_reducible first
        | assumption | apply State.extend_evolves | apply Evolves.ite | apply Evolves.foldl
    | exact mask_trans (by decide) hm
    | exact mask_bit hm (by decide)
    | fail_if_no_progress beta_reduce
    | split
    | fail_if_no_progress with_reducible apply Evolves.parts
    | exact Or.inl (by with_reducible rfl)
    | exact mask_part hm (by decide)

/-! ## HostCmds -/

theorem execIdentify_goes {s : State} (a0 a1) (h : Evolves M o s)
    (hm : 0x400000000000000000000000000000000000000000000000000000000000000000000000000000000000000000000012050 &&& M = 0x400000000000000000000000000000000000000000000000000000000000000000000000000000000000000000000012050) :
    Goes M o (execIdentify a0 a1 s) := by
  unfold execIdentify
  try dsimp only
  repeat' first
    | (intro _)
    | with_reducible first
        | assumption | apply Goes.next | apply State.checked_evolves | apply State.status_evolves
        | apply State.hostWrite_evolves | apply Evolves.ite | apply Evolves.foldl
    | exact mask_trans (by decide) hm
    | exact mask_bit hm (by decide)
    | fail_if_no_progress beta_reduce
    | split
    | fail_if_no_progress with_reducible apply Evolves.parts
    | exact Or.inl (by with_reducible rfl)
    | exact mask_part hm (by decide)

theorem execGetStatus_goes {s : State} (a0) (h : Evolves M o s)
    (hm : 0x400000000000000000000000000000000000000000000000000000000000000000000000000000000000000000000000050 &&& M = 0x400000000000000000000000000000000000000000000000000000000000000000000000000000000000000000000000050) :
    Goes M o (execGetStatus a0 s) := by
  unfold execGetStatus
  try dsimp only
  repeat' first
    | (intro _)
    | with_reducible first
        | assumption | apply Goes.next | apply State.complete_evolves | apply Evolves.ite | apply Evolves.foldl
    | exact mask_trans (by decide) hm
    | exact mask_bit hm (by decide)
    | fail_if_no_progress beta_reduce
    | split
    | fail_if_no_progress with_reducible apply Evolves.parts
    | exact Or.inl (by with_reducible rfl)
    | exact mask_part hm (by decide)

theorem execPartitionSet_goes {s : State} (a0 a1 a2 a3) (h : Evolves M o s)
    (hm : 0x18400000000000000000000000000000000000000000000000000000000000000000000000000000000000000000000000050 &&& M = 0x18400000000000000000000000000000000000000000000000000000000000000000000000000000000000000000000000050) :
    Goes M o (execPartitionSet a0 a1 a2 a3 s) := by
  unfold execPartitionSet
  try dsimp only
  repeat' first
    | (intro _)
    | with_reducible first
        | assumption | apply Goes.next | apply State.checked_evolves | apply State.status_evolves
        | apply State.wr_evolves | apply State.modMb_evolves | apply Evolves.ite | apply Evolves.foldl
    | exact mask_trans (by decide) hm
    | exact mask_bit hm (by decide)
    | fail_if_no_progress beta_reduce
    | split
    | fail_if_no_progress with_reducible apply Evolves.parts
    | exact Or.inl (by with_reducible rfl)
    | exact mask_part hm (by decide)

theorem execTelemetryCfgRing_goes {s : State} (a0 a1 a2 a3 a4 a5 a6 a7 a8 a9) (h : Evolves M o s)
    (hm : 0x2000400000000000000000000000000000000000000000000000000000000000000000000000000000000000000000000000070 &&& M = 0x2000400000000000000000000000000000000000000000000000000000000000000000000000000000000000000000000000070) :
    Goes M o (execTelemetryCfgRing a0 a1 a2 a3 a4 a5 a6 a7 a8 a9 s) := by
  unfold execTelemetryCfgRing
  try dsimp only
  repeat' first
    | (intro _)
    | with_reducible first
        | assumption | apply Goes.next | apply State.checked_evolves | apply State.status_evolves
        | apply State.wrBit_evolves | apply Evolves.ite | apply Evolves.foldl
    | exact mask_trans (by decide) hm
    | exact mask_bit hm (by decide)
    | fail_if_no_progress beta_reduce
    | split
    | fail_if_no_progress with_reducible apply Evolves.parts
    | exact Or.inl (by with_reducible rfl)
    | exact mask_part hm (by decide)

theorem execTelemetryCfgSource_goes {s : State} (a0 a1 a2 a3 a4 a5 a6 a7) (h : Evolves M o s)
    (hm : 0x400000000000000000000000000000000000000000000000000000000000000000000000000000000000000000000000050 &&& M = 0x400000000000000000000000000000000000000000000000000000000000000000000000000000000000000000000000050) :
    Goes M o (execTelemetryCfgSource a0 a1 a2 a3 a4 a5 a6 a7 s) := by
  unfold execTelemetryCfgSource
  try dsimp only
  repeat' first
    | (intro _)
    | with_reducible first
        | assumption | apply Goes.next | apply State.checked_evolves | apply State.status_evolves | apply Evolves.ite
        | apply Evolves.foldl
    | exact mask_trans (by decide) hm
    | exact mask_bit hm (by decide)
    | fail_if_no_progress beta_reduce
    | split
    | fail_if_no_progress with_reducible apply Evolves.parts
    | exact Or.inl (by with_reducible rfl)
    | exact mask_part hm (by decide)

theorem execExpertUnlock_goes {s : State} (a0 a1 a2 a3) (h : Evolves M o s)
    (hm : 0xe00400000000000000000000000000000000000000000000000000000000000000000000000000000000000000000000000450 &&& M = 0xe00400000000000000000000000000000000000000000000000000000000000000000000000000000000000000000000000450) :
    Goes M o (execExpertUnlock a0 a1 a2 a3 s) := by
  unfold execExpertUnlock
  try dsimp only
  repeat' first
    | (intro _)
    | with_reducible first
        | assumption | apply Goes.next | apply State.checked_evolves | apply State.showExpert_evolves
        | apply State.modMb_evolves | apply State.status_evolves | apply State.extendEvent_evolves
        | apply Evolves.ite | apply Evolves.foldl
    | exact mask_trans (by decide) hm
    | exact mask_bit hm (by decide)
    | fail_if_no_progress beta_reduce
    | split
    | fail_if_no_progress with_reducible apply Evolves.parts
    | exact Or.inl (by with_reducible rfl)
    | exact mask_part hm (by decide)

theorem execExpertLock_goes {s : State} (a0 a1 a2) (h : Evolves M o s)
    (hm : 0xe00400000000000000000000000000000000000000000000000000000000000000000000000000000000000000000000000050 &&& M = 0xe00400000000000000000000000000000000000000000000000000000000000000000000000000000000000000000000000050) :
    Goes M o (execExpertLock a0 a1 a2 s) := by
  unfold execExpertLock
  try dsimp only
  repeat' first
    | (intro _)
    | with_reducible first
        | assumption | apply Goes.next | apply State.checked_evolves | apply State.status_evolves
        | apply State.dropUnlocks_evolves | apply Evolves.ite | apply Evolves.foldl
    | exact mask_trans (by decide) hm
    | exact mask_bit hm (by decide)
    | fail_if_no_progress beta_reduce
    | split
    | fail_if_no_progress with_reducible apply Evolves.parts
    | exact Or.inl (by with_reducible rfl)
    | exact mask_part hm (by decide)

theorem execMeasureRead_goes {s : State} (a0 a1 a2) (h : Evolves M o s)
    (hm : 0x400000000000000000000000000000000000000000000000000000000000000000000000000000000000000000000012050 &&& M = 0x400000000000000000000000000000000000000000000000000000000000000000000000000000000000000000000012050) :
    Goes M o (execMeasureRead a0 a1 a2 s) := by
  unfold execMeasureRead
  try dsimp only
  repeat' first
    | (intro _)
    | with_reducible first
        | assumption | apply Goes.next | apply State.checked_evolves | apply State.complete_evolves
        | apply State.hostWrite_evolves | apply Evolves.ite | apply Evolves.foldl
    | exact mask_trans (by decide) hm
    | exact mask_bit hm (by decide)
    | fail_if_no_progress beta_reduce
    | split
    | fail_if_no_progress with_reducible apply Evolves.parts
    | exact Or.inl (by with_reducible rfl)
    | exact mask_part hm (by decide)

end Sys2Proof.Machine
end

