-- ==== Sys2Proof/Laws/EvolvesE.lean ====
section
/-! SUPPORT. What each operation and meaning of the files Chain, Remote, BootOps, Hmode, FbkOps leaves of the state before it
(Evolves). -/

namespace Sys2Proof.Machine

set_option Elab.async false
set_option linter.unusedTactic false
set_option linter.unreachableTactic false
set_option linter.unusedVariables false
set_option linter.unusedSimpArgs false
set_option exponentiation.threshold 1024

variable {M : Nat} {o : State}

/-! ## Chain -/

theorem State.showCause_evolves {s : State} (a1 a2) (h : Evolves M o s)
    (hm : 0x1f000000000000000000000000000000000000000000000000000000000000000000000000000 &&& M = 0x1f000000000000000000000000000000000000000000000000000000000000000000000000000) :
    Evolves M o (State.showCause s a1 a2) := by
  unfold State.showCause
  try dsimp only
  repeat' first
    | (intro _)
    | with_reducible first
        | assumption | apply State.wrBit_evolves | apply Evolves.ite | apply Evolves.foldl
    | exact mask_trans (by decide) hm
    | exact mask_bit hm (by decide)
    | fail_if_no_progress beta_reduce
    | split
    | fail_if_no_progress with_reducible apply Evolves.parts
    | exact Or.inl (by with_reducible rfl)
    | exact mask_part hm (by decide)

theorem execLinkUp_goes {s : State} (a0) (h : Evolves M o s)
    (hm : 0x500000008002000003f000000000c00000000000000000000000000000000000000000000000000000000000017080 &&& M = 0x500000008002000003f000000000c00000000000000000000000000000000000000000000000000000000000017080) :
    Goes M o (execLinkUp a0 s) := by
  unfold execLinkUp
  try dsimp only
  repeat' first
    | (intro _)
    | with_reducible first
        | assumption | apply Goes.next | apply State.wrBit_evolves | apply State.takeLinkUp_evolves
        | apply State.wr_evolves | apply Evolves.ite | apply Evolves.foldl
    | exact mask_trans (by decide) hm
    | exact mask_bit hm (by decide)
    | fail_if_no_progress beta_reduce
    | split
    | fail_if_no_progress with_reducible apply Evolves.parts
    | exact Or.inl (by with_reducible rfl)
    | exact mask_part hm (by decide)

theorem execLinkDown_goes {s : State} (a0 a1 a2) (h : Evolves M o s)
    (hm : 0x50080001b04200131ff000000000c24000c00000000000000000000000000000000000000000000000000000017880 &&& M = 0x50080001b04200131ff000000000c24000c00000000000000000000000000000000000000000000000000000017880) :
    Goes M o (execLinkDown a0 a1 a2 s) := by
  unfold execLinkDown
  try dsimp only
  repeat' first
    | (intro _)
    | with_reducible first
        | assumption | apply Goes.next | apply State.isolate_evolves | apply State.takeLinkDown_evolves
        | apply State.showCause_evolves | apply Evolves.ite | apply Evolves.foldl
    | exact mask_trans (by decide) hm
    | exact mask_bit hm (by decide)
    | fail_if_no_progress beta_reduce
    | split
    | fail_if_no_progress with_reducible apply Evolves.parts
    | exact Or.inl (by with_reducible rfl)
    | exact mask_part hm (by decide)

theorem execHelloTransmit_goes {s : State} (a0) (h : Evolves M o s)
    (hm : 0x5000000000000000000000000000000000000000000000000000000000000000000000000000000000000000007000 &&& M = 0x5000000000000000000000000000000000000000000000000000000000000000000000000000000000000000007000) :
    Goes M o (execHelloTransmit a0 s) := by
  unfold execHelloTransmit
  try dsimp only
  repeat' first
    | (intro _)
    | with_reducible first
        | assumption | apply Goes.next | apply State.sendHello_evolves | apply Evolves.ite | apply Evolves.foldl
    | exact mask_trans (by decide) hm
    | exact mask_bit hm (by decide)
    | fail_if_no_progress beta_reduce
    | split
    | fail_if_no_progress with_reducible apply Evolves.parts
    | exact Or.inl (by with_reducible rfl)
    | exact mask_part hm (by decide)

theorem execHelloReceived_goes {s : State} (a0 a1 a2 a3 a4 a5 a6 a7) (h : Evolves M o s)
    (hm : 0x50080001b0420013fe0000000000c24000c00000000000000000000000000000000000000000000000000000017880 &&& M = 0x50080001b0420013fe0000000000c24000c00000000000000000000000000000000000000000000000000000017880) :
    Goes M o (execHelloReceived a0 a1 a2 a3 a4 a5 a6 a7 s) := by
  unfold execHelloReceived
  try dsimp only
  repeat' first
    | (intro _)
    | with_reducible first
        | assumption | apply Goes.next | apply State.takeLinkUp_evolves | apply State.takeLinkDown_evolves
        | apply State.chpEvent_evolves | apply State.wr_evolves | apply State.wrBit_evolves
        | apply State.modPort_evolves | apply State.meet_evolves | apply Evolves.ite | apply Evolves.foldl
    | exact mask_trans (by decide) hm
    | exact mask_bit hm (by decide)
    | fail_if_no_progress beta_reduce
    | split
    | fail_if_no_progress with_reducible apply Evolves.parts
    | exact Or.inl (by with_reducible rfl)
    | exact mask_part hm (by decide)

theorem State.setPattern_evolves {s : State} (a1 a2 a3) (h : Evolves M o s)
    (hm : 0x50080001b04383131ff000000000c24000c00000000000000000000000000000000000000000000000000000017880 &&& M = 0x50080001b04383131ff000000000c24000c00000000000000000000000000000000000000000000000000000017880) :
    Evolves M o (State.setPattern s a1 a2 a3) := by
  unfold State.setPattern
  try dsimp only
  repeat' first
    | (intro _)
    | with_reducible first
        | assumption | apply State.wr_evolves | apply State.wrBit_evolves | apply State.setRoute_evolves
        | apply State.takeLinkDown_evolves | apply State.showCause_evolves | apply Evolves.ite | apply Evolves.foldl
    | exact mask_trans (by decide) hm
    | exact mask_bit hm (by decide)
    | fail_if_no_progress beta_reduce
    | split
    | fail_if_no_progress with_reducible apply Evolves.parts
    | exact Or.inl (by with_reducible rfl)
    | exact mask_part hm (by decide)

theorem execPrbsCfgWrite_goes {s : State} (a0 a1 a2) (h : Evolves M o s)
    (hm : 0x50080001b043c3131ff000000000c24000c00000000000000000000000000000000000000000000000000000017880 &&& M = 0x50080001b043c3131ff000000000c24000c00000000000000000000000000000000000000000000000000000017880) :
    Goes M o (execPrbsCfgWrite a0 a1 a2 s) := by
  unfold execPrbsCfgWrite
  try dsimp only
  repeat' first
    | (intro _)
    | with_reducible first
        | assumption | apply Goes.next | apply State.expertWrite_evolves | apply State.wrBit_evolves
        | apply State.setPattern_evolves | apply Evolves.ite | apply Evolves.foldl
    | exact mask_trans (by decide) hm
    | exact mask_bit hm (by decide)
    | fail_if_no_progress beta_reduce
    | split
    | fail_if_no_progress with_reducible apply Evolves.parts
    | exact Or.inl (by with_reducible rfl)
    | exact mask_part hm (by decide)

theorem execPrbsCheckerLock_goes {s : State} (a0 a1) (h : Evolves M o s)
    (hm : 0x18000000000000000000000000000000000000000000000000000000000000000000000000000000000 &&& M = 0x18000000000000000000000000000000000000000000000000000000000000000000000000000000000) :
    Goes M o (execPrbsCheckerLock a0 a1 s) := by
  unfold execPrbsCheckerLock
  try dsimp only
  repeat' first
    | (intro _)
    | with_reducible first
        | assumption | apply Goes.next | apply State.wr_evolves | apply State.wrBit_evolves | apply Evolves.ite
        | apply Evolves.foldl
    | exact mask_trans (by decide) hm
    | exact mask_bit hm (by decide)
    | fail_if_no_progress beta_reduce
    | split
    | fail_if_no_progress with_reducible apply Evolves.parts
    | exact Or.inl (by with_reducible rfl)
    | exact mask_part hm (by decide)

theorem execInjOneWrite_goes {s : State} (a0) (h : Evolves M o s)
    (hm : 0x10000 &&& M = 0x10000) :
    Goes M o (execInjOneWrite a0 s) := by
  unfold execInjOneWrite
  try dsimp only
  repeat' first
    | (intro _)
    | with_reducible first
        | assumption | apply Goes.next | apply State.emit_evolves | apply Evolves.ite | apply Evolves.foldl
    | exact mask_trans (by decide) hm
    | exact mask_bit hm (by decide)
    | fail_if_no_progress beta_reduce
    | split
    | fail_if_no_progress with_reducible apply Evolves.parts
    | exact Or.inl (by with_reducible rfl)
    | exact mask_part hm (by decide)

theorem execInjFcsWrite_goes {s : State} (a0) (h : Evolves M o s)
    (hm : 0x1000 &&& M = 0x1000) :
    Goes M o (execInjFcsWrite a0 s) := by
  unfold execInjFcsWrite
  try dsimp only
  repeat' first
    | (intro _)
    | with_reducible first
        | assumption | apply Goes.next | apply State.modPort_evolves | apply Evolves.ite | apply Evolves.foldl
    | exact mask_trans (by decide) hm
    | exact mask_bit hm (by decide)
    | fail_if_no_progress beta_reduce
    | split
    | fail_if_no_progress with_reducible apply Evolves.parts
    | exact Or.inl (by with_reducible rfl)
    | exact mask_part hm (by decide)

theorem State.dropOther_evolves {s : State} (a1) (h : Evolves M o s)
    (hm : 0x20000000000000000000000000000000000000000000000000000000000000000000000000000080 &&& M = 0x20000000000000000000000000000000000000000000000000000000000000000000000000000080) :
    Evolves M o (State.dropOther s a1) := by
  unfold State.dropOther
  try dsimp only
  repeat' first
    | (intro _)
    | with_reducible first
        | assumption | apply State.report_evolves | apply State.sat_evolves | apply Evolves.ite | apply Evolves.foldl
    | exact mask_trans (by decide) hm
    | exact mask_bit hm (by decide)
    | fail_if_no_progress beta_reduce
    | split
    | fail_if_no_progress with_reducible apply Evolves.parts
    | exact Or.inl (by with_reducible rfl)
    | exact mask_part hm (by decide)

theorem State.dropDest_evolves {s : State} (a1) (h : Evolves M o s)
    (hm : 0x10000000000000000000000000000000000000000000000000000000000000000000000000000080 &&& M = 0x10000000000000000000000000000000000000000000000000000000000000000000000000000080) :
    Evolves M o (State.dropDest s a1) := by
  unfold State.dropDest
  try dsimp only
  repeat' first
    | (intro _)
    | with_reducible first
        | assumption | apply State.report_evolves | apply State.sat_evolves | apply Evolves.ite | apply Evolves.foldl
    | exact mask_trans (by decide) hm
    | exact mask_bit hm (by decide)
    | fail_if_no_progress beta_reduce
    | split
    | fail_if_no_progress with_reducible apply Evolves.parts
    | exact Or.inl (by with_reducible rfl)
    | exact mask_part hm (by decide)

theorem State.deliver_evolves {s : State} (a1 a2 a3) (h : Evolves M o s)
    (hm : 0x4000000000000000000000000000000000000000000000000000000000000000000000000010080 &&& M = 0x4000000000000000000000000000000000000000000000000000000000000000000000000010080) :
    Evolves M o (State.deliver s a1 a2 a3) := by
  unfold State.deliver
  try dsimp only
  repeat' first
    | (intro _)
    | with_reducible first
        | assumption | apply State.emit_evolves | apply State.report_evolves | apply State.sat_evolves
        | apply Evolves.ite | apply Evolves.foldl
    | exact mask_trans (by decide) hm
    | exact mask_bit hm (by decide)
    | fail_if_no_progress beta_reduce
    | split
    | fail_if_no_progress with_reducible apply Evolves.parts
    | exact Or.inl (by with_reducible rfl)
    | exact mask_part hm (by decide)

theorem State.passOn_evolves {s : State} (a1 a2 a3) (h : Evolves M o s)
    (hm : 0x5000000000000000000000000000000000000000000000000000000000000000000000000000000000000000004000 &&& M = 0x5000000000000000000000000000000000000000000000000000000000000000000000000000000000000000004000) :
    Evolves M o (State.passOn s a1 a2 a3) := by
  unfold State.passOn
  try dsimp only
  repeat' first
    | (intro _)
    | with_reducible first
        | assumption | apply State.enqueue_evolves | apply Evolves.ite | apply Evolves.foldl
    | exact mask_trans (by decide) hm
    | exact mask_bit hm (by decide)
    | fail_if_no_progress beta_reduce
    | split
    | fail_if_no_progress with_reducible apply Evolves.parts
    | exact Or.inl (by with_reducible rfl)
    | exact mask_part hm (by decide)

theorem State.passDown_evolves {s : State} (a1 a2) (h : Evolves M o s)
    (hm : 0x5000000000000000000000000000000000000000000000000000000000000000000000000000000000000000004000 &&& M = 0x5000000000000000000000000000000000000000000000000000000000000000000000000000000000000000004000) :
    Evolves M o (State.passDown s a1 a2) := by
  unfold State.passDown
  try dsimp only
  repeat' first
    | (intro _)
    | with_reducible first
        | assumption | apply State.passOn_evolves | apply Evolves.ite | apply Evolves.foldl
    | exact mask_trans (by decide) hm
    | exact mask_bit hm (by decide)
    | fail_if_no_progress beta_reduce
    | split
    | fail_if_no_progress with_reducible apply Evolves.parts
    | exact Or.inl (by with_reducible rfl)
    | exact mask_part hm (by decide)

theorem State.passBroadcast_evolves {s : State} (a1 a2 a3) (h : Evolves M o s)
    (hm : 0x5000000000000034000000000000000000000000000000000000000000000000000000000000000000000000014080 &&& M = 0x5000000000000034000000000000000000000000000000000000000000000000000000000000000000000000014080) :
    Evolves M o (State.passBroadcast s a1 a2 a3) := by
  unfold State.passBroadcast
  try dsimp only
  repeat' first
    | (intro _)
    | with_reducible first
        | assumption | apply State.dropDest_evolves | apply State.dropOther_evolves | apply State.passOn_evolves
        | apply State.deliver_evolves | apply State.passDown_evolves | apply Evolves.ite | apply Evolves.foldl
    | exact mask_trans (by decide) hm
    | exact mask_bit hm (by decide)
    | fail_if_no_progress beta_reduce
    | split
    | fail_if_no_progress with_reducible apply Evolves.parts
    | exact Or.inl (by with_reducible rfl)
    | exact mask_part hm (by decide)

theorem State.passAddressed_evolves {s : State} (a1 a2 a3) (h : Evolves M o s)
    (hm : 0x5000000000000030000000000000000000000000000000000000000000000000000000000000000000000000004080 &&& M = 0x5000000000000030000000000000000000000000000000000000000000000000000000000000000000000000004080) :
    Evolves M o (State.passAddressed s a1 a2 a3) := by
  unfold State.passAddressed
  try dsimp only
  repeat' first
    | (intro _)
    | with_reducible first
        | assumption | apply State.dropOther_evolves | apply State.dropDest_evolves | apply State.passOn_evolves
        | apply Evolves.ite | apply Evolves.foldl
    | exact mask_trans (by decide) hm
    | exact mask_bit hm (by decide)
    | fail_if_no_progress beta_reduce
    | split
    | fail_if_no_progress with_reducible apply Evolves.parts
    | exact Or.inl (by with_reducible rfl)
    | exact mask_part hm (by decide)

theorem execCairnFrameReceived_goes {s : State} (a0 a1 a2) (h : Evolves M o s)
    (hm : 0x500000000000003c000000000000000000000000000000000000000000000000000000000000000000000000014080 &&& M = 0x500000000000003c000000000000000000000000000000000000000000000000000000000000000000000000014080) :
    Goes M o (execCairnFrameReceived a0 a1 a2 s) := by
  unfold execCairnFrameReceived
  try dsimp only
  repeat' first
    | (intro _)
    | with_reducible first
        | assumption | apply Goes.next | apply State.dropOther_evolves | apply State.report_evolves
        | apply State.sat_evolves | apply State.dropDest_evolves | apply State.deliver_evolves
        | apply State.passBroadcast_evolves | apply State.passAddressed_evolves | apply Evolves.ite
        | apply Evolves.foldl
    | exact mask_trans (by decide) hm
    | exact mask_bit hm (by decide)
    | fail_if_no_progress beta_reduce
    | split
    | fail_if_no_progress with_reducible apply Evolves.parts
    | exact Or.inl (by with_reducible rfl)
    | exact mask_part hm (by decide)

theorem execEnumClear_goes {s : State} (a0 a1) (h : Evolves M o s)
    (hm : 0x4000050000000f7fa0003080000000000c00000000000000000000000000000000000000000000000000000000000017010 &&& M = 0x4000050000000f7fa0003080000000000c00000000000000000000000000000000000000000000000000000000000017010) :
    Goes M o (execEnumClear a0 a1 s) := by
  unfold execEnumClear
  try dsimp only
  repeat' first
    | (intro _)
    | with_reducible first
        | assumption | apply Goes.next | apply State.floodClear_evolves | apply State.clearFabric_evolves
        | apply Evolves.ite | apply Evolves.foldl
    | exact mask_trans (by decide) hm
    | exact mask_bit hm (by decide)
    | fail_if_no_progress beta_reduce
    | split
    | fail_if_no_progress with_reducible apply Evolves.parts
    | exact Or.inl (by with_reducible rfl)
    | exact mask_part hm (by decide)

theorem execEnumClearWait_goes {s : State} (h : Evolves M o s)
    (hm : 0x4000050000000f3e20013080000000000c00000000000000000000000000000000000000000000000000000000000017090 &&& M = 0x4000050000000f3e20013080000000000c00000000000000000000000000000000000000000000000000000000000017090) :
    Goes M o (execEnumClearWait s) := by
  unfold execEnumClearWait
  try dsimp only
  repeat' first
    | (intro _)
    | with_reducible first
        | assumption | apply Goes.next | apply State.exploreFrom_evolves | apply State.modFab_evolves
        | apply Evolves.ite | apply Evolves.foldl
    | exact mask_trans (by decide) hm
    | exact mask_bit hm (by decide)
    | fail_if_no_progress beta_reduce
    | split
    | fail_if_no_progress with_reducible apply Evolves.parts
    | exact Or.inl (by with_reducible rfl)
    | exact mask_part hm (by decide)

theorem State.takeAssign_evolves {s : State} (a1 a2 a3 a4 a5 a6) (h : Evolves M o s)
    (hm : 0x4aa0003080000000000000000000000000000000000000000000000000000000000000000000000013000 &&& M = 0x4aa0003080000000000000000000000000000000000000000000000000000000000000000000000013000) :
    Evolves M o (State.takeAssign s a1 a2 a3 a4 a5 a6) := by
  unfold State.takeAssign
  try dsimp only
  repeat' first
    | (intro _)
    | with_reducible first
        | assumption | apply State.wrBit_evolves | apply State.wr_evolves | apply State.modFab_evolves
        | apply State.remember_evolves | apply State.setRoute_evolves | apply Evolves.ite | apply Evolves.foldl
    | exact mask_trans (by decide) hm
    | exact mask_bit hm (by decide)
    | fail_if_no_progress beta_reduce
    | split
    | fail_if_no_progress with_reducible apply Evolves.parts
    | exact Or.inl (by with_reducible rfl)
    | exact mask_part hm (by decide)

theorem execEnumAssign_goes {s : State} (a0 a1 a2 a3 a4 a5) (h : Evolves M o s)
    (hm : 0x4000050000000f7ea0013080000000000c00000000000000000000000000000000000000000000000000000000000017090 &&& M = 0x4000050000000f7ea0013080000000000c00000000000000000000000000000000000000000000000000000000000017090) :
    Goes M o (execEnumAssign a0 a1 a2 a3 a4 a5 s) := by
  unfold execEnumAssign
  try dsimp only
  repeat' first
    | (intro _)
    | with_reducible first
        | assumption | apply Goes.next | apply State.sendOn_evolves | apply State.blockPort_evolves
        | apply State.takeAssign_evolves | apply State.exploreFrom_evolves | apply State.restored_evolves
        | apply State.wr_evolves | apply Evolves.ite | apply Evolves.foldl
    | exact mask_trans (by decide) hm
    | exact mask_bit hm (by decide)
    | fail_if_no_progress beta_reduce
    | split
    | fail_if_no_progress with_reducible apply Evolves.parts
    | exact Or.inl (by with_reducible rfl)
    | exact mask_part hm (by decide)

theorem execEnumBusy_goes {s : State} (a0 a1) (h : Evolves M o s)
    (hm : 0x2000 &&& M = 0x2000) :
    Goes M o (execEnumBusy a0 a1 s) := by
  unfold execEnumBusy
  try dsimp only
  repeat' first
    | (intro _)
    | with_reducible first
        | assumption | apply Goes.next | apply State.modFab_evolves | apply Evolves.ite | apply Evolves.foldl
    | exact mask_trans (by decide) hm
    | exact mask_bit hm (by decide)
    | fail_if_no_progress beta_reduce
    | split
    | fail_if_no_progress with_reducible apply Evolves.parts
    | exact Or.inl (by with_reducible rfl)
    | exact mask_part hm (by decide)

theorem execEnumDone_goes {s : State} (a0 a1 a2 a3) (h : Evolves M o s)
    (hm : 0x4000050000000f3e20013080000000000c00000000000000000000000000000000000000000000000000000000000017090 &&& M = 0x4000050000000f3e20013080000000000c00000000000000000000000000000000000000000000000000000000000017090) :
    Goes M o (execEnumDone a0 a1 a2 a3 s) := by
  unfold execEnumDone
  try dsimp only
  repeat' first
    | (intro _)
    | with_reducible first
        | assumption | apply Goes.next | apply State.remember_evolves | apply State.setRoute_evolves
        | apply State.exploreAfter_evolves | apply State.showPtpRoles_evolves | apply Evolves.ite
        | apply Evolves.foldl
    | exact mask_trans (by decide) hm
    | exact mask_bit hm (by decide)
    | fail_if_no_progress beta_reduce
    | split
    | fail_if_no_progress with_reducible apply Evolves.parts
    | exact Or.inl (by with_reducible rfl)
    | exact mask_part hm (by decide)

theorem execEnumAssignTimeout_goes {s : State} (a0) (h : Evolves M o s)
    (hm : 0x4000050000000f3e20013080000000000c00000000000000000000000000000000000000000000000000000000000017090 &&& M = 0x4000050000000f3e20013080000000000c00000000000000000000000000000000000000000000000000000000000017090) :
    Goes M o (execEnumAssignTimeout a0 s) := by
  unfold execEnumAssignTimeout
  try dsimp only
  repeat' first
    | (intro _)
    | with_reducible first
        | assumption | apply Goes.next | apply State.exploreAfter_evolves | apply State.setRoute_evolves
        | apply Evolves.ite | apply Evolves.foldl
    | exact mask_trans (by decide) hm
    | exact mask_bit hm (by decide)
    | fail_if_no_progress beta_reduce
    | split
    | fail_if_no_progress with_reducible apply Evolves.parts
    | exact Or.inl (by with_reducible rfl)
    | exact mask_part hm (by decide)

theorem execEnumReport_goes {s : State} (a0 a1) (h : Evolves M o s)
    (hm : 0x4000050000000f3e20013080000000000c00000000000000000000000000000000000000000000000000000000000017090 &&& M = 0x4000050000000f3e20013080000000000c00000000000000000000000000000000000000000000000000000000000017090) :
    Goes M o (execEnumReport a0 a1 s) := by
  unfold execEnumReport
  try dsimp only
  repeat' first
    | (intro _)
    | with_reducible first
        | assumption | apply Goes.next | apply State.tryComplete_evolves | apply State.modFab_evolves
        | apply Evolves.ite | apply Evolves.foldl
    | exact mask_trans (by decide) hm
    | exact mask_bit hm (by decide)
    | fail_if_no_progress beta_reduce
    | split
    | fail_if_no_progress with_reducible apply Evolves.parts
    | exact Or.inl (by with_reducible rfl)
    | exact mask_part hm (by decide)

theorem execEnumComplete_goes {s : State} (a0 a1 a2 a3 a4) (h : Evolves M o s)
    (hm : 0xf6420003080000000000c24000c00000000000000000000000000000000000000000000000000000012880 &&& M = 0xf6420003080000000000c24000c00000000000000000000000000000000000000000000000000000012880) :
    Goes M o (execEnumComplete a0 a1 a2 a3 a4 s) := by
  unfold execEnumComplete
  try dsimp only
  repeat' first
    | (intro _)
    | with_reducible first
        | assumption | apply Goes.next | apply State.wr_evolves | apply State.modFab_evolves
        | apply State.showCut_evolves | apply State.wrBit_evolves | apply State.setRingRoutes_evolves
        | apply State.rejoinFabric_evolves | apply State.rewire_evolves | apply Evolves.ite | apply Evolves.foldl
    | exact mask_trans (by decide) hm
    | exact mask_bit hm (by decide)
    | fail_if_no_progress beta_reduce
    | split
    | fail_if_no_progress with_reducible apply Evolves.parts
    | exact Or.inl (by with_reducible rfl)
    | exact mask_part hm (by decide)

theorem execWrapReceived_goes {s : State} (a0 a1 a2 a3) (h : Evolves M o s)
    (hm : 0x50080001b0020013080000000000c24000c00000000000000000000000000000000000000000000000000000017880 &&& M = 0x50080001b0020013080000000000c24000c00000000000000000000000000000000000000000000000000000017880) :
    Goes M o (execWrapReceived a0 a1 a2 a3 s) := by
  unfold execWrapReceived
  try dsimp only
  repeat' first
    | (intro _)
    | with_reducible first
        | assumption | apply Goes.next | apply State.adoptCut_evolves | apply Evolves.ite | apply Evolves.foldl
    | exact mask_trans (by decide) hm
    | exact mask_bit hm (by decide)
    | fail_if_no_progress beta_reduce
    | split
    | fail_if_no_progress with_reducible apply Evolves.parts
    | exact Or.inl (by with_reducible rfl)
    | exact mask_part hm (by decide)

/-! ## Remote -/

theorem State.sendRequest_evolves {s : State} (a1) (h : Evolves M o s)
    (hm : 0x5000000000000010000000000000000000000000000000000000000000000000000000000000000000000000007000 &&& M = 0x5000000000000010000000000000000000000000000000000000000000000000000000000000000000000000007000) :
    Evolves M o (State.sendRequest s a1) := by
  unfold State.sendRequest
  try dsimp only
  repeat' first
    | (intro _)
    | with_reducible first
        | assumption | apply State.sendTo_evolves | apply Evolves.ite | apply Evolves.foldl
    | exact mask_trans (by decide) hm
    | exact mask_bit hm (by decide)
    | fail_if_no_progress beta_reduce
    | split
    | fail_if_no_progress with_reducible apply Evolves.parts
    | exact Or.inl (by with_reducible rfl)
    | exact mask_part hm (by decide)

theorem execRemote_goes {s : State} (a0 a1 a2 a3 a4 a5 a6) (h : Evolves M o s)
    (hm : 0x400005000000000000010000000000000000000000000000000000000000000000000000000000000000000000000007050 &&& M = 0x400005000000000000010000000000000000000000000000000000000000000000000000000000000000000000000007050) :
    Goes M o (execRemote a0 a1 a2 a3 a4 a5 a6 s) := by
  unfold execRemote
  try dsimp only
  repeat' first
    | (intro _)
    | with_reducible first
        | assumption | apply Goes.next | apply State.checked_evolves | apply State.entered_evolves
        | apply State.sendRequest_evolves | apply State.modFab_evolves | apply Evolves.ite | apply Evolves.foldl
    | exact mask_trans (by decide) hm
    | exact mask_bit hm (by decide)
    | fail_if_no_progress beta_reduce
    | split
    | fail_if_no_progress with_reducible apply Evolves.parts
    | exact Or.inl (by with_reducible rfl)
    | exact mask_part hm (by decide)

theorem State.modOut_evolves {s : State} (a1 a2 a3) (h : Evolves M o s)
    (hm : 0x2000 &&& M = 0x2000) :
    Evolves M o (State.modOut s a1 a2 a3) := by
  unfold State.modOut
  try dsimp only
  repeat' first
    | (intro _)
    | with_reducible first
        | assumption | apply State.modFab_evolves | apply Evolves.ite | apply Evolves.foldl
    | exact mask_trans (by decide) hm
    | exact mask_bit hm (by decide)
    | fail_if_no_progress beta_reduce
    | split
    | fail_if_no_progress with_reducible apply Evolves.parts
    | exact Or.inl (by with_reducible rfl)
    | exact mask_part hm (by decide)

theorem State.endOut_evolves {s : State} (a1 a2) (h : Evolves M o s)
    (hm : 0x400000000000000000000000000000000000000000000000000000000000000000000000000000000000000000000002010 &&& M = 0x400000000000000000000000000000000000000000000000000000000000000000000000000000000000000000000002010) :
    Evolves M o (State.endOut s a1 a2) := by
  unfold State.endOut
  try dsimp only
  repeat' first
    | (intro _)
    | with_reducible first
        | assumption | apply State.finish_evolves | apply State.modFab_evolves | apply Evolves.ite
        | apply Evolves.foldl
    | exact mask_trans (by decide) hm
    | exact mask_bit hm (by decide)
    | fail_if_no_progress beta_reduce
    | split
    | fail_if_no_progress with_reducible apply Evolves.parts
    | exact Or.inl (by with_reducible rfl)
    | exact mask_part hm (by decide)

theorem execRemoteAck_goes {s : State} (a0 a1) (h : Evolves M o s)
    (hm : 0x400000000000000000000000000000000000000000000000000000000000000000000000000000000000000000000002010 &&& M = 0x400000000000000000000000000000000000000000000000000000000000000000000000000000000000000000000002010) :
    Goes M o (execRemoteAck a0 a1 s) := by
  unfold execRemoteAck
  try dsimp only
  repeat' first
    | (intro _)
    | with_reducible first
        | assumption | apply Goes.next | apply State.effect_evolves | apply State.modOut_evolves | apply Evolves.ite
        | apply Evolves.foldl
    | exact mask_trans (by decide) hm
    | exact mask_bit hm (by decide)
    | fail_if_no_progress beta_reduce
    | split
    | fail_if_no_progress with_reducible apply Evolves.parts
    | exact Or.inl (by with_reducible rfl)
    | exact mask_part hm (by decide)

theorem execRemoteResponse_goes {s : State} (a0 a1 a2 a3 a4) (h : Evolves M o s)
    (hm : 0x400005000000000000010000000000000000000000000000000000000000000000000000000000000000000000000017050 &&& M = 0x400005000000000000010000000000000000000000000000000000000000000000000000000000000000000000000017050) :
    Goes M o (execRemoteResponse a0 a1 a2 a3 a4 s) := by
  unfold execRemoteResponse
  try dsimp only
  repeat' first
    | (intro _)
    | with_reducible first
        | assumption | apply Goes.next | apply State.sendTo_evolves | apply State.endOut_evolves
        | apply State.toHost_evolves | apply Evolves.ite | apply Evolves.foldl
    | exact mask_trans (by decide) hm
    | exact mask_bit hm (by decide)
    | fail_if_no_progress beta_reduce
    | split
    | fail_if_no_progress with_reducible apply Evolves.parts
    | exact Or.inl (by with_reducible rfl)
    | exact mask_part hm (by decide)

theorem execRemoteExecTimeout_goes {s : State} (a0 a1) (h : Evolves M o s)
    (hm : 0x400000000000000000000000000000000000000000000000000000000000000000000000000000000000000000000002010 &&& M = 0x400000000000000000000000000000000000000000000000000000000000000000000000000000000000000000000002010) :
    Goes M o (execRemoteExecTimeout a0 a1 s) := by
  unfold execRemoteExecTimeout
  try dsimp only
  repeat' first
    | (intro _)
    | with_reducible first
        | assumption | apply Goes.next | apply State.endOut_evolves | apply Evolves.ite | apply Evolves.foldl
    | exact mask_trans (by decide) hm
    | exact mask_bit hm (by decide)
    | fail_if_no_progress beta_reduce
    | split
    | fail_if_no_progress with_reducible apply Evolves.parts
    | exact Or.inl (by with_reducible rfl)
    | exact mask_part hm (by decide)

theorem State.ackRequest_evolves {s : State} (a1 a2 a3) (h : Evolves M o s)
    (hm : 0x5000000000000010000000000000000000000000000000000000000000000000000000000000000000000000007000 &&& M = 0x5000000000000010000000000000000000000000000000000000000000000000000000000000000000000000007000) :
    Evolves M o (State.ackRequest s a1 a2 a3) := by
  unfold State.ackRequest
  try dsimp only
  repeat' first
    | (intro _)
    | with_reducible first
        | assumption | apply State.sendTo_evolves | apply Evolves.ite | apply Evolves.foldl
    | exact mask_trans (by decide) hm
    | exact mask_bit hm (by decide)
    | fail_if_no_progress beta_reduce
    | split
    | fail_if_no_progress with_reducible apply Evolves.parts
    | exact Or.inl (by with_reducible rfl)
    | exact mask_part hm (by decide)

theorem State.sendResponse_evolves {s : State} (a1) (h : Evolves M o s)
    (hm : 0x5000000000000010000000000000000000000000000000000000000000000000000000000000000000000000007000 &&& M = 0x5000000000000010000000000000000000000000000000000000000000000000000000000000000000000000007000) :
    Evolves M o (State.sendResponse s a1) := by
  unfold State.sendResponse
  try dsimp only
  repeat' first
    | (intro _)
    | with_reducible first
        | assumption | apply State.sendTo_evolves | apply Evolves.ite | apply Evolves.foldl
    | exact mask_trans (by decide) hm
    | exact mask_bit hm (by decide)
    | fail_if_no_progress beta_reduce
    | split
    | fail_if_no_progress with_reducible apply Evolves.parts
    | exact Or.inl (by with_reducible rfl)
    | exact mask_part hm (by decide)

theorem execRemoteRequest_goes {s : State} (a0 a1 a2 a3 a4 a5) (h : Evolves M o s)
    (hm : 0x400005000000000000010000000000000000000000000000000000000000000000000000000000000000000000000007010 &&& M = 0x400005000000000000010000000000000000000000000000000000000000000000000000000000000000000000000007010) :
    Goes M o (execRemoteRequest a0 a1 a2 a3 a4 a5 s) := by
  unfold execRemoteRequest
  try dsimp only
  repeat' first
    | (intro _)
    | with_reducible first
        | assumption | apply Goes.next | apply State.modFab_evolves | apply State.ackRequest_evolves
        | apply State.sendResponse_evolves | apply State.modMb_evolves | apply Evolves.ite | apply Evolves.foldl
    | exact mask_trans (by decide) hm
    | exact mask_bit hm (by decide)
    | fail_if_no_progress beta_reduce
    | split
    | fail_if_no_progress with_reducible apply Evolves.parts
    | exact Or.inl (by with_reducible rfl)
    | exact mask_part hm (by decide)

theorem execRemoteResponseAck_goes {s : State} (a0 a1) (h : Evolves M o s)
    (hm : 0x2000 &&& M = 0x2000) :
    Goes M o (execRemoteResponseAck a0 a1 s) := by
  unfold execRemoteResponseAck
  try dsimp only
  repeat' first
    | (intro _)
    | with_reducible first
        | assumption | apply Goes.next | apply State.modFab_evolves | apply Evolves.ite | apply Evolves.foldl
    | exact mask_trans (by decide) hm
    | exact mask_bit hm (by decide)
    | fail_if_no_progress beta_reduce
    | split
    | fail_if_no_progress with_reducible apply Evolves.parts
    | exact Or.inl (by with_reducible rfl)
    | exact mask_part hm (by decide)

theorem execRemoteAckTimeout_goes {s : State} (a0 a1 a2) (h : Evolves M o s)
    (hm : 0x400005000000000000010000000000000000000000000000000000000000000000000000000000000000000000000007010 &&& M = 0x400005000000000000010000000000000000000000000000000000000000000000000000000000000000000000000007010) :
    Goes M o (execRemoteAckTimeout a0 a1 a2 s) := by
  unfold execRemoteAckTimeout
  try dsimp only
  repeat' first
    | (intro _)
    | with_reducible first
        | assumption | apply Goes.next | apply State.sendResponse_evolves | apply State.modFab_evolves
        | apply State.sendRequest_evolves | apply State.modOut_evolves | apply State.endOut_evolves
        | apply Evolves.ite | apply Evolves.foldl
    | exact mask_trans (by decide) hm
    | exact mask_bit hm (by decide)
    | fail_if_no_progress beta_reduce
    | split
    | fail_if_no_progress with_reducible apply Evolves.parts
    | exact Or.inl (by with_reducible rfl)
    | exact mask_part hm (by decide)

/-! ## BootOps -/

theorem State.modBoot_evolves {s : State} (a1) (h : Evolves M o s)
    (hm : 0x400 &&& M = 0x400) :
    Evolves M o (State.modBoot s a1) := by
  unfold State.modBoot
  try dsimp only
  repeat' first
    | (intro _)
    | with_reducible first
        | assumption | apply Evolves.ite | apply Evolves.foldl
    | exact mask_trans (by decide) hm
    | exact mask_bit hm (by decide)
    | fail_if_no_progress beta_reduce
    | split
    | fail_if_no_progress with_reducible apply Evolves.parts
    | exact Or.inl (by with_reducible rfl)
    | exact mask_part hm (by decide)

theorem State.showStaged_evolves {s : State} (h : Evolves M o s)
    (hm : 0x840000000000000000000000000000000000000000000000000000000000000000000000000000000000000000000000000000000000000000000000000000000 &&& M = 0x840000000000000000000000000000000000000000000000000000000000000000000000000000000000000000000000000000000000000000000000000000000) :
    Evolves M o (State.showStaged s) := by
  unfold State.showStaged
  try dsimp only
  repeat' first
    | (intro _)
    | with_reducible first
        | assumption | apply State.wr_evolves | apply State.wrBit_evolves | apply Evolves.ite | apply Evolves.foldl
    | exact mask_trans (by decide) hm
    | exact mask_bit hm (by decide)
    | fail_if_no_progress beta_reduce
    | split
    | fail_if_no_progress with_reducible apply Evolves.parts
    | exact Or.inl (by with_reducible rfl)
    | exact mask_part hm (by decide)

theorem State.showStaging_evolves {s : State} (h : Evolves M o s)
    (hm : 0x80000000000000000000000000000000000000000000000000000000000000000000000000000000000000000000000000000000000000000000000000000000 &&& M = 0x80000000000000000000000000000000000000000000000000000000000000000000000000000000000000000000000000000000000000000000000000000000) :
    Evolves M o (State.showStaging s) := by
  unfold State.showStaging
  try dsimp only
  repeat' first
    | (intro _)
    | with_reducible first
        | assumption | apply State.wrBit_evolves | apply Evolves.ite | apply Evolves.foldl
    | exact mask_trans (by decide) hm
    | exact mask_bit hm (by decide)
    | fail_if_no_progress beta_reduce
    | split
    | fail_if_no_progress with_reducible apply Evolves.parts
    | exact Or.inl (by with_reducible rfl)
    | exact mask_part hm (by decide)

theorem State.showCheck_evolves {s : State} (a1) (h : Evolves M o s)
    (hm : 0x700080 &&& M = 0x700080) :
    Evolves M o (State.showCheck s a1) := by
  unfold State.showCheck
  try dsimp only
  repeat' first
    | (intro _)
    | with_reducible first
        | assumption | apply State.wr_evolves | apply State.report_evolves | apply Evolves.ite | apply Evolves.foldl
    | exact mask_trans (by decide) hm
    | exact mask_bit hm (by decide)
    | fail_if_no_progress beta_reduce
    | split
    | fail_if_no_progress with_reducible apply Evolves.parts
    | exact Or.inl (by with_reducible rfl)
    | exact mask_part hm (by decide)

theorem State.showMap_evolves {s : State} (h : Evolves M o s)
    (hm : 0x8e0000 &&& M = 0x8e0000) :
    Evolves M o (State.showMap s) := by
  unfold State.showMap
  try dsimp only
  repeat' first
    | (intro _)
    | with_reducible first
        | assumption | apply State.wr_evolves | apply State.wrBit_evolves | apply Evolves.ite | apply Evolves.foldl
    | exact mask_trans (by decide) hm
    | exact mask_bit hm (by decide)
    | fail_if_no_progress beta_reduce
    | split
    | fail_if_no_progress with_reducible apply Evolves.parts
    | exact Or.inl (by with_reducible rfl)
    | exact mask_part hm (by decide)

theorem State.loadMapSettings_evolves {s : State} (h : Evolves M o s)
    (hm : 0x24000001c1000082 &&& M = 0x24000001c1000082) :
    Evolves M o (State.loadMapSettings s) := by
  unfold State.loadMapSettings
  try dsimp only
  repeat' first
    | (intro _)
    | with_reducible first
        | assumption | apply State.loadMons_evolves | apply State.loadRanges_evolves | apply Evolves.ite
        | apply Evolves.foldl
    | exact mask_trans (by decide) hm
    | exact mask_bit hm (by decide)
    | fail_if_no_progress beta_reduce
    | split
    | fail_if_no_progress with_reducible apply Evolves.parts
    | exact Or.inl (by with_reducible rfl)
    | exact mask_part hm (by decide)

theorem State.loadMap_evolves {s : State} (a1) (h : Evolves M o s)
    (hm : 0xfe0481 &&& M = 0xfe0481) :
    Evolves M o (State.loadMap s a1) := by
  unfold State.loadMap
  try dsimp only
  repeat' first
    | (intro _)
    | with_reducible first
        | assumption | apply State.showMap_evolves | apply State.report_evolves | apply State.showCheck_evolves
        | apply State.extend_evolves | apply Evolves.ite | apply Evolves.foldl
    | exact mask_trans (by decide) hm
    | exact mask_bit hm (by decide)
    | fail_if_no_progress beta_reduce
    | split
    | fail_if_no_progress with_reducible apply Evolves.parts
    | exact Or.inl (by with_reducible rfl)
    | exact mask_part hm (by decide)

theorem State.putForce_evolves {s : State} (a1 a2 a3) (h : Evolves M o s)
    (hm : 0x78000000000000000000000000000000000000000000000006 &&& M = 0x78000000000000000000000000000000000000000000000006) :
    Evolves M o (State.putForce s a1 a2 a3) := by
  unfold State.putForce
  try dsimp only
  repeat' first
    | (intro _)
    | with_reducible first
        | assumption | apply State.modTrv_evolves | apply State.showForce_evolves | apply State.modEl_evolves
        | apply Evolves.ite | apply Evolves.foldl
    | exact mask_trans (by decide) hm
    | exact mask_bit hm (by decide)
    | fail_if_no_progress beta_reduce
    | split
    | fail_if_no_progress with_reducible apply Evolves.parts
    | exact Or.inl (by with_reducible rfl)
    | exact mask_part hm (by decide)

theorem State.startForce_evolves {s : State} (h : Evolves M o s)
    (hm : 0x78400000000000000000000000000000000000000000000006 &&& M = 0x78400000000000000000000000000000000000000000000006) :
    Evolves M o (State.startForce s) := by
  unfold State.startForce
  try dsimp only
  repeat' first
    | (intro _)
    | with_reducible first
        | assumption | apply State.wrBit_evolves | apply State.putForce_evolves | apply Evolves.ite
        | apply Evolves.foldl
    | exact mask_trans (by decide) hm
    | exact mask_bit hm (by decide)
    | fail_if_no_progress beta_reduce
    | split
    | fail_if_no_progress with_reducible apply Evolves.parts
    | exact Or.inl (by with_reducible rfl)
    | exact mask_part hm (by decide)

theorem State.stageFw_evolves {s : State} (a1) (h : Evolves M o s)
    (hm : 0x841000000000000000000000000000000000000000000000000000000000000000000000000000000000000000000000000000000000000000000000000000400 &&& M = 0x841000000000000000000000000000000000000000000000000000000000000000000000000000000000000000000000000000000000000000000000000000400) :
    Evolves M o (State.stageFw s a1).1 := by
  unfold State.stageFw
  try dsimp only
  repeat' first
    | (intro _)
    | with_reducible first
        | assumption | apply State.countRefused_evolves | apply State.showStaged_evolves
        | apply State.modBoot_evolves | apply Evolves.ite | apply Evolves.foldl
    | exact mask_trans (by decide) hm
    | exact mask_bit hm (by decide)
    | fail_if_no_progress beta_reduce
    | split
    | fail_if_no_progress with_reducible apply Evolves.parts
    | exact Or.inl (by with_reducible rfl)
    | exact mask_part hm (by decide)

theorem State.stageMap_evolves {s : State} (a1) (h : Evolves M o s)
    (hm : 0x1000000000000000000000000000000000000000000000000000000000000000000000000000000000000000000000000000000000000000000000000fe0081 &&& M = 0x1000000000000000000000000000000000000000000000000000000000000000000000000000000000000000000000000000000000000000000000000fe0081) :
    Evolves M o (State.stageMap s a1).1 := by
  unfold State.stageMap
  try dsimp only
  repeat' first
    | (intro _)
    | with_reducible first
        | assumption | apply State.showCheck_evolves | apply State.countRefused_evolves | apply State.showMap_evolves
        | apply Evolves.ite | apply Evolves.foldl
    | exact mask_trans (by decide) hm
    | exact mask_bit hm (by decide)
    | fail_if_no_progress beta_reduce
    | split
    | fail_if_no_progress with_reducible apply Evolves.parts
    | exact Or.inl (by with_reducible rfl)
    | exact mask_part hm (by decide)

theorem State.stage_evolves {s : State} (a1 a2) (h : Evolves M o s)
    (hm : 0x841000000000000000000000000000000000000000000000000000000000000000000000000000000000000000000000000000000000000000000000000fe0481 &&& M = 0x841000000000000000000000000000000000000000000000000000000000000000000000000000000000000000000000000000000000000000000000000fe0481) :
    Evolves M o (State.stage s a1 a2).1 := by
  unfold State.stage
  try dsimp only
  repeat' first
    | (intro _)
    | with_reducible first
        | assumption | apply State.stageFw_evolves | apply State.stageMap_evolves | apply Evolves.ite
        | apply Evolves.foldl
    | exact mask_trans (by decide) hm
    | exact mask_bit hm (by decide)
    | fail_if_no_progress beta_reduce
    | split
    | fail_if_no_progress with_reducible apply Evolves.parts
    | exact Or.inl (by with_reducible rfl)
    | exact mask_part hm (by decide)

theorem State.sendBulk_evolves {s : State} (x a k) (h : Evolves M o s)
    (hm : 0x5000000000000010000000000000000000000000000000000000000000000000000000000000000000000000007000 &&& M = 0x5000000000000010000000000000000000000000000000000000000000000000000000000000000000000000007000) :
    Evolves M o (State.sendBulk s x a k) := by
  induction k generalizing s a with
  | zero =>
    unfold State.sendBulk
    try dsimp only
    repeat' first
      | (intro _)
      | with_reducible first
          | assumption | apply State.send_evolves | apply Evolves.ite | apply Evolves.foldl
      | exact mask_trans (by decide) hm
      | exact mask_bit hm (by decide)
      | fail_if_no_progress beta_reduce
      | split
      | fail_if_no_progress with_reducible apply Evolves.parts
      | exact Or.inl (by with_reducible rfl)
      | exact mask_part hm (by decide)
  | succ k ih =>
    unfold State.sendBulk
    try dsimp only
    repeat' first
      | (intro _)
      | with_reducible first
          | assumption | apply ih | apply State.send_evolves | apply Evolves.ite | apply Evolves.foldl
      | exact mask_trans (by decide) hm
      | exact mask_bit hm (by decide)
      | fail_if_no_progress beta_reduce
      | split
      | fail_if_no_progress with_reducible apply Evolves.parts
      | exact Or.inl (by with_reducible rfl)
      | exact mask_part hm (by decide)

theorem State.sendBulkReply_evolves {s : State} (a1 a2 a3) (h : Evolves M o s)
    (hm : 0x5000000000000010000000000000000000000000000000000000000000000000000000000000000000000000007000 &&& M = 0x5000000000000010000000000000000000000000000000000000000000000000000000000000000000000000007000) :
    Evolves M o (State.sendBulkReply s a1 a2 a3) := by
  unfold State.sendBulkReply
  try dsimp only
  repeat' first
    | (intro _)
    | with_reducible first
        | assumption | apply State.send_evolves | apply Evolves.ite | apply Evolves.foldl
    | exact mask_trans (by decide) hm
    | exact mask_bit hm (by decide)
    | fail_if_no_progress beta_reduce
    | split
    | fail_if_no_progress with_reducible apply Evolves.parts
    | exact Or.inl (by with_reducible rfl)
    | exact mask_part hm (by decide)

/-! ## Hmode -/

theorem State.runPeriod_evolves {s : State} (a1 a2 a3 a4 a5) (h : Evolves M o s)
    (hm : 0x180000000000000000000000002 &&& M = 0x180000000000000000000000002) :
    Evolves M o (State.runPeriod s a1 a2 a3 a4 a5) := by
  unfold State.runPeriod
  try dsimp only
  repeat' first
    | (intro _)
    | with_reducible first
        | assumption | apply State.wr_evolves | apply State.modHc_evolves | apply Evolves.ite | apply Evolves.foldl
    | exact mask_trans (by decide) hm
    | exact mask_bit hm (by decide)
    | fail_if_no_progress beta_reduce
    | split
    | fail_if_no_progress with_reducible apply Evolves.parts
    | exact Or.inl (by with_reducible rfl)
    | exact mask_part hm (by decide)

theorem State.showBlk_evolves {s : State} (a1 a2) (h : Evolves M o s)
    (hm : 0x20000000000000000000000000 &&& M = 0x20000000000000000000000000) :
    Evolves M o (State.showBlk s a1 a2) := by
  unfold State.showBlk
  try dsimp only
  repeat' first
    | (intro _)
    | with_reducible first
        | assumption | apply State.wrBit_evolves | apply Evolves.ite | apply Evolves.foldl
    | exact mask_trans (by decide) hm
    | exact mask_bit hm (by decide)
    | fail_if_no_progress beta_reduce
    | split
    | fail_if_no_progress with_reducible apply Evolves.parts
    | exact Or.inl (by with_reducible rfl)
    | exact mask_part hm (by decide)

theorem State.loopPeriod_evolves {s : State} (a1 a2) (h : Evolves M o s)
    (hm : 0x19c000000000000000000000002 &&& M = 0x19c000000000000000000000002) :
    Evolves M o (State.loopPeriod s a1 a2) := by
  unfold State.loopPeriod
  try dsimp only
  repeat' first
    | (intro _)
    | with_reducible first
        | assumption | apply State.modHc_evolves | apply State.wrBit_evolves | apply State.runPeriod_evolves
        | apply Evolves.ite | apply Evolves.foldl
    | exact mask_trans (by decide) hm
    | exact mask_bit hm (by decide)
    | fail_if_no_progress beta_reduce
    | split
    | fail_if_no_progress with_reducible apply Evolves.parts
    | exact Or.inl (by with_reducible rfl)
    | exact mask_part hm (by decide)

theorem State.directPeriod_evolves {s : State} (a1) (h : Evolves M o s)
    (hm : 0x19c000000000000000000000002 &&& M = 0x19c000000000000000000000002) :
    Evolves M o (State.directPeriod s a1) := by
  unfold State.directPeriod
  try dsimp only
  repeat' first
    | (intro _)
    | with_reducible first
        | assumption | apply State.modHc_evolves | apply State.wrBit_evolves | apply State.runPeriod_evolves
        | apply Evolves.ite | apply Evolves.foldl
    | exact mask_trans (by decide) hm
    | exact mask_bit hm (by decide)
    | fail_if_no_progress beta_reduce
    | split
    | fail_if_no_progress with_reducible apply Evolves.parts
    | exact Or.inl (by with_reducible rfl)
    | exact mask_part hm (by decide)

theorem State.idlePeriod_evolves {s : State} (a1) (h : Evolves M o s)
    (hm : 0x184000000000000000000000002 &&& M = 0x184000000000000000000000002) :
    Evolves M o (State.idlePeriod s a1) := by
  unfold State.idlePeriod
  try dsimp only
  repeat' first
    | (intro _)
    | with_reducible first
        | assumption | apply State.modHc_evolves | apply State.wr_evolves | apply State.wrBit_evolves
        | apply Evolves.ite | apply Evolves.foldl
    | exact mask_trans (by decide) hm
    | exact mask_bit hm (by decide)
    | fail_if_no_progress beta_reduce
    | split
    | fail_if_no_progress with_reducible apply Evolves.parts
    | exact Or.inl (by with_reducible rfl)
    | exact mask_part hm (by decide)

theorem execHmodePeriodBoundary_goes {s : State} (a0 a1 a2) (h : Evolves M o s)
    (hm : 0x1fc400000000000000000000002 &&& M = 0x1fc400000000000000000000002) :
    Goes M o (execHmodePeriodBoundary a0 a1 a2 s) := by
  unfold execHmodePeriodBoundary
  try dsimp only
  repeat' first
    | (intro _)
    | with_reducible first
        | assumption | apply Goes.next | apply State.modHc_evolves | apply State.showBlk_evolves
        | apply State.wr_evolves | apply State.idlePeriod_evolves | apply State.directPeriod_evolves
        | apply State.loopPeriod_evolves | apply Evolves.ite | apply Evolves.foldl
    | exact mask_trans (by decide) hm
    | exact mask_bit hm (by decide)
    | fail_if_no_progress beta_reduce
    | split
    | fail_if_no_progress with_reducible apply Evolves.parts
    | exact Or.inl (by with_reducible rfl)
    | exact mask_part hm (by decide)

theorem execHpwmSrcWrite_goes {s : State} (a0 a1) (h : Evolves M o s)
    (hm : 0x388000000000000000000082 &&& M = 0x388000000000000000000082) :
    Goes M o (execHpwmSrcWrite a0 a1 s) := by
  unfold execHpwmSrcWrite
  try dsimp only
  repeat' first
    | (intro _)
    | with_reducible first
        | assumption | apply Goes.next | apply State.expertWrite_evolves | apply State.wrBit_evolves
        | apply State.wr_evolves | apply State.modHc_evolves | apply Evolves.ite | apply Evolves.foldl
    | exact mask_trans (by decide) hm
    | exact mask_bit hm (by decide)
    | fail_if_no_progress beta_reduce
    | split
    | fail_if_no_progress with_reducible apply Evolves.parts
    | exact Or.inl (by with_reducible rfl)
    | exact mask_part hm (by decide)

theorem execPcommitWrite_goes {s : State} (a0) (h : Evolves M o s)
    (hm : 0x20000000000000000000000 &&& M = 0x20000000000000000000000) :
    Goes M o (execPcommitWrite a0 s) := by
  unfold execPcommitWrite
  try dsimp only
  repeat' first
    | (intro _)
    | with_reducible first
        | assumption | apply Goes.next | apply State.wrBit_evolves | apply Evolves.ite | apply Evolves.foldl
    | exact mask_trans (by decide) hm
    | exact mask_bit hm (by decide)
    | fail_if_no_progress beta_reduce
    | split
    | fail_if_no_progress with_reducible apply Evolves.parts
    | exact Or.inl (by with_reducible rfl)
    | exact mask_part hm (by decide)

theorem State.transfer_evolves {s : State} (a1 a2) (h : Evolves M o s)
    (hm : 0x400000000000000000000002 &&& M = 0x400000000000000000000002) :
    Evolves M o (State.transfer s a1 a2) := by
  unfold State.transfer
  try dsimp only
  repeat' first
    | (intro _)
    | with_reducible first
        | assumption | apply State.wr_evolves | apply State.modHc_evolves | apply Evolves.ite | apply Evolves.foldl
    | exact mask_trans (by decide) hm
    | exact mask_bit hm (by decide)
    | fail_if_no_progress beta_reduce
    | split
    | fail_if_no_progress with_reducible apply Evolves.parts
    | exact Or.inl (by with_reducible rfl)
    | exact mask_part hm (by decide)

theorem execShadowTransfer_goes {s : State} (a0 a1) (h : Evolves M o s)
    (hm : 0x420000000000000000000002 &&& M = 0x420000000000000000000002) :
    Goes M o (execShadowTransfer a0 a1 s) := by
  unfold execShadowTransfer
  try dsimp only
  repeat' first
    | (intro _)
    | with_reducible first
        | assumption | apply Goes.next | apply State.transfer_evolves | apply State.modHc_evolves
        | apply State.wrBit_evolves | apply Evolves.ite | apply Evolves.foldl
    | exact mask_trans (by decide) hm
    | exact mask_bit hm (by decide)
    | fail_if_no_progress beta_reduce
    | split
    | fail_if_no_progress with_reducible apply Evolves.parts
    | exact Or.inl (by with_reducible rfl)
    | exact mask_part hm (by decide)

theorem State.hProtect_evolves {s : State} (a1 a2 a3 a4) (h : Evolves M o s) (hb2 : M.testBit (17 + (a2 : Fid).ctorIdx) = true)
    (hm : 0x4000050000000000000100000000000000000000000000000000040000000000000000000048080000000000000000170f6 &&& M = 0x4000050000000000000100000000000000000000000000000000040000000000000000000048080000000000000000170f6) :
    Evolves M o (State.hProtect s a1 a2 a3 a4) := by
  unfold State.hProtect
  try dsimp only
  repeat' first
    | (intro _)
    | with_reducible first
        | assumption | apply State.report_evolves | apply State.setHiz_evolves | apply State.wrBit_evolves
        | apply State.loseElem_evolves | apply Evolves.ite | apply Evolves.foldl
    | exact mask_trans (by decide) hm
    | exact mask_bit hm (by decide)
    | fail_if_no_progress beta_reduce
    | split
    | fail_if_no_progress with_reducible apply Evolves.parts
    | exact Or.inl (by with_reducible rfl)
    | exact mask_part hm (by decide)

theorem execHmodeOvercurrent_goes {s : State} (a0) (h : Evolves M o s)
    (hm : 0x4000050000000000000100000000000000000000000000000000040000000000000000000058080000000000000000170f6 &&& M = 0x4000050000000000000100000000000000000000000000000000040000000000000000000058080000000000000000170f6) :
    Goes M o (execHmodeOvercurrent a0 s) := by
  unfold execHmodeOvercurrent
  try dsimp only
  repeat' first
    | (intro _)
    | with_reducible first
        | assumption | apply Goes.next | apply State.hProtect_evolves | apply Evolves.ite | apply Evolves.foldl
    | exact mask_trans (by decide) hm
    | exact mask_bit hm (by decide)
    | fail_if_no_progress beta_reduce
    | split
    | fail_if_no_progress with_reducible apply Evolves.parts
    | exact Or.inl (by with_reducible rfl)
    | exact mask_part hm (by decide)

theorem execHmodeFastTrip_goes {s : State} (a0) (h : Evolves M o s)
    (hm : 0x4000050000000000000100000000000000000000000000000000040000000000000000000058080000000000000000170f6 &&& M = 0x4000050000000000000100000000000000000000000000000000040000000000000000000058080000000000000000170f6) :
    Goes M o (execHmodeFastTrip a0 s) := by
  unfold execHmodeFastTrip
  try dsimp only
  repeat' first
    | (intro _)
    | with_reducible first
        | assumption | apply Goes.next | apply State.hProtect_evolves | apply Evolves.ite | apply Evolves.foldl
    | exact mask_trans (by decide) hm
    | exact mask_bit hm (by decide)
    | fail_if_no_progress beta_reduce
    | split
    | fail_if_no_progress with_reducible apply Evolves.parts
    | exact Or.inl (by with_reducible rfl)
    | exact mask_part hm (by decide)

theorem execHmodeLeakage_goes {s : State} (a0) (h : Evolves M o s)
    (hm : 0x4000050000000000000100000000000000000000000000000000040000000000000000000068080000000000000000170f6 &&& M = 0x4000050000000000000100000000000000000000000000000000040000000000000000000068080000000000000000170f6) :
    Goes M o (execHmodeLeakage a0 s) := by
  unfold execHmodeLeakage
  try dsimp only
  repeat' first
    | (intro _)
    | with_reducible first
        | assumption | apply Goes.next | apply State.hProtect_evolves | apply Evolves.ite | apply Evolves.foldl
    | exact mask_trans (by decide) hm
    | exact mask_bit hm (by decide)
    | fail_if_no_progress beta_reduce
    | split
    | fail_if_no_progress with_reducible apply Evolves.parts
    | exact Or.inl (by with_reducible rfl)
    | exact mask_part hm (by decide)

theorem State.clearLatches_evolves {s : State} (a1 a2 a3) (h : Evolves M o s)
    (hm : 0x7800000000000000000000002 &&& M = 0x7800000000000000000000002) :
    Evolves M o (State.clearLatches s a1 a2 a3) := by
  unfold State.clearLatches
  try dsimp only
  repeat' first
    | (intro _)
    | with_reducible first
        | assumption | apply State.wrBit_evolves | apply State.setHiz_evolves | apply State.modHc_evolves
        | apply State.modEl_evolves | apply Evolves.ite | apply Evolves.foldl
    | exact mask_trans (by decide) hm
    | exact mask_bit hm (by decide)
    | fail_if_no_progress beta_reduce
    | split
    | fail_if_no_progress with_reducible apply Evolves.parts
    | exact Or.inl (by with_reducible rfl)
    | exact mask_part hm (by decide)

theorem execHmodeOcLeakClearWrite_goes {s : State} (a0 a1 a2) (h : Evolves M o s)
    (hm : 0x7800000000000000000000002 &&& M = 0x7800000000000000000000002) :
    Goes M o (execHmodeOcLeakClearWrite a0 a1 a2 s) := by
  unfold execHmodeOcLeakClearWrite
  try dsimp only
  repeat' first
    | (intro _)
    | with_reducible first
        | assumption | apply Goes.next | apply State.clearLatches_evolves | apply Evolves.ite | apply Evolves.foldl
    | exact mask_trans (by decide) hm
    | exact mask_bit hm (by decide)
    | fail_if_no_progress beta_reduce
    | split
    | fail_if_no_progress with_reducible apply Evolves.parts
    | exact Or.inl (by with_reducible rfl)
    | exact mask_part hm (by decide)

theorem State.showInputs_evolves {s : State} (a1) (h : Evolves M o s)
    (hm : 0x10000000000000000000000000000 &&& M = 0x10000000000000000000000000000) :
    Evolves M o (State.showInputs s a1) := by
  unfold State.showInputs
  try dsimp only
  repeat' first
    | (intro _)
    | with_reducible first
        | assumption | apply State.wr_evolves | apply Evolves.ite | apply Evolves.foldl
    | exact mask_trans (by decide) hm
    | exact mask_bit hm (by decide)
    | fail_if_no_progress beta_reduce
    | split
    | fail_if_no_progress with_reducible apply Evolves.parts
    | exact Or.inl (by with_reducible rfl)
    | exact mask_part hm (by decide)

theorem State.trip_evolves {s : State} (a1 a2) (h : Evolves M o s)
    (hm : 0x40000500000000000001000000000000000000000000000000000c00000000000000000c0048000000000000000000170f2 &&& M = 0x40000500000000000001000000000000000000000000000000000c00000000000000000c0048000000000000000000170f2) :
    Evolves M o (State.trip s a1 a2) := by
  unfold State.trip
  try dsimp only
  repeat' first
    | (intro _)
    | with_reducible first
        | assumption | apply State.wr_evolves | apply State.wrBit_evolves | apply State.abandonSweeps_evolves
        | apply State.setHiz_evolves | apply State.report_evolves | apply Evolves.ite | apply Evolves.foldl
    | exact mask_trans (by decide) hm
    | exact mask_bit hm (by decide)
    | fail_if_no_progress beta_reduce
    | split
    | fail_if_no_progress with_reducible apply Evolves.parts
    | exact Or.inl (by with_reducible rfl)
    | exact mask_part hm (by decide)

theorem execTripSourceAssert_goes {s : State} (a0) (h : Evolves M o s)
    (hm : 0x40000500000000000001000000000000000000000000000000000c00000000000000001c0048000000000000000000170f2 &&& M = 0x40000500000000000001000000000000000000000000000000000c00000000000000001c0048000000000000000000170f2) :
    Goes M o (execTripSourceAssert a0 s) := by
  unfold execTripSourceAssert
  try dsimp only
  repeat' first
    | (intro _)
    | with_reducible first
        | assumption | apply Goes.next | apply State.showInputs_evolves | apply State.trip_evolves
        | apply Evolves.ite | apply Evolves.foldl
    | exact mask_trans (by decide) hm
    | exact mask_bit hm (by decide)
    | fail_if_no_progress beta_reduce
    | split
    | fail_if_no_progress with_reducible apply Evolves.parts
    | exact Or.inl (by with_reducible rfl)
    | exact mask_part hm (by decide)

theorem State.clearTrip_evolves {s : State} (a1) (h : Evolves M o s)
    (hm : 0x3c000000000000000000000000002 &&& M = 0x3c000000000000000000000000002) :
    Evolves M o (State.clearTrip s a1).1 := by
  unfold State.clearTrip
  try dsimp only
  repeat' first
    | (intro _)
    | with_reducible first
        | assumption | apply State.showInputs_evolves | apply State.sat_evolves | apply State.modCpt_evolves
        | apply State.wr_evolves | apply State.wrBit_evolves | apply Evolves.ite | apply Evolves.foldl
    | exact mask_trans (by decide) hm
    | exact mask_bit hm (by decide)
    | fail_if_no_progress beta_reduce
    | split
    | fail_if_no_progress with_reducible apply Evolves.parts
    | exact Or.inl (by with_reducible rfl)
    | exact mask_part hm (by decide)

theorem execTripClearWrite_goes {s : State} (a0) (h : Evolves M o s)
    (hm : 0x3c000000000000000000000000002 &&& M = 0x3c000000000000000000000000002) :
    Goes M o (execTripClearWrite a0 s) := by
  unfold execTripClearWrite
  try dsimp only
  repeat' first
    | (intro _)
    | with_reducible first
        | assumption | apply Goes.next | apply State.clearTrip_evolves | apply Evolves.ite | apply Evolves.foldl
    | exact mask_trans (by decide) hm
    | exact mask_bit hm (by decide)
    | fail_if_no_progress beta_reduce
    | split
    | fail_if_no_progress with_reducible apply Evolves.parts
    | exact Or.inl (by with_reducible rfl)
    | exact mask_part hm (by decide)

theorem execSwtripWrite_goes {s : State} (a0) (h : Evolves M o s)
    (hm : 0x40000500000000000001000000000000000000000000000000000c00000000000000000c0048000000000000000000170f2 &&& M = 0x40000500000000000001000000000000000000000000000000000c00000000000000000c0048000000000000000000170f2) :
    Goes M o (execSwtripWrite a0 s) := by
  unfold execSwtripWrite
  try dsimp only
  repeat' first
    | (intro _)
    | with_reducible first
        | assumption | apply Goes.next | apply State.trip_evolves | apply Evolves.ite | apply Evolves.foldl
    | exact mask_trans (by decide) hm
    | exact mask_bit hm (by decide)
    | fail_if_no_progress beta_reduce
    | split
    | fail_if_no_progress with_reducible apply Evolves.parts
    | exact Or.inl (by with_reducible rfl)
    | exact mask_part hm (by decide)

theorem State.resumeHeater_evolves {s : State} (a1) (h : Evolves M o s)
    (hm : 0x400005000000000000010000000000000000000000000000000000000000000000000000004808000009000000000017056 &&& M = 0x400005000000000000010000000000000000000000000000000000000000000000000000004808000009000000000017056) :
    Evolves M o (State.resumeHeater s a1) := by
  unfold State.resumeHeater
  try dsimp only
  repeat' first
    | (intro _)
    | with_reducible first
        | assumption | apply State.modEl_evolves | apply State.setHiz_evolves | apply State.enterSettle_evolves
        | apply State.settled_evolves | apply State.finishMove_evolves | apply State.setDuty_evolves
        | apply State.setState_evolves | apply State.park_evolves | apply Evolves.ite | apply Evolves.foldl
    | exact mask_trans (by decide) hm
    | exact mask_bit hm (by decide)
    | fail_if_no_progress beta_reduce
    | split
    | fail_if_no_progress with_reducible apply Evolves.parts
    | exact Or.inl (by with_reducible rfl)
    | exact mask_part hm (by decide)

theorem execHmodeResume_goes {s : State} (a0) (h : Evolves M o s)
    (hm : 0x400005000000000000010000000000000000000000000000000000000000000000000780004808000009000000000017056 &&& M = 0x400005000000000000010000000000000000000000000000000000000000000000000780004808000009000000000017056) :
    Goes M o (execHmodeResume a0 s) := by
  unfold execHmodeResume
  try dsimp only
  repeat' first
    | (intro _)
    | with_reducible first
        | assumption | apply Goes.next | apply State.modCpt_evolves | apply State.resnapCpt_evolves
        | apply State.powerCap_evolves | apply State.resumeHeater_evolves | apply Evolves.ite | apply Evolves.foldl
    | exact mask_trans (by decide) hm
    | exact mask_bit hm (by decide)
    | fail_if_no_progress beta_reduce
    | split
    | fail_if_no_progress with_reducible apply Evolves.parts
    | exact Or.inl (by with_reducible rfl)
    | exact mask_part hm (by decide)

/-! ## FbkOps -/

theorem State.modFbk_evolves {s : State} (a1) (h : Evolves M o s)
    (hm : 0x200 &&& M = 0x200) :
    Evolves M o (State.modFbk s a1) := by
  unfold State.modFbk
  try dsimp only
  repeat' first
    | (intro _)
    | with_reducible first
        | assumption | apply Evolves.ite | apply Evolves.foldl
    | exact mask_trans (by decide) hm
    | exact mask_bit hm (by decide)
    | fail_if_no_progress beta_reduce
    | split
    | fail_if_no_progress with_reducible apply Evolves.parts
    | exact Or.inl (by with_reducible rfl)
    | exact mask_part hm (by decide)

theorem State.showCfg_evolves {s : State} (h : Evolves M o s)
    (hm : 0x7ffe00000000000000000000000000000000000000000000000000000000000000000000000000000000000000000000000000000000000 &&& M = 0x7ffe00000000000000000000000000000000000000000000000000000000000000000000000000000000000000000000000000000000000) :
    Evolves M o (State.showCfg s) := by
  unfold State.showCfg
  try dsimp only
  repeat' first
    | (intro _)
    | with_reducible first
        | assumption | apply State.wr_evolves | apply Evolves.ite | apply Evolves.foldl
    | exact mask_trans (by decide) hm
    | exact mask_bit hm (by decide)
    | fail_if_no_progress beta_reduce
    | split
    | fail_if_no_progress with_reducible apply Evolves.parts
    | exact Or.inl (by with_reducible rfl)
    | exact mask_part hm (by decide)

theorem State.modPair_evolves {s : State} (a1 a2) (h : Evolves M o s)
    (hm : 0x200 &&& M = 0x200) :
    Evolves M o (State.modPair s a1 a2) := by
  unfold State.modPair
  try dsimp only
  repeat' first
    | (intro _)
    | with_reducible first
        | assumption | apply State.modFbk_evolves | apply Evolves.ite | apply Evolves.foldl
    | exact mask_trans (by decide) hm
    | exact mask_bit hm (by decide)
    | fail_if_no_progress beta_reduce
    | split
    | fail_if_no_progress with_reducible apply Evolves.parts
    | exact Or.inl (by with_reducible rfl)
    | exact mask_part hm (by decide)

theorem State.switchOut_evolves {s : State} (a1 a2) (h : Evolves M o s)
    (hm : 0x80000000000000000000000000000000000000000000000000000000000000000000000000000000000000000000000000000010200 &&& M = 0x80000000000000000000000000000000000000000000000000000000000000000000000000000000000000000000000000000010200) :
    Evolves M o (State.switchOut s a1 a2) := by
  unfold State.switchOut
  try dsimp only
  repeat' first
    | (intro _)
    | with_reducible first
        | assumption | apply State.modFbk_evolves | apply State.modPair_evolves | apply State.fbkEvent_evolves
        | apply Evolves.ite | apply Evolves.foldl
    | exact mask_trans (by decide) hm
    | exact mask_bit hm (by decide)
    | fail_if_no_progress beta_reduce
    | split
    | fail_if_no_progress with_reducible apply Evolves.parts
    | exact Or.inl (by with_reducible rfl)
    | exact mask_part hm (by decide)

theorem State.dropOuts_evolves {s : State} (h : Evolves M o s)
    (hm : 0x80000000000000000000000000000000000000000000000000000000000000000000000000000000000000000000000000000010200 &&& M = 0x80000000000000000000000000000000000000000000000000000000000000000000000000000000000000000000000000000010200) :
    Evolves M o (State.dropOuts s) := by
  unfold State.dropOuts
  try dsimp only
  repeat' first
    | (intro _)
    | with_reducible first
        | assumption | apply State.switchOut_evolves | apply Evolves.ite | apply Evolves.foldl
    | exact mask_trans (by decide) hm
    | exact mask_bit hm (by decide)
    | fail_if_no_progress beta_reduce
    | split
    | fail_if_no_progress with_reducible apply Evolves.parts
    | exact Or.inl (by with_reducible rfl)
    | exact mask_part hm (by decide)

theorem State.ask_evolves {s : State} (h : Evolves M o s)
    (hm : 0x10000000000000000000000000202 &&& M = 0x10000000000000000000000000202) :
    Evolves M o (State.ask s) := by
  unfold State.ask
  try dsimp only
  repeat' first
    | (intro _)
    | with_reducible first
        | assumption | apply State.modLoop_evolves | apply State.modFbk_evolves | apply State.showInputs_evolves
        | apply Evolves.ite | apply Evolves.foldl
    | exact mask_trans (by decide) hm
    | exact mask_bit hm (by decide)
    | fail_if_no_progress beta_reduce
    | split
    | fail_if_no_progress with_reducible apply Evolves.parts
    | exact Or.inl (by with_reducible rfl)
    | exact mask_part hm (by decide)

theorem State.showFbk_evolves {s : State} (h : Evolves M o s)
    (hm : 0x6800007ff0000000000000000000000000000000000000000000000000000000000000000000000000000000000000000000000000000000 &&& M = 0x6800007ff0000000000000000000000000000000000000000000000000000000000000000000000000000000000000000000000000000000) :
    Evolves M o (State.showFbk s) := by
  unfold State.showFbk
  try dsimp only
  repeat' first
    | (intro _)
    | with_reducible first
        | assumption | apply State.wrBit_evolves | apply State.wr_evolves | apply Evolves.ite | apply Evolves.foldl
    | exact mask_trans (by decide) hm
    | exact mask_bit hm (by decide)
    | fail_if_no_progress beta_reduce
    | split
    | fail_if_no_progress with_reducible apply Evolves.parts
    | exact Or.inl (by with_reducible rfl)
    | exact mask_part hm (by decide)

theorem State.fbkEval_evolves {s : State} (h : Evolves M o s)
    (hm : 0x6800087ff0000000000000000000000000000000000000000000000000000000000000000000000000010000000000000000000000010202 &&& M = 0x6800087ff0000000000000000000000000000000000000000000000000000000000000000000000000010000000000000000000000010202) :
    Evolves M o (State.fbkEval s) := by
  unfold State.fbkEval
  try dsimp only
  repeat' first
    | (intro _)
    | with_reducible first
        | assumption | apply State.showFbk_evolves | apply State.ask_evolves | apply State.dropOuts_evolves
        | apply State.modFbk_evolves | apply Evolves.ite | apply Evolves.foldl
    | exact mask_trans (by decide) hm
    | exact mask_bit hm (by decide)
    | fail_if_no_progress beta_reduce
    | split
    | fail_if_no_progress with_reducible apply Evolves.parts
    | exact Or.inl (by with_reducible rfl)
    | exact mask_part hm (by decide)

theorem State.fbkLog_evolves {s : State} (a1 a2 a3 a4 a5 a6) (h : Evolves M o s)
    (hm : 0x1800000000000000000000000000000000000000000000000000000000000000000000000000000000000000000000000000000000000200 &&& M = 0x1800000000000000000000000000000000000000000000000000000000000000000000000000000000000000000000000000000000000200) :
    Evolves M o (State.fbkLog s a1 a2 a3 a4 a5 a6) := by
  unfold State.fbkLog
  try dsimp only
  repeat' first
    | (intro _)
    | with_reducible first
        | assumption | apply State.modFbk_evolves | apply State.wr_evolves | apply State.sat_evolves
        | apply Evolves.ite | apply Evolves.foldl
    | exact mask_trans (by decide) hm
    | exact mask_bit hm (by decide)
    | fail_if_no_progress beta_reduce
    | split
    | fail_if_no_progress with_reducible apply Evolves.parts
    | exact Or.inl (by with_reducible rfl)
    | exact mask_part hm (by decide)

theorem State.lockReport_evolves {s : State} (a1 a2) (h : Evolves M o s)
    (hm : 0x80 &&& M = 0x80) :
    Evolves M o (State.lockReport s a1 a2) := by
  unfold State.lockReport
  try dsimp only
  repeat' first
    | (intro _)
    | with_reducible first
        | assumption | apply State.report_evolves | apply Evolves.ite | apply Evolves.foldl
    | exact mask_trans (by decide) hm
    | exact mask_bit hm (by decide)
    | fail_if_no_progress beta_reduce
    | split
    | fail_if_no_progress with_reducible apply Evolves.parts
    | exact Or.inl (by with_reducible rfl)
    | exact mask_part hm (by decide)

theorem State.lockout_evolves {s : State} (a1 a2) (h : Evolves M o s)
    (hm : 0x780009fff0000000000000000000000000000000000000000000000000000000000000000000000000010000000000000000000000010282 &&& M = 0x780009fff0000000000000000000000000000000000000000000000000000000000000000000000000010000000000000000000000010282) :
    Evolves M o (State.lockout s a1 a2) := by
  unfold State.lockout
  try dsimp only
  repeat' first
    | (intro _)
    | with_reducible first
        | assumption | apply State.wr_evolves | apply State.fbkEval_evolves | apply State.modFbk_evolves
        | apply State.lockReport_evolves | apply State.fbkEvent_evolves | apply State.fbkLog_evolves
        | apply Evolves.ite | apply Evolves.foldl
    | exact mask_trans (by decide) hm
    | exact mask_bit hm (by decide)
    | fail_if_no_progress beta_reduce
    | split
    | fail_if_no_progress with_reducible apply Evolves.parts
    | exact Or.inl (by with_reducible rfl)
    | exact mask_part hm (by decide)

theorem State.pairFault_evolves {s : State} (a1 a2) (h : Evolves M o s)
    (hm : 0x780009fff0000000000000000000000000000000000000000000000000000000000000000000000000010000000000000000000000010282 &&& M = 0x780009fff0000000000000000000000000000000000000000000000000000000000000000000000000010000000000000000000000010282) :
    Evolves M o (State.pairFault s a1 a2) := by
  unfold State.pairFault
  try dsimp only
  repeat' first
    | (intro _)
    | with_reducible first
        | assumption | apply State.lockout_evolves | apply State.modPair_evolves | apply Evolves.ite
        | apply Evolves.foldl
    | exact mask_trans (by decide) hm
    | exact mask_bit hm (by decide)
    | fail_if_no_progress beta_reduce
    | split
    | fail_if_no_progress with_reducible apply Evolves.parts
    | exact Or.inl (by with_reducible rfl)
    | exact mask_part hm (by decide)

theorem State.endSession_evolves {s : State} (a1 a2) (h : Evolves M o s)
    (hm : 0x7fffe87ff0000000000000000000000000000000000000000000000000000000000000000000000000000000000000000000000000010200 &&& M = 0x7fffe87ff0000000000000000000000000000000000000000000000000000000000000000000000000000000000000000000000000010200) :
    Evolves M o (State.endSession s a1 a2) := by
  unfold State.endSession
  try dsimp only
  repeat' first
    | (intro _)
    | with_reducible first
        | assumption | apply State.modFbk_evolves | apply State.fbkLog_evolves | apply State.showFbk_evolves
        | apply State.showCfg_evolves | apply State.fbkEvent_evolves | apply Evolves.ite | apply Evolves.foldl
    | exact mask_trans (by decide) hm
    | exact mask_bit hm (by decide)
    | fail_if_no_progress beta_reduce
    | split
    | fail_if_no_progress with_reducible apply Evolves.parts
    | exact Or.inl (by with_reducible rfl)
    | exact mask_part hm (by decide)

theorem State.loseLink_evolves {s : State} (h : Evolves M o s)
    (hm : 0x7fffe87ff0000000000000000000000000000000000000000000000000000000000000000000000000010000000000000000000000010202 &&& M = 0x7fffe87ff0000000000000000000000000000000000000000000000000000000000000000000000000010000000000000000000000010202) :
    Evolves M o (State.loseLink s) := by
  unfold State.loseLink
  try dsimp only
  repeat' first
    | (intro _)
    | with_reducible first
        | assumption | apply State.fbkEval_evolves | apply State.fbkEvent_evolves | apply State.endSession_evolves
        | apply State.modFbk_evolves | apply Evolves.ite | apply Evolves.foldl
    | exact mask_trans (by decide) hm
    | exact mask_bit hm (by decide)
    | fail_if_no_progress beta_reduce
    | split
    | fail_if_no_progress with_reducible apply Evolves.parts
    | exact Or.inl (by with_reducible rfl)
    | exact mask_part hm (by decide)

theorem State.openLink_evolves {s : State} (h : Evolves M o s)
    (hm : 0x6800087ff0000000000000000000000000000000000000000000000000000000000000000000000000010000000000000000000000010202 &&& M = 0x6800087ff0000000000000000000000000000000000000000000000000000000000000000000000000010000000000000000000000010202) :
    Evolves M o (State.openLink s) := by
  unfold State.openLink
  try dsimp only
  repeat' first
    | (intro _)
    | with_reducible first
        | assumption | apply State.fbkEval_evolves | apply State.fbkEvent_evolves | apply State.modFbk_evolves
        | apply Evolves.ite | apply Evolves.foldl
    | exact mask_trans (by decide) hm
    | exact mask_bit hm (by decide)
    | fail_if_no_progress beta_reduce
    | split
    | fail_if_no_progress with_reducible apply Evolves.parts
    | exact Or.inl (by with_reducible rfl)
    | exact mask_part hm (by decide)

end Sys2Proof.Machine
end

