-- ==== Sys2Proof/Laws/EvolvesF.lean ====
section
/-! SUPPORT. What each operation and meaning of the files LoopLaw, Loops, Superv, Boot, Sched leaves of the state before it
(Evolves). -/

namespace Sys2Proof.Machine

set_option Elab.async false
set_option linter.unusedTactic false
set_option linter.unreachableTactic false
set_option linter.unusedVariables false
set_option linter.unusedSimpArgs false
set_option exponentiation.threshold 1024

variable {M : Nat} {o : State}

/-! ## LoopLaw -/

theorem State.setNext_evolves {s : State} (a1 a2 a3) (h : Evolves M o s)
    (hm : 0x2 &&& M = 0x2) :
    Evolves M o (State.setNext s a1 a2 a3) := by
  unfold State.setNext
  try dsimp only
  repeat' first
    | (intro _)
    | with_reducible first
        | assumption | apply State.showSat_evolves | apply State.modEl_evolves | apply Evolves.ite
        | apply Evolves.foldl
    | exact mask_trans (by decide) hm
    | exact mask_bit hm (by decide)
    | fail_if_no_progress beta_reduce
    | split
    | fail_if_no_progress with_reducible apply Evolves.parts
    | exact Or.inl (by with_reducible rfl)
    | exact mask_part hm (by decide)

theorem State.piLaw_evolves {s : State} (a1 a2 a3) (h : Evolves M o s)
    (hm : 0x2 &&& M = 0x2) :
    Evolves M o (State.piLaw s a1 a2 a3) := by
  unfold State.piLaw
  try dsimp only
  repeat' first
    | (intro _)
    | with_reducible first
        | assumption | apply State.setNext_evolves | apply Evolves.ite | apply Evolves.foldl
    | exact mask_trans (by decide) hm
    | exact mask_bit hm (by decide)
    | fail_if_no_progress beta_reduce
    | split
    | fail_if_no_progress with_reducible apply Evolves.parts
    | exact Or.inl (by with_reducible rfl)
    | exact mask_part hm (by decide)

theorem State.slewTe_evolves {s : State} (a1) (h : Evolves M o s)
    (hm : 0x2 &&& M = 0x2) :
    Evolves M o (State.slewTe s a1) := by
  unfold State.slewTe
  try dsimp only
  repeat' first
    | (intro _)
    | with_reducible first
        | assumption | apply State.modEl_evolves | apply Evolves.ite | apply Evolves.foldl
    | exact mask_trans (by decide) hm
    | exact mask_bit hm (by decide)
    | fail_if_no_progress beta_reduce
    | split
    | fail_if_no_progress with_reducible apply Evolves.parts
    | exact Or.inl (by with_reducible rfl)
    | exact mask_part hm (by decide)

theorem State.verdict_evolves {s : State} (a1 a2 a3 a4) (h : Evolves M o s)
    (hm : 0x2 &&& M = 0x2) :
    Evolves M o (State.verdict s a1 a2 a3 a4) := by
  unfold State.verdict
  try dsimp only
  repeat' first
    | (intro _)
    | with_reducible first
        | assumption | apply State.modEl_evolves | apply Evolves.ite | apply Evolves.foldl
    | exact mask_trans (by decide) hm
    | exact mask_bit hm (by decide)
    | fail_if_no_progress beta_reduce
    | split
    | fail_if_no_progress with_reducible apply Evolves.parts
    | exact Or.inl (by with_reducible rfl)
    | exact mask_part hm (by decide)

theorem State.writeDue_evolves {s : State} (a1 a2) (h : Evolves M o s)
    (hm : 0x2000000000000000000000000000000000000009000000000000002 &&& M = 0x2000000000000000000000000000000000000009000000000000002) :
    Evolves M o (State.writeDue s a1 a2) := by
  unfold State.writeDue
  try dsimp only
  repeat' first
    | (intro _)
    | with_reducible first
        | assumption | apply State.modEl_evolves | apply State.writeDrive_evolves | apply State.countStale_evolves
        | apply Evolves.ite | apply Evolves.foldl
    | exact mask_trans (by decide) hm
    | exact mask_bit hm (by decide)
    | fail_if_no_progress beta_reduce
    | split
    | fail_if_no_progress with_reducible apply Evolves.parts
    | exact Or.inl (by with_reducible rfl)
    | exact mask_part hm (by decide)

theorem State.correct_evolves {s : State} (a1) (h : Evolves M o s)
    (hm : 0x2 &&& M = 0x2) :
    Evolves M o (State.correct s a1) := by
  unfold State.correct
  try dsimp only
  repeat' first
    | (intro _)
    | with_reducible first
        | assumption | apply State.modEl_evolves | apply State.piLaw_evolves | apply Evolves.ite
        | apply Evolves.foldl
    | exact mask_trans (by decide) hm
    | exact mask_bit hm (by decide)
    | fail_if_no_progress beta_reduce
    | split
    | fail_if_no_progress with_reducible apply Evolves.parts
    | exact Or.inl (by with_reducible rfl)
    | exact mask_part hm (by decide)

theorem State.compute_evolves {s : State} (a1) (h : Evolves M o s)
    (hm : 0x2 &&& M = 0x2) :
    Evolves M o (State.compute s a1) := by
  unfold State.compute
  try dsimp only
  repeat' first
    | (intro _)
    | with_reducible first
        | assumption | apply State.modEl_evolves | apply State.verdict_evolves | apply State.correct_evolves
        | apply Evolves.ite | apply Evolves.foldl
    | exact mask_trans (by decide) hm
    | exact mask_bit hm (by decide)
    | fail_if_no_progress beta_reduce
    | split
    | fail_if_no_progress with_reducible apply Evolves.parts
    | exact Or.inl (by with_reducible rfl)
    | exact mask_part hm (by decide)

theorem State.loopElem_evolves {s : State} (a1 a2) (h : Evolves M o s)
    (hm : 0x2000000000000000000000000000000000000009000000000000002 &&& M = 0x2000000000000000000000000000000000000009000000000000002) :
    Evolves M o (State.loopElem s a1 a2) := by
  unfold State.loopElem
  try dsimp only
  repeat' first
    | (intro _)
    | with_reducible first
        | assumption | apply State.slewTe_evolves | apply State.showSat_evolves | apply State.compute_evolves
        | apply State.writeDue_evolves | apply Evolves.ite | apply Evolves.foldl
    | exact mask_trans (by decide) hm
    | exact mask_bit hm (by decide)
    | fail_if_no_progress beta_reduce
    | split
    | fail_if_no_progress with_reducible apply Evolves.parts
    | exact Or.inl (by with_reducible rfl)
    | exact mask_part hm (by decide)

/-! ## Loops -/

theorem State.countStates_evolves {s : State} (a1) (h : Evolves M o s)
    (hm : 0xc000000000000000000000000000000 &&& M = 0xc000000000000000000000000000000) :
    Evolves M o (State.countStates s a1) := by
  unfold State.countStates
  try dsimp only
  repeat' first
    | (intro _)
    | with_reducible first
        | assumption | apply State.wr_evolves | apply Evolves.ite | apply Evolves.foldl
    | exact mask_trans (by decide) hm
    | exact mask_bit hm (by decide)
    | fail_if_no_progress beta_reduce
    | split
    | fail_if_no_progress with_reducible apply Evolves.parts
    | exact Or.inl (by with_reducible rfl)
    | exact mask_part hm (by decide)

theorem State.overrun_evolves {s : State} (a1 a2) (h : Evolves M o s)
    (hm : 0x400005000000000000010000000000000000000001a04fc038780c0000000000000300000000000000044000000000170fe &&& M = 0x400005000000000000010000000000000000000001a04fc038780c0000000000000300000000000000044000000000170fe) :
    Evolves M o (State.overrun s a1 a2) := by
  unfold State.overrun
  try dsimp only
  repeat' first
    | (intro _)
    | with_reducible first
        | assumption | apply State.wrBit_evolves | apply State.sat_evolves | apply State.standFault_evolves
        | apply Evolves.ite | apply Evolves.foldl
    | exact mask_trans (by decide) hm
    | exact mask_bit hm (by decide)
    | fail_if_no_progress beta_reduce
    | split
    | fail_if_no_progress with_reducible apply Evolves.parts
    | exact Or.inl (by with_reducible rfl)
    | exact mask_part hm (by decide)

theorem State.advance_evolves {s : State} (a1) (h : Evolves M o s)
    (hm : 0x8 &&& M = 0x8) :
    Evolves M o (State.advance s a1) := by
  unfold State.advance
  try dsimp only
  repeat' first
    | (intro _)
    | with_reducible first
        | assumption | apply State.modStand_evolves | apply Evolves.ite | apply Evolves.foldl
    | exact mask_trans (by decide) hm
    | exact mask_bit hm (by decide)
    | fail_if_no_progress beta_reduce
    | split
    | fail_if_no_progress with_reducible apply Evolves.parts
    | exact Or.inl (by with_reducible rfl)
    | exact mask_part hm (by decide)

theorem State.askSwap_evolves {s : State} (a1 a2) (h : Evolves M o s)
    (hm : 0x40000000000000000000000000000002 &&& M = 0x40000000000000000000000000000002) :
    Evolves M o (State.askSwap s a1 a2) := by
  unfold State.askSwap
  try dsimp only
  repeat' first
    | (intro _)
    | with_reducible first
        | assumption | apply State.modCpt_evolves | apply State.wrBit_evolves | apply Evolves.ite
        | apply Evolves.foldl
    | exact mask_trans (by decide) hm
    | exact mask_bit hm (by decide)
    | fail_if_no_progress beta_reduce
    | split
    | fail_if_no_progress with_reducible apply Evolves.parts
    | exact Or.inl (by with_reducible rfl)
    | exact mask_part hm (by decide)

theorem execCoefCommitWrite_goes {s : State} (a0) (h : Evolves M o s)
    (hm : 0x140000000000000000000000000000002 &&& M = 0x140000000000000000000000000000002) :
    Goes M o (execCoefCommitWrite a0 s) := by
  unfold execCoefCommitWrite
  try dsimp only
  repeat' first
    | (intro _)
    | with_reducible first
        | assumption | apply Goes.next | apply State.askSwap_evolves | apply State.wrBit_evolves | apply Evolves.ite
        | apply Evolves.foldl
    | exact mask_trans (by decide) hm
    | exact mask_bit hm (by decide)
    | fail_if_no_progress beta_reduce
    | split
    | fail_if_no_progress with_reducible apply Evolves.parts
    | exact Or.inl (by with_reducible rfl)
    | exact mask_part hm (by decide)

theorem State.swapPair_evolves {s : State} (a1 a2 a3) (h : Evolves M o s) (hb1 : M.testBit (17 + (a1 : Fid).ctorIdx) = true) (hb2 : M.testBit (17 + (a2 : Fid).ctorIdx) = true)
    (hm : 0x0 &&& M = 0x0) :
    Evolves M o (State.swapPair s a1 a2 a3) := by
  unfold State.swapPair
  try dsimp only
  repeat' first
    | (intro _)
    | with_reducible first
        | assumption | apply State.wr_evolves | apply Evolves.ite | apply Evolves.foldl
    | exact mask_trans (by decide) hm
    | exact mask_bit hm (by decide)
    | fail_if_no_progress beta_reduce
    | split
    | fail_if_no_progress with_reducible apply Evolves.parts
    | exact Or.inl (by with_reducible rfl)
    | exact mask_part hm (by decide)

theorem State.swapBanks_evolves {s : State} (a1) (h : Evolves M o s)
    (hm : 0x3fc00000000000000000000000000000000 &&& M = 0x3fc00000000000000000000000000000000) :
    Evolves M o (State.swapBanks s a1) := by
  unfold State.swapBanks
  try dsimp only
  repeat' first
    | (intro _)
    | with_reducible first
        | assumption | apply State.swapPair_evolves | apply Evolves.ite | apply Evolves.foldl
    | exact mask_trans (by decide) hm
    | exact mask_bit hm (by decide)
    | fail_if_no_progress beta_reduce
    | split
    | fail_if_no_progress with_reducible apply Evolves.parts
    | exact Or.inl (by with_reducible rfl)
    | exact mask_part hm (by decide)

theorem State.rescale_evolves {s : State} (a1) (h : Evolves M o s)
    (hm : 0x2 &&& M = 0x2) :
    Evolves M o (State.rescale s a1) := by
  unfold State.rescale
  try dsimp only
  repeat' first
    | (intro _)
    | with_reducible first
        | assumption | apply State.setNext_evolves | apply Evolves.ite | apply Evolves.foldl
    | exact mask_trans (by decide) hm
    | exact mask_bit hm (by decide)
    | fail_if_no_progress beta_reduce
    | split
    | fail_if_no_progress with_reducible apply Evolves.parts
    | exact Or.inl (by with_reducible rfl)
    | exact mask_part hm (by decide)

theorem State.sendLoops_evolves {s : State} (a1) (h : Evolves M o s)
    (hm : 0x5000000000000010000000000000000000000000000000000000000000000000000000000000000000000000017062 &&& M = 0x5000000000000010000000000000000000000000000000000000000000000000000000000000000000000000017062) :
    Evolves M o (State.sendLoops s a1) := by
  unfold State.sendLoops
  try dsimp only
  repeat' first
    | (intro _)
    | with_reducible first
        | assumption | apply State.snapCpt_evolves | apply State.telRound_evolves | apply Evolves.ite
        | apply Evolves.foldl
    | exact mask_trans (by decide) hm
    | exact mask_bit hm (by decide)
    | fail_if_no_progress beta_reduce
    | split
    | fail_if_no_progress with_reducible apply Evolves.parts
    | exact Or.inl (by with_reducible rfl)
    | exact mask_part hm (by decide)

theorem State.computeCpt_evolves {s : State} (a1 a2) (h : Evolves M o s)
    (hm : 0x200000000000000000003fc00000000000000009000000000000002 &&& M = 0x200000000000000000003fc00000000000000009000000000000002) :
    Evolves M o (State.computeCpt s a1 a2) := by
  unfold State.computeCpt
  try dsimp only
  repeat' first
    | (intro _)
    | with_reducible first
        | assumption | apply State.swapBanks_evolves | apply State.loopElem_evolves | apply State.modCpt_evolves
        | apply State.rescale_evolves | apply Evolves.ite | apply Evolves.foldl
    | exact mask_trans (by decide) hm
    | exact mask_bit hm (by decide)
    | fail_if_no_progress beta_reduce
    | split
    | fail_if_no_progress with_reducible apply Evolves.parts
    | exact Or.inl (by with_reducible rfl)
    | exact mask_part hm (by decide)

theorem execLoopPeriodBoundary_goes {s : State} (a0 a1 a2 a3 a4) (h : Evolves M o s)
    (hm : 0x400005000000000000010000000000000000000001e06fc038780c00000000003fc3c78000000000000d4000000000170fe &&& M = 0x400005000000000000010000000000000000000001e06fc038780c00000000003fc3c78000000000000d4000000000170fe) :
    Goes M o (execLoopPeriodBoundary a0 a1 a2 a3 a4 s) := by
  unfold execLoopPeriodBoundary
  try dsimp only
  repeat' first
    | (intro _)
    | with_reducible first
        | assumption | apply Goes.next | apply State.modCpt_evolves | apply State.copyCpt_evolves
        | apply State.advance_evolves | apply State.sendLoops_evolves | apply State.computeCpt_evolves
        | apply State.endOverlap_evolves | apply State.countStale_evolves | apply State.powerCap_evolves
        | apply State.syncCheck_evolves | apply State.countStates_evolves | apply State.overrun_evolves
        | apply Evolves.ite | apply Evolves.foldl
    | exact mask_trans (by decide) hm
    | exact mask_bit hm (by decide)
    | fail_if_no_progress beta_reduce
    | split
    | fail_if_no_progress with_reducible apply Evolves.parts
    | exact Or.inl (by with_reducible rfl)
    | exact mask_part hm (by decide)

theorem execCoefficientSwap_goes {s : State} (a0) (h : Evolves M o s)
    (hm : 0x40000000000000000000000000000000000000000000000000000000000000003fec0000000000000000000000000000012 &&& M = 0x40000000000000000000000000000000000000000000000000000000000000003fec0000000000000000000000000000012) :
    Goes M o (execCoefficientSwap a0 s) := by
  unfold execCoefficientSwap
  try dsimp only
  repeat' first
    | (intro _)
    | with_reducible first
        | assumption | apply Goes.next | apply State.wrBit_evolves | apply State.modCpt_evolves
        | apply State.swapBanks_evolves | apply State.inc_evolves | apply State.finishOpt_evolves
        | apply State.resnapCpt_evolves | apply State.rescale_evolves | apply Evolves.ite | apply Evolves.foldl
    | exact mask_trans (by decide) hm
    | exact mask_bit hm (by decide)
    | fail_if_no_progress beta_reduce
    | split
    | fail_if_no_progress with_reducible apply Evolves.parts
    | exact Or.inl (by with_reducible rfl)
    | exact mask_part hm (by decide)

theorem execPeriodWindowChange_goes {s : State} (a0) (h : Evolves M o s)
    (hm : 0x400000000000000000000000000000000000000000000000000000000000000000003800000008000000000000000000012 &&& M = 0x400000000000000000000000000000000000000000000000000000000000000000003800000008000000000000000000012) :
    Goes M o (execPeriodWindowChange a0 s) := by
  unfold execPeriodWindowChange
  try dsimp only
  repeat' first
    | (intro _)
    | with_reducible first
        | assumption | apply Goes.next | apply State.wrBit_evolves | apply State.wr_evolves
        | apply State.modCpt_evolves | apply State.enterSettle_evolves | apply State.modEl_evolves
        | apply State.finishOpt_evolves | apply State.resnapCpt_evolves | apply Evolves.ite | apply Evolves.foldl
    | exact mask_trans (by decide) hm
    | exact mask_bit hm (by decide)
    | fail_if_no_progress beta_reduce
    | split
    | fail_if_no_progress with_reducible apply Evolves.parts
    | exact Or.inl (by with_reducible rfl)
    | exact mask_part hm (by decide)

theorem execSettleEntry_goes {s : State} (a0) (h : Evolves M o s)
    (hm : 0x400005000000000000010000000000000000000000000000000000000000000000000000000008000000000000000017056 &&& M = 0x400005000000000000010000000000000000000000000000000000000000000000000000000008000000000000000017056) :
    Goes M o (execSettleEntry a0 s) := by
  unfold execSettleEntry
  try dsimp only
  repeat' first
    | (intro _)
    | with_reducible first
        | assumption | apply Goes.next | apply State.finishMove_evolves | apply State.settled_evolves
        | apply State.resnapEl_evolves | apply State.enterSettle_evolves | apply Evolves.ite | apply Evolves.foldl
    | exact mask_trans (by decide) hm
    | exact mask_bit hm (by decide)
    | fail_if_no_progress beta_reduce
    | split
    | fail_if_no_progress with_reducible apply Evolves.parts
    | exact Or.inl (by with_reducible rfl)
    | exact mask_part hm (by decide)

theorem execJumpExit_goes {s : State} (a0) (h : Evolves M o s)
    (hm : 0x400000000000000000000000000000000000000000000000000000000000000000000000004808000009000000000000012 &&& M = 0x400000000000000000000000000000000000000000000000000000000000000000000000004808000009000000000000012) :
    Goes M o (execJumpExit a0 s) := by
  unfold execJumpExit
  try dsimp only
  repeat' first
    | (intro _)
    | with_reducible first
        | assumption | apply Goes.next | apply State.modEl_evolves | apply State.setState_evolves
        | apply State.finishMove_evolves | apply State.resnapEl_evolves | apply State.park_evolves
        | apply Evolves.ite | apply Evolves.foldl
    | exact mask_trans (by decide) hm
    | exact mask_bit hm (by decide)
    | fail_if_no_progress beta_reduce
    | split
    | fail_if_no_progress with_reducible apply Evolves.parts
    | exact Or.inl (by with_reducible rfl)
    | exact mask_part hm (by decide)

theorem execHoldEntry_goes {s : State} (a0) (h : Evolves M o s)
    (hm : 0x8000000000000000000002 &&& M = 0x8000000000000000000002) :
    Goes M o (execHoldEntry a0 s) := by
  unfold execHoldEntry
  try dsimp only
  repeat' first
    | (intro _)
    | with_reducible first
        | assumption | apply Goes.next | apply State.resnapEl_evolves | apply State.correct_evolves
        | apply State.setState_evolves | apply Evolves.ite | apply Evolves.foldl
    | exact mask_trans (by decide) hm
    | exact mask_bit hm (by decide)
    | fail_if_no_progress beta_reduce
    | split
    | fail_if_no_progress with_reducible apply Evolves.parts
    | exact Or.inl (by with_reducible rfl)
    | exact mask_part hm (by decide)

theorem State.makeSched_evolves {s : State} (a1 a2 a3) (h : Evolves M o s)
    (hm : 0x400005000000000000010000000000000000000000000000000000000000000000000780004808000068000000000017072 &&& M = 0x400005000000000000010000000000000000000000000000000000000000000000000780004808000068000000000017072) :
    Evolves M o (State.makeSched s a1 a2 a3) := by
  unfold State.makeSched
  try dsimp only
  repeat' first
    | (intro _)
    | with_reducible first
        | assumption | apply State.runSched_evolves | apply State.resnapEl_evolves | apply State.powerCap_evolves
        | apply Evolves.ite | apply Evolves.foldl
    | exact mask_trans (by decide) hm
    | exact mask_bit hm (by decide)
    | fail_if_no_progress beta_reduce
    | split
    | fail_if_no_progress with_reducible apply Evolves.parts
    | exact Or.inl (by with_reducible rfl)
    | exact mask_part hm (by decide)

theorem execScheduledTransition_goes {s : State} (a0) (h : Evolves M o s)
    (hm : 0x400005000000000000010000000000000000000000000000000000000000000000000780004808000068000000000017072 &&& M = 0x400005000000000000010000000000000000000000000000000000000000000000000780004808000068000000000017072) :
    Goes M o (execScheduledTransition a0 s) := by
  unfold execScheduledTransition
  try dsimp only
  repeat' first
    | (intro _)
    | with_reducible first
        | assumption | apply Goes.next | apply State.makeSched_evolves | apply Evolves.ite | apply Evolves.foldl
    | exact mask_trans (by decide) hm
    | exact mask_bit hm (by decide)
    | fail_if_no_progress beta_reduce
    | split
    | fail_if_no_progress with_reducible apply Evolves.parts
    | exact Or.inl (by with_reducible rfl)
    | exact mask_part hm (by decide)

theorem execReturnToService_goes {s : State} (a0) (h : Evolves M o s)
    (hm : 0x400005000000000000010000000000000000000000000000000000000000000000000780004808000068000000000017072 &&& M = 0x400005000000000000010000000000000000000000000000000000000000000000000780004808000068000000000017072) :
    Goes M o (execReturnToService a0 s) := by
  unfold execReturnToService
  try dsimp only
  repeat' first
    | (intro _)
    | with_reducible first
        | assumption | apply Goes.next | apply State.makeSched_evolves | apply Evolves.ite | apply Evolves.foldl
    | exact mask_trans (by decide) hm
    | exact mask_bit hm (by decide)
    | fail_if_no_progress beta_reduce
    | split
    | fail_if_no_progress with_reducible apply Evolves.parts
    | exact Or.inl (by with_reducible rfl)
    | exact mask_part hm (by decide)

theorem execLoopStart_goes {s : State} (a0) (h : Evolves M o s)
    (hm : 0x400005000000000000010000000000000000000000000000000000000000000000000000004808000268000000000017072 &&& M = 0x400005000000000000010000000000000000000000000000000000000000000000000000004808000268000000000017072) :
    Goes M o (execLoopStart a0 s) := by
  unfold execLoopStart
  try dsimp only
  repeat' first
    | (intro _)
    | with_reducible first
        | assumption | apply Goes.next | apply State.jumpToTarget_evolves | apply State.modEl_evolves
        | apply State.resnapEl_evolves | apply State.showCleared_evolves | apply State.fromClear_evolves
        | apply Evolves.ite | apply Evolves.foldl
    | exact mask_trans (by decide) hm
    | exact mask_bit hm (by decide)
    | fail_if_no_progress beta_reduce
    | split
    | fail_if_no_progress with_reducible apply Evolves.parts
    | exact Or.inl (by with_reducible rfl)
    | exact mask_part hm (by decide)

theorem execSuspectEntry_goes {s : State} (a0) (h : Evolves M o s)
    (hm : 0x40000500000000000001000000000000000000000000000000000000000e0000000000000000080000000000000000170f6 &&& M = 0x40000500000000000001000000000000000000000000000000000000000e0000000000000000080000000000000000170f6) :
    Goes M o (execSuspectEntry a0 s) := by
  unfold execSuspectEntry
  try dsimp only
  repeat' first
    | (intro _)
    | with_reducible first
        | assumption | apply Goes.next | apply State.finishMove_evolves | apply State.enterSuspect_evolves
        | apply State.countSuspect_evolves | apply State.dropMove_evolves | apply State.settled_evolves
        | apply State.resnapEl_evolves | apply State.supEvent_evolves | apply State.report_evolves
        | apply Evolves.ite | apply Evolves.foldl
    | exact mask_trans (by decide) hm
    | exact mask_bit hm (by decide)
    | fail_if_no_progress beta_reduce
    | split
    | fail_if_no_progress with_reducible apply Evolves.parts
    | exact Or.inl (by with_reducible rfl)
    | exact mask_part hm (by decide)

theorem execCatchUpJump_goes {s : State} (a0) (h : Evolves M o s)
    (hm : 0x4808000068000000000000002 &&& M = 0x4808000068000000000000002) :
    Goes M o (execCatchUpJump a0 s) := by
  unfold execCatchUpJump
  try dsimp only
  repeat' first
    | (intro _)
    | with_reducible first
        | assumption | apply Goes.next | apply State.jumpToTarget_evolves | apply State.modEl_evolves
        | apply State.leaveTarget_evolves | apply Evolves.ite | apply Evolves.foldl
    | exact mask_trans (by decide) hm
    | exact mask_bit hm (by decide)
    | fail_if_no_progress beta_reduce
    | split
    | fail_if_no_progress with_reducible apply Evolves.parts
    | exact Or.inl (by with_reducible rfl)
    | exact mask_part hm (by decide)

theorem execCalibrationRecordApply_goes {s : State} (a0) (h : Evolves M o s)
    (hm : 0x200000000000000002 &&& M = 0x200000000000000002) :
    Goes M o (execCalibrationRecordApply a0 s) := by
  unfold execCalibrationRecordApply
  try dsimp only
  repeat' first
    | (intro _)
    | with_reducible first
        | assumption | apply Goes.next | apply State.showCleared_evolves | apply State.modEl_evolves
        | apply Evolves.ite | apply Evolves.foldl
    | exact mask_trans (by decide) hm
    | exact mask_bit hm (by decide)
    | fail_if_no_progress beta_reduce
    | split
    | fail_if_no_progress with_reducible apply Evolves.parts
    | exact Or.inl (by with_reducible rfl)
    | exact mask_part hm (by decide)

/-! ## Superv -/

theorem State.modOuter_evolves {s : State} (a1 a2) (h : Evolves M o s)
    (hm : 0x2 &&& M = 0x2) :
    Evolves M o (State.modOuter s a1 a2) := by
  unfold State.modOuter
  try dsimp only
  repeat' first
    | (intro _)
    | with_reducible first
        | assumption | apply Evolves.ite | apply Evolves.foldl
    | exact mask_trans (by decide) hm
    | exact mask_bit hm (by decide)
    | fail_if_no_progress beta_reduce
    | split
    | fail_if_no_progress with_reducible apply Evolves.parts
    | exact Or.inl (by with_reducible rfl)
    | exact mask_part hm (by decide)

theorem State.countOuters_evolves {s : State} (a1) (h : Evolves M o s)
    (hm : 0x2 &&& M = 0x2) :
    Evolves M o (State.countOuters s a1) := by
  unfold State.countOuters
  try dsimp only
  repeat' first
    | (intro _)
    | with_reducible first
        | assumption | apply State.modOuter_evolves | apply Evolves.ite | apply Evolves.foldl
    | exact mask_trans (by decide) hm
    | exact mask_bit hm (by decide)
    | fail_if_no_progress beta_reduce
    | split
    | fail_if_no_progress with_reducible apply Evolves.parts
    | exact Or.inl (by with_reducible rfl)
    | exact mask_part hm (by decide)

theorem State.outerStep_evolves {s : State} (a1 a2) (h : Evolves M o s)
    (hm : 0x1e00000000000000000000000000000000000000000002 &&& M = 0x1e00000000000000000000000000000000000000000002) :
    Evolves M o (State.outerStep s a1 a2) := by
  unfold State.outerStep
  try dsimp only
  repeat' first
    | (intro _)
    | with_reducible first
        | assumption | apply State.wrBit_evolves | apply State.wr_evolves | apply State.modEl_evolves
        | apply Evolves.ite | apply Evolves.foldl
    | exact mask_trans (by decide) hm
    | exact mask_bit hm (by decide)
    | fail_if_no_progress beta_reduce
    | split
    | fail_if_no_progress with_reducible apply Evolves.parts
    | exact Or.inl (by with_reducible rfl)
    | exact mask_part hm (by decide)

theorem execOuterIntervalEnd_goes {s : State} (a0) (h : Evolves M o s)
    (hm : 0x5000000000000010000000000000000000000000000000001e00000000000000000000000000000000000000017062 &&& M = 0x5000000000000010000000000000000000000000000000001e00000000000000000000000000000000000000017062) :
    Goes M o (execOuterIntervalEnd a0 s) := by
  unfold execOuterIntervalEnd
  try dsimp only
  repeat' first
    | (intro _)
    | with_reducible first
        | assumption | apply Goes.next | apply State.wrBit_evolves | apply State.outerStep_evolves
        | apply State.telRound_evolves | apply State.modOuter_evolves | apply Evolves.ite | apply Evolves.foldl
    | exact mask_trans (by decide) hm
    | exact mask_bit hm (by decide)
    | fail_if_no_progress beta_reduce
    | split
    | fail_if_no_progress with_reducible apply Evolves.parts
    | exact Or.inl (by with_reducible rfl)
    | exact mask_part hm (by decide)

theorem State.outerOn_evolves {s : State} (a1 a2) (h : Evolves M o s)
    (hm : 0x4000000000000000000000000000000000000000002 &&& M = 0x4000000000000000000000000000000000000000002) :
    Evolves M o (State.outerOn s a1 a2) := by
  unfold State.outerOn
  try dsimp only
  repeat' first
    | (intro _)
    | with_reducible first
        | assumption | apply State.modOuter_evolves | apply State.wrBit_evolves | apply State.modCal_evolves
        | apply Evolves.ite | apply Evolves.foldl
    | exact mask_trans (by decide) hm
    | exact mask_bit hm (by decide)
    | fail_if_no_progress beta_reduce
    | split
    | fail_if_no_progress with_reducible apply Evolves.parts
    | exact Or.inl (by with_reducible rfl)
    | exact mask_part hm (by decide)

theorem execOuterConfigEqualisation_goes {s : State} (a0 a1 a2 a3 a4 a5 a6 a7 a8 a9) (h : Evolves M o s)
    (hm : 0x4000000000000000000000000000000000000000000000000000001fc000000000000000000000000000000000000000052 &&& M = 0x4000000000000000000000000000000000000000000000000000001fc000000000000000000000000000000000000000052) :
    Goes M o (execOuterConfigEqualisation a0 a1 a2 a3 a4 a5 a6 a7 a8 a9 s) := by
  unfold execOuterConfigEqualisation
  try dsimp only
  repeat' first
    | (intro _)
    | with_reducible first
        | assumption | apply Goes.next | apply State.checked_evolves | apply State.status_evolves
        | apply State.wr_evolves | apply State.outerOn_evolves | apply Evolves.ite | apply Evolves.foldl
    | exact mask_trans (by decide) hm
    | exact mask_bit hm (by decide)
    | fail_if_no_progress beta_reduce
    | split
    | fail_if_no_progress with_reducible apply Evolves.parts
    | exact Or.inl (by with_reducible rfl)
    | exact mask_part hm (by decide)

theorem State.putTco_evolves {s : State} (a1 a2) (h : Evolves M o s)
    (hm : 0x2 &&& M = 0x2) :
    Evolves M o (State.putTco s a1 a2) := by
  unfold State.putTco
  try dsimp only
  repeat' first
    | (intro _)
    | with_reducible first
        | assumption | apply State.modLoop_evolves | apply State.modEl_evolves | apply State.modCal_evolves
        | apply Evolves.ite | apply Evolves.foldl
    | exact mask_trans (by decide) hm
    | exact mask_bit hm (by decide)
    | fail_if_no_progress beta_reduce
    | split
    | fail_if_no_progress with_reducible apply Evolves.parts
    | exact Or.inl (by with_reducible rfl)
    | exact mask_part hm (by decide)

theorem execOuterConfigTemperature_goes {s : State} (a0 a1 a2 a3 a4 a5 a6 a7) (h : Evolves M o s)
    (hm : 0x1000000000000000000000000000400000000000000000000000000000000000000000000000000000000070000000000000000000000000000000000000052 &&& M = 0x1000000000000000000000000000400000000000000000000000000000000000000000000000000000000070000000000000000000000000000000000000052) :
    Goes M o (execOuterConfigTemperature a0 a1 a2 a3 a4 a5 a6 a7 s) := by
  unfold execOuterConfigTemperature
  try dsimp only
  repeat' first
    | (intro _)
    | with_reducible first
        | assumption | apply Goes.next | apply State.checked_evolves | apply State.status_evolves
        | apply State.countRefused_evolves | apply State.putTco_evolves | apply State.wr_evolves | apply Evolves.ite
        | apply Evolves.foldl
    | exact mask_trans (by decide) hm
    | exact mask_bit hm (by decide)
    | fail_if_no_progress beta_reduce
    | split
    | fail_if_no_progress with_reducible apply Evolves.parts
    | exact Or.inl (by with_reducible rfl)
    | exact mask_part hm (by decide)

theorem State.showOverdue_evolves {s : State} (a1) (h : Evolves M o s)
    (hm : 0x20000000000000000000000000000000000000000000000 &&& M = 0x20000000000000000000000000000000000000000000000) :
    Evolves M o (State.showOverdue s a1) := by
  unfold State.showOverdue
  try dsimp only
  repeat' first
    | (intro _)
    | with_reducible first
        | assumption | apply State.wr_evolves | apply Evolves.ite | apply Evolves.foldl
    | exact mask_trans (by decide) hm
    | exact mask_bit hm (by decide)
    | fail_if_no_progress beta_reduce
    | split
    | fail_if_no_progress with_reducible apply Evolves.parts
    | exact Or.inl (by with_reducible rfl)
    | exact mask_part hm (by decide)

theorem State.sweepTo_evolves {s : State} (a1 a2) (h : Evolves M o s)
    (hm : 0x2 &&& M = 0x2) :
    Evolves M o (State.sweepTo s a1 a2) := by
  unfold State.sweepTo
  try dsimp only
  repeat' first
    | (intro _)
    | with_reducible first
        | assumption | apply State.modEl_evolves | apply Evolves.ite | apply Evolves.foldl
    | exact mask_trans (by decide) hm
    | exact mask_bit hm (by decide)
    | fail_if_no_progress beta_reduce
    | split
    | fail_if_no_progress with_reducible apply Evolves.parts
    | exact Or.inl (by with_reducible rfl)
    | exact mask_part hm (by decide)

theorem execSweepStart_goes {s : State} (a0) (h : Evolves M o s)
    (hm : 0x4000000000000000000000000000000000000000000002 &&& M = 0x4000000000000000000000000000000000000000000002) :
    Goes M o (execSweepStart a0 s) := by
  unfold execSweepStart
  try dsimp only
  repeat' first
    | (intro _)
    | with_reducible first
        | assumption | apply Goes.next | apply State.sweepTo_evolves | apply State.showSweeps_evolves
        | apply State.modLoop_evolves | apply Evolves.ite | apply Evolves.foldl
    | exact mask_trans (by decide) hm
    | exact mask_bit hm (by decide)
    | fail_if_no_progress beta_reduce
    | split
    | fail_if_no_progress with_reducible apply Evolves.parts
    | exact Or.inl (by with_reducible rfl)
    | exact mask_part hm (by decide)

theorem State.finishSweep_evolves {s : State} (a1) (h : Evolves M o s)
    (hm : 0x100000000000000000000000000040000500000000000001000000000000000000000000000000000c0000000000000000000000000000000000000000170f2 &&& M = 0x100000000000000000000000000040000500000000000001000000000000000000000000000000000c0000000000000000000000000000000000000000170f2) :
    Evolves M o (State.finishSweep s a1) := by
  unfold State.finishSweep
  try dsimp only
  repeat' first
    | (intro _)
    | with_reducible first
        | assumption | apply State.releaseElem_evolves | apply State.endSweep_evolves
        | apply State.countRefused_evolves | apply State.showSweeps_evolves | apply State.modLoop_evolves
        | apply Evolves.ite | apply Evolves.foldl
    | exact mask_trans (by decide) hm
    | exact mask_bit hm (by decide)
    | fail_if_no_progress beta_reduce
    | split
    | fail_if_no_progress with_reducible apply Evolves.parts
    | exact Or.inl (by with_reducible rfl)
    | exact mask_part hm (by decide)

theorem execSweepPoint_goes {s : State} (a0) (h : Evolves M o s)
    (hm : 0x100000000000000000000000000040000500000000000001000000000000000000000000000000000c0000000000000000000000000000000000000000170f2 &&& M = 0x100000000000000000000000000040000500000000000001000000000000000000000000000000000c0000000000000000000000000000000000000000170f2) :
    Goes M o (execSweepPoint a0 s) := by
  unfold execSweepPoint
  try dsimp only
  repeat' first
    | (intro _)
    | with_reducible first
        | assumption | apply Goes.next | apply State.modLoop_evolves | apply State.sweepTo_evolves
        | apply State.finishSweep_evolves | apply Evolves.ite | apply Evolves.foldl
    | exact mask_trans (by decide) hm
    | exact mask_bit hm (by decide)
    | fail_if_no_progress beta_reduce
    | split
    | fail_if_no_progress with_reducible apply Evolves.parts
    | exact Or.inl (by with_reducible rfl)
    | exact mask_part hm (by decide)

theorem execSweepDeadline_goes {s : State} (a0) (h : Evolves M o s)
    (hm : 0x4000050000000000000100000000000000000000000000000000080000000000000000000000000000000000000000170f2 &&& M = 0x4000050000000000000100000000000000000000000000000000080000000000000000000000000000000000000000170f2) :
    Goes M o (execSweepDeadline a0 s) := by
  unfold execSweepDeadline
  try dsimp only
  repeat' first
    | (intro _)
    | with_reducible first
        | assumption | apply Goes.next | apply State.runResult_evolves | apply State.noteResult_evolves
        | apply Evolves.ite | apply Evolves.foldl
    | exact mask_trans (by decide) hm
    | exact mask_bit hm (by decide)
    | fail_if_no_progress beta_reduce
    | split
    | fail_if_no_progress with_reducible apply Evolves.parts
    | exact Or.inl (by with_reducible rfl)
    | exact mask_part hm (by decide)

theorem execCalRun_goes {s : State} (a0 a1 a2 a3 a4 a5) (h : Evolves M o s)
    (hm : 0x400000000000000000000000000000000000000000000000000030000000000000000000000000000000000000000000052 &&& M = 0x400000000000000000000000000000000000000000000000000030000000000000000000000000000000000000000000052) :
    Goes M o (execCalRun a0 a1 a2 a3 a4 a5 s) := by
  unfold execCalRun
  try dsimp only
  repeat' first
    | (intro _)
    | with_reducible first
        | assumption | apply Goes.next | apply State.checked_evolves | apply State.status_evolves
        | apply State.showOverdue_evolves | apply State.wr_evolves | apply State.entered_evolves
        | apply State.effect_evolves | apply State.modLoop_evolves | apply Evolves.ite | apply Evolves.foldl
    | exact mask_trans (by decide) hm
    | exact mask_bit hm (by decide)
    | fail_if_no_progress beta_reduce
    | split
    | fail_if_no_progress with_reducible apply Evolves.parts
    | exact Or.inl (by with_reducible rfl)
    | exact mask_part hm (by decide)

/-! ## Boot -/

theorem State.bootStart_evolves {s : State} (h : Evolves M o s)
    (hm : 0x200000000000000040000000000000000000000000000000000000000000000000000000000000000000000000000000000000000000000000000000000010d80 &&& M = 0x200000000000000040000000000000000000000000000000000000000000000000000000000000000000000000000000000000000000000000000000000010d80) :
    Evolves M o (State.bootStart s) := by
  unfold State.bootStart
  try dsimp only
  repeat' first
    | (intro _)
    | with_reducible first
        | assumption | apply State.driveErr_evolves | apply State.inc_evolves | apply Evolves.ite
        | apply Evolves.foldl
    | exact mask_trans (by decide) hm
    | exact mask_bit hm (by decide)
    | fail_if_no_progress beta_reduce
    | split
    | fail_if_no_progress with_reducible apply Evolves.parts
    | exact Or.inl (by with_reducible rfl)
    | exact mask_part hm (by decide)

theorem State.bootImage_evolves {s : State} (h : Evolves M o s)
    (hm : 0xc7c000000000000000000000000000000000000000000000000000000000000000000000000000000000000000000000000000000000000000000000000000400 &&& M = 0xc7c000000000000000000000000000000000000000000000000000000000000000000000000000000000000000000000000000000000000000000000000000400) :
    Evolves M o (State.bootImage s) := by
  unfold State.bootImage
  try dsimp only
  repeat' first
    | (intro _)
    | with_reducible first
        | assumption | apply State.extend_evolves | apply State.showStaged_evolves | apply State.wrBit_evolves
        | apply State.wr_evolves | apply State.extendEvent_evolves | apply Evolves.ite | apply Evolves.foldl
    | exact mask_trans (by decide) hm
    | exact mask_bit hm (by decide)
    | fail_if_no_progress beta_reduce
    | split
    | fail_if_no_progress with_reducible apply Evolves.parts
    | exact Or.inl (by with_reducible rfl)
    | exact mask_part hm (by decide)

theorem State.bootLoad_evolves {s : State} (h : Evolves M o s)
    (hm : 0x6800087ff00000000000000000000000000000000000000000000000000000787000000000000000000100000003fc0024000001c1ff0687 &&& M = 0x6800087ff00000000000000000000000000000000000000000000000000000787000000000000000000100000003fc0024000001c1ff0687) :
    Evolves M o (State.bootLoad s) := by
  unfold State.bootLoad
  try dsimp only
  repeat' first
    | (intro _)
    | with_reducible first
        | assumption | apply State.loadProfs_evolves | apply State.wrBit_evolves | apply State.wr_evolves
        | apply State.loadMapSettings_evolves | apply State.loadMap_evolves | apply State.extendProfs_evolves
        | apply State.modLoop_evolves | apply State.modTrv_evolves | apply State.openLink_evolves
        | apply State.startForce_evolves | apply Evolves.ite | apply Evolves.foldl
    | exact mask_trans (by decide) hm
    | exact mask_bit hm (by decide)
    | fail_if_no_progress beta_reduce
    | split
    | fail_if_no_progress with_reducible apply Evolves.parts
    | exact Or.inl (by with_reducible rfl)
    | exact mask_part hm (by decide)

theorem State.bootOpen_evolves {s : State} (h : Evolves M o s)
    (hm : 0x200000000000000042 &&& M = 0x200000000000000042) :
    Evolves M o (State.bootOpen s) := by
  unfold State.bootOpen
  try dsimp only
  repeat' first
    | (intro _)
    | with_reducible first
        | assumption | apply State.showCleared_evolves | apply State.modCpt_evolves | apply Evolves.ite
        | apply Evolves.foldl
    | exact mask_trans (by decide) hm
    | exact mask_bit hm (by decide)
    | fail_if_no_progress beta_reduce
    | split
    | fail_if_no_progress with_reducible apply Evolves.parts
    | exact Or.inl (by with_reducible rfl)
    | exact mask_part hm (by decide)

theorem execBootSequence_goes {s : State} (h : Evolves M o s)
    (hm : 0xe7c000000000000046800087ff00000000000000000000000000000000000000000000000000000787000000000000000000100000003fc2024000001c1ff0fc7 &&& M = 0xe7c000000000000046800087ff00000000000000000000000000000000000000000000000000000787000000000000000000100000003fc2024000001c1ff0fc7) :
    Goes M o (execBootSequence s) := by
  unfold execBootSequence
  try dsimp only
  repeat' first
    | (intro _)
    | with_reducible first
        | assumption | apply Goes.next | apply State.bootImage_evolves | apply State.bootStart_evolves
        | apply State.bootOpen_evolves | apply State.bootLoad_evolves | apply Evolves.ite | apply Evolves.foldl
    | exact mask_trans (by decide) hm
    | exact mask_bit hm (by decide)
    | fail_if_no_progress beta_reduce
    | split
    | fail_if_no_progress with_reducible apply Evolves.parts
    | exact Or.inl (by with_reducible rfl)
    | exact mask_part hm (by decide)

theorem State.startXfer_evolves {s : State} (a1 a2 a3 a4) (h : Evolves M o s)
    (hm : 0x80000000000000000000000000000400005000000000000010000000000000000000000000000000000000000000000000000000000000000000000000007450 &&& M = 0x80000000000000000000000000000400005000000000000010000000000000000000000000000000000000000000000000000000000000000000000000007450) :
    Evolves M o (State.startXfer s a1 a2 a3 a4) := by
  unfold State.startXfer
  try dsimp only
  repeat' first
    | (intro _)
    | with_reducible first
        | assumption | apply State.entered_evolves | apply State.sendBulk_evolves | apply State.showStaging_evolves
        | apply State.modBoot_evolves | apply Evolves.ite | apply Evolves.foldl
    | exact mask_trans (by decide) hm
    | exact mask_bit hm (by decide)
    | fail_if_no_progress beta_reduce
    | split
    | fail_if_no_progress with_reducible apply Evolves.parts
    | exact Or.inl (by with_reducible rfl)
    | exact mask_part hm (by decide)

theorem State.fwStage_evolves {s : State} (a1 a2 a3 a4) (h : Evolves M o s)
    (hm : 0x8c1000000000000000000000000000400005000000000000010000000000000000000000000000000000000000000000000000000000000000000000000fe74d1 &&& M = 0x8c1000000000000000000000000000400005000000000000010000000000000000000000000000000000000000000000000000000000000000000000000fe74d1) :
    Evolves M o (State.fwStage s a1 a2 a3 a4) := by
  unfold State.fwStage
  try dsimp only
  repeat' first
    | (intro _)
    | with_reducible first
        | assumption | apply State.status_evolves | apply State.stage_evolves | apply State.startXfer_evolves
        | apply Evolves.ite | apply Evolves.foldl
    | exact mask_trans (by decide) hm
    | exact mask_bit hm (by decide)
    | fail_if_no_progress beta_reduce
    | split
    | fail_if_no_progress with_reducible apply Evolves.parts
    | exact Or.inl (by with_reducible rfl)
    | exact mask_part hm (by decide)

theorem execFwStageFirmware_goes {s : State} (a0 a1 a2 a3 a4) (h : Evolves M o s)
    (hm : 0x8c1000000000000000000000000000400005000000000000010000000000000000000000000000000000000000000000000000000000000000000000000fe74d1 &&& M = 0x8c1000000000000000000000000000400005000000000000010000000000000000000000000000000000000000000000000000000000000000000000000fe74d1) :
    Goes M o (execFwStageFirmware a0 a1 a2 a3 a4 s) := by
  unfold execFwStageFirmware
  try dsimp only
  repeat' first
    | (intro _)
    | with_reducible first
        | assumption | apply Goes.next | apply State.checked_evolves | apply State.fwStage_evolves
        | apply Evolves.ite | apply Evolves.foldl
    | exact mask_trans (by decide) hm
    | exact mask_bit hm (by decide)
    | fail_if_no_progress beta_reduce
    | split
    | fail_if_no_progress with_reducible apply Evolves.parts
    | exact Or.inl (by with_reducible rfl)
    | exact mask_part hm (by decide)

theorem execFwStageElementMap_goes {s : State} (a0 a1 a2 a3 a4) (h : Evolves M o s)
    (hm : 0x8c1000000000000000000000000000400005000000000000010000000000000000000000000000000000000000000000000000000000000000000000000fe74d1 &&& M = 0x8c1000000000000000000000000000400005000000000000010000000000000000000000000000000000000000000000000000000000000000000000000fe74d1) :
    Goes M o (execFwStageElementMap a0 a1 a2 a3 a4 s) := by
  unfold execFwStageElementMap
  try dsimp only
  repeat' first
    | (intro _)
    | with_reducible first
        | assumption | apply Goes.next | apply State.checked_evolves | apply State.fwStage_evolves
        | apply Evolves.ite | apply Evolves.foldl
    | exact mask_trans (by decide) hm
    | exact mask_bit hm (by decide)
    | fail_if_no_progress beta_reduce
    | split
    | fail_if_no_progress with_reducible apply Evolves.parts
    | exact Or.inl (by with_reducible rfl)
    | exact mask_part hm (by decide)

theorem State.endXfer_evolves {s : State} (a1 a2) (h : Evolves M o s)
    (hm : 0x80000000000000000000000000000400000000000000000000000000000000000000000000000000000000000000000000000000000000000000000000000410 &&& M = 0x80000000000000000000000000000400000000000000000000000000000000000000000000000000000000000000000000000000000000000000000000000410) :
    Evolves M o (State.endXfer s a1 a2) := by
  unfold State.endXfer
  try dsimp only
  repeat' first
    | (intro _)
    | with_reducible first
        | assumption | apply State.finish_evolves | apply State.showStaging_evolves | apply State.modBoot_evolves
        | apply Evolves.ite | apply Evolves.foldl
    | exact mask_trans (by decide) hm
    | exact mask_bit hm (by decide)
    | fail_if_no_progress beta_reduce
    | split
    | fail_if_no_progress with_reducible apply Evolves.parts
    | exact Or.inl (by with_reducible rfl)
    | exact mask_part hm (by decide)

theorem execFwBulkStatus_goes {s : State} (a0 a1 a2) (h : Evolves M o s)
    (hm : 0x5000000000000010000000000000000000000000000000000000000000000000000000000000000000000000007400 &&& M = 0x5000000000000010000000000000000000000000000000000000000000000000000000000000000000000000007400) :
    Goes M o (execFwBulkStatus a0 a1 a2 s) := by
  unfold execFwBulkStatus
  try dsimp only
  repeat' first
    | (intro _)
    | with_reducible first
        | assumption | apply Goes.next | apply State.sendBulk_evolves | apply State.modBoot_evolves
        | apply Evolves.ite | apply Evolves.foldl
    | exact mask_trans (by decide) hm
    | exact mask_bit hm (by decide)
    | fail_if_no_progress beta_reduce
    | split
    | fail_if_no_progress with_reducible apply Evolves.parts
    | exact Or.inl (by with_reducible rfl)
    | exact mask_part hm (by decide)

theorem execFwBulkDone_goes {s : State} (a0 a1 a2) (h : Evolves M o s)
    (hm : 0x80000000000000000000000000000400000000000000000000000000000000000000000000000000000000000000000000000000000000000000000000000410 &&& M = 0x80000000000000000000000000000400000000000000000000000000000000000000000000000000000000000000000000000000000000000000000000000410) :
    Goes M o (execFwBulkDone a0 a1 a2 s) := by
  unfold execFwBulkDone
  try dsimp only
  repeat' first
    | (intro _)
    | with_reducible first
        | assumption | apply Goes.next | apply State.endXfer_evolves | apply Evolves.ite | apply Evolves.foldl
    | exact mask_trans (by decide) hm
    | exact mask_bit hm (by decide)
    | fail_if_no_progress beta_reduce
    | split
    | fail_if_no_progress with_reducible apply Evolves.parts
    | exact Or.inl (by with_reducible rfl)
    | exact mask_part hm (by decide)

theorem execFwBulkTimeout_goes {s : State} (a0) (h : Evolves M o s)
    (hm : 0x80000000000000000000000000000400005000000000000010000000000000000000000000000000000000000000000000000000000000000000000000007410 &&& M = 0x80000000000000000000000000000400005000000000000010000000000000000000000000000000000000000000000000000000000000000000000000007410) :
    Goes M o (execFwBulkTimeout a0 s) := by
  unfold execFwBulkTimeout
  try dsimp only
  repeat' first
    | (intro _)
    | with_reducible first
        | assumption | apply Goes.next | apply State.endXfer_evolves | apply State.sendBulk_evolves
        | apply State.modBoot_evolves | apply Evolves.ite | apply Evolves.foldl
    | exact mask_trans (by decide) hm
    | exact mask_bit hm (by decide)
    | fail_if_no_progress beta_reduce
    | split
    | fail_if_no_progress with_reducible apply Evolves.parts
    | exact Or.inl (by with_reducible rfl)
    | exact mask_part hm (by decide)

theorem State.refuseXfer_evolves {s : State} (a1 a2 a3 a4 a5) (h : Evolves M o s)
    (hm : 0x5000000000000010000000000000000000000000000000000000000000000000000000000000000000000000007000 &&& M = 0x5000000000000010000000000000000000000000000000000000000000000000000000000000000000000000007000) :
    Evolves M o (State.refuseXfer s a1 a2 a3 a4 a5) := by
  unfold State.refuseXfer
  try dsimp only
  repeat' first
    | (intro _)
    | with_reducible first
        | assumption | apply State.sendBulkReply_evolves | apply Evolves.ite | apply Evolves.foldl
    | exact mask_trans (by decide) hm
    | exact mask_bit hm (by decide)
    | fail_if_no_progress beta_reduce
    | split
    | fail_if_no_progress with_reducible apply Evolves.parts
    | exact Or.inl (by with_reducible rfl)
    | exact mask_part hm (by decide)

theorem State.takeBulk_evolves {s : State} (a1 a2 a3) (h : Evolves M o s)
    (hm : 0x8c1000000000000000000000000000000005000000000000010000000000000000000000000000000000000000000000000000000000000000000000000fe7481 &&& M = 0x8c1000000000000000000000000000000005000000000000010000000000000000000000000000000000000000000000000000000000000000000000000fe7481) :
    Evolves M o (State.takeBulk s a1 a2 a3) := by
  unfold State.takeBulk
  try dsimp only
  repeat' first
    | (intro _)
    | with_reducible first
        | assumption | apply State.sendBulkReply_evolves | apply State.stage_evolves
        | apply State.showStaging_evolves | apply State.modBoot_evolves | apply Evolves.ite | apply Evolves.foldl
    | exact mask_trans (by decide) hm
    | exact mask_bit hm (by decide)
    | fail_if_no_progress beta_reduce
    | split
    | fail_if_no_progress with_reducible apply Evolves.parts
    | exact Or.inl (by with_reducible rfl)
    | exact mask_part hm (by decide)

theorem execFwBulkData_goes {s : State} (a0 a1 a2 a3 a4 a5) (h : Evolves M o s)
    (hm : 0x8c1000000000000000000000000000000005000000000000010000000000000000000000000000000000000000000000000000000000000000000000000fe7481 &&& M = 0x8c1000000000000000000000000000000005000000000000010000000000000000000000000000000000000000000000000000000000000000000000000fe7481) :
    Goes M o (execFwBulkData a0 a1 a2 a3 a4 a5 s) := by
  unfold execFwBulkData
  try dsimp only
  repeat' first
    | (intro _)
    | with_reducible first
        | assumption | apply Goes.next | apply State.takeBulk_evolves | apply State.refuseXfer_evolves
        | apply State.showStaging_evolves | apply State.modBoot_evolves | apply Evolves.ite | apply Evolves.foldl
    | exact mask_trans (by decide) hm
    | exact mask_bit hm (by decide)
    | fail_if_no_progress beta_reduce
    | split
    | fail_if_no_progress with_reducible apply Evolves.parts
    | exact Or.inl (by with_reducible rfl)
    | exact mask_part hm (by decide)

theorem execFwActivateFirmware_goes {s : State} (a0) (h : Evolves M o s)
    (hm : 0x1010000000000000000000000000004000000000000000000000000000000000000000012000000000000000000000000000000000000000000000000000004d8 &&& M = 0x1010000000000000000000000000004000000000000000000000000000000000000000012000000000000000000000000000000000000000000000000000004d8) :
    Goes M o (execFwActivateFirmware a0 s) := by
  unfold execFwActivateFirmware
  try dsimp only
  repeat' first
    | (intro _)
    | with_reducible first
        | assumption | apply Goes.next | apply State.checked_evolves | apply State.status_evolves
        | apply State.countRefused_evolves | apply State.modBoot_evolves | apply State.entered_evolves
        | apply State.offline_evolves | apply State.wrBit_evolves | apply Evolves.ite | apply Evolves.foldl
    | exact mask_trans (by decide) hm
    | exact mask_bit hm (by decide)
    | fail_if_no_progress beta_reduce
    | split
    | fail_if_no_progress with_reducible apply Evolves.parts
    | exact Or.inl (by with_reducible rfl)
    | exact mask_part hm (by decide)

theorem execForesterRestartComplete_goes {s : State} (a0) (h : Evolves M o s)
    (hm : 0x28d55000000000000000000000000000400000000000000000000000000000000000000000000000000000000000000000000000000000000000000000000000410 &&& M = 0x28d55000000000000000000000000000400000000000000000000000000000000000000000000000000000000000000000000000000000000000000000000000410) :
    Goes M o (execForesterRestartComplete a0 s) := by
  unfold execForesterRestartComplete
  try dsimp only
  repeat' first
    | (intro _)
    | with_reducible first
        | assumption | apply Goes.next | apply State.modBoot_evolves | apply State.extend_evolves
        | apply State.wrBit_evolves | apply State.wr_evolves | apply State.finishOpt_evolves
        | apply State.showStaged_evolves | apply State.countRefused_evolves | apply Evolves.ite | apply Evolves.foldl
    | exact mask_trans (by decide) hm
    | exact mask_bit hm (by decide)
    | fail_if_no_progress beta_reduce
    | split
    | fail_if_no_progress with_reducible apply Evolves.parts
    | exact Or.inl (by with_reducible rfl)
    | exact mask_part hm (by decide)

theorem execForesterWatchdog_goes {s : State} (h : Evolves M o s)
    (hm : 0x80 &&& M = 0x80) :
    Goes M o (execForesterWatchdog s) := by
  unfold execForesterWatchdog
  try dsimp only
  repeat' first
    | (intro _)
    | with_reducible first
        | assumption | apply Goes.next | apply State.report_evolves | apply Evolves.ite | apply Evolves.foldl
    | exact mask_trans (by decide) hm
    | exact mask_bit hm (by decide)
    | fail_if_no_progress beta_reduce
    | split
    | fail_if_no_progress with_reducible apply Evolves.parts
    | exact Or.inl (by with_reducible rfl)
    | exact mask_part hm (by decide)

theorem execFwActivateElementMap_goes {s : State} (a0) (h : Evolves M o s)
    (hm : 0x1010000000000000000000000000004000000000000000000000000000000000000000000000000000000000000000000000000000000000000000000007004d1 &&& M = 0x1010000000000000000000000000004000000000000000000000000000000000000000000000000000000000000000000000000000000000000000000007004d1) :
    Goes M o (execFwActivateElementMap a0 s) := by
  unfold execFwActivateElementMap
  try dsimp only
  repeat' first
    | (intro _)
    | with_reducible first
        | assumption | apply Goes.next | apply State.checked_evolves | apply State.status_evolves
        | apply State.showCheck_evolves | apply State.countRefused_evolves | apply State.extend_evolves
        | apply State.entered_evolves | apply State.wrBit_evolves | apply Evolves.ite | apply Evolves.foldl
    | exact mask_trans (by decide) hm
    | exact mask_bit hm (by decide)
    | fail_if_no_progress beta_reduce
    | split
    | fail_if_no_progress with_reducible apply Evolves.parts
    | exact Or.inl (by with_reducible rfl)
    | exact mask_part hm (by decide)

theorem State.dropRecords_evolves {s : State} (h : Evolves M o s)
    (hm : 0x4808000209000000000000002 &&& M = 0x4808000209000000000000002) :
    Evolves M o (State.dropRecords s) := by
  unfold State.dropRecords
  try dsimp only
  repeat' first
    | (intro _)
    | with_reducible first
        | assumption | apply State.modLoop_evolves | apply State.park_evolves | apply State.showCleared_evolves
        | apply Evolves.ite | apply Evolves.foldl
    | exact mask_trans (by decide) hm
    | exact mask_bit hm (by decide)
    | fail_if_no_progress beta_reduce
    | split
    | fail_if_no_progress with_reducible apply Evolves.parts
    | exact Or.inl (by with_reducible rfl)
    | exact mask_part hm (by decide)

theorem State.remapSlots_evolves {s : State} (a1) (h : Evolves M o s)
    (hm : 0x4 &&& M = 0x4) :
    Evolves M o (State.remapSlots s a1) := by
  unfold State.remapSlots
  try dsimp only
  repeat' first
    | (intro _)
    | with_reducible first
        | assumption | apply State.modTrv_evolves | apply Evolves.ite | apply Evolves.foldl
    | exact mask_trans (by decide) hm
    | exact mask_bit hm (by decide)
    | fail_if_no_progress beta_reduce
    | split
    | fail_if_no_progress with_reducible apply Evolves.parts
    | exact Or.inl (by with_reducible rfl)
    | exact mask_part hm (by decide)

theorem State.endActivation_evolves {s : State} (a1) (h : Evolves M o s)
    (hm : 0x10000000000000000000000000000040000000000000000000000000000000000000000000000007800000000000000000000000480800020b4000001c18e0097 &&& M = 0x10000000000000000000000000000040000000000000000000000000000000000000000000000007800000000000000000000000480800020b4000001c18e0097) :
    Evolves M o (State.endActivation s a1) := by
  unfold State.endActivation
  try dsimp only
  repeat' first
    | (intro _)
    | with_reducible first
        | assumption | apply State.dropRecords_evolves | apply State.remapSlots_evolves | apply State.wrBit_evolves
        | apply State.showMap_evolves | apply State.putForce_evolves | apply State.loadMapSettings_evolves
        | apply State.finish_evolves | apply Evolves.ite | apply Evolves.foldl
    | exact mask_trans (by decide) hm
    | exact mask_bit hm (by decide)
    | fail_if_no_progress beta_reduce
    | split
    | fail_if_no_progress with_reducible apply Evolves.parts
    | exact Or.inl (by with_reducible rfl)
    | exact mask_part hm (by decide)

theorem execFlashWriteComplete_goes {s : State} (a0) (h : Evolves M o s)
    (hm : 0x10100000000000000000000000000040000500000000000001000000000000000000000000000007800000000000000000000000480800020b4000001c18f70f7 &&& M = 0x10100000000000000000000000000040000500000000000001000000000000000000000000000007800000000000000000000000480800020b4000001c18f70f7) :
    Goes M o (execFlashWriteComplete a0 s) := by
  unfold execFlashWriteComplete
  try dsimp only
  repeat' first
    | (intro _)
    | with_reducible first
        | assumption | apply Goes.next | apply State.modEl_evolves | apply State.modLoop_evolves
        | apply State.runResult_evolves | apply State.supEvent_evolves | apply State.endActivation_evolves
        | apply State.countRefused_evolves | apply Evolves.ite | apply Evolves.foldl
    | exact mask_trans (by decide) hm
    | exact mask_bit hm (by decide)
    | fail_if_no_progress beta_reduce
    | split
    | fail_if_no_progress with_reducible apply Evolves.parts
    | exact Or.inl (by with_reducible rfl)
    | exact mask_part hm (by decide)

theorem execGlbResetWrite_goes {s : State} (a0) (h : Evolves M o s)
    (hm : 0x80 &&& M = 0x80) :
    Goes M o (execGlbResetWrite a0 s) := by
  unfold execGlbResetWrite
  try dsimp only
  repeat' first
    | (intro _)
    | with_reducible first
        | assumption | apply Goes.next | apply State.expertWrite_evolves | apply State.noteDiscard_evolves
        | apply Evolves.ite | apply Evolves.foldl
    | exact mask_trans (by decide) hm
    | exact mask_bit hm (by decide)
    | fail_if_no_progress beta_reduce
    | split
    | fail_if_no_progress with_reducible apply Evolves.parts
    | exact Or.inl (by with_reducible rfl)
    | exact mask_part hm (by decide)

theorem execFuseProgWrite_goes {s : State} (a0 a1) (h : Evolves M o s)
    (hm : 0x23001000000000000000000000000000000000000000000000000000000000000000000000000000000000000000000000000000000000000000000000000000480 &&& M = 0x23001000000000000000000000000000000000000000000000000000000000000000000000000000000000000000000000000000000000000000000000000000480) :
    Goes M o (execFuseProgWrite a0 a1 s) := by
  unfold execFuseProgWrite
  try dsimp only
  repeat' first
    | (intro _)
    | with_reducible first
        | assumption | apply Goes.next | apply State.expertWrite_evolves | apply State.noteDiscard_evolves
        | apply State.wrBit_evolves | apply State.countRefused_evolves | apply State.extendEvent_evolves
        | apply Evolves.ite | apply Evolves.foldl
    | exact mask_trans (by decide) hm
    | exact mask_bit hm (by decide)
    | fail_if_no_progress beta_reduce
    | split
    | fail_if_no_progress with_reducible apply Evolves.parts
    | exact Or.inl (by with_reducible rfl)
    | exact mask_part hm (by decide)

theorem execJtagInstructionLoad_goes {s : State} (a0) (h : Evolves M o s)
    (hm : 0x400 &&& M = 0x400) :
    Goes M o (execJtagInstructionLoad a0 s) := by
  unfold execJtagInstructionLoad
  try dsimp only
  repeat' first
    | (intro _)
    | with_reducible first
        | assumption | apply Goes.next | apply State.modBoot_evolves | apply State.extendEvent_evolves
        | apply Evolves.ite | apply Evolves.foldl
    | exact mask_trans (by decide) hm
    | exact mask_bit hm (by decide)
    | fail_if_no_progress beta_reduce
    | split
    | fail_if_no_progress with_reducible apply Evolves.parts
    | exact Or.inl (by with_reducible rfl)
    | exact mask_part hm (by decide)

/-! ## Sched -/

theorem State.showBound_evolves {s : State} (a1) (h : Evolves M o s)
    (hm : 0x6000000000000000000000000000000000000000000000000000000000000000000000000000000000000000000 &&& M = 0x6000000000000000000000000000000000000000000000000000000000000000000000000000000000000000000) :
    Evolves M o (State.showBound s a1) := by
  unfold State.showBound
  try dsimp only
  repeat' first
    | (intro _)
    | with_reducible first
        | assumption | apply State.wr_evolves | apply Evolves.ite | apply Evolves.foldl
    | exact mask_trans (by decide) hm
    | exact mask_bit hm (by decide)
    | fail_if_no_progress beta_reduce
    | split
    | fail_if_no_progress with_reducible apply Evolves.parts
    | exact Or.inl (by with_reducible rfl)
    | exact mask_part hm (by decide)

theorem State.setCredit_evolves {s : State} (a1 a2 a3) (h : Evolves M o s)
    (hm : 0x800000000000000000000000000000000000000000000000000000000000000000000000000000000000000004000 &&& M = 0x800000000000000000000000000000000000000000000000000000000000000000000000000000000000000004000) :
    Evolves M o (State.setCredit s a1 a2 a3) := by
  unfold State.setCredit
  try dsimp only
  repeat' first
    | (intro _)
    | with_reducible first
        | assumption | apply State.wr_evolves | apply State.modSp_evolves | apply Evolves.ite | apply Evolves.foldl
    | exact mask_trans (by decide) hm
    | exact mask_bit hm (by decide)
    | fail_if_no_progress beta_reduce
    | split
    | fail_if_no_progress with_reducible apply Evolves.parts
    | exact Or.inl (by with_reducible rfl)
    | exact mask_part hm (by decide)

theorem State.accrueClass_evolves {s : State} (a1 a2 a3) (h : Evolves M o s)
    (hm : 0x800000000000000000000000000000000000000000000000000000000000000000000000000000000000000004000 &&& M = 0x800000000000000000000000000000000000000000000000000000000000000000000000000000000000000004000) :
    Evolves M o (State.accrueClass s a1 a2 a3) := by
  unfold State.accrueClass
  try dsimp only
  repeat' first
    | (intro _)
    | with_reducible first
        | assumption | apply State.setCredit_evolves | apply Evolves.ite | apply Evolves.foldl
    | exact mask_trans (by decide) hm
    | exact mask_bit hm (by decide)
    | fail_if_no_progress beta_reduce
    | split
    | fail_if_no_progress with_reducible apply Evolves.parts
    | exact Or.inl (by with_reducible rfl)
    | exact mask_part hm (by decide)

theorem State.accrue_evolves {s : State} (a1 a2) (h : Evolves M o s)
    (hm : 0x800000000000000000000000000000000000000000000000000000000000000000000000000000000000000004000 &&& M = 0x800000000000000000000000000000000000000000000000000000000000000000000000000000000000000004000) :
    Evolves M o (State.accrue s a1 a2) := by
  unfold State.accrue
  try dsimp only
  repeat' first
    | (intro _)
    | with_reducible first
        | assumption | apply State.accrueClass_evolves | apply State.modSp_evolves | apply Evolves.ite
        | apply Evolves.foldl
    | exact mask_trans (by decide) hm
    | exact mask_bit hm (by decide)
    | fail_if_no_progress beta_reduce
    | split
    | fail_if_no_progress with_reducible apply Evolves.parts
    | exact Or.inl (by with_reducible rfl)
    | exact mask_part hm (by decide)

theorem State.takeShapers_evolves {s : State} (a1) (h : Evolves M o s)
    (hm : 0x800000000000000000000000000000000000000000000000000000000000000000000000000000000000000004000 &&& M = 0x800000000000000000000000000000000000000000000000000000000000000000000000000000000000000004000) :
    Evolves M o (State.takeShapers s a1) := by
  unfold State.takeShapers
  try dsimp only
  repeat' first
    | (intro _)
    | with_reducible first
        | assumption | apply State.modSp_evolves | apply State.setCredit_evolves | apply Evolves.ite
        | apply Evolves.foldl
    | exact mask_trans (by decide) hm
    | exact mask_bit hm (by decide)
    | fail_if_no_progress beta_reduce
    | split
    | fail_if_no_progress with_reducible apply Evolves.parts
    | exact Or.inl (by with_reducible rfl)
    | exact mask_part hm (by decide)

theorem State.endTx_evolves {s : State} (a1 a2) (h : Evolves M o s)
    (hm : 0x800000000000000000000000000000000000000000000000000000000000000000000000000000000000000014000 &&& M = 0x800000000000000000000000000000000000000000000000000000000000000000000000000000000000000014000) :
    Evolves M o (State.endTx s a1 a2) := by
  unfold State.endTx
  try dsimp only
  repeat' first
    | (intro _)
    | with_reducible first
        | assumption | apply State.takeShapers_evolves | apply State.modSp_evolves | apply State.emit_evolves
        | apply Evolves.ite | apply Evolves.foldl
    | exact mask_trans (by decide) hm
    | exact mask_bit hm (by decide)
    | fail_if_no_progress beta_reduce
    | split
    | fail_if_no_progress with_reducible apply Evolves.parts
    | exact Or.inl (by with_reducible rfl)
    | exact mask_part hm (by decide)

theorem State.dropOversize_evolves {s : State} (p c t k) (h : Evolves M o s)
    (hm : 0x9000000000000000000000000000000000000000000000000000000000000000000000000000000000000000004000 &&& M = 0x9000000000000000000000000000000000000000000000000000000000000000000000000000000000000000004000) :
    Evolves M o (State.dropOversize s p c t k) := by
  induction k generalizing s with
  | zero =>
    unfold State.dropOversize
    try dsimp only
    repeat' first
      | (intro _)
      | with_reducible first
          | assumption | apply State.setQueue_evolves | apply State.modSp_evolves | apply State.sat_evolves
          | apply Evolves.ite | apply Evolves.foldl
      | exact mask_trans (by decide) hm
      | exact mask_bit hm (by decide)
      | fail_if_no_progress beta_reduce
      | split
      | fail_if_no_progress with_reducible apply Evolves.parts
      | exact Or.inl (by with_reducible rfl)
      | exact mask_part hm (by decide)
  | succ k ih =>
    unfold State.dropOversize
    try dsimp only
    repeat' first
      | (intro _)
      | with_reducible first
          | assumption | apply ih | apply State.setQueue_evolves | apply State.modSp_evolves
          | apply State.sat_evolves | apply Evolves.ite | apply Evolves.foldl
      | exact mask_trans (by decide) hm
      | exact mask_bit hm (by decide)
      | fail_if_no_progress beta_reduce
      | split
      | fail_if_no_progress with_reducible apply Evolves.parts
      | exact Or.inl (by with_reducible rfl)
      | exact mask_part hm (by decide)

theorem State.startTx_evolves {s : State} (a1 a2 a3) (h : Evolves M o s)
    (hm : 0x1000000000000000000000000000000000000000000000000000000000000000000000000000000000000000004000 &&& M = 0x1000000000000000000000000000000000000000000000000000000000000000000000000000000000000000004000) :
    Evolves M o (State.startTx s a1 a2 a3) := by
  unfold State.startTx
  try dsimp only
  repeat' first
    | (intro _)
    | with_reducible first
        | assumption | apply State.drainCrown_evolves | apply State.modSp_evolves | apply State.setQueue_evolves
        | apply Evolves.ite | apply Evolves.foldl
    | exact mask_trans (by decide) hm
    | exact mask_bit hm (by decide)
    | fail_if_no_progress beta_reduce
    | split
    | fail_if_no_progress with_reducible apply Evolves.parts
    | exact Or.inl (by with_reducible rfl)
    | exact mask_part hm (by decide)

theorem execTransmissionSelect_goes {s : State} (a0 a1) (h : Evolves M o s)
    (hm : 0x9800000000000000000000000000000000000000000000000000000000000000000000000000000000000000014000 &&& M = 0x9800000000000000000000000000000000000000000000000000000000000000000000000000000000000000014000) :
    Goes M o (execTransmissionSelect a0 a1 s) := by
  unfold execTransmissionSelect
  try dsimp only
  repeat' first
    | (intro _)
    | with_reducible first
        | assumption | apply Goes.next | apply State.endTx_evolves | apply State.accrue_evolves
        | apply State.dropOversize_evolves | apply State.startTx_evolves | apply Evolves.ite | apply Evolves.foldl
    | exact mask_trans (by decide) hm
    | exact mask_bit hm (by decide)
    | fail_if_no_progress beta_reduce
    | split
    | fail_if_no_progress with_reducible apply Evolves.parts
    | exact Or.inl (by with_reducible rfl)
    | exact mask_part hm (by decide)

theorem State.showEntry_evolves {s : State} (a1 a2) (h : Evolves M o s)
    (hm : 0x1000000000000000000000000000000000000000000000000000000000000000000000000000000000000000000 &&& M = 0x1000000000000000000000000000000000000000000000000000000000000000000000000000000000000000000) :
    Evolves M o (State.showEntry s a1 a2) := by
  unfold State.showEntry
  try dsimp only
  repeat' first
    | (intro _)
    | with_reducible first
        | assumption | apply State.wr_evolves | apply Evolves.ite | apply Evolves.foldl
    | exact mask_trans (by decide) hm
    | exact mask_bit hm (by decide)
    | fail_if_no_progress beta_reduce
    | split
    | fail_if_no_progress with_reducible apply Evolves.parts
    | exact Or.inl (by with_reducible rfl)
    | exact mask_part hm (by decide)

theorem execGateChange_goes {s : State} (a0 a1) (h : Evolves M o s)
    (hm : 0x801000000000000000000000000000000000000000000000000000000000000000000000000000000000000004000 &&& M = 0x801000000000000000000000000000000000000000000000000000000000000000000000000000000000000004000) :
    Goes M o (execGateChange a0 a1 s) := by
  unfold execGateChange
  try dsimp only
  repeat' first
    | (intro _)
    | with_reducible first
        | assumption | apply Goes.next | apply State.showEntry_evolves | apply State.accrue_evolves
        | apply Evolves.ite | apply Evolves.foldl
    | exact mask_trans (by decide) hm
    | exact mask_bit hm (by decide)
    | fail_if_no_progress beta_reduce
    | split
    | fail_if_no_progress with_reducible apply Evolves.parts
    | exact Or.inl (by with_reducible rfl)
    | exact mask_part hm (by decide)

theorem State.planGcl_evolves {s : State} (a1 a2 a3 a4 a5 a6) (h : Evolves M o s)
    (hm : 0x8000000000000000000000000000000000000000000000000000000000000000000000000000000000004000 &&& M = 0x8000000000000000000000000000000000000000000000000000000000000000000000000000000000004000) :
    Evolves M o (State.planGcl s a1 a2 a3 a4 a5 a6) := by
  unfold State.planGcl
  try dsimp only
  repeat' first
    | (intro _)
    | with_reducible first
        | assumption | apply State.wrBit_evolves | apply State.modSp_evolves | apply Evolves.ite
        | apply Evolves.foldl
    | exact mask_trans (by decide) hm
    | exact mask_bit hm (by decide)
    | fail_if_no_progress beta_reduce
    | split
    | fail_if_no_progress with_reducible apply Evolves.parts
    | exact Or.inl (by with_reducible rfl)
    | exact mask_part hm (by decide)

theorem execGclCommitWrite_goes {s : State} (a0 a1) (h : Evolves M o s)
    (hm : 0x18000000000000000000000000000000000000000000000000000000000000000000000000000000000004000 &&& M = 0x18000000000000000000000000000000000000000000000000000000000000000000000000000000000004000) :
    Goes M o (execGclCommitWrite a0 a1 s) := by
  unfold execGclCommitWrite
  try dsimp only
  repeat' first
    | (intro _)
    | with_reducible first
        | assumption | apply Goes.next | apply State.planGcl_evolves | apply State.wrBit_evolves | apply Evolves.ite
        | apply Evolves.foldl
    | exact mask_trans (by decide) hm
    | exact mask_bit hm (by decide)
    | fail_if_no_progress beta_reduce
    | split
    | fail_if_no_progress with_reducible apply Evolves.parts
    | exact Or.inl (by with_reducible rfl)
    | exact mask_part hm (by decide)

theorem State.putGcl_evolves {s : State} (a1 a2 a3 a4) (h : Evolves M o s) (hb1 : M.testBit (17 + (a1 : Fid).ctorIdx) = true) (hb2 : M.testBit (17 + (a2 : Fid).ctorIdx) = true)
    (hm : 0x0 &&& M = 0x0) :
    Evolves M o (State.putGcl s a1 a2 a3 a4) := by
  unfold State.putGcl
  try dsimp only
  repeat' first
    | (intro _)
    | with_reducible first
        | assumption | apply State.wr_evolves | apply Evolves.ite | apply Evolves.foldl
    | exact mask_trans (by decide) hm
    | exact mask_bit hm (by decide)
    | fail_if_no_progress beta_reduce
    | split
    | fail_if_no_progress with_reducible apply Evolves.parts
    | exact Or.inl (by with_reducible rfl)
    | exact mask_part hm (by decide)

theorem execGclSwitch_goes {s : State} (a0 a1) (h : Evolves M o s)
    (hm : 0x8c7808000000000000000000000000000000000000000000000000000000000000000000000000000000000004000 &&& M = 0x8c7808000000000000000000000000000000000000000000000000000000000000000000000000000000000004000) :
    Goes M o (execGclSwitch a0 a1 s) := by
  unfold execGclSwitch
  try dsimp only
  repeat' first
    | (intro _)
    | with_reducible first
        | assumption | apply Goes.next | apply State.wr_evolves | apply State.putGcl_evolves
        | apply State.accrue_evolves | apply State.modSp_evolves | apply State.showBound_evolves
        | apply State.showEntry_evolves | apply State.wrBit_evolves | apply Evolves.ite | apply Evolves.foldl
    | exact mask_trans (by decide) hm
    | exact mask_bit hm (by decide)
    | fail_if_no_progress beta_reduce
    | split
    | fail_if_no_progress with_reducible apply Evolves.parts
    | exact Or.inl (by with_reducible rfl)
    | exact mask_part hm (by decide)

theorem execChsCounterClearWrite_goes {s : State} (a0) (h : Evolves M o s)
    (hm : 0xc008000000000000000000000000000000000000000000000000000000000000000000000000000000000000000000 &&& M = 0xc008000000000000000000000000000000000000000000000000000000000000000000000000000000000000000000) :
    Goes M o (execChsCounterClearWrite a0 s) := by
  unfold execChsCounterClearWrite
  try dsimp only
  repeat' first
    | (intro _)
    | with_reducible first
        | assumption | apply Goes.next | apply State.wr_evolves | apply Evolves.ite | apply Evolves.foldl
    | exact mask_trans (by decide) hm
    | exact mask_bit hm (by decide)
    | fail_if_no_progress beta_reduce
    | split
    | fail_if_no_progress with_reducible apply Evolves.parts
    | exact Or.inl (by with_reducible rfl)
    | exact mask_part hm (by decide)

theorem State.samplePort_evolves {s : State} (a1 a2) (h : Evolves M o s)
    (hm : 0x47000000000000010000000000000000000000000000000000000000000000000000000000000000000000000017060 &&& M = 0x47000000000000010000000000000000000000000000000000000000000000000000000000000000000000000017060) :
    Evolves M o (State.samplePort s a1 a2) := by
  unfold State.samplePort
  try dsimp only
  repeat' first
    | (intro _)
    | with_reducible first
        | assumption | apply State.modSp_evolves | apply State.wr_evolves | apply State.telRound_evolves
        | apply State.sat_evolves | apply Evolves.ite | apply Evolves.foldl
    | exact mask_trans (by decide) hm
    | exact mask_bit hm (by decide)
    | fail_if_no_progress beta_reduce
    | split
    | fail_if_no_progress with_reducible apply Evolves.parts
    | exact Or.inl (by with_reducible rfl)
    | exact mask_part hm (by decide)

theorem execQueueSample_goes {s : State} (a0) (h : Evolves M o s)
    (hm : 0x47800000000000010000000000000000000000000000000000000000000000000000000000000000000000000017060 &&& M = 0x47800000000000010000000000000000000000000000000000000000000000000000000000000000000000000017060) :
    Goes M o (execQueueSample a0 s) := by
  unfold execQueueSample
  try dsimp only
  repeat' first
    | (intro _)
    | with_reducible first
        | assumption | apply Goes.next | apply State.samplePort_evolves | apply State.accrue_evolves
        | apply Evolves.ite | apply Evolves.foldl
    | exact mask_trans (by decide) hm
    | exact mask_bit hm (by decide)
    | fail_if_no_progress beta_reduce
    | split
    | fail_if_no_progress with_reducible apply Evolves.parts
    | exact Or.inl (by with_reducible rfl)
    | exact mask_part hm (by decide)

theorem execSchedCfgGcl_goes {s : State} (a0 a1 a2 a3 a4 a5 a6 a7) (h : Evolves M o s)
    (hm : 0x4000000307c8000000000000000000000000000000000000000000000000000000000000000000000000000000000004050 &&& M = 0x4000000307c8000000000000000000000000000000000000000000000000000000000000000000000000000000000004050) :
    Goes M o (execSchedCfgGcl a0 a1 a2 a3 a4 a5 a6 a7 s) := by
  unfold execSchedCfgGcl
  try dsimp only
  repeat' first
    | (intro _)
    | with_reducible first
        | assumption | apply Goes.next | apply State.checked_evolves | apply State.putGcl_evolves
        | apply State.wr_evolves | apply State.status_evolves | apply State.planGcl_evolves | apply Evolves.ite
        | apply Evolves.foldl
    | exact mask_trans (by decide) hm
    | exact mask_bit hm (by decide)
    | fail_if_no_progress beta_reduce
    | split
    | fail_if_no_progress with_reducible apply Evolves.parts
    | exact Or.inl (by with_reducible rfl)
    | exact mask_part hm (by decide)

theorem execSchedCfgShaper_goes {s : State} (a0 a1 a2 a3 a4 a5) (h : Evolves M o s)
    (hm : 0x400000f00000000000000000000000000000000000000000000000000000000000000000000000000000000000000004050 &&& M = 0x400000f00000000000000000000000000000000000000000000000000000000000000000000000000000000000000004050) :
    Goes M o (execSchedCfgShaper a0 a1 a2 a3 a4 a5 s) := by
  unfold execSchedCfgShaper
  try dsimp only
  repeat' first
    | (intro _)
    | with_reducible first
        | assumption | apply Goes.next | apply State.checked_evolves | apply State.status_evolves
        | apply State.takeShapers_evolves | apply State.wr_evolves | apply Evolves.ite | apply Evolves.foldl
    | exact mask_trans (by decide) hm
    | exact mask_bit hm (by decide)
    | fail_if_no_progress beta_reduce
    | split
    | fail_if_no_progress with_reducible apply Evolves.parts
    | exact Or.inl (by with_reducible rfl)
    | exact mask_part hm (by decide)

theorem execSchedCfgOverhead_goes {s : State} (a0 a1 a2) (h : Evolves M o s)
    (hm : 0x400000000002000000000000000000000000000000000000000000000000000000000000000000000000000000000000050 &&& M = 0x400000000002000000000000000000000000000000000000000000000000000000000000000000000000000000000000050) :
    Goes M o (execSchedCfgOverhead a0 a1 a2 s) := by
  unfold execSchedCfgOverhead
  try dsimp only
  repeat' first
    | (intro _)
    | with_reducible first
        | assumption | apply Goes.next | apply State.checked_evolves | apply State.status_evolves
        | apply State.wr_evolves | apply Evolves.ite | apply Evolves.foldl
    | exact mask_trans (by decide) hm
    | exact mask_bit hm (by decide)
    | fail_if_no_progress beta_reduce
    | split
    | fail_if_no_progress with_reducible apply Evolves.parts
    | exact Or.inl (by with_reducible rfl)
    | exact mask_part hm (by decide)

theorem State.policeChanged_evolves {s : State} (a1 a2 a3) (h : Evolves M o s)
    (hm : 0x601800000000000000000000000000000000000000000000000000000000000000000000000000000000000000000000050 &&& M = 0x601800000000000000000000000000000000000000000000000000000000000000000000000000000000000000000000050) :
    Evolves M o (State.policeChanged s a1 a2 a3) := by
  unfold State.policeChanged
  try dsimp only
  repeat' first
    | (intro _)
    | with_reducible first
        | assumption | apply State.setLevel_evolves | apply State.setHeld_evolves | apply State.releaseHold_evolves
        | apply Evolves.ite | apply Evolves.foldl
    | exact mask_trans (by decide) hm
    | exact mask_bit hm (by decide)
    | fail_if_no_progress beta_reduce
    | split
    | fail_if_no_progress with_reducible apply Evolves.parts
    | exact Or.inl (by with_reducible rfl)
    | exact mask_part hm (by decide)

theorem execSchedCfgPolice_goes {s : State} (a0 a1 a2 a3 a4 a5) (h : Evolves M o s)
    (hm : 0x601f80000000000000000000000000000000000000000000000000000000000000000000000000000000000000000000050 &&& M = 0x601f80000000000000000000000000000000000000000000000000000000000000000000000000000000000000000000050) :
    Goes M o (execSchedCfgPolice a0 a1 a2 a3 a4 a5 s) := by
  unfold execSchedCfgPolice
  try dsimp only
  repeat' first
    | (intro _)
    | with_reducible first
        | assumption | apply Goes.next | apply State.checked_evolves | apply State.wr_evolves
        | apply State.status_evolves | apply State.policeChanged_evolves | apply Evolves.ite | apply Evolves.foldl
    | exact mask_trans (by decide) hm
    | exact mask_bit hm (by decide)
    | fail_if_no_progress beta_reduce
    | split
    | fail_if_no_progress with_reducible apply Evolves.parts
    | exact Or.inl (by with_reducible rfl)
    | exact mask_part hm (by decide)

theorem execSchedCfgSampling_goes {s : State} (a0 a1 a2) (h : Evolves M o s)
    (hm : 0x400030000000000000000000000000000000000000000000000000000000000000000000000000000000000000000000050 &&& M = 0x400030000000000000000000000000000000000000000000000000000000000000000000000000000000000000000000050) :
    Goes M o (execSchedCfgSampling a0 a1 a2 s) := by
  unfold execSchedCfgSampling
  try dsimp only
  repeat' first
    | (intro _)
    | with_reducible first
        | assumption | apply Goes.next | apply State.checked_evolves | apply State.status_evolves
        | apply State.wr_evolves | apply Evolves.ite | apply Evolves.foldl
    | exact mask_trans (by decide) hm
    | exact mask_bit hm (by decide)
    | fail_if_no_progress beta_reduce
    | split
    | fail_if_no_progress with_reducible apply Evolves.parts
    | exact Or.inl (by with_reducible rfl)
    | exact mask_part hm (by decide)

theorem execSchedCfgReadSamples_goes {s : State} (a0 a1 a2 a3) (h : Evolves M o s)
    (hm : 0x400000000000000000000000000000000000000000000000000000000000000000000000000000000000000000000012050 &&& M = 0x400000000000000000000000000000000000000000000000000000000000000000000000000000000000000000000012050) :
    Goes M o (execSchedCfgReadSamples a0 a1 a2 a3 s) := by
  unfold execSchedCfgReadSamples
  try dsimp only
  repeat' first
    | (intro _)
    | with_reducible first
        | assumption | apply Goes.next | apply State.checked_evolves | apply State.status_evolves
        | apply State.hostWrite_evolves | apply Evolves.ite | apply Evolves.foldl
    | exact mask_trans (by decide) hm
    | exact mask_bit hm (by decide)
    | fail_if_no_progress beta_reduce
    | split
    | fail_if_no_progress with_reducible apply Evolves.parts
    | exact Or.inl (by with_reducible rfl)
    | exact mask_part hm (by decide)

end Sys2Proof.Machine
end

