-- ==== Sys2Proof/Laws/EvolvesG.lean ====
section
/-! SUPPORT. What each operation and meaning of the files ChainCmds, Contain, DatumGrid, Faults, Firebreak, Frame, Vmode leaves of the state before it
(Evolves). -/

namespace Sys2Proof.Machine

set_option Elab.async false
set_option linter.unusedTactic false
set_option linter.unreachableTactic false
set_option linter.unusedVariables false
set_option linter.unusedSimpArgs false
set_option exponentiation.threshold 1024

variable {M : Nat} {o : State}

/-! ## ChainCmds -/

theorem State.cutLink_evolves {s : State} (a1) (h : Evolves M o s)
    (hm : 0x50080001b04200131ff000000000c24000c00000000000000000000000000000000000000000000000000000017880 &&& M = 0x50080001b04200131ff000000000c24000c00000000000000000000000000000000000000000000000000000017880) :
    Evolves M o (State.cutLink s a1) := by
  unfold State.cutLink
  try dsimp only
  repeat' first
    | (intro _)
    | with_reducible first
        | assumption | apply State.takeLinkDown_evolves | apply State.showCause_evolves | apply Evolves.ite
        | apply Evolves.foldl
    | exact mask_trans (by decide) hm
    | exact mask_bit hm (by decide)
    | fail_if_no_progress beta_reduce
    | split
    | fail_if_no_progress with_reducible apply Evolves.parts
    | exact Or.inl (by with_reducible rfl)
    | exact mask_part hm (by decide)

theorem State.setPortCfg_evolves {s : State} (a1 a2 a3) (h : Evolves M o s)
    (hm : 0x500e0001b04200131ff060000000c24000c00000000000000000000000000000000000000000000000000000017880 &&& M = 0x500e0001b04200131ff060000000c24000c00000000000000000000000000000000000000000000000000000017880) :
    Evolves M o (State.setPortCfg s a1 a2 a3) := by
  unfold State.setPortCfg
  try dsimp only
  repeat' first
    | (intro _)
    | with_reducible first
        | assumption | apply State.wr_evolves | apply State.showBound_evolves | apply State.cutLink_evolves
        | apply Evolves.ite | apply Evolves.foldl
    | exact mask_trans (by decide) hm
    | exact mask_bit hm (by decide)
    | fail_if_no_progress beta_reduce
    | split
    | fail_if_no_progress with_reducible apply Evolves.parts
    | exact Or.inl (by with_reducible rfl)
    | exact mask_part hm (by decide)

theorem execChainCfgPort_goes {s : State} (a0 a1 a2 a3 a4 a5 a6 a7) (h : Evolves M o s)
    (hm : 0x40000500e0001b04200131ff7e0000000c24000c000000000000000000000000000000000000000000000000000000178d0 &&& M = 0x40000500e0001b04200131ff7e0000000c24000c000000000000000000000000000000000000000000000000000000178d0) :
    Goes M o (execChainCfgPort a0 a1 a2 a3 a4 a5 a6 a7 s) := by
  unfold execChainCfgPort
  try dsimp only
  repeat' first
    | (intro _)
    | with_reducible first
        | assumption | apply Goes.next | apply State.checked_evolves | apply State.wr_evolves
        | apply State.status_evolves | apply State.setPortCfg_evolves | apply Evolves.ite | apply Evolves.foldl
    | exact mask_trans (by decide) hm
    | exact mask_bit hm (by decide)
    | fail_if_no_progress beta_reduce
    | split
    | fail_if_no_progress with_reducible apply Evolves.parts
    | exact Or.inl (by with_reducible rfl)
    | exact mask_part hm (by decide)

theorem State.startEnumerate_evolves {s : State} (a1 a2) (h : Evolves M o s)
    (hm : 0x4000050000000f7fa0003080000000000c0000000000000000000000000000000000000000000000000000000000001f010 &&& M = 0x4000050000000f7fa0003080000000000c0000000000000000000000000000000000000000000000000000000000001f010) :
    Evolves M o (State.startEnumerate s a1 a2) := by
  unfold State.startEnumerate
  try dsimp only
  repeat' first
    | (intro _)
    | with_reducible first
        | assumption | apply State.modFab_evolves | apply State.clearFabric_evolves | apply State.useFree_evolves
        | apply State.wr_evolves | apply State.wrBit_evolves | apply State.floodClear_evolves | apply Evolves.ite
        | apply Evolves.foldl
    | exact mask_trans (by decide) hm
    | exact mask_bit hm (by decide)
    | fail_if_no_progress beta_reduce
    | split
    | fail_if_no_progress with_reducible apply Evolves.parts
    | exact Or.inl (by with_reducible rfl)
    | exact mask_part hm (by decide)

theorem execChainCfgEnumerate_goes {s : State} (a0 a1) (h : Evolves M o s)
    (hm : 0x4000050000000f7fa0003080000000000c0000000000000000000000000000000000000000000000000000000000001f050 &&& M = 0x4000050000000f7fa0003080000000000c0000000000000000000000000000000000000000000000000000000000001f050) :
    Goes M o (execChainCfgEnumerate a0 a1 s) := by
  unfold execChainCfgEnumerate
  try dsimp only
  repeat' first
    | (intro _)
    | with_reducible first
        | assumption | apply Goes.next | apply State.checked_evolves | apply State.startEnumerate_evolves
        | apply State.entered_evolves | apply Evolves.ite | apply Evolves.foldl
    | exact mask_trans (by decide) hm
    | exact mask_bit hm (by decide)
    | fail_if_no_progress beta_reduce
    | split
    | fail_if_no_progress with_reducible apply Evolves.parts
    | exact Or.inl (by with_reducible rfl)
    | exact mask_part hm (by decide)

theorem execChainCfgTest_goes {s : State} (a0 a1 a2 a3 a4 a5) (h : Evolves M o s)
    (hm : 0x4000050080001b04397131ff000000000c24000c000000000000000000000000000000000000000000000000000000178d0 &&& M = 0x4000050080001b04397131ff000000000c24000c000000000000000000000000000000000000000000000000000000178d0) :
    Goes M o (execChainCfgTest a0 a1 a2 a3 a4 a5 s) := by
  unfold execChainCfgTest
  try dsimp only
  repeat' first
    | (intro _)
    | with_reducible first
        | assumption | apply Goes.next | apply State.checked_evolves | apply State.status_evolves
        | apply State.setPattern_evolves | apply State.wr_evolves | apply Evolves.ite | apply Evolves.foldl
    | exact mask_trans (by decide) hm
    | exact mask_bit hm (by decide)
    | fail_if_no_progress beta_reduce
    | split
    | fail_if_no_progress with_reducible apply Evolves.parts
    | exact Or.inl (by with_reducible rfl)
    | exact mask_part hm (by decide)

theorem execChainCfgRemotePolicy_goes {s : State} (a0 a1 a2 a3 a4) (h : Evolves M o s)
    (hm : 0x400000000001e00000000000000000000000000000000000000000000000000000000000000000000000000000000000050 &&& M = 0x400000000001e00000000000000000000000000000000000000000000000000000000000000000000000000000000000050) :
    Goes M o (execChainCfgRemotePolicy a0 a1 a2 a3 a4 s) := by
  unfold execChainCfgRemotePolicy
  try dsimp only
  repeat' first
    | (intro _)
    | with_reducible first
        | assumption | apply Goes.next | apply State.checked_evolves | apply State.wr_evolves
        | apply State.status_evolves | apply Evolves.ite | apply Evolves.foldl
    | exact mask_trans (by decide) hm
    | exact mask_bit hm (by decide)
    | fail_if_no_progress beta_reduce
    | split
    | fail_if_no_progress with_reducible apply Evolves.parts
    | exact Or.inl (by with_reducible rfl)
    | exact mask_part hm (by decide)

theorem State.clearChpCounters_evolves {s : State} (h : Evolves M o s)
    (hm : 0x1000100fc100000000000000000000000000000000000000000000000000000000000000000000000000000 &&& M = 0x1000100fc100000000000000000000000000000000000000000000000000000000000000000000000000000) :
    Evolves M o (State.clearChpCounters s) := by
  unfold State.clearChpCounters
  try dsimp only
  repeat' first
    | (intro _)
    | with_reducible first
        | assumption | apply State.wr_evolves | apply Evolves.ite | apply Evolves.foldl
    | exact mask_trans (by decide) hm
    | exact mask_bit hm (by decide)
    | fail_if_no_progress beta_reduce
    | split
    | fail_if_no_progress with_reducible apply Evolves.parts
    | exact Or.inl (by with_reducible rfl)
    | exact mask_part hm (by decide)

theorem execChainStatus_goes {s : State} (a0 a1 a2 a3) (h : Evolves M o s)
    (hm : 0x4000000000001000100fc100000000000000000000000000000000000000000000000000000000000000000000000012050 &&& M = 0x4000000000001000100fc100000000000000000000000000000000000000000000000000000000000000000000000012050) :
    Goes M o (execChainStatus a0 a1 a2 a3 s) := by
  unfold execChainStatus
  try dsimp only
  repeat' first
    | (intro _)
    | with_reducible first
        | assumption | apply Goes.next | apply State.checked_evolves | apply State.status_evolves
        | apply State.hostWrite_evolves | apply State.clearChpCounters_evolves | apply Evolves.ite
        | apply Evolves.foldl
    | exact mask_trans (by decide) hm
    | exact mask_bit hm (by decide)
    | fail_if_no_progress beta_reduce
    | split
    | fail_if_no_progress with_reducible apply Evolves.parts
    | exact Or.inl (by with_reducible rfl)
    | exact mask_part hm (by decide)

/-! ## Contain -/

theorem State.injected_evolves {s : State} (a1) (h : Evolves M o s)
    (hm : 0xc0000000000000000000000000000000000000000000000000000000000000000000000000000000000000000000000000000000000000000080 &&& M = 0xc0000000000000000000000000000000000000000000000000000000000000000000000000000000000000000000000000000000000000000080) :
    Evolves M o (State.injected s a1) := by
  unfold State.injected
  try dsimp only
  repeat' first
    | (intro _)
    | with_reducible first
        | assumption | apply State.sat_evolves | apply State.wrBit_evolves | apply Evolves.ite | apply Evolves.foldl
    | exact mask_trans (by decide) hm
    | exact mask_bit hm (by decide)
    | fail_if_no_progress beta_reduce
    | split
    | fail_if_no_progress with_reducible apply Evolves.parts
    | exact Or.inl (by with_reducible rfl)
    | exact mask_part hm (by decide)

theorem State.markAll_evolves {s : State} (l reps) (h : Evolves M o s)
    (hm : 0xc0000000000000000000000000000000000000000000000000000000000000000000000000000000000000000000000000000000000000000080 &&& M = 0xc0000000000000000000000000000000000000000000000000000000000000000000000000000000000000000000000000000000000000000080) :
    Evolves M o (State.markAll s l reps).1 := by
  unfold State.markAll
  generalize reps = r
  induction l generalizing s r with
  | nil => exact h
  | cons k l ih =>
    simp only [List.foldl_cons]
    split
    · exact ih (State.injected_evolves _ h (mask_trans (by decide) hm)) _
    · exact ih h _

theorem State.loseContext_evolves {s : State} (a1) (h : Evolves M o s)
    (hm : 0x400000000000000000000000000000000000000000000000000000000000000000000000000000000000000000000000010 &&& M = 0x400000000000000000000000000000000000000000000000000000000000000000000000000000000000000000000000010) :
    Evolves M o (State.loseContext s a1) := by
  unfold State.loseContext
  try dsimp only
  repeat' first
    | (intro _)
    | with_reducible first
        | assumption | apply State.modMb_evolves | apply Evolves.ite | apply Evolves.foldl
    | exact mask_trans (by decide) hm
    | exact mask_bit hm (by decide)
    | fail_if_no_progress beta_reduce
    | split
    | fail_if_no_progress with_reducible apply Evolves.parts
    | exact Or.inl (by with_reducible rfl)
    | exact mask_part hm (by decide)

theorem State.loseRecords_evolves {s : State} (a1) (h : Evolves M o s)
    (hm : 0x10060 &&& M = 0x10060) :
    Evolves M o (State.loseRecords s a1) := by
  unfold State.loseRecords
  try dsimp only
  repeat' first
    | (intro _)
    | with_reducible first
        | assumption | apply State.ringWriteBack_evolves | apply Evolves.ite | apply Evolves.foldl
    | exact mask_trans (by decide) hm
    | exact mask_bit hm (by decide)
    | fail_if_no_progress beta_reduce
    | split
    | fail_if_no_progress with_reducible apply Evolves.parts
    | exact Or.inl (by with_reducible rfl)
    | exact mask_part hm (by decide)

theorem State.loseCalWrite_evolves {s : State} (a1) (h : Evolves M o s)
    (hm : 0x400000000000000000000000000000000000000000000000000000000000000000000000000000000000000000000000012 &&& M = 0x400000000000000000000000000000000000000000000000000000000000000000000000000000000000000000000000012) :
    Evolves M o (State.loseCalWrite s a1) := by
  unfold State.loseCalWrite
  try dsimp only
  repeat' first
    | (intro _)
    | with_reducible first
        | assumption | apply State.modLoop_evolves | apply State.finish_evolves | apply Evolves.ite
        | apply Evolves.foldl
    | exact mask_trans (by decide) hm
    | exact mask_bit hm (by decide)
    | fail_if_no_progress beta_reduce
    | split
    | fail_if_no_progress with_reducible apply Evolves.parts
    | exact Or.inl (by with_reducible rfl)
    | exact mask_part hm (by decide)

theorem State.contain_evolves {s : State} (a1 a2 a3) (h : Evolves M o s)
    (hm : 0x400000000000000000000000000000000000000000000000000000000000000000000000000000000000000000000010077 &&& M = 0x400000000000000000000000000000000000000000000000000000000000000000000000000000000000000000000010077) :
    Evolves M o (State.contain s a1 a2 a3) := by
  unfold State.contain
  try dsimp only
  repeat' first
    | (intro _)
    | with_reducible first
        | assumption | apply State.putSlot_evolves | apply State.modEl_evolves | apply State.loseContext_evolves
        | apply State.loseRecords_evolves | apply State.loseCalWrite_evolves | apply Evolves.ite
        | apply Evolves.foldl
    | exact mask_trans (by decide) hm
    | exact mask_bit hm (by decide)
    | fail_if_no_progress beta_reduce
    | split
    | fail_if_no_progress with_reducible apply Evolves.parts
    | exact Or.inl (by with_reducible rfl)
    | exact mask_part hm (by decide)

theorem execFaultDetected_goes {s : State} (a0 a1 a2 a3) (h : Evolves M o s)
    (hm : 0xc19f800000000010040000500000000000001000000000000000000000000000000000000000000000000000000000000000000000000001f0f7 &&& M = 0xc19f800000000010040000500000000000001000000000000000000000000000000000000000000000000000000000000000000000000001f0f7) :
    Goes M o (execFaultDetected a0 a1 a2 a3 s) := by
  unfold execFaultDetected
  try dsimp only
  repeat' first
    | (intro _)
    | with_reducible first
        | assumption | apply Goes.next | apply State.markAll_evolves | apply State.contain_evolves
        | apply State.collect_evolves | apply Evolves.ite | apply Evolves.foldl
    | exact mask_trans (by decide) hm
    | exact mask_bit hm (by decide)
    | fail_if_no_progress beta_reduce
    | split
    | fail_if_no_progress with_reducible apply Evolves.parts
    | exact Or.inl (by with_reducible rfl)
    | exact mask_part hm (by decide)

/-! ## DatumGrid -/

theorem State.askStep_evolves {s : State} (h : Evolves M o s)
    (hm : 0x2000000000000000000000000000000000000000000000000000000000800 &&& M = 0x2000000000000000000000000000000000000000000000000000000000800) :
    Evolves M o (State.askStep s) := by
  unfold State.askStep
  try dsimp only
  repeat' first
    | (intro _)
    | with_reducible first
        | assumption | apply State.planStep_evolves | apply Evolves.ite | apply Evolves.foldl
    | exact mask_trans (by decide) hm
    | exact mask_bit hm (by decide)
    | fail_if_no_progress beta_reduce
    | split
    | fail_if_no_progress with_reducible apply Evolves.parts
    | exact Or.inl (by with_reducible rfl)
    | exact mask_part hm (by decide)

theorem execDatumCfgRestep_goes {s : State} (a0) (h : Evolves M o s)
    (hm : 0x400000000000000000000000000000000000002000000000000000000000000000000000000000000000000000000000850 &&& M = 0x400000000000000000000000000000000000002000000000000000000000000000000000000000000000000000000000850) :
    Goes M o (execDatumCfgRestep a0 s) := by
  unfold execDatumCfgRestep
  try dsimp only
  repeat' first
    | (intro _)
    | with_reducible first
        | assumption | apply Goes.next | apply State.checked_evolves | apply State.entered_evolves
        | apply State.effect_evolves | apply State.askStep_evolves | apply Evolves.ite | apply Evolves.foldl
    | exact mask_trans (by decide) hm
    | exact mask_bit hm (by decide)
    | fail_if_no_progress beta_reduce
    | split
    | fail_if_no_progress with_reducible apply Evolves.parts
    | exact Or.inl (by with_reducible rfl)
    | exact mask_part hm (by decide)

theorem execRestepWrite_goes {s : State} (h : Evolves M o s)
    (hm : 0x2000000000000000000000000000000000000000000000000000000000800 &&& M = 0x2000000000000000000000000000000000000000000000000000000000800) :
    Goes M o (execRestepWrite s) := by
  unfold execRestepWrite
  try dsimp only
  repeat' first
    | (intro _)
    | with_reducible first
        | assumption | apply Goes.next | apply State.askStep_evolves | apply Evolves.ite | apply Evolves.foldl
    | exact mask_trans (by decide) hm
    | exact mask_bit hm (by decide)
    | fail_if_no_progress beta_reduce
    | split
    | fail_if_no_progress with_reducible apply Evolves.parts
    | exact Or.inl (by with_reducible rfl)
    | exact mask_part hm (by decide)

theorem State.restartWindows_evolves {s : State} (h : Evolves M o s)
    (hm : 0x2 &&& M = 0x2) :
    Evolves M o (State.restartWindows s) := by
  unfold State.restartWindows
  try dsimp only
  repeat' first
    | (intro _)
    | with_reducible first
        | assumption | apply State.modLoop_evolves | apply Evolves.ite | apply Evolves.foldl
    | exact mask_trans (by decide) hm
    | exact mask_bit hm (by decide)
    | fail_if_no_progress beta_reduce
    | split
    | fail_if_no_progress with_reducible apply Evolves.parts
    | exact Or.inl (by with_reducible rfl)
    | exact mask_part hm (by decide)

theorem State.failPw_evolves {s : State} (a1) (h : Evolves M o s)
    (hm : 0x400000000000000000000000000000000000000000000000000000000000000000000000000000000000000000000000012 &&& M = 0x400000000000000000000000000000000000000000000000000000000000000000000000000000000000000000000000012) :
    Evolves M o (State.failPw s a1) := by
  unfold State.failPw
  try dsimp only
  repeat' first
    | (intro _)
    | with_reducible first
        | assumption | apply State.finish_evolves | apply State.modLoop_evolves | apply Evolves.ite
        | apply Evolves.foldl
    | exact mask_trans (by decide) hm
    | exact mask_bit hm (by decide)
    | fail_if_no_progress beta_reduce
    | split
    | fail_if_no_progress with_reducible apply Evolves.parts
    | exact Or.inl (by with_reducible rfl)
    | exact mask_part hm (by decide)

theorem State.disarmByTime_evolves {s : State} (a1) (h : Evolves M o s)
    (hm : 0x400000000000000000000000000000000000000000000000000000000000000000000000000000000000000018002000012 &&& M = 0x400000000000000000000000000000000000000000000000000000000000000000000000000000000000000018002000012) :
    Evolves M o (State.disarmByTime s a1) := by
  unfold State.disarmByTime
  try dsimp only
  repeat' first
    | (intro _)
    | with_reducible first
        | assumption | apply State.showWin_evolves | apply State.modMon_evolves | apply State.failPw_evolves
        | apply Evolves.ite | apply Evolves.foldl
    | exact mask_trans (by decide) hm
    | exact mask_bit hm (by decide)
    | fail_if_no_progress beta_reduce
    | split
    | fail_if_no_progress with_reducible apply Evolves.parts
    | exact Or.inl (by with_reducible rfl)
    | exact mask_part hm (by decide)

theorem State.cancelTrig_evolves {s : State} (a1) (h : Evolves M o s)
    (hm : 0x20000020000000000000000000000000000000000000000000000000000000000010800 &&& M = 0x20000020000000000000000000000000000000000000000000000000000000000010800) :
    Evolves M o (State.cancelTrig s a1) := by
  unfold State.cancelTrig
  try dsimp only
  repeat' first
    | (intro _)
    | with_reducible first
        | assumption | apply State.dtmEvent_evolves | apply State.wrBit_evolves | apply State.modTrig_evolves
        | apply Evolves.ite | apply Evolves.foldl
    | exact mask_trans (by decide) hm
    | exact mask_bit hm (by decide)
    | fail_if_no_progress beta_reduce
    | split
    | fail_if_no_progress with_reducible apply Evolves.parts
    | exact Or.inl (by with_reducible rfl)
    | exact mask_part hm (by decide)

theorem State.shiftPort_evolves {s : State} (a1 a2) (h : Evolves M o s)
    (hm : 0x1000000000000000000000000000000000000000000000000000000000000000000000000000000000000004000 &&& M = 0x1000000000000000000000000000000000000000000000000000000000000000000000000000000000000004000) :
    Evolves M o (State.shiftPort s a1 a2) := by
  unfold State.shiftPort
  try dsimp only
  repeat' first
    | (intro _)
    | with_reducible first
        | assumption | apply State.modSp_evolves | apply State.showEntry_evolves | apply Evolves.ite
        | apply Evolves.foldl
    | exact mask_trans (by decide) hm
    | exact mask_bit hm (by decide)
    | fail_if_no_progress beta_reduce
    | split
    | fail_if_no_progress with_reducible apply Evolves.parts
    | exact Or.inl (by with_reducible rfl)
    | exact mask_part hm (by decide)

theorem State.stepClock_evolves {s : State} (a1 a2) (h : Evolves M o s)
    (hm : 0x3c00640000000000000000000000000000000000000000000000000000001a880 &&& M = 0x3c00640000000000000000000000000000000000000000000000000000001a880) :
    Evolves M o (State.stepClock s a1 a2) := by
  unfold State.stepClock
  try dsimp only
  repeat' first
    | (intro _)
    | with_reducible first
        | assumption | apply State.wr_evolves | apply State.wrBit_evolves | apply State.runP_evolves
        | apply Evolves.ite | apply Evolves.foldl
    | exact mask_trans (by decide) hm
    | exact mask_bit hm (by decide)
    | fail_if_no_progress beta_reduce
    | split
    | fail_if_no_progress with_reducible apply Evolves.parts
    | exact Or.inl (by with_reducible rfl)
    | exact mask_part hm (by decide)

theorem execGridStep_goes {s : State} (h : Evolves M o s)
    (hm : 0x40000000100000000000000000002000003c01640000000000000000000000000000000000000000000000001800201e892 &&& M = 0x40000000100000000000000000002000003c01640000000000000000000000000000000000000000000000001800201e892) :
    Goes M o (execGridStep s) := by
  unfold execGridStep
  try dsimp only
  repeat' first
    | (intro _)
    | with_reducible first
        | assumption | apply Goes.next | apply State.restartWindows_evolves | apply State.stepClock_evolves
        | apply State.disarmByTime_evolves | apply State.cancelTrig_evolves | apply State.shiftPort_evolves
        | apply State.report_evolves | apply State.dtmEvent_evolves | apply State.inc_evolves
        | apply State.finish_evolves | apply Evolves.ite | apply Evolves.foldl
    | exact mask_trans (by decide) hm
    | exact mask_bit hm (by decide)
    | fail_if_no_progress beta_reduce
    | split
    | fail_if_no_progress with_reducible apply Evolves.parts
    | exact Or.inl (by with_reducible rfl)
    | exact mask_part hm (by decide)

theorem State.setTrig_evolves {s : State} (a1 a2 a3 a4 a5 a6) (h : Evolves M o s)
    (hm : 0x3e38000020000000000000000000000000000000000000000000000000000000000010800 &&& M = 0x3e38000020000000000000000000000000000000000000000000000000000000000010800) :
    Evolves M o (State.setTrig s a1 a2 a3 a4 a5 a6) := by
  unfold State.setTrig
  try dsimp only
  repeat' first
    | (intro _)
    | with_reducible first
        | assumption | apply State.wr_evolves | apply State.setStart_evolves | apply State.modTrig_evolves
        | apply Evolves.ite | apply Evolves.foldl
    | exact mask_trans (by decide) hm
    | exact mask_bit hm (by decide)
    | fail_if_no_progress beta_reduce
    | split
    | fail_if_no_progress with_reducible apply Evolves.parts
    | exact Or.inl (by with_reducible rfl)
    | exact mask_part hm (by decide)

theorem execTriggerCfg_goes {s : State} (a0 a1 a2 a3 a4 a5 a6) (h : Evolves M o s)
    (hm : 0x400000000000000000000000003e38000020000000000000000000000000000000000000000000000000000000000010850 &&& M = 0x400000000000000000000000003e38000020000000000000000000000000000000000000000000000000000000000010850) :
    Goes M o (execTriggerCfg a0 a1 a2 a3 a4 a5 a6 s) := by
  unfold execTriggerCfg
  try dsimp only
  repeat' first
    | (intro _)
    | with_reducible first
        | assumption | apply Goes.next | apply State.checked_evolves | apply State.status_evolves
        | apply State.setTrig_evolves | apply Evolves.ite | apply Evolves.foldl
    | exact mask_trans (by decide) hm
    | exact mask_bit hm (by decide)
    | fail_if_no_progress beta_reduce
    | split
    | fail_if_no_progress with_reducible apply Evolves.parts
    | exact Or.inl (by with_reducible rfl)
    | exact mask_part hm (by decide)

theorem State.pushTrig_evolves {s : State} (a1 a2 a3) (h : Evolves M o s)
    (hm : 0x1c1c0000020000000000000000000000000000000000000000000000000000000000010800 &&& M = 0x1c1c0000020000000000000000000000000000000000000000000000000000000000010800) :
    Evolves M o (State.pushTrig s a1 a2 a3) := by
  unfold State.pushTrig
  try dsimp only
  repeat' first
    | (intro _)
    | with_reducible first
        | assumption | apply State.dtmEvent_evolves | apply State.showTrig_evolves | apply State.modTrig_evolves
        | apply State.sat_evolves | apply State.wrBit_evolves | apply Evolves.ite | apply Evolves.foldl
    | exact mask_trans (by decide) hm
    | exact mask_bit hm (by decide)
    | fail_if_no_progress beta_reduce
    | split
    | fail_if_no_progress with_reducible apply Evolves.parts
    | exact Or.inl (by with_reducible rfl)
    | exact mask_part hm (by decide)

theorem execTrigInputEdge_goes {s : State} (a0 a1 a2) (h : Evolves M o s)
    (hm : 0x40000500000000000001000001c1c00000200000000000000000000000000000000000000000000000000000d8002017872 &&& M = 0x40000500000000000001000001c1c00000200000000000000000000000000000000000000000000000000000d8002017872) :
    Goes M o (execTrigInputEdge a0 a1 a2 s) := by
  unfold execTrigInputEdge
  try dsimp only
  repeat' first
    | (intro _)
    | with_reducible first
        | assumption | apply Goes.next | apply State.telRound_evolves | apply State.pushTrig_evolves
        | apply State.trigger_evolves | apply Evolves.ite | apply Evolves.foldl
    | exact mask_trans (by decide) hm
    | exact mask_bit hm (by decide)
    | fail_if_no_progress beta_reduce
    | split
    | fail_if_no_progress with_reducible apply Evolves.parts
    | exact Or.inl (by with_reducible rfl)
    | exact mask_part hm (by decide)

/-! ## Faults -/

theorem State.afterRead_evolves {s : State} (a1 a2 a3) (h : Evolves M o s)
    (hm : 0x400000000000000000000000000000000000000000000000000000000000000000000000000000000000000000000000090 &&& M = 0x400000000000000000000000000000000000000000000000000000000000000000000000000000000000000000000000090) :
    Evolves M o (State.afterRead s a1 a2 a3) := by
  unfold State.afterRead
  try dsimp only
  repeat' first
    | (intro _)
    | with_reducible first
        | assumption | apply State.modMb_evolves | apply Evolves.ite | apply Evolves.foldl
    | exact mask_trans (by decide) hm
    | exact mask_bit hm (by decide)
    | fail_if_no_progress beta_reduce
    | split
    | fail_if_no_progress with_reducible apply Evolves.parts
    | exact Or.inl (by with_reducible rfl)
    | exact mask_part hm (by decide)

theorem execFaultLogRead_goes {s : State} (a0 a1 a2 a3 a4 a5) (h : Evolves M o s)
    (hm : 0x4000000000000000000000000000000000000000000000000000000000000000000000000000000000000000000000120d0 &&& M = 0x4000000000000000000000000000000000000000000000000000000000000000000000000000000000000000000000120d0) :
    Goes M o (execFaultLogRead a0 a1 a2 a3 a4 a5 s) := by
  unfold execFaultLogRead
  try dsimp only
  repeat' first
    | (intro _)
    | with_reducible first
        | assumption | apply Goes.next | apply State.checked_evolves | apply State.complete_evolves
        | apply State.afterRead_evolves | apply State.hostWrite_evolves | apply Evolves.ite | apply Evolves.foldl
    | exact mask_trans (by decide) hm
    | exact mask_bit hm (by decide)
    | fail_if_no_progress beta_reduce
    | split
    | fail_if_no_progress with_reducible apply Evolves.parts
    | exact Or.inl (by with_reducible rfl)
    | exact mask_part hm (by decide)

theorem execFaultPolicySet_goes {s : State} (a0 a1 a2 a3) (h : Evolves M o s)
    (hm : 0x100000000000000000400000000000000000000000000000000000000000000000000000000000000000000000000000000000000000000000050 &&& M = 0x100000000000000000400000000000000000000000000000000000000000000000000000000000000000000000000000000000000000000000050) :
    Goes M o (execFaultPolicySet a0 a1 a2 a3 s) := by
  unfold execFaultPolicySet
  try dsimp only
  repeat' first
    | (intro _)
    | with_reducible first
        | assumption | apply Goes.next | apply State.checked_evolves | apply State.status_evolves
        | apply State.wr_evolves | apply Evolves.ite | apply Evolves.foldl
    | exact mask_trans (by decide) hm
    | exact mask_bit hm (by decide)
    | fail_if_no_progress beta_reduce
    | split
    | fail_if_no_progress with_reducible apply Evolves.parts
    | exact Or.inl (by with_reducible rfl)
    | exact mask_part hm (by decide)

theorem State.arm_evolves {s : State} (a1 a2 a3 a4) (h : Evolves M o s)
    (hm : 0x80 &&& M = 0x80) :
    Evolves M o (State.arm s a1 a2 a3 a4) := by
  unfold State.arm
  try dsimp only
  repeat' first
    | (intro _)
    | with_reducible first
        | assumption | apply Evolves.ite | apply Evolves.foldl
    | exact mask_trans (by decide) hm
    | exact mask_bit hm (by decide)
    | fail_if_no_progress beta_reduce
    | split
    | fail_if_no_progress with_reducible apply Evolves.parts
    | exact Or.inl (by with_reducible rfl)
    | exact mask_part hm (by decide)

theorem execFaultInject_goes {s : State} (a0 a1 a2 a3) (h : Evolves M o s)
    (hm : 0x4000000000000000000000000000000000000000000000000000000000000000000000000000000000000000000000000d0 &&& M = 0x4000000000000000000000000000000000000000000000000000000000000000000000000000000000000000000000000d0) :
    Goes M o (execFaultInject a0 a1 a2 a3 s) := by
  unfold execFaultInject
  try dsimp only
  repeat' first
    | (intro _)
    | with_reducible first
        | assumption | apply Goes.next | apply State.checked_evolves | apply State.status_evolves
        | apply State.arm_evolves | apply Evolves.ite | apply Evolves.foldl
    | exact mask_trans (by decide) hm
    | exact mask_bit hm (by decide)
    | fail_if_no_progress beta_reduce
    | split
    | fail_if_no_progress with_reducible apply Evolves.parts
    | exact Or.inl (by with_reducible rfl)
    | exact mask_part hm (by decide)

theorem execFaultInjectArmWrite_goes {s : State} (h : Evolves M o s)
    (hm : 0x40000000000000000000000000000000000000000000000000000000000000000000000000000000000000000000000000000000000000000080 &&& M = 0x40000000000000000000000000000000000000000000000000000000000000000000000000000000000000000000000000000000000000000080) :
    Goes M o (execFaultInjectArmWrite s) := by
  unfold execFaultInjectArmWrite
  try dsimp only
  repeat' first
    | (intro _)
    | with_reducible first
        | assumption | apply Goes.next | apply State.wrBit_evolves | apply State.arm_evolves | apply Evolves.ite
        | apply Evolves.foldl
    | exact mask_trans (by decide) hm
    | exact mask_bit hm (by decide)
    | fail_if_no_progress beta_reduce
    | split
    | fail_if_no_progress with_reducible apply Evolves.parts
    | exact Or.inl (by with_reducible rfl)
    | exact mask_part hm (by decide)

theorem execErrAckWrite_goes {s : State} (h : Evolves M o s)
    (hm : 0x140000000000000000000000000000000000000000000000000000000000000000000000000000000000000000000000000000000000010080 &&& M = 0x140000000000000000000000000000000000000000000000000000000000000000000000000000000000000000000000000000000000010080) :
    Goes M o (execErrAckWrite s) := by
  unfold execErrAckWrite
  try dsimp only
  repeat' first
    | (intro _)
    | with_reducible first
        | assumption | apply Goes.next | apply State.driveErr_evolves | apply State.wrBit_evolves | apply Evolves.ite
        | apply Evolves.foldl
    | exact mask_trans (by decide) hm
    | exact mask_bit hm (by decide)
    | fail_if_no_progress beta_reduce
    | split
    | fail_if_no_progress with_reducible apply Evolves.parts
    | exact Or.inl (by with_reducible rfl)
    | exact mask_part hm (by decide)

theorem execFaultNoticeReceived_goes {s : State} (a0 a1 a2 a3) (h : Evolves M o s)
    (hm : 0x4000000000000000000000000000000000000000000000000000000000000000000000000000000000000000000000000000000000000000080 &&& M = 0x4000000000000000000000000000000000000000000000000000000000000000000000000000000000000000000000000000000000000000080) :
    Goes M o (execFaultNoticeReceived a0 a1 a2 a3 s) := by
  unfold execFaultNoticeReceived
  try dsimp only
  repeat' first
    | (intro _)
    | with_reducible first
        | assumption | apply Goes.next | apply State.report_evolves | apply State.sat_evolves | apply Evolves.ite
        | apply Evolves.foldl
    | exact mask_trans (by decide) hm
    | exact mask_bit hm (by decide)
    | fail_if_no_progress beta_reduce
    | split
    | fail_if_no_progress with_reducible apply Evolves.parts
    | exact Or.inl (by with_reducible rfl)
    | exact mask_part hm (by decide)

theorem execFaultCollectorDisagree_goes {s : State} (a0) (h : Evolves M o s)
    (hm : 0x19f800000000010040000500000000000001000000000000000000000000000000000000000000000000000000000000000000000000001f090 &&& M = 0x19f800000000010040000500000000000001000000000000000000000000000000000000000000000000000000000000000000000000001f090) :
    Goes M o (execFaultCollectorDisagree a0 s) := by
  unfold execFaultCollectorDisagree
  try dsimp only
  repeat' first
    | (intro _)
    | with_reducible first
        | assumption | apply Goes.next | apply State.driveErr_evolves | apply State.collect_evolves
        | apply State.decideDrst_evolves | apply Evolves.ite | apply Evolves.foldl
    | exact mask_trans (by decide) hm
    | exact mask_bit hm (by decide)
    | fail_if_no_progress beta_reduce
    | split
    | fail_if_no_progress with_reducible apply Evolves.parts
    | exact Or.inl (by with_reducible rfl)
    | exact mask_part hm (by decide)

/-! ## Firebreak -/

theorem State.fbkOff_evolves {s : State} (h : Evolves M o s)
    (hm : 0x1fffffffffffffffffffffffffffffffffffffffffffffffffffffffffffffffffffffffffffffffffffffffffffffffffffffffffffffffffffffffffffffffffffffffffffffffffffffffffffffffffffffffffffffffffffffffffffffffffffffffffffffffffffffffffffffffffffffffffffffffffffffffffffffffe0202 &&& M = 0x1fffffffffffffffffffffffffffffffffffffffffffffffffffffffffffffffffffffffffffffffffffffffffffffffffffffffffffffffffffffffffffffffffffffffffffffffffffffffffffffffffffffffffffffffffffffffffffffffffffffffffffffffffffffffffffffffffffffffffffffffffffffffffffffffe0202) :
    Evolves M o (State.fbkOff s) := by
  unfold State.fbkOff
  try dsimp only
  repeat' first
    | (intro _)
    | with_reducible first
        | assumption | apply State.modLoop_evolves | apply State.resetRegs_evolves | apply Evolves.ite
        | apply Evolves.foldl
    | exact mask_trans (by decide) hm
    | exact mask_bit hm (by decide)
    | fail_if_no_progress beta_reduce
    | split
    | fail_if_no_progress with_reducible apply Evolves.parts
    | exact Or.inl (by with_reducible rfl)
    | exact mask_part hm (by decide)
    | exact mask_all hm (by decide) _

theorem execFirebreakStart_goes {s : State} (a0 a1 a2) (h : Evolves M o s)
    (hm : 0x7fffe9fff0000000000000000000000000000000000000000000000000000000000000000000000000010000000000000000000000010282 &&& M = 0x7fffe9fff0000000000000000000000000000000000000000000000000000000000000000000000000010000000000000000000000010282) :
    Goes M o (execFirebreakStart a0 a1 a2 s) := by
  unfold execFirebreakStart
  try dsimp only
  repeat' first
    | (intro _)
    | with_reducible first
        | assumption | apply Goes.next | apply State.modFbk_evolves | apply State.showCfg_evolves
        | apply State.fbkLog_evolves | apply State.lockout_evolves | apply State.fbkEval_evolves | apply Evolves.ite
        | apply Evolves.foldl
    | exact mask_trans (by decide) hm
    | exact mask_bit hm (by decide)
    | fail_if_no_progress beta_reduce
    | split
    | fail_if_no_progress with_reducible apply Evolves.parts
    | exact Or.inl (by with_reducible rfl)
    | exact mask_part hm (by decide)

theorem execSafetySample_goes {s : State} (a0 a1) (h : Evolves M o s)
    (hm : 0x780009fff0000000000000000000000000000000000000000000000000000000000000000000000000010000000000000000000000018282 &&& M = 0x780009fff0000000000000000000000000000000000000000000000000000000000000000000000000010000000000000000000000018282) :
    Goes M o (execSafetySample a0 a1 s) := by
  unfold execSafetySample
  try dsimp only
  repeat' first
    | (intro _)
    | with_reducible first
        | assumption | apply Goes.next | apply State.modFbk_evolves | apply State.fbkEvent_evolves
        | apply State.fbkEval_evolves | apply State.lockout_evolves | apply State.useFree_evolves | apply Evolves.ite
        | apply Evolves.foldl
    | exact mask_trans (by decide) hm
    | exact mask_bit hm (by decide)
    | fail_if_no_progress beta_reduce
    | split
    | fail_if_no_progress with_reducible apply Evolves.parts
    | exact Or.inl (by with_reducible rfl)
    | exact mask_part hm (by decide)

theorem execTestPulse_goes {s : State} (a0 a1 a2 a3) (h : Evolves M o s)
    (hm : 0x78000dfff0000000000000000000000000000000000000000000000000000000000000000000000000010000000000000000000000010282 &&& M = 0x78000dfff0000000000000000000000000000000000000000000000000000000000000000000000000010000000000000000000000010282) :
    Goes M o (execTestPulse a0 a1 a2 a3 s) := by
  unfold execTestPulse
  try dsimp only
  repeat' first
    | (intro _)
    | with_reducible first
        | assumption | apply Goes.next | apply State.modPair_evolves | apply State.sat_evolves
        | apply State.pairFault_evolves | apply State.lockout_evolves | apply Evolves.ite | apply Evolves.foldl
    | exact mask_trans (by decide) hm
    | exact mask_bit hm (by decide)
    | fail_if_no_progress beta_reduce
    | split
    | fail_if_no_progress with_reducible apply Evolves.parts
    | exact Or.inl (by with_reducible rfl)
    | exact mask_part hm (by decide)

theorem execInputDiscrepancy_goes {s : State} (a0) (h : Evolves M o s)
    (hm : 0x780009fff0000000000000000000000000000000000000000000000000000000000000000000000000010000000000000000000000010282 &&& M = 0x780009fff0000000000000000000000000000000000000000000000000000000000000000000000000010000000000000000000000010282) :
    Goes M o (execInputDiscrepancy a0 s) := by
  unfold execInputDiscrepancy
  try dsimp only
  repeat' first
    | (intro _)
    | with_reducible first
        | assumption | apply Goes.next | apply State.pairFault_evolves | apply State.modPair_evolves
        | apply Evolves.ite | apply Evolves.foldl
    | exact mask_trans (by decide) hm
    | exact mask_bit hm (by decide)
    | fail_if_no_progress beta_reduce
    | split
    | fail_if_no_progress with_reducible apply Evolves.parts
    | exact Or.inl (by with_reducible rfl)
    | exact mask_part hm (by decide)

theorem execEdmTimeout_goes {s : State} (a0) (h : Evolves M o s)
    (hm : 0x780009fff0000000000000000000000000000000000000000000000000000000000000000000000000010000000000000000000000010282 &&& M = 0x780009fff0000000000000000000000000000000000000000000000000000000000000000000000000010000000000000000000000010282) :
    Goes M o (execEdmTimeout a0 s) := by
  unfold execEdmTimeout
  try dsimp only
  repeat' first
    | (intro _)
    | with_reducible first
        | assumption | apply Goes.next | apply State.pairFault_evolves | apply Evolves.ite | apply Evolves.foldl
    | exact mask_trans (by decide) hm
    | exact mask_bit hm (by decide)
    | fail_if_no_progress beta_reduce
    | split
    | fail_if_no_progress with_reducible apply Evolves.parts
    | exact Or.inl (by with_reducible rfl)
    | exact mask_part hm (by decide)

theorem execOutputSwitchTest_goes {s : State} (a0 a1 a2) (h : Evolves M o s)
    (hm : 0x780009fff0000000000000000000000000000000000000000000000000000000000000000000000000010000000000000000000000010282 &&& M = 0x780009fff0000000000000000000000000000000000000000000000000000000000000000000000000010000000000000000000000010282) :
    Goes M o (execOutputSwitchTest a0 a1 a2 s) := by
  unfold execOutputSwitchTest
  try dsimp only
  repeat' first
    | (intro _)
    | with_reducible first
        | assumption | apply Goes.next | apply State.lockout_evolves | apply Evolves.ite | apply Evolves.foldl
    | exact mask_trans (by decide) hm
    | exact mask_bit hm (by decide)
    | fail_if_no_progress beta_reduce
    | split
    | fail_if_no_progress with_reducible apply Evolves.parts
    | exact Or.inl (by with_reducible rfl)
    | exact mask_part hm (by decide)

theorem execStaticCheck_goes {s : State} (a0 a1) (h : Evolves M o s)
    (hm : 0x780009fff0000000000000000000000000000000000000000000000000000000000000000000000000010000000000000000000000010282 &&& M = 0x780009fff0000000000000000000000000000000000000000000000000000000000000000000000000010000000000000000000000010282) :
    Goes M o (execStaticCheck a0 a1 s) := by
  unfold execStaticCheck
  try dsimp only
  repeat' first
    | (intro _)
    | with_reducible first
        | assumption | apply Goes.next | apply State.lockout_evolves | apply Evolves.ite | apply Evolves.foldl
    | exact mask_trans (by decide) hm
    | exact mask_bit hm (by decide)
    | fail_if_no_progress beta_reduce
    | split
    | fail_if_no_progress with_reducible apply Evolves.parts
    | exact Or.inl (by with_reducible rfl)
    | exact mask_part hm (by decide)

theorem execOutputOvercurrent_goes {s : State} (a0) (h : Evolves M o s)
    (hm : 0x780009fff0000000000000000000000000000000000000000000000000000000000000000000000000010000000000000000000000010282 &&& M = 0x780009fff0000000000000000000000000000000000000000000000000000000000000000000000000010000000000000000000000010282) :
    Goes M o (execOutputOvercurrent a0 s) := by
  unfold execOutputOvercurrent
  try dsimp only
  repeat' first
    | (intro _)
    | with_reducible first
        | assumption | apply Goes.next | apply State.lockout_evolves | apply Evolves.ite | apply Evolves.foldl
    | exact mask_trans (by decide) hm
    | exact mask_bit hm (by decide)
    | fail_if_no_progress beta_reduce
    | split
    | fail_if_no_progress with_reducible apply Evolves.parts
    | exact Or.inl (by with_reducible rfl)
    | exact mask_part hm (by decide)

theorem execOutputRestart_goes {s : State} (a0) (h : Evolves M o s)
    (hm : 0x6800087ff0000000000000000000000000000000000000000000000000000000000000000000000000000000000000000000000000010200 &&& M = 0x6800087ff0000000000000000000000000000000000000000000000000000000000000000000000000000000000000000000000000010200) :
    Goes M o (execOutputRestart a0 s) := by
  unfold execOutputRestart
  try dsimp only
  repeat' first
    | (intro _)
    | with_reducible first
        | assumption | apply Goes.next | apply State.showFbk_evolves | apply State.switchOut_evolves
        | apply Evolves.ite | apply Evolves.foldl
    | exact mask_trans (by decide) hm
    | exact mask_bit hm (by decide)
    | fail_if_no_progress beta_reduce
    | split
    | fail_if_no_progress with_reducible apply Evolves.parts
    | exact Or.inl (by with_reducible rfl)
    | exact mask_part hm (by decide)

theorem execOscillatorFault_goes {s : State} (a0) (h : Evolves M o s)
    (hm : 0x780009fff0000000000000000000000000000000000000000000000000000000000000000000000000010000000000000000000000010282 &&& M = 0x780009fff0000000000000000000000000000000000000000000000000000000000000000000000000010000000000000000000000010282) :
    Goes M o (execOscillatorFault a0 s) := by
  unfold execOscillatorFault
  try dsimp only
  repeat' first
    | (intro _)
    | with_reducible first
        | assumption | apply Goes.next | apply State.lockout_evolves | apply Evolves.ite | apply Evolves.foldl
    | exact mask_trans (by decide) hm
    | exact mask_bit hm (by decide)
    | fail_if_no_progress beta_reduce
    | split
    | fail_if_no_progress with_reducible apply Evolves.parts
    | exact Or.inl (by with_reducible rfl)
    | exact mask_part hm (by decide)

theorem execChannelDisagreement_goes {s : State} (a0) (h : Evolves M o s)
    (hm : 0x780009fff0000000000000000000000000000000000000000000000000000000000000000000000000010000000000000000000000010282 &&& M = 0x780009fff0000000000000000000000000000000000000000000000000000000000000000000000000010000000000000000000000010282) :
    Goes M o (execChannelDisagreement a0 s) := by
  unfold execChannelDisagreement
  try dsimp only
  repeat' first
    | (intro _)
    | with_reducible first
        | assumption | apply Goes.next | apply State.lockout_evolves | apply Evolves.ite | apply Evolves.foldl
    | exact mask_trans (by decide) hm
    | exact mask_bit hm (by decide)
    | fail_if_no_progress beta_reduce
    | split
    | fail_if_no_progress with_reducible apply Evolves.parts
    | exact Or.inl (by with_reducible rfl)
    | exact mask_part hm (by decide)

theorem State.stayLocked_evolves {s : State} (a1 a2) (h : Evolves M o s)
    (hm : 0x680009fff0000000000000000000000000000000000000000000000000000000000000000000000000010000000000000000000000010202 &&& M = 0x680009fff0000000000000000000000000000000000000000000000000000000000000000000000000010000000000000000000000010202) :
    Evolves M o (State.stayLocked s a1 a2) := by
  unfold State.stayLocked
  try dsimp only
  repeat' first
    | (intro _)
    | with_reducible first
        | assumption | apply State.fbkEval_evolves | apply State.modFbk_evolves | apply State.wr_evolves
        | apply Evolves.ite | apply Evolves.foldl
    | exact mask_trans (by decide) hm
    | exact mask_bit hm (by decide)
    | fail_if_no_progress beta_reduce
    | split
    | fail_if_no_progress with_reducible apply Evolves.parts
    | exact Or.inl (by with_reducible rfl)
    | exact mask_part hm (by decide)

theorem execFbrstNPulse_goes {s : State} (a0 a1) (h : Evolves M o s)
    (hm : 0x68000bfff0000000000000000000000000000000000000000000000000000000000000000000000000010000000000000000000000018202 &&& M = 0x68000bfff0000000000000000000000000000000000000000000000000000000000000000000000000010000000000000000000000018202) :
    Goes M o (execFbrstNPulse a0 a1 s) := by
  unfold execFbrstNPulse
  try dsimp only
  repeat' first
    | (intro _)
    | with_reducible first
        | assumption | apply Goes.next | apply State.sat_evolves | apply State.stayLocked_evolves
        | apply State.showFbk_evolves | apply State.modPair_evolves | apply State.modFbk_evolves
        | apply State.useFree_evolves | apply Evolves.ite | apply Evolves.foldl
    | exact mask_trans (by decide) hm
    | exact mask_bit hm (by decide)
    | fail_if_no_progress beta_reduce
    | split
    | fail_if_no_progress with_reducible apply Evolves.parts
    | exact Or.inl (by with_reducible rfl)
    | exact mask_part hm (by decide)

theorem execResetPendTimeout_goes {s : State} (h : Evolves M o s)
    (hm : 0x6800007ff0000000000000000000000000000000000000000000000000000000000000000000000000000000000000000000000000000200 &&& M = 0x6800007ff0000000000000000000000000000000000000000000000000000000000000000000000000000000000000000000000000000200) :
    Goes M o (execResetPendTimeout s) := by
  unfold execResetPendTimeout
  try dsimp only
  repeat' first
    | (intro _)
    | with_reducible first
        | assumption | apply Goes.next | apply State.showFbk_evolves | apply State.modFbk_evolves | apply Evolves.ite
        | apply Evolves.foldl
    | exact mask_trans (by decide) hm
    | exact mask_bit hm (by decide)
    | fail_if_no_progress beta_reduce
    | split
    | fail_if_no_progress with_reducible apply Evolves.parts
    | exact Or.inl (by with_reducible rfl)
    | exact mask_part hm (by decide)

theorem execSessionTimeout_goes {s : State} (h : Evolves M o s)
    (hm : 0x7fffe87ff0000000000000000000000000000000000000000000000000000000000000000000000000000000000000000000000000010200 &&& M = 0x7fffe87ff0000000000000000000000000000000000000000000000000000000000000000000000000000000000000000000000000010200) :
    Goes M o (execSessionTimeout s) := by
  unfold execSessionTimeout
  try dsimp only
  repeat' first
    | (intro _)
    | with_reducible first
        | assumption | apply Goes.next | apply State.endSession_evolves | apply Evolves.ite | apply Evolves.foldl
    | exact mask_trans (by decide) hm
    | exact mask_bit hm (by decide)
    | fail_if_no_progress beta_reduce
    | split
    | fail_if_no_progress with_reducible apply Evolves.parts
    | exact Or.inl (by with_reducible rfl)
    | exact mask_part hm (by decide)

theorem execFirebreakLinkLoss_goes {s : State} (h : Evolves M o s)
    (hm : 0x7fffe87ff0000000000000000000000000000000000000000000000000000000000000000000000000010000000000000000000000010282 &&& M = 0x7fffe87ff0000000000000000000000000000000000000000000000000000000000000000000000000010000000000000000000000010282) :
    Goes M o (execFirebreakLinkLoss s) := by
  unfold execFirebreakLinkLoss
  try dsimp only
  repeat' first
    | (intro _)
    | with_reducible first
        | assumption | apply Goes.next | apply State.report_evolves | apply State.loseLink_evolves
        | apply Evolves.ite | apply Evolves.foldl
    | exact mask_trans (by decide) hm
    | exact mask_bit hm (by decide)
    | fail_if_no_progress beta_reduce
    | split
    | fail_if_no_progress with_reducible apply Evolves.parts
    | exact Or.inl (by with_reducible rfl)
    | exact mask_part hm (by decide)

theorem execFirebreakLinkReturn_goes {s : State} (h : Evolves M o s)
    (hm : 0x6800087ff0000000000000000000000000000000000000000000000000000000000000000000000000010000000000000000000000010202 &&& M = 0x6800087ff0000000000000000000000000000000000000000000000000000000000000000000000000010000000000000000000000010202) :
    Goes M o (execFirebreakLinkReturn s) := by
  unfold execFirebreakLinkReturn
  try dsimp only
  repeat' first
    | (intro _)
    | with_reducible first
        | assumption | apply Goes.next | apply State.openLink_evolves | apply Evolves.ite | apply Evolves.foldl
    | exact mask_trans (by decide) hm
    | exact mask_bit hm (by decide)
    | fail_if_no_progress beta_reduce
    | split
    | fail_if_no_progress with_reducible apply Evolves.parts
    | exact Or.inl (by with_reducible rfl)
    | exact mask_part hm (by decide)

theorem execAprFlagChange_goes {s : State} (h : Evolves M o s)
    (hm : 0x6800087ff0000000000000000000000000000000000000000000000000000000000000000000000000010000000000000000000000010202 &&& M = 0x6800087ff0000000000000000000000000000000000000000000000000000000000000000000000000010000000000000000000000010202) :
    Goes M o (execAprFlagChange s) := by
  unfold execAprFlagChange
  try dsimp only
  repeat' first
    | (intro _)
    | with_reducible first
        | assumption | apply Goes.next | apply State.fbkEval_evolves | apply Evolves.ite | apply Evolves.foldl
    | exact mask_trans (by decide) hm
    | exact mask_bit hm (by decide)
    | fail_if_no_progress beta_reduce
    | split
    | fail_if_no_progress with_reducible apply Evolves.parts
    | exact Or.inl (by with_reducible rfl)
    | exact mask_part hm (by decide)

theorem State.gateJump_evolves {s : State} (a1 a2) (h : Evolves M o s)
    (hm : 0x60000000000000002 &&& M = 0x60000000000000002) :
    Evolves M o (State.gateJump s a1 a2) := by
  unfold State.gateJump
  try dsimp only
  repeat' first
    | (intro _)
    | with_reducible first
        | assumption | apply State.wr_evolves | apply State.wrBit_evolves | apply State.modEl_evolves
        | apply Evolves.ite | apply Evolves.foldl
    | exact mask_trans (by decide) hm
    | exact mask_bit hm (by decide)
    | fail_if_no_progress beta_reduce
    | split
    | fail_if_no_progress with_reducible apply Evolves.parts
    | exact Or.inl (by with_reducible rfl)
    | exact mask_part hm (by decide)

theorem State.darken_evolves {s : State} (a1) (h : Evolves M o s)
    (hm : 0x400000000000000000000000000000000000000000000000000000000000000000000000000000000064400000000000012 &&& M = 0x400000000000000000000000000000000000000000000000000000000000000000000000000000000064400000000000012) :
    Evolves M o (State.darken s a1) := by
  unfold State.darken
  try dsimp only
  repeat' first
    | (intro _)
    | with_reducible first
        | assumption | apply State.modEl_evolves | apply State.endRange_evolves | apply State.modLoop_evolves
        | apply State.gateJump_evolves | apply Evolves.ite | apply Evolves.foldl
    | exact mask_trans (by decide) hm
    | exact mask_bit hm (by decide)
    | fail_if_no_progress beta_reduce
    | split
    | fail_if_no_progress with_reducible apply Evolves.parts
    | exact Or.inl (by with_reducible rfl)
    | exact mask_part hm (by decide)

theorem execDarkeningStart_goes {s : State} (h : Evolves M o s)
    (hm : 0x6800087ff0000400000000000000000000000000000000000000000000000000000000000000000000000000000000064400000000010012 &&& M = 0x6800087ff0000400000000000000000000000000000000000000000000000000000000000000000000000000000000064400000000010012) :
    Goes M o (execDarkeningStart s) := by
  unfold execDarkeningStart
  try dsimp only
  repeat' first
    | (intro _)
    | with_reducible first
        | assumption | apply Goes.next | apply State.showFbk_evolves | apply State.fbkEvent_evolves
        | apply State.darken_evolves | apply Evolves.ite | apply Evolves.foldl
    | exact mask_trans (by decide) hm
    | exact mask_bit hm (by decide)
    | fail_if_no_progress beta_reduce
    | split
    | fail_if_no_progress with_reducible apply Evolves.parts
    | exact Or.inl (by with_reducible rfl)
    | exact mask_part hm (by decide)

theorem State.undarken_evolves {s : State} (a1) (h : Evolves M o s)
    (hm : 0x60000000000000202 &&& M = 0x60000000000000202) :
    Evolves M o (State.undarken s a1) := by
  unfold State.undarken
  try dsimp only
  repeat' first
    | (intro _)
    | with_reducible first
        | assumption | apply State.modFbk_evolves | apply State.modLoop_evolves | apply State.modEl_evolves
        | apply State.addSpan_evolves | apply State.gateJump_evolves | apply Evolves.ite | apply Evolves.foldl
    | exact mask_trans (by decide) hm
    | exact mask_bit hm (by decide)
    | fail_if_no_progress beta_reduce
    | split
    | fail_if_no_progress with_reducible apply Evolves.parts
    | exact Or.inl (by with_reducible rfl)
    | exact mask_part hm (by decide)

theorem execDarkeningRelease_goes {s : State} (a0) (h : Evolves M o s)
    (hm : 0x6800087ff0000000000000000000000000000000000000000000000000000000000000000000000000000000000000060000000000010202 &&& M = 0x6800087ff0000000000000000000000000000000000000000000000000000000000000000000000000000000000000060000000000010202) :
    Goes M o (execDarkeningRelease a0 s) := by
  unfold execDarkeningRelease
  try dsimp only
  repeat' first
    | (intro _)
    | with_reducible first
        | assumption | apply Goes.next | apply State.showFbk_evolves | apply State.fbkEvent_evolves
        | apply State.undarken_evolves | apply Evolves.ite | apply Evolves.foldl
    | exact mask_trans (by decide) hm
    | exact mask_bit hm (by decide)
    | fail_if_no_progress beta_reduce
    | split
    | fail_if_no_progress with_reducible apply Evolves.parts
    | exact Or.inl (by with_reducible rfl)
    | exact mask_part hm (by decide)

theorem execSafetyLogFlush_goes {s : State} (h : Evolves M o s)
    (hm : 0x6800007ff0000000000000000000000000000000000000000000000000000000000000000000000000000000000000000000000000000200 &&& M = 0x6800007ff0000000000000000000000000000000000000000000000000000000000000000000000000000000000000000000000000000200) :
    Goes M o (execSafetyLogFlush s) := by
  unfold execSafetyLogFlush
  try dsimp only
  repeat' first
    | (intro _)
    | with_reducible first
        | assumption | apply Goes.next | apply State.showFbk_evolves | apply State.modFbk_evolves | apply Evolves.ite
        | apply Evolves.foldl
    | exact mask_trans (by decide) hm
    | exact mask_bit hm (by decide)
    | fail_if_no_progress beta_reduce
    | split
    | fail_if_no_progress with_reducible apply Evolves.parts
    | exact Or.inl (by with_reducible rfl)
    | exact mask_part hm (by decide)

/-! ## Frame -/

theorem State.takeFrame_evolves {s : State} (a1) (h : Evolves M o s)
    (hm : 0x802 &&& M = 0x802) :
    Evolves M o (State.takeFrame s a1) := by
  unfold State.takeFrame
  try dsimp only
  repeat' first
    | (intro _)
    | with_reducible first
        | assumption | apply Evolves.ite | apply Evolves.foldl
    | exact mask_trans (by decide) hm
    | exact mask_bit hm (by decide)
    | fail_if_no_progress beta_reduce
    | split
    | fail_if_no_progress with_reducible apply Evolves.parts
    | exact Or.inl (by with_reducible rfl)
    | exact mask_part hm (by decide)

theorem State.pruneSpans_evolves {s : State} (h : Evolves M o s)
    (hm : 0x2 &&& M = 0x2) :
    Evolves M o (State.pruneSpans s) := by
  unfold State.pruneSpans
  try dsimp only
  repeat' first
    | (intro _)
    | with_reducible first
        | assumption | apply State.modLoop_evolves | apply Evolves.ite | apply Evolves.foldl
    | exact mask_trans (by decide) hm
    | exact mask_bit hm (by decide)
    | fail_if_no_progress beta_reduce
    | split
    | fail_if_no_progress with_reducible apply Evolves.parts
    | exact Or.inl (by with_reducible rfl)
    | exact mask_part hm (by decide)

theorem State.countAll_evolves {s : State} (a1) (h : Evolves M o s)
    (hm : 0x2 &&& M = 0x2) :
    Evolves M o (State.countAll s a1) := by
  unfold State.countAll
  try dsimp only
  repeat' first
    | (intro _)
    | with_reducible first
        | assumption | apply State.countFrame_evolves | apply State.countWin_evolves
        | apply State.countOuters_evolves | apply Evolves.ite | apply Evolves.foldl
    | exact mask_trans (by decide) hm
    | exact mask_bit hm (by decide)
    | fail_if_no_progress beta_reduce
    | split
    | fail_if_no_progress with_reducible apply Evolves.parts
    | exact Or.inl (by with_reducible rfl)
    | exact mask_part hm (by decide)

theorem State.serveRead_evolves {s : State} (a1 a2) (h : Evolves M o s)
    (hm : 0x400000000000000000000000000000000000000000000000000000000000000000000000000000000000000000000012050 &&& M = 0x400000000000000000000000000000000000000000000000000000000000000000000000000000000000000000000012050) :
    Evolves M o (State.serveRead s a1 a2) := by
  unfold State.serveRead
  try dsimp only
  repeat' first
    | (intro _)
    | with_reducible first
        | assumption | apply State.finish_evolves | apply State.hostWrite_evolves | apply Evolves.ite
        | apply Evolves.foldl
    | exact mask_trans (by decide) hm
    | exact mask_bit hm (by decide)
    | fail_if_no_progress beta_reduce
    | split
    | fail_if_no_progress with_reducible apply Evolves.parts
    | exact Or.inl (by with_reducible rfl)
    | exact mask_part hm (by decide)

theorem State.serveReads_evolves {s : State} (a1 a2) (h : Evolves M o s)
    (hm : 0x400000000000000000000000000000000000000000000000000000000000000000000000000000000000000000000012052 &&& M = 0x400000000000000000000000000000000000000000000000000000000000000000000000000000000000000000000012052) :
    Evolves M o (State.serveReads s a1 a2) := by
  unfold State.serveReads
  try dsimp only
  repeat' first
    | (intro _)
    | with_reducible first
        | assumption | apply State.serveRead_evolves | apply State.modLoop_evolves | apply Evolves.ite
        | apply Evolves.foldl
    | exact mask_trans (by decide) hm
    | exact mask_bit hm (by decide)
    | fail_if_no_progress beta_reduce
    | split
    | fail_if_no_progress with_reducible apply Evolves.parts
    | exact Or.inl (by with_reducible rfl)
    | exact mask_part hm (by decide)

theorem State.endSysStep_evolves {s : State} (a1) (h : Evolves M o s)
    (hm : 0x400000000000000000000000000000000000000000000000000000000000000000000000000000000000000000000000012 &&& M = 0x400000000000000000000000000000000000000000000000000000000000000000000000000000000000000000000000012) :
    Evolves M o (State.endSysStep s a1) := by
  unfold State.endSysStep
  try dsimp only
  repeat' first
    | (intro _)
    | with_reducible first
        | assumption | apply State.finish_evolves | apply State.modCpt_evolves | apply Evolves.ite
        | apply Evolves.foldl
    | exact mask_trans (by decide) hm
    | exact mask_bit hm (by decide)
    | fail_if_no_progress beta_reduce
    | split
    | fail_if_no_progress with_reducible apply Evolves.parts
    | exact Or.inl (by with_reducible rfl)
    | exact mask_part hm (by decide)

theorem State.returnLate_evolves {s : State} (h : Evolves M o s)
    (hm : 0x100000000000000000000000000000400000000000000000000000000000000000000001200000000000000000000000000000000000000000000000000000418 &&& M = 0x100000000000000000000000000000400000000000000000000000000000000000000001200000000000000000000000000000000000000000000000000000418) :
    Evolves M o (State.returnLate s) := by
  unfold State.returnLate
  try dsimp only
  repeat' first
    | (intro _)
    | with_reducible first
        | assumption | apply State.finishOpt_evolves | apply State.modStand_evolves
        | apply State.failActivation_evolves | apply Evolves.ite | apply Evolves.foldl
    | exact mask_trans (by decide) hm
    | exact mask_bit hm (by decide)
    | fail_if_no_progress beta_reduce
    | split
    | fail_if_no_progress with_reducible apply Evolves.parts
    | exact Or.inl (by with_reducible rfl)
    | exact mask_part hm (by decide)

theorem State.showPass_evolves {s : State} (a1) (h : Evolves M o s)
    (hm : 0x8000000000000 &&& M = 0x8000000000000) :
    Evolves M o (State.showPass s a1) := by
  unfold State.showPass
  try dsimp only
  repeat' first
    | (intro _)
    | with_reducible first
        | assumption | apply State.wr_evolves | apply Evolves.ite | apply Evolves.foldl
    | exact mask_trans (by decide) hm
    | exact mask_bit hm (by decide)
    | fail_if_no_progress beta_reduce
    | split
    | fail_if_no_progress with_reducible apply Evolves.parts
    | exact Or.inl (by with_reducible rfl)
    | exact mask_part hm (by decide)

theorem State.groupWork_evolves {s : State} (h : Evolves M o s)
    (hm : 0x248020000000002 &&& M = 0x248020000000002) :
    Evolves M o (State.groupWork s) := by
  unfold State.groupWork
  try dsimp only
  repeat' first
    | (intro _)
    | with_reducible first
        | assumption | apply State.endReturn_evolves | apply State.wrBit_evolves | apply State.showPass_evolves
        | apply Evolves.ite | apply Evolves.foldl
    | exact mask_trans (by decide) hm
    | exact mask_bit hm (by decide)
    | fail_if_no_progress beta_reduce
    | split
    | fail_if_no_progress with_reducible apply Evolves.parts
    | exact Or.inl (by with_reducible rfl)
    | exact mask_part hm (by decide)

theorem State.endReread_evolves {s : State} (h : Evolves M o s)
    (hm : 0xfe0481 &&& M = 0xfe0481) :
    Evolves M o (State.endReread s) := by
  unfold State.endReread
  try dsimp only
  repeat' first
    | (intro _)
    | with_reducible first
        | assumption | apply State.loadMap_evolves | apply Evolves.ite | apply Evolves.foldl
    | exact mask_trans (by decide) hm
    | exact mask_bit hm (by decide)
    | fail_if_no_progress beta_reduce
    | split
    | fail_if_no_progress with_reducible apply Evolves.parts
    | exact Or.inl (by with_reducible rfl)
    | exact mask_part hm (by decide)

theorem State.frameWork_evolves {s : State} (h : Evolves M o s)
    (hm : 0x10000000000000004000000000000040080500000000000000000000000000003c025c01200000000020000000000000000790000000000000248020000fffc9b &&& M = 0x10000000000000004000000000000040080500000000000000000000000000003c025c01200000000020000000000000000790000000000000248020000fffc9b) :
    Evolves M o (State.frameWork s) := by
  unfold State.frameWork
  try dsimp only
  repeat' first
    | (intro _)
    | with_reducible first
        | assumption | apply State.fillBucket_evolves | apply State.switchAtBoundary_evolves
        | apply State.endSysStep_evolves | apply State.showInputs_evolves | apply State.powerCap_evolves
        | apply State.showOverdue_evolves | apply State.driveErr_evolves | apply State.endReread_evolves
        | apply State.busyWork_evolves | apply State.returnLate_evolves | apply State.groupWork_evolves
        | apply Evolves.ite | apply Evolves.foldl
    | exact mask_trans (by decide) hm
    | exact mask_bit hm (by decide)
    | fail_if_no_progress beta_reduce
    | split
    | fail_if_no_progress with_reducible apply Evolves.parts
    | exact Or.inl (by with_reducible rfl)
    | exact mask_part hm (by decide)

theorem execFrameBoundary_goes {s : State} (a0) (h : Evolves M o s)
    (hm : 0x10000000000000004000000000000040080500000000000000000000000000003c025c01200000000020000000000000000790000000000000248020000fffcdb &&& M = 0x10000000000000004000000000000040080500000000000000000000000000003c025c01200000000020000000000000000790000000000000248020000fffcdb) :
    Goes M o (execFrameBoundary a0 s) := by
  unfold execFrameBoundary
  try dsimp only
  repeat' first
    | (intro _)
    | with_reducible first
        | assumption | apply Goes.next | apply State.frameWork_evolves | apply State.pruneSpans_evolves
        | apply State.serveReads_evolves | apply State.countAll_evolves | apply State.takeFrame_evolves
        | apply Evolves.ite | apply Evolves.foldl
    | exact mask_trans (by decide) hm
    | exact mask_bit hm (by decide)
    | fail_if_no_progress beta_reduce
    | split
    | fail_if_no_progress with_reducible apply Evolves.parts
    | exact Or.inl (by with_reducible rfl)
    | exact mask_part hm (by decide)

/-! ## Vmode -/

theorem execVmodeOvercurrent_goes {s : State} (a0) (h : Evolves M o s)
    (hm : 0x4000050000000000000100000000000000000000000000000000040000000000000000000000080000100000000000170f6 &&& M = 0x4000050000000000000100000000000000000000000000000000040000000000000000000000080000100000000000170f6) :
    Goes M o (execVmodeOvercurrent a0 s) := by
  unfold execVmodeOvercurrent
  try dsimp only
  repeat' first
    | (intro _)
    | with_reducible first
        | assumption | apply Goes.next | apply State.loseElem_evolves | apply State.report_evolves
        | apply State.wrBit_evolves | apply Evolves.ite | apply Evolves.foldl
    | exact mask_trans (by decide) hm
    | exact mask_bit hm (by decide)
    | fail_if_no_progress beta_reduce
    | split
    | fail_if_no_progress with_reducible apply Evolves.parts
    | exact Or.inl (by with_reducible rfl)
    | exact mask_part hm (by decide)

theorem State.clearOc_evolves {s : State} (a1) (h : Evolves M o s)
    (hm : 0x219000000000000002 &&& M = 0x219000000000000002) :
    Evolves M o (State.clearOc s a1) := by
  unfold State.clearOc
  try dsimp only
  repeat' first
    | (intro _)
    | with_reducible first
        | assumption | apply State.showCleared_evolves | apply State.awaitCommit_evolves | apply State.wrBit_evolves
        | apply Evolves.ite | apply Evolves.foldl
    | exact mask_trans (by decide) hm
    | exact mask_bit hm (by decide)
    | fail_if_no_progress beta_reduce
    | split
    | fail_if_no_progress with_reducible apply Evolves.parts
    | exact Or.inl (by with_reducible rfl)
    | exact mask_part hm (by decide)

theorem execOcClearWrite_goes {s : State} (a0) (h : Evolves M o s)
    (hm : 0x219000000000000002 &&& M = 0x219000000000000002) :
    Goes M o (execOcClearWrite a0 s) := by
  unfold execOcClearWrite
  try dsimp only
  repeat' first
    | (intro _)
    | with_reducible first
        | assumption | apply Goes.next | apply State.clearOc_evolves | apply Evolves.ite | apply Evolves.foldl
    | exact mask_trans (by decide) hm
    | exact mask_bit hm (by decide)
    | fail_if_no_progress beta_reduce
    | split
    | fail_if_no_progress with_reducible apply Evolves.parts
    | exact Or.inl (by with_reducible rfl)
    | exact mask_part hm (by decide)

theorem execGroupLimiterTrip_goes {s : State} (a0 a1) (h : Evolves M o s)
    (hm : 0x3800000000000000082 &&& M = 0x3800000000000000082) :
    Goes M o (execGroupLimiterTrip a0 a1 s) := by
  unfold execGroupLimiterTrip
  try dsimp only
  repeat' first
    | (intro _)
    | with_reducible first
        | assumption | apply Goes.next | apply State.modLoop_evolves | apply State.wr_evolves
        | apply State.report_evolves | apply State.sat_evolves | apply State.wrBit_evolves | apply Evolves.ite
        | apply Evolves.foldl
    | exact mask_trans (by decide) hm
    | exact mask_bit hm (by decide)
    | fail_if_no_progress beta_reduce
    | split
    | fail_if_no_progress with_reducible apply Evolves.parts
    | exact Or.inl (by with_reducible rfl)
    | exact mask_part hm (by decide)

theorem State.showGtrip_evolves {s : State} (a1) (h : Evolves M o s)
    (hm : 0x3800000000000000000 &&& M = 0x3800000000000000000) :
    Evolves M o (State.showGtrip s a1) := by
  unfold State.showGtrip
  try dsimp only
  repeat' first
    | (intro _)
    | with_reducible first
        | assumption | apply State.wr_evolves | apply State.wrBit_evolves | apply Evolves.ite | apply Evolves.foldl
    | exact mask_trans (by decide) hm
    | exact mask_bit hm (by decide)
    | fail_if_no_progress beta_reduce
    | split
    | fail_if_no_progress with_reducible apply Evolves.parts
    | exact Or.inl (by with_reducible rfl)
    | exact mask_part hm (by decide)

theorem State.enableGroup_evolves {s : State} (a1) (h : Evolves M o s)
    (hm : 0x9000000000000002 &&& M = 0x9000000000000002) :
    Evolves M o (State.enableGroup s a1) := by
  unfold State.enableGroup
  try dsimp only
  repeat' first
    | (intro _)
    | with_reducible first
        | assumption | apply State.modLoop_evolves | apply State.awaitCommit_evolves | apply Evolves.ite
        | apply Evolves.foldl
    | exact mask_trans (by decide) hm
    | exact mask_bit hm (by decide)
    | fail_if_no_progress beta_reduce
    | split
    | fail_if_no_progress with_reducible apply Evolves.parts
    | exact Or.inl (by with_reducible rfl)
    | exact mask_part hm (by decide)

theorem execGtripClearWrite_goes {s : State} (a0) (h : Evolves M o s)
    (hm : 0x3a09000000000000002 &&& M = 0x3a09000000000000002) :
    Goes M o (execGtripClearWrite a0 s) := by
  unfold execGtripClearWrite
  try dsimp only
  repeat' first
    | (intro _)
    | with_reducible first
        | assumption | apply Goes.next | apply State.showCleared_evolves | apply State.showGtrip_evolves
        | apply State.enableGroup_evolves | apply Evolves.ite | apply Evolves.foldl
    | exact mask_trans (by decide) hm
    | exact mask_bit hm (by decide)
    | fail_if_no_progress beta_reduce
    | split
    | fail_if_no_progress with_reducible apply Evolves.parts
    | exact Or.inl (by with_reducible rfl)
    | exact mask_part hm (by decide)

theorem execDeglitchRelease_goes {s : State} (a0) (h : Evolves M o s)
    (hm : 0x2 &&& M = 0x2) :
    Goes M o (execDeglitchRelease a0 s) := by
  unfold execDeglitchRelease
  try dsimp only
  repeat' first
    | (intro _)
    | with_reducible first
        | assumption | apply Goes.next | apply State.modEl_evolves | apply Evolves.ite | apply Evolves.foldl
    | exact mask_trans (by decide) hm
    | exact mask_bit hm (by decide)
    | fail_if_no_progress beta_reduce
    | split
    | fail_if_no_progress with_reducible apply Evolves.parts
    | exact Or.inl (by with_reducible rfl)
    | exact mask_part hm (by decide)

theorem State.askRange_evolves {s : State} (a1 a2 a3) (h : Evolves M o s)
    (hm : 0x400000000000002 &&& M = 0x400000000000002) :
    Evolves M o (State.askRange s a1 a2 a3) := by
  unfold State.askRange
  try dsimp only
  repeat' first
    | (intro _)
    | with_reducible first
        | assumption | apply State.modEl_evolves | apply State.wrBit_evolves | apply Evolves.ite
        | apply Evolves.foldl
    | exact mask_trans (by decide) hm
    | exact mask_bit hm (by decide)
    | fail_if_no_progress beta_reduce
    | split
    | fail_if_no_progress with_reducible apply Evolves.parts
    | exact Or.inl (by with_reducible rfl)
    | exact mask_part hm (by decide)

theorem execVdacRangeWrite_goes {s : State} (a0 a1) (h : Evolves M o s)
    (hm : 0x400000000000082 &&& M = 0x400000000000082) :
    Goes M o (execVdacRangeWrite a0 a1 s) := by
  unfold execVdacRangeWrite
  try dsimp only
  repeat' first
    | (intro _)
    | with_reducible first
        | assumption | apply Goes.next | apply State.expertWrite_evolves | apply State.noteDiscard_evolves
        | apply State.askRange_evolves | apply Evolves.ite | apply Evolves.foldl
    | exact mask_trans (by decide) hm
    | exact mask_bit hm (by decide)
    | fail_if_no_progress beta_reduce
    | split
    | fail_if_no_progress with_reducible apply Evolves.parts
    | exact Or.inl (by with_reducible rfl)
    | exact mask_part hm (by decide)

theorem State.switchRange_evolves {s : State} (a1 a2) (h : Evolves M o s)
    (hm : 0x2400000000000002 &&& M = 0x2400000000000002) :
    Evolves M o (State.switchRange s a1 a2) := by
  unfold State.switchRange
  try dsimp only
  repeat' first
    | (intro _)
    | with_reducible first
        | assumption | apply State.noteAmp_evolves | apply State.wrBit_evolves | apply Evolves.ite
        | apply Evolves.foldl
    | exact mask_trans (by decide) hm
    | exact mask_bit hm (by decide)
    | fail_if_no_progress beta_reduce
    | split
    | fail_if_no_progress with_reducible apply Evolves.parts
    | exact Or.inl (by with_reducible rfl)
    | exact mask_part hm (by decide)

theorem execRangeChangeStart_goes {s : State} (a0) (h : Evolves M o s)
    (hm : 0x40000000000000000000000000000000000000000000000000000000000000000000000000000000000f400000000000012 &&& M = 0x40000000000000000000000000000000000000000000000000000000000000000000000000000000000f400000000000012) :
    Goes M o (execRangeChangeStart a0 s) := by
  unfold execRangeChangeStart
  try dsimp only
  repeat' first
    | (intro _)
    | with_reducible first
        | assumption | apply Goes.next | apply State.toClear_evolves | apply State.modEl_evolves
        | apply State.switchRange_evolves | apply State.finishOpt_evolves | apply State.wrBit_evolves
        | apply State.addSpan_evolves | apply Evolves.ite | apply Evolves.foldl
    | exact mask_trans (by decide) hm
    | exact mask_bit hm (by decide)
    | fail_if_no_progress beta_reduce
    | split
    | fail_if_no_progress with_reducible apply Evolves.parts
    | exact Or.inl (by with_reducible rfl)
    | exact mask_part hm (by decide)

theorem execRangeSwitch_goes {s : State} (a0) (h : Evolves M o s)
    (hm : 0x3400000000000002 &&& M = 0x3400000000000002) :
    Goes M o (execRangeSwitch a0 s) := by
  unfold execRangeSwitch
  try dsimp only
  repeat' first
    | (intro _)
    | with_reducible first
        | assumption | apply Goes.next | apply State.setCode_evolves | apply State.modEl_evolves
        | apply State.switchRange_evolves | apply Evolves.ite | apply Evolves.foldl
    | exact mask_trans (by decide) hm
    | exact mask_bit hm (by decide)
    | fail_if_no_progress beta_reduce
    | split
    | fail_if_no_progress with_reducible apply Evolves.parts
    | exact Or.inl (by with_reducible rfl)
    | exact mask_part hm (by decide)

theorem execRangeRampUp_goes {s : State} (a0) (h : Evolves M o s)
    (hm : 0x2 &&& M = 0x2) :
    Goes M o (execRangeRampUp a0 s) := by
  unfold execRangeRampUp
  try dsimp only
  repeat' first
    | (intro _)
    | with_reducible first
        | assumption | apply Goes.next | apply State.modEl_evolves | apply Evolves.ite | apply Evolves.foldl
    | exact mask_trans (by decide) hm
    | exact mask_bit hm (by decide)
    | fail_if_no_progress beta_reduce
    | split
    | fail_if_no_progress with_reducible apply Evolves.parts
    | exact Or.inl (by with_reducible rfl)
    | exact mask_part hm (by decide)

theorem execRangeChangeEnd_goes {s : State} (a0) (h : Evolves M o s)
    (hm : 0x40000000000000000000000000000000000000000000000000000000000000000000000000000000000d000000000000012 &&& M = 0x40000000000000000000000000000000000000000000000000000000000000000000000000000000000d000000000000012) :
    Goes M o (execRangeChangeEnd a0 s) := by
  unfold execRangeChangeEnd
  try dsimp only
  repeat' first
    | (intro _)
    | with_reducible first
        | assumption | apply Goes.next | apply State.wrBit_evolves | apply State.modEl_evolves
        | apply State.latch_evolves | apply State.finishOpt_evolves | apply Evolves.ite | apply Evolves.foldl
    | exact mask_trans (by decide) hm
    | exact mask_bit hm (by decide)
    | fail_if_no_progress beta_reduce
    | split
    | fail_if_no_progress with_reducible apply Evolves.parts
    | exact Or.inl (by with_reducible rfl)
    | exact mask_part hm (by decide)

theorem State.setVclr_evolves {s : State} (a1 a2) (h : Evolves M o s)
    (hm : 0x89000000000000002 &&& M = 0x89000000000000002) :
    Evolves M o (State.setVclr s a1 a2) := by
  unfold State.setVclr
  try dsimp only
  repeat' first
    | (intro _)
    | with_reducible first
        | assumption | apply State.wr_evolves | apply State.toClear_evolves | apply Evolves.ite | apply Evolves.foldl
    | exact mask_trans (by decide) hm
    | exact mask_bit hm (by decide)
    | fail_if_no_progress beta_reduce
    | split
    | fail_if_no_progress with_reducible apply Evolves.parts
    | exact Or.inl (by with_reducible rfl)
    | exact mask_part hm (by decide)

theorem execUstVclrWrite_goes {s : State} (a0 a1) (h : Evolves M o s)
    (hm : 0x89000000000000002 &&& M = 0x89000000000000002) :
    Goes M o (execUstVclrWrite a0 a1 s) := by
  unfold execUstVclrWrite
  try dsimp only
  repeat' first
    | (intro _)
    | with_reducible first
        | assumption | apply Goes.next | apply State.setVclr_evolves | apply Evolves.ite | apply Evolves.foldl
    | exact mask_trans (by decide) hm
    | exact mask_bit hm (by decide)
    | fail_if_no_progress beta_reduce
    | split
    | fail_if_no_progress with_reducible apply Evolves.parts
    | exact Or.inl (by with_reducible rfl)
    | exact mask_part hm (by decide)

theorem State.showClrn_evolves {s : State} (h : Evolves M o s)
    (hm : 0x400000000000000000 &&& M = 0x400000000000000000) :
    Evolves M o (State.showClrn s) := by
  unfold State.showClrn
  try dsimp only
  repeat' first
    | (intro _)
    | with_reducible first
        | assumption | apply State.wrBit_evolves | apply Evolves.ite | apply Evolves.foldl
    | exact mask_trans (by decide) hm
    | exact mask_bit hm (by decide)
    | fail_if_no_progress beta_reduce
    | split
    | fail_if_no_progress with_reducible apply Evolves.parts
    | exact Or.inl (by with_reducible rfl)
    | exact mask_part hm (by decide)

theorem State.clrElem_evolves {s : State} (a1) (h : Evolves M o s)
    (hm : 0x40000000000000000000000000000000000000000000000000000000000000000000000000000000002d400000000000012 &&& M = 0x40000000000000000000000000000000000000000000000000000000000000000000000000000000002d400000000000012) :
    Evolves M o (State.clrElem s a1) := by
  unfold State.clrElem
  try dsimp only
  repeat' first
    | (intro _)
    | with_reducible first
        | assumption | apply State.modEl_evolves | apply State.endRange_evolves | apply State.toClear_evolves
        | apply State.wrBit_evolves | apply Evolves.ite | apply Evolves.foldl
    | exact mask_trans (by decide) hm
    | exact mask_bit hm (by decide)
    | fail_if_no_progress beta_reduce
    | split
    | fail_if_no_progress with_reducible apply Evolves.parts
    | exact Or.inl (by with_reducible rfl)
    | exact mask_part hm (by decide)

theorem execClrNAssert_goes {s : State} (a0 a1) (h : Evolves M o s)
    (hm : 0x40000500000000000001000000000000000000000000000000000c00000000000000000000480000062d4000000000170f2 &&& M = 0x40000500000000000001000000000000000000000000000000000c00000000000000000000480000062d4000000000170f2) :
    Goes M o (execClrNAssert a0 a1 s) := by
  unfold execClrNAssert
  try dsimp only
  repeat' first
    | (intro _)
    | with_reducible first
        | assumption | apply Goes.next | apply State.modLoop_evolves | apply State.showClrn_evolves
        | apply State.clrElem_evolves | apply State.abandonSweeps_evolves | apply State.setHiz_evolves
        | apply State.report_evolves | apply State.showCleared_evolves | apply Evolves.ite | apply Evolves.foldl
    | exact mask_trans (by decide) hm
    | exact mask_bit hm (by decide)
    | fail_if_no_progress beta_reduce
    | split
    | fail_if_no_progress with_reducible apply Evolves.parts
    | exact Or.inl (by with_reducible rfl)
    | exact mask_part hm (by decide)

theorem execClrNRelease_goes {s : State} (h : Evolves M o s)
    (hm : 0x400000000000000082 &&& M = 0x400000000000000082) :
    Goes M o (execClrNRelease s) := by
  unfold execClrNRelease
  try dsimp only
  repeat' first
    | (intro _)
    | with_reducible first
        | assumption | apply Goes.next | apply State.modCpt_evolves | apply State.report_evolves
        | apply State.showClrn_evolves | apply State.modLoop_evolves | apply Evolves.ite | apply Evolves.foldl
    | exact mask_trans (by decide) hm
    | exact mask_bit hm (by decide)
    | fail_if_no_progress beta_reduce
    | split
    | fail_if_no_progress with_reducible apply Evolves.parts
    | exact Or.inl (by with_reducible rfl)
    | exact mask_part hm (by decide)

theorem execClrNReturn_goes {s : State} (a0) (h : Evolves M o s)
    (hm : 0x400005000000000000010000000000000000000000000000000000000000000000000000004808000268000000000017072 &&& M = 0x400005000000000000010000000000000000000000000000000000000000000000000000004808000268000000000017072) :
    Goes M o (execClrNReturn a0 s) := by
  unfold execClrNReturn
  try dsimp only
  repeat' first
    | (intro _)
    | with_reducible first
        | assumption | apply Goes.next | apply State.showCleared_evolves | apply State.modCpt_evolves
        | apply State.fromClear_evolves | apply Evolves.ite | apply Evolves.foldl
    | exact mask_trans (by decide) hm
    | exact mask_bit hm (by decide)
    | fail_if_no_progress beta_reduce
    | split
    | fail_if_no_progress with_reducible apply Evolves.parts
    | exact Or.inl (by with_reducible rfl)
    | exact mask_part hm (by decide)

theorem execProfileImpulse_goes {s : State} (a0 a1) (h : Evolves M o s)
    (hm : 0x780000000000009000000000000002 &&& M = 0x780000000000009000000000000002) :
    Goes M o (execProfileImpulse a0 a1 s) := by
  unfold execProfileImpulse
  try dsimp only
  repeat' first
    | (intro _)
    | with_reducible first
        | assumption | apply Goes.next | apply State.modEl_evolves | apply State.latch_evolves
        | apply State.impulse_evolves | apply State.powerCap_evolves | apply Evolves.ite | apply Evolves.foldl
    | exact mask_trans (by decide) hm
    | exact mask_bit hm (by decide)
    | fail_if_no_progress beta_reduce
    | split
    | fail_if_no_progress with_reducible apply Evolves.parts
    | exact Or.inl (by with_reducible rfl)
    | exact mask_part hm (by decide)

theorem execTrajectoryEnd_goes {s : State} (a0 a1) (h : Evolves M o s)
    (hm : 0x20000000000000002 &&& M = 0x20000000000000002) :
    Goes M o (execTrajectoryEnd a0 a1 s) := by
  unfold execTrajectoryEnd
  try dsimp only
  repeat' first
    | (intro _)
    | with_reducible first
        | assumption | apply Goes.next | apply State.flush_evolves | apply State.modEl_evolves
        | apply State.wrBit_evolves | apply Evolves.ite | apply Evolves.foldl
    | exact mask_trans (by decide) hm
    | exact mask_bit hm (by decide)
    | fail_if_no_progress beta_reduce
    | split
    | fail_if_no_progress with_reducible apply Evolves.parts
    | exact Or.inl (by with_reducible rfl)
    | exact mask_part hm (by decide)

theorem execUstProfileWrite_goes {s : State} (a0 a1 a2 a3 a4 a5 a6 a7 a8 a9) (h : Evolves M o s)
    (hm : 0x3fc000000000000000080 &&& M = 0x3fc000000000000000080) :
    Goes M o (execUstProfileWrite a0 a1 a2 a3 a4 a5 a6 a7 a8 a9 s) := by
  unfold execUstProfileWrite
  try dsimp only
  repeat' first
    | (intro _)
    | with_reducible first
        | assumption | apply Goes.next | apply State.expertWrite_evolves | apply State.putProf_evolves
        | apply State.noteDiscard_evolves | apply Evolves.ite | apply Evolves.foldl
    | exact mask_trans (by decide) hm
    | exact mask_bit hm (by decide)
    | fail_if_no_progress beta_reduce
    | split
    | fail_if_no_progress with_reducible apply Evolves.parts
    | exact Or.inl (by with_reducible rfl)
    | exact mask_part hm (by decide)

theorem execPilotAmplitudeChange_goes {s : State} (a0) (h : Evolves M o s)
    (hm : 0x2 &&& M = 0x2) :
    Goes M o (execPilotAmplitudeChange a0 s) := by
  unfold execPilotAmplitudeChange
  try dsimp only
  repeat' first
    | (intro _)
    | with_reducible first
        | assumption | apply Goes.next | apply State.noteAmp_evolves | apply State.modEl_evolves | apply Evolves.ite
        | apply Evolves.foldl
    | exact mask_trans (by decide) hm
    | exact mask_bit hm (by decide)
    | fail_if_no_progress beta_reduce
    | split
    | fail_if_no_progress with_reducible apply Evolves.parts
    | exact Or.inl (by with_reducible rfl)
    | exact mask_part hm (by decide)

end Sys2Proof.Machine
end

