-- ==== Sys2Proof/Laws/EvolvesH.lean ====
section
/-! SUPPORT. What each operation and meaning of the files LoopCmds, Regs, Traverse, Resets leaves of the state before it
(Evolves). -/

namespace Sys2Proof.Machine

set_option Elab.async false
set_option linter.unusedTactic false
set_option linter.unreachableTactic false
set_option linter.unusedVariables false
set_option linter.unusedSimpArgs false
set_option exponentiation.threshold 1024

variable {M : Nat} {o : State}

/-! ## LoopCmds -/

theorem State.schedule_evolves {s : State} (a1 a2 a3) (h : Evolves M o s)
    (hm : 0x400000000000000000000000000000000000000000000000000000000000000000000000000000000000000000000000052 &&& M = 0x400000000000000000000000000000000000000000000000000000000000000000000000000000000000000000000000052) :
    Evolves M o (State.schedule s a1 a2 a3) := by
  unfold State.schedule
  try dsimp only
  repeat' first
    | (intro _)
    | with_reducible first
        | assumption | apply State.entered_evolves | apply State.effect_evolves | apply State.modEl_evolves
        | apply Evolves.ite | apply Evolves.foldl
    | exact mask_trans (by decide) hm
    | exact mask_bit hm (by decide)
    | fail_if_no_progress beta_reduce
    | split
    | fail_if_no_progress with_reducible apply Evolves.parts
    | exact Or.inl (by with_reducible rfl)
    | exact mask_part hm (by decide)

theorem execElementSetOverride_goes {s : State} (a0 a1 a2) (h : Evolves M o s)
    (hm : 0x400000000000000000000000000000000000000000000000000000000000000000000000000000000000000000000000052 &&& M = 0x400000000000000000000000000000000000000000000000000000000000000000000000000000000000000000000000052) :
    Goes M o (execElementSetOverride a0 a1 a2 s) := by
  unfold execElementSetOverride
  try dsimp only
  repeat' first
    | (intro _)
    | with_reducible first
        | assumption | apply Goes.next | apply State.checked_evolves | apply State.schedule_evolves
        | apply Evolves.ite | apply Evolves.foldl
    | exact mask_trans (by decide) hm
    | exact mask_bit hm (by decide)
    | fail_if_no_progress beta_reduce
    | split
    | fail_if_no_progress with_reducible apply Evolves.parts
    | exact Or.inl (by with_reducible rfl)
    | exact mask_part hm (by decide)

theorem execElementSetSetpoint_goes {s : State} (a0 a1 a2 a3) (h : Evolves M o s)
    (hm : 0x400000000000000000000000000000000000000000000000000000000000000000000000000000000000000000000000052 &&& M = 0x400000000000000000000000000000000000000000000000000000000000000000000000000000000000000000000000052) :
    Goes M o (execElementSetSetpoint a0 a1 a2 a3 s) := by
  unfold execElementSetSetpoint
  try dsimp only
  repeat' first
    | (intro _)
    | with_reducible first
        | assumption | apply Goes.next | apply State.checked_evolves | apply State.modEl_evolves
        | apply State.status_evolves | apply State.schedule_evolves | apply Evolves.ite | apply Evolves.foldl
    | exact mask_trans (by decide) hm
    | exact mask_bit hm (by decide)
    | fail_if_no_progress beta_reduce
    | split
    | fail_if_no_progress with_reducible apply Evolves.parts
    | exact Or.inl (by with_reducible rfl)
    | exact mask_part hm (by decide)

theorem execElementSetRange_goes {s : State} (a0 a1 a2) (h : Evolves M o s)
    (hm : 0x400000000000000000000000000000000000000000000000000000000000000000000000000000000000400000000000052 &&& M = 0x400000000000000000000000000000000000000000000000000000000000000000000000000000000000400000000000052) :
    Goes M o (execElementSetRange a0 a1 a2 s) := by
  unfold execElementSetRange
  try dsimp only
  repeat' first
    | (intro _)
    | with_reducible first
        | assumption | apply Goes.next | apply State.complete_evolves | apply State.entered_evolves
        | apply State.effect_evolves | apply State.askRange_evolves | apply Evolves.ite | apply Evolves.foldl
    | exact mask_trans (by decide) hm
    | exact mask_bit hm (by decide)
    | fail_if_no_progress beta_reduce
    | split
    | fail_if_no_progress with_reducible apply Evolves.parts
    | exact Or.inl (by with_reducible rfl)
    | exact mask_part hm (by decide)

theorem State.releaseGroup_evolves {s : State} (a1) (h : Evolves M o s)
    (hm : 0x3a09000000000000002 &&& M = 0x3a09000000000000002) :
    Evolves M o (State.releaseGroup s a1) := by
  unfold State.releaseGroup
  try dsimp only
  repeat' first
    | (intro _)
    | with_reducible first
        | assumption | apply State.showCleared_evolves | apply State.showGtrip_evolves
        | apply State.enableGroup_evolves | apply Evolves.ite | apply Evolves.foldl
    | exact mask_trans (by decide) hm
    | exact mask_bit hm (by decide)
    | fail_if_no_progress beta_reduce
    | split
    | fail_if_no_progress with_reducible apply Evolves.parts
    | exact Or.inl (by with_reducible rfl)
    | exact mask_part hm (by decide)

theorem execElementReleaseElement_goes {s : State} (a0 a1) (h : Evolves M o s)
    (hm : 0x400000000000000000000000000000000000000000000000000000000000000000000000007800003a19000000000000052 &&& M = 0x400000000000000000000000000000000000000000000000000000000000000000000000007800003a19000000000000052) :
    Goes M o (execElementReleaseElement a0 a1 s) := by
  unfold execElementReleaseElement
  try dsimp only
  repeat' first
    | (intro _)
    | with_reducible first
        | assumption | apply Goes.next | apply State.checked_evolves | apply State.schedule_evolves
        | apply State.releaseGroup_evolves | apply State.clearOc_evolves | apply State.clearLatches_evolves
        | apply State.status_evolves | apply Evolves.ite | apply Evolves.foldl
    | exact mask_trans (by decide) hm
    | exact mask_bit hm (by decide)
    | fail_if_no_progress beta_reduce
    | split
    | fail_if_no_progress with_reducible apply Evolves.parts
    | exact Or.inl (by with_reducible rfl)
    | exact mask_part hm (by decide)

theorem execElementReleaseTrip_goes {s : State} (a0 a1) (h : Evolves M o s)
    (hm : 0x40000000000000000000000000000000000000000000000000000000000000000000003c000000000000000000000000052 &&& M = 0x40000000000000000000000000000000000000000000000000000000000000000000003c000000000000000000000000052) :
    Goes M o (execElementReleaseTrip a0 a1 s) := by
  unfold execElementReleaseTrip
  try dsimp only
  repeat' first
    | (intro _)
    | with_reducible first
        | assumption | apply Goes.next | apply State.checked_evolves | apply State.status_evolves
        | apply State.clearTrip_evolves | apply Evolves.ite | apply Evolves.foldl
    | exact mask_trans (by decide) hm
    | exact mask_bit hm (by decide)
    | fail_if_no_progress beta_reduce
    | split
    | fail_if_no_progress with_reducible apply Evolves.parts
    | exact Or.inl (by with_reducible rfl)
    | exact mask_part hm (by decide)

theorem execElementReleaseReturn_goes {s : State} (a0 a1) (h : Evolves M o s)
    (hm : 0x400000000000000000000000000000000000000000000000000000000000000000000000000000000000000000000000052 &&& M = 0x400000000000000000000000000000000000000000000000000000000000000000000000000000000000000000000000052) :
    Goes M o (execElementReleaseReturn a0 a1 s) := by
  unfold execElementReleaseReturn
  try dsimp only
  repeat' first
    | (intro _)
    | with_reducible first
        | assumption | apply Goes.next | apply State.checked_evolves | apply State.status_evolves
        | apply State.entered_evolves | apply State.effect_evolves | apply State.modEl_evolves
        | apply State.schedule_evolves | apply Evolves.ite | apply Evolves.foldl
    | exact mask_trans (by decide) hm
    | exact mask_bit hm (by decide)
    | fail_if_no_progress beta_reduce
    | split
    | fail_if_no_progress with_reducible apply Evolves.parts
    | exact Or.inl (by with_reducible rfl)
    | exact mask_part hm (by decide)

theorem State.askChange_evolves {s : State} (a1 a2 a3 a4) (h : Evolves M o s)
    (hm : 0x2000000000000000000000000000002 &&& M = 0x2000000000000000000000000000002) :
    Evolves M o (State.askChange s a1 a2 a3 a4) := by
  unfold State.askChange
  try dsimp only
  repeat' first
    | (intro _)
    | with_reducible first
        | assumption | apply State.modCpt_evolves | apply State.wrBit_evolves | apply Evolves.ite
        | apply Evolves.foldl
    | exact mask_trans (by decide) hm
    | exact mask_bit hm (by decide)
    | fail_if_no_progress beta_reduce
    | split
    | fail_if_no_progress with_reducible apply Evolves.parts
    | exact Or.inl (by with_reducible rfl)
    | exact mask_part hm (by decide)

theorem execLoopConfigCompartment_goes {s : State} (a0 a1 a2 a3) (h : Evolves M o s)
    (hm : 0x400000000000000000000000000000000000000000000000000000000000000000002000000000000000000000000000052 &&& M = 0x400000000000000000000000000000000000000000000000000000000000000000002000000000000000000000000000052) :
    Goes M o (execLoopConfigCompartment a0 a1 a2 a3 s) := by
  unfold execLoopConfigCompartment
  try dsimp only
  repeat' first
    | (intro _)
    | with_reducible first
        | assumption | apply Goes.next | apply State.checked_evolves | apply State.status_evolves
        | apply State.askChange_evolves | apply State.entered_evolves | apply Evolves.ite | apply Evolves.foldl
    | exact mask_trans (by decide) hm
    | exact mask_bit hm (by decide)
    | fail_if_no_progress beta_reduce
    | split
    | fail_if_no_progress with_reducible apply Evolves.parts
    | exact Or.inl (by with_reducible rfl)
    | exact mask_part hm (by decide)

theorem execLoopConfigCoefficient_goes {s : State} (a0 a1 a2 a3 a4 a5 a6 a7) (h : Evolves M o s)
    (hm : 0x400000000000000000000000000000000000000000000000000000000000000003c40000000000000000000000000000052 &&& M = 0x400000000000000000000000000000000000000000000000000000000000000003c40000000000000000000000000000052) :
    Goes M o (execLoopConfigCoefficient a0 a1 a2 a3 a4 a5 a6 a7 s) := by
  unfold execLoopConfigCoefficient
  try dsimp only
  repeat' first
    | (intro _)
    | with_reducible first
        | assumption | apply Goes.next | apply State.wr_evolves | apply State.checked_evolves
        | apply State.askSwap_evolves | apply State.status_evolves | apply Evolves.ite | apply Evolves.foldl
    | exact mask_trans (by decide) hm
    | exact mask_bit hm (by decide)
    | fail_if_no_progress beta_reduce
    | split
    | fail_if_no_progress with_reducible apply Evolves.parts
    | exact Or.inl (by with_reducible rfl)
    | exact mask_part hm (by decide)

theorem execLoopConfigElement_goes {s : State} (a0 a1 a2 a3) (h : Evolves M o s)
    (hm : 0x400000000000000000000000000000000000000000000000000000000000000000000000000000000000000000000000052 &&& M = 0x400000000000000000000000000000000000000000000000000000000000000000000000000000000000000000000000052) :
    Goes M o (execLoopConfigElement a0 a1 a2 a3 s) := by
  unfold execLoopConfigElement
  try dsimp only
  repeat' first
    | (intro _)
    | with_reducible first
        | assumption | apply Goes.next | apply State.checked_evolves | apply State.status_evolves
        | apply State.modEl_evolves | apply Evolves.ite | apply Evolves.foldl
    | exact mask_trans (by decide) hm
    | exact mask_bit hm (by decide)
    | fail_if_no_progress beta_reduce
    | split
    | fail_if_no_progress with_reducible apply Evolves.parts
    | exact Or.inl (by with_reducible rfl)
    | exact mask_part hm (by decide)

theorem execLoopConfigClearCode_goes {s : State} (a0 a1 a2 a3) (h : Evolves M o s)
    (hm : 0x400000000000000000000000000000000000000000000000000000000000000000000000000000000089000000000000052 &&& M = 0x400000000000000000000000000000000000000000000000000000000000000000000000000000000089000000000000052) :
    Goes M o (execLoopConfigClearCode a0 a1 a2 a3 s) := by
  unfold execLoopConfigClearCode
  try dsimp only
  repeat' first
    | (intro _)
    | with_reducible first
        | assumption | apply Goes.next | apply State.checked_evolves | apply State.status_evolves
        | apply State.setVclr_evolves | apply Evolves.ite | apply Evolves.foldl
    | exact mask_trans (by decide) hm
    | exact mask_bit hm (by decide)
    | fail_if_no_progress beta_reduce
    | split
    | fail_if_no_progress with_reducible apply Evolves.parts
    | exact Or.inl (by with_reducible rfl)
    | exact mask_part hm (by decide)

theorem execLoopConfigProfile_goes {s : State} (a0 a1 a2 a3 a4 a5 a6 a7 a8 a9 a10 a11) (h : Evolves M o s)
    (hm : 0x10000000000000000000000000004000000000000000000000000000000000000000000000000000000000000000000000000000003fc000000000000000452 &&& M = 0x10000000000000000000000000004000000000000000000000000000000000000000000000000000000000000000000000000000003fc000000000000000452) :
    Goes M o (execLoopConfigProfile a0 a1 a2 a3 a4 a5 a6 a7 a8 a9 a10 a11 s) := by
  unfold execLoopConfigProfile
  try dsimp only
  repeat' first
    | (intro _)
    | with_reducible first
        | assumption | apply Goes.next | apply State.checked_evolves | apply State.status_evolves
        | apply State.countRefused_evolves | apply State.extendProfs_evolves | apply State.modLoop_evolves
        | apply State.putProf_evolves | apply Evolves.ite | apply Evolves.foldl
    | exact mask_trans (by decide) hm
    | exact mask_bit hm (by decide)
    | fail_if_no_progress beta_reduce
    | split
    | fail_if_no_progress with_reducible apply Evolves.parts
    | exact Or.inl (by with_reducible rfl)
    | exact mask_part hm (by decide)

theorem State.setPamp_evolves {s : State} (a1 a2) (h : Evolves M o s)
    (hm : 0x40000000800000000000000 &&& M = 0x40000000800000000000000) :
    Evolves M o (State.setPamp s a1 a2) := by
  unfold State.setPamp
  try dsimp only
  repeat' first
    | (intro _)
    | with_reducible first
        | assumption | apply State.wr_evolves | apply Evolves.ite | apply Evolves.foldl
    | exact mask_trans (by decide) hm
    | exact mask_bit hm (by decide)
    | fail_if_no_progress beta_reduce
    | split
    | fail_if_no_progress with_reducible apply Evolves.parts
    | exact Or.inl (by with_reducible rfl)
    | exact mask_part hm (by decide)

theorem execLoopConfigPilot_goes {s : State} (a0 a1 a2 a3) (h : Evolves M o s)
    (hm : 0x400000000000000000000000000000000000000000000000000000000000000000000000000040000000800000000000050 &&& M = 0x400000000000000000000000000000000000000000000000000000000000000000000000000040000000800000000000050) :
    Goes M o (execLoopConfigPilot a0 a1 a2 a3 s) := by
  unfold execLoopConfigPilot
  try dsimp only
  repeat' first
    | (intro _)
    | with_reducible first
        | assumption | apply Goes.next | apply State.checked_evolves | apply State.status_evolves
        | apply State.setPamp_evolves | apply Evolves.ite | apply Evolves.foldl
    | exact mask_trans (by decide) hm
    | exact mask_bit hm (by decide)
    | fail_if_no_progress beta_reduce
    | split
    | fail_if_no_progress with_reducible apply Evolves.parts
    | exact Or.inl (by with_reducible rfl)
    | exact mask_part hm (by decide)

theorem execLoopConfigDeglitch_goes {s : State} (a0 a1 a2) (h : Evolves M o s)
    (hm : 0x400000000000000000000000000000000000000000000000000000000000000000000000000000000100000000000000050 &&& M = 0x400000000000000000000000000000000000000000000000000000000000000000000000000000000100000000000000050) :
    Goes M o (execLoopConfigDeglitch a0 a1 a2 s) := by
  unfold execLoopConfigDeglitch
  try dsimp only
  repeat' first
    | (intro _)
    | with_reducible first
        | assumption | apply Goes.next | apply State.checked_evolves | apply State.status_evolves
        | apply State.wr_evolves | apply Evolves.ite | apply Evolves.foldl
    | exact mask_trans (by decide) hm
    | exact mask_bit hm (by decide)
    | fail_if_no_progress beta_reduce
    | split
    | fail_if_no_progress with_reducible apply Evolves.parts
    | exact Or.inl (by with_reducible rfl)
    | exact mask_part hm (by decide)

theorem execLoopConfigHpwm_goes {s : State} (a0 a1 a2 a3 a4 a5 a6 a7) (h : Evolves M o s)
    (hm : 0x400000000000000000000000000000000000000000000000000000000000000000000000000007c00000000000000000050 &&& M = 0x400000000000000000000000000000000000000000000000000000000000000000000000000007c00000000000000000050) :
    Goes M o (execLoopConfigHpwm a0 a1 a2 a3 a4 a5 a6 a7 s) := by
  unfold execLoopConfigHpwm
  try dsimp only
  repeat' first
    | (intro _)
    | with_reducible first
        | assumption | apply Goes.next | apply State.checked_evolves | apply State.status_evolves
        | apply State.wr_evolves | apply Evolves.ite | apply Evolves.foldl
    | exact mask_trans (by decide) hm
    | exact mask_bit hm (by decide)
    | fail_if_no_progress beta_reduce
    | split
    | fail_if_no_progress with_reducible apply Evolves.parts
    | exact Or.inl (by with_reducible rfl)
    | exact mask_part hm (by decide)

theorem execLoopConfigTrip_goes {s : State} (a0 a1) (h : Evolves M o s)
    (hm : 0x40000500000000000001000000000000000000000000000000000c00000000000000000c0048000000000000000000170f2 &&& M = 0x40000500000000000001000000000000000000000000000000000c00000000000000000c0048000000000000000000170f2) :
    Goes M o (execLoopConfigTrip a0 a1 s) := by
  unfold execLoopConfigTrip
  try dsimp only
  repeat' first
    | (intro _)
    | with_reducible first
        | assumption | apply Goes.next | apply State.checked_evolves | apply State.status_evolves
        | apply State.trip_evolves | apply Evolves.ite | apply Evolves.foldl
    | exact mask_trans (by decide) hm
    | exact mask_bit hm (by decide)
    | fail_if_no_progress beta_reduce
    | split
    | fail_if_no_progress with_reducible apply Evolves.parts
    | exact Or.inl (by with_reducible rfl)
    | exact mask_part hm (by decide)

theorem execLoopConfigPowerCap_goes {s : State} (a0 a1) (h : Evolves M o s)
    (hm : 0x400000000000000000000000000000000000000000000000000000000000000000000040000000000000000000000000050 &&& M = 0x400000000000000000000000000000000000000000000000000000000000000000000040000000000000000000000000050) :
    Goes M o (execLoopConfigPowerCap a0 a1 s) := by
  unfold execLoopConfigPowerCap
  try dsimp only
  repeat' first
    | (intro _)
    | with_reducible first
        | assumption | apply Goes.next | apply State.checked_evolves | apply State.status_evolves
        | apply State.wr_evolves | apply Evolves.ite | apply Evolves.foldl
    | exact mask_trans (by decide) hm
    | exact mask_bit hm (by decide)
    | fail_if_no_progress beta_reduce
    | split
    | fail_if_no_progress with_reducible apply Evolves.parts
    | exact Or.inl (by with_reducible rfl)
    | exact mask_part hm (by decide)

theorem execElementStatus_goes {s : State} (a0 a1 a2 a3) (h : Evolves M o s)
    (hm : 0x400000000000000000000000000000000000000000000000000000000000000000000000000000000000000000000012050 &&& M = 0x400000000000000000000000000000000000000000000000000000000000000000000000000000000000000000000012050) :
    Goes M o (execElementStatus a0 a1 a2 a3 s) := by
  unfold execElementStatus
  try dsimp only
  repeat' first
    | (intro _)
    | with_reducible first
        | assumption | apply Goes.next | apply State.checked_evolves | apply State.complete_evolves
        | apply State.hostWrite_evolves | apply State.entered_evolves | apply Evolves.ite | apply Evolves.foldl
    | exact mask_trans (by decide) hm
    | exact mask_bit hm (by decide)
    | fail_if_no_progress beta_reduce
    | split
    | fail_if_no_progress with_reducible apply Evolves.parts
    | exact Or.inl (by with_reducible rfl)
    | exact mask_part hm (by decide)

/-! ## Regs -/

theorem State.storeField_evolves {s : State} (a1 a2 a3) (h : Evolves M o s)
    (hm : 0x1fffffffffffffffffffffffffffffffffffffffffffffffffffffffffffffffffffffffffffffffffffffffffffffffffffffffffffffffffffffffffffffffffffffffffffffffffffffffffffffffffffffffffffffffffffffffffffffffffffffffffffffffffffffffffffffffffffffffffffffffffffffffffffffffe0202 &&& M = 0x1fffffffffffffffffffffffffffffffffffffffffffffffffffffffffffffffffffffffffffffffffffffffffffffffffffffffffffffffffffffffffffffffffffffffffffffffffffffffffffffffffffffffffffffffffffffffffffffffffffffffffffffffffffffffffffffffffffffffffffffffffffffffffffffffe0202) :
    Evolves M o (State.storeField s a1 a2 a3).1 := by
  unfold State.storeField
  try dsimp only
  repeat' first
    | (intro _)
    | with_reducible first
        | assumption | apply State.wr_evolves | apply State.modEl_evolves | apply State.showCfg_evolves
        | apply State.modFbk_evolves | apply Evolves.ite | apply Evolves.foldl
    | exact mask_trans (by decide) hm
    | exact mask_bit hm (by decide)
    | fail_if_no_progress beta_reduce
    | split
    | fail_if_no_progress with_reducible apply Evolves.parts
    | exact Or.inl (by with_reducible rfl)
    | exact mask_part hm (by decide)
    | exact mask_all hm (by decide) _

theorem State.storeAll_evolves {s : State} (a i ws) (h : Evolves M o s)
    (hm : 0x1fffffffffffffffffffffffffffffffffffffffffffffffffffffffffffffffffffffffffffffffffffffffffffffffffffffffffffffffffffffffffffffffffffffffffffffffffffffffffffffffffffffffffffffffffffffffffffffffffffffffffffffffffffffffffffffffffffffffffffffffffffffffffffffffe0282 &&& M = 0x1fffffffffffffffffffffffffffffffffffffffffffffffffffffffffffffffffffffffffffffffffffffffffffffffffffffffffffffffffffffffffffffffffffffffffffffffffffffffffffffffffffffffffffffffffffffffffffffffffffffffffffffffffffffffffffffffffffffffffffffffffffffffffffffffe0282) :
    Evolves M o (State.storeAll s a i ws).1 := by
  have key : ∀ (ws : List FieldWrite) (acc : State × List Fid × Bool), Evolves M o acc.1 →
      Evolves M o (ws.foldl (fun (acc : State × List Fid × Bool) w =>
        let (t, ok) := acc.1.storeField a i w
        (t, if ok then acc.2.1 ++ [w.f] else acc.2.1, acc.2.2 || !ok)) acc).1 := by
    intro ws
    induction ws with
    | nil => exact fun _ k => k
    | cons w ws ih => exact fun acc k => ih _ (State.storeField_evolves a i w k (mask_trans (by decide) hm))
  exact Evolves.ite (State.noteDiscard_evolves _ (key ws _ h) (mask_trans (by decide) hm)) (key ws _ h)

theorem State.raiseEnabled_evolves {s : State} (a1 a2 a3 a4 a5) (h : Evolves M o s)
    (hm : 0x10000 &&& M = 0x10000) :
    Evolves M o (State.raiseEnabled s a1 a2 a3 a4 a5) := by
  unfold State.raiseEnabled
  try dsimp only
  repeat' first
    | (intro _)
    | with_reducible first
        | assumption | apply State.emit_evolves | apply Evolves.ite | apply Evolves.foldl
    | exact mask_trans (by decide) hm
    | exact mask_bit hm (by decide)
    | fail_if_no_progress beta_reduce
    | split
    | fail_if_no_progress with_reducible apply Evolves.parts
    | exact Or.inl (by with_reducible rfl)
    | exact mask_part hm (by decide)

theorem State.cptCfgWritten_evolves {s : State} (a1 a2 a3) (h : Evolves M o s)
    (hm : 0x3800000000000000000000000000082 &&& M = 0x3800000000000000000000000000082) :
    Evolves M o (State.cptCfgWritten s a1 a2 a3) := by
  unfold State.cptCfgWritten
  try dsimp only
  repeat' first
    | (intro _)
    | with_reducible first
        | assumption | apply State.wr_evolves | apply State.noteDiscard_evolves | apply State.askChange_evolves
        | apply Evolves.ite | apply Evolves.foldl
    | exact mask_trans (by decide) hm
    | exact mask_bit hm (by decide)
    | fail_if_no_progress beta_reduce
    | split
    | fail_if_no_progress with_reducible apply Evolves.parts
    | exact Or.inl (by with_reducible rfl)
    | exact mask_part hm (by decide)

theorem State.outCfgWritten_evolves {s : State} (a1 a2 a3) (h : Evolves M o s)
    (hm : 0x4000000000000000000000000000000000000000082 &&& M = 0x4000000000000000000000000000000000000000082) :
    Evolves M o (State.outCfgWritten s a1 a2 a3) := by
  unfold State.outCfgWritten
  try dsimp only
  repeat' first
    | (intro _)
    | with_reducible first
        | assumption | apply State.wrBit_evolves | apply State.noteDiscard_evolves | apply State.outerOn_evolves
        | apply Evolves.ite | apply Evolves.foldl
    | exact mask_trans (by decide) hm
    | exact mask_bit hm (by decide)
    | fail_if_no_progress beta_reduce
    | split
    | fail_if_no_progress with_reducible apply Evolves.parts
    | exact Or.inl (by with_reducible rfl)
    | exact mask_part hm (by decide)

theorem State.clearWith_evolves {s : State} (a1 a2 a3 a4) (h : Evolves M o s) (hb2 : M.testBit (17 + (a2 : Fid).ctorIdx) = true) (hb3 : M.testBit (17 + (a3 : Fid).ctorIdx) = true)
    (hm : 0x0 &&& M = 0x0) :
    Evolves M o (State.clearWith s a1 a2 a3 a4) := by
  unfold State.clearWith
  try dsimp only
  repeat' first
    | (intro _)
    | with_reducible first
        | assumption | apply State.wr_evolves | apply Evolves.ite | apply Evolves.foldl
    | exact mask_trans (by decide) hm
    | exact mask_bit hm (by decide)
    | fail_if_no_progress beta_reduce
    | split
    | fail_if_no_progress with_reducible apply Evolves.parts
    | exact Or.inl (by with_reducible rfl)
    | exact mask_part hm (by decide)

theorem State.trigCfgWritten_evolves {s : State} (a1 a2 a3) (h : Evolves M o s)
    (hm : 0x1b8000020000000000000000000000000000000000000000000000000000000000010880 &&& M = 0x1b8000020000000000000000000000000000000000000000000000000000000000010880) :
    Evolves M o (State.trigCfgWritten s a1 a2 a3) := by
  unfold State.trigCfgWritten
  try dsimp only
  repeat' first
    | (intro _)
    | with_reducible first
        | assumption | apply State.clearWith_evolves | apply State.noteDiscard_evolves | apply State.wr_evolves
        | apply State.setStart_evolves | apply State.modTrig_evolves | apply Evolves.ite | apply Evolves.foldl
    | exact mask_trans (by decide) hm
    | exact mask_bit hm (by decide)
    | fail_if_no_progress beta_reduce
    | split
    | fail_if_no_progress with_reducible apply Evolves.parts
    | exact Or.inl (by with_reducible rfl)
    | exact mask_part hm (by decide)

theorem State.dtmCtrlWritten_evolves {s : State} (a1) (h : Evolves M o s)
    (hm : 0xc24000c00000000000000000000000000000000000000000000000000000010880 &&& M = 0xc24000c00000000000000000000000000000000000000000000000000000010880) :
    Evolves M o (State.dtmCtrlWritten s a1) := by
  unfold State.dtmCtrlWritten
  try dsimp only
  repeat' first
    | (intro _)
    | with_reducible first
        | assumption | apply State.resource_evolves | apply State.showPtpRoles_evolves | apply Evolves.ite
        | apply Evolves.foldl
    | exact mask_trans (by decide) hm
    | exact mask_bit hm (by decide)
    | fail_if_no_progress beta_reduce
    | split
    | fail_if_no_progress with_reducible apply Evolves.parts
    | exact Or.inl (by with_reducible rfl)
    | exact mask_part hm (by decide)

theorem State.changeWritten_evolves {s : State} (a1 a2 a3) (h : Evolves M o s)
    (hm : 0x700000000000000000000000000000000000000000000000000000000000000000000000000000000000000080 &&& M = 0x700000000000000000000000000000000000000000000000000000000000000000000000000000000000000080) :
    Evolves M o (State.changeWritten s a1 a2 a3) := by
  unfold State.changeWritten
  try dsimp only
  repeat' first
    | (intro _)
    | with_reducible first
        | assumption | apply State.noteDiscard_evolves | apply State.wr_evolves | apply Evolves.ite
        | apply Evolves.foldl
    | exact mask_trans (by decide) hm
    | exact mask_bit hm (by decide)
    | fail_if_no_progress beta_reduce
    | split
    | fail_if_no_progress with_reducible apply Evolves.parts
    | exact Or.inl (by with_reducible rfl)
    | exact mask_part hm (by decide)

theorem State.monCfgWritten_evolves {s : State} (a1 a2) (h : Evolves M o s)
    (hm : 0x3000002 &&& M = 0x3000002) :
    Evolves M o (State.monCfgWritten s a1 a2) := by
  unfold State.monCfgWritten
  try dsimp only
  repeat' first
    | (intro _)
    | with_reducible first
        | assumption | apply State.wantRange_evolves | apply State.wr_evolves | apply Evolves.ite
        | apply Evolves.foldl
    | exact mask_trans (by decide) hm
    | exact mask_bit hm (by decide)
    | fail_if_no_progress beta_reduce
    | split
    | fail_if_no_progress with_reducible apply Evolves.parts
    | exact Or.inl (by with_reducible rfl)
    | exact mask_part hm (by decide)

theorem State.pwCfgWritten_evolves {s : State} (a1 a2) (h : Evolves M o s)
    (hm : 0x400005000000000000010000000000000000000000000000000000000000000000000000000000000000000018c0201f072 &&& M = 0x400005000000000000010000000000000000000000000000000000000000000000000000000000000000000018c0201f072) :
    Evolves M o (State.pwCfgWritten s a1 a2) := by
  unfold State.pwCfgWritten
  try dsimp only
  repeat' first
    | (intro _)
    | with_reducible first
        | assumption | apply State.wr_evolves | apply State.setPwLen_evolves | apply State.setPwMode_evolves
        | apply Evolves.ite | apply Evolves.foldl
    | exact mask_trans (by decide) hm
    | exact mask_bit hm (by decide)
    | fail_if_no_progress beta_reduce
    | split
    | fail_if_no_progress with_reducible apply Evolves.parts
    | exact Or.inl (by with_reducible rfl)
    | exact mask_part hm (by decide)

theorem State.shadowWritten_evolves {s : State} (a1 a2) (h : Evolves M o s)
    (hm : 0x2 &&& M = 0x2) :
    Evolves M o (State.shadowWritten s a1 a2) := by
  unfold State.shadowWritten
  try dsimp only
  repeat' first
    | (intro _)
    | with_reducible first
        | assumption | apply State.modHc_evolves | apply Evolves.ite | apply Evolves.foldl
    | exact mask_trans (by decide) hm
    | exact mask_bit hm (by decide)
    | fail_if_no_progress beta_reduce
    | split
    | fail_if_no_progress with_reducible apply Evolves.parts
    | exact Or.inl (by with_reducible rfl)
    | exact mask_part hm (by decide)

theorem State.written_evolves {s : State} (a1 a2 a3 a4) (h : Evolves M o s)
    (hm : 0x180000004000018000c00060180580e7001b04600131ff0601b8060c64000c0000600300002000400a0000000338000000000000000000d8cc301f8f2 &&& M = 0x180000004000018000c00060180580e7001b04600131ff0601b8060c64000c0000600300002000400a0000000338000000000000000000d8cc301f8f2) :
    Evolves M o (State.written s a1 a2 a3 a4) := by
  unfold State.written
  try dsimp only
  repeat' first
    | (intro _)
    | with_reducible first
        | assumption | apply State.cptCfgWritten_evolves | apply State.outCfgWritten_evolves
        | apply State.trigCfgWritten_evolves | apply State.dtmCtrlWritten_evolves | apply State.changeWritten_evolves
        | apply State.monCfgWritten_evolves | apply State.pwCfgWritten_evolves | apply State.disarm_evolves
        | apply State.clearWith_evolves | apply State.shadowWritten_evolves | apply State.setPortCfg_evolves
        | apply State.wr_evolves | apply State.showBound_evolves | apply State.takeShapers_evolves
        | apply State.policeChanged_evolves | apply State.driveErr_evolves | apply State.showOverdue_evolves
        | apply State.raiseEnabled_evolves | apply Evolves.ite | apply Evolves.foldl
    | exact mask_trans (by decide) hm
    | exact mask_bit hm (by decide)
    | fail_if_no_progress beta_reduce
    | split
    | fail_if_no_progress with_reducible apply Evolves.parts
    | exact Or.inl (by with_reducible rfl)
    | exact mask_part hm (by decide)

theorem State.writeBits_evolves {s : State} (a1 a2 a3 a4 a5 a6) (h : Evolves M o s)
    (hm : 0x1fffffffffffffffffffffffffffffffffffffffffffffffffffffffffffffffffffffffffffffffffffffffffffffffffffffffffffffffffffffffffffffffffffffffffffffffffffffffffffffffffffffffffffffffffffffffffffffffffffffffffffffffffffffffffffffffffffffffffffffffffffffffffffffffffaf2 &&& M = 0x1fffffffffffffffffffffffffffffffffffffffffffffffffffffffffffffffffffffffffffffffffffffffffffffffffffffffffffffffffffffffffffffffffffffffffffffffffffffffffffffffffffffffffffffffffffffffffffffffffffffffffffffffffffffffffffffffffffffffffffffffffffffffffffffffffaf2) :
    Evolves M o (State.writeBits s a1 a2 a3 a4 a5 a6) := by
  unfold State.writeBits
  try dsimp only
  repeat' first
    | (intro _)
    | with_reducible first
        | assumption | apply State.storeAll_evolves | apply State.written_evolves | apply Evolves.ite
        | apply Evolves.foldl
    | exact mask_trans (by decide) hm
    | exact mask_bit hm (by decide)
    | fail_if_no_progress beta_reduce
    | split
    | fail_if_no_progress with_reducible apply Evolves.parts
    | exact Or.inl (by with_reducible rfl)
    | exact mask_part hm (by decide)
    | exact mask_all hm (by decide) _

theorem State.putLow_evolves {s : State} (a1 a2) (h : Evolves M o s)
    (hm : 0x40 &&& M = 0x40) :
    Evolves M o (State.putLow s a1 a2) := by
  unfold State.putLow
  try dsimp only
  repeat' first
    | (intro _)
    | with_reducible first
        | assumption | apply Evolves.ite | apply Evolves.foldl
    | exact mask_trans (by decide) hm
    | exact mask_bit hm (by decide)
    | fail_if_no_progress beta_reduce
    | split
    | fail_if_no_progress with_reducible apply Evolves.parts
    | exact Or.inl (by with_reducible rfl)
    | exact mask_part hm (by decide)

theorem State.write32_evolves {s : State} (a1 a2) (h : Evolves M o s)
    (hm : 0x1fffffffffffffffffffffffffffffffffffffffffffffffffffffffffffffffffffffffffffffffffffffffffffffffffffffffffffffffffffffffffffffffffffffffffffffffffffffffffffffffffffffffffffffffffffffffffffffffffffffffffffffffffffffffffffffffffffffffffffffffffffffffffffffffffaf2 &&& M = 0x1fffffffffffffffffffffffffffffffffffffffffffffffffffffffffffffffffffffffffffffffffffffffffffffffffffffffffffffffffffffffffffffffffffffffffffffffffffffffffffffffffffffffffffffffffffffffffffffffffffffffffffffffffffffffffffffffffffffffffffffffffffffffffffffffffaf2) :
    Evolves M o (State.write32 s a1 a2) := by
  unfold State.write32
  try dsimp only
  repeat' first
    | (intro _)
    | with_reducible first
        | assumption | apply State.putLow_evolves | apply State.writeBits_evolves | apply Evolves.ite
        | apply Evolves.foldl
    | exact mask_trans (by decide) hm
    | exact mask_bit hm (by decide)
    | fail_if_no_progress beta_reduce
    | split
    | fail_if_no_progress with_reducible apply Evolves.parts
    | exact Or.inl (by with_reducible rfl)
    | exact mask_part hm (by decide)
    | exact mask_all hm (by decide) _

theorem State.write64_evolves {s : State} (a1 a2) (h : Evolves M o s)
    (hm : 0x1fffffffffffffffffffffffffffffffffffffffffffffffffffffffffffffffffffffffffffffffffffffffffffffffffffffffffffffffffffffffffffffffffffffffffffffffffffffffffffffffffffffffffffffffffffffffffffffffffffffffffffffffffffffffffffffffffffffffffffffffffffffffffffffffffaf2 &&& M = 0x1fffffffffffffffffffffffffffffffffffffffffffffffffffffffffffffffffffffffffffffffffffffffffffffffffffffffffffffffffffffffffffffffffffffffffffffffffffffffffffffffffffffffffffffffffffffffffffffffffffffffffffffffffffffffffffffffffffffffffffffffffffffffffffffffffaf2) :
    Evolves M o (State.write64 s a1 a2) := by
  unfold State.write64
  try dsimp only
  repeat' first
    | (intro _)
    | with_reducible first
        | assumption | apply State.writeBits_evolves | apply State.putLow_evolves | apply State.write32_evolves
        | apply Evolves.ite | apply Evolves.foldl
    | exact mask_trans (by decide) hm
    | exact mask_bit hm (by decide)
    | fail_if_no_progress beta_reduce
    | split
    | fail_if_no_progress with_reducible apply Evolves.parts
    | exact Or.inl (by with_reducible rfl)
    | exact mask_part hm (by decide)
    | exact mask_all hm (by decide) _

theorem State.discardAccess_evolves {s : State} (a1) (h : Evolves M o s)
    (hm : 0x80 &&& M = 0x80) :
    Evolves M o (State.discardAccess s a1) := by
  unfold State.discardAccess
  try dsimp only
  repeat' first
    | (intro _)
    | with_reducible first
        | assumption | apply State.noteDiscard_evolves | apply Evolves.ite | apply Evolves.foldl
    | exact mask_trans (by decide) hm
    | exact mask_bit hm (by decide)
    | fail_if_no_progress beta_reduce
    | split
    | fail_if_no_progress with_reducible apply Evolves.parts
    | exact Or.inl (by with_reducible rfl)
    | exact mask_part hm (by decide)

theorem execRegisterWrite_goes {s : State} (a0 a1 a2 a3) (h : Evolves M o s)
    (hm : 0x1fffffffffffffffffffffffffffffffffffffffffffffffffffffffffffffffffffffffffffffffffffffffffffffffffffffffffffffffffffffffffffffffffffffffffffffffffffffffffffffffffffffffffffffffffffffffffffffffffffffffffffffffffffffffffffffffffffffffffffffffffffffffffffffffffaf2 &&& M = 0x1fffffffffffffffffffffffffffffffffffffffffffffffffffffffffffffffffffffffffffffffffffffffffffffffffffffffffffffffffffffffffffffffffffffffffffffffffffffffffffffffffffffffffffffffffffffffffffffffffffffffffffffffffffffffffffffffffffffffffffffffffffffffffffffffffaf2) :
    Goes M o (execRegisterWrite a0 a1 a2 a3 s) := by
  unfold execRegisterWrite
  try dsimp only
  repeat' first
    | (intro _)
    | with_reducible first
        | assumption | apply Goes.next | apply State.discardAccess_evolves | apply State.write32_evolves
        | apply State.write64_evolves | apply Evolves.ite | apply Evolves.foldl
    | exact mask_trans (by decide) hm
    | exact mask_bit hm (by decide)
    | fail_if_no_progress beta_reduce
    | split
    | fail_if_no_progress with_reducible apply Evolves.parts
    | exact Or.inl (by with_reducible rfl)
    | exact mask_part hm (by decide)
    | exact mask_all hm (by decide) _

theorem State.slotWord_evolves {s : State} (a1 a2) (h : Evolves M o s)
    (hm : 0x4 &&& M = 0x4) :
    Evolves M o (State.slotWord s a1 a2) := by
  unfold State.slotWord
  try dsimp only
  repeat' first
    | (intro _)
    | with_reducible first
        | assumption | apply State.putSlot_evolves | apply Evolves.ite | apply Evolves.foldl
    | exact mask_trans (by decide) hm
    | exact mask_bit hm (by decide)
    | fail_if_no_progress beta_reduce
    | split
    | fail_if_no_progress with_reducible apply Evolves.parts
    | exact Or.inl (by with_reducible rfl)
    | exact mask_part hm (by decide)

theorem execBar2Write_goes {s : State} (a0 a1 a2) (h : Evolves M o s)
    (hm : 0x4 &&& M = 0x4) :
    Goes M o (execBar2Write a0 a1 a2 s) := by
  unfold execBar2Write
  try dsimp only
  repeat' first
    | (intro _)
    | with_reducible first
        | assumption | apply Goes.next | apply State.slotWord_evolves | apply State.putSlot_evolves
        | apply Evolves.ite | apply Evolves.foldl
    | exact mask_trans (by decide) hm
    | exact mask_bit hm (by decide)
    | fail_if_no_progress beta_reduce
    | split
    | fail_if_no_progress with_reducible apply Evolves.parts
    | exact Or.inl (by with_reducible rfl)
    | exact mask_part hm (by decide)

/-! ## Traverse -/

theorem State.storeSlot_evolves {s : State} (a1 a2 a3) (h : Evolves M o s)
    (hm : 0x4 &&& M = 0x4) :
    Evolves M o (State.storeSlot s a1 a2 a3) := by
  unfold State.storeSlot
  try dsimp only
  repeat' first
    | (intro _)
    | with_reducible first
        | assumption | apply State.modTrv_evolves | apply State.putSlot_evolves | apply Evolves.ite
        | apply Evolves.foldl
    | exact mask_trans (by decide) hm
    | exact mask_bit hm (by decide)
    | fail_if_no_progress beta_reduce
    | split
    | fail_if_no_progress with_reducible apply Evolves.parts
    | exact Or.inl (by with_reducible rfl)
    | exact mask_part hm (by decide)

theorem State.showBoot_evolves {s : State} (a1) (h : Evolves M o s)
    (hm : 0x300000000000000000000000000000000000000000000404 &&& M = 0x300000000000000000000000000000000000000000000404) :
    Evolves M o (State.showBoot s a1) := by
  unfold State.showBoot
  try dsimp only
  repeat' first
    | (intro _)
    | with_reducible first
        | assumption | apply State.wrBit_evolves | apply State.wr_evolves | apply State.extendProfs_evolves
        | apply State.modTrv_evolves | apply Evolves.ite | apply Evolves.foldl
    | exact mask_trans (by decide) hm
    | exact mask_bit hm (by decide)
    | fail_if_no_progress beta_reduce
    | split
    | fail_if_no_progress with_reducible apply Evolves.parts
    | exact Or.inl (by with_reducible rfl)
    | exact mask_part hm (by decide)

theorem State.setBoot_evolves {s : State} (a1 a2) (h : Evolves M o s)
    (hm : 0x300000000000000000000000000000000000000000000404 &&& M = 0x300000000000000000000000000000000000000000000404) :
    Evolves M o (State.setBoot s a1 a2) := by
  unfold State.setBoot
  try dsimp only
  repeat' first
    | (intro _)
    | with_reducible first
        | assumption | apply State.showBoot_evolves | apply Evolves.ite | apply Evolves.foldl
    | exact mask_trans (by decide) hm
    | exact mask_bit hm (by decide)
    | fail_if_no_progress beta_reduce
    | split
    | fail_if_no_progress with_reducible apply Evolves.parts
    | exact Or.inl (by with_reducible rfl)
    | exact mask_part hm (by decide)

theorem execStateWrite_goes {s : State} (a0 a1 a2 a3 a4 a5 a6 a7 a8) (h : Evolves M o s)
    (hm : 0x1000000000000000000000000000400000000000000000000000000000000000000000000000000300000000000000000000000000000000000000000000454 &&& M = 0x1000000000000000000000000000400000000000000000000000000000000000000000000000000300000000000000000000000000000000000000000000454) :
    Goes M o (execStateWrite a0 a1 a2 a3 a4 a5 a6 a7 a8 s) := by
  unfold execStateWrite
  try dsimp only
  repeat' first
    | (intro _)
    | with_reducible first
        | assumption | apply Goes.next | apply State.checked_evolves | apply State.status_evolves
        | apply State.countRefused_evolves | apply State.setBoot_evolves | apply State.storeSlot_evolves
        | apply Evolves.ite | apply Evolves.foldl
    | exact mask_trans (by decide) hm
    | exact mask_bit hm (by decide)
    | fail_if_no_progress beta_reduce
    | split
    | fail_if_no_progress with_reducible apply Evolves.parts
    | exact Or.inl (by with_reducible rfl)
    | exact mask_part hm (by decide)

theorem execStateRead_goes {s : State} (a0 a1 a2 a3 a4) (h : Evolves M o s)
    (hm : 0x400000000000000000000000000000000000000000000000000000000000000000000000000000000000000000000012050 &&& M = 0x400000000000000000000000000000000000000000000000000000000000000000000000000000000000000000000012050) :
    Goes M o (execStateRead a0 a1 a2 a3 a4 s) := by
  unfold execStateRead
  try dsimp only
  repeat' first
    | (intro _)
    | with_reducible first
        | assumption | apply Goes.next | apply State.checked_evolves | apply State.status_evolves
        | apply State.hostWrite_evolves | apply Evolves.ite | apply Evolves.foldl
    | exact mask_trans (by decide) hm
    | exact mask_bit hm (by decide)
    | fail_if_no_progress beta_reduce
    | split
    | fail_if_no_progress with_reducible apply Evolves.parts
    | exact Or.inl (by with_reducible rfl)
    | exact mask_part hm (by decide)

theorem execRouteSolve_goes {s : State} (a0 a1 a2 a3 a4 a5 a6 a7 a8) (h : Evolves M o s)
    (hm : 0x400000000000000000000000000000000000000000000000007800000000000000000000000000000000000000000000054 &&& M = 0x400000000000000000000000000000000000000000000000007800000000000000000000000000000000000000000000054) :
    Goes M o (execRouteSolve a0 a1 a2 a3 a4 a5 a6 a7 a8 s) := by
  unfold execRouteSolve
  try dsimp only
  repeat' first
    | (intro _)
    | with_reducible first
        | assumption | apply Goes.next | apply State.checked_evolves | apply State.entered_evolves
        | apply State.showQueue_evolves | apply State.modTrv_evolves | apply Evolves.ite | apply Evolves.foldl
    | exact mask_trans (by decide) hm
    | exact mask_bit hm (by decide)
    | fail_if_no_progress beta_reduce
    | split
    | fail_if_no_progress with_reducible apply Evolves.parts
    | exact Or.inl (by with_reducible rfl)
    | exact mask_part hm (by decide)

theorem execSolveStart_goes {s : State} (h : Evolves M o s)
    (hm : 0x7800000000000000000000000000000000000000000000004 &&& M = 0x7800000000000000000000000000000000000000000000004) :
    Goes M o (execSolveStart s) := by
  unfold execSolveStart
  try dsimp only
  repeat' first
    | (intro _)
    | with_reducible first
        | assumption | apply Goes.next | apply State.showQueue_evolves | apply State.modTrv_evolves
        | apply Evolves.ite | apply Evolves.foldl
    | exact mask_trans (by decide) hm
    | exact mask_bit hm (by decide)
    | fail_if_no_progress beta_reduce
    | split
    | fail_if_no_progress with_reducible apply Evolves.parts
    | exact Or.inl (by with_reducible rfl)
    | exact mask_part hm (by decide)

theorem State.cacheSolve_evolves {s : State} (a1 a2) (h : Evolves M o s)
    (hm : 0x4 &&& M = 0x4) :
    Evolves M o (State.cacheSolve s a1 a2) := by
  unfold State.cacheSolve
  try dsimp only
  repeat' first
    | (intro _)
    | with_reducible first
        | assumption | apply State.putSlot_evolves | apply Evolves.ite | apply Evolves.foldl
    | exact mask_trans (by decide) hm
    | exact mask_bit hm (by decide)
    | fail_if_no_progress beta_reduce
    | split
    | fail_if_no_progress with_reducible apply Evolves.parts
    | exact Or.inl (by with_reducible rfl)
    | exact mask_part hm (by decide)

theorem State.writeReport_evolves {s : State} (a1 a2 a3 a4) (h : Evolves M o s)
    (hm : 0x12040 &&& M = 0x12040) :
    Evolves M o (State.writeReport s a1 a2 a3 a4) := by
  unfold State.writeReport
  try dsimp only
  repeat' first
    | (intro _)
    | with_reducible first
        | assumption | apply State.hostWrite_evolves | apply Evolves.ite | apply Evolves.foldl
    | exact mask_trans (by decide) hm
    | exact mask_bit hm (by decide)
    | fail_if_no_progress beta_reduce
    | split
    | fail_if_no_progress with_reducible apply Evolves.parts
    | exact Or.inl (by with_reducible rfl)
    | exact mask_part hm (by decide)

theorem State.routeDone_evolves {s : State} (a1 a2) (h : Evolves M o s)
    (hm : 0x400000000000000000000000000000000000000000000005000000000000000000000000000000000000000000000012050 &&& M = 0x400000000000000000000000000000000000000000000005000000000000000000000000000000000000000000000012050) :
    Evolves M o (State.routeDone s a1 a2) := by
  unfold State.routeDone
  try dsimp only
  repeat' first
    | (intro _)
    | with_reducible first
        | assumption | apply State.writeReport_evolves | apply State.hostWrite_evolves
        | apply State.countBlocked_evolves | apply State.finishOpt_evolves | apply Evolves.ite | apply Evolves.foldl
    | exact mask_trans (by decide) hm
    | exact mask_bit hm (by decide)
    | fail_if_no_progress beta_reduce
    | split
    | fail_if_no_progress with_reducible apply Evolves.parts
    | exact Or.inl (by with_reducible rfl)
    | exact mask_part hm (by decide)

theorem execSolveComplete_goes {s : State} (h : Evolves M o s)
    (hm : 0x400000000000000000000000000000000000000000000005407800000000000000000000000000000000000000000012054 &&& M = 0x400000000000000000000000000000000000000000000005407800000000000000000000000000000000000000000012054) :
    Goes M o (execSolveComplete s) := by
  unfold execSolveComplete
  try dsimp only
  repeat' first
    | (intro _)
    | with_reducible first
        | assumption | apply Goes.next | apply State.inc_evolves | apply State.modTrv_evolves
        | apply State.showQueue_evolves | apply State.cacheSolve_evolves | apply State.routeDone_evolves
        | apply Evolves.ite | apply Evolves.foldl
    | exact mask_trans (by decide) hm
    | exact mask_bit hm (by decide)
    | fail_if_no_progress beta_reduce
    | split
    | fail_if_no_progress with_reducible apply Evolves.parts
    | exact Or.inl (by with_reducible rfl)
    | exact mask_part hm (by decide)

theorem State.giveJob_evolves {s : State} (a1) (h : Evolves M o s)
    (hm : 0x807800000000000000000000000000000000000000000000004 &&& M = 0x807800000000000000000000000000000000000000000000004) :
    Evolves M o (State.giveJob s a1) := by
  unfold State.giveJob
  try dsimp only
  repeat' first
    | (intro _)
    | with_reducible first
        | assumption | apply State.showQueue_evolves | apply State.modTrv_evolves | apply State.inc_evolves
        | apply Evolves.ite | apply Evolves.foldl
    | exact mask_trans (by decide) hm
    | exact mask_bit hm (by decide)
    | fail_if_no_progress beta_reduce
    | split
    | fail_if_no_progress with_reducible apply Evolves.parts
    | exact Or.inl (by with_reducible rfl)
    | exact mask_part hm (by decide)

theorem State.dropJobs_evolves {s : State} (a1) (h : Evolves M o s)
    (hm : 0x7800000000000000000000000000000000000000000000004 &&& M = 0x7800000000000000000000000000000000000000000000004) :
    Evolves M o (State.dropJobs s a1) := by
  unfold State.dropJobs
  try dsimp only
  repeat' first
    | (intro _)
    | with_reducible first
        | assumption | apply State.showQueue_evolves | apply State.modTrv_evolves | apply Evolves.ite
        | apply Evolves.foldl
    | exact mask_trans (by decide) hm
    | exact mask_bit hm (by decide)
    | fail_if_no_progress beta_reduce
    | split
    | fail_if_no_progress with_reducible apply Evolves.parts
    | exact Or.inl (by with_reducible rfl)
    | exact mask_part hm (by decide)

theorem State.refuseJob_evolves {s : State} (a1 a2) (h : Evolves M o s)
    (hm : 0x400005000000000000010000000000000000000000000000000000000000000000000000000000000000000000000017054 &&& M = 0x400005000000000000010000000000000000000000000000000000000000000000000000000000000000000000000017054) :
    Evolves M o (State.refuseJob s a1 a2) := by
  unfold State.refuseJob
  try dsimp only
  repeat' first
    | (intro _)
    | with_reducible first
        | assumption | apply State.sendClr_evolves | apply State.ownRejected_evolves | apply State.finishOpt_evolves
        | apply Evolves.ite | apply Evolves.foldl
    | exact mask_trans (by decide) hm
    | exact mask_bit hm (by decide)
    | fail_if_no_progress beta_reduce
    | split
    | fail_if_no_progress with_reducible apply Evolves.parts
    | exact Or.inl (by with_reducible rfl)
    | exact mask_part hm (by decide)

theorem State.startChain_evolves {s : State} (a1 a2 a3 a4) (h : Evolves M o s)
    (hm : 0x400005000000000000010000000000000000000000000000807800000000000000000000000000000000000000000017054 &&& M = 0x400005000000000000010000000000000000000000000000807800000000000000000000000000000000000000000017054) :
    Evolves M o (State.startChain s a1 a2 a3 a4) := by
  unfold State.startChain
  try dsimp only
  repeat' first
    | (intro _)
    | with_reducible first
        | assumption | apply State.modTrv_evolves | apply State.sendClr_evolves | apply State.refuseJob_evolves
        | apply State.giveJob_evolves | apply Evolves.ite | apply Evolves.foldl
    | exact mask_trans (by decide) hm
    | exact mask_bit hm (by decide)
    | fail_if_no_progress beta_reduce
    | split
    | fail_if_no_progress with_reducible apply Evolves.parts
    | exact Or.inl (by with_reducible rfl)
    | exact mask_part hm (by decide)

theorem execStateCommit_goes {s : State} (a0 a1 a2 a3 a4 a5 a6 a7 a8 a9 a10 a11 a12 a13) (h : Evolves M o s)
    (hm : 0x400005000000000000010000000000000000000000000000807800000000000000000000000000000000000000000017054 &&& M = 0x400005000000000000010000000000000000000000000000807800000000000000000000000000000000000000000017054) :
    Goes M o (execStateCommit a0 a1 a2 a3 a4 a5 a6 a7 a8 a9 a10 a11 a12 a13 s) := by
  unfold execStateCommit
  try dsimp only
  repeat' first
    | (intro _)
    | with_reducible first
        | assumption | apply Goes.next | apply State.modTrv_evolves | apply State.entered_evolves
        | apply State.refuseJob_evolves | apply State.effect_evolves | apply State.startChain_evolves
        | apply State.giveJob_evolves | apply Evolves.ite | apply Evolves.foldl
    | exact mask_trans (by decide) hm
    | exact mask_bit hm (by decide)
    | fail_if_no_progress beta_reduce
    | split
    | fail_if_no_progress with_reducible apply Evolves.parts
    | exact Or.inl (by with_reducible rfl)
    | exact mask_part hm (by decide)

theorem State.enqueueClr_evolves {s : State} (a1) (h : Evolves M o s)
    (hm : 0x40000500000000000001000000000000000000000000000638780c00000000000000000000000000000000000000001f0f6 &&& M = 0x40000500000000000001000000000000000000000000000638780c00000000000000000000000000000000000000001f0f6) :
    Evolves M o (State.enqueueClr s a1) := by
  unfold State.enqueueClr
  try dsimp only
  repeat' first
    | (intro _)
    | with_reducible first
        | assumption | apply State.recompute_evolves | apply State.modTrv_evolves | apply State.effect_evolves
        | apply State.chainTry_evolves | apply State.sendClr_evolves | apply State.showQueue_evolves
        | apply State.abandonSweeps_evolves | apply Evolves.ite | apply Evolves.foldl
    | exact mask_trans (by decide) hm
    | exact mask_bit hm (by decide)
    | fail_if_no_progress beta_reduce
    | split
    | fail_if_no_progress with_reducible apply Evolves.parts
    | exact Or.inl (by with_reducible rfl)
    | exact mask_part hm (by decide)

theorem execClearingQueue_goes {s : State} (h : Evolves M o s)
    (hm : 0x40000500000000000001000000000000000000000000000738780c00000000000000000000000000000000000000001f0f6 &&& M = 0x40000500000000000001000000000000000000000000000738780c00000000000000000000000000000000000000001f0f6) :
    Goes M o (execClearingQueue s) := by
  unfold execClearingQueue
  try dsimp only
  repeat' first
    | (intro _)
    | with_reducible first
        | assumption | apply Goes.next | apply State.modTrv_evolves | apply State.refuseJob_evolves
        | apply State.writeReport_evolves | apply State.countBlocked_evolves | apply State.finishOpt_evolves
        | apply State.noteClr_evolves | apply State.enqueueClr_evolves | apply Evolves.ite | apply Evolves.foldl
    | exact mask_trans (by decide) hm
    | exact mask_bit hm (by decide)
    | fail_if_no_progress beta_reduce
    | split
    | fail_if_no_progress with_reducible apply Evolves.parts
    | exact Or.inl (by with_reducible rfl)
    | exact mask_part hm (by decide)

theorem State.abortChain_evolves {s : State} (a1 a2 a3) (h : Evolves M o s)
    (hm : 0x40000500000000000001000000000000000000000000000638780000000000000000000000000000000000000000001f054 &&& M = 0x40000500000000000001000000000000000000000000000638780000000000000000000000000000000000000000001f054) :
    Evolves M o (State.abortChain s a1 a2 a3) := by
  unfold State.abortChain
  try dsimp only
  repeat' first
    | (intro _)
    | with_reducible first
        | assumption | apply State.finishChain_evolves | apply State.sendAborts_evolves
        | apply State.cancelAnd_evolves | apply State.dropJobs_evolves | apply Evolves.ite | apply Evolves.foldl
    | exact mask_trans (by decide) hm
    | exact mask_bit hm (by decide)
    | fail_if_no_progress beta_reduce
    | split
    | fail_if_no_progress with_reducible apply Evolves.parts
    | exact Or.inl (by with_reducible rfl)
    | exact mask_part hm (by decide)

theorem State.abortClr_evolves {s : State} (a1 a2) (h : Evolves M o s)
    (hm : 0x40000500000000000001000000000000000000000000000638780000000000000000000000000000000000000000001f054 &&& M = 0x40000500000000000001000000000000000000000000000638780000000000000000000000000000000000000000001f054) :
    Evolves M o (State.abortClr s a1 a2) := by
  unfold State.abortClr
  try dsimp only
  repeat' first
    | (intro _)
    | with_reducible first
        | assumption | apply State.status_evolves | apply State.abortChain_evolves | apply State.entered_evolves
        | apply State.cancelAnd_evolves | apply Evolves.ite | apply Evolves.foldl
    | exact mask_trans (by decide) hm
    | exact mask_bit hm (by decide)
    | fail_if_no_progress beta_reduce
    | split
    | fail_if_no_progress with_reducible apply Evolves.parts
    | exact Or.inl (by with_reducible rfl)
    | exact mask_part hm (by decide)

theorem execStateAbort_goes {s : State} (a0 a1) (h : Evolves M o s)
    (hm : 0x40000500000000000001000000000000000000000000000638780000000000000000000000000000000000000000001f054 &&& M = 0x40000500000000000001000000000000000000000000000638780000000000000000000000000000000000000000001f054) :
    Goes M o (execStateAbort a0 a1 s) := by
  unfold execStateAbort
  try dsimp only
  repeat' first
    | (intro _)
    | with_reducible first
        | assumption | apply Goes.next | apply State.checked_evolves | apply State.abortClr_evolves
        | apply Evolves.ite | apply Evolves.foldl
    | exact mask_trans (by decide) hm
    | exact mask_bit hm (by decide)
    | fail_if_no_progress beta_reduce
    | split
    | fail_if_no_progress with_reducible apply Evolves.parts
    | exact Or.inl (by with_reducible rfl)
    | exact mask_part hm (by decide)

theorem execClearingQuery_goes {s : State} (a0 a1 a2) (h : Evolves M o s)
    (hm : 0x400000000000000000000000000000000000000000000000000000000000000000000000000000000000000000000012050 &&& M = 0x400000000000000000000000000000000000000000000000000000000000000000000000000000000000000000000012050) :
    Goes M o (execClearingQuery a0 a1 a2 s) := by
  unfold execClearingQuery
  try dsimp only
  repeat' first
    | (intro _)
    | with_reducible first
        | assumption | apply Goes.next | apply State.checked_evolves | apply State.complete_evolves
        | apply State.hostWrite_evolves | apply Evolves.ite | apply Evolves.foldl
    | exact mask_trans (by decide) hm
    | exact mask_bit hm (by decide)
    | fail_if_no_progress beta_reduce
    | split
    | fail_if_no_progress with_reducible apply Evolves.parts
    | exact Or.inl (by with_reducible rfl)
    | exact mask_part hm (by decide)

theorem execPointOfNoReturn_goes {s : State} (h : Evolves M o s)
    (hm : 0x4 &&& M = 0x4) :
    Goes M o (execPointOfNoReturn s) := by
  unfold execPointOfNoReturn
  try dsimp only
  repeat' first
    | (intro _)
    | with_reducible first
        | assumption | apply Goes.next | apply State.modTrv_evolves | apply Evolves.ite | apply Evolves.foldl
    | exact mask_trans (by decide) hm
    | exact mask_bit hm (by decide)
    | fail_if_no_progress beta_reduce
    | split
    | fail_if_no_progress with_reducible apply Evolves.parts
    | exact Or.inl (by with_reducible rfl)
    | exact mask_part hm (by decide)

theorem State.treatAll_evolves {s : State} (a1) (h : Evolves M o s)
    (hm : 0x40000000000000000000000000000000000000000000000000000000000000000000000000480800006c400000000000012 &&& M = 0x40000000000000000000000000000000000000000000000000000000000000000000000000480800006c400000000000012) :
    Evolves M o (State.treatAll s a1) := by
  unfold State.treatAll
  try dsimp only
  repeat' first
    | (intro _)
    | with_reducible first
        | assumption | apply State.clearElem_evolves | apply Evolves.ite | apply Evolves.foldl
    | exact mask_trans (by decide) hm
    | exact mask_bit hm (by decide)
    | fail_if_no_progress beta_reduce
    | split
    | fail_if_no_progress with_reducible apply Evolves.parts
    | exact Or.inl (by with_reducible rfl)
    | exact mask_part hm (by decide)

theorem State.pulseClearing_evolves {s : State} (h : Evolves M o s)
    (hm : 0x800 &&& M = 0x800) :
    Evolves M o (State.pulseClearing s) := by
  unfold State.pulseClearing
  try dsimp only
  repeat' first
    | (intro _)
    | with_reducible first
        | assumption | apply Evolves.ite | apply Evolves.foldl
    | exact mask_trans (by decide) hm
    | exact mask_bit hm (by decide)
    | fail_if_no_progress beta_reduce
    | split
    | fail_if_no_progress with_reducible apply Evolves.parts
    | exact Or.inl (by with_reducible rfl)
    | exact mask_part hm (by decide)

theorem execClearingExecution_goes {s : State} (h : Evolves M o s)
    (hm : 0x4000050000000000000100000000000000000000000000003ff80000000000000000000000480800006c400000000017856 &&& M = 0x4000050000000000000100000000000000000000000000003ff80000000000000000000000480800006c400000000017856) :
    Goes M o (execClearingExecution s) := by
  unfold execClearingExecution
  try dsimp only
  repeat' first
    | (intro _)
    | with_reducible first
        | assumption | apply Goes.next | apply State.modTrv_evolves | apply State.noteClr_evolves
        | apply State.treatAll_evolves | apply State.closeClearings_evolves | apply State.showQueue_evolves
        | apply State.pulseClearing_evolves | apply State.showForce_evolves | apply Evolves.ite | apply Evolves.foldl
    | exact mask_trans (by decide) hm
    | exact mask_bit hm (by decide)
    | fail_if_no_progress beta_reduce
    | split
    | fail_if_no_progress with_reducible apply Evolves.parts
    | exact Or.inl (by with_reducible rfl)
    | exact mask_part hm (by decide)

theorem execClearingRequest_goes {s : State} (a0 a1) (h : Evolves M o s)
    (hm : 0x400005000000000000010000000000000000000000000000807800000000000000000000000000000000000000000017054 &&& M = 0x400005000000000000010000000000000000000000000000807800000000000000000000000000000000000000000017054) :
    Goes M o (execClearingRequest a0 a1 s) := by
  unfold execClearingRequest
  try dsimp only
  repeat' first
    | (intro _)
    | with_reducible first
        | assumption | apply Goes.next | apply State.refuseJob_evolves | apply State.giveJob_evolves
        | apply Evolves.ite | apply Evolves.foldl
    | exact mask_trans (by decide) hm
    | exact mask_bit hm (by decide)
    | fail_if_no_progress beta_reduce
    | split
    | fail_if_no_progress with_reducible apply Evolves.parts
    | exact Or.inl (by with_reducible rfl)
    | exact mask_part hm (by decide)

theorem execClearingAccept_goes {s : State} (a0 a1) (h : Evolves M o s)
    (hm : 0x400000000000000000000000000000000000000000000000000000000000000000000000000000000000000000000012054 &&& M = 0x400000000000000000000000000000000000000000000000000000000000000000000000000000000000000000000012054) :
    Goes M o (execClearingAccept a0 a1 s) := by
  unfold execClearingAccept
  try dsimp only
  repeat' first
    | (intro _)
    | with_reducible first
        | assumption | apply Goes.next | apply State.chainTry_evolves | apply Evolves.ite | apply Evolves.foldl
    | exact mask_trans (by decide) hm
    | exact mask_bit hm (by decide)
    | fail_if_no_progress beta_reduce
    | split
    | fail_if_no_progress with_reducible apply Evolves.parts
    | exact Or.inl (by with_reducible rfl)
    | exact mask_part hm (by decide)

theorem execClearingReject_goes {s : State} (a0 a1) (h : Evolves M o s)
    (hm : 0x40000500000000000001000000000000000000000000000638780000000000000000000000000000000000000000001f054 &&& M = 0x40000500000000000001000000000000000000000000000638780000000000000000000000000000000000000000001f054) :
    Goes M o (execClearingReject a0 a1 s) := by
  unfold execClearingReject
  try dsimp only
  repeat' first
    | (intro _)
    | with_reducible first
        | assumption | apply Goes.next | apply State.abortChain_evolves | apply State.chainTry_evolves
        | apply Evolves.ite | apply Evolves.foldl
    | exact mask_trans (by decide) hm
    | exact mask_bit hm (by decide)
    | fail_if_no_progress beta_reduce
    | split
    | fail_if_no_progress with_reducible apply Evolves.parts
    | exact Or.inl (by with_reducible rfl)
    | exact mask_part hm (by decide)

theorem execClearingAbort_goes {s : State} (a0 a1) (h : Evolves M o s)
    (hm : 0x40000500000000000001000000000000000000000000000638780000000000000000000000000000000000000000001f054 &&& M = 0x40000500000000000001000000000000000000000000000638780000000000000000000000000000000000000000001f054) :
    Goes M o (execClearingAbort a0 a1 s) := by
  unfold execClearingAbort
  try dsimp only
  repeat' first
    | (intro _)
    | with_reducible first
        | assumption | apply Goes.next | apply State.modTrv_evolves | apply State.showQueue_evolves
        | apply State.recompute_evolves | apply State.noteClr_evolves | apply State.dropJobs_evolves
        | apply Evolves.ite | apply Evolves.foldl
    | exact mask_trans (by decide) hm
    | exact mask_bit hm (by decide)
    | fail_if_no_progress beta_reduce
    | split
    | fail_if_no_progress with_reducible apply Evolves.parts
    | exact Or.inl (by with_reducible rfl)
    | exact mask_part hm (by decide)

theorem State.amend_evolves {s : State} (a1 a2) (h : Evolves M o s)
    (hm : 0x400000000000000000000000000000000000000000000000000000000000000000000000000000000000000000000000010 &&& M = 0x400000000000000000000000000000000000000000000000000000000000000000000000000000000000000000000000010) :
    Evolves M o (State.amend s a1 a2) := by
  unfold State.amend
  try dsimp only
  repeat' first
    | (intro _)
    | with_reducible first
        | assumption | apply State.modMb_evolves | apply Evolves.ite | apply Evolves.foldl
    | exact mask_trans (by decide) hm
    | exact mask_bit hm (by decide)
    | fail_if_no_progress beta_reduce
    | split
    | fail_if_no_progress with_reducible apply Evolves.parts
    | exact Or.inl (by with_reducible rfl)
    | exact mask_part hm (by decide)

theorem State.splitEnded_evolves {s : State} (a1) (h : Evolves M o s)
    (hm : 0x400000000000000000000000000000000000000000000000000000000000000000000000000000000000000000000012054 &&& M = 0x400000000000000000000000000000000000000000000000000000000000000000000000000000000000000000000012054) :
    Evolves M o (State.splitEnded s a1) := by
  unfold State.splitEnded
  try dsimp only
  repeat' first
    | (intro _)
    | with_reducible first
        | assumption | apply State.writeParts_evolves | apply State.modTrv_evolves | apply State.amend_evolves
        | apply Evolves.ite | apply Evolves.foldl
    | exact mask_trans (by decide) hm
    | exact mask_bit hm (by decide)
    | fail_if_no_progress beta_reduce
    | split
    | fail_if_no_progress with_reducible apply Evolves.parts
    | exact Or.inl (by with_reducible rfl)
    | exact mask_part hm (by decide)

theorem execClearingReport_goes {s : State} (a0 a1) (h : Evolves M o s)
    (hm : 0x400000000000000000000000000000000000000000000000000000000000000000000000000000000000000000000012054 &&& M = 0x400000000000000000000000000000000000000000000000000000000000000000000000000000000000000000000012054) :
    Goes M o (execClearingReport a0 a1 s) := by
  unfold execClearingReport
  try dsimp only
  repeat' first
    | (intro _)
    | with_reducible first
        | assumption | apply Goes.next | apply State.chainTry_evolves | apply State.splitEnded_evolves
        | apply Evolves.ite | apply Evolves.foldl
    | exact mask_trans (by decide) hm
    | exact mask_bit hm (by decide)
    | fail_if_no_progress beta_reduce
    | split
    | fail_if_no_progress with_reducible apply Evolves.parts
    | exact Or.inl (by with_reducible rfl)
    | exact mask_part hm (by decide)

theorem execAbortDeadline_goes {s : State} (a0) (h : Evolves M o s)
    (hm : 0x40000500000000000001000000000000000000000000000638780000000000000000000000000000000000000000001f054 &&& M = 0x40000500000000000001000000000000000000000000000638780000000000000000000000000000000000000000001f054) :
    Goes M o (execAbortDeadline a0 s) := by
  unfold execAbortDeadline
  try dsimp only
  repeat' first
    | (intro _)
    | with_reducible first
        | assumption | apply Goes.next | apply State.abortChain_evolves | apply State.modTrv_evolves
        | apply Evolves.ite | apply Evolves.foldl
    | exact mask_trans (by decide) hm
    | exact mask_bit hm (by decide)
    | fail_if_no_progress beta_reduce
    | split
    | fail_if_no_progress with_reducible apply Evolves.parts
    | exact Or.inl (by with_reducible rfl)
    | exact mask_part hm (by decide)

theorem execReportTimeout_goes {s : State} (a0) (h : Evolves M o s)
    (hm : 0x400000000000000000000000000000000000000000000000000000000000000000000000000000000000000000000012054 &&& M = 0x400000000000000000000000000000000000000000000000000000000000000000000000000000000000000000000012054) :
    Goes M o (execReportTimeout a0 s) := by
  unfold execReportTimeout
  try dsimp only
  repeat' first
    | (intro _)
    | with_reducible first
        | assumption | apply Goes.next | apply State.finishChain_evolves | apply Evolves.ite | apply Evolves.foldl
    | exact mask_trans (by decide) hm
    | exact mask_bit hm (by decide)
    | fail_if_no_progress beta_reduce
    | split
    | fail_if_no_progress with_reducible apply Evolves.parts
    | exact Or.inl (by with_reducible rfl)
    | exact mask_part hm (by decide)

/-! ## Resets -/

theorem State.dropPw_evolves {s : State} (a1) (h : Evolves M o s)
    (hm : 0x18002000002 &&& M = 0x18002000002) :
    Evolves M o (State.dropPw s a1) := by
  unfold State.dropPw
  try dsimp only
  repeat' first
    | (intro _)
    | with_reducible first
        | assumption | apply State.modLoop_evolves | apply State.showWin_evolves | apply State.modMon_evolves
        | apply Evolves.ite | apply Evolves.foldl
    | exact mask_trans (by decide) hm
    | exact mask_bit hm (by decide)
    | fail_if_no_progress beta_reduce
    | split
    | fail_if_no_progress with_reducible apply Evolves.parts
    | exact Or.inl (by with_reducible rfl)
    | exact mask_part hm (by decide)

theorem State.dropSolves_evolves {s : State} (a1) (h : Evolves M o s)
    (hm : 0x7800000000000000000000000000000000000000000000004 &&& M = 0x7800000000000000000000000000000000000000000000004) :
    Evolves M o (State.dropSolves s a1) := by
  unfold State.dropSolves
  try dsimp only
  repeat' first
    | (intro _)
    | with_reducible first
        | assumption | apply State.showQueue_evolves | apply State.modTrv_evolves | apply Evolves.ite
        | apply Evolves.foldl
    | exact mask_trans (by decide) hm
    | exact mask_bit hm (by decide)
    | fail_if_no_progress beta_reduce
    | split
    | fail_if_no_progress with_reducible apply Evolves.parts
    | exact Or.inl (by with_reducible rfl)
    | exact mask_part hm (by decide)

theorem State.dropCpt_evolves {s : State} (a1 a2) (h : Evolves M o s)
    (hm : 0x4200000000000000000000000000000a &&& M = 0x4200000000000000000000000000000a) :
    Evolves M o (State.dropCpt s a1 a2) := by
  unfold State.dropCpt
  try dsimp only
  repeat' first
    | (intro _)
    | with_reducible first
        | assumption | apply State.wrBit_evolves | apply State.modCpt_evolves | apply State.modSvc_evolves
        | apply Evolves.ite | apply Evolves.foldl
    | exact mask_trans (by decide) hm
    | exact mask_bit hm (by decide)
    | fail_if_no_progress beta_reduce
    | split
    | fail_if_no_progress with_reducible apply Evolves.parts
    | exact Or.inl (by with_reducible rfl)
    | exact mask_part hm (by decide)

theorem State.dropFw_evolves {s : State} (a1) (h : Evolves M o s)
    (hm : 0x180000000000000000000000000000000000000000000000000000000000000000000000000000000000000000000000000000000000000000000000000000409 &&& M = 0x180000000000000000000000000000000000000000000000000000000000000000000000000000000000000000000000000000000000000000000000000000409) :
    Evolves M o (State.dropFw s a1) := by
  unfold State.dropFw
  try dsimp only
  repeat' first
    | (intro _)
    | with_reducible first
        | assumption | apply State.showStaging_evolves | apply State.modBoot_evolves | apply State.wrBit_evolves
        | apply State.modStand_evolves | apply Evolves.ite | apply Evolves.foldl
    | exact mask_trans (by decide) hm
    | exact mask_bit hm (by decide)
    | fail_if_no_progress beta_reduce
    | split
    | fail_if_no_progress with_reducible apply Evolves.parts
    | exact Or.inl (by with_reducible rfl)
    | exact mask_part hm (by decide)

theorem State.dropWaits_evolves {s : State} (a1) (h : Evolves M o s)
    (hm : 0x2808 &&& M = 0x2808) :
    Evolves M o (State.dropWaits s a1) := by
  unfold State.dropWaits
  try dsimp only
  repeat' first
    | (intro _)
    | with_reducible first
        | assumption | apply State.modStand_evolves | apply Evolves.ite | apply Evolves.foldl
    | exact mask_trans (by decide) hm
    | exact mask_bit hm (by decide)
    | fail_if_no_progress beta_reduce
    | split
    | fail_if_no_progress with_reducible apply Evolves.parts
    | exact Or.inl (by with_reducible rfl)
    | exact mask_part hm (by decide)

theorem State.mailboxReset_evolves {s : State} (a1) (h : Evolves M o s)
    (hm : 0x1fffffffffffffffffffffffffffffffffffffffffffffffffffffffffffffffffffffffffffffffffffffffffffffffffffffffffffffffffffffffffffffffffffffffffffffffffffffffffffffffffffffffffffffffffffffffffffffffffffffffffffffffffffffffffffffffffffffffffffffffffffffffffffffffe2cff &&& M = 0x1fffffffffffffffffffffffffffffffffffffffffffffffffffffffffffffffffffffffffffffffffffffffffffffffffffffffffffffffffffffffffffffffffffffffffffffffffffffffffffffffffffffffffffffffffffffffffffffffffffffffffffffffffffffffffffffffffffffffffffffffffffffffffffffffe2cff) :
    Evolves M o (State.mailboxReset s a1) := by
  unfold State.mailboxReset
  try dsimp only
  repeat' first
    | (intro _)
    | with_reducible first
        | assumption | apply State.dropWaits_evolves | apply State.dropFw_evolves | apply State.dropSolves_evolves
        | apply State.dropPw_evolves | apply State.dropCpt_evolves | apply State.modLoop_evolves
        | apply State.setLevel_evolves | apply State.resetRegs_evolves | apply Evolves.ite | apply Evolves.foldl
    | exact mask_trans (by decide) hm
    | exact mask_bit hm (by decide)
    | fail_if_no_progress beta_reduce
    | split
    | fail_if_no_progress with_reducible apply Evolves.parts
    | exact Or.inl (by with_reducible rfl)
    | exact mask_part hm (by decide)
    | exact mask_all hm (by decide) _

theorem execHrst_goes {s : State} (a0) (h : Evolves M o s)
    (hm : 0x1ffffffffffffffffffffffffffffffffffffffffffffffffffffffffffffffffffffffffffffffffffffffffffffffffffffffffffffffffffffffffffffffffffffffffffffffffffffffffffffffffffffffffffffffffffffffffffffffffffffffffffffffffffffffffffffffffffffffffffffffffffffffffffffffff2eff &&& M = 0x1ffffffffffffffffffffffffffffffffffffffffffffffffffffffffffffffffffffffffffffffffffffffffffffffffffffffffffffffffffffffffffffffffffffffffffffffffffffffffffffffffffffffffffffffffffffffffffffffffffffffffffffffffffffffffffffffffffffffffffffffffffffffffffffffff2eff) :
    Goes M o (execHrst a0 s) := by
  unfold execHrst
  try dsimp only
  repeat' first
    | (intro _)
    | with_reducible first
        | assumption | apply Goes.next | apply State.resetRegs_evolves | apply State.mailboxReset_evolves
        | apply State.modBoot_evolves | apply State.endSession_evolves | apply Evolves.ite | apply Evolves.foldl
    | exact mask_trans (by decide) hm
    | exact mask_bit hm (by decide)
    | fail_if_no_progress beta_reduce
    | split
    | fail_if_no_progress with_reducible apply Evolves.parts
    | exact Or.inl (by with_reducible rfl)
    | exact mask_part hm (by decide)
    | exact mask_all hm (by decide) _

theorem execVfFunctionLevelReset_goes {s : State} (a0) (h : Evolves M o s)
    (hm : 0x1fffffffffffffffffffffffffffffffffffffffffffffffffffffffffffffffffffffffffffffffffffffffffffffffffffffffffffffffffffffffffffffffffffffffffffffffffffffffffffffffffffffffffffffffffffffffffffffffffffffffffffffffffffffffffffffffffffffffffffffffffffffffffffffffe2cff &&& M = 0x1fffffffffffffffffffffffffffffffffffffffffffffffffffffffffffffffffffffffffffffffffffffffffffffffffffffffffffffffffffffffffffffffffffffffffffffffffffffffffffffffffffffffffffffffffffffffffffffffffffffffffffffffffffffffffffffffffffffffffffffffffffffffffffffffe2cff) :
    Goes M o (execVfFunctionLevelReset a0 s) := by
  unfold execVfFunctionLevelReset
  try dsimp only
  repeat' first
    | (intro _)
    | with_reducible first
        | assumption | apply Goes.next | apply State.mailboxReset_evolves | apply Evolves.ite | apply Evolves.foldl
    | exact mask_trans (by decide) hm
    | exact mask_bit hm (by decide)
    | fail_if_no_progress beta_reduce
    | split
    | fail_if_no_progress with_reducible apply Evolves.parts
    | exact Or.inl (by with_reducible rfl)
    | exact mask_part hm (by decide)
    | exact mask_all hm (by decide) _

theorem State.brstStand_evolves {s : State} (a1 a2) (h : Evolves M o s)
    (hm : 0x400005000000000000010000000000000000000001204fc038780c0000000000000000000000000000044000000000170fe &&& M = 0x400005000000000000010000000000000000000001204fc038780c0000000000000000000000000000044000000000170fe) :
    Evolves M o (State.brstStand s a1 a2) := by
  unfold State.brstStand
  try dsimp only
  repeat' first
    | (intro _)
    | with_reducible first
        | assumption | apply State.offline_evolves | apply State.surrender_evolves | apply Evolves.ite
        | apply Evolves.foldl
    | exact mask_trans (by decide) hm
    | exact mask_bit hm (by decide)
    | fail_if_no_progress beta_reduce
    | split
    | fail_if_no_progress with_reducible apply Evolves.parts
    | exact Or.inl (by with_reducible rfl)
    | exact mask_part hm (by decide)

theorem State.brstTraverse_evolves {s : State} (h : Evolves M o s)
    (hm : 0x1ffffffffffffffffffffffffffffffffffffffffffffffffffffffffffffffffffffffffffffffffffffffffffffffffffffffffffffffffffffffffffffffffffffffffffffffffffffffffffffffffffffffffffffffffffffffffffffffffffffffffffffffffffffffffffffffffffffffffffffffffffffffffffffffff7054 &&& M = 0x1ffffffffffffffffffffffffffffffffffffffffffffffffffffffffffffffffffffffffffffffffffffffffffffffffffffffffffffffffffffffffffffffffffffffffffffffffffffffffffffffffffffffffffffffffffffffffffffffffffffffffffffffffffffffffffffffffffffffffffffffffffffffffffffffff7054) :
    Evolves M o (State.brstTraverse s) := by
  unfold State.brstTraverse
  try dsimp only
  repeat' first
    | (intro _)
    | with_reducible first
        | assumption | apply State.modTrv_evolves | apply State.refuseJob_evolves | apply State.finishOpt_evolves
        | apply State.cancelClr_evolves | apply State.showQueue_evolves | apply State.resetRegs_evolves
        | apply Evolves.ite | apply Evolves.foldl
    | exact mask_trans (by decide) hm
    | exact mask_bit hm (by decide)
    | fail_if_no_progress beta_reduce
    | split
    | fail_if_no_progress with_reducible apply Evolves.parts
    | exact Or.inl (by with_reducible rfl)
    | exact mask_part hm (by decide)
    | exact mask_all hm (by decide) _

theorem State.brstPort_evolves {s : State} (a1) (h : Evolves M o s)
    (hm : 0x1ffffffffffffffffffffffffffffffffffffffffffffffffffffffffffffffffffffffffffffffffffffffffffffffffffffffffffffffffffffffffffffffffffffffffffffffffffffffffffffffffffffffffffffffffffffffffffffffffffffffffffffffffffffffffffffffffffffffffffffffffffffffffffffffff7880 &&& M = 0x1ffffffffffffffffffffffffffffffffffffffffffffffffffffffffffffffffffffffffffffffffffffffffffffffffffffffffffffffffffffffffffffffffffffffffffffffffffffffffffffffffffffffffffffffffffffffffffffffffffffffffffffffffffffffffffffffffffffffffffffffffffffffffffffffff7880) :
    Evolves M o (State.brstPort s a1) := by
  unfold State.brstPort
  try dsimp only
  repeat' first
    | (intro _)
    | with_reducible first
        | assumption | apply State.modPort_evolves | apply State.resetRegs_evolves | apply State.takeLinkDown_evolves
        | apply Evolves.ite | apply Evolves.foldl
    | exact mask_trans (by decide) hm
    | exact mask_bit hm (by decide)
    | fail_if_no_progress beta_reduce
    | split
    | fail_if_no_progress with_reducible apply Evolves.parts
    | exact Or.inl (by with_reducible rfl)
    | exact mask_part hm (by decide)
    | exact mask_all hm (by decide) _

theorem State.brstDatum_evolves {s : State} (h : Evolves M o s)
    (hm : 0x1ffffffffffffffffffffffffffffffffffffffffffffffffffffffffffffffffffffffffffffffffffffffffffffffffffffffffffffffffffffffffffffffffffffffffffffffffffffffffffffffffffffffffffffffffffffffffffffffffffffffffffffffffffffffffffffffffffffffffffffffffffffffffffffffff0890 &&& M = 0x1ffffffffffffffffffffffffffffffffffffffffffffffffffffffffffffffffffffffffffffffffffffffffffffffffffffffffffffffffffffffffffffffffffffffffffffffffffffffffffffffffffffffffffffffffffffffffffffffffffffffffffffffffffffffffffffffffffffffffffffffffffffffffffffffff0890) :
    Evolves M o (State.brstDatum s) := by
  unfold State.brstDatum
  try dsimp only
  repeat' first
    | (intro _)
    | with_reducible first
        | assumption | apply State.setS_evolves | apply State.setP_evolves | apply State.resetRegs_evolves
        | apply State.finish_evolves | apply State.showPtpRoles_evolves | apply Evolves.ite | apply Evolves.foldl
    | exact mask_trans (by decide) hm
    | exact mask_bit hm (by decide)
    | fail_if_no_progress beta_reduce
    | split
    | fail_if_no_progress with_reducible apply Evolves.parts
    | exact Or.inl (by with_reducible rfl)
    | exact mask_part hm (by decide)
    | exact mask_all hm (by decide) _

theorem execBrst_goes {s : State} (a0) (h : Evolves M o s)
    (hm : 0x1ffffffffffffffffffffffffffffffffffffffffffffffffffffffffffffffffffffffffffffffffffffffffffffffffffffffffffffffffffffffffffffffffffffffffffffffffffffffffffffffffffffffffffffffffffffffffffffffffffffffffffffffffffffffffffffffffffffffffffffffffffffffffffffffff78fe &&& M = 0x1ffffffffffffffffffffffffffffffffffffffffffffffffffffffffffffffffffffffffffffffffffffffffffffffffffffffffffffffffffffffffffffffffffffffffffffffffffffffffffffffffffffffffffffffffffffffffffffffffffffffffffffffffffffffffffffffffffffffffffffffffffffffffffffffff78fe) :
    Goes M o (execBrst a0 s) := by
  unfold execBrst
  try dsimp only
  repeat' first
    | (intro _)
    | with_reducible first
        | assumption | apply Goes.next | apply State.brstStand_evolves | apply State.brstTraverse_evolves
        | apply State.brstPort_evolves | apply State.brstDatum_evolves | apply Evolves.ite | apply Evolves.foldl
    | exact mask_trans (by decide) hm
    | exact mask_bit hm (by decide)
    | fail_if_no_progress beta_reduce
    | split
    | fail_if_no_progress with_reducible apply Evolves.parts
    | exact Or.inl (by with_reducible rfl)
    | exact mask_part hm (by decide)
    | exact mask_all hm (by decide) _

theorem execBrstEnd_goes {s : State} (a0) (h : Evolves M o s)
    (hm : 0x1200000000000000000000000000000000000000000000000000000408 &&& M = 0x1200000000000000000000000000000000000000000000000000000408) :
    Goes M o (execBrstEnd a0 s) := by
  unfold execBrstEnd
  try dsimp only
  repeat' first
    | (intro _)
    | with_reducible first
        | assumption | apply Goes.next | apply State.modStand_evolves | apply State.modBoot_evolves
        | apply State.startCopy_evolves | apply Evolves.ite | apply Evolves.foldl
    | exact mask_trans (by decide) hm
    | exact mask_bit hm (by decide)
    | fail_if_no_progress beta_reduce
    | split
    | fail_if_no_progress with_reducible apply Evolves.parts
    | exact Or.inl (by with_reducible rfl)
    | exact mask_part hm (by decide)

theorem State.fbkCrown_evolves {s : State} (h : Evolves M o s)
    (hm : 0x7fffe87ff0000000000000000000000000000000000000000000000000000000000000000000000000010000000000000000000000010202 &&& M = 0x7fffe87ff0000000000000000000000000000000000000000000000000000000000000000000000000010000000000000000000000010202) :
    Evolves M o (State.fbkCrown s) := by
  unfold State.fbkCrown
  try dsimp only
  repeat' first
    | (intro _)
    | with_reducible first
        | assumption | apply State.modFbk_evolves | apply State.loseLink_evolves | apply Evolves.ite
        | apply Evolves.foldl
    | exact mask_trans (by decide) hm
    | exact mask_bit hm (by decide)
    | fail_if_no_progress beta_reduce
    | split
    | fail_if_no_progress with_reducible apply Evolves.parts
    | exact Or.inl (by with_reducible rfl)
    | exact mask_part hm (by decide)

theorem State.drstOuts_evolves {s : State} (a1) (h : Evolves M o s)
    (hm : 0x1000000000000002 &&& M = 0x1000000000000002) :
    Evolves M o (State.drstOuts s a1) := by
  unfold State.drstOuts
  try dsimp only
  repeat' first
    | (intro _)
    | with_reducible first
        | assumption | apply State.modEl_evolves | apply State.setCode_evolves | apply Evolves.ite
        | apply Evolves.foldl
    | exact mask_trans (by decide) hm
    | exact mask_bit hm (by decide)
    | fail_if_no_progress beta_reduce
    | split
    | fail_if_no_progress with_reducible apply Evolves.parts
    | exact Or.inl (by with_reducible rfl)
    | exact mask_part hm (by decide)

theorem execDrst_goes {s : State} (a0) (h : Evolves M o s)
    (hm : 0x1ffffffffffffffffffffffffffffffffffffffffffffffffffffffffffffffffffffffffffffffffffffffffffffffffffffffffffffffffffffffffffffffffffffffffffffffffffffffffffffffffffffffffffffffffffffffffffffffffffffffffffffffffffffffffffffffffffffffffffffffffffffffffffffffff7fff &&& M = 0x1ffffffffffffffffffffffffffffffffffffffffffffffffffffffffffffffffffffffffffffffffffffffffffffffffffffffffffffffffffffffffffffffffffffffffffffffffffffffffffffffffffffffffffffffffffffffffffffffffffffffffffffffffffffffffffffffffffffffffffffffffffffffffffffffff7fff) :
    Goes M o (execDrst a0 s) := by
  unfold execDrst
  try dsimp only
  repeat' first
    | (intro _)
    | with_reducible first
        | assumption | apply Goes.next | apply State.fbkCrown_evolves | apply State.resetRegs_evolves
        | apply State.driveErr_evolves | apply State.drstOuts_evolves | apply Evolves.ite | apply Evolves.foldl
    | exact mask_trans (by decide) hm
    | exact mask_bit hm (by decide)
    | fail_if_no_progress beta_reduce
    | split
    | fail_if_no_progress with_reducible apply Evolves.parts
    | exact Or.inl (by with_reducible rfl)
    | exact mask_part hm (by decide)
    | exact mask_all hm (by decide) _

theorem State.por_evolves {s : State} (a1) (h : Evolves M o s)
    (hm : 0x1ffffffffffffffffffffffffffffffffffffffffffffffffffffffffffffffffffffffffffffffffffffffffffffffffffffffffffffffffffffffffffffffffffffffffffffffffffffffffffffffffffffffffffffffffffffffffffffffffffffffffffffffffffffffffffffffffffffffffffffffffffffffffffffffff7fff &&& M = 0x1ffffffffffffffffffffffffffffffffffffffffffffffffffffffffffffffffffffffffffffffffffffffffffffffffffffffffffffffffffffffffffffffffffffffffffffffffffffffffffffffffffffffffffffffffffffffffffffffffffffffffffffffffffffffffffffffffffffffffffffffffffffffffffffffff7fff) :
    Evolves M o (State.por s a1) := by
  unfold State.por
  try dsimp only
  repeat' first
    | (intro _)
    | with_reducible first
        | assumption | apply State.fbkCrown_evolves | apply State.resetRegs_evolves | apply State.driveErr_evolves
        | apply Evolves.ite | apply Evolves.foldl
    | exact mask_trans (by decide) hm
    | exact mask_bit hm (by decide)
    | fail_if_no_progress beta_reduce
    | split
    | fail_if_no_progress with_reducible apply Evolves.parts
    | exact Or.inl (by with_reducible rfl)
    | exact mask_part hm (by decide)
    | exact mask_all hm (by decide) _

theorem execPor_goes {s : State} (a0) (h : Evolves M o s)
    (hm : 0x1ffffffffffffffffffffffffffffffffffffffffffffffffffffffffffffffffffffffffffffffffffffffffffffffffffffffffffffffffffffffffffffffffffffffffffffffffffffffffffffffffffffffffffffffffffffffffffffffffffffffffffffffffffffffffffffffffffffffffffffffffffffffffffffffff7fff &&& M = 0x1ffffffffffffffffffffffffffffffffffffffffffffffffffffffffffffffffffffffffffffffffffffffffffffffffffffffffffffffffffffffffffffffffffffffffffffffffffffffffffffffffffffffffffffffffffffffffffffffffffffffffffffffffffffffffffffffffffffffffffffffffffffffffffffffff7fff) :
    Goes M o (execPor a0 s) := by
  unfold execPor
  try dsimp only
  repeat' first
    | (intro _)
    | with_reducible first
        | assumption | apply Goes.next | apply State.por_evolves | apply Evolves.ite | apply Evolves.foldl
    | exact mask_trans (by decide) hm
    | exact mask_bit hm (by decide)
    | fail_if_no_progress beta_reduce
    | split
    | fail_if_no_progress with_reducible apply Evolves.parts
    | exact Or.inl (by with_reducible rfl)
    | exact mask_part hm (by decide)
    | exact mask_all hm (by decide) _

theorem execVsioReset_goes {s : State} (a0) (h : Evolves M o s)
    (hm : 0x1ffffffffffffffffffffffffffffffffffffffffffffffffffffffffffffffffffffffffffffffffffffffffffffffffffffffffffffffffffffffffffffffffffffffffffffffffffffffffffffffffffffffffffffffffffffffffffffffffffffffffffffffffffffffffffffffffffffffffffffffffffffffffffffffff7fff &&& M = 0x1ffffffffffffffffffffffffffffffffffffffffffffffffffffffffffffffffffffffffffffffffffffffffffffffffffffffffffffffffffffffffffffffffffffffffffffffffffffffffffffffffffffffffffffffffffffffffffffffffffffffffffffffffffffffffffffffffffffffffffffffffffffffffffffffff7fff) :
    Goes M o (execVsioReset a0 s) := by
  unfold execVsioReset
  try dsimp only
  repeat' first
    | (intro _)
    | with_reducible first
        | assumption | apply Goes.next | apply State.por_evolves | apply State.fbkOff_evolves | apply Evolves.ite
        | apply Evolves.foldl
    | exact mask_trans (by decide) hm
    | exact mask_bit hm (by decide)
    | fail_if_no_progress beta_reduce
    | split
    | fail_if_no_progress with_reducible apply Evolves.parts
    | exact Or.inl (by with_reducible rfl)
    | exact mask_part hm (by decide)
    | exact mask_all hm (by decide) _

end Sys2Proof.Machine
end

