-- ==== Sys2Proof/Laws/EvolvesI.lean ====
section
/-! SUPPORT. What each operation and meaning of the files SafetyCmds, Spdm leaves of the state before it
(Evolves). -/

namespace Sys2Proof.Machine

set_option Elab.async false
set_option linter.unusedTactic false
set_option linter.unreachableTactic false
set_option linter.unusedVariables false
set_option linter.unusedSimpArgs false
set_option exponentiation.threshold 1024

variable {M : Nat} {o : State}

/-! ## SafetyCmds -/

theorem State.safetyCmd_evolves {s : State} (a1) (h : Evolves M o s)
    (hm : 0x200 &&& M = 0x200) :
    Evolves M o (State.safetyCmd s a1) := by
  unfold State.safetyCmd
  try dsimp only
  repeat' first
    | (intro _)
    | with_reducible first
        | assumption | apply State.modFbk_evolves | apply Evolves.ite | apply Evolves.foldl
    | exact mask_trans (by decide) hm
    | exact mask_bit hm (by decide)
    | fail_if_no_progress beta_reduce
    | split
    | fail_if_no_progress with_reducible apply Evolves.parts
    | exact Or.inl (by with_reducible rfl)
    | exact mask_part hm (by decide)

theorem execSafetyStatusRead_goes {s : State} (a0 a1) (h : Evolves M o s)
    (hm : 0x400000000000000000000000000000000000000000000000000000000000000000000000000000000000000000000012250 &&& M = 0x400000000000000000000000000000000000000000000000000000000000000000000000000000000000000000000012250) :
    Goes M o (execSafetyStatusRead a0 a1 s) := by
  unfold execSafetyStatusRead
  try dsimp only
  repeat' first
    | (intro _)
    | with_reducible first
        | assumption | apply Goes.next | apply State.checked_evolves | apply State.safetyCmd_evolves
        | apply State.status_evolves | apply State.hostWrite_evolves | apply Evolves.ite | apply Evolves.foldl
    | exact mask_trans (by decide) hm
    | exact mask_bit hm (by decide)
    | fail_if_no_progress beta_reduce
    | split
    | fail_if_no_progress with_reducible apply Evolves.parts
    | exact Or.inl (by with_reducible rfl)
    | exact mask_part hm (by decide)

theorem State.leaveLockout_evolves {s : State} (h : Evolves M o s)
    (hm : 0x780009fff0000000000000000000000000000000000000000000000000000000000000000000000000010000000000000000000000010282 &&& M = 0x780009fff0000000000000000000000000000000000000000000000000000000000000000000000000010000000000000000000000010282) :
    Evolves M o (State.leaveLockout s) := by
  unfold State.leaveLockout
  try dsimp only
  repeat' first
    | (intro _)
    | with_reducible first
        | assumption | apply State.modFbk_evolves | apply State.lockReport_evolves | apply State.fbkEvent_evolves
        | apply State.fbkLog_evolves | apply State.fbkEval_evolves | apply State.wr_evolves | apply Evolves.ite
        | apply Evolves.foldl
    | exact mask_trans (by decide) hm
    | exact mask_bit hm (by decide)
    | fail_if_no_progress beta_reduce
    | split
    | fail_if_no_progress with_reducible apply Evolves.parts
    | exact Or.inl (by with_reducible rfl)
    | exact mask_part hm (by decide)

theorem execSafetyStatusAck_goes {s : State} (a0) (h : Evolves M o s)
    (hm : 0x780009fff00004000000000000000000000000000000000000000000000000000000000000000000000100000000000000000000000102d2 &&& M = 0x780009fff00004000000000000000000000000000000000000000000000000000000000000000000000100000000000000000000000102d2) :
    Goes M o (execSafetyStatusAck a0 s) := by
  unfold execSafetyStatusAck
  try dsimp only
  repeat' first
    | (intro _)
    | with_reducible first
        | assumption | apply Goes.next | apply State.checked_evolves | apply State.safetyCmd_evolves
        | apply State.status_evolves | apply State.leaveLockout_evolves | apply Evolves.ite | apply Evolves.foldl
    | exact mask_trans (by decide) hm
    | exact mask_bit hm (by decide)
    | fail_if_no_progress beta_reduce
    | split
    | fail_if_no_progress with_reducible apply Evolves.parts
    | exact Or.inl (by with_reducible rfl)
    | exact mask_part hm (by decide)

theorem execSafetyStatusRestart_goes {s : State} (a0 a1) (h : Evolves M o s)
    (hm : 0x6800087ff0000400000000000000000000000000000000000000000000000000000000000000000000000000000000000000000000010250 &&& M = 0x6800087ff0000400000000000000000000000000000000000000000000000000000000000000000000000000000000000000000000010250) :
    Goes M o (execSafetyStatusRestart a0 a1 s) := by
  unfold execSafetyStatusRestart
  try dsimp only
  repeat' first
    | (intro _)
    | with_reducible first
        | assumption | apply Goes.next | apply State.checked_evolves | apply State.safetyCmd_evolves
        | apply State.status_evolves | apply State.showFbk_evolves | apply State.switchOut_evolves
        | apply Evolves.ite | apply Evolves.foldl
    | exact mask_trans (by decide) hm
    | exact mask_bit hm (by decide)
    | fail_if_no_progress beta_reduce
    | split
    | fail_if_no_progress with_reducible apply Evolves.parts
    | exact Or.inl (by with_reducible rfl)
    | exact mask_part hm (by decide)

theorem State.authFails_evolves {s : State} (a1) (h : Evolves M o s)
    (hm : 0x7800087ff0000000000000000000000000000000000000000000000000000000000000000000000000000000000000000000000000010200 &&& M = 0x7800087ff0000000000000000000000000000000000000000000000000000000000000000000000000000000000000000000000000010200) :
    Evolves M o (State.authFails s a1) := by
  unfold State.authFails
  try dsimp only
  repeat' first
    | (intro _)
    | with_reducible first
        | assumption | apply State.modFbk_evolves | apply State.showFbk_evolves | apply State.fbkEvent_evolves
        | apply State.fbkLog_evolves | apply Evolves.ite | apply Evolves.foldl
    | exact mask_trans (by decide) hm
    | exact mask_bit hm (by decide)
    | fail_if_no_progress beta_reduce
    | split
    | fail_if_no_progress with_reducible apply Evolves.parts
    | exact Or.inl (by with_reducible rfl)
    | exact mask_part hm (by decide)

theorem execSafetySessionOpen_goes {s : State} (a0 a1 a2) (h : Evolves M o s)
    (hm : 0x7fffe87ff0000400000000000000000000000000000000000000000000000000000000000000000000000000000000000000000000010250 &&& M = 0x7fffe87ff0000400000000000000000000000000000000000000000000000000000000000000000000000000000000000000000000010250) :
    Goes M o (execSafetySessionOpen a0 a1 a2 s) := by
  unfold execSafetySessionOpen
  try dsimp only
  repeat' first
    | (intro _)
    | with_reducible first
        | assumption | apply Goes.next | apply State.checked_evolves | apply State.safetyCmd_evolves
        | apply State.status_evolves | apply State.authFails_evolves | apply State.modFbk_evolves
        | apply State.showFbk_evolves | apply State.showCfg_evolves | apply State.fbkEvent_evolves
        | apply State.fbkLog_evolves | apply Evolves.ite | apply Evolves.foldl
    | exact mask_trans (by decide) hm
    | exact mask_bit hm (by decide)
    | fail_if_no_progress beta_reduce
    | split
    | fail_if_no_progress with_reducible apply Evolves.parts
    | exact Or.inl (by with_reducible rfl)
    | exact mask_part hm (by decide)

theorem execSafetyConfigParameter_goes {s : State} (a0 a1 a2) (h : Evolves M o s)
    (hm : 0x7ffe00000000400000000000000000000000000000000000000000000000000000000000000000000000000000000000000000000000250 &&& M = 0x7ffe00000000400000000000000000000000000000000000000000000000000000000000000000000000000000000000000000000000250) :
    Goes M o (execSafetyConfigParameter a0 a1 a2 s) := by
  unfold execSafetyConfigParameter
  try dsimp only
  repeat' first
    | (intro _)
    | with_reducible first
        | assumption | apply Goes.next | apply State.checked_evolves | apply State.safetyCmd_evolves
        | apply State.status_evolves | apply State.showCfg_evolves | apply State.modFbk_evolves | apply Evolves.ite
        | apply Evolves.foldl
    | exact mask_trans (by decide) hm
    | exact mask_bit hm (by decide)
    | fail_if_no_progress beta_reduce
    | split
    | fail_if_no_progress with_reducible apply Evolves.parts
    | exact Or.inl (by with_reducible rfl)
    | exact mask_part hm (by decide)

theorem execSafetyConfigPassword_goes {s : State} (a0 a1 a2) (h : Evolves M o s)
    (hm : 0x400000000000000000000000000000000000000000000000000000000000000000000000000000000000000000000008250 &&& M = 0x400000000000000000000000000000000000000000000000000000000000000000000000000000000000000000000008250) :
    Goes M o (execSafetyConfigPassword a0 a1 a2 s) := by
  unfold execSafetyConfigPassword
  try dsimp only
  repeat' first
    | (intro _)
    | with_reducible first
        | assumption | apply Goes.next | apply State.checked_evolves | apply State.safetyCmd_evolves
        | apply State.status_evolves | apply State.modFbk_evolves | apply State.useFree_evolves | apply Evolves.ite
        | apply Evolves.foldl
    | exact mask_trans (by decide) hm
    | exact mask_bit hm (by decide)
    | fail_if_no_progress beta_reduce
    | split
    | fail_if_no_progress with_reducible apply Evolves.parts
    | exact Or.inl (by with_reducible rfl)
    | exact mask_part hm (by decide)

theorem State.logCommit_evolves {s : State} (h : Evolves M o s)
    (hm : 0x1800000000000000000000000000000000000000000000000000000000000000000000000000000000000000000000000000000000000200 &&& M = 0x1800000000000000000000000000000000000000000000000000000000000000000000000000000000000000000000000000000000000200) :
    Evolves M o (State.logCommit s) := by
  unfold State.logCommit
  try dsimp only
  repeat' first
    | (intro _)
    | with_reducible first
        | assumption | apply State.fbkLog_evolves | apply Evolves.ite | apply Evolves.foldl
    | exact mask_trans (by decide) hm
    | exact mask_bit hm (by decide)
    | fail_if_no_progress beta_reduce
    | split
    | fail_if_no_progress with_reducible apply Evolves.parts
    | exact Or.inl (by with_reducible rfl)
    | exact mask_part hm (by decide)

theorem State.applyCommit_evolves {s : State} (h : Evolves M o s)
    (hm : 0x7fffe87ff0000000000000000000000000000000000000000000000000000000000000000000000000010000000000000000000000010202 &&& M = 0x7fffe87ff0000000000000000000000000000000000000000000000000000000000000000000000000010000000000000000000000010202) :
    Evolves M o (State.applyCommit s) := by
  unfold State.applyCommit
  try dsimp only
  repeat' first
    | (intro _)
    | with_reducible first
        | assumption | apply State.switchOut_evolves | apply State.modFbk_evolves | apply State.fbkEval_evolves
        | apply State.endSession_evolves | apply Evolves.ite | apply Evolves.foldl
    | exact mask_trans (by decide) hm
    | exact mask_bit hm (by decide)
    | fail_if_no_progress beta_reduce
    | split
    | fail_if_no_progress with_reducible apply Evolves.parts
    | exact Or.inl (by with_reducible rfl)
    | exact mask_part hm (by decide)

theorem execSafetySessionCloseCommit_goes {s : State} (a0) (h : Evolves M o s)
    (hm : 0x1000000000000007fffe87ff0000400000000000000000000000000000000000000000000000000000000000000000000010000000000000000000000010252 &&& M = 0x1000000000000007fffe87ff0000400000000000000000000000000000000000000000000000000000000000000000000010000000000000000000000010252) :
    Goes M o (execSafetySessionCloseCommit a0 s) := by
  unfold execSafetySessionCloseCommit
  try dsimp only
  repeat' first
    | (intro _)
    | with_reducible first
        | assumption | apply Goes.next | apply State.checked_evolves | apply State.safetyCmd_evolves
        | apply State.status_evolves | apply State.countRefused_evolves | apply State.applyCommit_evolves
        | apply State.logCommit_evolves | apply Evolves.ite | apply Evolves.foldl
    | exact mask_trans (by decide) hm
    | exact mask_bit hm (by decide)
    | fail_if_no_progress beta_reduce
    | split
    | fail_if_no_progress with_reducible apply Evolves.parts
    | exact Or.inl (by with_reducible rfl)
    | exact mask_part hm (by decide)

theorem execSafetySessionCloseDiscard_goes {s : State} (a0) (h : Evolves M o s)
    (hm : 0x7fffe87ff0000400000000000000000000000000000000000000000000000000000000000000000000000000000000000000000000010250 &&& M = 0x7fffe87ff0000400000000000000000000000000000000000000000000000000000000000000000000000000000000000000000000010250) :
    Goes M o (execSafetySessionCloseDiscard a0 s) := by
  unfold execSafetySessionCloseDiscard
  try dsimp only
  repeat' first
    | (intro _)
    | with_reducible first
        | assumption | apply Goes.next | apply State.checked_evolves | apply State.safetyCmd_evolves
        | apply State.status_evolves | apply State.endSession_evolves | apply Evolves.ite | apply Evolves.foldl
    | exact mask_trans (by decide) hm
    | exact mask_bit hm (by decide)
    | fail_if_no_progress beta_reduce
    | split
    | fail_if_no_progress with_reducible apply Evolves.parts
    | exact Or.inl (by with_reducible rfl)
    | exact mask_part hm (by decide)

theorem execSafetyLogRead_goes {s : State} (a0 a1 a2 a3) (h : Evolves M o s)
    (hm : 0x400000000000000000000000000000000000000000000000000000000000000000000000000000000000000000000012250 &&& M = 0x400000000000000000000000000000000000000000000000000000000000000000000000000000000000000000000012250) :
    Goes M o (execSafetyLogRead a0 a1 a2 a3 s) := by
  unfold execSafetyLogRead
  try dsimp only
  repeat' first
    | (intro _)
    | with_reducible first
        | assumption | apply Goes.next | apply State.checked_evolves | apply State.safetyCmd_evolves
        | apply State.complete_evolves | apply State.hostWrite_evolves | apply Evolves.ite | apply Evolves.foldl
    | exact mask_trans (by decide) hm
    | exact mask_bit hm (by decide)
    | fail_if_no_progress beta_reduce
    | split
    | fail_if_no_progress with_reducible apply Evolves.parts
    | exact Or.inl (by with_reducible rfl)
    | exact mask_part hm (by decide)

/-! ## Spdm -/

theorem State.answer_evolves {s : State} (a1) (h : Evolves M o s)
    (hm : 0x10000 &&& M = 0x10000) :
    Evolves M o (State.answer s a1) := by
  unfold State.answer
  try dsimp only
  repeat' first
    | (intro _)
    | with_reducible first
        | assumption | apply State.emit_evolves | apply Evolves.ite | apply Evolves.foldl
    | exact mask_trans (by decide) hm
    | exact mask_bit hm (by decide)
    | fail_if_no_progress beta_reduce
    | split
    | fail_if_no_progress with_reducible apply Evolves.parts
    | exact Or.inl (by with_reducible rfl)
    | exact mask_part hm (by decide)

theorem State.spdm_evolves {s : State} (n b) {e : State → State} (h : Evolves M o s)
    (he : ∀ t, Evolves M o t → Evolves M o (e t))
    (hm : 0x10000 &&& M = 0x10000) :
    Evolves M o (State.spdm s n b e) := by
  unfold State.spdm
  try dsimp only
  repeat' first
    | (intro _)
    | with_reducible first
        | assumption | apply he | apply State.answer_evolves | apply Evolves.ite | apply Evolves.foldl
    | exact mask_trans (by decide) hm
    | exact mask_bit hm (by decide)
    | fail_if_no_progress beta_reduce
    | split
    | fail_if_no_progress with_reducible apply Evolves.parts
    | exact Or.inl (by with_reducible rfl)
    | exact mask_part hm (by decide)

theorem State.setSpdm_evolves {s : State} (a1 a2 a3) (h : Evolves M o s)
    (hm : 0x400 &&& M = 0x400) :
    Evolves M o (State.setSpdm s a1 a2 a3) := by
  unfold State.setSpdm
  try dsimp only
  repeat' first
    | (intro _)
    | with_reducible first
        | assumption | apply Evolves.ite | apply Evolves.foldl
    | exact mask_trans (by decide) hm
    | exact mask_bit hm (by decide)
    | fail_if_no_progress beta_reduce
    | split
    | fail_if_no_progress with_reducible apply Evolves.parts
    | exact Or.inl (by with_reducible rfl)
    | exact mask_part hm (by decide)

theorem execDoeDiscovery_goes {s : State} (a0) (h : Evolves M o s)
    (hm : 0x10000 &&& M = 0x10000) :
    Goes M o (execDoeDiscovery a0 s) := by
  unfold execDoeDiscovery
  try dsimp only
  repeat' first
    | (intro _)
    | with_reducible first
        | assumption | apply Goes.next | apply State.answer_evolves | apply Evolves.ite | apply Evolves.foldl
    | exact mask_trans (by decide) hm
    | exact mask_bit hm (by decide)
    | fail_if_no_progress beta_reduce
    | split
    | fail_if_no_progress with_reducible apply Evolves.parts
    | exact Or.inl (by with_reducible rfl)
    | exact mask_part hm (by decide)

theorem execSpdmGetVersion_goes {s : State} (a0) (h : Evolves M o s)
    (hm : 0x10400 &&& M = 0x10400) :
    Goes M o (execSpdmGetVersion a0 s) := by
  unfold execSpdmGetVersion
  try dsimp only
  repeat' first
    | (intro _)
    | with_reducible first
        | assumption | apply Goes.next | apply State.spdm_evolves | apply State.answer_evolves
        | apply State.setSpdm_evolves | apply Evolves.ite | apply Evolves.foldl
    | exact mask_trans (by decide) hm
    | exact mask_bit hm (by decide)
    | fail_if_no_progress beta_reduce
    | split
    | fail_if_no_progress with_reducible apply Evolves.parts
    | exact Or.inl (by with_reducible rfl)
    | exact mask_part hm (by decide)

theorem execSpdmGetCapabilities_goes {s : State} (a0) (h : Evolves M o s)
    (hm : 0x10400 &&& M = 0x10400) :
    Goes M o (execSpdmGetCapabilities a0 s) := by
  unfold execSpdmGetCapabilities
  try dsimp only
  repeat' first
    | (intro _)
    | with_reducible first
        | assumption | apply Goes.next | apply State.spdm_evolves | apply State.answer_evolves
        | apply State.setSpdm_evolves | apply Evolves.ite | apply Evolves.foldl
    | exact mask_trans (by decide) hm
    | exact mask_bit hm (by decide)
    | fail_if_no_progress beta_reduce
    | split
    | fail_if_no_progress with_reducible apply Evolves.parts
    | exact Or.inl (by with_reducible rfl)
    | exact mask_part hm (by decide)

theorem execSpdmNegotiateAlgorithms_goes {s : State} (a0 a1 a2 a3) (h : Evolves M o s)
    (hm : 0x10400 &&& M = 0x10400) :
    Goes M o (execSpdmNegotiateAlgorithms a0 a1 a2 a3 s) := by
  unfold execSpdmNegotiateAlgorithms
  try dsimp only
  repeat' first
    | (intro _)
    | with_reducible first
        | assumption | apply Goes.next | apply State.spdm_evolves | apply State.answer_evolves
        | apply State.setSpdm_evolves | apply Evolves.ite | apply Evolves.foldl
    | exact mask_trans (by decide) hm
    | exact mask_bit hm (by decide)
    | fail_if_no_progress beta_reduce
    | split
    | fail_if_no_progress with_reducible apply Evolves.parts
    | exact Or.inl (by with_reducible rfl)
    | exact mask_part hm (by decide)

theorem execSpdmGetDigests_goes {s : State} (a0) (h : Evolves M o s)
    (hm : 0x10000 &&& M = 0x10000) :
    Goes M o (execSpdmGetDigests a0 s) := by
  unfold execSpdmGetDigests
  try dsimp only
  repeat' first
    | (intro _)
    | with_reducible first
        | assumption | apply Goes.next | apply State.spdm_evolves | apply State.answer_evolves | apply Evolves.ite
        | apply Evolves.foldl
    | exact mask_trans (by decide) hm
    | exact mask_bit hm (by decide)
    | fail_if_no_progress beta_reduce
    | split
    | fail_if_no_progress with_reducible apply Evolves.parts
    | exact Or.inl (by with_reducible rfl)
    | exact mask_part hm (by decide)

theorem execSpdmGetCertificate_goes {s : State} (a0 a1 a2 a3) (h : Evolves M o s)
    (hm : 0x10000 &&& M = 0x10000) :
    Goes M o (execSpdmGetCertificate a0 a1 a2 a3 s) := by
  unfold execSpdmGetCertificate
  try dsimp only
  repeat' first
    | (intro _)
    | with_reducible first
        | assumption | apply Goes.next | apply State.spdm_evolves | apply State.answer_evolves | apply Evolves.ite
        | apply Evolves.foldl
    | exact mask_trans (by decide) hm
    | exact mask_bit hm (by decide)
    | fail_if_no_progress beta_reduce
    | split
    | fail_if_no_progress with_reducible apply Evolves.parts
    | exact Or.inl (by with_reducible rfl)
    | exact mask_part hm (by decide)

theorem execSpdmChallenge_goes {s : State} (a0 a1 a2) (h : Evolves M o s)
    (hm : 0x10000 &&& M = 0x10000) :
    Goes M o (execSpdmChallenge a0 a1 a2 s) := by
  unfold execSpdmChallenge
  try dsimp only
  repeat' first
    | (intro _)
    | with_reducible first
        | assumption | apply Goes.next | apply State.spdm_evolves | apply State.answer_evolves | apply Evolves.ite
        | apply Evolves.foldl
    | exact mask_trans (by decide) hm
    | exact mask_bit hm (by decide)
    | fail_if_no_progress beta_reduce
    | split
    | fail_if_no_progress with_reducible apply Evolves.parts
    | exact Or.inl (by with_reducible rfl)
    | exact mask_part hm (by decide)

theorem execSpdmGetMeasurements_goes {s : State} (a0 a1 a2 a3) (h : Evolves M o s)
    (hm : 0x10000 &&& M = 0x10000) :
    Goes M o (execSpdmGetMeasurements a0 a1 a2 a3 s) := by
  unfold execSpdmGetMeasurements
  try dsimp only
  repeat' first
    | (intro _)
    | with_reducible first
        | assumption | apply Goes.next | apply State.spdm_evolves | apply State.answer_evolves | apply Evolves.ite
        | apply Evolves.foldl
    | exact mask_trans (by decide) hm
    | exact mask_bit hm (by decide)
    | fail_if_no_progress beta_reduce
    | split
    | fail_if_no_progress with_reducible apply Evolves.parts
    | exact Or.inl (by with_reducible rfl)
    | exact mask_part hm (by decide)

theorem execSpdmUnsupportedRequest_goes {s : State} (a0) (h : Evolves M o s)
    (hm : 0x10000 &&& M = 0x10000) :
    Goes M o (execSpdmUnsupportedRequest a0 s) := by
  unfold execSpdmUnsupportedRequest
  try dsimp only
  repeat' first
    | (intro _)
    | with_reducible first
        | assumption | apply Goes.next | apply State.spdm_evolves | apply State.answer_evolves | apply Evolves.ite
        | apply Evolves.foldl
    | exact mask_trans (by decide) hm
    | exact mask_bit hm (by decide)
    | fail_if_no_progress beta_reduce
    | split
    | fail_if_no_progress with_reducible apply Evolves.parts
    | exact Or.inl (by with_reducible rfl)
    | exact mask_part hm (by decide)

end Sys2Proof.Machine
end

