-- ==== Sys2Proof/Laws/Frame.lean ====
section
/-! SUPPORT. From the mask of an operation to the frame of a command: which register fields and parts it leaves alone. -/

namespace Sys2Proof.Machine

set_option Elab.async false
set_option exponentiation.threshold 1024

/-- The mask that names the fields `fs` and the parts `ps`. -/
def frameMask (fs : List Fid) (ps : List StatePart) : Nat :=
  maskOf (fs.map (fun f => 17 + f.ctorIdx) ++ ps.map (fun p => p.ctorIdx))

theorem foldl_or_testBit (l : List Nat) (a k : Nat) :
    (l.foldl (fun a b => a ||| 2 ^ b) a).testBit k = (a.testBit k || decide (k ∈ l)) := by
  induction l generalizing a with
  | nil => simp
  | cons b r ih =>
    rw [List.foldl_cons, ih, Nat.testBit_or, Nat.testBit_two_pow]
    by_cases h : b = k
    · subst h; simp
    · have : ¬ k = b := fun e => h e.symm
      simp [h, this]

theorem maskOf_testBit (l : List Nat) (k : Nat) : (maskOf l).testBit k = decide (k ∈ l) := by
  unfold maskOf
  rw [foldl_or_testBit]
  simp

theorem Fid.ctorIdx_inj {f g : Fid} (h : f.ctorIdx = g.ctorIdx) : f = g := by
  rw [← Fid.ofNat_ctorIdx f, h, Fid.ofNat_ctorIdx]

theorem StatePart.ctorIdx_lt (p : StatePart) : p.ctorIdx < 17 := by cases p <;> decide

theorem frameMask_field {fs : List Fid} {ps : List StatePart} {f : Fid} (h : f ∉ fs) :
    (frameMask fs ps).testBit (17 + f.ctorIdx) = false := by
  unfold frameMask
  rw [maskOf_testBit, decide_eq_false_iff_not, List.mem_append, List.mem_map, List.mem_map]
  rintro (⟨g, hg, e⟩ | ⟨p, _, e⟩)
  · exact h (Fid.ctorIdx_inj (by omega : g.ctorIdx = f.ctorIdx) ▸ hg)
  · have := p.ctorIdx_lt; omega

theorem frameMask_part {fs : List Fid} {ps : List StatePart} {p : StatePart} (h : p ∉ ps) :
    (frameMask fs ps).testBit p.ctorIdx = false := by
  unfold frameMask
  rw [maskOf_testBit, decide_eq_false_iff_not, List.mem_append, List.mem_map, List.mem_map]
  rintro (⟨g, _, e⟩ | ⟨q, hq, e⟩)
  · have := p.ctorIdx_lt; omega
  · refine h ((?_ : q = p) ▸ hq)
    cases p <;> cases q <;> first | rfl | exact absurd e (by decide)

/-- What evolves under the mask of a frame keeps the frame. -/
theorem Evolves.frame {fs : List Fid} {ps : List StatePart} {s t : State} (h : Evolves (frameMask fs ps) s t) : s.Frame t fs ps := by
  refine ⟨fun f hf i => h.rd f i (frameMask_field hf), fun p hp => ?_, h.pending⟩
  have hb := frameMask_part (fs := fs) hp
  cases p
  · exact h.map hb
  · exact h.loop hb
  · exact h.trv hb
  · exact h.stand hb
  · exact h.mbx hb
  · exact h.rings hb
  · exact h.host hb
  · exact h.flt hb
  · exact h.hkp hb
  · exact h.fbk hb
  · exact h.boot hb
  · exact h.datum hb
  · exact h.ports hb
  · exact h.fab hb
  · exact h.sch hb
  · exact h.free hb
  · exact h.out hb

/-- An answer that goes under the mask of a frame keeps the frame. -/
theorem Goes.frame {fs : List Fid} {ps : List StatePart} {s t : State} {r : Result} (h : Goes (frameMask fs ps) s r)
    (ht : r = .next t) : s.Frame t fs ps := by
  obtain ⟨u, rfl, hu⟩ := h
  cases ht
  exact hu.frame

end Sys2Proof.Machine
end

