-- ==== Sys2Proof/Laws/Parts.lean ====
section
/-! SUPPORT. The laws of the named updates of one part of the state: the part changed reads as changed, another of its kind as before,
and every other block of the state is as it was. -/

namespace Sys2Proof.Machine

set_option Elab.async false

/-! ## modEl: an element -/

@[simp] theorem State.modEl_el_same (s : State) (k : Nat) (f : Elem → Elem) : (s.modEl k f).el k = f (s.el k) :=
  Tbl.get_modify_same _ _ _ _
theorem State.modEl_el_ne (s : State) {k j : Nat} (f : Elem → Elem) (h : j ≠ k) : (s.modEl k f).el j = s.el j :=
  Tbl.get_modify_ne _ _ _ h
@[simp] theorem State.modEl_rd (s : State) (k : Nat) (f : Elem → Elem) (r : Fid) (i : Nat) :
    (s.modEl k f).rd r i = s.rd r i := rfl
@[simp] theorem State.modEl_regs (s : State) (k : Nat) (f : Elem → Elem) : (s.modEl k f).regs = s.regs := rfl
@[simp] theorem State.modEl_map (s : State) (k : Nat) (f : Elem → Elem) : (s.modEl k f).map = s.map := rfl
@[simp] theorem State.modEl_trv (s : State) (k : Nat) (f : Elem → Elem) : (s.modEl k f).trv = s.trv := rfl
@[simp] theorem State.modEl_stand (s : State) (k : Nat) (f : Elem → Elem) : (s.modEl k f).stand = s.stand := rfl
@[simp] theorem State.modEl_mbx (s : State) (k : Nat) (f : Elem → Elem) : (s.modEl k f).mbx = s.mbx := rfl
@[simp] theorem State.modEl_rings (s : State) (k : Nat) (f : Elem → Elem) : (s.modEl k f).rings = s.rings := rfl
@[simp] theorem State.modEl_host (s : State) (k : Nat) (f : Elem → Elem) : (s.modEl k f).host = s.host := rfl
@[simp] theorem State.modEl_flt (s : State) (k : Nat) (f : Elem → Elem) : (s.modEl k f).flt = s.flt := rfl
@[simp] theorem State.modEl_hkp (s : State) (k : Nat) (f : Elem → Elem) : (s.modEl k f).hkp = s.hkp := rfl
@[simp] theorem State.modEl_fbk (s : State) (k : Nat) (f : Elem → Elem) : (s.modEl k f).fbk = s.fbk := rfl
@[simp] theorem State.modEl_boot (s : State) (k : Nat) (f : Elem → Elem) : (s.modEl k f).boot = s.boot := rfl
@[simp] theorem State.modEl_datum (s : State) (k : Nat) (f : Elem → Elem) : (s.modEl k f).datum = s.datum := rfl
@[simp] theorem State.modEl_ports (s : State) (k : Nat) (f : Elem → Elem) : (s.modEl k f).ports = s.ports := rfl
@[simp] theorem State.modEl_fab (s : State) (k : Nat) (f : Elem → Elem) : (s.modEl k f).fab = s.fab := rfl
@[simp] theorem State.modEl_sch (s : State) (k : Nat) (f : Elem → Elem) : (s.modEl k f).sch = s.sch := rfl
@[simp] theorem State.modEl_free (s : State) (k : Nat) (f : Elem → Elem) : (s.modEl k f).free = s.free := rfl
@[simp] theorem State.modEl_out (s : State) (k : Nat) (f : Elem → Elem) : (s.modEl k f).out = s.out := rfl
@[simp] theorem State.modEl_pending (s : State) (k : Nat) (f : Elem → Elem) : (s.modEl k f).pending = s.pending := rfl

/-! ## modMon: a monitor -/

@[simp] theorem State.modMon_mon_same (s : State) (k : Nat) (f : Mon → Mon) : (s.modMon k f).mon k = f (s.mon k) :=
  Tbl.get_modify_same _ _ _ _
theorem State.modMon_mon_ne (s : State) {k j : Nat} (f : Mon → Mon) (h : j ≠ k) : (s.modMon k f).mon j = s.mon j :=
  Tbl.get_modify_ne _ _ _ h
@[simp] theorem State.modMon_rd (s : State) (k : Nat) (f : Mon → Mon) (r : Fid) (i : Nat) :
    (s.modMon k f).rd r i = s.rd r i := rfl
@[simp] theorem State.modMon_regs (s : State) (k : Nat) (f : Mon → Mon) : (s.modMon k f).regs = s.regs := rfl
@[simp] theorem State.modMon_map (s : State) (k : Nat) (f : Mon → Mon) : (s.modMon k f).map = s.map := rfl
@[simp] theorem State.modMon_trv (s : State) (k : Nat) (f : Mon → Mon) : (s.modMon k f).trv = s.trv := rfl
@[simp] theorem State.modMon_stand (s : State) (k : Nat) (f : Mon → Mon) : (s.modMon k f).stand = s.stand := rfl
@[simp] theorem State.modMon_mbx (s : State) (k : Nat) (f : Mon → Mon) : (s.modMon k f).mbx = s.mbx := rfl
@[simp] theorem State.modMon_rings (s : State) (k : Nat) (f : Mon → Mon) : (s.modMon k f).rings = s.rings := rfl
@[simp] theorem State.modMon_host (s : State) (k : Nat) (f : Mon → Mon) : (s.modMon k f).host = s.host := rfl
@[simp] theorem State.modMon_flt (s : State) (k : Nat) (f : Mon → Mon) : (s.modMon k f).flt = s.flt := rfl
@[simp] theorem State.modMon_hkp (s : State) (k : Nat) (f : Mon → Mon) : (s.modMon k f).hkp = s.hkp := rfl
@[simp] theorem State.modMon_fbk (s : State) (k : Nat) (f : Mon → Mon) : (s.modMon k f).fbk = s.fbk := rfl
@[simp] theorem State.modMon_boot (s : State) (k : Nat) (f : Mon → Mon) : (s.modMon k f).boot = s.boot := rfl
@[simp] theorem State.modMon_datum (s : State) (k : Nat) (f : Mon → Mon) : (s.modMon k f).datum = s.datum := rfl
@[simp] theorem State.modMon_ports (s : State) (k : Nat) (f : Mon → Mon) : (s.modMon k f).ports = s.ports := rfl
@[simp] theorem State.modMon_fab (s : State) (k : Nat) (f : Mon → Mon) : (s.modMon k f).fab = s.fab := rfl
@[simp] theorem State.modMon_sch (s : State) (k : Nat) (f : Mon → Mon) : (s.modMon k f).sch = s.sch := rfl
@[simp] theorem State.modMon_free (s : State) (k : Nat) (f : Mon → Mon) : (s.modMon k f).free = s.free := rfl
@[simp] theorem State.modMon_out (s : State) (k : Nat) (f : Mon → Mon) : (s.modMon k f).out = s.out := rfl
@[simp] theorem State.modMon_pending (s : State) (k : Nat) (f : Mon → Mon) : (s.modMon k f).pending = s.pending := rfl

/-! ## modGrp: a converter group -/

@[simp] theorem State.modGrp_grp_same (s : State) (k : Nat) (f : Grp → Grp) : (s.modGrp k f).grp k = f (s.grp k) :=
  Tbl.get_modify_same _ _ _ _
theorem State.modGrp_grp_ne (s : State) {k j : Nat} (f : Grp → Grp) (h : j ≠ k) : (s.modGrp k f).grp j = s.grp j :=
  Tbl.get_modify_ne _ _ _ h
@[simp] theorem State.modGrp_rd (s : State) (k : Nat) (f : Grp → Grp) (r : Fid) (i : Nat) :
    (s.modGrp k f).rd r i = s.rd r i := rfl
@[simp] theorem State.modGrp_regs (s : State) (k : Nat) (f : Grp → Grp) : (s.modGrp k f).regs = s.regs := rfl
@[simp] theorem State.modGrp_map (s : State) (k : Nat) (f : Grp → Grp) : (s.modGrp k f).map = s.map := rfl
@[simp] theorem State.modGrp_trv (s : State) (k : Nat) (f : Grp → Grp) : (s.modGrp k f).trv = s.trv := rfl
@[simp] theorem State.modGrp_stand (s : State) (k : Nat) (f : Grp → Grp) : (s.modGrp k f).stand = s.stand := rfl
@[simp] theorem State.modGrp_mbx (s : State) (k : Nat) (f : Grp → Grp) : (s.modGrp k f).mbx = s.mbx := rfl
@[simp] theorem State.modGrp_rings (s : State) (k : Nat) (f : Grp → Grp) : (s.modGrp k f).rings = s.rings := rfl
@[simp] theorem State.modGrp_host (s : State) (k : Nat) (f : Grp → Grp) : (s.modGrp k f).host = s.host := rfl
@[simp] theorem State.modGrp_flt (s : State) (k : Nat) (f : Grp → Grp) : (s.modGrp k f).flt = s.flt := rfl
@[simp] theorem State.modGrp_hkp (s : State) (k : Nat) (f : Grp → Grp) : (s.modGrp k f).hkp = s.hkp := rfl
@[simp] theorem State.modGrp_fbk (s : State) (k : Nat) (f : Grp → Grp) : (s.modGrp k f).fbk = s.fbk := rfl
@[simp] theorem State.modGrp_boot (s : State) (k : Nat) (f : Grp → Grp) : (s.modGrp k f).boot = s.boot := rfl
@[simp] theorem State.modGrp_datum (s : State) (k : Nat) (f : Grp → Grp) : (s.modGrp k f).datum = s.datum := rfl
@[simp] theorem State.modGrp_ports (s : State) (k : Nat) (f : Grp → Grp) : (s.modGrp k f).ports = s.ports := rfl
@[simp] theorem State.modGrp_fab (s : State) (k : Nat) (f : Grp → Grp) : (s.modGrp k f).fab = s.fab := rfl
@[simp] theorem State.modGrp_sch (s : State) (k : Nat) (f : Grp → Grp) : (s.modGrp k f).sch = s.sch := rfl
@[simp] theorem State.modGrp_free (s : State) (k : Nat) (f : Grp → Grp) : (s.modGrp k f).free = s.free := rfl
@[simp] theorem State.modGrp_out (s : State) (k : Nat) (f : Grp → Grp) : (s.modGrp k f).out = s.out := rfl
@[simp] theorem State.modGrp_pending (s : State) (k : Nat) (f : Grp → Grp) : (s.modGrp k f).pending = s.pending := rfl

/-! ## modCpt: a compartment -/

@[simp] theorem State.modCpt_cpt_same (s : State) (k : Nat) (f : Cpt → Cpt) : (s.modCpt k f).cpt k = f (s.cpt k) :=
  Tbl.get_modify_same _ _ _ _
theorem State.modCpt_cpt_ne (s : State) {k j : Nat} (f : Cpt → Cpt) (h : j ≠ k) : (s.modCpt k f).cpt j = s.cpt j :=
  Tbl.get_modify_ne _ _ _ h
@[simp] theorem State.modCpt_rd (s : State) (k : Nat) (f : Cpt → Cpt) (r : Fid) (i : Nat) :
    (s.modCpt k f).rd r i = s.rd r i := rfl
@[simp] theorem State.modCpt_regs (s : State) (k : Nat) (f : Cpt → Cpt) : (s.modCpt k f).regs = s.regs := rfl
@[simp] theorem State.modCpt_map (s : State) (k : Nat) (f : Cpt → Cpt) : (s.modCpt k f).map = s.map := rfl
@[simp] theorem State.modCpt_trv (s : State) (k : Nat) (f : Cpt → Cpt) : (s.modCpt k f).trv = s.trv := rfl
@[simp] theorem State.modCpt_stand (s : State) (k : Nat) (f : Cpt → Cpt) : (s.modCpt k f).stand = s.stand := rfl
@[simp] theorem State.modCpt_mbx (s : State) (k : Nat) (f : Cpt → Cpt) : (s.modCpt k f).mbx = s.mbx := rfl
@[simp] theorem State.modCpt_rings (s : State) (k : Nat) (f : Cpt → Cpt) : (s.modCpt k f).rings = s.rings := rfl
@[simp] theorem State.modCpt_host (s : State) (k : Nat) (f : Cpt → Cpt) : (s.modCpt k f).host = s.host := rfl
@[simp] theorem State.modCpt_flt (s : State) (k : Nat) (f : Cpt → Cpt) : (s.modCpt k f).flt = s.flt := rfl
@[simp] theorem State.modCpt_hkp (s : State) (k : Nat) (f : Cpt → Cpt) : (s.modCpt k f).hkp = s.hkp := rfl
@[simp] theorem State.modCpt_fbk (s : State) (k : Nat) (f : Cpt → Cpt) : (s.modCpt k f).fbk = s.fbk := rfl
@[simp] theorem State.modCpt_boot (s : State) (k : Nat) (f : Cpt → Cpt) : (s.modCpt k f).boot = s.boot := rfl
@[simp] theorem State.modCpt_datum (s : State) (k : Nat) (f : Cpt → Cpt) : (s.modCpt k f).datum = s.datum := rfl
@[simp] theorem State.modCpt_ports (s : State) (k : Nat) (f : Cpt → Cpt) : (s.modCpt k f).ports = s.ports := rfl
@[simp] theorem State.modCpt_fab (s : State) (k : Nat) (f : Cpt → Cpt) : (s.modCpt k f).fab = s.fab := rfl
@[simp] theorem State.modCpt_sch (s : State) (k : Nat) (f : Cpt → Cpt) : (s.modCpt k f).sch = s.sch := rfl
@[simp] theorem State.modCpt_free (s : State) (k : Nat) (f : Cpt → Cpt) : (s.modCpt k f).free = s.free := rfl
@[simp] theorem State.modCpt_out (s : State) (k : Nat) (f : Cpt → Cpt) : (s.modCpt k f).out = s.out := rfl
@[simp] theorem State.modCpt_pending (s : State) (k : Nat) (f : Cpt → Cpt) : (s.modCpt k f).pending = s.pending := rfl

/-! ## modHc: an H-mode channel -/

@[simp] theorem State.modHc_hc_same (s : State) (k : Nat) (f : HCh → HCh) : (s.modHc k f).hc k = f (s.hc k) :=
  Tbl.get_modify_same _ _ _ _
theorem State.modHc_hc_ne (s : State) {k j : Nat} (f : HCh → HCh) (h : j ≠ k) : (s.modHc k f).hc j = s.hc j :=
  Tbl.get_modify_ne _ _ _ h
@[simp] theorem State.modHc_rd (s : State) (k : Nat) (f : HCh → HCh) (r : Fid) (i : Nat) :
    (s.modHc k f).rd r i = s.rd r i := rfl
@[simp] theorem State.modHc_regs (s : State) (k : Nat) (f : HCh → HCh) : (s.modHc k f).regs = s.regs := rfl
@[simp] theorem State.modHc_map (s : State) (k : Nat) (f : HCh → HCh) : (s.modHc k f).map = s.map := rfl
@[simp] theorem State.modHc_trv (s : State) (k : Nat) (f : HCh → HCh) : (s.modHc k f).trv = s.trv := rfl
@[simp] theorem State.modHc_stand (s : State) (k : Nat) (f : HCh → HCh) : (s.modHc k f).stand = s.stand := rfl
@[simp] theorem State.modHc_mbx (s : State) (k : Nat) (f : HCh → HCh) : (s.modHc k f).mbx = s.mbx := rfl
@[simp] theorem State.modHc_rings (s : State) (k : Nat) (f : HCh → HCh) : (s.modHc k f).rings = s.rings := rfl
@[simp] theorem State.modHc_host (s : State) (k : Nat) (f : HCh → HCh) : (s.modHc k f).host = s.host := rfl
@[simp] theorem State.modHc_flt (s : State) (k : Nat) (f : HCh → HCh) : (s.modHc k f).flt = s.flt := rfl
@[simp] theorem State.modHc_hkp (s : State) (k : Nat) (f : HCh → HCh) : (s.modHc k f).hkp = s.hkp := rfl
@[simp] theorem State.modHc_fbk (s : State) (k : Nat) (f : HCh → HCh) : (s.modHc k f).fbk = s.fbk := rfl
@[simp] theorem State.modHc_boot (s : State) (k : Nat) (f : HCh → HCh) : (s.modHc k f).boot = s.boot := rfl
@[simp] theorem State.modHc_datum (s : State) (k : Nat) (f : HCh → HCh) : (s.modHc k f).datum = s.datum := rfl
@[simp] theorem State.modHc_ports (s : State) (k : Nat) (f : HCh → HCh) : (s.modHc k f).ports = s.ports := rfl
@[simp] theorem State.modHc_fab (s : State) (k : Nat) (f : HCh → HCh) : (s.modHc k f).fab = s.fab := rfl
@[simp] theorem State.modHc_sch (s : State) (k : Nat) (f : HCh → HCh) : (s.modHc k f).sch = s.sch := rfl
@[simp] theorem State.modHc_free (s : State) (k : Nat) (f : HCh → HCh) : (s.modHc k f).free = s.free := rfl
@[simp] theorem State.modHc_out (s : State) (k : Nat) (f : HCh → HCh) : (s.modHc k f).out = s.out := rfl
@[simp] theorem State.modHc_pending (s : State) (k : Nat) (f : HCh → HCh) : (s.modHc k f).pending = s.pending := rfl

/-! ## modOuter: an outer loop -/

@[simp] theorem State.modOuter_outer_same (s : State) (k : Nat) (f : Outer → Outer) : (s.modOuter k f).outer k = f (s.outer k) :=
  Tbl.get_modify_same _ _ _ _
theorem State.modOuter_outer_ne (s : State) {k j : Nat} (f : Outer → Outer) (h : j ≠ k) : (s.modOuter k f).outer j = s.outer j :=
  Tbl.get_modify_ne _ _ _ h
@[simp] theorem State.modOuter_rd (s : State) (k : Nat) (f : Outer → Outer) (r : Fid) (i : Nat) :
    (s.modOuter k f).rd r i = s.rd r i := rfl
@[simp] theorem State.modOuter_regs (s : State) (k : Nat) (f : Outer → Outer) : (s.modOuter k f).regs = s.regs := rfl
@[simp] theorem State.modOuter_map (s : State) (k : Nat) (f : Outer → Outer) : (s.modOuter k f).map = s.map := rfl
@[simp] theorem State.modOuter_trv (s : State) (k : Nat) (f : Outer → Outer) : (s.modOuter k f).trv = s.trv := rfl
@[simp] theorem State.modOuter_stand (s : State) (k : Nat) (f : Outer → Outer) : (s.modOuter k f).stand = s.stand := rfl
@[simp] theorem State.modOuter_mbx (s : State) (k : Nat) (f : Outer → Outer) : (s.modOuter k f).mbx = s.mbx := rfl
@[simp] theorem State.modOuter_rings (s : State) (k : Nat) (f : Outer → Outer) : (s.modOuter k f).rings = s.rings := rfl
@[simp] theorem State.modOuter_host (s : State) (k : Nat) (f : Outer → Outer) : (s.modOuter k f).host = s.host := rfl
@[simp] theorem State.modOuter_flt (s : State) (k : Nat) (f : Outer → Outer) : (s.modOuter k f).flt = s.flt := rfl
@[simp] theorem State.modOuter_hkp (s : State) (k : Nat) (f : Outer → Outer) : (s.modOuter k f).hkp = s.hkp := rfl
@[simp] theorem State.modOuter_fbk (s : State) (k : Nat) (f : Outer → Outer) : (s.modOuter k f).fbk = s.fbk := rfl
@[simp] theorem State.modOuter_boot (s : State) (k : Nat) (f : Outer → Outer) : (s.modOuter k f).boot = s.boot := rfl
@[simp] theorem State.modOuter_datum (s : State) (k : Nat) (f : Outer → Outer) : (s.modOuter k f).datum = s.datum := rfl
@[simp] theorem State.modOuter_ports (s : State) (k : Nat) (f : Outer → Outer) : (s.modOuter k f).ports = s.ports := rfl
@[simp] theorem State.modOuter_fab (s : State) (k : Nat) (f : Outer → Outer) : (s.modOuter k f).fab = s.fab := rfl
@[simp] theorem State.modOuter_sch (s : State) (k : Nat) (f : Outer → Outer) : (s.modOuter k f).sch = s.sch := rfl
@[simp] theorem State.modOuter_free (s : State) (k : Nat) (f : Outer → Outer) : (s.modOuter k f).free = s.free := rfl
@[simp] theorem State.modOuter_out (s : State) (k : Nat) (f : Outer → Outer) : (s.modOuter k f).out = s.out := rfl
@[simp] theorem State.modOuter_pending (s : State) (k : Nat) (f : Outer → Outer) : (s.modOuter k f).pending = s.pending := rfl

/-! ## modCal: a calibration record -/

@[simp] theorem State.modCal_calRec_same (s : State) (k : Nat) (f : ElCal → ElCal) : (s.modCal k f).calRec k = f (s.calRec k) :=
  Tbl.get_modify_same _ _ _ _
theorem State.modCal_calRec_ne (s : State) {k j : Nat} (f : ElCal → ElCal) (h : j ≠ k) : (s.modCal k f).calRec j = s.calRec j :=
  Tbl.get_modify_ne _ _ _ h
@[simp] theorem State.modCal_rd (s : State) (k : Nat) (f : ElCal → ElCal) (r : Fid) (i : Nat) :
    (s.modCal k f).rd r i = s.rd r i := rfl
@[simp] theorem State.modCal_regs (s : State) (k : Nat) (f : ElCal → ElCal) : (s.modCal k f).regs = s.regs := rfl
@[simp] theorem State.modCal_map (s : State) (k : Nat) (f : ElCal → ElCal) : (s.modCal k f).map = s.map := rfl
@[simp] theorem State.modCal_trv (s : State) (k : Nat) (f : ElCal → ElCal) : (s.modCal k f).trv = s.trv := rfl
@[simp] theorem State.modCal_stand (s : State) (k : Nat) (f : ElCal → ElCal) : (s.modCal k f).stand = s.stand := rfl
@[simp] theorem State.modCal_mbx (s : State) (k : Nat) (f : ElCal → ElCal) : (s.modCal k f).mbx = s.mbx := rfl
@[simp] theorem State.modCal_rings (s : State) (k : Nat) (f : ElCal → ElCal) : (s.modCal k f).rings = s.rings := rfl
@[simp] theorem State.modCal_host (s : State) (k : Nat) (f : ElCal → ElCal) : (s.modCal k f).host = s.host := rfl
@[simp] theorem State.modCal_flt (s : State) (k : Nat) (f : ElCal → ElCal) : (s.modCal k f).flt = s.flt := rfl
@[simp] theorem State.modCal_hkp (s : State) (k : Nat) (f : ElCal → ElCal) : (s.modCal k f).hkp = s.hkp := rfl
@[simp] theorem State.modCal_fbk (s : State) (k : Nat) (f : ElCal → ElCal) : (s.modCal k f).fbk = s.fbk := rfl
@[simp] theorem State.modCal_boot (s : State) (k : Nat) (f : ElCal → ElCal) : (s.modCal k f).boot = s.boot := rfl
@[simp] theorem State.modCal_datum (s : State) (k : Nat) (f : ElCal → ElCal) : (s.modCal k f).datum = s.datum := rfl
@[simp] theorem State.modCal_ports (s : State) (k : Nat) (f : ElCal → ElCal) : (s.modCal k f).ports = s.ports := rfl
@[simp] theorem State.modCal_fab (s : State) (k : Nat) (f : ElCal → ElCal) : (s.modCal k f).fab = s.fab := rfl
@[simp] theorem State.modCal_sch (s : State) (k : Nat) (f : ElCal → ElCal) : (s.modCal k f).sch = s.sch := rfl
@[simp] theorem State.modCal_free (s : State) (k : Nat) (f : ElCal → ElCal) : (s.modCal k f).free = s.free := rfl
@[simp] theorem State.modCal_out (s : State) (k : Nat) (f : ElCal → ElCal) : (s.modCal k f).out = s.out := rfl
@[simp] theorem State.modCal_pending (s : State) (k : Nat) (f : ElCal → ElCal) : (s.modCal k f).pending = s.pending := rfl

/-! ## modSvc: the service of a compartment -/

@[simp] theorem State.modSvc_svc_same (s : State) (k : Nat) (f : Svc → Svc) : (s.modSvc k f).svc k = f (s.svc k) :=
  Tbl.get_modify_same _ _ _ _
theorem State.modSvc_svc_ne (s : State) {k j : Nat} (f : Svc → Svc) (h : j ≠ k) : (s.modSvc k f).svc j = s.svc j :=
  Tbl.get_modify_ne _ _ _ h
@[simp] theorem State.modSvc_rd (s : State) (k : Nat) (f : Svc → Svc) (r : Fid) (i : Nat) :
    (s.modSvc k f).rd r i = s.rd r i := rfl
@[simp] theorem State.modSvc_regs (s : State) (k : Nat) (f : Svc → Svc) : (s.modSvc k f).regs = s.regs := rfl
@[simp] theorem State.modSvc_map (s : State) (k : Nat) (f : Svc → Svc) : (s.modSvc k f).map = s.map := rfl
@[simp] theorem State.modSvc_loop (s : State) (k : Nat) (f : Svc → Svc) : (s.modSvc k f).loop = s.loop := rfl
@[simp] theorem State.modSvc_trv (s : State) (k : Nat) (f : Svc → Svc) : (s.modSvc k f).trv = s.trv := rfl
@[simp] theorem State.modSvc_mbx (s : State) (k : Nat) (f : Svc → Svc) : (s.modSvc k f).mbx = s.mbx := rfl
@[simp] theorem State.modSvc_rings (s : State) (k : Nat) (f : Svc → Svc) : (s.modSvc k f).rings = s.rings := rfl
@[simp] theorem State.modSvc_host (s : State) (k : Nat) (f : Svc → Svc) : (s.modSvc k f).host = s.host := rfl
@[simp] theorem State.modSvc_flt (s : State) (k : Nat) (f : Svc → Svc) : (s.modSvc k f).flt = s.flt := rfl
@[simp] theorem State.modSvc_hkp (s : State) (k : Nat) (f : Svc → Svc) : (s.modSvc k f).hkp = s.hkp := rfl
@[simp] theorem State.modSvc_fbk (s : State) (k : Nat) (f : Svc → Svc) : (s.modSvc k f).fbk = s.fbk := rfl
@[simp] theorem State.modSvc_boot (s : State) (k : Nat) (f : Svc → Svc) : (s.modSvc k f).boot = s.boot := rfl
@[simp] theorem State.modSvc_datum (s : State) (k : Nat) (f : Svc → Svc) : (s.modSvc k f).datum = s.datum := rfl
@[simp] theorem State.modSvc_ports (s : State) (k : Nat) (f : Svc → Svc) : (s.modSvc k f).ports = s.ports := rfl
@[simp] theorem State.modSvc_fab (s : State) (k : Nat) (f : Svc → Svc) : (s.modSvc k f).fab = s.fab := rfl
@[simp] theorem State.modSvc_sch (s : State) (k : Nat) (f : Svc → Svc) : (s.modSvc k f).sch = s.sch := rfl
@[simp] theorem State.modSvc_free (s : State) (k : Nat) (f : Svc → Svc) : (s.modSvc k f).free = s.free := rfl
@[simp] theorem State.modSvc_out (s : State) (k : Nat) (f : Svc → Svc) : (s.modSvc k f).out = s.out := rfl
@[simp] theorem State.modSvc_pending (s : State) (k : Nat) (f : Svc → Svc) : (s.modSvc k f).pending = s.pending := rfl

/-! ## modPp: a PTP port -/

@[simp] theorem State.modPp_pp_same (s : State) (k : Nat) (f : PtpPort → PtpPort) : (s.modPp k f).pp k = f (s.pp k) :=
  Tbl.get_modify_same _ _ _ _
theorem State.modPp_pp_ne (s : State) {k j : Nat} (f : PtpPort → PtpPort) (h : j ≠ k) : (s.modPp k f).pp j = s.pp j :=
  Tbl.get_modify_ne _ _ _ h
@[simp] theorem State.modPp_rd (s : State) (k : Nat) (f : PtpPort → PtpPort) (r : Fid) (i : Nat) :
    (s.modPp k f).rd r i = s.rd r i := rfl
@[simp] theorem State.modPp_regs (s : State) (k : Nat) (f : PtpPort → PtpPort) : (s.modPp k f).regs = s.regs := rfl
@[simp] theorem State.modPp_map (s : State) (k : Nat) (f : PtpPort → PtpPort) : (s.modPp k f).map = s.map := rfl
@[simp] theorem State.modPp_loop (s : State) (k : Nat) (f : PtpPort → PtpPort) : (s.modPp k f).loop = s.loop := rfl
@[simp] theorem State.modPp_trv (s : State) (k : Nat) (f : PtpPort → PtpPort) : (s.modPp k f).trv = s.trv := rfl
@[simp] theorem State.modPp_stand (s : State) (k : Nat) (f : PtpPort → PtpPort) : (s.modPp k f).stand = s.stand := rfl
@[simp] theorem State.modPp_mbx (s : State) (k : Nat) (f : PtpPort → PtpPort) : (s.modPp k f).mbx = s.mbx := rfl
@[simp] theorem State.modPp_rings (s : State) (k : Nat) (f : PtpPort → PtpPort) : (s.modPp k f).rings = s.rings := rfl
@[simp] theorem State.modPp_host (s : State) (k : Nat) (f : PtpPort → PtpPort) : (s.modPp k f).host = s.host := rfl
@[simp] theorem State.modPp_flt (s : State) (k : Nat) (f : PtpPort → PtpPort) : (s.modPp k f).flt = s.flt := rfl
@[simp] theorem State.modPp_hkp (s : State) (k : Nat) (f : PtpPort → PtpPort) : (s.modPp k f).hkp = s.hkp := rfl
@[simp] theorem State.modPp_fbk (s : State) (k : Nat) (f : PtpPort → PtpPort) : (s.modPp k f).fbk = s.fbk := rfl
@[simp] theorem State.modPp_boot (s : State) (k : Nat) (f : PtpPort → PtpPort) : (s.modPp k f).boot = s.boot := rfl
@[simp] theorem State.modPp_ports (s : State) (k : Nat) (f : PtpPort → PtpPort) : (s.modPp k f).ports = s.ports := rfl
@[simp] theorem State.modPp_fab (s : State) (k : Nat) (f : PtpPort → PtpPort) : (s.modPp k f).fab = s.fab := rfl
@[simp] theorem State.modPp_sch (s : State) (k : Nat) (f : PtpPort → PtpPort) : (s.modPp k f).sch = s.sch := rfl
@[simp] theorem State.modPp_free (s : State) (k : Nat) (f : PtpPort → PtpPort) : (s.modPp k f).free = s.free := rfl
@[simp] theorem State.modPp_out (s : State) (k : Nat) (f : PtpPort → PtpPort) : (s.modPp k f).out = s.out := rfl
@[simp] theorem State.modPp_pending (s : State) (k : Nat) (f : PtpPort → PtpPort) : (s.modPp k f).pending = s.pending := rfl

/-! ## modTrig: a TRIG pin -/

@[simp] theorem State.modTrig_trig_same (s : State) (k : Nat) (f : Trig → Trig) : (s.modTrig k f).trig k = f (s.trig k) :=
  Tbl.get_modify_same _ _ _ _
theorem State.modTrig_trig_ne (s : State) {k j : Nat} (f : Trig → Trig) (h : j ≠ k) : (s.modTrig k f).trig j = s.trig j :=
  Tbl.get_modify_ne _ _ _ h
@[simp] theorem State.modTrig_rd (s : State) (k : Nat) (f : Trig → Trig) (r : Fid) (i : Nat) :
    (s.modTrig k f).rd r i = s.rd r i := rfl
@[simp] theorem State.modTrig_regs (s : State) (k : Nat) (f : Trig → Trig) : (s.modTrig k f).regs = s.regs := rfl
@[simp] theorem State.modTrig_map (s : State) (k : Nat) (f : Trig → Trig) : (s.modTrig k f).map = s.map := rfl
@[simp] theorem State.modTrig_loop (s : State) (k : Nat) (f : Trig → Trig) : (s.modTrig k f).loop = s.loop := rfl
@[simp] theorem State.modTrig_trv (s : State) (k : Nat) (f : Trig → Trig) : (s.modTrig k f).trv = s.trv := rfl
@[simp] theorem State.modTrig_stand (s : State) (k : Nat) (f : Trig → Trig) : (s.modTrig k f).stand = s.stand := rfl
@[simp] theorem State.modTrig_mbx (s : State) (k : Nat) (f : Trig → Trig) : (s.modTrig k f).mbx = s.mbx := rfl
@[simp] theorem State.modTrig_rings (s : State) (k : Nat) (f : Trig → Trig) : (s.modTrig k f).rings = s.rings := rfl
@[simp] theorem State.modTrig_host (s : State) (k : Nat) (f : Trig → Trig) : (s.modTrig k f).host = s.host := rfl
@[simp] theorem State.modTrig_flt (s : State) (k : Nat) (f : Trig → Trig) : (s.modTrig k f).flt = s.flt := rfl
@[simp] theorem State.modTrig_hkp (s : State) (k : Nat) (f : Trig → Trig) : (s.modTrig k f).hkp = s.hkp := rfl
@[simp] theorem State.modTrig_fbk (s : State) (k : Nat) (f : Trig → Trig) : (s.modTrig k f).fbk = s.fbk := rfl
@[simp] theorem State.modTrig_boot (s : State) (k : Nat) (f : Trig → Trig) : (s.modTrig k f).boot = s.boot := rfl
@[simp] theorem State.modTrig_ports (s : State) (k : Nat) (f : Trig → Trig) : (s.modTrig k f).ports = s.ports := rfl
@[simp] theorem State.modTrig_fab (s : State) (k : Nat) (f : Trig → Trig) : (s.modTrig k f).fab = s.fab := rfl
@[simp] theorem State.modTrig_sch (s : State) (k : Nat) (f : Trig → Trig) : (s.modTrig k f).sch = s.sch := rfl
@[simp] theorem State.modTrig_free (s : State) (k : Nat) (f : Trig → Trig) : (s.modTrig k f).free = s.free := rfl
@[simp] theorem State.modTrig_out (s : State) (k : Nat) (f : Trig → Trig) : (s.modTrig k f).out = s.out := rfl
@[simp] theorem State.modTrig_pending (s : State) (k : Nat) (f : Trig → Trig) : (s.modTrig k f).pending = s.pending := rfl

/-! ## modPort: a chain port -/

@[simp] theorem State.modPort_port_same (s : State) (k : Nat) (f : Port → Port) : (s.modPort k f).port k = f (s.port k) :=
  Tbl.get_modify_same _ _ _ _
theorem State.modPort_port_ne (s : State) {k j : Nat} (f : Port → Port) (h : j ≠ k) : (s.modPort k f).port j = s.port j :=
  Tbl.get_modify_ne _ _ _ h
@[simp] theorem State.modPort_rd (s : State) (k : Nat) (f : Port → Port) (r : Fid) (i : Nat) :
    (s.modPort k f).rd r i = s.rd r i := rfl
@[simp] theorem State.modPort_regs (s : State) (k : Nat) (f : Port → Port) : (s.modPort k f).regs = s.regs := rfl
@[simp] theorem State.modPort_map (s : State) (k : Nat) (f : Port → Port) : (s.modPort k f).map = s.map := rfl
@[simp] theorem State.modPort_loop (s : State) (k : Nat) (f : Port → Port) : (s.modPort k f).loop = s.loop := rfl
@[simp] theorem State.modPort_trv (s : State) (k : Nat) (f : Port → Port) : (s.modPort k f).trv = s.trv := rfl
@[simp] theorem State.modPort_stand (s : State) (k : Nat) (f : Port → Port) : (s.modPort k f).stand = s.stand := rfl
@[simp] theorem State.modPort_mbx (s : State) (k : Nat) (f : Port → Port) : (s.modPort k f).mbx = s.mbx := rfl
@[simp] theorem State.modPort_rings (s : State) (k : Nat) (f : Port → Port) : (s.modPort k f).rings = s.rings := rfl
@[simp] theorem State.modPort_host (s : State) (k : Nat) (f : Port → Port) : (s.modPort k f).host = s.host := rfl
@[simp] theorem State.modPort_flt (s : State) (k : Nat) (f : Port → Port) : (s.modPort k f).flt = s.flt := rfl
@[simp] theorem State.modPort_hkp (s : State) (k : Nat) (f : Port → Port) : (s.modPort k f).hkp = s.hkp := rfl
@[simp] theorem State.modPort_fbk (s : State) (k : Nat) (f : Port → Port) : (s.modPort k f).fbk = s.fbk := rfl
@[simp] theorem State.modPort_boot (s : State) (k : Nat) (f : Port → Port) : (s.modPort k f).boot = s.boot := rfl
@[simp] theorem State.modPort_datum (s : State) (k : Nat) (f : Port → Port) : (s.modPort k f).datum = s.datum := rfl
@[simp] theorem State.modPort_fab (s : State) (k : Nat) (f : Port → Port) : (s.modPort k f).fab = s.fab := rfl
@[simp] theorem State.modPort_sch (s : State) (k : Nat) (f : Port → Port) : (s.modPort k f).sch = s.sch := rfl
@[simp] theorem State.modPort_free (s : State) (k : Nat) (f : Port → Port) : (s.modPort k f).free = s.free := rfl
@[simp] theorem State.modPort_out (s : State) (k : Nat) (f : Port → Port) : (s.modPort k f).out = s.out := rfl
@[simp] theorem State.modPort_pending (s : State) (k : Nat) (f : Port → Port) : (s.modPort k f).pending = s.pending := rfl

/-! ## modSp: the scheduler of a port -/

@[simp] theorem State.modSp_sp_same (s : State) (k : Nat) (f : SchPort → SchPort) : (s.modSp k f).sp k = f (s.sp k) :=
  Tbl.get_modify_same _ _ _ _
theorem State.modSp_sp_ne (s : State) {k j : Nat} (f : SchPort → SchPort) (h : j ≠ k) : (s.modSp k f).sp j = s.sp j :=
  Tbl.get_modify_ne _ _ _ h
@[simp] theorem State.modSp_rd (s : State) (k : Nat) (f : SchPort → SchPort) (r : Fid) (i : Nat) :
    (s.modSp k f).rd r i = s.rd r i := rfl
@[simp] theorem State.modSp_regs (s : State) (k : Nat) (f : SchPort → SchPort) : (s.modSp k f).regs = s.regs := rfl
@[simp] theorem State.modSp_map (s : State) (k : Nat) (f : SchPort → SchPort) : (s.modSp k f).map = s.map := rfl
@[simp] theorem State.modSp_loop (s : State) (k : Nat) (f : SchPort → SchPort) : (s.modSp k f).loop = s.loop := rfl
@[simp] theorem State.modSp_trv (s : State) (k : Nat) (f : SchPort → SchPort) : (s.modSp k f).trv = s.trv := rfl
@[simp] theorem State.modSp_stand (s : State) (k : Nat) (f : SchPort → SchPort) : (s.modSp k f).stand = s.stand := rfl
@[simp] theorem State.modSp_mbx (s : State) (k : Nat) (f : SchPort → SchPort) : (s.modSp k f).mbx = s.mbx := rfl
@[simp] theorem State.modSp_rings (s : State) (k : Nat) (f : SchPort → SchPort) : (s.modSp k f).rings = s.rings := rfl
@[simp] theorem State.modSp_host (s : State) (k : Nat) (f : SchPort → SchPort) : (s.modSp k f).host = s.host := rfl
@[simp] theorem State.modSp_flt (s : State) (k : Nat) (f : SchPort → SchPort) : (s.modSp k f).flt = s.flt := rfl
@[simp] theorem State.modSp_hkp (s : State) (k : Nat) (f : SchPort → SchPort) : (s.modSp k f).hkp = s.hkp := rfl
@[simp] theorem State.modSp_fbk (s : State) (k : Nat) (f : SchPort → SchPort) : (s.modSp k f).fbk = s.fbk := rfl
@[simp] theorem State.modSp_boot (s : State) (k : Nat) (f : SchPort → SchPort) : (s.modSp k f).boot = s.boot := rfl
@[simp] theorem State.modSp_datum (s : State) (k : Nat) (f : SchPort → SchPort) : (s.modSp k f).datum = s.datum := rfl
@[simp] theorem State.modSp_ports (s : State) (k : Nat) (f : SchPort → SchPort) : (s.modSp k f).ports = s.ports := rfl
@[simp] theorem State.modSp_fab (s : State) (k : Nat) (f : SchPort → SchPort) : (s.modSp k f).fab = s.fab := rfl
@[simp] theorem State.modSp_free (s : State) (k : Nat) (f : SchPort → SchPort) : (s.modSp k f).free = s.free := rfl
@[simp] theorem State.modSp_out (s : State) (k : Nat) (f : SchPort → SchPort) : (s.modSp k f).out = s.out := rfl
@[simp] theorem State.modSp_pending (s : State) (k : Nat) (f : SchPort → SchPort) : (s.modSp k f).pending = s.pending := rfl

/-! ## modPair: a safety input pair -/

@[simp] theorem State.modPair_fpair_same (s : State) (k : Nat) (f : FPair → FPair) : (s.modPair k f).fpair k = f (s.fpair k) :=
  Tbl.get_modify_same _ _ _ _
theorem State.modPair_fpair_ne (s : State) {k j : Nat} (f : FPair → FPair) (h : j ≠ k) : (s.modPair k f).fpair j = s.fpair j :=
  Tbl.get_modify_ne _ _ _ h
@[simp] theorem State.modPair_rd (s : State) (k : Nat) (f : FPair → FPair) (r : Fid) (i : Nat) :
    (s.modPair k f).rd r i = s.rd r i := rfl
@[simp] theorem State.modPair_regs (s : State) (k : Nat) (f : FPair → FPair) : (s.modPair k f).regs = s.regs := rfl
@[simp] theorem State.modPair_map (s : State) (k : Nat) (f : FPair → FPair) : (s.modPair k f).map = s.map := rfl
@[simp] theorem State.modPair_loop (s : State) (k : Nat) (f : FPair → FPair) : (s.modPair k f).loop = s.loop := rfl
@[simp] theorem State.modPair_trv (s : State) (k : Nat) (f : FPair → FPair) : (s.modPair k f).trv = s.trv := rfl
@[simp] theorem State.modPair_stand (s : State) (k : Nat) (f : FPair → FPair) : (s.modPair k f).stand = s.stand := rfl
@[simp] theorem State.modPair_mbx (s : State) (k : Nat) (f : FPair → FPair) : (s.modPair k f).mbx = s.mbx := rfl
@[simp] theorem State.modPair_rings (s : State) (k : Nat) (f : FPair → FPair) : (s.modPair k f).rings = s.rings := rfl
@[simp] theorem State.modPair_host (s : State) (k : Nat) (f : FPair → FPair) : (s.modPair k f).host = s.host := rfl
@[simp] theorem State.modPair_flt (s : State) (k : Nat) (f : FPair → FPair) : (s.modPair k f).flt = s.flt := rfl
@[simp] theorem State.modPair_hkp (s : State) (k : Nat) (f : FPair → FPair) : (s.modPair k f).hkp = s.hkp := rfl
@[simp] theorem State.modPair_boot (s : State) (k : Nat) (f : FPair → FPair) : (s.modPair k f).boot = s.boot := rfl
@[simp] theorem State.modPair_datum (s : State) (k : Nat) (f : FPair → FPair) : (s.modPair k f).datum = s.datum := rfl
@[simp] theorem State.modPair_ports (s : State) (k : Nat) (f : FPair → FPair) : (s.modPair k f).ports = s.ports := rfl
@[simp] theorem State.modPair_fab (s : State) (k : Nat) (f : FPair → FPair) : (s.modPair k f).fab = s.fab := rfl
@[simp] theorem State.modPair_sch (s : State) (k : Nat) (f : FPair → FPair) : (s.modPair k f).sch = s.sch := rfl
@[simp] theorem State.modPair_free (s : State) (k : Nat) (f : FPair → FPair) : (s.modPair k f).free = s.free := rfl
@[simp] theorem State.modPair_out (s : State) (k : Nat) (f : FPair → FPair) : (s.modPair k f).out = s.out := rfl
@[simp] theorem State.modPair_pending (s : State) (k : Nat) (f : FPair → FPair) : (s.modPair k f).pending = s.pending := rfl

/-! ## modLoop -/

@[simp] theorem State.modLoop_rd (s : State) (f : LoopSt → LoopSt) (r : Fid) (i : Nat) : (s.modLoop f).rd r i = s.rd r i := rfl
@[simp] theorem State.modLoop_regs (s : State) (f : LoopSt → LoopSt) : (s.modLoop f).regs = s.regs := rfl
@[simp] theorem State.modLoop_map (s : State) (f : LoopSt → LoopSt) : (s.modLoop f).map = s.map := rfl
@[simp] theorem State.modLoop_loop (s : State) (f : LoopSt → LoopSt) : (s.modLoop f).loop = f s.loop := rfl
@[simp] theorem State.modLoop_trv (s : State) (f : LoopSt → LoopSt) : (s.modLoop f).trv = s.trv := rfl
@[simp] theorem State.modLoop_stand (s : State) (f : LoopSt → LoopSt) : (s.modLoop f).stand = s.stand := rfl
@[simp] theorem State.modLoop_mbx (s : State) (f : LoopSt → LoopSt) : (s.modLoop f).mbx = s.mbx := rfl
@[simp] theorem State.modLoop_rings (s : State) (f : LoopSt → LoopSt) : (s.modLoop f).rings = s.rings := rfl
@[simp] theorem State.modLoop_host (s : State) (f : LoopSt → LoopSt) : (s.modLoop f).host = s.host := rfl
@[simp] theorem State.modLoop_flt (s : State) (f : LoopSt → LoopSt) : (s.modLoop f).flt = s.flt := rfl
@[simp] theorem State.modLoop_hkp (s : State) (f : LoopSt → LoopSt) : (s.modLoop f).hkp = s.hkp := rfl
@[simp] theorem State.modLoop_fbk (s : State) (f : LoopSt → LoopSt) : (s.modLoop f).fbk = s.fbk := rfl
@[simp] theorem State.modLoop_boot (s : State) (f : LoopSt → LoopSt) : (s.modLoop f).boot = s.boot := rfl
@[simp] theorem State.modLoop_datum (s : State) (f : LoopSt → LoopSt) : (s.modLoop f).datum = s.datum := rfl
@[simp] theorem State.modLoop_ports (s : State) (f : LoopSt → LoopSt) : (s.modLoop f).ports = s.ports := rfl
@[simp] theorem State.modLoop_fab (s : State) (f : LoopSt → LoopSt) : (s.modLoop f).fab = s.fab := rfl
@[simp] theorem State.modLoop_sch (s : State) (f : LoopSt → LoopSt) : (s.modLoop f).sch = s.sch := rfl
@[simp] theorem State.modLoop_free (s : State) (f : LoopSt → LoopSt) : (s.modLoop f).free = s.free := rfl
@[simp] theorem State.modLoop_out (s : State) (f : LoopSt → LoopSt) : (s.modLoop f).out = s.out := rfl
@[simp] theorem State.modLoop_pending (s : State) (f : LoopSt → LoopSt) : (s.modLoop f).pending = s.pending := rfl

/-! ## modTrv -/

@[simp] theorem State.modTrv_rd (s : State) (f : TrvSt → TrvSt) (r : Fid) (i : Nat) : (s.modTrv f).rd r i = s.rd r i := rfl
@[simp] theorem State.modTrv_regs (s : State) (f : TrvSt → TrvSt) : (s.modTrv f).regs = s.regs := rfl
@[simp] theorem State.modTrv_map (s : State) (f : TrvSt → TrvSt) : (s.modTrv f).map = s.map := rfl
@[simp] theorem State.modTrv_loop (s : State) (f : TrvSt → TrvSt) : (s.modTrv f).loop = s.loop := rfl
@[simp] theorem State.modTrv_trv (s : State) (f : TrvSt → TrvSt) : (s.modTrv f).trv = f s.trv := rfl
@[simp] theorem State.modTrv_stand (s : State) (f : TrvSt → TrvSt) : (s.modTrv f).stand = s.stand := rfl
@[simp] theorem State.modTrv_mbx (s : State) (f : TrvSt → TrvSt) : (s.modTrv f).mbx = s.mbx := rfl
@[simp] theorem State.modTrv_rings (s : State) (f : TrvSt → TrvSt) : (s.modTrv f).rings = s.rings := rfl
@[simp] theorem State.modTrv_host (s : State) (f : TrvSt → TrvSt) : (s.modTrv f).host = s.host := rfl
@[simp] theorem State.modTrv_flt (s : State) (f : TrvSt → TrvSt) : (s.modTrv f).flt = s.flt := rfl
@[simp] theorem State.modTrv_hkp (s : State) (f : TrvSt → TrvSt) : (s.modTrv f).hkp = s.hkp := rfl
@[simp] theorem State.modTrv_fbk (s : State) (f : TrvSt → TrvSt) : (s.modTrv f).fbk = s.fbk := rfl
@[simp] theorem State.modTrv_boot (s : State) (f : TrvSt → TrvSt) : (s.modTrv f).boot = s.boot := rfl
@[simp] theorem State.modTrv_datum (s : State) (f : TrvSt → TrvSt) : (s.modTrv f).datum = s.datum := rfl
@[simp] theorem State.modTrv_ports (s : State) (f : TrvSt → TrvSt) : (s.modTrv f).ports = s.ports := rfl
@[simp] theorem State.modTrv_fab (s : State) (f : TrvSt → TrvSt) : (s.modTrv f).fab = s.fab := rfl
@[simp] theorem State.modTrv_sch (s : State) (f : TrvSt → TrvSt) : (s.modTrv f).sch = s.sch := rfl
@[simp] theorem State.modTrv_free (s : State) (f : TrvSt → TrvSt) : (s.modTrv f).free = s.free := rfl
@[simp] theorem State.modTrv_out (s : State) (f : TrvSt → TrvSt) : (s.modTrv f).out = s.out := rfl
@[simp] theorem State.modTrv_pending (s : State) (f : TrvSt → TrvSt) : (s.modTrv f).pending = s.pending := rfl

/-! ## modStand -/

@[simp] theorem State.modStand_rd (s : State) (f : StandSt → StandSt) (r : Fid) (i : Nat) : (s.modStand f).rd r i = s.rd r i := rfl
@[simp] theorem State.modStand_regs (s : State) (f : StandSt → StandSt) : (s.modStand f).regs = s.regs := rfl
@[simp] theorem State.modStand_map (s : State) (f : StandSt → StandSt) : (s.modStand f).map = s.map := rfl
@[simp] theorem State.modStand_loop (s : State) (f : StandSt → StandSt) : (s.modStand f).loop = s.loop := rfl
@[simp] theorem State.modStand_trv (s : State) (f : StandSt → StandSt) : (s.modStand f).trv = s.trv := rfl
@[simp] theorem State.modStand_stand (s : State) (f : StandSt → StandSt) : (s.modStand f).stand = f s.stand := rfl
@[simp] theorem State.modStand_mbx (s : State) (f : StandSt → StandSt) : (s.modStand f).mbx = s.mbx := rfl
@[simp] theorem State.modStand_rings (s : State) (f : StandSt → StandSt) : (s.modStand f).rings = s.rings := rfl
@[simp] theorem State.modStand_host (s : State) (f : StandSt → StandSt) : (s.modStand f).host = s.host := rfl
@[simp] theorem State.modStand_flt (s : State) (f : StandSt → StandSt) : (s.modStand f).flt = s.flt := rfl
@[simp] theorem State.modStand_hkp (s : State) (f : StandSt → StandSt) : (s.modStand f).hkp = s.hkp := rfl
@[simp] theorem State.modStand_fbk (s : State) (f : StandSt → StandSt) : (s.modStand f).fbk = s.fbk := rfl
@[simp] theorem State.modStand_boot (s : State) (f : StandSt → StandSt) : (s.modStand f).boot = s.boot := rfl
@[simp] theorem State.modStand_datum (s : State) (f : StandSt → StandSt) : (s.modStand f).datum = s.datum := rfl
@[simp] theorem State.modStand_ports (s : State) (f : StandSt → StandSt) : (s.modStand f).ports = s.ports := rfl
@[simp] theorem State.modStand_fab (s : State) (f : StandSt → StandSt) : (s.modStand f).fab = s.fab := rfl
@[simp] theorem State.modStand_sch (s : State) (f : StandSt → StandSt) : (s.modStand f).sch = s.sch := rfl
@[simp] theorem State.modStand_free (s : State) (f : StandSt → StandSt) : (s.modStand f).free = s.free := rfl
@[simp] theorem State.modStand_out (s : State) (f : StandSt → StandSt) : (s.modStand f).out = s.out := rfl
@[simp] theorem State.modStand_pending (s : State) (f : StandSt → StandSt) : (s.modStand f).pending = s.pending := rfl

/-! ## modFab -/

@[simp] theorem State.modFab_rd (s : State) (f : FabSt → FabSt) (r : Fid) (i : Nat) : (s.modFab f).rd r i = s.rd r i := rfl
@[simp] theorem State.modFab_regs (s : State) (f : FabSt → FabSt) : (s.modFab f).regs = s.regs := rfl
@[simp] theorem State.modFab_map (s : State) (f : FabSt → FabSt) : (s.modFab f).map = s.map := rfl
@[simp] theorem State.modFab_loop (s : State) (f : FabSt → FabSt) : (s.modFab f).loop = s.loop := rfl
@[simp] theorem State.modFab_trv (s : State) (f : FabSt → FabSt) : (s.modFab f).trv = s.trv := rfl
@[simp] theorem State.modFab_stand (s : State) (f : FabSt → FabSt) : (s.modFab f).stand = s.stand := rfl
@[simp] theorem State.modFab_mbx (s : State) (f : FabSt → FabSt) : (s.modFab f).mbx = s.mbx := rfl
@[simp] theorem State.modFab_rings (s : State) (f : FabSt → FabSt) : (s.modFab f).rings = s.rings := rfl
@[simp] theorem State.modFab_host (s : State) (f : FabSt → FabSt) : (s.modFab f).host = s.host := rfl
@[simp] theorem State.modFab_flt (s : State) (f : FabSt → FabSt) : (s.modFab f).flt = s.flt := rfl
@[simp] theorem State.modFab_hkp (s : State) (f : FabSt → FabSt) : (s.modFab f).hkp = s.hkp := rfl
@[simp] theorem State.modFab_fbk (s : State) (f : FabSt → FabSt) : (s.modFab f).fbk = s.fbk := rfl
@[simp] theorem State.modFab_boot (s : State) (f : FabSt → FabSt) : (s.modFab f).boot = s.boot := rfl
@[simp] theorem State.modFab_datum (s : State) (f : FabSt → FabSt) : (s.modFab f).datum = s.datum := rfl
@[simp] theorem State.modFab_ports (s : State) (f : FabSt → FabSt) : (s.modFab f).ports = s.ports := rfl
@[simp] theorem State.modFab_fab (s : State) (f : FabSt → FabSt) : (s.modFab f).fab = f s.fab := rfl
@[simp] theorem State.modFab_sch (s : State) (f : FabSt → FabSt) : (s.modFab f).sch = s.sch := rfl
@[simp] theorem State.modFab_free (s : State) (f : FabSt → FabSt) : (s.modFab f).free = s.free := rfl
@[simp] theorem State.modFab_out (s : State) (f : FabSt → FabSt) : (s.modFab f).out = s.out := rfl
@[simp] theorem State.modFab_pending (s : State) (f : FabSt → FabSt) : (s.modFab f).pending = s.pending := rfl

/-! ## modFbk -/

@[simp] theorem State.modFbk_rd (s : State) (f : FbkSt → FbkSt) (r : Fid) (i : Nat) : (s.modFbk f).rd r i = s.rd r i := rfl
@[simp] theorem State.modFbk_regs (s : State) (f : FbkSt → FbkSt) : (s.modFbk f).regs = s.regs := rfl
@[simp] theorem State.modFbk_map (s : State) (f : FbkSt → FbkSt) : (s.modFbk f).map = s.map := rfl
@[simp] theorem State.modFbk_loop (s : State) (f : FbkSt → FbkSt) : (s.modFbk f).loop = s.loop := rfl
@[simp] theorem State.modFbk_trv (s : State) (f : FbkSt → FbkSt) : (s.modFbk f).trv = s.trv := rfl
@[simp] theorem State.modFbk_stand (s : State) (f : FbkSt → FbkSt) : (s.modFbk f).stand = s.stand := rfl
@[simp] theorem State.modFbk_mbx (s : State) (f : FbkSt → FbkSt) : (s.modFbk f).mbx = s.mbx := rfl
@[simp] theorem State.modFbk_rings (s : State) (f : FbkSt → FbkSt) : (s.modFbk f).rings = s.rings := rfl
@[simp] theorem State.modFbk_host (s : State) (f : FbkSt → FbkSt) : (s.modFbk f).host = s.host := rfl
@[simp] theorem State.modFbk_flt (s : State) (f : FbkSt → FbkSt) : (s.modFbk f).flt = s.flt := rfl
@[simp] theorem State.modFbk_hkp (s : State) (f : FbkSt → FbkSt) : (s.modFbk f).hkp = s.hkp := rfl
@[simp] theorem State.modFbk_fbk (s : State) (f : FbkSt → FbkSt) : (s.modFbk f).fbk = f s.fbk := rfl
@[simp] theorem State.modFbk_boot (s : State) (f : FbkSt → FbkSt) : (s.modFbk f).boot = s.boot := rfl
@[simp] theorem State.modFbk_datum (s : State) (f : FbkSt → FbkSt) : (s.modFbk f).datum = s.datum := rfl
@[simp] theorem State.modFbk_ports (s : State) (f : FbkSt → FbkSt) : (s.modFbk f).ports = s.ports := rfl
@[simp] theorem State.modFbk_fab (s : State) (f : FbkSt → FbkSt) : (s.modFbk f).fab = s.fab := rfl
@[simp] theorem State.modFbk_sch (s : State) (f : FbkSt → FbkSt) : (s.modFbk f).sch = s.sch := rfl
@[simp] theorem State.modFbk_free (s : State) (f : FbkSt → FbkSt) : (s.modFbk f).free = s.free := rfl
@[simp] theorem State.modFbk_out (s : State) (f : FbkSt → FbkSt) : (s.modFbk f).out = s.out := rfl
@[simp] theorem State.modFbk_pending (s : State) (f : FbkSt → FbkSt) : (s.modFbk f).pending = s.pending := rfl

/-! ## modBoot -/

@[simp] theorem State.modBoot_rd (s : State) (f : BootSt → BootSt) (r : Fid) (i : Nat) : (s.modBoot f).rd r i = s.rd r i := rfl
@[simp] theorem State.modBoot_regs (s : State) (f : BootSt → BootSt) : (s.modBoot f).regs = s.regs := rfl
@[simp] theorem State.modBoot_map (s : State) (f : BootSt → BootSt) : (s.modBoot f).map = s.map := rfl
@[simp] theorem State.modBoot_loop (s : State) (f : BootSt → BootSt) : (s.modBoot f).loop = s.loop := rfl
@[simp] theorem State.modBoot_trv (s : State) (f : BootSt → BootSt) : (s.modBoot f).trv = s.trv := rfl
@[simp] theorem State.modBoot_stand (s : State) (f : BootSt → BootSt) : (s.modBoot f).stand = s.stand := rfl
@[simp] theorem State.modBoot_mbx (s : State) (f : BootSt → BootSt) : (s.modBoot f).mbx = s.mbx := rfl
@[simp] theorem State.modBoot_rings (s : State) (f : BootSt → BootSt) : (s.modBoot f).rings = s.rings := rfl
@[simp] theorem State.modBoot_host (s : State) (f : BootSt → BootSt) : (s.modBoot f).host = s.host := rfl
@[simp] theorem State.modBoot_flt (s : State) (f : BootSt → BootSt) : (s.modBoot f).flt = s.flt := rfl
@[simp] theorem State.modBoot_hkp (s : State) (f : BootSt → BootSt) : (s.modBoot f).hkp = s.hkp := rfl
@[simp] theorem State.modBoot_fbk (s : State) (f : BootSt → BootSt) : (s.modBoot f).fbk = s.fbk := rfl
@[simp] theorem State.modBoot_boot (s : State) (f : BootSt → BootSt) : (s.modBoot f).boot = f s.boot := rfl
@[simp] theorem State.modBoot_datum (s : State) (f : BootSt → BootSt) : (s.modBoot f).datum = s.datum := rfl
@[simp] theorem State.modBoot_ports (s : State) (f : BootSt → BootSt) : (s.modBoot f).ports = s.ports := rfl
@[simp] theorem State.modBoot_fab (s : State) (f : BootSt → BootSt) : (s.modBoot f).fab = s.fab := rfl
@[simp] theorem State.modBoot_sch (s : State) (f : BootSt → BootSt) : (s.modBoot f).sch = s.sch := rfl
@[simp] theorem State.modBoot_free (s : State) (f : BootSt → BootSt) : (s.modBoot f).free = s.free := rfl
@[simp] theorem State.modBoot_out (s : State) (f : BootSt → BootSt) : (s.modBoot f).out = s.out := rfl
@[simp] theorem State.modBoot_pending (s : State) (f : BootSt → BootSt) : (s.modBoot f).pending = s.pending := rfl

/-! ## modDom: a Datum domain -/

theorem State.modDom_dom_same (s : State) (d : Nat) (f : Domain → Domain) : (s.modDom d f).dom d = f (s.dom d) := by
  unfold State.modDom State.dom; split <;> rfl

theorem State.modDom_rd (s : State) (d : Nat) (f : Domain → Domain) (r : Fid) (i : Nat) :
    (s.modDom d f).rd r i = s.rd r i := by
  unfold State.modDom; split <;> rfl

@[simp] theorem State.modDom_regs (s : State) (d : Nat) (f : Domain → Domain) : (s.modDom d f).regs = s.regs := by
  unfold State.modDom; split <;> rfl
@[simp] theorem State.modDom_map (s : State) (d : Nat) (f : Domain → Domain) : (s.modDom d f).map = s.map := by
  unfold State.modDom; split <;> rfl
@[simp] theorem State.modDom_loop (s : State) (d : Nat) (f : Domain → Domain) : (s.modDom d f).loop = s.loop := by
  unfold State.modDom; split <;> rfl
@[simp] theorem State.modDom_trv (s : State) (d : Nat) (f : Domain → Domain) : (s.modDom d f).trv = s.trv := by
  unfold State.modDom; split <;> rfl
@[simp] theorem State.modDom_stand (s : State) (d : Nat) (f : Domain → Domain) : (s.modDom d f).stand = s.stand := by
  unfold State.modDom; split <;> rfl
@[simp] theorem State.modDom_mbx (s : State) (d : Nat) (f : Domain → Domain) : (s.modDom d f).mbx = s.mbx := by
  unfold State.modDom; split <;> rfl
@[simp] theorem State.modDom_rings (s : State) (d : Nat) (f : Domain → Domain) : (s.modDom d f).rings = s.rings := by
  unfold State.modDom; split <;> rfl
@[simp] theorem State.modDom_host (s : State) (d : Nat) (f : Domain → Domain) : (s.modDom d f).host = s.host := by
  unfold State.modDom; split <;> rfl
@[simp] theorem State.modDom_flt (s : State) (d : Nat) (f : Domain → Domain) : (s.modDom d f).flt = s.flt := by
  unfold State.modDom; split <;> rfl
@[simp] theorem State.modDom_hkp (s : State) (d : Nat) (f : Domain → Domain) : (s.modDom d f).hkp = s.hkp := by
  unfold State.modDom; split <;> rfl
@[simp] theorem State.modDom_fbk (s : State) (d : Nat) (f : Domain → Domain) : (s.modDom d f).fbk = s.fbk := by
  unfold State.modDom; split <;> rfl
@[simp] theorem State.modDom_boot (s : State) (d : Nat) (f : Domain → Domain) : (s.modDom d f).boot = s.boot := by
  unfold State.modDom; split <;> rfl
@[simp] theorem State.modDom_ports (s : State) (d : Nat) (f : Domain → Domain) : (s.modDom d f).ports = s.ports := by
  unfold State.modDom; split <;> rfl
@[simp] theorem State.modDom_fab (s : State) (d : Nat) (f : Domain → Domain) : (s.modDom d f).fab = s.fab := by
  unfold State.modDom; split <;> rfl
@[simp] theorem State.modDom_sch (s : State) (d : Nat) (f : Domain → Domain) : (s.modDom d f).sch = s.sch := by
  unfold State.modDom; split <;> rfl
@[simp] theorem State.modDom_free (s : State) (d : Nat) (f : Domain → Domain) : (s.modDom d f).free = s.free := by
  unfold State.modDom; split <;> rfl
@[simp] theorem State.modDom_out (s : State) (d : Nat) (f : Domain → Domain) : (s.modDom d f).out = s.out := by
  unfold State.modDom; split <;> rfl
@[simp] theorem State.modDom_pending (s : State) (d : Nat) (f : Domain → Domain) : (s.modDom d f).pending = s.pending := by
  unfold State.modDom; split <;> rfl

end Sys2Proof.Machine
end

