-- ==== Sys2Proof/WellFormed.lean ====
section
/-! DEFINITION. Well-formed commands: every operand fits the width that the submission entry, register or message gives
it. A command that is not well-formed cannot be spelled by the hardware's interfaces. -/

namespace Sys2Proof

/-- Every value of a list fits in `w` bits. -/
def fits (w : Nat) (l : List Nat) : Prop := ∀ v ∈ l, v < 2 ^ w

/-- Every operand of the command fits the width that its entry, register or message gives it. -/
def Instr.wellFormed (i : Instr) : Prop :=
  match i with
  | .por _ => True
  | .bootSequence => True
  | .drst _ => True
  | .glbResetWrite key => fits 8 [key]
  | .hrst _ => True
  | .vfFunctionLevelReset _ => True
  | .brst _ => True
  | .crst _ => True
  | .crstComplete _ => True
  | .vsioReset _ => True
  | .firebreakStart _ _ _ => True
  | .clkrefLoss => True
  | .sqDoorbell _ v => fits 16 [v]
  | .commandFetch _ entries => ∀ e ∈ entries, e.length = 64 ∧ ∀ b ∈ e, b < 256
  | .commandAdmission => True
  | .policeHoldResume _ => True
  | .completionPost _ => True
  | .cqHeadWrite _ v => fits 16 [v]
  | .completionInterrupt _ _ => True
  | .mbxEnableWrite _ _ => True
  | .mailboxDmaError _ _ _ => True
  | .bar2Write off width v => fits 26 [off] ∧ (width = 32 ∨ width = 64) ∧ v < 2 ^ width
  | .registerWrite _ off width v => fits 24 [off] ∧ (width = 32 ∨ width = 64) ∧ v < 2 ^ width
  | .ringInterrupt _ _ _ => True
  | .trConsWrite _ _ v => fits 32 [v]
  | .telemetryFrameReceived src _ _ => fits 16 [src]
  | .unlockExpiry _ kind which => fits 8 [which] ∧ kind < 3
  | .identify _ buf => fits 64 [buf]
  | .getStatus _ => True
  | .partitionSet _ mbx buf table => fits 8 [mbx] ∧ fits 64 [buf] ∧ table.length = 2208 ∧ table.all (fun b => b < 256) = true
  | .stateWrite _ first count slot clear persist buf boot entries => fits 8 [clear, persist, boot] ∧ fits 16 [first, count, slot] ∧ fits 64 [buf] ∧ entries.length = count ∧ ∀ w ∈ entries, w < 2 ^ 32
  | .stateRead _ first count slot buf => fits 16 [first, count, slot] ∧ fits 64 [buf]
  | .routeSolve _ src mode slot maxDist buf rpt vec entries => fits 8 [src, mode] ∧ fits 16 [slot, maxDist] ∧ fits 64 [buf, rpt, vec] ∧ ∀ w ∈ entries, w < 2 ^ 32
  | .stateCommit _ src mode scope atomic slot maxDist buf _ pcount rpt plist entries parts => fits 8 [src, mode, scope, atomic] ∧ fits 16 [slot, maxDist, pcount] ∧ fits 64 [buf, rpt, plist] ∧ (∀ w ∈ entries, w < 2 ^ 32) ∧ ∀ p ∈ parts, p.1 < 2 ^ 16 ∧ p.2 < 2 ^ 16
  | .stateAbort _ clrId => fits 32 [clrId]
  | .clearingQuery _ count buf => fits 16 [count] ∧ fits 64 [buf]
  | .elementSetOverride _ elem drive => fits 16 [elem] ∧ fits 32 [drive]
  | .elementSetSetpoint _ elem ffc ssp => fits 16 [elem, ssp] ∧ fits 32 [ffc]
  | .elementSetRange _ elem range => fits 8 [range] ∧ fits 16 [elem]
  | .elementReleaseElement _ elem => fits 16 [elem]
  | .elementReleaseTrip _ comp => fits 8 [comp]
  | .elementReleaseReturn _ elem => fits 16 [elem]
  | .loopConfigCompartment _ comp period window => fits 8 [comp, period, window]
  | .loopConfigCoefficient _ comp set kp ki ilim epsMax commit => fits 8 [comp, set, commit] ∧ fits 16 [kp, ki] ∧ fits 32 [ilim, epsMax]
  | .loopConfigElement _ first set count => fits 8 [set] ∧ fits 16 [first, count]
  | .loopConfigClearCode _ first count code => fits 16 [first, count] ∧ fits 32 [code]
  | .loopConfigProfile _ comp prof count flags t2 t3 t4 a1 a2 a3 rsv => fits 8 [comp, prof, count, flags] ∧ fits 16 [t2, t3, t4, a1, a2, a3, rsv]
  | .loopConfigPilot _ first count pamp => fits 16 [first, count, pamp]
  | .loopConfigDeglitch _ comp thr => fits 8 [comp, thr]
  | .loopConfigHpwm _ first count per dead minp mpf stag => fits 8 [dead, minp, mpf, stag] ∧ fits 16 [first, count, per]
  | .loopConfigTrip _ comp => fits 8 [comp]
  | .loopConfigPowerCap _ cap => fits 16 [cap]
  | .outerConfigEqualisation _ first count en side div ko target spMax iref => fits 8 [en, side] ∧ fits 16 [first, count, div, ko, target, spMax] ∧ fits 32 [iref]
  | .outerConfigTemperature _ first count tco comp en sensor slew => fits 8 [comp, en, sensor, slew] ∧ fits 16 [first, count] ∧ fits 32 [tco]
  | .elementStatus _ first count buf => fits 16 [first, count] ∧ fits 64 [buf]
  | .monitorRead _ first count rangeSet buf => fits 8 [rangeSet] ∧ fits 16 [first, count] ∧ fits 64 [buf]
  | .precisionMeasure _ first mode src count pwq rings buf _ len => fits 8 [mode, src, pwq, rings] ∧ fits 16 [first, count] ∧ fits 32 [len] ∧ fits 64 [buf]
  | .telemetryCfgRing _ ring en rlog recsz origin thresh base wb time => fits 8 [ring, en, rlog, recsz] ∧ fits 16 [origin, thresh] ∧ fits 32 [time] ∧ fits 64 [base, wb]
  | .telemetryCfgSource _ ring source en first count dec dest => fits 8 [ring, source, en] ∧ fits 16 [first, count, dec, dest]
  | .calRun _ first mode count deadline interval => fits 8 [mode] ∧ fits 16 [first, count, deadline, interval]
  | .calStatus _ kind first count buf => fits 8 [kind] ∧ fits 16 [first, count] ∧ fits 64 [buf]
  | .syscalStepBegin _ comp => fits 8 [comp]
  | .syscalStepZero _ comp mains readings => fits 8 [comp, mains] ∧ readings.length = 48 ∧ ∀ l ∈ readings, l.length = 4
  | .syscalStepPoint _ comp range mains applied readings => fits 8 [comp, range, mains] ∧ fits 32 [applied] ∧ readings.length = 48
  | .syscalStepEnd _ comp => fits 8 [comp]
  | .syscalStepAbort _ comp => fits 8 [comp]
  | .syscalTimeout _ => True
  | .datumCfgConfig _ port src0 port0 src1 port1 oneStep logSync pdExp asymIn asymEg => fits 8 [port, src0, port0, src1, port1, oneStep, logSync, pdExp] ∧ fits 32 [asymIn, asymEg]
  | .datumCfgSelect _ domain => fits 8 [domain]
  | .datumCfgRestep _ => True
  | .datumCfgSetTod _ sec => fits 64 [sec]
  | .datumCfgLimits _ lockThr slewMax swLimit stepLimit servoBw autoS ppsGate => fits 8 [servoBw, autoS, ppsGate] ∧ fits 16 [lockThr, slewMax] ∧ fits 32 [swLimit] ∧ fits 64 [stepLimit]
  | .datumStatus _ buf => fits 64 [buf]
  | .triggerCfg _ pin mode edge start period width => fits 8 [pin, mode, edge] ∧ fits 16 [start.sub] ∧ fits 32 [start.ns, period, width] ∧ fits 48 [start.sec]
  | .chainCfgPort _ port en fec txPre txPost txAmp rxFreeze => fits 8 [port, en, fec, txPre, txPost, txAmp, rxFreeze]
  | .chainCfgEnumerate _ topo => fits 8 [topo]
  | .chainCfgTest _ port gen chk inv injRate => fits 8 [port, gen, chk, inv, injRate]
  | .chainCfgRemotePolicy _ accept classEn ackTo execTo => fits 8 [accept] ∧ fits 16 [classEn, ackTo, execTo]
  | .chainStatus _ form clear buf => fits 8 [form, clear] ∧ fits 64 [buf]
  | .remote _ dst rspLen execTo rspBuf cmd _ => fits 16 [dst, rspLen, execTo] ∧ fits 64 [rspBuf] ∧ cmd.length = 64
  | .schedCfgGcl _ port _ cycle phase _ _ _ => fits 8 [port] ∧ fits 32 [cycle, phase]
  | .schedCfgShaper _ port cls en idleslope hicredit => fits 8 [port, cls, en] ∧ fits 16 [idleslope, hicredit]
  | .schedCfgOverhead _ port ovh => fits 8 [port] ∧ fits 16 [ovh]
  | .schedCfgPolice _ m en mode rate burst => fits 8 [m, en, mode] ∧ fits 16 [burst] ∧ fits 32 [rate]
  | .schedCfgSampling _ en k => fits 8 [en, k]
  | .schedCfgReadSamples _ port count buf => fits 8 [port] ∧ fits 16 [count] ∧ fits 64 [buf]
  | .faultLogRead _ first count whence advance buf => fits 8 [whence, advance] ∧ fits 16 [count] ∧ fits 32 [first] ∧ fits 64 [buf]
  | .faultPolicySet _ source react dflt => fits 8 [react, dflt] ∧ fits 16 [source]
  | .faultInject _ checker bits mode => fits 8 [bits, mode] ∧ fits 16 [checker]
  | .fwStageFirmware _ length dst buf image => fits 16 [dst] ∧ fits 32 [length] ∧ fits 64 [buf] ∧ image.all (fun b => b < 256) = true
  | .fwStageElementMap _ length dst buf image => fits 16 [dst] ∧ fits 32 [length] ∧ fits 64 [buf] ∧ image.all (fun b => b < 256) = true
  | .fwActivateFirmware _ => True
  | .fwActivateElementMap _ => True
  | .measureRead _ mask buf => fits 8 [mask] ∧ fits 64 [buf]
  | .safetyStatusRead _ buf => fits 64 [buf]
  | .safetyStatusAck _ => True
  | .safetyStatusRestart _ outputs => fits 8 [outputs]
  | .safetySessionOpen _ len password => fits 8 [len] ∧ password.length = 16 ∧ password.all (fun b => b < 256) = true
  | .safetyConfigParameter _ param value => fits 16 [param] ∧ fits 32 [value]
  | .safetyConfigPassword _ len password => fits 8 [len] ∧ password.length = 16 ∧ password.all (fun b => b < 256) = true
  | .safetySessionCloseCommit _ => True
  | .safetySessionCloseDiscard _ => True
  | .safetyLogRead _ first count buf => fits 16 [count] ∧ fits 32 [first] ∧ fits 64 [buf]
  | .standHandoverHandover _ => True
  | .standHandoverReturn _ => True
  | .standHandoverRelease _ => True
  | .compartmentServiceFence _ comp => fits 8 [comp]
  | .compartmentServiceReset _ comp => fits 8 [comp]
  | .compartmentServiceRejoin _ comp => fits 8 [comp]
  | .expertUnlock _ kind which ttl => fits 8 [kind, which] ∧ fits 16 [ttl]
  | .expertLock _ kind which => fits 8 [kind, which]
  | .frameBoundary samples => ∀ p ∈ samples, p.1 < 6144
  | .monitorRangeChange _ => True
  | .comparatorChange _ _ => True
  | .pwGoWrite _ => True
  | .precisionWindowStart _ => True
  | .precisionWindowEnd _ _ => True
  | .benchmarkTakeover _ => True
  | .benchmarkResult _ readings => readings.length = 4
  | .benchmarkReturn _ => True
  | .calRotCtrlWrite _ => True
  | .calibrationStale _ => True
  | .startupPassEnd _ _ results => ∀ r ∈ results, r.1 < 192 ∧ r.2.1 < 33 ∧ r.2.2.length = 4
  | .vmodeOvercurrent _ => True
  | .ocClearWrite _ => True
  | .groupLimiterTrip _ _ => True
  | .gtripClearWrite _ => True
  | .deglitchRelease _ => True
  | .vdacRangeWrite _ _ => True
  | .rangeChangeStart _ => True
  | .rangeSwitch _ => True
  | .rangeRampUp _ => True
  | .rangeChangeEnd _ => True
  | .ustVclrWrite _ code => fits 20 [code]
  | .profileImpulse _ _ => True
  | .trajectoryEnd _ _ => True
  | .ustProfileWrite _ _ count flags t2 t3 t4 a1 a2 a3 => fits 8 [count, flags] ∧ fits 16 [t2, t3, t4, a1, a2, a3]
  | .pilotAmplitudeChange _ => True
  | .clrNAssert _ _ => True
  | .clrNRelease => True
  | .clrNReturn _ => True
  | .hmodePeriodBoundary _ _ _ => True
  | .hmodeOvercurrent _ => True
  | .hmodeFastTrip _ => True
  | .hmodeLeakage _ => True
  | .hmodeOcLeakClearWrite _ _ _ => True
  | .tripSourceAssert _ => True
  | .tripClearWrite _ => True
  | .swtripWrite _ => True
  | .hmodeResume _ => True
  | .hpwmSrcWrite _ _ => True
  | .pcommitWrite _ => True
  | .shadowTransfer _ _ => True
  | .loopPeriodBoundary _ _ _ late _ => ∀ e ∈ late, e < 10240
  | .coefCommitWrite _ => True
  | .coefficientSwap _ => True
  | .periodWindowChange _ => True
  | .settleEntry _ => True
  | .jumpExit _ => True
  | .holdEntry _ => True
  | .scheduledTransition _ => True
  | .loopStart _ => True
  | .suspectEntry _ => True
  | .returnToService _ => True
  | .catchUpJump _ => True
  | .calibrationRecordApply _ => True
  | .outerIntervalEnd _ => True
  | .sweepStart _ => True
  | .sweepPoint _ => True
  | .sweepDeadline _ => True
  | .solveStart => True
  | .solveComplete => True
  | .clearingQueue => True
  | .pointOfNoReturn => True
  | .clearingExecution => True
  | .clearingRequest src m => fits 16 [src, m.slot]
  | .clearingAccept src _ => fits 16 [src]
  | .clearingReject src m => fits 8 [m.status] ∧ fits 16 [src]
  | .clearingAbort src clrId => fits 16 [src] ∧ fits 32 [clrId]
  | .clearingReport src m => fits 8 [m.status] ∧ fits 16 [src]
  | .abortDeadline clrId => fits 32 [clrId]
  | .reportTimeout clrId => fits 32 [clrId]
  | .standEccError _ => True
  | .writePathParity _ => True
  | .heartbeatMissing => True
  | .standClockFault _ => True
  | .interlockConfirm => True
  | .interlockTimeout => True
  | .ilkForce => True
  | .standCopyComplete => True
  | .takeoverResume _ => True
  | .standEligible => True
  | .commandedHandover => True
  | .compartmentFence _ => True
  | .rejoin _ => True
  | .foresterWatchdog => True
  | .syncReceived _ m ingress => fits 16 [m.seq] ∧ fits 96 [ingress]
  | .followUpReceived _ m => fits 16 [m.seq]
  | .pdelayReqReceived _ m ingress egress => fits 16 [m.seq] ∧ fits 96 [ingress, egress]
  | .pdelayRespReceived _ m ingress => fits 16 [m.seq] ∧ fits 96 [ingress]
  | .pdelayRespFollowUpReceived _ m => fits 16 [m.seq]
  | .announceReceived _ m => fits 8 [m.gmClass] ∧ fits 16 [m.seq]
  | .delayReqReceived _ => True
  | .syncTransmit _ _ egress => fits 96 [egress]
  | .pdelayTransmit _ egress => fits 96 [egress]
  | .announceTransmit _ _ => True
  | .sourceLost _ _ => True
  | .datumAcquired => True
  | .gridStep => True
  | .datumLocked => True
  | .ppsInEdge ingress => fits 96 [ingress]
  | .ppsOutPulse => True
  | .trigOutputPulse _ => True
  | .trigInputEdge _ _ _ => True
  | .restepWrite => True
  | .pDomWrite _ => True
  | .dtmTimeLatch => True
  | .tsqPopRead _ => True
  | .trigTsRead _ => True
  | .trigStartWrite _ start => fits 16 [start.sub] ∧ fits 32 [start.ns] ∧ fits 48 [start.sec]
  | .linkUp _ => True
  | .linkDown _ _ _ => True
  | .helloTransmit _ => True
  | .helloReceived _ uid addr nport role epoch blockHi depth => fits 8 [role] ∧ fits 16 [addr, blockHi, depth] ∧ fits 32 [epoch] ∧ fits 64 [uid] ∧ nport < 4
  | .cairnFrameReceived _ _ c => fits 16 [c.dst, c.src, c.hops] ∧ c.tc < 8
  | .enumClear _ epoch => fits 32 [epoch]
  | .enumClearWait => True
  | .enumAssign _ src epoch addr depth topo => fits 16 [src, addr, depth] ∧ fits 32 [epoch] ∧ topo < 2
  | .enumBusy _ epoch => fits 32 [epoch]
  | .enumDone _ epoch hi _ => fits 16 [hi] ∧ fits 32 [epoch]
  | .enumAssignTimeout _ => True
  | .enumReport epoch e => fits 16 [e.addr] ∧ fits 32 [epoch]
  | .enumComplete epoch count _ _ _ => fits 16 [count] ∧ fits 32 [epoch]
  | .wrapReceived _ epoch a b => fits 16 [a, b] ∧ fits 32 [epoch]
  | .remoteRequest src reqId rspLen _ body _ => fits 16 [src, reqId] ∧ rspLen ≤ 1024 ∧ body.length = 64
  | .remoteAck src reqId => fits 16 [src, reqId]
  | .remoteResponse src reqId _ body _ => fits 16 [src, reqId] ∧ body.length = 64
  | .remoteResponseAck src reqId => fits 16 [src, reqId]
  | .remoteAckTimeout _ peer reqId => fits 16 [peer, reqId]
  | .remoteExecTimeout dst reqId => fits 16 [dst, reqId]
  | .faultNoticeReceived src cls source react => fits 8 [cls, react] ∧ fits 16 [src, source]
  | .fwBulkData src kind xferId total offset data => fits 8 [kind] ∧ fits 16 [src, xferId] ∧ fits 32 [total, offset] ∧ 1 ≤ data.length ∧ data.length ≤ 1408 ∧ data.all (fun b => b < 256) = true
  | .fwBulkStatus src xferId acked => fits 16 [src, xferId] ∧ fits 32 [acked]
  | .fwBulkDone src xferId status => fits 8 [status] ∧ fits 16 [src, xferId]
  | .fwBulkTimeout _ => True
  | .prbsCfgWrite _ _ _ => True
  | .injOneWrite _ => True
  | .injFcsWrite _ => True
  | .transmissionSelect _ _ => True
  | .gateChange _ _ => True
  | .gclCommitWrite _ _ => True
  | .gclSwitch _ _ => True
  | .chsCounterClearWrite _ => True
  | .queueSample t => fits 80 [t]
  | .faultDetected new fired ctx lost => (∀ r ∈ new, r.src < 2 ^ 16 ∧ r.objKind < 256 ∧ r.obj < 2 ^ 32 ∧ r.detail < 2 ^ 32 ∧ r.cls < 256 ∧ r.mbx < 256) ∧ (∀ c ∈ fired, c < 2 ^ 16) ∧ (∀ c ∈ ctx, c.1 < 8 ∧ c.2 < 2 ^ 16) ∧ ∀ p ∈ lost, p.1 < 512 ∧ p.2 < 2 ^ 32
  | .faultCollectorDisagree _ => True
  | .errAckWrite => True
  | .faultInjectArmWrite => True
  | .housekeepingRound temps supplies iact deaf => fits 16 [iact] ∧ temps.length = 20 ∧ supplies.length = 7 ∧ (∀ v ∈ supplies, v < 2 ^ 16) ∧ deaf < 16
  | .safetySample inputs _ => fits 8 [inputs]
  | .testPulse _ stuck crossed _ => fits 8 [stuck, crossed]
  | .inputDiscrepancy _ => True
  | .edmTimeout _ => True
  | .outputSwitchTest _ _ _ => True
  | .staticCheck _ _ => True
  | .outputOvercurrent _ => True
  | .outputRestart _ => True
  | .oscillatorFault _ => True
  | .channelDisagreement _ => True
  | .fbrstNPulse _ _ => True
  | .resetPendTimeout => True
  | .sessionTimeout => True
  | .firebreakLinkLoss => True
  | .aprFlagChange => True
  | .darkeningStart => True
  | .darkeningRelease _ => True
  | .safetyLogFlush => True
  | .doeDiscovery index => fits 8 [index]
  | .spdmGetVersion _ => True
  | .spdmGetCapabilities _ => True
  | .spdmNegotiateAlgorithms _ _ _ _ => True
  | .spdmGetDigests _ => True
  | .spdmGetCertificate _ slot offset length => fits 16 [offset, length] ∧ slot < 16
  | .spdmChallenge _ slot nonce => fits 8 [slot] ∧ nonce.length = 32 ∧ nonce.all (fun b => b < 256) = true
  | .spdmGetMeasurements _ index _ nonce => fits 8 [index] ∧ nonce.length = 32 ∧ nonce.all (fun b => b < 256) = true
  | .spdmUnsupportedRequest _ => True
  | .jtagInstructionLoad _ => True
  | .fuseProgWrite code _ => fits 16 [code]
  | .prbsCheckerLock _ errors => fits 32 [errors]
  | .brstEnd _ => True
  | .foresterRestartComplete _ => True
  | .flashWriteComplete _ => True
  | .perstNRelease => True
  | .busMasterEnableChange _ _ _ => True
  | .firebreakLinkReturn => True

end Sys2Proof
end

