-- ==== Sys2Proof/Tests/Slice0.lean ====
section
/-! SUPPORT. Tests: the smoke test of WellFormed, and for every statement of Obligations.lean with hypotheses a concrete
state and operands that meet the hypotheses of each of its clauses, with what the step then gives. Expected results are
worked out by hand from the rules that the statement cites. -/

set_option Elab.async false
set_option linter.unusedVariables false
set_option maxRecDepth 100000

namespace Sys2Proof.Tests

open Sys2Proof Sys2Proof.Machine

/-! ## Helpers -/

/-- The state at reset. -/
abbrev w : State := State.reset

/-- A command of MB0. -/
def h0 : Hdr := { mbx := 0, tag := 0 }

/-- Whether a result is a next state of which `p` holds. -/
def after (r : Result) (p : State → Bool) : Bool := match r with | .next t => p t | _ => false

/-- Whether the command of a header has fallen due with a result. -/
def due (t : State) (h : Hdr) (c : Completion) : Bool :=
  (t.mb h.mbx).flight.any (fun f => f.tag == h.tag && decide (f.remote = h.remote) && f.eff && decide (f.comp = some c))

/-- Whether the command of a header is in flight and not due. -/
def flying (t : State) (h : Hdr) : Bool :=
  (t.mb h.mbx).flight.any (fun f => f.tag == h.tag && decide (f.remote = h.remote) && decide (f.comp = none))

/-- A command of mailbox 0 in flight with number 0. -/
def fly0 : Flight := { id := 0, tag := 0, imm := false }

/-- The owner of that command. -/
def o0 : Owner := ⟨0, 0⟩

/-- Mailbox `m` holding one command in flight with number 0. -/
def flight0 (s : State) : State := s.modMb 0 (fun b => { b with flight := [fly0], busMaster := true })

/-- Whether the command of number 0 in mailbox 0 has fallen due with a result. -/
def ended (t : State) (c : Completion) : Bool :=
  (t.mb 0).flight.any (fun f => f.id == 0 && f.eff && decide (f.comp = some c))

/-! ## The block as a whole, resets -/

theorem wit_EmptyQueueIdles : w.pending = [] := rfl

theorem wit_StepKeepsRegisterInvariant : ∃ s t : State, s.RegInv ∧ s.pending ≠ [] ∧ step s = .next t :=
  ⟨{ w with pending := [.linkUp 0] }, _, ⟨RegsOk.nil, fun f i => Fid.reset_lt f i⟩, by decide, rfl⟩

theorem test_stepTakesFront : after (step { w with pending := [.getStatus h0, .linkUp 0] })
    (fun t => t.pending == [.linkUp 0] && due t h0 { status := .ok, res0 := t.statusWord 0 }) = true := by decide

/-- Datum in SLEWING with a free-running clock. -/
def sSlew : State := { w.wr .dtm_status_p_state 0 2 with datum := { w.datum with t := 7 } }

/-- Stand B OFFLINE, held in reset. -/
def sOff : State := { (w.wr .stx_stand_status_state 65536 0).wr .glb_baton_cfg_auto_return 0 1 with stand := { w.stand with reset := [1] } }

theorem wit_BlockResetsRestoreTheirBlock :
    { w.flt with drstPending := true }.drstPending = true ∧ w.flt.drstPending = false ∧
    (1 : Nat) ≠ w.holder ∧ w.standState 1 ≠ 0 ∧
    (1 ∈ sOff.stand.reset ∧ sOff.standState 1 = 0 ∧ sOff.boot.actStep = 0 ∧ sOff.rd .glb_baton_cfg_auto_return 0 ≠ 0) := by
  decide

theorem test_brst : after (exec (.brst .datum) sSlew) (fun t => t.rd .dtm_status_p_state 0 == 4 && t.datum.t == 7) = true ∧
    after (exec (.brst (.stand 1)) w) (fun t => t.standState 1 == 0 && t.stand.reset == [1]) = true ∧
    after (exec (.brstEnd 1) sOff) (fun t => t.standState 1 == 1 && t.stand.reset == []
      && t.stand.copying == some (1, [0, 1, 2, 3])) = true := by decide

/-! ## Host -/

/-- Mailbox 7 enabled. -/
def sMb7 : State := (w.wr .mbx_ctrl_en 7 1).modMb 7 (fun b => { b with busMaster := true })

theorem wit_SubmissionSideCompletes :
    (sMb7.rd .mbx_ctrl_en 7 ≠ 0 ∧ 15 < sMb7.sqSize 7 ∧ w.rd .mbx_ctrl_en 7 = 0 ∧ sMb7.sqSize 7 ≤ 16) ∧
    sMb7.canFetch 7 = true ∧
    (w.rd .mbx_ctrl_en 0 = 0 ∧ (w.mb 0).flight = [] ∧ (w.mb 0).fetched = []) ∧
    (fly0 ∈ ((flight0 w).mb 0).flight ∧ fly0.remote = none) := by decide

theorem test_submission :
    after (exec (.sqDoorbell 7 15) sMb7) (fun t => t.rd .mbx_sq_db_sq_tail 7 == 15) = true ∧
    after (exec (.sqDoorbell 7 16) sMb7) (fun t => t.rd .mbx_status_db_err 7 == 1 && t.rd .mbx_sq_db_sq_tail 7 == 0) = true ∧
    after (exec (.commandFetch 7 [[1], [2], [3]]) (sMb7.wr .mbx_sq_db_sq_tail 7 2)) (fun t =>
      decide ((t.mb 7).fetched = [([1], none), ([2], none)]) && t.rd .mbx_sq_db_sq_head 7 == 2) = true ∧
    after (exec (.mbxEnableWrite 0 true) w) (fun t => t.rd .mbx_ctrl_en 0 == 1 && (t.mb 0).phase) = true ∧
    after (exec (.mailboxDmaError 7 3 none) sMb7) (fun t => t.rd .mbx_status_err_cause 7 == 3 && (t.mb 7).stopped) = true ∧
    after (exec (.mailboxDmaError 0 2 (some 0)) (flight0 w)) (fun t => ended t { status := .internal }) = true ∧
    after (exec (.busMasterEnableChange 7 true true) w) (fun t => (t.mb 7).busMaster && (t.mb 7).d3hot) = true := by decide

/-- A 64-byte entry of a NOP with tag 1. -/
def nop1 : List Nat := [0, 0, 1] ++ List.replicate 61 0

/-- Mailbox 7 with that entry fetched, admission open, tags 0 to 15 its own. -/
def sAdm : State :=
  { (w.wr .mbx_tags_tag_count 7 16).modMb 7 (fun b => { b with fetched := [(nop1, none)] }) with
    host := { w.host with admission := true, lastMbx := 6 } }

/-- Mailbox 0 with a command due, one entry unannounced, host memory open, CQ_TAIL at the last entry of its ring. -/
def sDue : State := (w.wr .mbx_cq_db_cq_tail 0 15).modMb 0 (fun b => { b with
  flight := [{ fly0 with eff := true, comp := some { status := .ok } }], busMaster := true, unannounced := 1, unreleased := 15 })

/-- That entry 20 µs old under IRQ_TIME 20 µs, and a threshold of 9: 20 frames of 1,024 ns cover them. -/
def sTimed : State := { (sDue.wr .mbx_ctrl_irq_time 0 20).wr .mbx_ctrl_irq_thresh 0 9 with loop := { w.loop with frames := 20 } }

theorem wit_AdmissionAndCompletionsComplete :
    (sAdm.turn = some 7 ∧ sAdm.host.admission = true ∧ sAdm.boot.clkref = true ∧ (sAdm.mb 7).fetched = [(nop1, none)] ∧
      sAdm.tagCheck 7 (entryTag nop1) = none ∧ sAdm.tokenCheck 7 (nop1.getD 0 0) = .pass) ∧
    ((w.wr .chs_pol_status_held 3 1).rd .chs_pol_status_held 3 ≠ 0 ∧
      tokenUnit ≤ ((w.wr .chs_pol_status_held 3 1).mb 3).level) ∧
    ((sDue.mb 0).flight.length = 1 ∧ sDue.hostOpen 0 = true ∧ (sDue.mb 0).unreleased < sDue.cqSize 0 ∧
      sDue.rd .mbx_cq_db_cq_tail 0 + 1 = sDue.cqSize 0 ∧
      (sDue.wr .mbx_cq_db_cq_tail 0 14).rd .mbx_cq_db_cq_tail 0 + 1 ≠ (sDue.wr .mbx_cq_db_cq_tail 0 14).cqSize 0) ∧
    (0 < sDue.cqSize 0 ∧ (sDue.rd .mbx_cq_db_cq_tail 0 + sDue.cqSize 0 - 0) % sDue.cqSize 0 ≤ (sDue.mb 0).unreleased) ∧
    (0 < (sDue.mb 0).unannounced ∧ sDue.rd .mbx_ctrl_irq_thresh 0 ≤ (sDue.mb 0).unannounced) ∧
    (sTimed.rd .mbx_ctrl_irq_time 0 ≠ 0 ∧
      (sTimed.mb 0).oldestAt + framesIn (sTimed.rd .mbx_ctrl_irq_time 0 * 1000) ≤ sTimed.loop.frames) := by decide

theorem test_admission :
    after (exec .commandAdmission sAdm) (fun t => (t.mb 7).fetched == [] && t.host.lastMbx == 7
      && decide ((t.mb 7).flight.map (fun f => (f.id, f.tag)) = [(0, 1)])) = true ∧
    after (exec (.policeHoldResume 3) (w.wr .chs_pol_status_held 3 1)) (fun t => t.rd .chs_pol_status_held 3 == 0) = true ∧
    after (exec (.completionPost 0) sDue) (fun t => (t.mb 0).flight == [] && t.rd .mbx_cq_db_cq_tail 0 == 0
      && !(t.mb 0).phase && decide (t.out = [.completion 0 15 { status := .ok } 0 true])) = true ∧
    after (exec (.cqHeadWrite 0 0) sDue) (fun t => (t.mb 0).unreleased == 15) = true ∧
    after (exec (.completionInterrupt 0 false) sDue) (fun t => decide (t.out = [.msix 0 0]) && (t.mb 0).unannounced == 0) = true ∧
    after (exec (.completionInterrupt 0 true) sTimed) (fun t => decide (t.out = [.msix 0 0])) = true ∧
    after (exec (.completionInterrupt 0 false) sTimed) (fun t => decide (t.out = [])) = true := by decide

/-- Ring 1 of mailbox 7 (ring 61 of the module) enabled for records from module 9, holding one record. -/
def sRing : State := { (w.wr .mbx_tr_status_en 449 1).modMb 7 (fun b => { b with busMaster := true }) with rings := [(449, { origin := 9, prod := 1, thresh := 1 })] }

theorem wit_TelemetryRingsComplete :
    (1 < ringCount 7 ∧ sRing.hostOpen 7 = true ∧ (sRing.ring 449).firstAt + framesIn ((sRing.ring 449).time * 1000) ≤ sRing.loop.frames ∧
      (sRing.ring 449).announced ≠ (sRing.ring 449).prod ∧ (sRing.ring 449).thresh ≤ sRing.ringFill 449) ∧
    ((2 ^ 32 + (sRing.ring 449).prod - 1) % 2 ^ 32 ≤ 2 ^ (sRing.ring 449).rlog ∧
      2 ^ (sRing.ring 449).rlog < (2 ^ 32 + (sRing.ring 449).prod - 2) % 2 ^ 32) ∧
    (ringOfNumber 61 = 449 ∧ sRing.rd .mbx_tr_status_en 449 ≠ 0 ∧ (sRing.ring 449).origin = 9 ∧
      sRing.ringFill 449 ≠ 2 ^ (sRing.ring 449).rlog ∧ w.rd .mbx_tr_status_en 449 = 0) ∧
    (47 < ringCount 0 ∧ w.rd .mbx_tr_status_en 47 = 0 ∧ ∀ x ∈ w.host.sources, x.mbx ≠ 0 ∨ x.ring ≠ 47 ∨ x.dest ≠ 0) ∧
    (3 + 1 ≤ sourceLimit 5 ∧ w.sourceHeld 0 5 3 1 = true ∧
      recSize 5 = some (({ w with rings := [(47, { recsz := 48 })] } : State).ring 47).recsz) := by decide

theorem wit_loopSource : 10239 + 1 ≤ sourceLimit 1 ∧ w.sourceHeld 0 1 10239 1 = true ∧ recSize 1 = some (w.ring 0).recsz := by
  decide

theorem test_rings :
    after (exec (.ringInterrupt 7 1 false) sRing) (fun t => decide (t.out = [.msix 7 2]) && (t.ring 449).announced == 1) = true ∧
    after (exec (.trConsWrite 7 1 1) sRing) (fun t => t.rd .mbx_tr_cons_cons 449 == 1) = true ∧
    after (exec (.trConsWrite 7 1 2) sRing) (fun t => t.rd .mbx_tr_status_ring_err 449 == 1
      && t.rd .mbx_tr_cons_cons 449 == 0) = true ∧
    after (exec (.telemetryFrameReceived 9 61 [[5]]) sRing) (fun t => (t.ring 449).prod == 2
      && t.out.contains (.hostWrite 7 16 [5])) = true ∧
    after (exec (.telemetryFrameReceived 8 61 [[5]]) sRing) (fun t => t.rd .mbx_tr_status_tr_rej 449 == 1) = true ∧
    after (exec (.telemetryCfgRing h0 47 1 20 48 0 1 4096 16 0) w) (fun t => due t h0 { status := .ok }
      && t.rd .mbx_tr_status_en 47 == 1 && (t.ring 47).rlog == 20) = true ∧
    after (exec (.telemetryCfgSource h0 47 5 1 3 0 0 0) { w with rings := [(47, { recsz := 48 })] }) (fun t =>
      due t h0 { status := .ok } && decide (t.host.sources.map (fun x => (x.source, x.first, x.count, x.dec)) = [(5, 3, 1, 1)]))
      = true := by decide

/-- A partition table that gives tags 4,096 to 4,111. -/
def tbl16 : List Nat := [0, 16, 16, 0] ++ List.replicate 2204 0

theorem wit_SessionCommandsComplete :
    (w.badSrc h0 0 1 2208 = false ∧ w.partBad 7 tbl16 = false ∧ (w.mb 7).flight = []) ∧
    (unlockBad 2 0 3600 = false ∧ w.unlockedBy 0 2 0 = false ∧ (w.mb 0).unlocks.length < 8) ∧
    (unlockBad 0 3 0 = false ∧ ((w.modMb 1 (fun b => { b with part := { expert := true } })).mb 1).part.expert = true) := by
  decide

theorem test_session :
    after (exec (.partitionSet h0 7 0 tbl16) w) (fun t => due t h0 { status := .ok } && t.rd .mbx_tags_tag_base 7 == 4096
      && t.rd .mbx_tags_tag_count 7 == 16) = true ∧
    after (exec (.expertUnlock h0 2 0 3600) w) (fun t => due t h0 { status := .ok }
      && (t.mb 0).unlocks.map (fun u => (u.kind, u.which)) == [(2, 0)]) = true ∧
    after (exec (.expertLock h0 3 0) (w.modMb 0 (fun b => { b with unlocks := [⟨2, 0, 1, 0⟩, ⟨1, 6, 0, 0⟩] })))
      (fun t => (t.mb 0).unlocks == []) = true ∧
    after (exec (.unlockExpiry 0 2 0) { w.modMb 0 (fun b => { b with unlocks := [⟨2, 0, 1, 0⟩, ⟨1, 6, 0, 0⟩] }) with
      loop := { w.loop with frames := 976563 } })
      (fun t => (t.mb 0).unlocks == [⟨1, 6, 0, 0⟩]) = true ∧
    after (exec (.measureRead h0 0 0) w) (fun t => due t h0 {
      status := .ok, res0 := (maskSelects 0).length, res1 := w.bootWord }) = true := by decide

/-! ## Converters -/

/-- A frame counted since reset, with every compartment out of its start-up pass. -/
def run (f : Nat) : State :=
  { w with
    loop := { w.loop with frames := f, cpts := (List.range 4).map (fun n => (n, { pass := false })) }
    datum := { w.datum with t := f * tickFrame } }

/-- The last monitor with a range change waiting since frame 4 and both comparators' counts complete. -/
def sMon : State := (run 5).modMon 6143 (fun x => { x with want := some (2, 4), highCnt := 4, lowCnt := 4 })

theorem wit_MonitorCommandsComplete :
    ((sMon.mon 6143).want = some (2, 4) ∧ 4 < sMon.loop.frames ∧ sMon.winRuns 6143 = false) ∧
    (sMon.persistence 6143 ≤ (sMon.mon 6143).highCnt ∧ sMon.persistence 6143 ≤ (sMon.mon 6143).lowCnt) ∧
    w.holdsMons 0 4608 1536 = true ∧
    (calRangeBad 1 (0x8000 + 191) 1 = false ∧ w.holdsGrps 0 191 1 = true ∧ calRangeBad 2 191 1 = false ∧
      calRangeBad 3 10239 1 = false ∧ w.holdsElems 0 10239 1 = true) := by decide

theorem test_monitor :
    after (exec (.monitorRangeChange 6143) sMon) (fun t => t.rd .ust_mon_cfg_range 6143 == 2
      && decide ((t.mon 6143).want = none ∧ (t.mon 6143).spans = [⟨1, 5, 6, none⟩])) = true ∧
    after (exec (.comparatorChange 6143 true) sMon) (fun t => t.rd .ust_mon_cfg_cmp_high 6143 == 1
      && (t.mon 6143).highCnt == 0 && (t.mon 6143).lowCnt == 4) = true ∧
    after (exec (.monitorRead h0 6142 2 1 8) (run 5)) (fun t => flying t h0
      && decide ((t.mon 6143).want = some (1, 5) ∧ (t.mon 6141).want = none)) = true ∧
    after (exec (.calStatus h0 2 191 1 16) w) (fun t => due t h0 { status := .ok, res0 := (w.calRecords 2 191 1).length }) = true := by
  decide

/-- A monitor whose window of one frame runs since frame 9, under a command of mode 1. -/
def sWin : State :=
  { (run 10).modMon 3 (fun x => { x with win := some { start := 9, len := 1, running := true, cmds := [0] } }) with
    loop := { ((run 10).modMon 3 (fun x => { x with
      win := some { start := 9, len := 1, running := true, cmds := [0] } })).loop with
        pwCmds := [{ num := 0, owner := o0, mode := 1, buf := 64, first := 3, rings := false, remote := none, waiting := [3] }] } }

/-- A monitor whose window waits for its start. -/
def sPend : State := (run 10).modMon 3 (fun x => { x with win := some { start := 10, len := 5 } })

theorem wit_PrecisionWindowsRun :
    (((run 1).wr .ust_pw_cfg_src 6143 2).rd .ust_pw_cfg_src 6143 ≠ 0) ∧
    (let s := (run 1).wr .ust_pw_cfg_mode 6143 2
     s.rd .ust_pw_cfg_src 6143 = 0 ∧ s.rd .ust_pw_cfg_mode 6143 = 2 ∧ s.inPass (monCpt 6143) = false
      ∧ s.fenced (monCpt 6143) = false ∧ (s.mon 6143).cont = false ∧ (s.mon 6143).win = none) ∧
    ((sPend.mon 3).win = some { start := 10, len := 5 } ∧ 10 ≤ sPend.loop.frames ∧ (sPend.mon 3).noStart ≤ sPend.loop.frames ∧ sPend.switchDue 3 = false) ∧
    ((sWin.mon 3).win = some { start := 9, len := 1, running := true, cmds := [0] } ∧ 9 + 1 ≤ sWin.loop.frames
      ∧ (sWin.mon 3).queue = none ∧ (sWin.loop.pwCmds.find? (fun c => c.num == 0)).isSome = true) ∧
    ((pwLenOf 65535).isSome = true ∧ (w.holdsMons 0 6143 1) = true ∧ (run 1).inPass (monCpt 6143) = false
      ∧ (run 1).fenced (monCpt 6143) = false ∧ ((run 1).mon 6143).win = none ∧ ((run 1).mon 6143).cont = false
      ∧ ((run 1).wr .dtm_trig_cfg_mode 3 1).rd .dtm_trig_cfg_mode 3 = 1) := by decide

theorem test_precision :
    after (exec (.pwGoWrite 6143) ((run 1).wr .ust_pw_cfg_mode 6143 1)) (fun t =>
      decide (((t.mon 6143).win.map (fun x => (x.start, x.len))) = some (2, 0x3F94))) = true ∧
    after (exec (.precisionWindowStart 3) sPend) (fun t => t.winRuns 3 && (t.mon 3).winSeq == 1
      && decide (((t.mon 3).win.map (fun x => x.len)) = some 16276)) = true ∧
    after (exec (.precisionWindowEnd 3 0) (flight0 sWin)) (fun t => decide ((t.mon 3).win = none)
      && ended t { status := .ok } && t.out.length == 1) = true ∧
    after (exec (.precisionMeasure h0 6143 1 5 1 1 0 16 ⟨0, 0, 0⟩ 65535) ((run 1).wr .dtm_trig_cfg_mode 3 1)) (fun t =>
      flying t h0 && t.rd .ust_pw_cfg_src 6143 == 5 && t.rd .ust_pw_cfg_len 6143 == 65535
      && decide ((t.mon 6143).armed = [0] ∧ (t.mon 6143).win = none)) = true := by decide

/-- The last group, its last monitor position due. -/
def sGrp : State := (run 20000).wr .cal_grp_status_pos 191 31

/-- That position taken over at frame 0, and judged. -/
def sTaken (judged : Bool) : State := sGrp.modGrp 191 (fun x => { x with taken := true, judged := judged })

/-- Its return begun three frames ago, for the next position or for a system calibration. -/
def sBack (back : Bool) : State := sGrp.modGrp 191 (fun x => { x with
  taken := true, returnAt := some 19997, back := back, pendingCoefs := some [{ offset := 9, gain := 8 }] })

theorem wit_BenchmarkRotationRuns :
    (sGrp.rd .cal_grp_status_pos 191 = 31 ∧ sGrp.rotates 191 = true ∧ (sGrp.grp 191).taken = false
      ∧ (sGrp.grp 191).back = false ∧ (sGrp.grp 191).returnAt = none ∧ (sGrp.grp 191).due ≤ sGrp.loop.frames ∧ sGrp.winRuns (grpMon 191 31) = false) ∧
    ((sTaken false).rotates 191 = true ∧ ((sTaken false).grp 191).taken = true ∧ ((sTaken false).grp 191).judged = false
      ∧ ((sTaken false).grp 191).due + 15363 ≤ (sTaken false).loop.frames
      ∧ judge (((sTaken false).grp 191).slice 31).coefs [(500, 1000, 200)] = 0
      ∧ judge (((sTaken false).grp 191).slice 31).coefs [(500, 1000, -201)] ≠ 0) ∧
    (((sTaken true).grp 191).judged = true ∧ ((sTaken true).grp 191).back = false ∧ ((sTaken true).grp 191).returnAt = none
      ∧ ((sTaken true).grp 191).due + 16381 ≤ (sTaken true).loop.frames ∧ (sTaken true).winRuns (grpMon 191 31) = false) ∧
    (∀ b, ((sBack b).grp 191).returnAt = some 19997 ∧ 19997 + 3 ≤ (sBack b).loop.frames ∧ ((sBack b).grp 191).back = b) ∧
    (let s := (sTaken true).wr .cal_grp_status_pos 191 32
     s.rd .cal_grp_status_pos 191 = 32 ∧ s.rotates 191 = true ∧ (s.grp 191).taken = true ∧ (s.grp 191).judged = true
       ∧ (s.grp 191).back = false ∧ (s.grp 191).returnAt = none ∧ (s.grp 191).due + 16384 ≤ s.loop.frames) ∧
    ((w.modMb 0 (fun b => { b with unlocks := [⟨2, 0, 0, 0⟩] })).covers 0xB0000 .cal_rot_ctrl_en 0 = true) ∧
    (10000000000 < ((run 9765626).loop.frames - ((run 9765626).grp 5).acceptedAt) * 1024) ∧
    (let s := { w with loop := { w.loop with frames := 101376 } }
     s.inPass 3 = true ∧ (s.cpt 3).passFrom + 101376 ≤ s.loop.frames) := by decide

theorem test_rotation :
    after (exec (.benchmarkTakeover 191) sGrp) (fun t => t.rd .ust_mon_cfg_subst 6143 == 1 && (t.grp 191).taken
      && (t.grp 191).due == 20000 && decide ((t.mon 6143).spans = [⟨2, 20000, 20002, none⟩])) = true ∧
    after (exec (.benchmarkResult 191 [(500, 1000, 200)]) (sTaken false)) (fun t => (t.grp 191).judged
      && (t.grp 191).pendingCoefs.isSome && ((t.grp 191).slice 31).rejects == 0) = true ∧
    after (exec (.benchmarkResult 191 [(501, 0, 0)]) (sTaken false)) (fun t => (t.grp 191).pendingCoefs.isNone
      && ((t.grp 191).slice 31).rejects == 1 && t.rd .cal_grp_status_rej_cnt 191 == 1) = true ∧
    after (exec (.benchmarkReturn 191) (sTaken true)) (fun t => t.rd .ust_mon_cfg_subst 6143 == 0
      && t.rd .cal_grp_status_pos 191 == 31 && decide ((t.grp 191).returnAt = some 20000)) = true ∧
    (((sBack false).endReturn 191).rd .cal_grp_status_pos 191 = 32 ∧ ((sBack true).endReturn 191).rd .cal_grp_status_pos 191 = 31
      ∧ ((((sBack true).endReturn 191).grp 191).slice 31).coefs = [{ offset := 9, gain := 8 }]) ∧
    after (exec (.benchmarkReturn 191) ((sTaken true).wr .cal_grp_status_pos 191 32)) (fun t =>
      t.rd .cal_grp_status_pos 191 == 0 && t.rd .cal_grp_status_rot_cnt 191 == 1) = true ∧
    after (exec (.calibrationStale 5) (run 9765626)) (fun t => t.rd .cal_grp_status_stale 5 == 1) = true := by decide

/-- Compartment 3 in system calibration, its latest step 1. -/
def sCal (step : Nat) : State := ((run 700).wr .cal_syscal_status_active 3 1).wr .cal_syscal_status_step 3 step

/-- Its last group with its last monitor taken over. -/
def sSub : State := ((sTaken false).wr .cal_syscal_status_active 3 0).wr .ust_mon_cfg_subst 6143 1

theorem wit_SystemCalibrationRuns :
    (sSub.rd .cal_syscal_status_active 3 = 0 ∧ sSub.inPass 3 = false ∧ sSub.fenced 3 = false ∧ (sSub.grp 191).taken = true
      ∧ sSub.rd .cal_grp_status_pos 191 < 32 ∧ sSub.bit .ust_mon_cfg_subst (grpMon 191 31) = true
      ∧ sSub.bit .ust_mon_cfg_failed (grpMon 191 31) = false) ∧
    ((run 1).rd .cal_syscal_status_active 3 = 0 ∧ (run 1).inPass 3 = false ∧ (run 1).fenced 3 = false) ∧
    (sCal 1).outOfOrder 3 1 = false ∧ (sCal 5).outOfOrder 3 5 = false ∧ (sCal 6).outOfOrder 3 6 = false ∧
    (sCal 1).rd .cal_syscal_status_active 3 ≠ 0 ∧
    600000000000 ≤ ((run 585937500).loop.frames - ((run 585937500).cpt 0).stepAt) * 1024 := by decide

theorem test_sysCal :
    after (exec (.syscalStepAbort h0 3) (sCal 1)) (fun t => due t h0 { status := .ok }
      && t.rd .cal_syscal_status_active 3 == 0) = true ∧
    after (exec (.syscalStepBegin h0 3) (run 1)) (fun t => due t h0 { status := .ok }
      && t.rd .cal_syscal_status_active 3 == 1 && t.rd .cal_grp_status_stopped 191 == 1) = true ∧
    after (exec (.syscalTimeout 0) ((run 585937500).wr .cal_syscal_status_active 0 1)) (fun t =>
      t.rd .cal_syscal_status_active 0 == 0) = true := by decide

/-- The compartments unlocked for writing by the device unlock of MB0. -/
def unl (s : State) : State := s.modMb 0 (fun b => { b with unlocks := [⟨2, 0, 0, 0⟩] })

/-- Element `e` changed by `f` at frame 80, a boundary of every compartment. -/
def elm (e : Nat) (f : Elem → Elem) : State := (run 80).modEl e f

theorem wit_VmodeProtectionAndClearsRun :
    (w.vOff 9215 = false ∧ 1 ≤ ((elm 9215 (fun x => { x with state := 4 })).el 9215).state) ∧
    (w.wr .ust_vdac_status_oc 9215 1).rd .ust_vdac_status_oc 9215 ≠ 0 ∧
    48 * 3 + 47 ∉ w.loop.tripped ∧
    ((elm 9215 (fun x => { x with held := true })).el 9215).held = true ∧
    ((elm 9215 (fun x => { x with held := true })).el 9215).play = [] ∧
    ((elm 9215 (fun x => { x with play := [4, 5] })).el 9215).play = 4 :: [5] ∧
    (((run 80).el 9215).play = [] ∧ ((run 80).el 9215).held = false) ∧
    (2 ^ 20 - 1 < 2 ^ 20 ∧ w.atClear 9215 = true) ∧
    (w.loop.clrLow = false ∧ w.loop.heatClear = false) ∧
    ({ w with loop := { w.loop with clrLow := true } } : State).loop.clrLow = true ∧
    (let s := ((run 80).modCpt 3 (fun c => { c with returnAt := some 78 })).modEl 9215 (fun x => { x with state := 5 })
     (s.cpt 3).returnAt = some 78 ∧ s.nextBoundary 3 78 = true ∧ s.loop.clrLow = false ∧ s.writesReach = true
       ∧ isV 9215 = true ∧ elemCpt 9215 = 3 ∧ s.vOff 9215 = false ∧ (s.el 9215).sched = none ∧ (s.el 9215).state ∈ [1, 2, 4, 5]) := by
  decide +kernel

theorem test_protection :
    after (exec (.vmodeOvercurrent 9215) (elm 9215 (fun x => { x with state := 4 }))) (fun t =>
      (t.el 9215).state == 5 && t.rd .ust_vdac_status_oc 9215 == 1) = true ∧
    after (exec (.ocClearWrite 9215) (w.wr .ust_vdac_status_oc 9215 1)) (fun t => t.rd .ust_vdac_status_oc 9215 == 0
      && (t.el 9215).waiting) = true ∧
    after (exec (.groupLimiterTrip 3 47) w) (fun t => t.loop.tripped == [191]
      && decide (t.flt.reports = [{ src := 0x17, objKind := 3, obj := 3, detail := 47 }])) = true ∧
    after (exec (.gtripClearWrite 3) { w with loop := { w.loop with tripped := [0, 143, 144, 191] } }) (fun t =>
      t.loop.tripped == [0, 143]) = true ∧
    after (exec (.deglitchRelease 9215) (elm 9215 (fun x => { x with held := true, drive := 9 }))) (fun t =>
      !(t.el 9215).held && (t.el 9215).out == 9) = true ∧
    after (exec (.deglitchRelease 9215) (elm 9215 (fun x => { x with held := true, play := [4, 5] }))) (fun t =>
      (t.el 9215).held && (t.el 9215).out == 4 && (t.el 9215).play == [5]) = true ∧
    after (exec (.ustVclrWrite 9215 7) w) (fun t => t.rd .ust_vclr_code 9215 == 7 && (t.el 9215).out == 7) = true ∧
    after (exec .clrNRelease { run 80 with loop := { (run 80).loop with clrLow := true } }) (fun t => !t.loop.clrLow
      && decide ((t.cpt 3).returnAt = some 80 ∧ (t.cpt 0).resumeAt = some 80)) = true ∧
    after (exec (.clrNReturn 3) (((run 80).modCpt 3 (fun c => { c with returnAt := some 78 })).modEl 9215
      (fun x => { x with state := 5 }))) (fun t => (t.el 9215).state == 3 && decide ((t.cpt 3).returnAt = none)) = true := by decide +kernel

/-- A range change to LO, asked for in frame 80 − `d`. -/
def rch (d : Nat) : RangeChg := { at0 := 80 - d, hi := false }

/-- A jump of three equal impulses 10 ns apart, begun in frame 79, from 0 to 65,536. -/
def jmp (played : Nat) : Jump :=
  { vs := 0, vt := 65536, at0 := 79, played := played, goal := .target
    prof := { count := 3, t2 := 1, t3 := 2, a1 := 16384, a2 := 16384 } }

/-- An element map with element 9215 present. -/
def map1 : EMap := { elems := [(9215, { flags := 1 })] }

theorem wit_RangesAndTrajectoriesRun :
    (let s := { unl (run 80) with map := { force := some map1 } }
     s.covers (vOffset 9215 0x8000) .ust_vdac_cfg_range 9215 = true ∧ s.frozen = false ∧ firstStatus (s.rangeChecks 9215 (!s.rangeHi 9215)) = none) ∧
    ((rch 1).started = false ∧ (rch 1).at0 < (run 80).loop.frames ∧ (run 80).writesReach = true
      ∧ { (run 80) with stand := { (run 80).stand with openA := false } }.writesReach = false
      ∧ ((elm 9215 (fun x => { x with state := 2 })).el 9215).state ≠ 0 ∧ ((run 80).el 9215).state = 0) ∧
    (let r := { rch 24 with started := true, switched := true }
     r.switched = true ∧ r.ramping = false ∧ r.at0 + 24 ≤ (run 80).loop.frames) ∧
    (let r := { rch 19 with started := true }
     r.started = true ∧ r.switched = false ∧ r.at0 + 19 ≤ (run 80).loop.frames) ∧
    ((rch 24).at0 + 24 ≤ (run 80).loop.frames ∧ (rch 43).at0 + 43 ≤ (run 80).loop.frames) ∧
    ((jmp 2).ended = false ∧ (jmp 2).played < (jmp 2).prof.count ∧ (run 80).impulseDue (jmp 2) 3 = true
      ∧ (elm 9215 (fun x => { x with waiting := false, jump := some (jmp 2) })).atClear 9215 = false
      ∧ (jmp 2).clr = none ∧ ({ jmp 2 with clr := some 1 } : Jump).clr.isSome = true ∧ w.heatHeld 9216 = false
      ∧ isV 9215 = true ∧ w.vOff 9215 = false ∧ w.gateHeld 9215 = false ∧ isV 9216 = false
      ∧ w.clrHeld (elemCpt 9215) = false) ∧
    ((jmp 3).prof.count ≤ (jmp 3).played
      ∧ (jmp 3).endsAt < ((run 80).loop.frames + 1) * 102400) ∧
    ((jmp 0).prof.ok = true ∧ (unl w).covers (0x100000 + 3 * 0x40000 + 0x3F100 + 16 * 15) .ust_profile_count (profIdx 3 15) = true) ∧
    (((run 80).el 10239).amp ≠ (run 80).pampOf 10239 ∨ ((run 80).wr .ust_hpwm_mode_pamp 1023 3).pampOf 10239 = 3) ∧
    (run 80).atBoundary 3 = true := by decide +kernel

theorem test_ranges :
    after (exec (.vdacRangeWrite 9215 (!w.rangeHi 9215)) { unl (run 80) with map := { force := some map1 } })
      (fun t => decide ((t.el 9215).rchg = some { at0 := 80, hi := !w.rangeHi 9215 })) = true ∧
    after (exec (.rangeChangeStart 9215) (elm 9215 (fun x => { x with state := 2, rchg := some (rch 1) }))) (fun t =>
      t.rd .ust_vdac_status_rchg 9215 == 1 && decide ((t.el 9215).rchg = some { at0 := 80, hi := false, started := true })) = true ∧
    after (exec (.rangeSwitch 9215) (elm 9215 (fun x => { x with state := 2, out := 5, rchg := some { rch 19 with started := true } })))
      (fun t => t.rd .ust_vdac_status_range_act 9215 == 0 && (t.el 9215).out == 0) = true ∧
    after (exec (.rangeRampUp 9215) (elm 9215 (fun x => { x with state := 2, rchg := some { rch 24 with started := true, switched := true } })))
      (fun t => decide ((t.el 9215).rchg = some { rch 24 with started := true, switched := true, ramping := true })) = true ∧
    after (exec (.rangeChangeEnd 9215) (elm 9215 (fun x => { x with
      state := 2, rchg := some { rch 43 with started := true, switched := true, ramping := true, back := 12 } }))) (fun t =>
      (t.el 9215).out == 12 && decide ((t.el 9215).rchg = none)) = true ∧
    after (exec (.profileImpulse 9216 false) (elm 9216 (fun x => { x with state := 3, waiting := false, jump := some (jmp 1) }))) (fun t =>
      decide ((t.el 9216).jump = some (jmp 2))) = true ∧
    after (exec (.profileImpulse 9215 true) (elm 9215 (fun x => { x with waiting := false, drive := 9, djump := some (jmp 2) }))) (fun t =>
      (t.el 9215).drive == 9 && (t.el 9215).play == [65536] && decide ((t.el 9215).djump = some (jmp 3))) = true ∧
    after (exec (.trajectoryEnd 9215 true) (elm 9215 (fun x => { x with drive := 9, djump := some (jmp 3) }))) (fun t =>
      (t.el 9215).drive == 9 && decide ((t.el 9215).djump = none)) = true ∧
    after (exec (.trajectoryEnd 9216 false) (elm 9216 (fun x => { x with jump := some (jmp 3) }))) (fun t =>
      (t.el 9216).drive == 65536 && decide ((t.el 9216).jump = some { jmp 3 with ended := true })) = true ∧
    after (exec (.ustProfileWrite 3 15 3 0 1 2 0 16384 16384 0) (unl w)) (fun t =>
      decide (t.profReg 63 = (jmp 0).prof)) = true ∧
    after (exec (.pilotAmplitudeChange 10239) ((run 80).wr .ust_hpwm_mode_pamp 1023 3)) (fun t => (t.el 10239).amp == 3) = true := by
  decide +kernel

/-- The last heater's registers at a period of 1,000 ticks and a dead time of 10, out of high impedance. -/
def sHeat : State := (((run 80).wr .ust_hpwm_cfg_per 1023 1000).wr .ust_hpwm_cfg_dead 1023 10).wr .ust_hpwm_status_hiz 1023 0

theorem wit_HmodeChannelsRun :
    (sHeat.periodStart 1023 8000 = some 8000 ∧ sHeat.periodStart 1023 8099 = none ∧ sHeat.rd .ust_hpwm_status_hiz 1023 = 0 ∧ sHeat.rd .ust_hpwm_mode_src 1023 = 0
      ∧ (sHeat.wr .ust_hpwm_mode_src 1023 1).rd .ust_hpwm_mode_src 1023 ≠ 0
      ∧ (sHeat.wr .ust_hpwm_status_hiz 1023 1).rd .ust_hpwm_status_hiz 1023 ≠ 0) ∧
    ((unl w).covers (hOffset 1023 0x20400) .ust_hpwm_mode_src 1023 = true
      ∧ ((elm 10239 (fun x => { x with state := 4 })).el (hElem 1023)).state = 4
      ∧ (elm 10239 (fun x => { x with state := 4 })).rd .ust_hpwm_mode_src 1023 = 0) ∧
    (let s := ((run 80).wr .ust_hpwm_mode_src 1023 1).modHc 10239 (fun c => { c with due := [2] })
     (s.wr .ust_hpwm_mode_auto 1023 1).rd .ust_hpwm_mode_auto 1023 ≠ 0 ∧ 2 ∈ (s.hc (hElem 1023)).due
       ∧ (s.wr .ust_hpwm_mode_auto 1023 0).rd .ust_hpwm_mode_auto 1023 = 0
       ∧ (s.wr .ust_hpwm_mode_pcommit 1023 1).rd .ust_hpwm_mode_pcommit 1023 ≠ 0) ∧
    (let s := { w with loop := { w.loop with fbHeat := [3] } }
     s.tripActive 3 ≠ 0 ∧ s.rd .ust_htrip_trip 3 = 0 ∧ (s.wr .ust_htrip_trip 3 1).rd .ust_htrip_trip 3 ≠ 0) ∧
    (w.tripActive 3 = 0) ∧
    (let s := ((run 80).modCpt 3 (fun c => { c with resumeAt := some 78 })).modEl 10239 (fun x => { x with state := 2 })
     (s.cpt 3).resumeAt = some 78 ∧ s.nextBoundary 3 78 = true ∧ s.rd .ust_htrip_trip 3 = 0 ∧ s.loop.clrLow = false
       ∧ s.loop.heatClear = false ∧ s.writesReach = true ∧ s.latched (hElem 1023) = false ∧ (s.el (hElem 1023)).jump = none
       ∧ (s.el (hElem 1023)).state = 2 ∧ s.rd .glb_cpt_svc_in_crst 3 = 0) := by decide +kernel

theorem test_hmode :
    after (exec (.hmodePeriodBoundary 1023 0 0) ((sHeat.wr .ust_hpwm_status_hiz 1023 1).wr .ust_hpwm_act_b_act 1023 5)) (fun t =>
      t.rd .ust_hpwm_act_a_act 1023 == 0 && t.rd .ust_hpwm_act_b_act 1023 == 0) = true ∧
    after (exec (.hpwmSrcWrite 1023 true) ((unl (elm 10239 (fun x => { x with state := 4 }))).wr .ust_hpwm_act_b_act 1023 77))
      (fun t => t.rd .ust_hpwm_mode_src 1023 == 1 && (t.hc 10239).b0 == 77) = true ∧
    after (exec (.shadowTransfer 1023 2) (((sHeat.wr .ust_hpwm_mode_src 1023 1).wr .ust_hpwm_shcmp_b_sh 1023 88).wr
      .ust_hpwm_mode_auto 1023 1 |>.modHc 10239 (fun c => { c with due := [2] }))) (fun t => (t.hc 10239).b0 == 88
      && (t.hc 10239).due == []) = true ∧
    after (exec (.hmodeLeakage 1023) (sHeat.modEl 10239 (fun x => { x with state := 1 }))) (fun t =>
      t.rd .ust_hpwm_status_leak 1023 == 1 && t.rd .ust_hpwm_status_hiz 1023 == 1 && (t.el 10239).state == 5) = true ∧
    after (exec (.tripSourceAssert 3) { sHeat with loop := { sHeat.loop with fbHeat := [3] } }) (fun t =>
      t.rd .ust_htrip_trip 3 == 1 && t.rd .ust_hpwm_status_hiz 1023 == 1) = true ∧
    after (exec (.swtripWrite 3) sHeat) (fun t => t.rd .ust_htrip_cause 3 == 16) = true ∧
    after (exec (.tripClearWrite 3) (sHeat.wr .ust_htrip_trip 3 1)) (fun t => t.rd .ust_htrip_trip 3 == 0
      && decide ((t.cpt 3).resumeAt = some 80)) = true ∧
    after (exec (.tripClearWrite 3) ({ sHeat with loop := { sHeat.loop with fbHeat := [3] } }.wr .ust_htrip_trip 3 1)) (fun t =>
      t.rd .ust_htrip_trip 3 == 1 && t.rd .ust_htrip_refused 3 == 1) = true := by decide +kernel

/-! ## The Stands -/

/-- Frame 80 with the shadow ELIGIBLE. -/
def sBat : State := (run 80).setStand 1 2

/-- A handover from Stand A to Stand B in progress. -/
def sHand : State := sBat.modStand (fun x => { x with handover := some { cause := 1, src := 0, dst := 1 } })

/-- A commanded handover of the command of number 0, admitted in frame 78. -/
def sCmd : State := flight0 (sBat.modStand (fun x => { x with command := some (78, 1, some o0) }))

theorem wit_StandFaultCausesAct :
    ((0 : Nat) ≠ (w.wr .glb_baton_status_holder 0 1).holder ∧ w.standState 0 ≠ 0 ∧ (1 : Nat) ≠ w.holder ∧ w.standState 1 ≠ 0) ∧
    ((0 : Nat) = sBat.holder ∧ sBat.standState 0 ≠ 0 ∧ sBat.frozen = false ∧ sBat.stand.handover = none ∧ sBat.eligible = true) ∧
    w.boot.clkref = true := by decide +kernel

theorem test_standFaults :
    after (exec (.standEccError 1) sBat) (fun t => t.standState 1 == 0 && t.stand.reset == [1] && t.holder == 0
      && t.rd .stx_stand_status_diag 65536 == 2) = true ∧
    after (exec .heartbeatMissing sBat) (fun t => t.holder == 1 && t.standState 1 == 3 && t.standState 0 == 0
      && t.rd .glb_baton_status_last_cause 0 == 6) = true ∧
    after (exec .clkrefLoss w) (fun t => !t.boot.clkref && !t.host.admission && t.rd .flt_err_latch 0 == 1) = true := by decide +kernel

theorem wit_BatonHandoversComplete :
    (let h : Handover := { cause := 1, src := 0, dst := 1 }
     sHand.stand.handover = some h ∧ h.held = [] ∧ h.src + h.dst = 1 ∧ h.overlap = []) ∧
    (let s := sBat.wr .glb_baton_cfg_ext_en 0 1
     s.rd .glb_baton_cfg_ext_en 0 ≠ 0 ∧ s.standState s.holder = 3 ∧ s.eligible = true ∧ s.stand.handover = none) ∧
    (let s := w.wr .glb_baton_cfg_ext_en 0 1
     s.rd .glb_baton_cfg_ext_en 0 ≠ 0 ∧ s.standState s.holder = 3 ∧ s.eligible = false) ∧
    (sBat.eligible = true ∧ sBat.frozen = false ∧ sBat.standBusy = false) ∧
    (sCmd.stand.command = some (78, 1, some o0) ∧ 78 + 2 ≤ sCmd.loop.frames ∧ sCmd.frame % 40 = 0 ∧ sCmd.eligible = true) := by
  decide +kernel

theorem test_handover :
    after (exec .interlockConfirm sHand) (fun t => t.stand.openB && !t.stand.openA && decide (t.stand.handover = none)) = true ∧
    after (exec .interlockTimeout sHand) (fun t => !t.stand.openB && !t.stand.openA && t.rd .glb_baton_status_frozen 0 == 1) = true ∧
    after (exec .ilkForce (sBat.wr .glb_baton_cfg_ext_en 0 1)) (fun t => t.holder == 1 && t.standState 0 == 1) = true ∧
    after (exec .ilkForce (w.wr .glb_baton_cfg_ext_en 0 1)) (fun t => t.holder == 0 && t.rd .glb_baton_status_ign_cnt 0 == 1) = true ∧
    after (exec (.standHandoverHandover h0) sBat) (fun t => flying t h0 && t.holder == 0) = true ∧
    after (exec .commandedHandover sCmd) (fun t => t.holder == 1 && t.standState 1 == 3 && ended t { status := .ok }) = true := by
  decide +kernel

/-- The shadow OFFLINE at frame 80. -/
def sDown : State := (run 80).setStand 1 0

/-- The holder FROZEN, the shadow's copy complete. -/
def sFrz : State := (sDown.wr .glb_baton_status_frozen 0 1).modStand (fun x => { x with copying := some (1, []) })

/-- The shadow SYNCING with every compartment matched, under the command of number 0. -/
def sSync : State := flight0 ((((((run 80).setStand 1 1).wr .stx_sync_sync_cnt 65536 64).wr .stx_sync_sync_cnt 65537 64).wr
  .stx_sync_sync_cnt 65538 64).wr .stx_sync_sync_cnt 65539 64 |>.modStand (fun x => { x with returnBy := [(none, 90), (some o0, 90)] }))

theorem wit_StandReturnsComplete :
    (w.frozen = false ∧ (w.standState w.shadow = 1 ∨ w.standState w.shadow = 2)) ∧ sDown.standState sDown.shadow = 0 ∧
    ((sDown.modStand (fun x => { x with copying := some (1, []) })).stand.copying = some (1, []) ∧ sDown.frozen = false) ∧
    (sFrz.stand.copying = some (1, []) ∧ sFrz.frozen = true ∧ 1 ≠ sFrz.holder) ∧
    (sSync.standState sSync.shadow = 1 ∧ sSync.stand.copying = none ∧ sSync.synced = true ∧ sSync.frozen = false
      ∧ sSync.boot.actStep = 0 ∧ (some o0, 90) ∈ sSync.stand.returnBy) ∧
    (let s := (elm 10239 (fun x => { x with state := 3 })).modStand (fun x => { x with resume := [3] })
     3 ∈ s.stand.resume ∧ s.atBoundary 3 = true ∧ elemCpt 10239 = 3 ∧ (s.el 10239).state = 3) := by decide +kernel

theorem test_return :
    after (exec (.standHandoverRelease h0) sBat) (fun t => due t h0 { status := .ok } && t.standState 1 == 0) = true ∧
    after (exec (.standHandoverReturn h0) sDown) (fun t => flying t h0 && t.standState 1 == 1
      && decide (t.stand.copying = some (1, [0, 1, 2, 3]))) = true ∧
    after (exec .standCopyComplete sFrz) (fun t => t.holder == 1 && t.standState 1 == 3 && t.standState 0 == 0
      && t.stand.resume == [0, 1, 2, 3]) = true ∧
    after (exec .standEligible sSync) (fun t => t.standState 1 == 2 && ended t { status := .ok }) = true := by decide +kernel

/-- Compartment 3 fenced at frame 80, with service `v`. -/
def sFen (v : Svc) : State := ((run 80).wr .glb_cpt_svc_fenced 3 1).modSvc 3 (fun _ => v)

theorem wit_CompartmentServiceCompletes :
    (w.fenced 3 = false ∧ (w.svc 3).fenceAt = none) ∧
    ((sFen {}).fenced 3 = true ∧ (sFen {}).svcBusy 3 = false) ∧
    (let s := { w with flt := { w.flt with fencePending := [3] } }
     s.fenced 3 = false ∧ 3 ∈ s.flt.fencePending) ∧
    (let s := (run 80).modSvc 3 (fun v => { v with fenceAt := some (78, []) })
     s.fenced 3 = false ∧ 3 ∉ s.flt.fencePending ∧ (s.svc 3).fenceAt = some (78, []) ∧ s.nextBoundary 3 78 = true) ∧
    (let s := (sFen { reset := some o0 }).modEl 10239 (fun x => { x with state := 6 })
     s.flt.drstPending = false ∧ (s.svc 3).reset = some o0 ∧ s.rd .glb_cpt_svc_in_crst 3 = 0 ∧
       ∀ p ∈ s.loop.elems, elemCpt p.1 = 3 → p.2.rchg = none) ∧
    (((sFen { reset := some o0 }).wr .glb_cpt_svc_in_crst 3 1).rd .glb_cpt_svc_in_crst 3 ≠ 0) ∧
    (let s := sFen { rejoin := some o0, passed := true }
     (s.svc 3).rejoin = some o0 ∧ (s.svc 3).passed = true ∧ s.atBoundary 3 = true ∧ s.writesReach = true
       ∧ (s.setStand 1 2).eligible = true) := by decide +kernel

theorem test_service :
    after (exec (.compartmentServiceFence h0 3) w) (fun t => flying t h0) = true ∧
    after (exec (.compartmentServiceReset h0 3) (sFen {})) (fun t => flying t h0 && decide ((t.svc 3).reset = some o0)) = true ∧
    after (exec (.compartmentServiceRejoin h0 3) (sFen {})) (fun t => (t.cpt 3).pass && t.rd .glb_cpt_svc_rejoining 3 == 1) = true ∧
    after (exec (.rejoin 3) (flight0 ((sFen { rejoin := some o0, passed := true }).setStand 1 2))) (fun t => !t.fenced 3 && t.standState 1 == 1
      && ended t { status := .ok }) = true ∧
    after (exec (.crstComplete 3) (flight0 ((sFen { reset := some o0 }).wr .glb_cpt_svc_in_crst 3 1))) (fun t =>
      t.rd .glb_cpt_svc_in_crst 3 == 0 && ended t { status := .ok }) = true := by decide +kernel

/-! ## Traverse -/

/-- A map of two ports with no cell. -/
def map2 : EMap := { topology := 3, ports := 2 }

/-- Frame 80 with that map in force, Datum P LOCKED, flash writes open. -/
def sTrv : State := { (((run 80).wr .dtm_status_p_state 0 3).wr .hkp_flash_inhibit 0 0).modMb 0 (fun b => { b with busMaster := true }) with map := { force := some map2 } }

/-- That state with an empty slot 4,095 valid. -/
def sSlot : State := sTrv.modTrv (fun x => { x with slots := [(4095, { valid := true })] })

/-- A commit of the command of number 0 with an empty permutation. -/
def job0 : Job := { h := h0, owner := some o0, commit := true, slot := 0xFFFF, gen := 0, perm := [], mind := false, maxDist := 512 }

/-- The time 1 ms after frame 80. -/
def tm1 : DTime := timeOf ((run 80).datum.t + 1000000 * tickNs)

/-- Chain enumeration complete with two modules, this one the root. -/
def sEnum : State := { (sSlot.wr .chp_fab_root 0 1).wr .chp_fab_state 0 2 with fab := { sSlot.fab with depths := [0, 1] } }

theorem wit_LibraryAndSolvesComplete :
    (sTrv.permBad (sTrv.writtenPerm 4095 511 1 1 [0]) = false ∧ sTrv.holdsSlot 0 4095 = true ∧ sTrv.noTrv = false
      ∧ sTrv.mapAway = false ∧ sTrv.flashRefused = false) ∧
    (sSlot.holdsSlot 0 4095 = true ∧ sSlot.noTrv = false ∧ (sSlot.slot 4095).valid = true) ∧
    (sSlot.solveBad h0 0 1 4095 0xFFFF 0 16 16 = false ∧ sSlot.badBuf h0 0x10 16 576 = false ∧ sSlot.permBad (sSlot.slot 4095).perm = false
      ∧ sSlot.solveBad h0 1 0 4095 512 0 0 16 = false ∧ sSlot.permBad (sSlot.asked 1 4095 []) = false) ∧
    (let s := sTrv.modTrv (fun x => { x with waiting := [job0] })
     s.trv.running = none ∧ s.trv.waiting = job0 :: []) ∧
    (sTrv.trv.running ≠ none ∨ sTrv.trv.waiting = []) ∧
    ((sTrv.modTrv (fun x => { x with running := some job0 })).trv.running = some job0) ∧
    (sSlot.solveBad h0 0 1 4095 0xFFFF 0 1 1 = false ∧ sSlot.execBad ⟨0, 0, 0⟩ = false ∧ sSlot.portOut 0 (sSlot.asked 0 4095 []) = false ∧ sSlot.execBad tm1 = false) ∧
    (sEnum.partsBad 2 [(1, 4095), (2, 0)] = false ∧ sEnum.leadBad tm1 [(1, 4095), (2, 0)] = false ∧ sEnum.locked = true
      ∧ sEnum.rd .dtm_status_step_pend 0 = 0 ∧ sEnum.addr = 0 ∧ sEnum.mapAway = false) := by
  decide +kernel

theorem test_library :
    after (exec (.stateWrite h0 511 1 4095 1 1 0 1 [0]) sTrv) (fun t => due t h0 { status := .ok }
      && decide (t.slot 4095 = { valid := true, persist := true, gen := 1 } ∧ t.trv.boot = some 4095)) = true ∧
    after (exec (.stateRead h0 511 1 4095 4) sSlot) (fun t => due t h0 { status := .ok }
      && decide (t.out = [.hostWrite 0 4 [0, 0, 0, 0]])) = true ∧
    after (exec (.routeSolve h0 0 1 4095 0xFFFF 0 0 0 []) sSlot) (fun t => flying t h0 && t.trv.waiting.length == 1) = true ∧
    after (exec .solveStart (sTrv.modTrv (fun x => { x with waiting := [job0] }))) (fun t =>
      decide (t.trv.running = some job0) && t.rd .trv_qstatus_solving 0 == 1) = true ∧
    after (exec .solveComplete (sTrv.modTrv (fun x => { x with running := some job0 }))) (fun t =>
      t.trv.solved.length == 1 && t.rd .trv_solve_cnt_solves 0 == 1) = true ∧
    after (exec (.stateCommit h0 0 0 0 0 4095 512 0 ⟨0, 0, 0⟩ 0 0 0 [] []) sSlot) (fun t => flying t h0 && t.trv.seq == 1) = true ∧
    after (exec (.stateCommit h0 0 0 1 0 4095 512 0 tm1 2 0 0 [] [(1, 4095), (2, 0)]) sEnum) (fun t => flying t h0
      && decide (t.trv.chains.map (fun x => x.parts.length) = [2])) = true ∧
    after (exec (.clearingQuery h0 320 16) sTrv) (fun t => due t h0 { status := .ok }) = true := by decide +kernel

/-- That commit solved. -/
def solved0 : State := sTrv.modTrv (fun x => { x with solved := [job0] })

/-- A Clearing of that commit for a frame. -/
def clr (f : Nat) (armed : Bool) : Clearing :=
  { job := job0, fab := {}, sol := ⟨0, false, 0, [], 0⟩, crc := 0, frame := f, locked := true, armed := armed }

/-- A queue of that one Clearing. -/
def sQ (f : Nat) (armed : Bool) (origin : Option Nat) : State :=
  flight0 (sTrv.modTrv (fun x => { x with queue := [{ clr f armed with job := { job0 with origin := origin } }] }))

/-- A chain-scoped Clearing of the command of number 0 for a frame, over this module and module 2, the latter having accepted
or not. -/
def sChain (atomic acc : Bool) (f : Nat) : State :=
  flight0 (sEnum.modTrv (fun x => { x with chains := [{ job := { job0 with chain := true, clrId := 9, atomic := atomic }
                                                        frame := f, hops := 1, plist := 0
                                                        parts := [⟨1, 0, true, false, false, 0, 0, 0, 0⟩,
                                                                  ⟨2, 0, acc, false, false, 0, 0, 0, 0⟩] }] }))

/-- A message of the other participant. -/
def msg (phase : Nat) : ClrMsg := { phase := phase, clrId := 9, exec := tm1, slot := 4095, maxDist := 512 }

theorem wit_ClearingsRun :
    (let s := solved0
     let base := s.fabAt (s.jobFrame job0)
     let v := s.solveJob job0 base
     let diff := s.diffOf (s.jobFrame job0) v.bits
     s.trv.solved = job0 :: [] ∧ job0.origin = none ∧ s.permBad (s.mergedPerm job0.h job0.perm base) = false ∧
      firstStatus (s.queueChecks job0 (s.jobFrame job0) v diff) = none ∧ s.frozen = false ∧
      ∀ c ∈ s.trv.queue, c.frame ≤ s.jobFrame job0) ∧
    ((sQ 81 false none).trv.queue = [clr 81 false] ∧ 81 ≤ (sQ 81 false none).frame + 1) ∧
    ((sQ 80 true none).trv.queue = [clr 80 true] ∧ 80 ≤ (sQ 80 true none).frame) ∧
    (let s := sQ 90 false none
     (∀ x ∈ s.trv.chains, x.job.clrId ≠ 0) ∧ s.trv.queue.find? (fun c => ownClr 0 0 c) = some (clr 90 false)
       ∧ (clr 90 false).armed = false ∧ (clr 90 false).job.origin = none ∧ s.noTrv = false) ∧
    ((msg 1).slot < 4096 ∧ sSlot.execBad (msg 1).exec = false ∧ sSlot.noTrv = false ∧ (sSlot.slot 4095).valid = true
      ∧ sSlot.locked = true ∧ (msg 1).maxDist ≤ 512 ∧ sSlot.mapAway = false ∧ sSlot.permBad (sSlot.slot 4095).perm = false) ∧
    ((sChain true false 1000).chainOf 9).isSome = true ∧
    ((((sChain false false 1000).chainOf 9).map (fun x => (x.setPart 2 (fun p => { p with accepted := true })).allIn)) = some false) ∧
    ((((sChain false false 1000).chainOf 9).map (fun x => (x.job.atomic, x.deadline,
      (x.setPart 2 (fun p => { p with rejected := true, status := 1 })).allIn))) = some (false, false, false)) ∧
    ((((sChain true false 1000).chainOf 9).map (fun x => (x.job.atomic, x.deadline))) = some (true, false)) ∧
    ((((sChain true true 1000).chainOf 9).map (fun x => ((x.entered 2 (msg 5)).allIn,
      ((x.setPart 1 (fun p => { p with reported := true })).entered 2 (msg 5)).allIn))) = some (false, true)) ∧
    ((sQ 90 false (some 7)).trv.queue.find? (fun c => c.job.clrId == 0 && decide (c.job.origin = some 7))).isSome = true ∧
    (82 * tickFrame < (sChain true false 82).datum.t + tickFrame + (1250 + 1 * (sChain true false 82).hopDelay) * tickNs ∧
      (∃ p ∈ ((sChain true false 82).trv.chains.flatMap (fun x => x.parts)), p.accepted = false) ∧
      (∀ p ∈ ((sChain true false 82).trv.chains.flatMap (fun x => x.parts)), p.rejected = false) ∧
      ∀ p ∈ ((sChain true true 82).trv.chains.flatMap (fun x => x.parts)), p.accepted = true) ∧
    (let s := { sChain true true 82 with datum := { sEnum.datum with t := 100000 * tickFrame } }
     82 * tickFrame + max 1 (s.rd .trv_chain_report_to 0) * 1000 * tickNs ≤ s.datum.t) := by decide +kernel

theorem test_clearing :
    after (exec .clearingQueue solved0) (fun t => t.trv.solved == [] && decide (t.trv.queue.map (fun c => c.frame) = [82])) = true ∧
    after (exec .pointOfNoReturn (sQ 81 false none)) (fun t => t.trv.queue.all (fun c => c.armed)) = true ∧
    after (exec .clearingExecution (sQ 80 true none)) (fun t => t.trv.queue == []) = true ∧
    after (exec (.stateAbort h0 0) (sQ 90 false none)) (fun t => due t { h0 with tag := 0 } { status := .ok } && t.trv.queue == []) = true ∧
    after (exec (.clearingRequest 7 (msg 1)) sSlot) (fun t => decide (t.trv.waiting.map (fun j => (j.clrId, j.origin)) = [(9, some 7)])) = true ∧
    after (exec (.clearingAccept 2 (msg 2)) (sChain true false 1000)) (fun t => t.trv.chains.all (fun x => x.parts.all (fun p => p.accepted))) = true ∧
    after (exec (.clearingReject 2 { msg 3 with status := 0x18 }) (sChain true false 1000)) (fun t => t.trv.chains == []) = true ∧
    after (exec (.clearingReport 2 (msg 5)) (sChain true true 1000)) (fun t => decide (t.trv.chains.map (fun x => x.parts.map (fun p => p.reported)) = [[false, true]])) = true ∧
    after (exec (.clearingAbort 7 0) (sQ 90 false (some 7))) (fun t => t.trv.queue == []) = true ∧
    after (exec (.abortDeadline 9) (sChain true false 82)) (fun t => t.trv.chains == []) = true ∧
    after (exec (.reportTimeout 9) { sChain true true 82 with datum := { sEnum.datum with t := 100000 * tickFrame } }) (fun t =>
      t.trv.chains == []) = true := by decide +kernel

/-! ## Datum -/

/-- Port 3 the slave port of Datum P, its PTP messages answered. -/
def sSlave : State := (w.wr .dtm_ctrl_src0 0 1).wr .dtm_ctrl_port0 0 3

/-- A PTP message of domain 0 with a sequence number. -/
def ptp (ty seq : Nat) : Ptp := { msgType := ty, domain := 0, seq := seq, origin := 5000 }

/-- A port whose link is up after its HELLO, its role DOWN. -/
def sLink : State := ((w.wr .chp_status_link_up 3 1).wr .chp_status_hello_ok 3 1).wr .chp_status_role 3 2

theorem wit_DatumMessagesRun :
    (sSlave.atSlave 3 0 (ptp 0 9) = true ∧ sSlave.atSlave 3 0xB (ptp 11 9) = true ∧ (sSlave.wr .dtm_status_p_state 0 1).domState 0 = 1 ∧ (ptp 0 9).twoStep = false ∧ { ptp 0 9 with twoStep := true }.twoStep = true) ∧
    (let s := sSlave.modDom 0 (fun x => { x with awaiting := some (9, 4000, 0) })
     s.atSlave 3 8 (ptp 8 9) = true ∧ (s.dom 0).awaiting = some ((ptp 8 9).seq, 4000, 0)) ∧
    w.atSlave 3 0 (ptp 0 9) = false ∧
    (sLink.portReady 3 = true ∧ (sLink.sp 3).queue 7 = [] ∧ Tbl.get [] (sLink.sp 3).crown 7 = [] ∧ (sLink.pp 3).tsq.length < 64
      ∧ sLink.ptpRole 1 3 = 1 ∧ ptpProfile (ptp 2 9) 2 = true ∧ sLink.pdelayOn 3 = true
      ∧ sLink.sendDue 3 2 (oneSecond * 2 ^ sLink.rd .dtm_port_cfg_pd_exp 3 / 16) = true
      ∧ sLink.sendDue 3 1 (oneSecond / 2 ^ sLink.rd .dtm_port_cfg_log_sync 3) = true ∧ sLink.sendDue 3 5 oneSecond = true) ∧
    (ptpProfile (ptp 3 9) 3 = true ∧ ptpProfile (ptp 10 9) 0xA = true ∧ ptpProfile { ptp 3 9 with domain := 2 } 3 = false) ∧
    (let s := w.modPp 3 (fun x => { x with reqOpen := some (9, some 100), resp := some (9, 200, 300) })
     (s.pp 3).reqOpen = some (9, some 100) ∧ 9 = (ptp 10 9).seq ∧ (s.pp 3).resp = some (9, 200, 300)) := by decide +kernel

theorem test_ptp :
    after (exec (.syncReceived 3 (ptp 0 9) 1000) sSlave) (fun t => (t.dom 0).offset == 4000 && decide ((t.dom 0).lastSeq = some 9) && (t.dom 0).valid == 1) = true ∧
    after (exec (.followUpReceived 3 (ptp 8 9)) (sSlave.modDom 0 (fun x => { x with awaiting := some (9, 4000, 0) }))) (fun t =>
      (t.dom 0).offset == 1000 && decide ((t.dom 0).awaiting = none)) = true ∧
    after (exec (.announceReceived 3 { ptp 11 9 with gmClass := 6, utc := 37 }) sSlave) (fun t => (t.dom 0).gmClass == 6
      && (t.dom 0).utc == 37 && (t.dom 0).announced) = true ∧
    after (exec (.delayReqReceived 3) w) (fun t => t.rd .dtm_port_cfg_discard 3 == 1) = true ∧
    after (exec (.pdelayReqReceived 3 (ptp 2 9) 50 0) sLink) (fun t => (t.pp 3).tsq.length == 1
      && ((t.sp 3).queue 7).length == 2) = true ∧
    after (exec (.pdelayTransmit 3 70) sLink) (fun t => (t.pp 3).nextPdelay == 1
      && decide ((t.pp 3).reqOpen.map (fun x => x.1) = some 0)) = true ∧
    after (exec (.syncTransmit 3 1 0) sLink) (fun t => (t.pp 3).nextSync == 1 && ((t.sp 3).queue 7).length == 2) = true ∧
    after (exec (.announceTransmit 3 1) sLink) (fun t => decide (((t.sp 3).queue 7).map (fun f => f.frame) =
      [.ptp { msgType := 11, domain := 1, seq := 0, gmClass := 248 }])) = true := by decide +kernel

/-- Datum P (domain 0) in a state. -/
def sP (st : Nat) : State := (run 80).wr .dtm_status_p_state 0 st

/-- A state with a chain source of domain 0 whose port's link is down, 4 s after reset. -/
def late (s : State) : State :=
  let t := s.wr .dtm_ctrl_src0 0 1
  { t with datum := { t.datum with t := 4 * oneSecond } }

/-- Datum P LOCKED with AUTO_S, Datum S LOCKED with the same time. -/
def sAuto : State := ((sP 3).wr .dtm_status_s_state 0 3).wr .dtm_ctrl_auto_s 0 1

/-- Datum P with a source on PPS_IN, its time of day known since instant 0. -/
def sPps (st : Nat) : State := ((sP st).wr .dtm_ctrl_src0 0 2).modDom 0 (fun x => { x with tod := some 100, valid := 8, within := 16 })

/-- A grid step of 2 grids planned in frame 78, for the command of number 0. -/
def sStep : State := flight0 { sP 1 with datum := { (sP 1).datum with stepPlan := some (2, 7, 78), stepOwners := [o0] } }

theorem wit_DatumStatesAndPinsRun :
    (sAuto.domState 0 = 3 ∧ 0 = sAuto.pDom ∧ sAuto.rd .dtm_ctrl_auto_s 0 ≠ 0 ∧ sAuto.canSwitch = true
      ∧ (late sAuto).sourceLate 0 = true ∧ (late sAuto).sourceFails 0 = true ∧ sAuto.sourceLate 0 = false) ∧
    ((sP 1).domState 0 = 1 ∧ (sP 1).rd .dtm_ctrl_auto_s 0 = 0 ∧ sAuto.domState 1 = 3) ∧
    (let s := sPps 1
     s.rd .dtm_status_p_state 0 = 1 ∧ 8 ≤ (s.dom s.pDom).valid ∧ s.datum.stepPlan = none ∧ s.slavePort s.pDom = none
       ∧ (s.dom s.pDom).tod.isSome = true ∧ s.datum.firstDone = false ∧ s.datum.stepWanted = false) ∧
    (let s := (sPps 2).wr .dtm_status_s_state 0 1 |>.modDom 1 (fun x => { x with valid := 16, good := 16, traceable := true })
     s.rd .dtm_status_p_state 0 = 2 ∧ 16 ≤ (s.dom s.pDom).within ∧ s.srcOf s.pDom = 2 ∧ s.rd .dtm_status_s_state 0 = 1 ∧
       8 ≤ (s.dom (1 - s.pDom)).valid ∧ 16 ≤ (s.dom (1 - s.pDom)).good ∧ (s.dom (1 - s.pDom)).traceable = true) ∧
    (sStep.datum.stepPlan = some (2, 7, 78) ∧ sStep.stepPermitted 78 = true ∧ o0 ∈ sStep.datum.stepOwners ∧
      ∀ c ∈ sStep.loop.pwCmds, c.owner ≠ o0) ∧
    ((∀ c ∈ (sPps 3).trv.queue, c.job.exec = none) ∧ (sPps 3).canRestep = true ∧ (sPps 3).datum.stepPlan = none ∧
      (sPps 1).canRestep = true) ∧
    ((sPps 3).srcOf 0 = 2 ∧ ((sPps 3).dom 0).tod = some 100 ∧ ((sPps 3).dom 0).todAt + 10000000 * tickNs ≤ 10000000 * tickNs) ∧
    (w.srcOf 0 ≠ 2 ∧ w.srcOf 1 ≠ 2) := by decide +kernel

theorem wit_DatumStatesAndPinsRun_pins :
    (-(-((w.datum.t : Int) - 0) / (1000000000 * 65536)) * (1000000000 * 65536) + 0 < (w.datum.t : Int) + tickFrame
      ∧ signed 16 (w.rd .dtm_pps_cfg_out_ofs 0) * 65536 = 0 ∧ (w.rd .dtm_ctrl_pps_gate 0 = 0 ∨ (sP 3).locked = true)) ∧
    (let s := ((w.wr .dtm_trig_cfg_mode 3 3).wr .dtm_trig_pw_width 3 20).modTrig 3 (fun x => { x with armed := true, start := 5 })
     2 ≤ s.rd .dtm_trig_cfg_mode 3 ∧ s.rd .dtm_trig_cfg_mode 3 ≤ 4 ∧ (s.trig 3).armed = true ∧
       s.datum.t ≤ (s.trig 3).start + (s.trig 3).pulses * s.rd .dtm_trig_pw_period 3 * 65536 ∧
       (s.trig 3).start + (s.trig 3).pulses * s.rd .dtm_trig_pw_period 3 * 65536 < s.datum.t + tickFrame) ∧
    (let s := ((((run 1).wr .dtm_trig_cfg_mode 3 1).wr .dtm_trig_cfg_edge 3 1).wr .ust_pw_cfg_src 6143 5).wr .ust_pw_cfg_mode 6143 2
     s.rd .dtm_trig_cfg_mode 3 = 1 ∧ s.rd .dtm_trig_cfg_edge 3 = 1 ∧ s.host.sources = [] ∧ (s.trig 3).fifo.length < 16 ∧
       s.rd .ust_pw_cfg_src 6143 = 2 + 3 ∧ s.rd .ust_pw_cfg_mode 6143 = 2 ∧ s.inPass (monCpt 6143) = false ∧
       s.fenced (monCpt 6143) = false ∧ (s.mon 6143).win = none ∧ (s.mon 6143).cont = false) ∧
    (timeOk tm1 = true ∧ (unl w).covers (0x30410 + 0x40 * 3) .dtm_trig_start_ns 3 = true ∧
      (w.wr .dtm_trig_cfg_mode 3 2).rd .dtm_trig_cfg_mode 3 = 2 ∧ w.datum.t + 1000 * tickNs ≤ ticksOf tm1) ∧
    ((unl sAuto).covers 0x30000 .dtm_ctrl_p_dom 0 = true ∧ (1 : Nat) ≠ sAuto.pDom ∧ sAuto.datum.stepPlan = none) := by decide +kernel

theorem test_datum :
    after (exec (.sourceLost 0 true) (late sAuto)) (fun t => decide (t.datum.switchDue = some [])) = true ∧
    after (exec (.sourceLost 0 false) (late (sP 1))) (fun t => t.rd .dtm_status_p_state 0 == 0) = true ∧
    after (exec .datumAcquired (sPps 1)) (fun t => t.rd .dtm_status_step_pend 0 == 1
      && decide (t.datum.stepPlan = some (0, 0, 80))) = true ∧
    after (exec .datumAcquired (let s := (sPps 1).modDom 0 (fun x => { x with offset := 2 ^ 50 })
      { s with datum := { s.datum with firstDone := true } })) (fun t =>
      t.rd .dtm_status_p_state 0 == 4 && t.rd .dtm_status_big_ofs 0 == 1) = true ∧
    after (exec .datumLocked (sPps 2)) (fun t => t.rd .dtm_status_p_state 0 == 3) = true ∧
    after (exec .gridStep sStep) (fun t => t.datum.t == 160 * tickFrame && t.rd .dtm_status_step_cnt 0 == 1
      && ended t { status := .ok }) = true ∧
    after (exec .restepWrite (sPps 1)) (fun t => t.datum.stepWanted) = true ∧
    after (exec (.ppsInEdge (10000000 * tickNs)) (sPps 1)) (fun t => decide ((t.dom 0).tod = some 101)) = true ∧
    after (exec .ppsOutPulse w) (fun t => decide (t.out = [.pulse 4 0 1000000])
      || decide (t.out = [.pulse 4 0 (w.rd .dtm_pps_cfg_width 0 * 1000000)])) = true ∧
    after (exec (.trigOutputPulse 3) (((w.wr .dtm_trig_cfg_mode 3 3).wr .dtm_trig_pw_width 3 20).modTrig 3
      (fun x => { x with armed := true, start := 5 }))) (fun t => decide (t.out = [.pulse 3 5 20])
        && (t.trig 3).armed && (t.trig 3).pulses == 1) = true ∧
    after (exec (.trigInputEdge 3 true 999) ((w.wr .dtm_trig_cfg_mode 3 1).wr .dtm_trig_cfg_edge 3 3)) (fun t =>
      (t.trig 3).fifo == [(999, true)]) = true ∧
    after (exec (.trigTsRead 3) (w.modTrig 3 (fun x => { x with fifo := [(1, true), (2, false)] }))) (fun t =>
      (t.trig 3).fifo == [(2, false)] && t.rd .dtm_trig_ts_valid 3 == 1) = true ∧
    after (exec (.trigStartWrite 3 tm1) ((unl w).wr .dtm_trig_cfg_mode 3 2)) (fun t => (t.trig 3).armed
      && (t.trig 3).start == ticksOf tm1) = true ∧
    after (exec .dtmTimeLatch (run 80)) (fun t => t.rd .dtm_time_ns 0 == 81920 && t.rd .dtm_frame_f 0 == 80) = true ∧
    after (exec (.pDomWrite 1) (unl sAuto)) (fun t => t.rd .dtm_ctrl_p_dom 0 == 1 && decide (t.datum.switchDue = some [])) = true := by
  decide +kernel

theorem wit_DatumCommandsComplete :
    (h0.mbx = 0 ∧ h0.remote = none ∧ ¬ ((2 : Nat) = 1 ∧ (1 : Nat) = 1 ∧ (3 : Nat) = 3)) ∧
    (w.datum.stepPlan = none ∧ 0 = w.pDom ∧ 1 ≠ sAuto.pDom ∧ sAuto.canSwitch = true ∧ sAuto.datum.stepPlan = none) ∧
    ((sPps 1).srcOf 0 = 2 ∨ (sPps 1).srcOf 1 = 2) ∧
    ((∀ c ∈ (sPps 3).trv.queue, c.job.exec = none) ∧ (sPps 3).canRestep = true) ∧
    (timeOk tm1 = true ∧ widthBad 3 40 20 = false ∧ w.pinNamed 3 = false ∧ (sP 3).locked = true ∧ widthBad 0 0 0 = false) := by
  decide +kernel

theorem test_datumCfg :
    after (exec (.datumCfgConfig h0 3 2 3 1 3 1 7 7 5 6) w) (fun t => due t h0 { status := .ok } && t.rd .dtm_ctrl_src0 0 == 2
      && t.rd .dtm_ctrl_port1 0 == 3 && t.rd .dtm_asym_asym_in 3 == 5 && t.rd .dtm_asym_asym_eg 3 == 6) = true ∧
    after (exec (.datumCfgSelect h0 1) sAuto) (fun t => flying t h0 && t.rd .dtm_ctrl_p_dom 0 == 1) = true ∧
    after (exec (.datumCfgSetTod h0 7) (sPps 1)) (fun t => decide ((t.dom 0).tod = some 7) && due t h0 { status := .ok }) = true ∧
    after (exec (.datumCfgLimits h0 255 1 2 3 7 1 1) w) (fun t => t.rd .dtm_limits_lock_thr 0 == 255
      && t.rd .dtm_limits_sw_limit 0 == 2 && t.rd .dtm_step_limit_step_limit 0 == 3) = true ∧
    after (exec (.datumCfgRestep h0) (sPps 3)) (fun t => flying t h0 && t.rd .dtm_status_step_pend 0 == 1) = true ∧
    after (exec (.triggerCfg h0 3 3 1 tm1 40 20) (sP 3)) (fun t => due t h0 { status := .ok }
      && t.rd .dtm_trig_cfg_mode 3 == 3 && t.rd .dtm_trig_pw_period 3 == 40) = true ∧
    after (exec (.datumStatus h0 16) (flight0 w)) (fun t => due t h0 { status := .ok } && t.out.length == 1) = true := by decide +kernel

/-! ## The element loops -/

/-- Element 9215 present, DRIVE_MAX 1,000 codes of the HI range, its record and role from `f`; element 0 present. -/
def mapE (f : ElemRec → ElemRec) : EMap :=
  { elems := [(0, { flags := 1 }), (9215, f { flags := 5, driveMax := 1000, role := 3, owner := 0 })] }

/-- Element 9215 changed by `f` at frame 80 with that map in force and flash writes open. -/
def sEl (f : Elem → Elem) : State := { (elm 9215 f).wr .hkp_flash_inhibit 0 0 with map := { force := some (mapE id) } }

/-- That element in a state, out of the wait for its first commit. -/
def sSt (st : Nat) : State := sEl (fun x => { x with state := st, waiting := false })

theorem wit_ElementCommandsComplete :
    ((sSt 1).holdsElem 0 9215 = true ∧ (sSt 1).present 9215 = true ∧ (sSt 1).gateDark 9215 = false ∧
      (sSt 1).fenced (elemCpt 9215) = false ∧ ((sSt 1).el 9215).sched = none ∧ (sSt 1).frozen = false ∧ (sSt 1).mapAway = false ∧
      ((sSt 1).el 9215).state ≠ 3 ∧ ((sSt 1).el 9215).state ≠ 5 ∧ ((sSt 1).el 9215).rchg = none ∧
      (sSt 1).driveMax 9215 = 1000 ∧ ((sSt 1).erec 9215).isCell = false ∧ 3 ≤ ((sSt 1).erec 9215).role ∧
      ((sSt 1).erec 9215).role ≤ 6 ∧ (sSt 1).outerFeeds 9215 = false ∧ isV 9215 = true ∧
      (sSt 1).trv.queue.any (fun c => c.diff.contains 9215 && c.frame * 1024 < (sSt 1).nowNs + 60000) = false ∧
      (sSt 1).needsTop 9215 ≤ (rangeTop false : Int) ∧ (((1 : Nat) == 1) ≠ (sSt 1).rangeHi 9215) ∧
      (((0 : Nat) == 1) = (sSt 1).rangeHi 9215)) ∧
    ((sSt 4).el 9215).state = 4 ∧ ((sSt 5).el 9215).state = 5 ∧ (sSt 5).latched 9215 = false ∧
    (let s := { sSt 0 with loop := { (sSt 0).loop with tripped := [191] } }
     isV 9215 = true ∧ vGroup 9215 ∈ s.loop.tripped ∧ s.holdsGroup 0 9215 = true ∧ (s.el 9215).state ≠ 4) ∧
    (w.holdsElems 0 (9216 + 256 * 3) 256 = true ∧ w.frozen = false ∧ w.tripActive 3 = 0) := by decide +kernel

theorem test_elementCommands :
    after (exec (.elementSetOverride h0 9215 1000) (sSt 1)) (fun t => flying t h0
      && decide ((t.el 9215).sched = some (.override 1000, 80, some o0))) = true ∧
    after (exec (.elementSetSetpoint h0 9215 1000 0x8000) (sSt 2)) (fun t => decide ((t.el 9215).sched =
      some (.setpoint 1000 none, 80, some o0))) = true ∧
    after (exec (.elementSetSetpoint h0 9215 0xFFFFFFFF 0xFFFF) (sSt 2)) (fun t => decide ((t.el 9215).sched =
      some (.sigma (-1), 80, some o0))) = true ∧
    after (exec (.elementSetRange h0 9215 1) (sSt 1)) (fun t => flying t h0 && t.rd .ust_vdac_cfg_range 9215 == 1) = true ∧
    after (exec (.elementReleaseElement h0 9215) (sSt 4)) (fun t => flying t h0) = true ∧
    after (exec (.elementReleaseElement h0 9215) { sSt 0 with loop := { (sSt 0).loop with tripped := [191] } }) (fun t =>
      due t h0 { status := .ok } && t.loop.tripped == []) = true ∧
    after (exec (.elementReleaseReturn h0 9215) (sSt 5)) (fun t => flying t h0) = true ∧
    after (exec (.elementReleaseTrip h0 3) (w.wr .ust_htrip_trip 3 1)) (fun t => due t h0 { status := .ok }
      && t.rd .ust_htrip_trip 3 == 0) = true ∧
    after (exec (.elementStatus h0 10239 1 16) w) (fun t => due t h0 { status := .ok, res0 := 1 }) = true := by decide +kernel

/-- A map with the last element of either kind present. -/
def sMapped : State := { w with map := { force := some { elems := [(9215, { flags := 1 }), (10239, { flags := 1 })] } } }

theorem wit_LoopConfigCompletes :
    (pselOf 5 = some 0 ∧ wselOf 64 = some 2 ∧ w.holdsCptElems 0 3 = true ∧ (w.cpt 3).change = none ∧ w.fitsLoop 3 5 64 = true ∧
      (w.rd .stx_cpt_cfg_psel 3 = 1 ∧ pselOf 10 = some 1 ∧ w.rd .stx_cpt_cfg_wsel 3 = 1 ∧ wselOf 32 = some 1
        ∧ w.fitsLoop 3 10 32 = true)) ∧
    (((((w.wr .stx_coef_kp (coefIdx 3 15) 16384).wr .stx_coef_ki (coefIdx 3 15) 1).wr .stx_coef_ilim
      (coefIdx 3 15) 0x80000).wr .stx_coef_eps_max (coefIdx 3 15) 0x40000).commitOk 3 = true) ∧
    (sMapped.holdsElems 0 0 10240 = true ∧ 0 + 10240 ≤ 10240 ∧ 9215 + 1 ≤ 9216 ∧ sMapped.mapAway = false
      ∧ sMapped.map.force.isSome = true ∧ sMapped.present 10239 = true ∧ sMapped.present 10238 = false) ∧
    ((jmp 0).prof.ok = true ∧ (sSt 0).flashRefused = false) ∧
    (2 * 255 + 255 + 2 ≤ 65535 ∧ (sMapped.erec 10239).pilotEn = false) := by decide +kernel

theorem test_loopConfig :
    after (exec (.loopConfigCompartment h0 3 5 64) w) (fun t => flying t h0 && t.rd .stx_cpt_cfg_pend 3 == 1) = true ∧
    after (exec (.loopConfigCompartment h0 3 10 32) w) (fun t => due t h0 { status := .ok }) = true ∧
    after (exec (.loopConfigCoefficient h0 3 15 16384 1 0x80000 0x40000 1) w) (fun t => due t h0 { status := .ok }
      && t.rd .stx_coef_kp 63 == 16384 && decide ((t.cpt 3).swap = some (0, none))) = true ∧
    after (exec (.loopConfigElement h0 10238 15 2) sMapped) (fun t => due t h0 { status := .ok } && (t.el 10239).coefSet == 15
      && (t.el 10238).coefSet == 0) = true ∧
    after (exec (.loopConfigClearCode h0 9215 1 (2 ^ 20 - 1)) sMapped) (fun t => t.rd .ust_vclr_code 9215 == 2 ^ 20 - 1) = true ∧
    after (exec (.loopConfigProfile h0 3 15 3 0 1 2 0 16384 16384 0 0) (sSt 0)) (fun t =>
      decide (Tbl.get {} t.loop.profs 63 = (jmp 0).prof)) = true ∧
    after (exec (.loopConfigPilot h0 10239 1 4095) sMapped) (fun t => t.pampOf 10239 == 4095) = true ∧
    after (exec (.loopConfigDeglitch h0 3 63) w) (fun t => t.rd .ust_vdac_ctrl_dgl_thr 3 == 63) = true ∧
    after (exec (.loopConfigHpwm h0 10239 1 1000 10 4 1 0xFF) sMapped) (fun t => t.rd .ust_hpwm_cfg_per 1023 == 1000
      && t.rd .ust_hpwm_mode_stag 1023 == 15) = true ∧
    after (exec (.loopConfigTrip h0 3) w) (fun t => t.rd .ust_htrip_trip 3 == 1 && t.rd .ust_htrip_cause 3 == 16) = true ∧
    after (exec (.loopConfigPowerCap h0 700) w) (fun t => t.rd .glb_hcap_cap_prog 0 == 700) = true := by decide +kernel

theorem wit_LoopEventsRun :
    ((run 81).atBoundary 3 = false ∧ (sSt 4).ran 3 = false) ∧
    ((sSt 4).falls 9215 = false ∧ (sSt 4).atClear 9215 = false ∧ ((sSt 4).el 9215).writeIdx = none) ∧
    ((sSt 4).atBoundary 3 = true ∧ (sSt 4).frozen = false ∧ (sSt 4).stand.handover = none ∧ (sSt 4).writesReach = true ∧
      (7 : Nat).testBit 3 = false ∧ elemCpt 9215 = 3 ∧ (sSt 4).present 9215 = true) ∧
    ((w.cpt 3).swap = none ∧ w.commitOk 3 = true ∧ (w.wr .stx_coef_kp 63 16385).commitOk 3 = false) ∧
    (((run 80).modCpt 3 (fun c => { c with swap := some (78, some o0) })).nextBoundary 3 78 = true) ∧
    (78 + 2 ≤ (run 80).loop.frames ∧ (run 80).frame % 40 = 0 ∧ (sSt 2).mayMove 9215 = true) ∧
    (((sEl (fun x => { x with newRec := some {}, readyAt := 78 })).el 9215).newRec = some {} ∧ (run 80).nextBoundary 3 78 = true) := by
  decide +kernel

theorem test_loopEvents :
    after (exec (.coefCommitWrite 3) (w.wr .stx_coef_kp 63 16385)) (fun t => t.rd .stx_coef_ctrl_reject 3 == 1) = true ∧
    after (exec (.coefficientSwap 3) (flight0 (((run 80).wr .stx_coef_kp 63 7).modCpt 3 (fun c => { c with swap := some (78, some o0) }))))
      (fun t => t.rd .stx_coef_act_kp 63 == 7 && t.rd .stx_coef_ctrl_bank 3 == 1 && ended t { status := .ok }) = true ∧
    after (exec (.periodWindowChange 3) (flight0 ((sSt 2).modCpt 3 (fun c => { c with change := some (3, 2, 78, some o0) })))) (fun t =>
      t.rd .stx_cpt_cfg_psel 3 == 3 && (t.el 9215).state == 1 && ended t { status := .ok }) = true ∧
    after (exec (.calibrationRecordApply 9215) (sEl (fun x => { x with newRec := some { ff0 := 5 }, readyAt := 78 }))) (fun t =>
      (t.calRec 9215).ff0 == 5) = true := by decide +kernel

/-- Element 9215 at the end of a jump to a goal, under the command of number 0. -/
def sEnd (g : JumpGoal) : State := flight0 (sEl (fun x => { x with
  state := 3, waiting := false, jump := some { jmp 3 with ended := true, goal := g, owner := some o0, vt := 900 } }))

/-- Element 9215 in a state with something scheduled in frame 78, under the command of number 0. -/
def sSched (st : Nat) (k : Sched) : State := flight0 (sEl (fun x => { x with
  state := st, waiting := false, sched := some (k, 78, some o0) }))

theorem wit_ElementTransitionsRun :
    ((sEnd .target).atBoundary 3 = true ∧ (sEnd .target).mayMove 9215 = true ∧ ((sEnd .target).el 9215).state = 3 ∧
      (((sEnd .target).el 9215).jump.map (fun j => (j.ended, j.goal))) = some (true, .target) ∧
      (∀ g ∈ [JumpGoal.target, .override, .clearPark, .frozen], (((sEnd g).el 9215).jump.map (sEnd g).jumpOver) = some true) ∧
      (((sEnd .override).el 9215).jump.map (fun j => j.goal)) = some .override ∧
      (((sEnd .clearPark).el 9215).jump.map (fun j => j.goal)) = some .clearPark ∧
      (((sEnd .frozen).el 9215).jump.map (fun j => j.goal)) = some .frozen ∧ ∀ c ∈ (sEnd .target).trv.active, 9215 ∉ c.toSettle) ∧
    (let s := { sSt 1 with loop := { (sSt 1).loop with frames := 320 } }
     s.atBoundary 3 = true ∧ s.mayMove 9215 = true ∧ (s.el 9215).state = 1 ∧
       max (s.el 9215).settleAt (s.el 9215).winFrom + s.windowLen 3 * s.period 3 ≤ s.loop.frames ∧ (s.el 9215).keepTo ≤ s.loop.frames) ∧
    ((sSched 4 .release).nextBoundary 3 78 = true ∧ (sSched 4 .release).mayMove 9215 = true ∧ (sSched 4 .release).writesReach = true ∧ ((sSched 4 .release).el 9215).state = 4) ∧
    (((sSched 5 .return).el 9215).state = 5 ∧ (sSched 5 .return).atClear 9215 = false ∧
      ((sSched 5 .return).el 9215).frozenTgt = ((sSched 5 .return).el 9215).tgt ∧
      ((sSched 5 .return).modEl 9215 (fun x => { x with waiting := true })).atClear 9215 = true) ∧
    (let s := (sEl (fun x => { x with readyAt := 78 })).wr .glb_emap_status_loaded 0 1
     let s1 := { s with loop := { s.loop with cal := [(9215, { flags := 1 })] } }
     s1.present 9215 = true ∧ (s1.el 9215).waiting = true ∧ s1.inPass 3 = false ∧ s1.mayMove 9215 = true ∧ s1.latched 9215 = false ∧
      s1.vOff 9215 = false ∧ s1.writesReach = true ∧ s1.nextBoundary 3 (max (s1.cpt 3).passFrom (s1.el 9215).readyAt) = true ∧
      s1.rd .glb_emap_status_loaded 0 ≠ 0 ∧ (s1.el 9215).state = 0 ∧ s1.hasCal 9215 = true) ∧
    ((sEl (fun x => { x with state := 2, suspectDue := true })).falls 9215 = true) ∧
    (((sEl (fun x => { x with state := 1, catchUp := some (78, none) })).el 9215).catchUp = some (78, none) ∧
      78 + 2 ≤ (sSt 1).loop.frames ∧ (sSt 1).clrHeld 3 = false ∧ (sSt 1).writesReach = true ∧
      (sSt 1).frozen = false) := by decide +kernel

theorem test_transitions :
    after (exec (.settleEntry 9215) (sEnd .target)) (fun t => (t.el 9215).state == 1 && ended t { status := .ok }) = true ∧
    after (exec (.jumpExit 9215) (sEnd .override)) (fun t => (t.el 9215).state == 4 && (t.el 9215).override == 900) = true ∧
    after (exec (.jumpExit 9215) (sEnd .clearPark)) (fun t => (t.el 9215).state == 0) = true ∧
    after (exec (.jumpExit 9215) (sEnd .frozen)) (fun t => (t.el 9215).state == 5) = true ∧
    after (exec (.holdEntry 9215) { sSt 1 with loop := { (sSt 1).loop with frames := 320 } }) (fun t => (t.el 9215).state == 2) = true ∧
    after (exec (.holdEntry 9215) { sSt 1 with loop := { (sSt 1).loop with frames := 319 } }) (fun t => (t.el 9215).state == 1) = true ∧
    after (exec (.scheduledTransition 9215) (sSched 2 (.override 2000))) (fun t => (t.el 9215).state == 3
      && decide ((t.el 9215).jump.map (fun j => (j.goal, j.vt)) = some (.override, 1000))) = true ∧
    after (exec (.scheduledTransition 9215) (sSched 2 (.sigma 7))) (fun t => decide ((t.el 9215).ssp = some 7)
      && ended t { status := .ok }) = true ∧
    after (exec (.returnToService 9215) (sSched 5 .return)) (fun t => (t.el 9215).state == 1 && ended t { status := .ok }) = true ∧
    after (exec (.suspectEntry 9215) (sEl (fun x => { x with state := 2, suspectDue := true, dGood := 44 }))) (fun t =>
      (t.el 9215).state == 5 && (t.el 9215).drive == 44) = true ∧
    after (exec (.catchUpJump 9215) (sEl (fun x => { x with state := 1, catchUp := some (78, none) }))) (fun t =>
      (t.el 9215).state == 3) = true := by decide +kernel

/-- A map whose last output port has gate 9215 and tap 6143. -/
def mapP : EMap := { mapE id with topology := 3, ports := 512, portRecs := [(1023, { use := 1, gate := 9215, tap := 6143 })] }

/-- Frame 80 with the outer loop of that port enabled with DIV 1 and 20 frames of 1 µA counted, its gate in HOLD. -/
def sOut : State := { (((sSt 2).wr .stx_out_cfg_en 511 1).wr .stx_out_cfg_div 511 0).wr .stx_out_tgt_sp_max 511 32767 with
  map := { force := some mapP }, loop := { (sSt 2).loop with outers := [(511, { cnt := 20, sum := 20 * 32768 * 1000000 })] } }

/-- A sweep of element 9215 with its points. -/
def swp (pts : List (Nat × Rat × List (Rat × Rat))) (todo : List Nat) (coarse : Bool) : Sweep :=
  { elem := 9215, run := none, points := pts, todo := todo, coarse := coarse }

/-- Element 9215 in MANUAL at frame 400 under a sweep. -/
def sSwp (v : Sweep) : State := { sSt 4 with
  map := { force := some (mapE (fun r => { r with mon0 := 6143, wgt0 := 16384 })) }
  loop := { (sSt 4).loop with frames := 400, sweeps := [v] } }

/-- The 33 coarse points and 9 fine points of a resonance that R221 accepts: the slope in phase and linear, the maximum inside. -/
def good : List (Nat × Rat × List (Rat × Rat)) :=
  (List.range 33).map (fun i => (i, (10000000 : Rat) - (if i = 16 then 0 else 1000000), [(((32 - i : Nat) : Rat), (0 : Rat))])) ++
    (List.range 9).map (fun i => (100 + i, (9000000 : Rat), [(((8 - i : Nat) : Rat), (0 : Rat))]))

/-- A CAL_RUN of the command of number 0 that awaits element 9215 until frame 80. -/
def sRun : State := flight0 { sSt 4 with loop := { (sSt 4).loop with
  runs := [{ num := 0, owner := o0, waiting := [9215], deadline := 80 }] } }

/-- A fault-log entry of class 2. -/
def ent : LogEntry := ⟨5, 0, false, false, false, false, 2, 0x16, 1, 0xFF, 1, 0, 9215, 0⟩

theorem wit_SweepsAndOuterLoopsRun :
    ((sOut.outRec 511).gate = 9215 ∧ sOut.rd .stx_out_cfg_div 511 + 1 = 1 ∧ sOut.rd .stx_out_cfg_en 511 ≠ 0 ∧
      sOut.atBoundary 3 = true ∧ sOut.frame / sOut.period 3 % 1 = 0 ∧ (sOut.outer 511).cnt ≠ 0 ∧ (sOut.el 9215).state = 2 ∧
      1 * sOut.period 3 ≤ 2 * (sOut.outer 511).cnt ∧
      ((1000 * sOut.rd .stx_sup_cfg_light_min 3 : Nat) : Rat) ≤ ((sOut.outer 511).sum : Rat) / 32768 / ((sOut.outer 511).cnt : Rat) ∧
      0 < ((sOut.outer 511).sum : Rat) / 32768 / ((sOut.outer 511).cnt : Rat) ∧ 9215 ∉ sOut.loop.dark ∧ sOut.fenced 3 = false) ∧
    (sOut.mapAway = false ∧ sOut.map.force.isSome = true ∧ sOut.badPort 511 = false ∧ sOut.holdsElem 0 (sOut.outRec 511).gate = true ∧ sOut.fenced (elemCpt (sOut.outRec 511).gate) = false) ∧
    (w.holdsElems 0 10239 1 = true ∧ w.holdsCptElems 0 3 = true ∧ (sSt 0).flashRefused = false) ∧
    (let s := { sSt 0 with loop := { (sSt 0).loop with calWant := [9215] } }
     s.sweepWanted 9215 = true ∧ s.sweepable 9215 = true) ∧
    (let s := sSwp (swp [] [0, 7] true)
     (s.el 9215).state = 4 ∧ (s.el 9215).sched = none ∧
       (s.el 9215).settleAt + s.windowLen 3 * s.period 3 ≤ s.loop.frames ∧ s.frozen = false ∧ s.clrHeld 3 = false) ∧
    (((sSwp (swp good [109] false)).loop.sweeps.find? (fun v => v.elem == 9215)) = some (swp good [109] false)) ∧
    ((sSwp (swp good [109] false)).judge { swp good [109] false with
        points := good ++ [(sSwp (swp good [109] false)).sweepMeas 9215 109], todo := [] }).2 = 0 ∧
    (sSwp (swp good [109] false)).flashRefused = false ∧
    ((∀ v ∈ sRun.loop.sweeps, v.elem ≠ 9215) ∧ ∀ p ∈ sRun.loop.calPend, p.1 ≠ 9215) ∧
    ((sSt 1).mapAway = false ∧ (sSt 1).map.force.isSome = true ∧ (sSt 1).present 9215 = true ∧ (sSt 1).fenced 3 = false ∧ (sSt 1).frozen = false ∧ (sSt 1).holdsElems 0 9215 1 = true) ∧
    (({ w with loop := { w.loop with calPend := [(9215, {}, none)] } } : State).loop.calPend.find? (fun p => p.1 == 9215)).isSome = true ∧
    ({ w with flt := { w.flt with log := [ent] } } : State).flt.log.find? (fun x => x.seq == 5 && 2 ≤ x.cls && !x.persisted) =
      some ent := by decide +kernel

theorem test_sweeps :
    after (exec (.outerIntervalEnd 511) sOut) (fun t => decide (t.outer 511 = { from0 := 80 })
      && t.rd .stx_out_status_held 511 == 0) = true ∧
    after (exec (.outerConfigEqualisation h0 511 1 1 1 256 65535 0xFFFF 32767 5) sOut) (fun t => due t h0 { status := .ok }
      && t.rd .stx_out_cfg_div 511 == 255 && t.rd .stx_out_tgt_target 511 == 0xFFFF) = true ∧
    after (exec (.outerConfigTemperature h0 10239 1 77 3 1 3 255) (sSt 0)) (fun t => due t h0 { status := .ok }
      && t.rd .stx_tff_cfg_te_slew 3 == 255 && (t.calRec 10239).tco == 77 && (t.calRec 10239).flags == 8) = true ∧
    after (exec (.sweepStart 9215) { sSt 0 with loop := { (sSt 0).loop with calWant := [9215] } }) (fun t =>
      decide (t.loop.sweeps.map (fun v => v.todo.getLast?) = [some 1000] ∧ (t.el 9215).sched = some (.override 0, 80, none))) = true ∧
    after (exec (.sweepPoint 9215) (sSwp (swp [] [0, 7] true))) (fun t => t.loop.sweeps.all (fun v => v.todo == [7])
      && decide ((t.el 9215).sched = some (.override 7, 400, none))) = true ∧
    after (exec (.sweepPoint 9215) (sSwp (swp good [109] false))) (fun t => t.loop.sweeps == [] && t.loop.calPend.length == 1) = true ∧
    after (exec (.sweepDeadline 9215) sRun) (fun t => t.loop.runs == [] && (t.calRec 9215).result == 9
      && ended t { status := .calRejected }) = true ∧
    after (exec (.calRun h0 9215 0 1 1 0) (sSt 1)) (fun t => flying t h0 && decide (t.loop.runs.map (fun r => r.waiting) = [[9215]])) = true ∧
    after (exec (.calRun h0 9215 1 1 0 65535) (sSt 1)) (fun t => due t h0 { status := .ok }
      && t.rd .cal_ecal_sched_interval 3 == 65535) = true ∧
    after (exec (.flashWriteComplete (.calRecord 9215)) { sSt 1 with loop := { (sSt 1).loop with calPend := [(9215, { ff0 := 3 }, none)] } })
      (fun t => decide ((t.el 9215).newRec = some { ff0 := 3 }) && (t.el 9215).readyAt == 80) = true ∧
    after (exec (.flashWriteComplete (.faultLog 5)) { sSt 1 with flt := { w.flt with log := [ent] } }) (fun t =>
      t.flt.log.all (fun x => x.persisted)) = true := by decide +kernel

/-! ## The chain -/

/-- A Cairn frame of a kind for a module, from module 9. -/
def crn (kind dst : Nat) : Cairn :=
  { tc := kindTc kind, kind := kind, dst := dst, src := 9, hops := 2, seq := 0, msg := .remote 5 1 0 0 [] [] }

/-- What the port has found of a good frame. -/
def rx0 : RxInfo := { etherType := 0x88B5, vlan := false, bytes := 1518, hcrcOk := true, version := 1, lenOk := true, fcsOk := true }

/-- Frame 2,000,000, 2 s after reset: this module at address 3 of a fabric, port 2 up with the parent beyond it, port 3 up and leading to addresses 4 to 6. -/
def sFab : State :=
  let s := [(Fid.chp_fab_addr, 0, 3), (.chp_fab_state, 0, 2), (.chp_status_link_up, 2, 1), (.chp_status_hello_ok, 2, 1),
    (.chp_status_role, 2, 1), (.chp_status_link_up, 3, 1), (.chp_status_hello_ok, 3, 1), (.chp_status_role, 3, 2),
    (.chp_range_lo, 3, 4), (.chp_range_hi, 3, 6), (.chp_fab_count_count, 0, 2000)].foldl (fun s x => s.wr x.1 x.2.1 x.2.2) (run 2000000)
  { s with fab := { s.fab with epoch := 7, parentPort := 2 } }

theorem wit_ChainLinksRun :
    (w.linkUp 3 = false ∧ w.bit .chp_cfg_en 3 = true ∧ w.role 3 ≠ 5) ∧ (LinkCause.lock ≠ LinkCause.beyond ∧ sFab.linkUp 3 = true) ∧
    (sFab.role 2 = 1 ∧ sFab.enumerated = true ∧ sFab.bit .chp_fab_root 0 = false) ∧
    (sFab.linkUp 3 = true ∧ (sFab.port 3).helloAt + 97656 ≤ sFab.loop.frames ∧ w.loop.frames < (w.port 3).helloAt + 97656 ∧
      (sFab.sp 3).queue 4 = [] ∧ Tbl.get [] (sFab.sp 3).crown 4 = []) ∧
    (sFab.role 3 ≠ 1 ∧ sFab.rd .chp_prbs_cfg_gen 3 = 0 ∧ patternOf ((w.wr .chp_prbs_cfg_gen 3 1).rd .chp_prbs_cfg_gen 3) ≠ 0) ∧
    (2 ^ 64 - 1 < 2 ^ 64 ∧ (3 : Nat) < 4 ∧ 0 = sFab.rd .chp_neigh_uid_uid 3) ∧
    (let s := (sFab.wr .chp_status_hello_ok 3 0).modPort 3 (fun x => { x with known := some (55, 0, 0, 0, 0) })
     s.bit .chp_status_hello_ok 3 = false ∧ s.addr ≠ 0 ∧ 2 ≤ s.rd .chp_fab_state 0 ∧ (s.port 3).known = some (55, 0, 0, 0, 0) ∧ s.linkUp 3 = true) ∧
    (w.covers (0x40028 + 0x4000 * 3) .chp_prbs_cfg_gen 3 = false ∧ (unl w).covers (0x40028 + 0x4000 * 3) .chp_prbs_cfg_gen 3 = true ∧
      selects 1 0 = true ∧ (unl sFab).testAllowed 3 = false ∧ w.testAllowed 3 = true) ∧
    (patternOf (w.rd .chp_prbs_cfg_chk 3) = 0 ∧ patternOf ((w.wr .chp_prbs_cfg_chk 3 1).rd .chp_prbs_cfg_chk 3) ≠ 0) := by decide +kernel

theorem wit_ChainLinksRun_frames :
    ({ rx0 with etherType := 0x88B6 }.etherType ≠ 0x88B5 ∧ 1518 < { rx0 with bytes := 1519 }.bytes) ∧
    (sFab.linkUp 2 = true ∧ w.linkUp 2 = false ∧ rx0.etherType = 0x88B5 ∧ rx0.etherType ≠ 0x88F7 ∧ rx0.vlan = false ∧ rx0.bytes ≤ 1518 ∧ { rx0 with hcrcOk := false }.hcrcOk = false ∧
      headerBad { rx0 with version := 2 } (crn 5 3) = true) ∧
    (headerBad rx0 (crn 5 3) = false ∧ (crn 5 3).src ≠ sFab.addr ∧ (crn 5 3).dst = sFab.addr ∧ (crn 5 3).dst ≠ 0xFFFF ∧ rx0.fcsOk = true
      ∧ { rx0 with fcsOk := false }.fcsOk = false) ∧
    (headerBad rx0 (crn 5 4) = false ∧ (crn 5 4).kind ≠ 1 ∧ (crn 5 4).kind ≠ 3 ∧ (crn 5 4).dst ≠ sFab.addr ∧ 1 < (crn 5 4).hops ∧ sFab.routePort 4 = some 3 ∧
      sFab.portReady 3 = true ∧ (sFab.sp 3).queue (crn 5 4).tc = [] ∧ frameBytes (.cairn (crn 5 4)) ≤ 65536) := by
  decide +kernel

theorem test_links :
    after (exec (.linkUp 3) w) (fun t => t.linkUp 3 && t.rd .chp_status_block_lock 3 == 1) = true ∧
    after (exec (.linkDown 3 .lock false) sFab) (fun t => !t.linkUp 3 && t.rd .chp_status_link_dn_cnt 3 == 1) = true ∧
    after (exec (.linkDown 2 .beyond false) sFab) (fun t => t.rd .chp_fab_state 0 == 3) = true ∧
    after (exec (.helloTransmit 3) sFab) (fun t => ((t.sp 3).queue 4).length == 1 && t.nextSeq 1 == 1) = true ∧
    after (exec (.helloReceived 3 77 4 2 1 7 6 3) (sFab.wr .chp_status_hello_ok 3 0)) (fun t => t.rd .chp_neigh_uid_uid 3 == 77
      && t.rd .chp_neigh_addr 3 == 4 && t.rd .chp_neigh_port 3 == 2) = true ∧
    after (exec (.prbsCfgWrite 3 1 0) (unl sFab)) (fun t => t.rd .chp_prbs_cfg_prbs_rej 3 == 1 && t.linkUp 3) = true ∧
    after (exec (.prbsCfgWrite 3 1 0) (unl w)) (fun t => t.rd .chp_prbs_cfg_gen 3 == 1 && t.role 3 == 5) = true ∧
    after (exec (.prbsCheckerLock 3 9) (w.wr .chp_prbs_cfg_chk 3 1)) (fun t => t.rd .chp_prbs_status_err 3 == 9) = true ∧
    after (exec (.injFcsWrite 3) w) (fun t => (t.port 3).injFcs) = true ∧
    after (exec (.cairnFrameReceived 2 { rx0 with hcrcOk := false } (crn 5 3)) sFab) (fun t => t.rd .chp_err_cnt_hcrc 2 == 1) = true ∧
    after (exec (.cairnFrameReceived 2 rx0 (crn 5 3)) sFab) (fun t => decide (t.out = [.delivered 2 (crn 5 3)])) = true ∧
    after (exec (.cairnFrameReceived 2 { rx0 with fcsOk := false } (crn 5 3)) sFab) (fun t => t.rd .chp_err_cnt_fcs 2 == 1 && t.out == []) = true ∧
    after (exec (.injOneWrite 3) w) (fun t => decide (t.out = [.inject 3 true])) = true ∧
    after (exec (.cairnFrameReceived 2 rx0 (crn 5 4)) sFab) (fun t => decide (((t.sp 3).queue (crn 5 4).tc).map (fun f => f.frame) =
      [.cairn { crn 5 4 with hops := 1 }])) = true := by decide +kernel

/-- An exploration that has reached a port, the command of number 0. -/
def xpl (waiting : Bool) (port : Option Nat) : Explore :=
  { waiting := waiting, port := port, busySeen := false, nextAddr := 4, trunc := false, owner := some o0 }

/-- The root at address 1 in the middle of that exploration, ports 1 and 3 ready. -/
def sRoot (x : Explore) : State :=
  let s := [(Fid.chp_fab_addr, 0, 1), (.chp_fab_state, 0, 1), (.chp_fab_root, 0, 1), (.chp_status_link_up, 1, 1),
    (.chp_status_hello_ok, 1, 1), (.chp_status_link_up, 3, 1), (.chp_status_hello_ok, 3, 1)].foldl
      (fun s x => s.wr x.1 x.2.1 x.2.2) (run 2000000)
  flight0 { s with fab := { s.fab with epoch := 7, explore := some x } }

/-- A module that is not the root in the middle of that exploration. -/
def sMid (port : Nat) : State := (sRoot (xpl false (some port))).wr .chp_fab_root 0 0

/-- Entry `i` of a topology of ring modules. -/
def ringEnt (i : Nat) : TopoEntry := { addr := i, parent := i - 1, uid := i, ports := 48, blockHi := i }

/-- The root that holds all but the last of `n` REPORTs. -/
def sRep (n : Nat) : State := { sRoot (xpl false none) with
  fab := { (sRoot (xpl false none)).fab with blockHi := n, topo := (List.range (n - 1)).map (fun i => ringEnt (i + 1)) } }

/-- A module of a ring of four at address 3. -/
def sRing4 : State := { sFab.wr .chp_fab_ring 0 1 with fab := { sFab.fab with ring := [(1, 9), (2, 2), (3, 3), (4, 4)], cut := 3 } }

theorem wit_EnumerationRuns :
    (8 ≠ sFab.fab.epoch) ∧
    (let s := sRoot (xpl true none)
     s.fab.explore = some (xpl true none) ∧ (xpl true none).since + framesIn 2000000 ≤ s.loop.frames ∧ s.bit .chp_fab_root 0 = true ∧ s.bit .chp_fab_ring 0 = false ∧
      (xpl true none).nextAddr ≤ 2000 ∧ (∀ r : Fin 4, r < 1 → s.portReady r = false) ∧ s.portReady 1 = true ∧
      (s.port 1).nEpoch ≠ s.fab.epoch ∧ (s.sp 1).queue 5 = [] ∧ Tbl.get [] (s.sp 1).crown 5 = []) ∧
    (let s := ((sFab.wr .chp_fab_addr 0 0).wr .chp_fab_state 0 1)
     s.linkUp 3 = true ∧ s.addr = 0 ∧ s.rd .chp_fab_state 0 = 1 ∧ 7 = s.fab.epoch ∧ (s.wr .chp_fab_state 0 0).rd .chp_fab_state 0 = 0) ∧
    (sFab.linkUp 2 = true ∧ sFab.addr ≠ 0 ∧ sFab.role 2 = 1 ∧ sFab.role 3 ≠ 1 ∧ sFab.bit .chp_fab_root 0 = false ∧
      (sFab.sp 2).queue 5 = [] ∧ Tbl.get [] (sFab.sp 2).crown 5 = []) ∧
    ((sRoot (xpl false (some 1))).fab.explore = some (xpl false (some 1)) ∧ (xpl false (some 1)).port = some 1 ∧
      7 = (sRoot (xpl false (some 1))).fab.epoch) ∧
    (let s := sRoot (xpl false (some 1))
     s.bit .chp_fab_root 0 = true ∧ s.bit .chp_fab_ring 0 = false ∧ (1 : Fin 4) < 3 ∧
      (∀ r : Fin 4, 1 < r → r < 3 → s.portReady r = false) ∧ s.portReady 3 = true ∧ (s.port 3).nEpoch ≠ s.fab.epoch) ∧
    ((sMid 3).fab.explore = some (xpl false (some 3)) ∧ (sMid 3).bit .chp_fab_root 0 = false ∧ (sMid 3).bit .chp_fab_ring 0 = false ∧
      (sMid 3).fab.parentPort ≠ 3 ∧ (xpl false (some 3)).since + framesIn 1000000 ≤ (sMid 3).loop.frames) := by decide +kernel

theorem wit_EnumerationRuns_reports :
    ((insertTopo (ringEnt 48) (sRep 48).fab.topo).length = (sRep 48).fab.blockHi ∧ (sRep 48).bit .chp_fab_root 0 = true ∧
      (insertTopo (ringEnt 47) (sRep 48).fab.topo).length ≠ (sRep 48).fab.blockHi ∧
      (ringOf (insertTopo (ringEnt 48) (sRep 48).fab.topo)).length ≤ 48 ∧
      48 < (ringOf (insertTopo (ringEnt 49) (sRep 49).fab.topo)).length ∧
      (insertTopo (ringEnt 49) (sRep 49).fab.topo).length = (sRep 49).fab.blockHi) ∧
    (7 = sFab.fab.epoch ∧ sFab.addr ≠ 0 ∧ [(1, 9), (3, 3)] ≠ sFab.fab.ring) ∧
    (sFab.isRingPort 1 = false ∧ sRing4.isRingPort 1 = true ∧ ¬ (sRing4.rd .chp_ring_cut_a 0 = min 3 2 ∧
      sRing4.rd .chp_ring_cut_b 0 = max 3 2) ∧ sRing4.linkBetween 3 2 = some 1) := by decide +kernel

theorem test_enumeration :
    after (exec (.enumClear 3 8) sFab) (fun t => t.fab.epoch == 8 && t.addr == 0 && t.rd .chp_fab_state 0 == 1) = true ∧
    after (exec .enumClearWait (sRoot (xpl true none))) (fun t => decide (t.fab.explore = some { xpl false (some 1) with since := 2000000 })
      && ((t.sp 1).queue 5).length == 1) = true ∧
    after (exec (.enumAssign 3 2 7 5 4 0) ((sFab.wr .chp_fab_addr 0 0).wr .chp_fab_state 0 1)) (fun t => t.addr == 5
      && t.rd .chp_fab_count_depth 0 == 4) = true ∧
    after (exec (.enumAssign 3 2 7 5 4 0) sFab) (fun t => t.role 3 == 4) = true ∧
    after (exec (.enumBusy 1 7) (sRoot (xpl false (some 1)))) (fun t => decide (t.fab.explore.map (fun x => x.busySeen) = some true)) = true ∧
    after (exec (.enumDone 1 7 9 false) (sRoot (xpl false (some 1)))) (fun t => t.role 1 == 2 && t.rd .chp_range_lo 1 == 4
      && t.rd .chp_range_hi 1 == 9 && decide (t.fab.explore.map (fun x => (x.port, x.nextAddr)) = some (some 3, 10))) = true ∧
    after (exec (.enumAssignTimeout 3) (sMid 3)) (fun t => decide (t.fab.explore = none) && t.fab.blockHi == 3) = true ∧
    after (exec (.enumReport 7 (ringEnt 48)) (sRep 48)) (fun t => t.rd .chp_fab_state 0 == 2 && t.fab.ring.length == 48
      && ended t { status := .ok }) = true ∧
    after (exec (.enumReport 7 (ringEnt 49)) (sRep 49)) (fun t => t.fab.ring == [] && ended t { status := .invalidField }) = true ∧
    after (exec (.enumComplete 7 3 0 [0, 1, 2] [(1, 9), (3, 3)]) sFab) (fun t => t.fab.depths == [0, 1, 2] && t.fab.cut == 1
      && t.rd .chp_fab_count_count 0 == 3) = true ∧
    after (exec (.wrapReceived 1 7 3 2) sRing4) (fun t => t.fab.cut == 1 && t.rd .chp_ring_cut_a 0 == 2
      && t.rd .chp_ring_status_wrap_cnt 0 == 1) = true := by decide +kernel

theorem wit_ChainCommandsComplete :
    (h0.mbx = 0 ∧ h0.remote = none) ∧ (w.trv.chains = [] ∧ w.fab.outReqs = [] ∧ w.fab.explore = none) ∧
    (selects 1 7 = true ∧ w.testAllowed 3 = true) ∧ (sRoot (xpl true none)).bit .chp_fab_root 0 = true := by decide +kernel

theorem test_chainCommands :
    after (exec (.chainCfgPort h0 3 1 0 15 31 15 1) w) (fun t => due t h0 { status := .ok } && t.rd .chp_cfg_tx_post 3 == 31
      && t.rd .chp_cfg_rx_freeze 3 == 1 && t.rd .chp_cfg_fec 3 == 0) = true ∧
    after (exec (.chainCfgEnumerate h0 1) w) (fun t => flying t h0 && t.addr == 1 && t.rd .chp_fab_topo 0 == 1) = true ∧
    after (exec (.chainCfgTest h0 3 1 2 1 31) w) (fun t => due t h0 { status := .ok } && t.rd .chp_prbs_cfg_chk 3 == 2
      && t.role 3 == 5) = true ∧
    after (exec (.chainCfgRemotePolicy h0 1 65535 3 4) w) (fun t => t.rd .chp_remote_class_en 0 == 65535
      && t.rd .chp_remote_to_exec_to 0 == 4) = true ∧
    after (exec (.chainStatus h0 0 1 16) (sFab.wr .chp_err_cnt_fcs 3 4)) (fun t => due t h0 { status := .ok }
      && t.rd .chp_err_cnt_fcs 3 == 0) = true ∧
    after (exec (.chainStatus h0 1 0 16) (sRep 2)) (fun t => due t h0 { status := .ok }) = true := by decide +kernel

/-- The outstanding request 5 to module 4 of the command of number 0. -/
def req (attempts : Nat) (acked : Bool) : RemoteOut :=
  { owner := o0, reqId := 5, dst := 4, tc := 3, execTo := 1, rspLen := 0, rspBuf := 64, body := [], data := [], attempts := attempts
    acked := acked }

/-- The originator of that request. -/
def sReq (attempts : Nat) (acked : Bool) : State := flight0 { sFab with fab := { sFab.fab with outReqs := [req attempts acked] } }

/-- A request 5 of module 9 executed here, its response sent. -/
def inr (attempts : Nat) : RemoteIn :=
  { src := 9, reqId := 5, rspLen := 0, tc := 3, req := [], data := [], response := some ([], []), attempts := attempts, acked := false
    doneAt := (run 2000000).datum.t }

/-- The executor of that request. -/
def sInr (attempts : Nat) : State := { sFab with fab := { sFab.fab with inReqs := [inr attempts] } }

/-- The executor with all 64 reserved tags held. -/
def sTags : State := sFab.modMb 0 (fun b => { b with
  flight := (List.range 64).map (fun i => { id := i, tag := 16320 + i, imm := false, remote := some (9, i) }) })

theorem wit_RemoteTransportRuns :
    (1 ≤ 2000 ∧ 2000 ≤ sFab.rd .chp_fab_count_count 0 ∧ 2000 ≠ sFab.addr ∧ (List.replicate 64 0).getD 0 0 ∉ [0x62, 0xF0, 0xF1] ∧
      sFab.enumerated = true ∧ sFab.routePort 4 = some 3 ∧ sFab.routePort 2000 = some 2 ∧
      (sFab.sp 3).queue (remoteTc 0) = [] ∧ Tbl.get [] (sFab.sp 3).crown (remoteTc 0) = []) ∧
    (sFab.outReq 4 5 = none) ∧ ((sReq 2 false).outReq 4 5 = some (req 2 false)) ∧ ((sReq 3 false).outReq 4 5 = some (req 3 false)) ∧
    ((sReq 0 true).outReq 4 5 = some (req 0 true)) ∧ (fly0 ∈ ((sReq 0 true).mb o0.mbx).flight ∧ fly0.id = o0.id) ∧
    (sFab.fab.inReqs.filter (fun r => !sFab.stale r) = [] ∧ sFab.remoteTag = some 16320 ∧ sTags.remoteTag = none) ∧
    ((sInr 2).fab.inReqs.filter (fun r => !(sInr 2).stale r) = [inr 2] ∧ (sInr 2).inReq 9 5 = some (inr 2) ∧ (inr 3).attempts = 3) ∧
    ((req 3 false).sentAt + (sReq 3 false).ackTo ≤ (sReq 3 false).loop.frames ∧
      (req 0 true).startAt + framesIn ((req 0 true).execTo * 1000000000) ≤ (sReq 0 true).loop.frames ∧
      (inr 2).sentAt + (sInr 2).ackTo ≤ (sInr 2).loop.frames) := by
  decide +kernel

theorem test_remote :
    after (exec (.remote h0 4 0 0 64 (List.replicate 64 0) []) sFab) (fun t => flying t h0 && t.fab.nextReq == 1
      && ((t.sp 3).queue (remoteTc 0)).length == 1) = true ∧
    after (exec (.remoteAck 4 5) (sReq 0 false)) (fun t => decide (t.outReq 4 5 = some (req 0 true))) = true ∧
    after (exec (.remoteResponse 4 5 3 (List.replicate 64 0) []) (sReq 0 true)) (fun t => decide (t.outReq 4 5 = none)
      && ended t { status := .ok }) = true ∧
    after (exec (.remoteExecTimeout 4 5) (sReq 0 true)) (fun t => ended t { status := .remoteTimeout }) = true ∧
    after (exec (.remoteAckTimeout false 4 5) (sReq 2 false)) (fun t => decide (t.outReq 4 5 = some { req 3 false with sentAt := 2000000 })) = true ∧
    after (exec (.remoteAckTimeout false 4 5) (sReq 3 false)) (fun t => ended t { status := .remoteTimeout }) = true ∧
    after (exec (.remoteRequest 9 5 0 3 nop1 []) sFab) (fun t => decide ((t.mb 0).fetched.map (fun x => x.2) = [some (9, 5)])) = true ∧
    after (exec (.remoteRequest 9 5 0 3 nop1 []) sTags) (fun t => (t.mb 0).fetched == []
      && t.fab.inReqs.all (fun r => r.response.isSome)) = true ∧
    after (exec (.remoteResponseAck 9 5) (sInr 0)) (fun t => t.fab.inReqs.all (fun r => r.acked)) = true ∧
    after (exec (.remoteAckTimeout true 9 5) (sInr 2)) (fun t => decide (t.inReq 9 5 = some { inr 3 with sentAt := 2000000 })) = true := by decide +kernel

/-- A frame of 100 bytes for class 5 in port 3's queue. -/
def qf : QFrame := { frame := .cairn (crn 5 4), bytes := 100 }

/-- Port 3 up with that frame waiting, or in transmission until instant 500. -/
def sSch (tx : Bool) : State := sFab.modSp 3 (fun q =>
  if tx then { q with tx := some (5, 500, qf) } else { q with queues := [(5, [qf])] })

/-- The state from which the classes of port 3 are judged at instant 100,000. -/
def uSch : State := (List.range 8).foldl (fun u c => u.dropOversize 3 c 100000 ((u.sp 3).queue c).length) ((sSch false).accrue 3 100000)

/-- An administrative list of one entry of 2,048 ns with all gates open, and a plan of it. -/
def sGcl : State := ((((w.wr .chs_gcl_admin_interval 192 60000).wr .chs_gcl_admin_gates 192 255).wr .chs_gcl_admin_interval 193 0).wr
  .chs_cycle_cycle 3 60000).modSp 3 (fun q => { q with plan := some ⟨[(60000, 255)], 60000, 0, 5000⟩ })

theorem wit_SchedulerRuns :
    (((sSch true).sp 3).tx = some (5, 500, qf) ∧ 499 < 500 ∧ 500 ≤ 500 ∧
      ((sSch true).wr .chp_status_link_up 3 0).linkUp 3 = false) ∧
    (((sSch false).sp 3).tx = none ∧ (sSch false).linkUp 3 = true ∧ (uSch.sp 3).queue 5 = [qf] ∧ uSch.qualifies 3 5 100000 = true ∧
      ∀ k : Fin 8, 5 < k → uSch.qualifies 3 k 100000 = false) ∧
    (gclOk (sGcl.gclOf .chs_gcl_admin_interval .chs_gcl_admin_gates 3) 60000 (sGcl.rd .chs_phase_phase 3) = true ∧
      gclOk (w.gclOf .chs_gcl_admin_interval .chs_gcl_admin_gates 3) ((w.wr .chs_cycle_cycle 3 1023).rd .chs_cycle_cycle 3) 0 = false) ∧
    ((w.sp 3).plan = none ∧ (sGcl.sp 3).plan = some ⟨[(60000, 255)], 60000, 0, 5000⟩ ∧ 499999 < 5000 * 100) ∧
    (w.bit .chs_smp_cfg_en 0 = false ∧ (w.wr .chs_smp_cfg_en 0 1).bit .chs_smp_cfg_en 0 = true ∧
      0 % 2 ^ (w.wr .chs_smp_cfg_en 0 1).sampleK = 0 ∧ 1 % 2 ^ (w.wr .chs_smp_cfg_en 0 1).sampleK ≠ 0) ∧
    (gclOk ([(60000, 255), (0, 0)].takeWhile (fun e => e.1 != 0)) 60000 0 = true ∧
      (∀ e ∈ [(60000, 255), (0, 0)], e.1 ≤ 16777215 ∧ e.2 ≤ 255) ∧ timeOk ⟨0, 0, 0⟩ = true) ∧
    (w.slopeSum 3 3 1 20000 ≤ 20000 ∧ w.slopeSum 3 3 0 25000 ≤ 20000) ∧ (∀ fin f, (w.sp 3).tx ≠ some (3, fin, f)) ∧
    w.bit .chs_pol_cfg_en 7 = false := by
  refine ⟨by decide +kernel, by decide +kernel, by decide +kernel, by decide +kernel, by decide +kernel, by decide +kernel,
    by decide +kernel, fun _ _ h => ?_, by decide +kernel⟩
  exact absurd h (by simp [State.sp, State.reset, Tbl.get])

theorem test_scheduler :
    after (exec (.transmissionSelect 3 500) (sSch true)) (fun t => match t.out with
      | [.frame p f _ bad] => p == 3 && decide (f = .cairn (crn 5 4)) && !bad | _ => false) = true ∧
    after (exec (.transmissionSelect 3 100000) (sSch false)) (fun t => decide ((t.sp 3).tx.map (fun x => (x.1, x.2.2)) = some (5, qf))
      && ((t.sp 3).queue 5 == [])) = true ∧
    after (exec (.gclCommitWrite 3 1023) sGcl) (fun t => t.rd .chs_port_cfg_pend 3 == 1
      && decide ((t.sp 3).plan.map (fun g => g.switchAt) = some 60000)) = true ∧
    after (exec (.gclCommitWrite 3 0) (w.wr .chs_cycle_cycle 3 1023)) (fun t => t.rd .chs_port_cfg_reject 3 == 1) = true ∧
    after (exec (.gclSwitch 3 500000) sGcl) (fun t => decide ((t.sp 3).plan = none) && t.rd .chs_oper_cycle_act 3 == 60000
      && t.rd .chs_gcl_oper_interval 192 == 60000) = true ∧
    after (exec (.gclSwitch 3 499999) sGcl) (fun t => decide ((t.sp 3).plan.isSome)) = true ∧
    after (exec (.chsCounterClearWrite 3) (w.wr .chs_qstat_qdrop 31 9)) (fun t => t.rd .chs_qstat_qdrop 31 == 0) = true ∧
    after (exec (.queueSample 0) (w.wr .chs_smp_cfg_en 0 1)) (fun t => (t.sp 3).sampleSeq == 1
      && (t.sp 3).samples.map (fun e => e.length) == [48]) = true ∧
    after (exec (.schedCfgGcl h0 3 [(60000, 255), (0, 0)] 60000 0 ⟨0, 0, 0⟩ 64 0) w) (fun t => due t h0 { status := .ok }
      && t.rd .chs_gcl_admin_gates 192 == 255) = true ∧
    after (exec (.schedCfgShaper h0 3 3 1 20000 65535) w) (fun t => due t h0 { status := .ok } && t.rd .chs_cbs_idleslope 14 == 20000) = true ∧
    after (exec (.schedCfgOverhead h0 3 255) w) (fun t => t.rd .chs_port_cfg_ovh 3 == 255) = true ∧
    after (exec (.schedCfgPolice h0 7 1 1 16777215 4096) w) (fun t => (t.mb 7).level == 4096 * tokenUnit
      && t.rd .chs_pol_rate_rate 7 == 16777215) = true ∧
    after (exec (.schedCfgSampling h0 1 24) w) (fun t => t.rd .chs_smp_cfg_k 0 == 24) = true ∧
    after (exec (.schedCfgReadSamples h0 3 1024 16) ((flight0 w).modSp 3 (fun q => { q with samples := [[1, 2]] }))) (fun t =>
      decide (t.out = [.hostWrite 0 16 [1, 2]])) = true := by decide +kernel

/-! ## Faults, Housekeeping and frames -/

/-- The fault collector running. -/
def sFlt : State := { w with flt := { w.flt with started := true } }

/-- The command of MB0 with FLT_INJ naming checker 0x10 on one bit. -/
def sInj (mode : Nat) : State := ((w.wr .flt_inj_checker 0 0x10).wr .flt_inj_bits 0 1).wr .flt_inj_mode 0 mode

/-- ERR_N latched, its first fault read. -/
def sErr : State := { w.wr .flt_err_latch 0 1 with flt := { w.flt with ackReady := true, firstErr := some 5 } }

/-- The loop clock running at frame 0. -/
def sClk : State := { w with boot := { w.boot with step := 8 } }

theorem wit_FaultCommandsComplete :
    (sFlt.flt.started = true ∧ sFlt.flt.reports = [] ∧ (Config.faultRow 0x16).isSome = true ∧ 0x16 ∉ [2, 3, 4, 5, 6, 7, 0x42] ∧
      sFlt.coalesces { src := 0x16 } = false) ∧
    (h0.remote = none ∧ (({ w with flt := { w.flt with log := [ent] } } : State).readEntries 0 0 4096 0).getLast? = some ent) ∧
    ((Config.faultRow 0x43).isSome = true ∧ policyBreaks 0x43 0x30 = false ∧ policyBreaks 0x43 0 = true) ∧
    (injectBad 0x10 1 2 = false ∧ (unl w).injectUnlocked 0 0x10 = true) ∧
    ((sInj 2).rd .flt_inj_checker 0 = 0x10 ∧ (sInj 2).rd .flt_inj_bits 0 = 1 ∧ (sInj 2).rd .flt_inj_mode 0 = 2 ∧
      injectBad 0x10 1 0 = false) ∧
    (sErr.rd .flt_err_latch 0 ≠ 0 ∧ sErr.flt.ackReady = true) := by decide +kernel

theorem test_faults :
    after (exec (.faultDetected [{ src := 0x16, objKind := 1, obj := 9215 }] [] none []) sFlt) (fun t =>
      decide (t.flt.log.map (fun e => (e.source, e.object, e.cls, e.seq)) = [(0x16, 9215, 2, 0)])
      && t.rd .flt_log_seq_next 0 == 1) = true ∧
    after (exec (.faultLogRead h0 0 4096 0 1 16) { w with flt := { w.flt with log := [ent] } }) (fun t =>
      due t h0 { status := .ok, res0 := 1 } && (t.mb 0).logPtr == 6) = true ∧
    after (exec (.faultPolicySet h0 0x43 0x30 0) w) (fun t => due t h0 { status := .ok } && t.rd .flt_policy_react 0x43 == 0x30) = true ∧
    after (exec (.faultPolicySet h0 0x16 0 1) (w.wr .flt_policy_react 0x16 0x63)) (fun t => t.rd .flt_policy_react 0x16 == 1) = true ∧
    after (exec (.faultInject h0 0x10 1 0) (unl w)) (fun t => decide (t.flt.injections = [⟨0x10, 1, 0, 0⟩])) = true ∧
    after (exec .faultInjectArmWrite (sInj 1)) (fun t => decide (t.flt.injections = [⟨0x10, 1, 1, 0⟩]) && t.rd .flt_inj_arm 0 == 1) = true ∧
    after (exec .errAckWrite sErr) (fun t => t.rd .flt_err_latch 0 == 0 && !t.flt.ackReady) = true ∧
    after (exec (.faultNoticeReceived 9 2 0x16 1) w) (fun t => t.rd .flt_notice_rx_cnt 0 == 1
      && decide (t.flt.reports.map (fun r => (r.src, r.obj, r.detail)) = [(0x34, 9, 0x16 + 0x20000 + 0x1000000)])) = true ∧
    after (exec (.faultCollectorDisagree true) w) (fun t => t.flt.dead && t.flt.log.any (fun e => e.source == 0x43)) = true := by
  decide +kernel

theorem wit_HousekeepingAndFramesRun :
    ({ w with hkp := { w.hkp with started := true } } : State).hkp.started = true ∧ (6 < 7 ∧ 6 ≠ 1) ∧
    (sClk.clocked = true ∧ sClk.datum.switchDue = none ∧ (sClk.wr .chs_pol_cfg_en 7 1).rd .chs_pol_cfg_en 7 ≠ 0) ∧
    w.clocked = false := by decide +kernel

theorem test_frame :
    after (exec (.frameBoundary []) sClk) (fun t => t.datum.t == tickFrame && t.loop.frames == 1 && t.loop.hist.length == 1) = true := by
  decide +kernel

/-! ## Firebreak -/

/-- Firebreak in a state at sample 1,000,000, its link up, flash writes open, its configuration and other fields from `f`. -/
def sFbk (st : Nat) (f : FbkSt → FbkSt) : State :=
  { (run 80).wr .hkp_flash_inhibit 0 0 with fbk := f { w.fbk with state := st, tick := 1000000, link := true } }

/-- Pair 3 in a mode, output 3 enabled on pair 0, pair 0 in use. -/
def cfgF (mode : Nat) : Tbl Nat := [(256, 1), (259, mode), (1539, 1), (1795, 1), (2051, 0)]

/-- A stored copy of that configuration with no password. -/
def cpy (gen : Nat) : FCopy := { cfg := cfgF 1, pw := some (5, 6), gen := gen }

/-- Output 3 on. -/
def out3 : Tbl FOut := [(3, { on := true, changedAt := 0 })]

/-- Pair 3 with a fault record. -/
def pair3 (x : FPair) : Tbl FPair := [(3, x)]

theorem wit_FirebreakRuns :
    ((sFbk 0 (fun b => { b with copyA := some (cpy 1), copyB := some (cpy 2) })).fbk.state = 0 ∧
      newerCopy true true (some (cpy 1)) (some (cpy 2)) = some (cpy 2)) ∧
    ((sFbk 1 id).fbk.state ≠ 0 ∧ (sFbk 3 id).fbk.state = 3 ∧ (sFbk 1 id).fbk.state = 1) ∧
    ((sFbk 1 (fun b => { b with cfg := cfgF 3 })).fcfg 1 3 = 3 ∧ ((sFbk 1 id).fpair 3).a.stuck = 0) ∧
    (let s := sFbk 1 (fun b => { b with cfg := cfgF 1, pairs := pair3 { a := { stuck := 1 }, b := { crossed := 1 } } })
     s.fcfg 1 3 = 1 ∧ 0 < (s.fpair 3).a.stuck ∧ 0 < (s.fpair 3).b.crossed) ∧
    (let s := sFbk 1 (fun b => { b with pairs := pair3 { first := some 999000 } })
     (s.fpair 3).first = some 999000 ∧ 999000 + 10 * s.fcfg 3 3 ≤ s.fbk.tick) ∧
    (let s := sFbk 1 (fun b => { b with cfg := cfgF 3, pairs := pair3 { reached := true } })
     s.fcfg 1 3 = 3 ∧ s.edmMatches 3 (s.fpair 3) = false ∧ (s.fpair 3).reached = true) ∧
    ((sFbk 1 (fun b => { b with outs := out3 })).fout 3).on = true ∧
    ((sFbk 1 (fun b => { b with cfg := cfgF 1 })).fcfg 6 3 = 1 ∧ ((sFbk 1 id).fout 3).on = false) ∧
    ((sFbk 2 id).fbk.state = 2 ∧ (sFbk 2 id).fbk.pend = none) ∧ ((sFbk 1 id).fpair 3).first = none ∧ (sFbk 1 id).fcfg 1 3 ≠ 3 ∧
    (let s := sFbk 1 (fun b => { b with cfg := cfgF 1, pairs := [(0, { okFor := 200, a := { level := true }, b := { level := true } })] })
     s.outAllowed 3 = true ∧ s.fcfg 8 3 = 0 ∧ s.outReady 3 = true) ∧
    (sFbk 1 id).outAllowed 3 = false := by decide +kernel

theorem test_firebreak :
    after (exec (.firebreakStart true true none) (sFbk 0 (fun b => { b with copyA := some (cpy 1), copyB := some (cpy 2) }))) (fun t =>
      t.fbk.state == 1 && t.fbk.cfg == cfgF 1) = true ∧
    after (exec (.firebreakStart true true none) (sFbk 0 id)) (fun t => t.fbk.state == 3) = true ∧
    after (exec (.safetySample 255 false) (sFbk 1 id)) (fun t => t.fbk.tick == 1000001) = true ∧
    after (exec (.testPulse 0 64 0 true) (sFbk 1 (fun b => { b with cfg := cfgF 1 }))) (fun t => t.fbk.state == 1
      && t.rd .fbk_fault_tp_miss 0 == 1 && (t.fpair 3).a.stuck == 1) = true ∧
    after (exec (.testPulse 0 64 0 true) (sFbk 1 (fun b => { b with cfg := cfgF 1, pairs := pair3 { a := { stuck := 1 } } }))) (fun t =>
      t.fbk.state == 2 && t.rd .fbk_fault_cause 0 == 2 && t.rd .fbk_fault_obj 0 == 3) = true ∧
    after (exec (.inputDiscrepancy 3) (sFbk 1 (fun b => { b with pairs := pair3 { first := some 999000 } }))) (fun t =>
      t.rd .fbk_fault_cause 0 == 1) = true ∧
    after (exec (.edmTimeout 3) (sFbk 1 (fun b => { b with cfg := cfgF 3, pairs := pair3 { reached := true } }))) (fun t =>
      t.rd .fbk_fault_cause 0 == 7) = true ∧
    after (exec (.outputOvercurrent 3) (sFbk 1 (fun b => { b with outs := out3 }))) (fun t => t.rd .fbk_fault_cause 0 == 6
      && !(t.fout 3).on) = true ∧
    after (exec (.staticCheck 3 false) (sFbk 1 (fun b => { b with cfg := cfgF 1 }))) (fun t => t.rd .fbk_fault_cause 0 == 5) = true ∧
    after (exec (.oscillatorFault 1) (sFbk 2 id)) (fun t => t.rd .fbk_fault_cause 0 == 0) = true ∧
    after (exec (.outputRestart 3) (sFbk 1 (fun b => { b with
      cfg := cfgF 1, pairs := [(0, { okFor := 200, a := { level := true }, b := { level := true } })] }))) (fun t => (t.fout 3).on) = true := by
  decide +kernel

/-- Output port 511 with gate 9215, GATE_DARK 100. -/
def mapD : EMap := { mapP with portRecs := [(1023, { use := 1, gate := 9215, tap := 6143, gateDark := 100 })] }

/-- Firebreak in RUN with that map, its gate in HOLD with drive and output 900. -/
def sDark (f : FbkSt → FbkSt) (dark : List Nat) : State :=
  let s := sFbk 1 f
  { s with
    map := { force := some mapD }
    loop := { (sEl (fun x => { x with state := 2, waiting := false, drive := 900, out := 900 })).loop with dark := dark } }

theorem wit_FirebreakLinkAndDarkeningRun :
    ((sFbk 0 id).fbk.state = 0 ∧ (49 < 50 ∨ 500 < 49) ∧ (50 ≤ 50 ∧ 500 ≤ 500)) ∧
    ((sFbk 2 id).fbk.state = 2 ∧ (sFbk 2 id).badPairs = [] ∧
      (sFbk 2 (fun b => { b with cfg := cfgF 1 })).badPairs ≠ []) ∧
    ((sFbk 2 (fun b => { b with pend := some 400000 })).fbk.pend = some 400000 ∧ 400000 + 600000 ≤ (sFbk 2 id).fbk.tick ∧
      (sFbk 2 id).fbk.tick < 400001 + 600000) ∧
    (let s := sFbk 1 (fun b => { b with session := true, tick := 3000000 })
     s.fbk.session = true ∧ s.fbk.lastCmd + 3000000 ≤ s.fbk.tick ∧ (sFbk 1 id).fbk.session = false) ∧
    ((sFbk 1 id).fbk.link = true ∧ (sFbk 1 (fun b => { b with link := false })).fbk.link = false) ∧
    (let s := sDark (fun b => { b with want := [(1023, 78)] }) []
     s.fbk.want = [(1023, 78)] ∧ s.darkDue (1023, 78) = true ∧ (sFbk 1 id).fbk.want.any (sFbk 1 id).darkDue = false) ∧
    (let s := sDark (fun b => { b with release := [(9215, 78)] }) [9215]
     s.fbk.release = [(9215, 78)] ∧ elemCpt 9215 = 3 ∧ 9215 ∈ s.loop.dark ∧ s.nextBoundary 3 78 = true) ∧
    ((sFbk 1 id).fbkFlash = true ∧ (sFbk 1 (fun b => { b with link := false })).fbkFlash = false) := by decide +kernel

theorem test_darkening :
    after (exec (.fbrstNPulse 49 none) (sFbk 2 id)) (fun t => t.rd .fbk_fault_rst_ign 0 == 1) = true ∧
    after (exec (.fbrstNPulse 500 none) (sFbk 2 id)) (fun t => decide (t.fbk.pend = some 1000000)
      && t.rd .fbk_status_reset_pend 0 == 1) = true ∧
    after (exec (.fbrstNPulse 50 (some (2, 3))) (sFbk 2 id)) (fun t => decide (t.fbk.pend = none) && t.rd .fbk_fault_cause 0 == 2
      && t.rd .fbk_fault_obj 0 == 3) = true ∧
    after (exec .resetPendTimeout (sFbk 2 (fun b => { b with pend := some 400000 }))) (fun t => decide (t.fbk.pend = none)) = true ∧
    after (exec .resetPendTimeout (sFbk 2 (fun b => { b with pend := some 400001 }))) (fun t => decide (t.fbk.pend = some 400001)) = true ∧
    after (exec .sessionTimeout (sFbk 1 (fun b => { b with session := true, tick := 3000000 }))) (fun t => !t.fbk.session) = true ∧
    after (exec .firebreakLinkLoss (sFbk 1 id)) (fun t => !t.fbk.link && t.flt.reports.any (fun r => r.src == 0x49)) = true ∧
    after (exec .firebreakLinkReturn (sFbk 1 (fun b => { b with link := false }))) (fun t => t.fbk.link) = true ∧
    after (exec .darkeningStart (sDark (fun b => { b with want := [(1023, 78)] }) [])) (fun t => t.loop.dark == [9215]
      && decide ((t.el 9215).djump.map (fun j => (j.vs, j.vt, j.goal)) = some (900, 100, .dark)) && (t.el 9215).drive == 900) = true ∧
    after (exec (.darkeningRelease 3) (sDark (fun b => { b with release := [(9215, 78)] }) [9215])) (fun t => t.loop.dark == []
      && t.fbk.release == [] && decide ((t.el 9215).djump.map (fun j => j.vt) = some 900)) = true ∧
    after (exec .safetyLogFlush (sFbk 1 (fun b => { b with held := [⟨0, none, false, 0, 1, 0, 0, 0, 0⟩] }))) (fun t =>
      t.fbk.held == [] && t.fbk.log.length == 1) = true := by decide +kernel

/-- The 8 characters of a password. -/
def pass : List Nat := [0x21, 0x7E, 0x30, 0x31, 0x32, 0x33, 0x34, 0x35]

/-- A session open with a staged configuration. -/
def sSes (staged : Tbl Nat) : State := sFbk 3 (fun b => { b with session := true, staged := staged, stagedPw := some (1, 2) })

theorem wit_SafetyCommandsComplete :
    (h0.remote = none ∧ (sFbk 1 id).fbk.link = true) ∧
    ((sFbk 2 (fun b => { b with pend := some 400001 })).pendNow = true ∧ (sFbk 2 (fun b => { b with pend := some 400000 })).pendNow = false ∧ (sFbk 1 id).fbk.state ≠ 2) ∧
    (let s := sFbk 1 (fun b => { b with cfg := [(256, 1), (1539, 1), (1795, 1)], pairs := [(0, { okFor := 200 })] })
     (∀ n ∈ bitsSet 4 8, s.outReady n = true) ∧ 3 ∈ bitsSet 4 8 ∧ s.outWaits 3 = true ∧ s.outAllowed 3 = true) ∧
    (passwordBad 8 pass = false ∧ (sFbk 1 (fun b => { b with blockedAt := some 400001 })).openBlocked = true ∧
      (sFbk 1 (fun b => { b with blockedAt := some 400000 })).openBlocked = false ∧ (sFbk 3 id).passwordOk pass = true) ∧
    (fbkParamOk 1 3 3 = true ∧ fbkParamOk 11 5 15 = true) ∧
    ((sSes (cfgF 1)).stagedOk = true ∧ (sSes (cfgF 1)).flashRefused = false ∧ (sSes [(1536, 1)]).stagedOk = false ∧
      ((sSes (cfgF 1)).wr .hkp_flash_inhibit 0 1).flashRefused = true ∧ (sSes (cfgF 1)).changedParams ≠ [] ∧
      (sFbk 3 (fun b => { b with session := true, pw := some (1, 2) })).changedParams = [] ∧
      (sFbk 3 (fun b => { b with session := true, pw := some (1, 2) })).stagedOk = true) := by decide +kernel

/-- A password that differs from the one set. -/
theorem wit_wrongPassword : (sFbk 1 (fun b => { b with pw := some (5, Config.passwordDigest 5 (pass.take 8) + 1) })).passwordOk
    (pass.take 8) = false ∧ (sFbk 1 (fun b => { b with pw := some (5, Config.passwordDigest 5 (pass.take 8)) })).passwordOk
    (pass.take 8) = true := by
  constructor <;> simp [State.passwordOk, sFbk]

theorem test_safety :
    after (exec (.safetyStatusAck h0) (sFbk 2 (fun b => { b with pend := some 400001 }))) (fun t => t.fbk.state == 1
      && due t h0 { status := .ok }) = true ∧
    after (exec (.safetyStatusAck h0) (sFbk 2 id)) (fun t => due t h0 { status := .safetyLockout }) = true ∧
    after (exec (.safetyStatusRestart h0 8) (sFbk 1 (fun b => { b with
      cfg := [(256, 1), (1539, 1), (1795, 1)], pairs := [(0, { okFor := 200 })] }))) (fun t => (t.fout 3).on
        && due t h0 { status := .ok }) = true ∧
    after (exec (.safetySessionOpen h0 8 pass) (sFbk 1 (fun b => { b with blockedAt := some 400001 }))) (fun t => t.fbk.authFail == 1
      && due t h0 { status := .authFailed }) = true ∧
    after (exec (.safetySessionOpen h0 8 pass) (sFbk 3 id)) (fun t => t.fbk.session && due t h0 { status := .ok }) = true ∧
    after (exec (.safetyConfigParameter h0 (256 * 11 + 5) 3) (sSes [])) (fun t => fbkGet t.fbk.staged 11 5 == 3) = true ∧
    after (exec (.safetySessionCloseDiscard h0) (sSes (cfgF 1))) (fun t => !t.fbk.session && t.fbk.staged == []
      && t.fbk.cfg == []) = true ∧
    after (exec (.safetySessionCloseCommit h0) (sSes [(1536, 1)])) (fun t => due t h0 { status := .invalidField }) = true ∧
    after (exec (.safetyLogRead h0 1 512 16) (sFbk 1 (fun b => { b with log := [⟨0, none, false, 0, 1, 0, 0, 0, 0⟩] }))) (fun t =>
      due t h0 { status := .ok, res0 := 0 }) = true := by decide +kernel

/-! ## Register writes -/

theorem wit_RegisterAndBar2WritesRun :
    (¬ ((16 : Nat) = 32 ∧ 0x20000 % 4 = 0 ∨ (16 : Nat) = 64 ∧ 0x20000 % 8 = 0)) ∧ regAt 0xA0FFC = none ∧
    (w.rd .flt_status_ce 0 < 2 ∧ w.rd .flt_status_uc 0 < 2 ∧ w.rd .flt_status_ft 0 < 2) ∧
    ((unl w).covers 0xA0004 .hkp_thr_cfg_gain 0 = true ∧ w.covers 0xA0004 .hkp_thr_cfg_gain 0 = false) ∧
    ((sSes []).fbk.session = true ∧ (sSes []).rd .fbk_src_cfg_dark 5 < 16 ∧ (sSes []).rd .fbk_src_cfg_heat 5 < 16 ∧
      (sFbk 1 id).fbk.session = false) ∧
    (w.rd .mbx_ctrl_en 7 = 0 ∧ sMb7.rd .mbx_ctrl_en 7 ≠ 0) ∧
    ((unl w).unlockedBy 0 2 0 = true ∧ 0x7FFFFC % 4 = 0 ∧ 0x7FFFFC < 0x800000) ∧
    (w.unlockedBy 0 2 0 = false ∧ w.unlockedBy 0 1 6 = false) := by decide +kernel

theorem test_registers :
    after (exec (.registerWrite 0 0x20000 32 5) (((w.wr .flt_status_ce 0 1).wr .flt_status_uc 0 1).wr .flt_status_ft 0 1)) (fun t =>
      t.rd .flt_status_ce 0 == 0 && t.rd .flt_status_uc 0 == 1 && t.rd .flt_status_ft 0 == 0) = true ∧
    after (exec (.registerWrite 0 0xA0004 32 0xFFFF) (unl w)) (fun t => t.rd .hkp_thr_cfg_gain 0 == 1023) = true ∧
    after (exec (.registerWrite 0 0xA0004 32 5) w) (fun t => t.flt.reports.map (fun r => r.src) == [0x39]) = true ∧
    after (exec (.registerWrite 7 8 64 (2 ^ 52 + 4095)) w) (fun t => t.rd .mbx_sq_base_base 7 == 2 ^ 40) = true ∧
    after (exec (.bar2Write 0x7FFFFC 32 9) (unl w)) (fun t => Tbl.get 0 (t.slot 4095).perm 511 == 9 && (t.slot 4095).gen == 1) = true ∧
    exec (.bar2Write 0x7FFFFC 32 9) w = .next w := by
  refine ⟨by decide +kernel, by decide +kernel, by decide +kernel, by decide +kernel, by decide +kernel, rfl⟩

/-! ## Rules stated as they stand -/

theorem wit_RangeChangeInParkIsImmediate :
    (let s := elm 9215 (fun x => { x with rchg := some (rch 1) })
     (s.el 9215).state = 0 ∧ (s.el 9215).rchg = some (rch 1) ∧ (rch 1).started = false ∧ (rch 1).at0 < s.loop.frames) ∧
    (run 80).loop.frames ≤ (rch 0).at0 := by decide +kernel

theorem test_parkRange : after (exec (.rangeChangeStart 9215) (elm 9215 (fun x => { x with rchg := some { at0 := 79, hi := true } })))
    (fun t => t.rangeHi 9215 && decide ((t.el 9215).rchg = none)) = true := by decide +kernel

/-- A port without a gate asked to go dark. -/
def sNoGate : State := { sFbk 1 (fun b => { b with want := [(5, 0)] }) with map := { force := some mapD } }

theorem wit_PortWithoutGateIsNotDarkenable :
    sNoGate.gateOf 5 = 0xFFFF ∧ (∀ x ∈ sNoGate.fbk.want, sNoGate.gateOf x.1 = 0xFFFF) ∧ (5, 0) ∈ sNoGate.fbk.want ∧
      sNoGate.fbk.link = true := by decide +kernel

/-- A corrected fault reported 1 s less one unit after an entry of it, or after 1 s. -/
def sCe (t : Nat) : State := { w with
  flt := { w.flt with started := true, reports := [{ src := 0x12, objKind := 1, obj := 9215 }]
                      log := [{ ent with source := 0x12, cls := 1 }, ent] }
  datum := { w.datum with t := t } }

theorem wit_CorrectedFaultsCoalesce :
    (let s := sCe (1000000000 * tickNs - 1)
     let r : FaultRep := { src := 0x12, objKind := 1, obj := 9215 }
     s.flt.started = true ∧ s.flt.reports = [r] ∧ (Config.faultRow r.src).isSome = true ∧
      s.flt.log = [] ++ { ent with source := 0x12, cls := 1 } :: [ent] ∧ (∀ x ∈ [ent], x.source ≠ r.src) ∧ repClass r = 1 ∧
      s.datum.t < 0 + 1000000000 * tickNs) ∧
    0 + 1000000000 * tickNs ≤ (sCe (1000000000 * tickNs)).datum.t ∧
    repClass { src := 0x16 } ≠ 1 := by decide +kernel

theorem test_coalesce :
    after (exec (.faultDetected [] [] none []) (sCe (1000000000 * tickNs - 1))) (fun t => t.flt.log.map (fun e => e.reps) == [1, 0]) = true ∧
    after (exec (.faultDetected [] [] none []) (sCe (1000000000 * tickNs))) (fun t => t.flt.log.map (fun e => e.reps) == [0, 0, 0]) = true := by
  decide +kernel

/-! ## Boot, measurement, staging and activation -/

/-- A state with the SPDM negotiation complete. -/
def sSpdm : State := { w with boot := { w.boot with spdmVersion := true, spdmCaps := true, spdmAlgs := true } }

theorem wit_SpdmRequestsAnswered :
    sSpdm.boot.actStep ≠ 6 ∧ 4096 ≤ 4096 ∧ sSpdm.boot.spdmVersion = true ∧ sSpdm.boot.spdmCaps = true ∧
      sSpdm.boot.spdmAlgs = true ∧ (7 : Nat) < 8 := by decide +kernel

theorem wit_certificateOffset : Config.certChain.length ≤ Config.certChain.length := Nat.le_refl _

theorem wit_BootFusesAndResetRequests :
    (w.boot.step = 0 ∧ w.boot.clkref = true ∧ w.bootBank = none) ∧ (unl w).covers 0x8 .glb_reset_key 0 = true ∧
    ((unl w).covers 0xC0014 .boot_fuse_prog_code 0 = true ∧ ((unl w).wr .hkp_flash_inhibit 0 0).rd .hkp_flash_inhibit 0 = 0) ∧
    (w.rd .boot_fuse_jtag_lock 0 = 0 ∧ (w.wr .boot_fuse_jtag_lock 0 1).rd .boot_fuse_jtag_lock 0 ≠ 0) ∧
    (let s := { run 488282 with boot := { w.boot with actStep := 6 } }
     s.boot.actStep = 6 ∧ s.boot.actAt + framesIn 500000000 ≤ s.loop.frames) := by decide +kernel

theorem test_boot :
    after (exec (.glbResetWrite 0xD5) (unl w)) (fun t => t.flt.drstPending) = true ∧
    after (exec (.glbResetWrite 0xD4) (unl w)) (fun t => !t.flt.drstPending) = true ∧
    after (exec (.fuseProgWrite 0x1A5E true) ((unl w).wr .hkp_flash_inhibit 0 0)) (fun t => t.rd .boot_fuse_jtag_lock 0 == 1) = true ∧
    after (exec (.jtagInstructionLoad 5) (w.wr .boot_fuse_jtag_lock 0 1)) (fun t => t.boot.jtag == 0) = true ∧
    after (exec (.jtagInstructionLoad 5) w) (fun t => t.boot.jtag == 5) = true ∧
    after (exec .foresterWatchdog { run 488281 with boot := { w.boot with actStep := 6 } }) (fun t => t.flt.reports == []) = true ∧
    after (exec .foresterWatchdog { run 488282 with boot := { w.boot with actStep := 6 } }) (fun t => t.flt.reports.map (fun r => r.src) == [0x41]) = true := by
  decide +kernel

/-- The bytes of an image from 0x100 on: 3,840 zeros. -/
def pay : List Nat := List.replicate 3840 0

/-- The bytes of its header before the digest: the three sections are empty and stand at its end. -/
def img0 : List Nat :=
  leBytes 4 0x5746584C ++ leBytes 2 1 ++ leBytes 2 0 ++ leBytes 4 7 ++ leBytes 4 0 ++ leBytes 4 4096 ++ leBytes 4 4096 ++ leBytes 4 0 ++
    leBytes 4 4096 ++ leBytes 4 0 ++ leBytes 4 4096 ++ leBytes 4 0 ++ leBytes 4 (crc32 pay)

/-- A well-formed image of 4,096 bytes. -/
def img : List Nat := img0 ++ (leBytes 48 (Config.sha384 pay) ++ (List.replicate 160 0 ++ pay))

theorem img_digest : (img.drop 0x30).take 48 = leBytes 48 (Config.sha384 (img.drop 0x100)) := by
  have h0 : img0.length = 48 := by decide +kernel
  have h1 : ∀ n v, (leBytes n v).length = n := by
    intro n; induction n with
    | zero => intro v; rfl
    | succ n ih => intro v; simp [leBytes, ih]
  have h2 : img.drop 0x100 = pay := by
    have : img = (img0 ++ leBytes 48 (Config.sha384 pay) ++ List.replicate 160 0) ++ pay := by simp [img]
    rw [this]
    exact List.drop_left' (by simp [h0, h1])
  rw [h2, img, List.drop_left' h0, List.take_left' (h1 _ _)]

theorem img_formed : imgFormed img = true := by
  unfold imgFormed
  rw [img_digest]
  dsimp only
  rw [Bool.and_eq_true]
  exact ⟨by decide +kernel, by simp⟩

/-- A default element record's bytes: no role, every reference none. -/
def elemBytes : List Nat := [0, 0] ++ List.replicate 6 255 ++ List.replicate 24 0

/-- A default monitor record's bytes. -/
def monBytes : List Nat := [0, 0, 255, 255] ++ List.replicate 12 0

/-- A default port record's bytes. -/
def portBytes : List Nat := [0, 0] ++ List.replicate 8 255 ++ List.replicate 6 0

/-- `n` equal records. -/
def reps (n : Nat) (r : List Nat) : List Nat := (List.replicate n r).flatten

/-- The first 256 bytes of a map: topology NONE, no port, no cell, no rail, no sensor. -/
def mapHdr : List Nat :=
  leBytes 4 0x4D45584C ++ leBytes 2 1 ++ leBytes 2 0 ++ leBytes 4 442628 ++ List.replicate 12 0 ++ leBytes 4 9 ++ List.replicate 228 0

/-- A map without its CRC. -/
def mapBody : List Nat := mapHdr ++ (reps 10240 elemBytes ++ (reps 6144 monBytes ++ reps 1024 portBytes))

/-- The map of a module without a fabric. -/
def mapFile : List Nat := mapBody ++ leBytes 4 (crc32 mapBody)

/-- What that map reads as. -/
def mapRead : EMap := { (readMap mapHdr) with elems := [], mons := [], portRecs := [], cellRecs := [], crc := crc32 mapBody }

theorem reps_length (n : Nat) (r : List Nat) : (reps n r).length = n * r.length := by simp [reps]

theorem records_reps (n : Nat) (r t : List Nat) : records r.length n (reps n r ++ t) = List.replicate n r := by
  induction n with
  | zero => rfl
  | succ n ih =>
    have h : reps (n + 1) r ++ t = r ++ (reps n r ++ t) := by simp [reps, List.replicate_succ]
    rw [h, records, List.take_left' rfl, List.drop_left' rfl, ih, List.replicate_succ]

theorem tableOf_default {α : Type} [DecidableEq α] (d : α) (n : Nat) : tableOf d (List.replicate n d) = [] := by
  unfold tableOf
  rw [List.map_eq_nil_iff, List.filter_eq_nil_iff]
  intro p hp
  have h := List.mem_zipIdx hp
  have : p.1 = d := by
    have := h.2.2
    simpa using this
  simp [this]

theorem hdr_length : mapHdr.length = 256 := by decide +kernel

theorem body_length : mapBody.length = 442624 := by
  simp only [mapBody, List.length_append, reps_length, hdr_length]
  decide +kernel

theorem leBytes_length (n v : Nat) : (leBytes n v).length = n := by
  induction n generalizing v with
  | zero => rfl
  | succ n ih => simp [leBytes, ih]

theorem file_length : mapFile.length = 442628 := by simp [mapFile, body_length, leBytes_length]

theorem crcBit_lt {c : Nat} (h : c < 2 ^ 32) : crcBit c < 2 ^ 32 := by
  unfold crcBit
  split
  · exact Nat.xor_lt_two_pow (by omega) (by decide)
  · omega

theorem crcByte_lt {c b : Nat} (h : c < 2 ^ 32) (hb : b < 256) : crcByte c b < 2 ^ 32 := by
  unfold crcByte
  have : c ^^^ b < 2 ^ 32 := Nat.xor_lt_two_pow h (by omega)
  exact crcBit_lt (crcBit_lt (crcBit_lt (crcBit_lt (crcBit_lt (crcBit_lt (crcBit_lt (crcBit_lt this)))))))

theorem crcFold_lt (l : List Nat) (c : Nat) (h : c < 2 ^ 32) (hl : ∀ b ∈ l, b < 256) : l.foldl crcByte c < 2 ^ 32 := by
  induction l generalizing c with
  | nil => exact h
  | cons b r ih => exact ih _ (crcByte_lt h (hl b (by simp))) (fun x hx => hl x (by simp [hx]))

theorem mem_reps {n : Nat} {r : List Nat} {b : Nat} (h : b ∈ reps n r) : b ∈ r := by
  simp only [reps, List.mem_flatten, List.mem_replicate] at h
  obtain ⟨l, ⟨_, rfl⟩, hb⟩ := h
  exact hb

theorem body_bytes : ∀ b ∈ mapBody, b < 256 := by
  have h1 : ∀ b ∈ mapHdr, b < 256 := by decide +kernel
  have h2 : ∀ b ∈ elemBytes, b < 256 := by decide +kernel
  have h3 : ∀ b ∈ monBytes, b < 256 := by decide +kernel
  have h4 : ∀ b ∈ portBytes, b < 256 := by decide +kernel
  intro b hb
  simp only [mapBody, List.mem_append] at hb
  rcases hb with hb | hb | hb | hb
  · exact h1 b hb
  · exact h2 b (mem_reps hb)
  · exact h3 b (mem_reps hb)
  · exact h4 b (mem_reps hb)

theorem crc32_lt (bs : List Nat) (h : ∀ b ∈ bs, b < 256) : crc32 bs < 2 ^ 32 :=
  Nat.xor_lt_two_pow (crcFold_lt bs _ (by decide) h) (by decide)

theorem crc_lt : crc32 mapBody < 2 ^ 32 := crc32_lt mapBody body_bytes

theorem leNat_leBytes4 (v : Nat) (h : v < 2 ^ 32) : leNat (leBytes 4 v) = v := by
  simp only [leBytes, leNat]; omega

theorem fld_hdr (o n : Nat) (h : o + n ≤ 256) : fld mapFile o n = fld mapHdr o n := by
  unfold fld mapFile mapBody
  rw [List.append_assoc, List.drop_append_of_le_length (by rw [hdr_length]; omega),
    List.take_append_of_le_length (by rw [List.length_drop, hdr_length]; omega)]

theorem records_append (sz n : Nat) (a b : List Nat) (h : sz * n ≤ a.length) : records sz n (a ++ b) = records sz n a := by
  induction n generalizing a with
  | zero => rfl
  | succ n ih =>
    have h1 : sz ≤ a.length := Nat.le_trans (by rw [Nat.mul_succ]; omega) h
    rw [records, records, List.take_append_of_le_length h1, List.drop_append_of_le_length h1,
      ih _ (by rw [List.length_drop]; rw [Nat.mul_succ] at h; omega)]

theorem file_drop (o : Nat) (h : o ≤ 256) : mapFile.drop o = mapHdr.drop o ++
    ((reps 10240 elemBytes ++ (reps 6144 monBytes ++ reps 1024 portBytes)) ++ leBytes 4 (crc32 mapBody)) := by
  unfold mapFile
  rw [show mapBody = mapHdr ++ (reps 10240 elemBytes ++ (reps 6144 monBytes ++ reps 1024 portBytes)) from rfl, List.append_assoc,
    List.drop_append_of_le_length (by rw [hdr_length]; omega)]

theorem map_reads : readMap mapFile = mapRead := by
  have hd (A B : List Nat) (n : Nat) (h : A.length = n) : (A ++ B).drop n = B := List.drop_left' h
  have e1 : mapFile.drop 0x100 = reps 10240 elemBytes ++ ((reps 6144 monBytes ++ reps 1024 portBytes) ++ leBytes 4 (crc32 mapBody)) := by
    rw [show mapFile = mapHdr ++ (reps 10240 elemBytes ++ ((reps 6144 monBytes ++ reps 1024 portBytes) ++ leBytes 4 (crc32 mapBody))) by
      simp [mapFile, mapBody]]
    exact hd _ _ _ hdr_length
  have e2 : mapFile.drop 0x50100 = reps 6144 monBytes ++ (reps 1024 portBytes ++ leBytes 4 (crc32 mapBody)) := by
    rw [show mapFile = (mapHdr ++ reps 10240 elemBytes) ++ (reps 6144 monBytes ++ (reps 1024 portBytes ++ leBytes 4 (crc32 mapBody))) by
      simp [mapFile, mapBody]]
    exact hd _ _ _ (by simp only [List.length_append, reps_length, hdr_length]; decide +kernel)
  have e3 : mapFile.drop 0x68100 = reps 1024 portBytes ++ leBytes 4 (crc32 mapBody) := by
    rw [show mapFile = (mapHdr ++ reps 10240 elemBytes ++ reps 6144 monBytes) ++ (reps 1024 portBytes ++ leBytes 4 (crc32 mapBody)) by
      simp [mapFile, mapBody]]
    exact hd _ _ _ (by simp only [List.length_append, reps_length, hdr_length]; decide +kernel)
  have e4 : mapFile.drop 0x6C100 = leBytes 4 (crc32 mapBody) := hd _ _ _ body_length
  have r1 : records 32 10240 (mapFile.drop 0x100) = List.replicate 10240 elemBytes := by rw [e1]; exact records_reps 10240 elemBytes _
  have r2 : records 16 6144 (mapFile.drop 0x50100) = List.replicate 6144 monBytes := by rw [e2]; exact records_reps 6144 monBytes _
  have r3 : records 16 1024 (mapFile.drop 0x68100) = List.replicate 1024 portBytes := by rw [e3]; exact records_reps 1024 portBytes _
  have t1 : tableOf ({} : ElemRec) ((records 32 10240 (mapFile.drop 0x100)).map readElem) = [] := by
    rw [r1, List.map_replicate, show readElem elemBytes = {} by decide +kernel]; exact tableOf_default _ _
  have t2 : tableOf ({} : MonRec) ((records 16 6144 (mapFile.drop 0x50100)).map readMon) = [] := by
    rw [r2, List.map_replicate, show readMon monBytes = {} by decide +kernel]; exact tableOf_default _ _
  have t3 : tableOf ({} : PortRec) ((records 16 1024 (mapFile.drop 0x68100)).map readPort) = [] := by
    rw [r3, List.map_replicate, show readPort portBytes = {} by decide +kernel]; exact tableOf_default _ _
  have c0 : fld mapHdr 6 2 = 0 := by decide +kernel
  have crc : fld mapFile 0x6C100 4 = crc32 mapBody := by
    unfold fld; rw [e4, List.take_of_length_le (by rw [leBytes_length])]; exact leNat_leBytes4 _ crc_lt
  have rails : records 2 64 (mapFile.drop 0x40) = records 2 64 (mapHdr.drop 0x40) := by
    rw [file_drop 0x40 (by decide), records_append _ _ _ _ (by rw [List.length_drop, hdr_length]; decide)]
  have sens : records 8 4 (mapFile.drop 0xC0) = records 8 4 (mapHdr.drop 0xC0) := by
    rw [file_drop 0xC0 (by decide), records_append _ _ _ _ (by rw [List.length_drop, hdr_length]; decide)]
  have cells : tableOf ({} : CellRec) ((records 16 0 (mapFile.drop 0x6C100)).map readCell) = [] := rfl
  unfold readMap
  simp only [t1, t2, t3, fld_hdr _ _ (show 6 + 2 ≤ 256 by decide), c0, rails, sens, cells, Nat.mul_zero, Nat.add_zero, crc]
  simp only [fld_hdr _ _ (show 0 + 4 ≤ 256 by decide), fld_hdr _ _ (show 4 + 2 ≤ 256 by decide),
    fld_hdr _ _ (show 8 + 4 ≤ 256 by decide), fld_hdr _ _ (show 0xC + 1 ≤ 256 by decide), fld_hdr _ _ (show 0xE + 2 ≤ 256 by decide),
    fld_hdr _ _ (show 0x10 + 8 ≤ 256 by decide), fld_hdr _ _ (show 0x18 + 4 ≤ 256 by decide), fld_hdr _ _ (show 0x1C + 6 ≤ 256 by decide),
    fld_hdr _ _ (show 0x24 + 2 ≤ 256 by decide), fld_hdr _ _ (show 0x26 + 2 ≤ 256 by decide), fld_hdr _ _ (show 0xD + 1 ≤ 256 by decide),
    fld_hdr _ _ (show 0x22 + 2 ≤ 256 by decide), fld_hdr _ _ (show 0x28 + 24 ≤ 256 by decide), fld_hdr _ _ (show 0xE0 + 32 ≤ 256 by decide)]
  rfl

theorem none_bad (table n : Nat) (bad : Nat → Bool) (h : ∀ i, bad i = false) : firstBad table n bad = none := by
  unfold firstBad
  rw [Option.map_eq_none_iff, List.find?_eq_none]
  intro i _
  simp [h i]

theorem none_first {x : Option (Nat × Nat)} {l : List (Option (Nat × Nat))} (h : x = none) (hl : firstOf l = none) :
    firstOf (x :: l) = none := by subst h; exact hl

theorem map_ok5 : check5 mapRead = none :=
  none_first (by decide +kernel) (none_first (by decide +kernel) (none_first (none_bad _ _ _ fun _ => rfl)
    (none_first (none_bad _ _ _ fun _ => rfl) (none_first (none_bad _ _ _ fun _ => rfl) (none_first (by decide +kernel) rfl)))))

theorem map_ok7 : check7 mapRead = none := none_bad _ _ _ fun e => by
  have h : mapRead.elem e = {} := rfl
  simp only [h]
  cases isV e <;> decide

theorem map_ok8 : check8 mapRead = none :=
  none_first (none_bad _ _ _ fun _ => rfl) (none_first (none_bad _ _ _ fun _ => rfl) (none_first (by decide +kernel) rfl))

theorem map_ok14 : check14 mapRead = none :=
  none_first (none_bad _ _ _ fun e => by
      show (decide (2 ^ (if isV e then 20 else 16) ≤ 0) || decide (15 < 0) || decide (15 < 0)) = false
      cases isV e <;> rfl)
    (none_first (none_bad _ _ _ fun _ => rfl) (none_first (none_bad _ _ _ fun _ => rfl) rfl))

theorem map_ok15 : check15 mapRead = none :=
  none_first (none_bad _ _ _ fun _ => rfl) (none_first (none_bad _ _ _ fun p => by
      show ((0 != if p % 512 < mapRead.ports then 1 else 0) || (true == false && true) || !(true || false)) = false
      rw [show mapRead.ports = 0 by decide +kernel]; rfl)
    (none_first (by decide +kernel) rfl))

theorem map_ok (loop : Nat → Nat × Nat) : mapCheck loop mapFile = none := by
  have h1 : (mapRead.magic == 0x4D45584C && mapRead.version == 1) = true := by decide +kernel
  have h2 : (mapRead.length == 442628 + 16 * mapRead.cells && mapRead.length == mapFile.length) = true := by
    rw [file_length]; decide +kernel
  have h3 : (mapRead.crc == crc32 (mapFile.take (mapRead.length - 4))) = true := by
    have : mapRead.length - 4 = 442624 := by decide +kernel
    rw [this, mapFile, List.take_left' body_length]; exact beq_self_eq_true _
  have h4 : topologyOk mapRead = true := by decide +kernel
  have h6 : check6 mapRead = none := by decide +kernel
  have h9 : check9 mapRead = none := by decide +kernel
  have h10 : check10 mapRead = none := none_bad _ _ _ fun e => by
    have h : mapRead.elem e = {} := rfl
    simp only [h]
    rfl
  have h11 : check11 loop mapRead = none := none_bad _ _ _ fun e => by
    have h : mapRead.elem e = {} := rfl
    simp only [h]
    rfl
  have h12 : check12 mapRead = none := none_bad _ _ _ fun _ => rfl
  have h13 : check13 mapRead = none := none_bad _ _ _ fun _ => rfl
  unfold mapCheck
  rw [map_reads]
  simp only [h1, h2, h3, h4, map_ok5, h6, map_ok7, map_ok8, h9, h10, h11, h12, h13, map_ok14, map_ok15]
  rfl

/-- Flash writes open, the shadow ELIGIBLE, that image and that map staged. -/
def sBoot : State := { sBat.wr .hkp_flash_inhibit 0 0 with
  boot := { w.boot with bankB := some img }, map := { w.map with slotB := some mapFile } }

/-- A remote staging in progress from the originator. -/
def xfer (attempts : Nat) : Xfer :=
  { owner := o0, kind := 0, xferId := 3, dst := 4, image := [1, 2, 3], acked := 1, attempts := attempts }

/-- The originator of that staging. -/
def sXfer (attempts : Nat) : State := flight0 { run 30000000 with boot := { w.boot with xferOut := some (xfer attempts) } }

/-- A module that accepts remote staging. -/
def sAcc : State := (w.wr .chp_remote_accept 0 1).wr .chp_remote_class_en 0 256

theorem wit_StagingCommandsComplete :
    (4096 ≤ 33554432 ∧ img.length = 4096 ∧ sBoot.badSrc h0 0 16 4096 = false ∧ sBoot.stageBusy 0 = false ∧ imgFormed img = true ∧
      sBoot.imgRejected img = false ∧ sBoot.rd .hkp_flash_inhibit 0 = 0) ∧
    (mapLengthOk 442628 = true ∧ mapFile.length = 442628 ∧ mapCheck sBoot.loopShape mapFile = none) ∧
    (sAcc.boot.xferIn = none ∧ sAcc.rd .chp_remote_accept 0 ≠ 0 ∧ (sAcc.rd .chp_remote_class_en 0).testBit 8 = true ∧
      sAcc.activating = false ∧ [5].length < 2) ∧
    ((sXfer 2).boot.xferOut = some (xfer 2) ∧ 3 ≤ (xfer 2).image.length ∧ (xfer 2).acked ≠ (xfer 2).image.length ∧
      (xfer 2).attempts < 3 ∧ ¬ (xfer 3).attempts < 3 ∧ (xfer 2).wholeAt = none ∧
      (xfer 2).sentAt + framesIn 10000000 ≤ (sXfer 2).loop.frames ∧ 5 + framesIn 30000000000 ≤ (sXfer 2).loop.frames) :=
  ⟨⟨by decide, by decide +kernel, by decide +kernel, by decide +kernel, img_formed, by decide +kernel, by decide +kernel⟩,
    ⟨by decide, file_length, map_ok _⟩, by decide +kernel, by decide +kernel⟩

theorem test_bulk :
    after (exec (.fwBulkData 9 1 3 2 0 [5]) sAcc) (fun t => t.rd .boot_status_staging 0 == 1
      && decide (t.boot.xferIn = some { src := 9, kind := 1, xferId := 3, total := 2, data := [5], frames := 1 })) = true ∧
    after (exec (.fwBulkStatus 4 3 3) (sXfer 2)) (fun t => decide (t.boot.xferOut = some { xfer 0 with acked := 3, sentAt := 30000000, wholeAt := some 30000000 })) = true ∧
    after (exec (.fwBulkDone 4 3 0) (sXfer 2)) (fun t => decide (t.boot.xferOut = none) && ended t { status := .ok }) = true ∧
    after (exec (.fwBulkTimeout false) (sXfer 2)) (fun t => decide (t.boot.xferOut = some { xfer 3 with sentAt := 30000000 })) = true ∧
    after (exec (.fwBulkTimeout true) { sXfer 0 with boot := { w.boot with xferOut := some { xfer 0 with acked := 3, wholeAt := some 5 } } })
      (fun t => decide (t.boot.xferOut = none) && ended t { status := .remoteTimeout }) = true ∧
    after (exec (.fwBulkTimeout false) (sXfer 3)) (fun t => decide (t.boot.xferOut = none)
      && ended t { status := .remoteTimeout }) = true := by decide +kernel

theorem wit_ActivationCommandsComplete :
    (sBoot.boot.inactive = some img ∧ sBoot.fwBusy = false ∧ imgFormed img = true ∧ sBoot.imgRejected img = false ∧
      sBoot.mayActivate img = true) ∧
    ((sBoot.wr .boot_status_recovery 0 1).rd .boot_status_recovery 0 ≠ 0) ∧
    (let s := { sBoot with boot := { sBoot.boot with actStep := 6 } }
     s.boot.actStep = 6 ∧ s.boot.inactive = some img ∧ s.rd .hkp_flash_inhibit 0 = 0 ∧ s.rd .boot_fuse_sig_enf 0 = 0) ∧
    (sBoot.map.inactive = some mapFile ∧ sBoot.trv.queue = [] ∧ sBoot.allParked = true ∧ mapCheck sBoot.loopShape mapFile = none) :=
  ⟨⟨rfl, by decide +kernel, img_formed, by decide +kernel, by decide +kernel⟩, by decide +kernel,
    ⟨rfl, rfl, by decide +kernel, by decide +kernel⟩, ⟨rfl, rfl, by decide +kernel, map_ok _⟩⟩

theorem wit_ActivationCommandsComplete_map :
    ({ sBoot with map := { sBoot.map with change := some o0 } } : State).map.change = some o0 ∧ sBoot.flashRefused = false ∧
      (sBoot.wr .hkp_flash_inhibit 0 1).flashRefused = true := by decide +kernel
/-! ## Frames

Every clause of a frame statement has one hypothesis, that its command answers a next state. From reset every command
does, with each of its operands; that the commands also act is what the witnesses above show. -/

theorem wit_HostFrames : ∀ c, ∃ t, exec c w = .next t := by
  intro c; cases c <;> exact ⟨_, rfl⟩

theorem wit_ConverterFrames : ∀ c, ∃ t, exec c w = .next t := wit_HostFrames
theorem wit_LoopFrames : ∀ c, ∃ t, exec c w = .next t := wit_HostFrames
theorem wit_ChannelFrames : ∀ c, ∃ t, exec c w = .next t := wit_HostFrames
theorem wit_TraverseAndStandFrames : ∀ c, ∃ t, exec c w = .next t := wit_HostFrames
theorem wit_DatumFrames : ∀ c, ∃ t, exec c w = .next t := wit_HostFrames
theorem wit_ChainFrames : ∀ c, ∃ t, exec c w = .next t := wit_HostFrames
theorem wit_FirebreakFrames : ∀ c, ∃ t, exec c w = .next t := wit_HostFrames
theorem wit_FaultAndBootFrames : ∀ c, ∃ t, exec c w = .next t := wit_HostFrames

/-! ## Well-formed commands, words and the queue

One term for each kind of check, at the boundary of the width that its entry or message gives: the last value accepted,
the next refused. -/

theorem wf_byte : (Instr.elementReleaseTrip h0 255).wellFormed ∧ ¬ (Instr.elementReleaseTrip h0 256).wellFormed := by
  simp [Instr.wellFormed, fits]

theorem wf_half : (Instr.elementReleaseElement h0 65535).wellFormed ∧
    ¬ (Instr.elementReleaseElement h0 65536).wellFormed := by
  simp [Instr.wellFormed, fits]

theorem wf_code20 (ch : Fin 9216) : (Instr.ustVclrWrite ch 0xFFFFF).wellFormed ∧
    ¬ (Instr.ustVclrWrite ch 0x100000).wellFormed := by
  simp [Instr.wellFormed, fits]

theorem wf_word : (Instr.trConsWrite 0 0 0xFFFFFFFF).wellFormed ∧ ¬ (Instr.trConsWrite 0 0 0x100000000).wellFormed := by
  simp [Instr.wellFormed, fits]

theorem wf_seconds48 :
    (Instr.trigStartWrite 0 { sec := 2 ^ 48 - 1, ns := 2 ^ 32 - 1, sub := 2 ^ 16 - 1 }).wellFormed ∧
    ¬ (Instr.trigStartWrite 0 { sec := 2 ^ 48, ns := 0, sub := 0 }).wellFormed ∧
    ¬ (Instr.trigStartWrite 0 { sec := 0, ns := 2 ^ 32, sub := 0 }).wellFormed ∧
    ¬ (Instr.trigStartWrite 0 { sec := 0, ns := 0, sub := 2 ^ 16 }).wellFormed := by
  simp [Instr.wellFormed, fits]

theorem wf_address64 : (Instr.safetyStatusRead h0 (2 ^ 64 - 1)).wellFormed ∧
    ¬ (Instr.safetyStatusRead h0 (2 ^ 64)).wellFormed := by
  simp [Instr.wellFormed, fits]

theorem wf_time80 : (Instr.queueSample (2 ^ 80 - 1)).wellFormed ∧ ¬ (Instr.queueSample (2 ^ 80)).wellFormed := by
  simp [Instr.wellFormed, fits]

theorem wf_timestamp96 : (Instr.ppsInEdge (2 ^ 96 - 1)).wellFormed ∧ ¬ (Instr.ppsInEdge (2 ^ 96)).wellFormed := by
  simp [Instr.wellFormed, fits]

theorem wf_bar0_offset24_width (k : Fin 8) :
    (Instr.registerWrite k 0xFFFFFF 32 0xFFFFFFFF).wellFormed ∧ (Instr.registerWrite k 0 64 (2 ^ 64 - 1)).wellFormed ∧
    ¬ (Instr.registerWrite k 0x1000000 32 0).wellFormed ∧ ¬ (Instr.registerWrite k 0 16 0).wellFormed ∧
    ¬ (Instr.registerWrite k 0 32 0x100000000).wellFormed := by
  simp [Instr.wellFormed, fits]

theorem wf_bar2_offset26 : (Instr.bar2Write 0x3FFFFFF 32 0).wellFormed ∧
    ¬ (Instr.bar2Write 0x4000000 32 0).wellFormed := by
  simp [Instr.wellFormed, fits]

theorem wf_entry_of_64_bytes : (Instr.commandFetch 0 [List.replicate 64 255]).wellFormed ∧
    ¬ (Instr.commandFetch 0 [List.replicate 63 0]).wellFormed ∧
    ¬ (Instr.commandFetch 0 [List.replicate 64 256]).wellFormed := by
  simp [Instr.wellFormed]

theorem wf_partition_table : (Instr.partitionSet h0 1 0 (List.replicate 2208 0)).wellFormed ∧
    ¬ (Instr.partitionSet h0 1 0 (List.replicate 2207 0)).wellFormed := by
  simp [Instr.wellFormed, fits]

theorem wf_entries_as_counted : (Instr.stateWrite h0 0 2 0 0 0 0 0 [1, 2]).wellFormed ∧
    ¬ (Instr.stateWrite h0 0 2 0 0 0 0 0 [1]).wellFormed := by
  simp [Instr.wellFormed, fits]

theorem wf_readings_of_48_groups : (Instr.syscalStepZero h0 0 50 (List.replicate 48 [0, 0, 0, 0])).wellFormed ∧
    ¬ (Instr.syscalStepZero h0 0 50 (List.replicate 47 [0, 0, 0, 0])).wellFormed ∧
    ¬ (Instr.syscalStepZero h0 0 50 (List.replicate 48 [0, 0, 0])).wellFormed := by
  simp [Instr.wellFormed, fits]

theorem wf_firmware_bytes : (Instr.fwStageFirmware h0 1 0 0 [255]).wellFormed ∧
    ¬ (Instr.fwStageFirmware h0 1 0 0 [256]).wellFormed := by
  simp [Instr.wellFormed, fits]

theorem wf_password_of_16_bytes : (Instr.safetySessionOpen h0 16 (List.replicate 16 65)).wellFormed ∧
    ¬ (Instr.safetySessionOpen h0 8 (List.replicate 8 65)).wellFormed := by
  simp [Instr.wellFormed, fits]

theorem wf_monitor_and_element_numbers : (Instr.frameBoundary [(6143, 0)]).wellFormed ∧
    ¬ (Instr.frameBoundary [(6144, 0)]).wellFormed ∧
    ¬ (Instr.frameBoundary [(10240, 0)]).wellFormed := by
  simp [Instr.wellFormed]

theorem wf_unlock_kind (m : Fin 8) : (Instr.unlockExpiry m 2 0).wellFormed ∧ ¬ (Instr.unlockExpiry m 3 0).wellFormed := by
  simp [Instr.wellFormed, fits]

theorem wf_topology : (Instr.enumAssign 0 0 0 0 0 1).wellFormed ∧ ¬ (Instr.enumAssign 0 0 0 0 0 2).wellFormed := by
  simp [Instr.wellFormed, fits]

theorem wf_bulk_data : (Instr.fwBulkData 0 0 0 1408 0 (List.replicate 1408 0)).wellFormed ∧
    ¬ (Instr.fwBulkData 0 0 0 0 0 []).wellFormed ∧
    ¬ (Instr.fwBulkData 0 0 0 1409 0 (List.replicate 1409 0)).wellFormed := by
  simp [Instr.wellFormed, fits]

theorem wf_housekeeping : (Instr.housekeepingRound (List.replicate 20 (.value 0)) (List.replicate 7 65535) 0 15).wellFormed ∧
    ¬ (Instr.housekeepingRound (List.replicate 19 (.value 0)) (List.replicate 7 0) 0 0).wellFormed ∧
    ¬ (Instr.housekeepingRound (List.replicate 20 (.value 0)) (List.replicate 6 0) 0 0).wellFormed ∧
    ¬ (Instr.housekeepingRound (List.replicate 20 (.value 0)) (List.replicate 7 65536) 0 0).wellFormed ∧
    ¬ (Instr.housekeepingRound (List.replicate 20 (.value 0)) (List.replicate 7 0) 0 16).wellFormed := by
  simp [Instr.wellFormed, fits]

theorem wf_discovery_index : (Instr.doeDiscovery 255).wellFormed ∧ ¬ (Instr.doeDiscovery 256).wellFormed := by
  simp [Instr.wellFormed, fits]

theorem wf_nonce_of_32_bytes : (Instr.spdmChallenge 36 255 (List.replicate 32 255)).wellFormed ∧
    ¬ (Instr.spdmChallenge 36 256 (List.replicate 32 0)).wellFormed ∧
    ¬ (Instr.spdmChallenge 36 0 (List.replicate 31 0)).wellFormed ∧
    ¬ (Instr.spdmChallenge 36 0 (List.replicate 32 256)).wellFormed := by
  simp [Instr.wellFormed, fits]

theorem wf_certificate_slot : (Instr.spdmGetCertificate 8 15 0 65535).wellFormed ∧
    ¬ (Instr.spdmGetCertificate 8 16 0 0).wellFormed := by
  simp [Instr.wellFormed, fits]

theorem wf_benchmark_of_four_monitors (g : Fin 192) :
    (Instr.benchmarkResult g (List.replicate 4 (0, 0, 0))).wellFormed ∧
    ¬ (Instr.benchmarkResult g (List.replicate 3 (0, 0, 0))).wellFormed := by
  simp [Instr.wellFormed]

theorem wf_remote_request : (Instr.remoteRequest 0 0 1024 0 (List.replicate 64 0) []).wellFormed ∧
    ¬ (Instr.remoteRequest 0 0 1025 0 (List.replicate 64 0) []).wellFormed ∧
    ¬ (Instr.remoteRequest 0 0 0 0 (List.replicate 63 0) []).wellFormed := by
  simp [Instr.wellFormed, fits]

theorem wf_frame_traffic_class (p : Fin 4) (r : RxInfo) (m : Msg) :
    (Instr.cairnFrameReceived p r { tc := 7, kind := 0, dst := 0, src := 0, msg := m }).wellFormed ∧
    ¬ (Instr.cairnFrameReceived p r { tc := 8, kind := 0, dst := 0, src := 0, msg := m }).wellFormed := by
  simp [Instr.wellFormed, fits]

theorem wf_hello_port (p : Fin 4) : (Instr.helloReceived p 0 0 3 0 0 0 0).wellFormed ∧
    ¬ (Instr.helloReceived p 0 0 4 0 0 0 0).wellFormed := by
  simp [Instr.wellFormed, fits]

theorem wf_late_element (n : Fin 4) : (Instr.loopPeriodBoundary n false 0 [10239] 0).wellFormed ∧
    ¬ (Instr.loopPeriodBoundary n false 0 [10240] 0).wellFormed := by
  simp [Instr.wellFormed]

/-- The table gives its rows no bits: no word spells a command. -/
theorem test_no_word_spells_a_command : decodeTableWord 8 5 = none := rfl

theorem test_fetch_word_leaves_the_queue : (w.withFetchWord 8 5).pending = [] := rfl

theorem test_empty_queue_idles : step w = .next w := rfl

end Sys2Proof.Tests
end

/-! PROOFS. What every step keeps of the register file (O3, O4): one law of `exec`, assembled from the law of each meaning, and
the bound on every field from the canonical form of the file. -/

namespace Sys2Proof.Machine

set_option exponentiation.threshold 2048

/-- A read gives what an unlisted key reads as, or the value of a listed entry. -/
theorem Tbl.get_eq_or_mem {α : Type} (d : α) (t : Tbl α) (k : Nat) :
    Tbl.get d t k = d ∨ (k, Tbl.get d t k) ∈ t := by
  induction t with
  | nil => exact .inl rfl
  | cons p r ih =>
    obtain ⟨j, v⟩ := p
    by_cases hj : j = k
    · subst hj
      simp [Tbl.get]
    · rcases ih with ih | ih
      · left; simpa [Tbl.get, hj] using ih
      · right; simpa [Tbl.get, hj] using .inr ih

/-- In a canonical register file every field holds a value of its width: a listed one by the file's form, an unlisted one
because its reset value does (R9). -/
theorem RegsOk.rd_lt {s : State} (h : RegsOk s.regs) (f : Fid) (i : Nat) : s.rd f i < 2 ^ f.width := by
  rcases Tbl.get_eq_or_mem (f.reset i) s.regs (regKey f i) with hd | hm
  · exact lt_of_eq_of_lt hd (f.reset_lt i)
  · exact lt_of_lt_of_eq (h.2 _ hm) (by rw [regKey_fid])

/-- The register invariant is the canonical form of the file: the bound on every field follows from it. -/
theorem State.regInv_iff (s : State) : s.RegInv ↔ RegsOk s.regs := ⟨fun h => h.1, fun h => ⟨h, h.rd_lt⟩⟩

/-- The mask that names every part of the state and every register field. -/
def fullMask : Nat := 2 ^ (17 + 1024) - 1

/-- The mask that names everything but bit `k`: what evolves under it keeps what that bit stands for. -/
def allBut (k : Nat) : Nat := fullMask - 2 ^ k

/-- Whatever the command, `exec` answers a next state that evolves from the one before it: one case a command, each by the
law of its meaning. -/
theorem exec_goes (c : Instr) (s : State) : Goes fullMask s (exec c s) := by
  unfold exec
  have h := Evolves.refl (M := fullMask) s
  cases c with
  | por => exact execPor_goes _ h rfl
  | bootSequence => exact execBootSequence_goes h rfl
  | drst => exact execDrst_goes _ h rfl
  | glbResetWrite => exact execGlbResetWrite_goes _ h rfl
  | hrst => exact execHrst_goes _ h rfl
  | vfFunctionLevelReset => exact execVfFunctionLevelReset_goes _ h rfl
  | brst => exact execBrst_goes _ h rfl
  | crst => exact execCrst_goes _ h rfl
  | crstComplete => exact execCrstComplete_goes _ h rfl
  | vsioReset => exact execVsioReset_goes _ h rfl
  | firebreakStart => exact execFirebreakStart_goes _ _ _ h rfl
  | clkrefLoss => exact execClkrefLoss_goes h rfl
  | sqDoorbell => exact execSqDoorbell_goes _ _ h rfl
  | commandFetch => exact execCommandFetch_goes _ _ h rfl
  | commandAdmission => exact execCommandAdmission_goes h rfl
  | policeHoldResume => exact execPoliceHoldResume_goes _ h rfl
  | completionPost => exact execCompletionPost_goes _ h rfl
  | cqHeadWrite => exact execCqHeadWrite_goes _ _ h rfl
  | completionInterrupt => exact execCompletionInterrupt_goes _ _ h rfl
  | mbxEnableWrite => exact execMbxEnableWrite_goes _ _ h rfl
  | mailboxDmaError => exact execMailboxDmaError_goes _ _ _ h rfl
  | bar2Write => exact execBar2Write_goes _ _ _ h rfl
  | registerWrite => exact execRegisterWrite_goes _ _ _ _ h rfl
  | ringInterrupt => exact execRingInterrupt_goes _ _ _ h rfl
  | trConsWrite => exact execTrConsWrite_goes _ _ _ h rfl
  | telemetryFrameReceived => exact execTelemetryFrameReceived_goes _ _ _ h rfl
  | unlockExpiry => exact execUnlockExpiry_goes _ _ _ h rfl
  | identify => exact execIdentify_goes _ _ h rfl
  | getStatus => exact execGetStatus_goes _ h rfl
  | partitionSet => exact execPartitionSet_goes _ _ _ _ h rfl
  | stateWrite => exact execStateWrite_goes _ _ _ _ _ _ _ _ _ h rfl
  | stateRead => exact execStateRead_goes _ _ _ _ _ h rfl
  | routeSolve => exact execRouteSolve_goes _ _ _ _ _ _ _ _ _ h rfl
  | stateCommit => exact execStateCommit_goes _ _ _ _ _ _ _ _ _ _ _ _ _ _ h rfl
  | stateAbort => exact execStateAbort_goes _ _ h rfl
  | clearingQuery => exact execClearingQuery_goes _ _ _ h rfl
  | elementSetOverride => exact execElementSetOverride_goes _ _ _ h rfl
  | elementSetSetpoint => exact execElementSetSetpoint_goes _ _ _ _ h rfl
  | elementSetRange => exact execElementSetRange_goes _ _ _ h rfl
  | elementReleaseElement => exact execElementReleaseElement_goes _ _ h rfl
  | elementReleaseTrip => exact execElementReleaseTrip_goes _ _ h rfl
  | elementReleaseReturn => exact execElementReleaseReturn_goes _ _ h rfl
  | loopConfigCompartment => exact execLoopConfigCompartment_goes _ _ _ _ h rfl
  | loopConfigCoefficient => exact execLoopConfigCoefficient_goes _ _ _ _ _ _ _ _ h rfl
  | loopConfigElement => exact execLoopConfigElement_goes _ _ _ _ h rfl
  | loopConfigClearCode => exact execLoopConfigClearCode_goes _ _ _ _ h rfl
  | loopConfigProfile => exact execLoopConfigProfile_goes _ _ _ _ _ _ _ _ _ _ _ _ h rfl
  | loopConfigPilot => exact execLoopConfigPilot_goes _ _ _ _ h rfl
  | loopConfigDeglitch => exact execLoopConfigDeglitch_goes _ _ _ h rfl
  | loopConfigHpwm => exact execLoopConfigHpwm_goes _ _ _ _ _ _ _ _ h rfl
  | loopConfigTrip => exact execLoopConfigTrip_goes _ _ h rfl
  | loopConfigPowerCap => exact execLoopConfigPowerCap_goes _ _ h rfl
  | outerConfigEqualisation => exact execOuterConfigEqualisation_goes _ _ _ _ _ _ _ _ _ _ h rfl
  | outerConfigTemperature => exact execOuterConfigTemperature_goes _ _ _ _ _ _ _ _ h rfl
  | elementStatus => exact execElementStatus_goes _ _ _ _ h rfl
  | monitorRead => exact execMonitorRead_goes _ _ _ _ _ h rfl
  | precisionMeasure => exact execPrecisionMeasure_goes _ _ _ _ _ _ _ _ _ _ h rfl
  | telemetryCfgRing => exact execTelemetryCfgRing_goes _ _ _ _ _ _ _ _ _ _ h rfl
  | telemetryCfgSource => exact execTelemetryCfgSource_goes _ _ _ _ _ _ _ _ h rfl
  | calRun => exact execCalRun_goes _ _ _ _ _ _ h rfl
  | calStatus => exact execCalStatus_goes _ _ _ _ _ h rfl
  | syscalStepBegin => exact execSyscalStepBegin_goes _ _ h rfl
  | syscalStepZero => exact execSyscalStepZero_goes _ _ _ _ h rfl
  | syscalStepPoint => exact execSyscalStepPoint_goes _ _ _ _ _ _ h rfl
  | syscalStepEnd => exact execSyscalStepEnd_goes _ _ h rfl
  | syscalStepAbort => exact execSyscalStepAbort_goes _ _ h rfl
  | syscalTimeout => exact execSyscalTimeout_goes _ h rfl
  | datumCfgConfig => exact execDatumCfgConfig_goes _ _ _ _ _ _ _ _ _ _ _ h rfl
  | datumCfgSelect => exact execDatumCfgSelect_goes _ _ h rfl
  | datumCfgRestep => exact execDatumCfgRestep_goes _ h rfl
  | datumCfgSetTod => exact execDatumCfgSetTod_goes _ _ h rfl
  | datumCfgLimits => exact execDatumCfgLimits_goes _ _ _ _ _ _ _ _ h rfl
  | datumStatus => exact execDatumStatus_goes _ _ h rfl
  | triggerCfg => exact execTriggerCfg_goes _ _ _ _ _ _ _ h rfl
  | chainCfgPort => exact execChainCfgPort_goes _ _ _ _ _ _ _ _ h rfl
  | chainCfgEnumerate => exact execChainCfgEnumerate_goes _ _ h rfl
  | chainCfgTest => exact execChainCfgTest_goes _ _ _ _ _ _ h rfl
  | chainCfgRemotePolicy => exact execChainCfgRemotePolicy_goes _ _ _ _ _ h rfl
  | chainStatus => exact execChainStatus_goes _ _ _ _ h rfl
  | remote => exact execRemote_goes _ _ _ _ _ _ _ h rfl
  | schedCfgGcl => exact execSchedCfgGcl_goes _ _ _ _ _ _ _ _ h rfl
  | schedCfgShaper => exact execSchedCfgShaper_goes _ _ _ _ _ _ h rfl
  | schedCfgOverhead => exact execSchedCfgOverhead_goes _ _ _ h rfl
  | schedCfgPolice => exact execSchedCfgPolice_goes _ _ _ _ _ _ h rfl
  | schedCfgSampling => exact execSchedCfgSampling_goes _ _ _ h rfl
  | schedCfgReadSamples => exact execSchedCfgReadSamples_goes _ _ _ _ h rfl
  | faultLogRead => exact execFaultLogRead_goes _ _ _ _ _ _ h rfl
  | faultPolicySet => exact execFaultPolicySet_goes _ _ _ _ h rfl
  | faultInject => exact execFaultInject_goes _ _ _ _ h rfl
  | fwStageFirmware => exact execFwStageFirmware_goes _ _ _ _ _ h rfl
  | fwStageElementMap => exact execFwStageElementMap_goes _ _ _ _ _ h rfl
  | fwActivateFirmware => exact execFwActivateFirmware_goes _ h rfl
  | fwActivateElementMap => exact execFwActivateElementMap_goes _ h rfl
  | measureRead => exact execMeasureRead_goes _ _ _ h rfl
  | safetyStatusRead => exact execSafetyStatusRead_goes _ _ h rfl
  | safetyStatusAck => exact execSafetyStatusAck_goes _ h rfl
  | safetyStatusRestart => exact execSafetyStatusRestart_goes _ _ h rfl
  | safetySessionOpen => exact execSafetySessionOpen_goes _ _ _ h rfl
  | safetyConfigParameter => exact execSafetyConfigParameter_goes _ _ _ h rfl
  | safetyConfigPassword => exact execSafetyConfigPassword_goes _ _ _ h rfl
  | safetySessionCloseCommit => exact execSafetySessionCloseCommit_goes _ h rfl
  | safetySessionCloseDiscard => exact execSafetySessionCloseDiscard_goes _ h rfl
  | safetyLogRead => exact execSafetyLogRead_goes _ _ _ _ h rfl
  | standHandoverHandover => exact execStandHandoverHandover_goes _ h rfl
  | standHandoverReturn => exact execStandHandoverReturn_goes _ h rfl
  | standHandoverRelease => exact execStandHandoverRelease_goes _ h rfl
  | compartmentServiceFence => exact execCompartmentServiceFence_goes _ _ h rfl
  | compartmentServiceReset => exact execCompartmentServiceReset_goes _ _ h rfl
  | compartmentServiceRejoin => exact execCompartmentServiceRejoin_goes _ _ h rfl
  | expertUnlock => exact execExpertUnlock_goes _ _ _ _ h rfl
  | expertLock => exact execExpertLock_goes _ _ _ h rfl
  | frameBoundary => exact execFrameBoundary_goes _ h rfl
  | monitorRangeChange => exact execMonitorRangeChange_goes _ h rfl
  | comparatorChange => exact execComparatorChange_goes _ _ h rfl
  | pwGoWrite => exact execPwGoWrite_goes _ h rfl
  | precisionWindowStart => exact execPrecisionWindowStart_goes _ h rfl
  | precisionWindowEnd => exact execPrecisionWindowEnd_goes _ _ h rfl
  | benchmarkTakeover => exact execBenchmarkTakeover_goes _ h rfl
  | benchmarkResult => exact execBenchmarkResult_goes _ _ h rfl
  | benchmarkReturn => exact execBenchmarkReturn_goes _ h rfl
  | calRotCtrlWrite => exact execCalRotCtrlWrite_goes _ h rfl
  | calibrationStale => exact execCalibrationStale_goes _ h rfl
  | startupPassEnd => exact execStartupPassEnd_goes _ _ _ h rfl
  | vmodeOvercurrent => exact execVmodeOvercurrent_goes _ h rfl
  | ocClearWrite => exact execOcClearWrite_goes _ h rfl
  | groupLimiterTrip => exact execGroupLimiterTrip_goes _ _ h rfl
  | gtripClearWrite => exact execGtripClearWrite_goes _ h rfl
  | deglitchRelease => exact execDeglitchRelease_goes _ h rfl
  | vdacRangeWrite => exact execVdacRangeWrite_goes _ _ h rfl
  | rangeChangeStart => exact execRangeChangeStart_goes _ h rfl
  | rangeSwitch => exact execRangeSwitch_goes _ h rfl
  | rangeRampUp => exact execRangeRampUp_goes _ h rfl
  | rangeChangeEnd => exact execRangeChangeEnd_goes _ h rfl
  | ustVclrWrite => exact execUstVclrWrite_goes _ _ h rfl
  | profileImpulse => exact execProfileImpulse_goes _ _ h rfl
  | trajectoryEnd => exact execTrajectoryEnd_goes _ _ h rfl
  | ustProfileWrite => exact execUstProfileWrite_goes _ _ _ _ _ _ _ _ _ _ h rfl
  | pilotAmplitudeChange => exact execPilotAmplitudeChange_goes _ h rfl
  | clrNAssert => exact execClrNAssert_goes _ _ h rfl
  | clrNRelease => exact execClrNRelease_goes h rfl
  | clrNReturn => exact execClrNReturn_goes _ h rfl
  | hmodePeriodBoundary => exact execHmodePeriodBoundary_goes _ _ _ h rfl
  | hmodeOvercurrent => exact execHmodeOvercurrent_goes _ h rfl
  | hmodeFastTrip => exact execHmodeFastTrip_goes _ h rfl
  | hmodeLeakage => exact execHmodeLeakage_goes _ h rfl
  | hmodeOcLeakClearWrite => exact execHmodeOcLeakClearWrite_goes _ _ _ h rfl
  | tripSourceAssert => exact execTripSourceAssert_goes _ h rfl
  | tripClearWrite => exact execTripClearWrite_goes _ h rfl
  | swtripWrite => exact execSwtripWrite_goes _ h rfl
  | hmodeResume => exact execHmodeResume_goes _ h rfl
  | hpwmSrcWrite => exact execHpwmSrcWrite_goes _ _ h rfl
  | pcommitWrite => exact execPcommitWrite_goes _ h rfl
  | shadowTransfer => exact execShadowTransfer_goes _ _ h rfl
  | loopPeriodBoundary => exact execLoopPeriodBoundary_goes _ _ _ _ _ h rfl
  | coefCommitWrite => exact execCoefCommitWrite_goes _ h rfl
  | coefficientSwap => exact execCoefficientSwap_goes _ h rfl
  | periodWindowChange => exact execPeriodWindowChange_goes _ h rfl
  | settleEntry => exact execSettleEntry_goes _ h rfl
  | jumpExit => exact execJumpExit_goes _ h rfl
  | holdEntry => exact execHoldEntry_goes _ h rfl
  | scheduledTransition => exact execScheduledTransition_goes _ h rfl
  | loopStart => exact execLoopStart_goes _ h rfl
  | suspectEntry => exact execSuspectEntry_goes _ h rfl
  | returnToService => exact execReturnToService_goes _ h rfl
  | catchUpJump => exact execCatchUpJump_goes _ h rfl
  | calibrationRecordApply => exact execCalibrationRecordApply_goes _ h rfl
  | outerIntervalEnd => exact execOuterIntervalEnd_goes _ h rfl
  | sweepStart => exact execSweepStart_goes _ h rfl
  | sweepPoint => exact execSweepPoint_goes _ h rfl
  | sweepDeadline => exact execSweepDeadline_goes _ h rfl
  | solveStart => exact execSolveStart_goes h rfl
  | solveComplete => exact execSolveComplete_goes h rfl
  | clearingQueue => exact execClearingQueue_goes h rfl
  | pointOfNoReturn => exact execPointOfNoReturn_goes h rfl
  | clearingExecution => exact execClearingExecution_goes h rfl
  | clearingRequest => exact execClearingRequest_goes _ _ h rfl
  | clearingAccept => exact execClearingAccept_goes _ _ h rfl
  | clearingReject => exact execClearingReject_goes _ _ h rfl
  | clearingAbort => exact execClearingAbort_goes _ _ h rfl
  | clearingReport => exact execClearingReport_goes _ _ h rfl
  | abortDeadline => exact execAbortDeadline_goes _ h rfl
  | reportTimeout => exact execReportTimeout_goes _ h rfl
  | standEccError => exact execStandEccError_goes _ h rfl
  | writePathParity => exact execWritePathParity_goes _ h rfl
  | heartbeatMissing => exact execHeartbeatMissing_goes h rfl
  | standClockFault => exact execStandClockFault_goes _ h rfl
  | interlockConfirm => exact execInterlockConfirm_goes h rfl
  | interlockTimeout => exact execInterlockTimeout_goes h rfl
  | ilkForce => exact execIlkForce_goes h rfl
  | standCopyComplete => exact execStandCopyComplete_goes h rfl
  | takeoverResume => exact execTakeoverResume_goes _ h rfl
  | standEligible => exact execStandEligible_goes h rfl
  | commandedHandover => exact execCommandedHandover_goes h rfl
  | compartmentFence => exact execCompartmentFence_goes _ h rfl
  | rejoin => exact execRejoin_goes _ h rfl
  | foresterWatchdog => exact execForesterWatchdog_goes h rfl
  | syncReceived => exact execSyncReceived_goes _ _ _ h rfl
  | followUpReceived => exact execFollowUpReceived_goes _ _ h rfl
  | pdelayReqReceived => exact execPdelayReqReceived_goes _ _ _ _ h rfl
  | pdelayRespReceived => exact execPdelayRespReceived_goes _ _ _ h rfl
  | pdelayRespFollowUpReceived => exact execPdelayRespFollowUpReceived_goes _ _ h rfl
  | announceReceived => exact execAnnounceReceived_goes _ _ h rfl
  | delayReqReceived => exact execDelayReqReceived_goes _ h rfl
  | syncTransmit => exact execSyncTransmit_goes _ _ _ h rfl
  | pdelayTransmit => exact execPdelayTransmit_goes _ _ h rfl
  | announceTransmit => exact execAnnounceTransmit_goes _ _ h rfl
  | sourceLost => exact execSourceLost_goes _ _ h rfl
  | datumAcquired => exact execDatumAcquired_goes h rfl
  | gridStep => exact execGridStep_goes h rfl
  | datumLocked => exact execDatumLocked_goes h rfl
  | ppsInEdge => exact execPpsInEdge_goes _ h rfl
  | ppsOutPulse => exact execPpsOutPulse_goes h rfl
  | trigOutputPulse => exact execTrigOutputPulse_goes _ h rfl
  | trigInputEdge => exact execTrigInputEdge_goes _ _ _ h rfl
  | restepWrite => exact execRestepWrite_goes h rfl
  | pDomWrite => exact execPDomWrite_goes _ h rfl
  | dtmTimeLatch => exact execDtmTimeLatch_goes h rfl
  | tsqPopRead => exact execTsqPopRead_goes _ h rfl
  | trigTsRead => exact execTrigTsRead_goes _ h rfl
  | trigStartWrite => exact execTrigStartWrite_goes _ _ h rfl
  | linkUp => exact execLinkUp_goes _ h rfl
  | linkDown => exact execLinkDown_goes _ _ _ h rfl
  | helloTransmit => exact execHelloTransmit_goes _ h rfl
  | helloReceived => exact execHelloReceived_goes _ _ _ _ _ _ _ _ h rfl
  | cairnFrameReceived => exact execCairnFrameReceived_goes _ _ _ h rfl
  | enumClear => exact execEnumClear_goes _ _ h rfl
  | enumClearWait => exact execEnumClearWait_goes h rfl
  | enumAssign => exact execEnumAssign_goes _ _ _ _ _ _ h rfl
  | enumBusy => exact execEnumBusy_goes _ _ h rfl
  | enumDone => exact execEnumDone_goes _ _ _ _ h rfl
  | enumAssignTimeout => exact execEnumAssignTimeout_goes _ h rfl
  | enumReport => exact execEnumReport_goes _ _ h rfl
  | enumComplete => exact execEnumComplete_goes _ _ _ _ _ h rfl
  | wrapReceived => exact execWrapReceived_goes _ _ _ _ h rfl
  | remoteRequest => exact execRemoteRequest_goes _ _ _ _ _ _ h rfl
  | remoteAck => exact execRemoteAck_goes _ _ h rfl
  | remoteResponse => exact execRemoteResponse_goes _ _ _ _ _ h rfl
  | remoteResponseAck => exact execRemoteResponseAck_goes _ _ h rfl
  | remoteAckTimeout => exact execRemoteAckTimeout_goes _ _ _ h rfl
  | remoteExecTimeout => exact execRemoteExecTimeout_goes _ _ h rfl
  | faultNoticeReceived => exact execFaultNoticeReceived_goes _ _ _ _ h rfl
  | fwBulkData => exact execFwBulkData_goes _ _ _ _ _ _ h rfl
  | fwBulkStatus => exact execFwBulkStatus_goes _ _ _ h rfl
  | fwBulkDone => exact execFwBulkDone_goes _ _ _ h rfl
  | fwBulkTimeout => exact execFwBulkTimeout_goes _ h rfl
  | prbsCfgWrite => exact execPrbsCfgWrite_goes _ _ _ h rfl
  | injOneWrite => exact execInjOneWrite_goes _ h rfl
  | injFcsWrite => exact execInjFcsWrite_goes _ h rfl
  | transmissionSelect => exact execTransmissionSelect_goes _ _ h rfl
  | gateChange => exact execGateChange_goes _ _ h rfl
  | gclCommitWrite => exact execGclCommitWrite_goes _ _ h rfl
  | gclSwitch => exact execGclSwitch_goes _ _ h rfl
  | chsCounterClearWrite => exact execChsCounterClearWrite_goes _ h rfl
  | queueSample => exact execQueueSample_goes _ h rfl
  | faultDetected => exact execFaultDetected_goes _ _ _ _ h rfl
  | faultCollectorDisagree => exact execFaultCollectorDisagree_goes _ h rfl
  | errAckWrite => exact execErrAckWrite_goes h rfl
  | faultInjectArmWrite => exact execFaultInjectArmWrite_goes h rfl
  | housekeepingRound => exact execHousekeepingRound_goes _ _ _ _ h rfl
  | safetySample => exact execSafetySample_goes _ _ h rfl
  | testPulse => exact execTestPulse_goes _ _ _ _ h rfl
  | inputDiscrepancy => exact execInputDiscrepancy_goes _ h rfl
  | edmTimeout => exact execEdmTimeout_goes _ h rfl
  | outputSwitchTest => exact execOutputSwitchTest_goes _ _ _ h rfl
  | staticCheck => exact execStaticCheck_goes _ _ h rfl
  | outputOvercurrent => exact execOutputOvercurrent_goes _ h rfl
  | outputRestart => exact execOutputRestart_goes _ h rfl
  | oscillatorFault => exact execOscillatorFault_goes _ h rfl
  | channelDisagreement => exact execChannelDisagreement_goes _ h rfl
  | fbrstNPulse => exact execFbrstNPulse_goes _ _ h rfl
  | resetPendTimeout => exact execResetPendTimeout_goes h rfl
  | sessionTimeout => exact execSessionTimeout_goes h rfl
  | firebreakLinkLoss => exact execFirebreakLinkLoss_goes h rfl
  | aprFlagChange => exact execAprFlagChange_goes h rfl
  | darkeningStart => exact execDarkeningStart_goes h rfl
  | darkeningRelease => exact execDarkeningRelease_goes _ h rfl
  | safetyLogFlush => exact execSafetyLogFlush_goes h rfl
  | doeDiscovery => exact execDoeDiscovery_goes _ h rfl
  | spdmGetVersion => exact execSpdmGetVersion_goes _ h rfl
  | spdmGetCapabilities => exact execSpdmGetCapabilities_goes _ h rfl
  | spdmNegotiateAlgorithms => exact execSpdmNegotiateAlgorithms_goes _ _ _ _ h rfl
  | spdmGetDigests => exact execSpdmGetDigests_goes _ h rfl
  | spdmGetCertificate => exact execSpdmGetCertificate_goes _ _ _ _ h rfl
  | spdmChallenge => exact execSpdmChallenge_goes _ _ _ h rfl
  | spdmGetMeasurements => exact execSpdmGetMeasurements_goes _ _ _ _ h rfl
  | spdmUnsupportedRequest => exact execSpdmUnsupportedRequest_goes _ h rfl
  | jtagInstructionLoad => exact execJtagInstructionLoad_goes _ h rfl
  | fuseProgWrite => exact execFuseProgWrite_goes _ _ h rfl
  | prbsCheckerLock => exact execPrbsCheckerLock_goes _ _ h rfl
  | brstEnd => exact execBrstEnd_goes _ h rfl
  | foresterRestartComplete => exact execForesterRestartComplete_goes _ h rfl
  | flashWriteComplete => exact execFlashWriteComplete_goes _ h rfl
  | perstNRelease => exact execPerstNRelease_goes h rfl
  | busMasterEnableChange => exact execBusMasterEnableChange_goes _ _ _ h rfl
  | firebreakLinkReturn => exact execFirebreakLinkReturn_goes h rfl

/-- What `step` answers evolves from the state without the command that ran. -/
theorem step_evolves {s t : State} (h : step s = .next t) :
    Evolves fullMask { s with pending := s.pending.tail } t := by
  unfold step at h
  split at h
  next hp =>
    cases h
    rw [hp, List.tail_nil, ← hp]
    exact Evolves.refl _
  next c rest hp =>
    obtain ⟨u, hu, he⟩ := exec_goes c { s with pending := rest }
    cases hu.symm.trans h
    rw [hp]
    exact he

/-- Settles O3: the file is empty after reset, so every field reads its reset value (R13), which its width holds. -/
theorem resetMeetsRegisterInvariant : Obligations.ResetMeetsRegisterInvariant :=
  ⟨fun _ _ => rfl, rfl, rfl, (State.regInv_iff _).mpr RegsOk.nil⟩

/-- Settles O4: every command's answer evolves from the state before it, and so keeps the canonical form of the register
file, from which the bound on every field follows. -/
theorem stepKeepsRegisterInvariant : Obligations.StepKeepsRegisterInvariant := by
  intro s t hs ht
  exact (State.regInv_iff t).mpr ((step_evolves ht).regs ((State.regInv_iff s).mp hs))

end Sys2Proof.Machine

/-! PROOFS. POR, the loss of VSIO and DRST (O6, R13 to R15, R122, R404, R427, R442, R472): what the loss of the Crown link, the
clear codes and ERR_N leave of a state, and from them what each reset leaves. -/

namespace Sys2Proof.Machine

set_option exponentiation.threshold 2048

/-! ## Firebreak at a reset of the Crown -/

/-- The fields that Firebreak shows anew when it loses the Crown. -/
def crownFields : List Fid :=
  [.ust_htrip_input, .fbk_status_state, .fbk_status_fb_ok, .fbk_status_session, .fbk_status_link, .fbk_status_reset_pend,
   .fbk_status_pw_set, .fbk_status_out_on, .fbk_status_out_wait, .fbk_status_demand, .fbk_status_pair_fault,
   .fbk_status_sources, .fbk_event_event, .fbk_pair_cfg_in_mode, .fbk_pair_cfg_filt, .fbk_pair_cfg_edm_out,
   .fbk_pair_cfg_disc, .fbk_pair_cfg_edm_t, .fbk_out_cfg_out_en, .fbk_out_cfg_restart, .fbk_out_cfg_out_src,
   .fbk_out_cfg_apr_cpt, .fbk_src_cfg_dark, .fbk_src_cfg_heat, .fbk_apr_cfg_na_assert, .fbk_apr_cfg_apr_dark,
   .fbk_cfg_crc_crc, .fbk_log_pending, .fbk_log_log_lost, .fbk_dark_ports_dark, .fbk_not_dark_not_dark]

theorem State.fbkCrown_frame (s : State) : s.Frame s.fbkCrown crownFields [.loop, .fbk, .out] :=
  (State.fbkCrown_evolves (.refl s) rfl).frame

/-- None of them is restored by POR alone: they are Firebreak's own, and the heater input of a compartment. -/
theorem crownFields_cls {f : Fid} (h : f ∈ crownFields) : f.cls ≠ .por := by
  revert f; decide

theorem State.ask_calFlash (s : State) : s.ask.loop.calFlash = s.loop.calFlash := by
  unfold State.ask
  split
  · rfl
  · exact (congrArg LoopSt.calFlash
      ((Evolves.foldl (M := allBut 1) _ (.refl _) fun _ n h => State.showInputs_evolves n h rfl).loop rfl)).trans rfl

theorem State.fbkEval_calFlash (s : State) : s.fbkEval.loop.calFlash = s.loop.calFlash := by
  have hshow := (State.showFbk_evolves (M := allBut 1)
    (.refl ((s.modFbk (fun b => { b with apr := s.aprMask })).dropOuts.ask)) rfl).loop rfl
  have hdrop := (State.dropOuts_evolves (M := allBut 1) (.refl (s.modFbk (fun b => { b with apr := s.aprMask }))) rfl).loop rfl
  rw [State.fbkEval, hshow, State.ask_calFlash, hdrop]
  rfl

/-- Losing the Crown leaves the calibration records in flash. -/
theorem State.fbkCrown_calFlash (s : State) : s.fbkCrown.loop.calFlash = s.loop.calFlash := by
  have h : s.loseLink.loop.calFlash = s.loop.calFlash := by
    unfold State.loseLink
    split
    · rfl
    · rw [State.fbkEval_calFlash]
      exact congrArg LoopSt.calFlash ((State.fbkEvent_evolves (M := allBut 1) _ (State.endSession_evolves _ _
        (.refl (s.modFbk (fun b => { b with link := false }))) rfl) rfl).loop rfl)
  exact h

/-- A Firebreak without its supply has no link to lose. -/
theorem State.fbkOff_fbkCrown (s : State) : s.fbkOff.fbkCrown = s.fbkOff := by
  have hl : s.fbkOff.loseLink = s.fbkOff := if_pos rfl
  rw [State.fbkCrown, hl]
  rfl

/-- The loss of VSIO restores Firebreak's own fields and leaves every other one (R15). -/
theorem State.fbkOff_rd (s : State) (f : Fid) (i : Nat) : s.fbkOff.rd f i = if f.cls = .vsio then f.reset i else s.rd f i := by
  have h := ({ s with fbk := { copyA := s.fbk.copyA, copyB := s.fbk.copyB, log := s.fbk.log, logNext := s.fbk.logNext } } :
    State).rd_resetRegs (fun f _ => f.cls == .vsio) f i
  refine h.trans (if_congr ?_ rfl rfl)
  simp

/-! ## ERR_N -/

theorem State.driveErr_eq (s : State) : s.driveErr = { s with
    regs := s.driveErr.regs, out := s.driveErr.out, flt := { s.flt with errTo := s.driveErr.flt.errTo } } := by
  unfold State.driveErr
  dsimp only
  split
  · rfl
  · split <;> rfl

theorem State.driveErr_rd (s : State) {f : Fid} (i : Nat) (h : f ≠ .flt_status_errn) : s.driveErr.rd f i = s.rd f i := by
  have hf : s.Frame s.driveErr [.flt_status_errn] [.flt, .out] := (State.driveErr_evolves (.refl s) rfl).frame
  exact hf.1 f (by simpa using h) i

/-! ## The clear codes -/

/-- From `s` to `t` at most the DAC code words and the elements change. -/
structure State.OutsOnly (s t : State) : Prop where
  parts : t = { s with regs := t.regs, loop := { s.loop with elems := t.loop.elems } }
  rd : ∀ f i, f ≠ .ust_vdac_status_code → t.rd f i = s.rd f i

theorem State.OutsOnly.trans {s t u : State} (h : s.OutsOnly t) (k : t.OutsOnly u) : s.OutsOnly u :=
  ⟨by rw [k.parts, h.parts], fun f i hf => (k.rd f i hf).trans (h.rd f i hf)⟩

theorem State.drstOuts_outsOnly (s old : State) : s.OutsOnly (s.drstOuts old) := by
  have hstep (t : State) (e : Nat) : t.OutsOnly ((t.setCode e (old.clearOf e)).modEl e (fun x => { x with out := old.clearOf e })) :=
    ⟨rfl, fun f i hf => State.rd_wr_ne _ _ fun h => hf h.1⟩
  unfold State.drstOuts
  generalize List.map _ _ = l
  induction l generalizing s with
  | nil => exact ⟨rfl, fun _ _ _ => rfl⟩
  | cons e l ih => exact (hstep s e).trans (ih _)

/-! ## Tables filled from nothing -/

/-- What every value written and the default have, every entry of a table filled from nothing has. -/
theorem Tbl.get_foldl_set {α : Type} [DecidableEq α] {d : α} {p : α → Prop} (hd : p d) (g : Nat → α) (hg : ∀ k, p (g k))
    (ks : List Nat) (j : Nat) : p (Tbl.get d (ks.foldl (fun t k => Tbl.set d t k (g k)) []) j) := by
  have h : ∀ (ks : List Nat) (t : Tbl α), (∀ j, p (Tbl.get d t j)) →
      ∀ j, p (Tbl.get d (ks.foldl (fun t k => Tbl.set d t k (g k)) t) j) := by
    intro ks
    induction ks with
    | nil => exact fun t ht => ht
    | cons k ks ih =>
      refine fun t ht => ih _ fun j => ?_
      rw [Tbl.get_set d d t k j _ fun _ => rfl]
      split
      · exact hg k
      · exact ht j
  exact h ks [] (fun _ => hd) j

/-! ## POR -/

/-- The fields of the fuses, which no reset restores. -/
def fuseFields : List Fid := [.boot_fuse_sig_enf, .boot_fuse_jtag_lock, .boot_fuse_revoke, .boot_fuse_svn_fuse]

theorem exec_por (c : Bool) (s : State) : exec (.por c) s = .next (s.por c) := rfl
theorem exec_vsioReset (c : Bool) (s : State) : exec (.vsioReset c) s = .next (s.fbkOff.por c) := rfl

/-- A register field after POR: restored, but those of Firebreak, of the fuses and ERR_N's level. -/
theorem State.por_rd (s : State) (c : Bool) {f : Fid} (i : Nat) (he : f ≠ .flt_status_errn) : (s.por c).rd f i =
    if f.cls ≠ .vsio ∧ f ∉ fuseFields then f.reset i else s.fbkCrown.rd f i := by
  have h := s.fbkCrown.rd_resetRegs (fun f _ => f.cls != .vsio && f != .flt_status_errn && !(fuseFields.contains f)) f i
  rw [State.por, State.driveErr_rd _ i he]
  refine h.trans (if_congr ?_ rfl rfl)
  simp [he]

/-- The parts of the state after POR, from the state that has lost the Crown. -/
theorem State.por_parts (s : State) (c : Bool) :
    (s.por c).map = { s.fbkCrown.map with force := none, change := none, reread := false } ∧
    (s.por c).trv = { flash := s.fbkCrown.trv.flash, boot := s.fbkCrown.trv.boot } ∧
    { (s.por c).flt with errTo := 0 } = { flash := s.fbkCrown.flt.flash } ∧
    (s.por c).boot = s.fbkCrown.boot.kept c ∧ (s.por c).loop.elems = [] ∧ (s.por c).mbx = [] ∧ (s.por c).rings = [] ∧
    (s.por c).stand = {} ∧ (s.por c).host = {} ∧ (s.por c).hkp = {} ∧ (s.por c).datum = {} ∧ (s.por c).ports = [] ∧
    (s.por c).fab = {} ∧ (s.por c).sch = [] ∧ (s.por c).fbk = s.fbkCrown.fbk := by
  rw [State.por, State.driveErr_eq]
  exact ⟨rfl, rfl, rfl, rfl, rfl, rfl, rfl, rfl, rfl, rfl, rfl, rfl, rfl, rfl, rfl⟩

/-! ## DRST -/

theorem exec_drst (c : Bool) (s : State) : exec (.drst c) s = execDrst c s := rfl

/-- The state after DRST, its registers and parts, from the state that has lost the Crown. -/
theorem execDrst_leaves (c : Bool) (s : State) : ∃ t, execDrst c s = .next t ∧
    (∀ f i, f ≠ .flt_status_errn → f ≠ .ust_vdac_status_code →
      t.rd f i = if f.cls ≠ .por ∧ f.cls ≠ .vsio then f.reset i else s.fbkCrown.rd f i) ∧
    t.map = { s.fbkCrown.map with force := none, change := none, reread := false } ∧
    t.trv = { flash := s.fbkCrown.trv.flash, boot := s.fbkCrown.trv.boot } ∧
    t.flt.log = s.fbkCrown.flt.log ∧ t.flt.flash = s.fbkCrown.flt.flash ∧ t.flt.reports = s.fbkCrown.flt.reports ∧
    t.flt.drstPending = false ∧ t.boot = s.fbkCrown.boot.kept c ∧ t.loop.calFlash = s.fbkCrown.loop.calFlash ∧ t.rings = [] ∧
    t.stand = {} ∧ t.ports = [] ∧ t.sch = [] ∧ ∀ m, (t.mb m).flight = [] ∧ (t.mb m).fetched = [] := by
  unfold execDrst
  dsimp only
  refine ⟨_, rfl, fun f i he hc => ?_, ?_⟩
  · rw [State.driveErr_rd _ i he, (State.drstOuts_outsOnly _ _).rd f i hc]
    refine (s.fbkCrown.rd_resetRegs (fun f _ => f.cls != .por && f.cls != .vsio && f != .flt_status_errn) f i).trans
      (if_congr ?_ rfl rfl)
    simp [he]
  · rw [State.driveErr_eq, (State.drstOuts_outsOnly _ _).parts]
    refine ⟨rfl, rfl, rfl, rfl, rfl, rfl, rfl, rfl, rfl, rfl, rfl, rfl, fun m => ?_⟩
    exact Tbl.get_foldl_set (p := fun b : Mbx => b.flight = [] ∧ b.fetched = []) ⟨rfl, rfl⟩ _ (fun _ => ⟨rfl, rfl⟩) _ m

/-- Settles O6: POR, the loss of VSIO and DRST each restore their classes and leave what flash, the fuses and the pins hold (R13 to
R15). -/
theorem powerAndDeviceResetsRestore : Obligations.PowerAndDeviceResetsRestore := by
  unfold Obligations.PowerAndDeviceResetsRestore
  refine ⟨fun c s => ?_, fun c s => ?_, fun c s => ?_⟩
  · obtain ⟨hrd, hpart, -⟩ := s.fbkCrown_frame
    have hfuse : ∀ f ∈ fuseFields, f ≠ .flt_status_errn ∧ f ∉ crownFields := by decide
    obtain ⟨hmap, htrv, hflt, hboot, hrest⟩ := s.por_parts c
    rw [(hpart .map (by decide) : s.fbkCrown.map = s.map)] at hmap
    rw [(hpart .trv (by decide) : s.fbkCrown.trv = s.trv)] at htrv
    rw [(hpart .flt (by decide) : s.fbkCrown.flt = s.flt)] at hflt
    rw [(hpart .boot (by decide) : s.fbkCrown.boot = s.boot)] at hboot
    obtain ⟨helems, hmbx, hrings, hstand, hhost, hhkp, hdatum, hports, hfab, hsch, -⟩ := hrest
    refine ⟨_, exec_por c s, fun f i hv he hf => ?_, fun f i hf => ?_, hmap, htrv, hflt, ?_⟩
    · rw [s.por_rd c i he, if_pos ⟨hv, hf⟩]
    · rw [s.por_rd c i (hfuse f hf).1, if_neg (fun h => h.2 hf), hrd f (hfuse f hf).2]
    · rw [hboot]
      exact ⟨rfl, rfl, rfl, rfl, rfl, helems, hmbx, hrings, hstand, hhost, hhkp, hdatum, hports, hfab, hsch⟩
  · obtain ⟨hmap, -, -, hboot, helems, hmbx, -, -, -, -, -, -, -, -, hfbk⟩ := s.fbkOff.por_parts c
    rw [State.fbkOff_fbkCrown] at hmap hfbk
    refine ⟨_, exec_vsioReset c s, fun f i he hf => ?_, hfbk, hmap, congrArg BootSt.step hboot, helems, hmbx⟩
    rw [s.fbkOff.por_rd c i he, State.fbkOff_fbkCrown, State.fbkOff_rd]
    split
    · rfl
    next h => rw [if_pos (by by_contra hv; exact h ⟨hv, hf⟩)]
  · obtain ⟨hrd, hpart, -⟩ := s.fbkCrown_frame
    obtain ⟨t, ht, htrd, hmap, htrv, hlog, hflash, hrep, hpend, hboot, hcal, hrings, hstand, hports, hsch, hmb⟩ :=
      execDrst_leaves c s
    rw [(hpart .map (by decide) : s.fbkCrown.map = s.map)] at hmap
    rw [(hpart .trv (by decide) : s.fbkCrown.trv = s.trv)] at htrv
    rw [(hpart .flt (by decide) : s.fbkCrown.flt = s.flt)] at hlog hflash hrep
    have herr : ∀ f : Fid, f.cls = .por → f ≠ .flt_status_errn ∧ f ≠ .ust_vdac_status_code := by
      rintro f h
      constructor <;> rintro rfl <;> exact absurd h (by decide)
    refine ⟨t, ht, fun f i hp hv he hc => ?_, fun f i hp => ?_, hmap, htrv, hlog, hflash, hrep, hpend, ?_, ?_,
      hcal.trans s.fbkCrown_calFlash, hrings, hstand, hports, hsch, hmb⟩
    · rw [htrd f i he hc, if_pos ⟨hp, hv⟩]
    · rw [htrd f i (herr f hp).1 (herr f hp).2, if_neg (fun h => h.1 hp), hrd f (fun h => crownFields_cls h hp)]
    · rw [hboot]; rfl
    · rw [hboot]; rfl

end Sys2Proof.Machine

/-! PROOFS. HRST and a function-level reset (O7, R13, R360, R367, R427, R477): what ends with a mailbox's commands, what is reset with
the mailbox, and that the light paths, the elements and the Clearing queue stay. -/

namespace Sys2Proof.Machine

set_option exponentiation.threshold 2048

/-! ## What an endpoint reset leaves -/

/-- From `s` to `t` the light paths and what serves them stay: the map and its slots, the elements, the queued Clearings with the
library and the state in force, housekeeping, chain ports, scheduler; of the boot part only what commands of a mailbox run. -/
structure State.LightKept (s t : State) : Prop where
  map : t.map = { s.map with change := t.map.change } := by rfl
  elems : t.loop.elems = s.loop.elems := by rfl
  trv : t.trv = { s.trv with waiting := t.trv.waiting, running := t.trv.running, solved := t.trv.solved } := by rfl
  boot : t.boot = { s.boot with xferOut := t.boot.xferOut, actStep := t.boot.actStep, actOwner := t.boot.actOwner } := by rfl
  hkp : t.hkp = s.hkp := by rfl
  ports : t.ports = s.ports := by rfl
  sch : t.sch = s.sch := by rfl
  perstHigh : t.host.perstHigh = s.host.perstHigh := by rfl

theorem State.LightKept.refl (s : State) : s.LightKept s := {}

theorem State.LightKept.trans {s t u : State} (h : s.LightKept t) (k : t.LightKept u) : s.LightKept u where
  map := by rw [k.map, h.map]
  elems := k.elems.trans h.elems
  trv := by rw [k.trv, h.trv]
  boot := by rw [k.boot, h.boot]
  hkp := k.hkp.trans h.hkp
  ports := k.ports.trans h.ports
  sch := k.sch.trans h.sch
  perstHigh := k.perstHigh.trans h.perstHigh

theorem State.LightKept.ite {s t u : State} {c : Prop} [Decidable c] (h : s.LightKept t) (k : s.LightKept u) :
    s.LightKept (if c then t else u) := by
  split <;> assumption

theorem foldl_lightKept {α : Type} {f : State → α → State} (l : List α) (s : State) (h : ∀ t a, State.LightKept t (f t a)) :
    s.LightKept (l.foldl f s) := by
  induction l generalizing s with
  | nil => exact .refl s
  | cons a l ih => exact (h s a).trans (ih _)

/-! ## The work of a mailbox's commands ends (R367) -/

theorem State.showWin_lightKept (s : State) (k : Nat) : s.LightKept (s.showWin k) := by
  have h (j : Nat) (hj : j < 17) : Evolves (allBut j) s (s.showWin k) :=
    State.showWin_evolves k (.refl s) (by interval_cases j <;> rfl)
  refine ⟨?_, ?_, ?_, ?_, (h 8 (by decide)).hkp rfl, (h 12 (by decide)).ports rfl, (h 14 (by decide)).sch rfl, ?_⟩
  · rw [(h 0 (by decide)).map rfl]
  · rw [(h 1 (by decide)).loop rfl]
  · rw [(h 2 (by decide)).trv rfl]
  · rw [(h 10 (by decide)).boot rfl]
  · rw [(h 6 (by decide)).host rfl]

theorem State.modMon_lightKept (s : State) (k : Nat) (f : Mon → Mon) : s.LightKept (s.modMon k f) := {}
theorem State.modLoop_lightKept (s : State) {f : LoopSt → LoopSt} (h : ∀ l, (f l).elems = l.elems) : s.LightKept (s.modLoop f) :=
  { elems := h _ }

theorem State.wrBit_lightKept (s : State) (f : Fid) (i : Nat) (b : Bool) : s.LightKept (s.wrBit f i b) := {}

theorem State.dropPw_lightKept (s : State) (m : Nat) : s.LightKept (s.dropPw m) :=
  (s.modLoop_lightKept (f := fun l => { l with pwCmds := l.pwCmds.filter (fun d => !d.owner.isOf m) }) fun _ => rfl).trans
    (foldl_lightKept _ _ fun t k => (t.modMon_lightKept k _).trans (State.showWin_lightKept _ k))

theorem State.dropSolves_lightKept (s : State) (m : Nat) : s.LightKept (s.dropSolves m) := {}

theorem State.dropFw_lightKept (s : State) (m : Nat) : s.LightKept (s.dropFw m) := by
  unfold State.dropFw
  dsimp only
  refine .trans ?_ (.ite {} (.ite ?_ (.refl _)))
  · split
    · exact .ite {} (.refl s)
    · exact .refl s
  · exact .trans (.ite {} {}) (State.wrBit_lightKept _ _ _ _)

theorem State.dropWaits_lightKept (s : State) (m : Nat) : s.LightKept (s.dropWaits m) := by
  unfold State.dropWaits
  dsimp only
  split
  · split <;> exact {}
  · exact {}

theorem State.modSvc_lightKept (s : State) (n : Nat) (f : Svc → Svc) : s.LightKept (s.modSvc n f) := {}

theorem State.dropCpt_lightKept (s : State) (m n : Nat) : s.LightKept (s.dropCpt m n) := by
  unfold State.dropCpt
  dsimp only
  refine .trans ?_ (State.modSvc_lightKept _ n _)
  refine .trans ?_ (.ite ?_ (.refl _))
  · exact .ite {} (.refl s)
  · exact {}

/-! ## A mailbox reset -/

/-- What the commands of a mailbox still have to do ends (R367). -/
def State.endWork (s : State) (m : Nat) : State :=
  ((List.range 4).foldl (fun s n => s.dropCpt m n) ((((s.dropPw m).dropSolves m).dropFw m).dropWaits m)).modLoop
    (fun l => { l with reads := l.reads.filter (fun r => !r.owner.isOf m) })

theorem State.endWork_lightKept (s : State) (m : Nat) : s.LightKept (s.endWork m) := by
  have hdrops := (((s.dropPw_lightKept m).trans (State.dropSolves_lightKept _ m)).trans (State.dropFw_lightKept _ m)).trans
    (State.dropWaits_lightKept _ m)
  have hcpts := foldl_lightKept (List.range 4) ((((s.dropPw m).dropSolves m).dropFw m).dropWaits m)
    fun t n => t.dropCpt_lightKept m n
  exact (hdrops.trans hcpts).trans (State.modLoop_lightKept _ fun _ => rfl)

theorem State.endWork_mbx_rings (s : State) (m : Nat) : (s.endWork m).mbx = s.mbx ∧ (s.endWork m).rings = s.rings := by
  have h (j : Nat) (hj : j = 4 ∨ j = 5) : Evolves (allBut j) s
      ((List.range 4).foldl (fun s n => s.dropCpt m n) ((((s.dropPw m).dropSolves m).dropFw m).dropWaits m)) := by
    refine Evolves.foldl (List.range 4) (State.dropWaits_evolves m (State.dropFw_evolves m (State.dropSolves_evolves m
        (State.dropPw_evolves m (.refl s) ?_) ?_) ?_) ?_) fun t n h => State.dropCpt_evolves m n h ?_
    all_goals rcases hj with rfl | rfl <;> rfl
  rw [State.endWork, State.modLoop_mbx, State.modLoop_rings]
  exact ⟨(h 4 (.inl rfl)).mbx rfl, (h 5 (.inr rfl)).rings rfl⟩

/-- Mailbox `m` emptied, with its rings, telemetry bindings, held writes and injections. -/
def State.clearMailbox (s : State) (m : Nat) : State :=
  { s with
    mbx := Tbl.set {} s.mbx m { part := (s.mb m).part, logPtr := s.oldestSeq }
    rings := s.rings.filter (fun p => p.1 / 64 != m)
    host := { s.host with
      sources := s.host.sources.filter (fun t => t.mbx != m)
      held := s.host.held.filter (fun w => w.1 != m)
      dests := if m = 0 then [] else s.host.dests }
    flt := { s.flt with injections := s.flt.injections.filter (fun i => !(i.mode == 1 && i.mbx == m)) } }

theorem State.mailboxReset_eq (s : State) (m : Nat) : s.mailboxReset m =
    (((s.endWork m).clearMailbox m).resetRegs (mbxField m)).setLevel m (((s.endWork m).clearMailbox m).burst m * tokenUnit) := rfl

theorem State.clearMailbox_lightKept (s : State) (m : Nat) : s.LightKept (s.clearMailbox m) := {}
theorem State.resetRegs_lightKept (s : State) (p : Fid → Nat → Bool) : s.LightKept (s.resetRegs p) := {}
theorem State.setLevel_lightKept (s : State) (m v : Nat) : s.LightKept (s.setLevel m v) := {}

theorem State.mailboxReset_lightKept (s : State) (m : Nat) : s.LightKept (s.mailboxReset m) := by
  rw [State.mailboxReset_eq]
  exact (((s.endWork_lightKept m).trans (State.clearMailbox_lightKept _ m)).trans (State.resetRegs_lightKept _ _)).trans
    (State.setLevel_lightKept _ _ _)

theorem State.setLevel_mb_same (s : State) (m v : Nat) : (s.setLevel m v).mb m = { s.mb m with level := v } := by
  rw [State.setLevel, State.wr_mb, State.modMb_mb_same]

theorem State.setLevel_mb_ne (s : State) {m n : Nat} (v : Nat) (h : n ≠ m) : (s.setLevel m v).mb n = s.mb n := by
  rw [State.setLevel, State.wr_mb, State.modMb_mb_ne _ _ h]

theorem State.resetRegs_mb (s : State) (p : Fid → Nat → Bool) (m : Nat) : (s.resetRegs p).mb m = s.mb m := rfl

theorem State.clearMailbox_mb_same (s : State) (m : Nat) : (s.clearMailbox m).mb m = { part := (s.mb m).part, logPtr := s.oldestSeq } :=
  Tbl.get_set_same _ _ _ _

theorem State.clearMailbox_mb_ne (s : State) {m n : Nat} (h : n ≠ m) : (s.clearMailbox m).mb n = s.mb n := Tbl.get_set_ne _ _ _ h

theorem State.endWork_mb (s : State) (m n : Nat) : (s.endWork m).mb n = s.mb n := by
  rw [State.mb, (s.endWork_mbx_rings m).1, State.mb]

/-- The mailbox that is reset has no command, and keeps its partition. -/
theorem State.mailboxReset_mb_same (s : State) (m : Nat) : ((s.mailboxReset m).mb m).flight = [] ∧
    ((s.mailboxReset m).mb m).fetched = [] ∧ ((s.mailboxReset m).mb m).part = (s.mb m).part := by
  rw [State.mailboxReset_eq, State.setLevel_mb_same, State.resetRegs_mb, State.clearMailbox_mb_same, State.endWork_mb]
  exact ⟨rfl, rfl, rfl⟩

theorem State.mailboxReset_mb_ne (s : State) {m n : Nat} (h : n ≠ m) : (s.mailboxReset m).mb n = s.mb n := by
  rw [State.mailboxReset_eq, State.setLevel_mb_ne _ _ h, State.resetRegs_mb, State.clearMailbox_mb_ne _ h, State.endWork_mb]

theorem State.setLevel_ring (s : State) (m v k : Nat) : (s.setLevel m v).ring k = s.ring k := rfl
theorem State.resetRegs_ring (s : State) (p : Fid → Nat → Bool) (k : Nat) : (s.resetRegs p).ring k = s.ring k := rfl

theorem State.clearMailbox_ring (s : State) (m k : Nat) : (s.clearMailbox m).ring k = if k / 64 = m then {} else s.ring k := by
  refine (Tbl.get_filter {} s.rings (fun j => j / 64 != m) k).trans ?_
  by_cases hk : k / 64 = m <;> simp [hk, State.ring]

theorem State.endWork_ring (s : State) (m k : Nat) : (s.endWork m).ring k = s.ring k := by
  rw [State.ring, (s.endWork_mbx_rings m).2, State.ring]

/-- The telemetry rings of the mailbox that is reset are not configured. -/
theorem State.mailboxReset_ring (s : State) (m k : Nat) : (s.mailboxReset m).ring k = if k / 64 = m then {} else s.ring k := by
  rw [State.mailboxReset_eq, State.setLevel_ring, State.resetRegs_ring, State.clearMailbox_ring, State.endWork_ring]

/-! ## Resets of several mailboxes -/

/-- The mailboxes of a list reset in turn. -/
def State.mailboxResets (s : State) (l : List Nat) : State := l.foldl (fun s m => s.mailboxReset m) s

theorem State.mailboxResets_lightKept (s : State) (l : List Nat) : s.LightKept (s.mailboxResets l) :=
  foldl_lightKept l s fun t m => t.mailboxReset_lightKept m

theorem State.mailboxResets_mb_ne (l : List Nat) (s : State) {n : Nat} (h : n ∉ l) : (s.mailboxResets l).mb n = s.mb n := by
  induction l generalizing s with
  | nil => rfl
  | cons m l ih =>
    rw [List.mem_cons, not_or] at h
    exact (ih (s.mailboxReset m) h.2).trans (s.mailboxReset_mb_ne h.1)

/-- Every mailbox of the list has no command, and keeps its partition. -/
theorem State.mailboxResets_mb (l : List Nat) (s : State) {n : Nat} (h : n ∈ l) : ((s.mailboxResets l).mb n).flight = [] ∧
    ((s.mailboxResets l).mb n).fetched = [] ∧ ((s.mailboxResets l).mb n).part = (s.mb n).part := by
  induction l generalizing s with
  | nil => cases h
  | cons m l ih =>
    have hpart : ((s.mailboxReset m).mb n).part = (s.mb n).part := by
      by_cases hn : n = m
      · subst hn; exact (s.mailboxReset_mb_same n).2.2
      · rw [s.mailboxReset_mb_ne hn]
    by_cases hl : n ∈ l
    · obtain ⟨hf, he, hp⟩ := ih (s.mailboxReset m) hl
      exact ⟨hf, he, hp.trans hpart⟩
    · obtain rfl : n = m := (List.mem_cons.mp h).resolve_right hl
      rw [State.mailboxResets, List.foldl_cons, ← State.mailboxResets, State.mailboxResets_mb_ne l _ hl]
      exact s.mailboxReset_mb_same n

theorem State.mailboxResets_ring (l : List Nat) (s : State) {k : Nat} (h : k / 64 ∈ l ∨ s.ring k = {}) :
    (s.mailboxResets l).ring k = {} := by
  induction l generalizing s with
  | nil => exact h.resolve_left (by simp)
  | cons m l ih =>
    refine ih (s.mailboxReset m) ?_
    rw [State.mailboxReset_ring]
    by_cases hk : k / 64 = m
    · exact .inr (if_pos hk)
    · rw [if_neg hk]
      exact h.imp_left fun hm => (List.mem_cons.mp hm).resolve_left hk

/-! ## The end of a safety session -/

theorem State.fbkLog_session (s : State) (m k p o n d : Nat) : (s.fbkLog m k p o n d).fbk.session = s.fbk.session := by
  have hite {c : Prop} [Decidable c] {t u : State} (ht : t.fbk.session = s.fbk.session) (hu : u.fbk.session = s.fbk.session) :
      (if c then t else u).fbk.session = s.fbk.session := by
    split <;> assumption
  unfold State.fbkLog
  dsimp only
  refine hite ?_ (hite ?_ ?_)
  · rw [State.modFbk_fbk, State.modFbk_fbk]
  · rw [State.wr_fbk]; rfl
  · rw [State.sat, State.wr_fbk]; rfl

theorem State.endSession_frame (s : State) (m : Nat) (logged : Bool) : s.Frame (s.endSession m logged) crownFields [.fbk, .out] :=
  (State.endSession_evolves _ _ (.refl s) rfl).frame

/-- No safety session is open after its end, whether one was before or not. -/
theorem State.endSession_session (s : State) (m : Nat) (logged : Bool) : (s.endSession m logged).fbk.session = false := by
  have hshow (t : State) : ((t.fbkEvent 4).showCfg).showFbk.fbk = t.fbk :=
    (State.showFbk_evolves (M := allBut 9) (State.showCfg_evolves (State.fbkEvent_evolves 4 (.refl t) rfl) rfl) rfl).fbk rfl
  unfold State.endSession
  dsimp only
  split
  · simpa using ‹(!s.fbk.session) = true›
  · rw [hshow]
    split
    · exact State.fbkLog_session _ _ _ _ _ _ _
    · rfl

/-! ## HRST and a function-level reset -/

/-- What HRST resets between the mailboxes and the safety session: the SPDM exchange, and the host's link with `PERST_N`. -/
def State.hostReset (s : State) (cause : HrstCause) : State :=
  let s1 := (s.resetRegs (fun f _ => f == .chs_pol_status_pol_cnt)).modBoot
    (fun t => { t with spdmVersion := false, spdmCaps := false, spdmAlgs := false })
  { s1 with host := { s1.host with
    lows := []
    perstHigh := if cause = .perst then false else s1.host.perstHigh
    training := if cause = .perst then false else s1.host.training } }

theorem exec_hrst (cause : HrstCause) (s : State) :
    exec (.hrst cause) s = .next (((s.mailboxResets (List.range 8)).hostReset cause).endSession 0xFF true) := rfl

theorem State.hostReset_parts (s : State) (cause : HrstCause) : let t := s.hostReset cause
    t.mbx = s.mbx ∧ t.rings = s.rings ∧ t.map = s.map ∧ t.loop = s.loop ∧ t.trv = s.trv ∧ t.hkp = s.hkp ∧ t.ports = s.ports ∧
      t.sch = s.sch := ⟨rfl, rfl, rfl, rfl, rfl, rfl, rfl, rfl⟩

theorem State.hostReset_boot (s : State) (cause : HrstCause) :
    (s.hostReset cause).boot = { s.boot with spdmVersion := false, spdmCaps := false, spdmAlgs := false } := rfl

theorem State.hostReset_perstHigh (s : State) (cause : HrstCause) :
    (s.hostReset cause).host.perstHigh = if cause = .perst then false else s.host.perstHigh := rfl

theorem exec_vfFunctionLevelReset_some (k : Fin 7) (s : State) :
    exec (.vfFunctionLevelReset (some k)) s = .next (s.mailboxReset (k + 1)) := rfl

theorem exec_vfFunctionLevelReset_none (s : State) :
    exec (.vfFunctionLevelReset none) s = .next (s.mailboxResets [1, 2, 3, 4, 5, 6, 7]) := rfl

/-- Settles O7: each mailbox that is reset is empty and keeps its partition (`State.mailboxReset_mb_same`), and a mailbox reset leaves
the light paths and what serves them (`State.mailboxReset_lightKept`); the end of a session touches Firebreak alone. -/
theorem endpointResetsLeaveLight : Obligations.EndpointResetsLeaveLight := by
  unfold Obligations.EndpointResetsLeaveLight
  refine ⟨fun cause s => ?_, fun k s => ?_, fun s => ?_⟩
  · have hboxes := s.mailboxResets_lightKept (List.range 8)
    have hmbs (m : Nat) (hm : m < 8) := State.mailboxResets_mb (List.range 8) s (List.mem_range.mpr hm)
    have hrings (k : Nat) (hk : k / 64 < 8) := State.mailboxResets_ring (List.range 8) s (.inl (List.mem_range.mpr hk))
    rw [exec_hrst]
    generalize s.mailboxResets (List.range 8) = u at hboxes hmbs hrings
    obtain ⟨-, hpart, -⟩ := (u.hostReset cause).endSession_frame 0xFF true
    obtain ⟨hmbx, hring, hmap, hloop, htrv, hhkp, hports, hsch⟩ := u.hostReset_parts cause
    replace htrv := (hpart .trv (by decide)).trans htrv
    refine ⟨_, rfl, fun m hm => ?_, ?_, State.endSession_session _ _ _, ?_, ?_, ?_, ?_, ?_, ?_, ?_, ?_, ?_⟩
    · obtain ⟨hflight, hfetched, hkept⟩ := hmbs m hm
      rw [State.mb, (hpart .mbx (by decide)).trans hmbx]
      refine ⟨hflight, hfetched, hkept, fun j hj => ?_⟩
      rw [State.ring, (hpart .rings (by decide)).trans hring]
      exact hrings _ (by omega)
    · rw [(hpart .boot (by decide)).trans (u.hostReset_boot cause), hboxes.boot]
    · rw [(hpart .map (by decide)).trans hmap, hboxes.map]
    · rw [(hpart .loop (by decide)).trans hloop, hboxes.elems]
    · rw [htrv, hboxes.trv]
    · rw [htrv, hboxes.trv]
    · rw [htrv, hboxes.trv]
    · rw [(hpart .hkp (by decide)).trans hhkp, hboxes.hkp]
    · rw [(hpart .ports (by decide)).trans hports, hboxes.ports]
    · rw [(hpart .sch (by decide)).trans hsch, hboxes.sch]
    · rw [hpart .host (by decide), State.hostReset_perstHigh, hboxes.perstHigh]
  · have hkept := s.mailboxReset_lightKept (k + 1)
    obtain ⟨hflight, hfetched, hpart⟩ := s.mailboxReset_mb_same (k + 1)
    exact ⟨_, exec_vfFunctionLevelReset_some k s, hflight, hfetched, hpart, fun n hn => s.mailboxReset_mb_ne hn, hkept.map, hkept.elems,
      by rw [hkept.trv], by rw [hkept.trv]⟩
  · have hkept := s.mailboxResets_lightKept [1, 2, 3, 4, 5, 6, 7]
    refine ⟨_, exec_vfFunctionLevelReset_none s, fun m h1 h8 => ?_, s.mailboxResets_mb_ne _ (by decide), hkept.map, hkept.elems,
      by rw [hkept.trv], by rw [hkept.trv]⟩
    exact State.mailboxResets_mb _ s (by interval_cases m <;> decide)

end Sys2Proof.Machine

/-! PROOFS. Block resets (O8, R13, R14, R254, R268, R270, R308, R440): what the end of Traverse's work leaves of its library, what a
link that goes down leaves of the recorded neighbours, and from them what BRST of each block does. -/

namespace Sys2Proof.Machine

set_option exponentiation.threshold 2048

/-! ## Traverse: commands that end leave the library and the queue -/

/-- From `s` to `t` Traverse changes at most its records of finished and of chain-scoped Clearings. -/
def State.WorkKept (s t : State) : Prop :=
  t.trv = { s.trv with done := t.trv.done, chains := t.trv.chains, ended := t.trv.ended }

theorem State.WorkKept.of_trv {s t : State} (h : t.trv = s.trv) : s.WorkKept t := by
  unfold State.WorkKept
  rw [h]

theorem State.WorkKept.of_evolves {s t : State} (h : Evolves (allBut 2) s t) : s.WorkKept t := .of_trv (h.trv rfl)

theorem State.WorkKept.trans {s t u : State} (h : s.WorkKept t) (k : t.WorkKept u) : s.WorkKept u := by
  unfold State.WorkKept at h k ⊢
  rw [k, h]

theorem State.finishOpt_workKept (s : State) (o : Option Owner) (c : Completion) : s.WorkKept (s.finishOpt o c) :=
  .of_evolves (State.finishOpt_evolves _ _ (.refl s) rfl)

theorem State.finishChain_workKept (s : State) (x : ChainClr) (st : Status) (disp : Nat) :
    s.WorkKept (s.finishChain x st disp) := by
  refine .trans (t := s.modTrv (fun t => { t with
    chains := t.chains.filter (fun y => y.job.clrId != x.job.clrId)
    ended := if disp = 1 then (x :: t.ended).take 16 else t.ended })) rfl ?_
  exact .of_evolves (State.finishOpt_evolves _ _ (State.writeParts_evolves _ (.refl _) rfl) rfl)

theorem State.chainTry_workKept (s : State) (x : ChainClr) : s.WorkKept (s.chainTry x) := by
  unfold State.chainTry
  split
  · exact s.finishChain_workKept _ _ _
  · exact rfl

theorem State.ownRejected_workKept (s : State) (x : ChainClr) (st : Status) : s.WorkKept (s.ownRejected x st) := by
  unfold State.ownRejected
  dsimp only
  split
  · exact .trans (.of_evolves (State.sendAborts_evolves _ (.refl s) rfl)) (State.finishChain_workKept _ _ _ _)
  · exact s.chainTry_workKept _

theorem State.sendClr_workKept (s : State) (dst : Nat) (m : ClrMsg) : s.WorkKept (s.sendClr dst m) :=
  .of_evolves (State.send_evolves _ _ _ (.refl s) rfl)

theorem State.refuseJob_workKept (s : State) (j : Job) (st : Status) : s.WorkKept (s.refuseJob j st) := by
  unfold State.refuseJob
  split
  · split
    · exact s.sendClr_workKept _ _
    · split
      · exact s.ownRejected_workKept _ _
      · exact .of_trv rfl
  · exact s.finishOpt_workKept _ _

/-- A Clearing taken out of the queue. -/
def State.unqueue (s : State) (c : Clearing) : State :=
  s.modTrv (fun t => { t with queue := t.queue.filter (fun q => q.job.clrId != c.job.clrId) })

/-- A cancelled Clearing leaves the queue; the rest of Traverse's work stays. -/
theorem State.cancelClr_workKept (s : State) (c : Clearing) (st : Status) (disp : Nat) :
    (s.unqueue c).WorkKept (s.cancelClr c st disp) := by
  have h2 : (s.unqueue c).WorkKept (((s.unqueue c).noteClr c 3).showQueue) := rfl
  unfold State.cancelClr
  dsimp only
  split
  · split
    · split
      · exact h2.trans (State.ownRejected_workKept _ _ _)
      · exact h2
    · exact h2.trans (State.sendClr_workKept _ _ _)
  · exact h2.trans (State.finishOpt_workKept _ _ _)

theorem foldl_workKept {α : Type} {f : State → α → State} (l : List α) (s : State) (h : ∀ t a, State.WorkKept t (f t a)) :
    s.WorkKept (l.foldl f s) := by
  induction l generalizing s with
  | nil => exact rfl
  | cons a l ih => exact (h s a).trans (ih _)

/-- Cancelled Clearings leave the queue one by one; the rest of Traverse's work stays. -/
theorem foldl_cancelClr (l : List Clearing) (s : State) (st : Status) (disp : Nat) :
    (s.modTrv (fun t => { t with queue := t.queue.filter (fun q => l.all (fun c => q.job.clrId != c.job.clrId)) })).WorkKept
      (l.foldl (fun s c => s.cancelClr c st disp) s) := by
  induction l generalizing s with
  | nil => simp [State.WorkKept]
  | cons c l ih =>
    have h1 := s.cancelClr_workKept c st disp
    have h2 := ih (s.cancelClr c st disp)
    unfold State.WorkKept at h1 h2 ⊢
    rw [List.foldl_cons, h2, State.modTrv_trv, h1]
    simp [State.unqueue, List.filter_filter, Bool.and_comm]

/-- Every queued Clearing cancelled: the queue is empty. -/
theorem cancelAll_workKept (s : State) (st : Status) (disp : Nat) :
    (s.modTrv (fun t => { t with queue := [] })).WorkKept (s.trv.queue.foldl (fun s c => s.cancelClr c st disp) s) := by
  have h := foldl_cancelClr s.trv.queue s st disp
  have he : s.trv.queue.filter (fun q => s.trv.queue.all (fun c => q.job.clrId != c.job.clrId)) = [] :=
    List.filter_eq_nil_iff.mpr fun q hq hall => by simpa using List.all_eq_true.mp hall q hq
  unfold State.WorkKept at h ⊢
  rwa [State.modTrv_trv, he] at h

/-- Traverse with every solve and commit that is not queued ended, as BRST begins (R254). -/
def State.endSolves (s : State) : State :=
  (s.trv.waiting ++ s.trv.running.toList ++ s.trv.solved).foldl
    (fun s j => if j.commit then s.refuseJob j .internal else s.finishOpt j.owner { status := .internal })
    (s.modTrv (fun t => { t with waiting := [], running := none, solved := [] }))

theorem State.endSolves_workKept (s : State) :
    (s.modTrv (fun t => { t with waiting := [], running := none, solved := [] })).WorkKept s.endSolves :=
  foldl_workKept _ _ fun t j => by
    split
    · exact t.refuseJob_workKept _ _
    · exact t.finishOpt_workKept _ _

/-- BRST of Traverse leaves no solve and no queued Clearing, and the library and the state in force as they were (R254). -/
theorem State.brstTraverse_trv (s : State) :
    s.brstTraverse.trv = { s.trv with
      waiting := [], running := none, solved := [], queue := []
      done := s.brstTraverse.trv.done, chains := s.brstTraverse.trv.chains, ended := s.brstTraverse.trv.ended } := by
  have h1 := s.endSolves_workKept
  have h2 : (s.endSolves.modTrv (fun t => { t with queue := [] })).WorkKept s.brstTraverse :=
    cancelAll_workKept s.endSolves .internal 3
  unfold State.WorkKept at h1 h2
  rw [h2, State.modTrv_trv, h1]
  rfl

/-! ## Chain ports: a link that goes down leaves the recorded neighbours -/

/-- From `s` to `t` no port loses or changes the neighbour that enumeration recorded. -/
def State.KnownKept (s t : State) : Prop := ∀ p, (t.port p).known = (s.port p).known

theorem State.KnownKept.of_ports {s t : State} (h : t.ports = s.ports) : s.KnownKept t := fun p => by
  rw [State.port, State.port, h]

theorem State.KnownKept.of_evolves {s t : State} (h : Evolves (allBut 12) s t) : s.KnownKept t := .of_ports (h.ports rfl)

theorem State.KnownKept.trans {s t u : State} (h : s.KnownKept t) (k : t.KnownKept u) : s.KnownKept u :=
  fun p => (k p).trans (h p)

theorem foldl_knownKept {α : Type} {f : State → α → State} (l : List α) (s : State) (h : ∀ t a, State.KnownKept t (f t a)) :
    s.KnownKept (l.foldl f s) := by
  induction l generalizing s with
  | nil => exact fun _ => rfl
  | cons a l ih => exact (h s a).trans (ih _)

theorem State.modPort_injFcs_knownKept (s : State) (p : Nat) (b : Bool) :
    s.KnownKept (s.modPort p (fun x => { x with injFcs := b })) := fun q => by
  by_cases h : q = p
  · subst h; rw [State.modPort_port_same]
  · rw [State.modPort_port_ne _ _ h]

theorem State.toPort_knownKept (s : State) (p : Nat) (own : Bool) (c : Cairn) : s.KnownKept (s.toPort p own c) := by
  refine .trans (t := if (s.port p).injFcs then s.modPort p (fun x => { x with injFcs := false }) else s) ?_
    (.of_evolves (State.enqueue_evolves _ _ _ (.refl _) rfl))
  split
  · exact s.modPort_injFcs_knownKept p false
  · exact fun _ => rfl

theorem State.sendDown_knownKept (s : State) (own : Bool) (c : Cairn) : s.KnownKept (s.sendDown own c) :=
  foldl_knownKept _ s fun t p => by
    split
    · exact t.toPort_knownKept _ _ _
    · exact fun _ => rfl

theorem State.sendTo_knownKept (s : State) (kind tc dst : Nat) (m : Msg) : s.KnownKept (s.sendTo kind tc dst m) := by
  have hs : s.KnownKept (s.useSeq kind) := .of_ports rfl
  have hd : ∀ p, s.KnownKept ((s.useSeq kind).sat .chp_drop_cnt_dest p) := fun p => .of_ports rfl
  unfold State.sendTo
  dsimp only
  split
  · split
    · exact hs.trans (State.sendDown_knownKept _ _ _)
    · split
      · split
        · exact hs.trans (State.toPort_knownKept _ _ _ _)
        · exact hd _
      · exact hs
  · split
    · split
      · exact hs.trans (State.toPort_knownKept _ _ _ _)
      · split
        · exact hs.trans (State.toPort_knownKept _ _ _ _)
        · exact hd _
    · exact hs

theorem State.rootAnnounce_knownKept (s : State) : s.KnownKept s.rootAnnounce := by
  unfold State.rootAnnounce
  split
  · exact .trans (t := s.modFab _) (.of_ports rfl) (foldl_knownKept _ _ fun t i => t.sendTo_knownKept _ _ _ _)
  · exact fun _ => rfl

theorem State.adoptCut_knownKept (s : State) (j out : Nat) : s.KnownKept (s.adoptCut j out) := by
  refine .trans (.of_evolves ?_) (State.rootAnnounce_knownKept _)
  refine State.wrapOn_evolves _ (State.rewire_evolves _ (State.report_evolves _ (State.chpEvent_evolves _ _
    (State.setRingRoutes_evolves ?_ rfl) rfl) rfl) rfl) rfl
  exact State.sat_evolves _ _ (State.wrBit_evolves _ _ _ (State.showCut_evolves (State.modFab_evolves _ (.refl s) rfl) rfl)
    rfl rfl) rfl rfl

theorem State.ringLinkLost_knownKept (s : State) (p : Nat) (cutUp : Bool) : s.KnownKept (s.ringLinkLost p cutUp) := by
  unfold State.ringLinkLost
  dsimp only
  split
  · exact .of_ports rfl
  · split
    · exact s.adoptCut_knownKept _ _
    · split
      · exact .of_evolves (State.isolate_evolves _ (.refl s) rfl)
      · exact fun _ => rfl

theorem State.takeLinkDown_knownKept (s : State) (p : Nat) (cutUp : Bool) : s.KnownKept (s.takeLinkDown p cutUp) := by
  have hlost (t : State) (r : FaultRep) : t.KnownKept (((t.emptyQueues p).chpEvent p 1).report r) :=
    .of_evolves (State.report_evolves _ (State.chpEvent_evolves _ _ (State.emptyQueues_evolves _ (.refl t) rfl) rfl) rfl)
  have hroles (t : State) : t.KnownKept t.showPtpRoles := .of_evolves (State.showPtpRoles_evolves (.refl t) rfl)
  have hdown : s.KnownKept
      (((s.wrBit .chp_status_link_up p false).wrBit .chp_status_hello_ok p false).sat .chp_status_link_dn_cnt p) :=
    .of_ports rfl
  unfold State.takeLinkDown
  dsimp only
  split
  · exact fun _ => rfl
  · split
    · exact ((hdown.trans (hlost _ _)).trans (State.ringLinkLost_knownKept _ p cutUp)).trans (hroles _)
    · exact ((hdown.trans (hlost _ _)).trans (.of_evolves (State.treeLinkLost_evolves p (.refl _) rfl))).trans (hroles _)

theorem State.brstPort_port (s : State) (p : Nat) : (s.brstPort p).port p = { known := (s.port p).known } := by
  unfold State.brstPort
  rw [State.modPort_port_same, ← s.takeLinkDown_knownKept p false p]
  rfl

theorem State.brstPort_rd (s : State) {p : Nat} {f : Fid} (hb : Fid.between .chp_cfg_en .chp_event_event_en f = true)
    (hf : f ∉ [.chp_status_role, .chp_range_lo, .chp_range_hi]) : (s.brstPort p).rd f p = f.reset p := by
  have hp : portField p f p = true := by
    simpa [portField, hb, and_assoc] using hf
  rw [State.brstPort, State.modPort_rd, State.rd_resetRegs, if_pos hp]

/-! ## Datum -/

theorem State.setP_datum (s : State) (st : Nat) : (s.setP st).datum = { s.datum with heldSince := (s.setP st).datum.heldSince } := by
  have he : (((s.wr .dtm_status_p_state 0 st).dtmEvent 0).report { src := 0x28, detail := st }).datum = s.datum :=
    (State.report_evolves (M := allBut 11) _ (State.dtmEvent_evolves 0 (.refl _) rfl) rfl).datum rfl
  unfold State.setP
  split
  · rfl
  · dsimp only
    rw [he]

theorem State.setP_rd_state (s : State) {st : Nat} (h : st < 8) : (s.setP st).rd .dtm_status_p_state 0 = st := by
  unfold State.setP
  split
  next e => exact e
  next =>
    have he := (State.dtmEvent_evolves (M := allBut (17 + Fid.ctorIdx .dtm_status_p_state)) 0
      (.refl (s.wr .dtm_status_p_state 0 st)) rfl).rd .dtm_status_p_state 0 rfl
    exact he.trans ((State.rd_wr_same _ _ _ _).trans (Nat.mod_eq_of_lt h))

/-- What follows P_STATE in BRST of Datum: S_STATE, the roles of its ports, the commands that end. -/
theorem brstDatum_rest (s : State) (l : List Owner) (c : Completion) :
    s.Frame (l.foldl (fun s o => s.finish o c) (s.setS 0).showPtpRoles)
      [.dtm_status_s_state, .dtm_event_event, .dtm_port_cfg_role0, .dtm_port_cfg_role1, .mbx_status_inflight]
      [.flt, .out, .mbx] :=
  (Evolves.foldl l (State.showPtpRoles_evolves (State.setS_evolves 0 (.refl s) rfl) rfl)
    fun _ o h => State.finish_evolves o c h rfl).frame

/-- BRST of Datum keeps time and rate, drops the planned step and the timestamp queues, and leaves Datum P in HOLDOVER or FREE
(R308). -/
theorem State.brstDatum_leaves (s : State) : s.brstDatum.datum.t = s.datum.t ∧
    s.brstDatum.rd .dtm_rate_rho 0 = s.rd .dtm_rate_rho 0 ∧ s.brstDatum.datum.stepPlan = none ∧ s.brstDatum.datum.ports = [] ∧
    s.brstDatum.rd .dtm_status_p_state 0 =
      if s.rd .dtm_status_p_state 0 = 2 ∨ s.rd .dtm_status_p_state 0 = 3 then 4 else 0 := by
  unfold State.brstDatum
  dsimp only
  generalize hu : State.setP _ _ = u
  obtain ⟨hrd, hpart, -⟩ := brstDatum_rest u (s.datum.stepOwners ++ s.datum.switchDue.getD []) { status := .internal }
  have hd := (hpart .datum (by decide) : _ = _)
  rw [hd, hrd _ (by decide), hrd _ (by decide), ← hu, State.setP_datum]
  refine ⟨rfl, ?_, rfl, rfl, ?_⟩
  · rw [(State.setP_evolves (M := allBut (17 + Fid.ctorIdx .dtm_rate_rho)) _ (.refl _) rfl).rd _ _ rfl, State.rd_resetRegs,
      if_neg (by decide)]
    rfl
  · rw [State.setP_rd_state _ (by split <;> decide)]
    simp

/-! ## Stands -/

/-- A Stand put OFFLINE is under reset (R268, R271). -/
theorem State.offline_leaves (s : State) (st : Nat) : (s.offline st).standState st = 0 ∧ st ∈ (s.offline st).stand.reset := by
  refine ⟨?_, ?_⟩
  · have he := (State.clearSync_evolves (M := allBut (17 + Fid.ctorIdx .stx_stand_status_state)) st
      (.refl (s.setStand st 0)) rfl).rd .stx_stand_status_state (standKey st 0) rfl
    rw [State.standState, State.offline, State.modStand_rd, he, State.setStand, State.rd_wr_same]
    rfl
  · have he := (State.clearSync_evolves (M := allBut 3) st (.refl (s.setStand st 0)) rfl).stand rfl
    simp only [State.offline, State.modStand_stand, he]
    split
    next h => simpa using h
    next => simp

/-- A Stand that starts its return has left reset, is SYNCING and copies every compartment (R270). -/
theorem State.startCopy_leaves (s : State) (st : Nat) (o : Option Owner) : st ∉ (s.startCopy st o).stand.reset ∧
    (s.startCopy st o).standState st = 1 ∧ (s.startCopy st o).stand.copying = some (st, [0, 1, 2, 3]) := by
  refine ⟨?_, ?_, rfl⟩
  · simp [State.startCopy]
  · have he := (State.clearSync_evolves (M := allBut (17 + Fid.ctorIdx .stx_stand_status_state)) st
      (.refl (s.setStand st 1)) rfl).rd .stx_stand_status_state (standKey st 0) rfl
    rw [State.standState, State.startCopy, State.modStand_rd, he, State.setStand, State.rd_wr_same]
    rfl

/-! ## O8 -/

theorem exec_brst (b : Block) (s : State) : exec (.brst b) s = execBrst b s := rfl
theorem exec_brstEnd (st : Fin 2) (s : State) : exec (.brstEnd st) s = execBrstEnd st s := rfl

/-- A request for BRST of a block that BRST answers is no longer pending. -/
def State.dropAsks (s : State) (b : Block) : State :=
  { s with flt := { s.flt with brstPending := s.flt.brstPending.filter (fun r => !blockAsks b r.1 r.2) } }

theorem execBrst_absorbed {b : Block} {s : State} (h : s.flt.drstPending = true) : execBrst b s = .next s := by
  simp [execBrst, h]

theorem execBrst_traverse {s : State} (h : s.flt.drstPending = false) :
    execBrst .traverse s = .next (s.dropAsks .traverse).brstTraverse := by
  simp [execBrst, h, State.dropAsks]

theorem execBrst_port {s : State} (p : Fin 4) (h : s.flt.drstPending = false) :
    execBrst (.port p) s = .next ((s.dropAsks (.port p)).brstPort p) := by
  simp [execBrst, h, State.dropAsks]

theorem execBrst_datum {s : State} (h : s.flt.drstPending = false) :
    execBrst .datum s = .next (s.dropAsks .datum).brstDatum := by
  simp [execBrst, h, State.dropAsks]

theorem State.brstStand_shadow {s : State} {st : Nat} (src : Option Nat) (h : s.standState st ≠ 0) (hs : st ≠ s.holder) :
    s.brstStand st src = s.offline st := by
  unfold State.brstStand
  rw [if_neg h, if_pos hs]

/-- BRST of a shadow Stand that is not OFFLINE puts it OFFLINE. -/
theorem execBrst_shadow {s : State} {st : Fin 2} (h : s.flt.drstPending = false) (hs : st.val ≠ s.holder)
    (hst : s.standState st ≠ 0) : execBrst (.stand st) s = .next ((s.dropAsks (.stand st)).offline st) := by
  rw [← State.brstStand_shadow (s := s.dropAsks (.stand st)) _ hst hs]
  simp [execBrst, h, State.dropAsks]
  rfl

/-- The end of the BRST of an OFFLINE Stand with AUTO_RETURN 1 and no activation starts its return (R270). -/
theorem execBrstEnd_returns {s : State} {st : Fin 2} (hr : st.val ∈ s.stand.reset) (hst : s.standState st = 0)
    (ha : s.boot.actStep = 0) (hc : s.rd .glb_baton_cfg_auto_return 0 ≠ 0) : execBrstEnd st s =
      .next ((s.modStand (fun t => { t with reset := t.reset.filter (fun x => x != st.val) })).startCopy st none) := by
  have hb : s.bit .glb_baton_cfg_auto_return 0 = true := bne_iff_ne.mpr hc
  have hn : ¬ ((!s.stand.reset.contains st.val) = true ∨ s.standState st ≠ 0) := by simp [hr, hst]
  unfold execBrstEnd
  rw [if_neg hn, ha]
  simp [hb]

/-- Settles O8: a BRST restores what its block's rule names and keeps the rest (R13, R14, R254, R268, R270, R308, R440). -/
theorem blockResetsRestoreTheirBlock : Obligations.BlockResetsRestoreTheirBlock := by
  unfold Obligations.BlockResetsRestoreTheirBlock
  refine ⟨fun b s h => execBrst_absorbed h, fun s h => ⟨_, execBrst_traverse h, ?_⟩, fun p s h => ⟨_, execBrst_port p h, ?_, ?_⟩,
    fun s h => ⟨_, execBrst_datum h, (s.dropAsks .datum).brstDatum_leaves⟩,
    fun st s h hs hst => ⟨_, execBrst_shadow h hs hst, (s.dropAsks (.stand st)).offline_leaves st⟩, fun st s hr hst ha hc => ?_⟩
  · rw [State.brstTraverse_trv]
    exact ⟨rfl, rfl, rfl, rfl, rfl, rfl, rfl, rfl⟩
  · exact fun f hb hf => State.brstPort_rd _ hb hf
  · exact State.brstPort_port _ _
  · exact ⟨_, execBrstEnd_returns hr hst ha hc, State.startCopy_leaves _ st none⟩

end Sys2Proof.Machine

/-! PROOFS. Register and BAR2 writes (O48, R9 to R12, R63, R368 to R373): one rule for each access type, one for each register of
the statement (its place in the map, the fields that a write of it touches), and from them what each write does. -/

namespace Sys2Proof.Machine

set_option exponentiation.threshold 2048

/-! ## Fields under their access types (R9) -/

/-- A write that names every bit of a field of `n` bits replaces its value. -/
theorem FieldWrite.merge_full {w : FieldWrite} {n : Nat} (h : w.mask = 2 ^ n - 1) (old : Nat) :
    w.merge old % 2 ^ n = w.val % 2 ^ n := by
  have hd : old - old % 2 ^ n = 2 ^ n * (old / 2 ^ n) := by have := Nat.div_add_mod old (2 ^ n); omega
  simp only [FieldWrite.merge, h, Nat.and_two_pow_sub_one_eq_mod, hd, Nat.mul_add_mod, Nat.mod_mod]

/-- Where the field held a value of its width, nothing of it is left. -/
theorem FieldWrite.merge_full_of_lt {w : FieldWrite} {n old : Nat} (h : w.mask = 2 ^ n - 1) (ho : old < 2 ^ n) :
    w.merge old = w.val % 2 ^ n := by
  simp only [FieldWrite.merge, h, Nat.and_two_pow_sub_one_eq_mod, Nat.mod_eq_of_lt ho, Nat.sub_self, Nat.zero_add]

/-- The write of a whole field by a write of `v` to its register from bit 0. -/
def FieldPos.whole (v : Nat) (q : FieldPos) : FieldWrite := ⟨q.fid, 2 ^ q.w - 1, v / 2 ^ q.lo % 2 ^ q.w⟩

/-- A field written whole holds its bits of `v`, whatever it held. -/
theorem State.wr_merge_whole (s : State) (i v old : Nat) {q : FieldPos} (hq : q.fid.width = q.w) :
    s.wr q.fid i ((q.whole v).merge old) = s.wr q.fid i (v / 2 ^ q.lo) := by
  have h : (q.whole v).merge old % 2 ^ q.fid.width = v / 2 ^ q.lo % 2 ^ q.fid.width := by
    rw [hq, FieldWrite.merge_full (n := q.w) rfl, FieldPos.whole, Nat.mod_mod]
  rw [State.wr, State.wr, h]

section Fields

variable {s : State} {off i : Nat} {w : FieldWrite}

theorem State.storeField_ro (h : w.f.accessAt i = .ro) : s.storeField off i w = (s, true) := by
  simp only [State.storeField, h]

theorem State.storeField_rws (h : w.f.accessAt i = .rws) :
    s.storeField off i w = (s.wr w.f i (w.merge (s.rd w.f i)), true) := by
  simp only [State.storeField, h]

theorem State.storeField_w1c (h : w.f.accessAt i = .w1c) : s.storeField off i w =
    (s.wr w.f i (s.rd w.f i - (s.rd w.f i &&& (w.val &&& w.mask))), true) := by
  simp only [State.storeField, h]

theorem State.storeField_rw (h : w.f.accessAt i = .rw) (hl : s.mbxLocked w.f i (w.merge (s.rd w.f i)) = false) :
    s.storeField off i w = (s.wr w.f i (w.merge (s.rd w.f i)), true) := by
  simp only [State.storeField, h, hl, Bool.false_eq_true, if_false]

theorem State.storeField_rw_locked (h : w.f.accessAt i = .rw) (hl : s.mbxLocked w.f i (w.merge (s.rd w.f i)) = true) :
    s.storeField off i w = (s, true) := by
  simp only [State.storeField, h, hl, if_true]

theorem State.storeField_rwe_uncovered (h : w.f.accessAt i = .rwe) (hc : s.covers off w.f i = false) :
    s.storeField off i w = (s, false) := by
  simp only [State.storeField, h, hc, Bool.not_false, if_true]

/-- A covered write of an RWE field that acts on nothing beside its register. -/
theorem State.storeField_rwe_covered (h : w.f.accessAt i = .rwe) (hc : s.covers off w.f i = true)
    (hf : w.f ∉ [.stx_elem_cfg_coef_set, .stx_elem_cfg_sigma_sp, .flt_policy_react]) :
    s.storeField off i w = (s.wr w.f i (w.merge (s.rd w.f i)), true) := by
  obtain ⟨f, mask, val⟩ := w
  simp only [List.mem_cons, List.not_mem_nil, or_false, not_or] at hf
  obtain ⟨h1, h2, h3⟩ := hf
  simp only [State.storeField, h, hc, Bool.not_true, Bool.false_eq_true, if_false]

theorem State.storeField_rwp_closed (h : w.f.accessAt i = .rwp) (hs : s.fbk.session = false) :
    s.storeField off i w = (s, false) := by
  simp only [State.storeField, h, hs, Bool.false_eq_true, false_and, if_false]

theorem State.storeField_rwp_open (h : w.f.accessAt i = .rwp) (hs : s.fbk.session = true)
    (hv : rwpOk w.f i (w.merge (s.rd w.f i)) = true) : s.storeField off i w =
    ((s.modFbk (fun b => { b with staged := fbkPut b.staged (rwpCode w.f) i (w.merge (s.rd w.f i)) })).showCfg, true) := by
  simp only [State.storeField, h, hs, hv, and_self, if_true]

section Whole

variable {q : FieldPos} (v : Nat) (hq : q.fid.width = q.w)
include hq

theorem State.storeField_whole_rws (h : q.fid.accessAt i = .rws) :
    s.storeField off i (q.whole v) = (s.wr q.fid i (v / 2 ^ q.lo), true) := by
  rw [State.storeField_rws (w := q.whole v) h, ← s.wr_merge_whole i v (s.rd q.fid i) hq]
  rfl

theorem State.storeField_whole_rw (h : q.fid.accessAt i = .rw) (hl : ∀ x, s.mbxLocked q.fid i x = false) :
    s.storeField off i (q.whole v) = (s.wr q.fid i (v / 2 ^ q.lo), true) := by
  rw [State.storeField_rw (w := q.whole v) h (hl _), ← s.wr_merge_whole i v (s.rd q.fid i) hq]
  rfl

theorem State.storeField_whole_rwe (h : q.fid.accessAt i = .rwe) (hc : s.covers off q.fid i = true)
    (hf : q.fid ∉ [.stx_elem_cfg_coef_set, .stx_elem_cfg_sigma_sp, .flt_policy_react]) :
    s.storeField off i (q.whole v) = (s.wr q.fid i (v / 2 ^ q.lo), true) := by
  rw [State.storeField_rwe_covered (w := q.whole v) h hc hf, ← s.wr_merge_whole i v (s.rd q.fid i) hq]
  rfl

end Whole

/-- One write of a register's list: the machine, the fields accepted so far, and whether one was refused. -/
def storeStep (off i : Nat) (acc : State × List Fid × Bool) (w : FieldWrite) : State × List Fid × Bool :=
  let (t, ok) := acc.1.storeField off i w
  (t, if ok then acc.2.1 ++ [w.f] else acc.2.1, acc.2.2 || !ok)

theorem State.storeAll_eq (s : State) (off i : Nat) (ws : List FieldWrite) : s.storeAll off i ws =
    (if (ws.foldl (storeStep off i) (s, [], false)).2.2 then (ws.foldl (storeStep off i) (s, [], false)).1.noteDiscard off
      else (ws.foldl (storeStep off i) (s, [], false)).1, (ws.foldl (storeStep off i) (s, [], false)).2.1) := rfl

theorem State.storeAll_nil (s : State) (off i : Nat) : s.storeAll off i [] = (s, []) := rfl

/-- What was accepted before stands before what the list accepts. -/
theorem foldl_storeStep_append (ws : List FieldWrite) (t : State) (pre acc : List Fid) (b : Bool) :
    ws.foldl (storeStep off i) (t, pre ++ acc, b) =
      ((ws.foldl (storeStep off i) (t, acc, b)).1, pre ++ (ws.foldl (storeStep off i) (t, acc, b)).2.1,
        (ws.foldl (storeStep off i) (t, acc, b)).2.2) := by
  induction ws generalizing t acc b with
  | nil => rfl
  | cons x l ih =>
    simp only [List.foldl_cons, storeStep]
    rw [← ih]
    split <;> simp

/-- The writes of a register taken in turn: an accepted one goes before the rest. -/
theorem State.storeAll_cons {t : State} (ws : List FieldWrite) (h : s.storeField off i w = (t, true)) :
    s.storeAll off i (w :: ws) = ((t.storeAll off i ws).1, w.f :: (t.storeAll off i ws).2) := by
  have h1 : storeStep off i (s, [], false) w = (t, [w.f], false) := by simp [storeStep, h]
  have happ := foldl_storeStep_append (off := off) (i := i) ws t [w.f] [] false
  rw [List.append_nil] at happ
  simp only [State.storeAll_eq, List.foldl_cons, h1, happ, List.singleton_append]

theorem State.storeAll_pair {t u : State} {x : FieldWrite} (h : s.storeField off i w = (t, true))
    (hx : t.storeField off i x = (u, true)) : s.storeAll off i [w, x] = (u, [w.f, x.f]) := by
  rw [State.storeAll_cons _ h, State.storeAll_cons _ hx, State.storeAll_nil]

/-- Read-only fields: every write is taken and none changes anything. -/
theorem State.storeAll_ro {ws : List FieldWrite} (h : ∀ x ∈ ws, x.f.accessAt i = .ro) :
    s.storeAll off i ws = (s, ws.map (fun x => x.f)) := by
  induction ws with
  | nil => rfl
  | cons x l ih =>
    rw [List.forall_mem_cons] at h
    rw [State.storeAll_cons l (State.storeField_ro h.1), ih h.2, List.map_cons]

/-- Every touched field refuses the write: one record. -/
theorem State.storeAll_refused {ws : List FieldWrite} (h : ∀ x ∈ ws, s.storeField off i x = (s, false)) (hw : ws ≠ []) :
    s.storeAll off i ws = (s.noteDiscard off, []) := by
  have hf : ∀ (l : List FieldWrite) (b : Bool), (∀ x ∈ l, s.storeField off i x = (s, false)) →
      l.foldl (storeStep off i) (s, [], b) = (s, [], b || !l.isEmpty) := by
    intro l
    induction l with
    | nil => simp
    | cons x l ih =>
      intro b hl
      rw [List.forall_mem_cons] at hl
      have h1 : storeStep off i (s, [], b) x = (s, [], true) := by simp [storeStep, hl.1]
      rw [List.foldl_cons, h1, ih _ hl.2]
      simp
  have hne : ws.isEmpty = false := by simpa using hw
  simp only [State.storeAll_eq, hf ws false h, hne, Bool.not_false, Bool.or_true, if_true]

end Fields

/-! ## What an accepted write brings about -/

/-- The fields whose accepted write does more than store its value. -/
def actingFields : List Fid :=
  [.stx_cpt_cfg_psel, .stx_cpt_cfg_wsel, .stx_out_cfg_en, .dtm_trig_cfg_mode, .dtm_trig_cfg_edge, .dtm_ctrl_src0,
   .dtm_ctrl_src1, .chs_change_subns, .chs_change_ns, .chs_change_sec, .ust_mon_cfg_range, .ust_pw_cfg_len,
   .ust_pw_cfg_mode, .ust_mon_cmp_low_na, .ust_mon_cmp_high_na, .ust_pw_status_overrun, .ust_hpwm_shper_per_sh,
   .ust_hpwm_shcmp_a_sh, .ust_hpwm_shcmp_b_sh, .chp_cfg_en, .chp_cfg_fec, .chs_port_cfg_ovh, .chs_cbs_idleslope,
   .chs_pol_cfg_en, .chs_pol_rate_rate, .flt_err_force, .cal_ecal_sched_interval, .stx_cpt_status_ovr,
   .stx_sup_status_new, .mbx_tr_status_ring_err, .glb_baton_status_new, .dtm_trig_cfg_ovf, .dtm_tsq_status_ovf,
   .trv_fail_new, .dtm_event_event_en, .chp_event_event_en, .fbk_event_event_en, .hkp_event_event_en]

/-- A write that accepts none of those brings about nothing more. -/
theorem State.written_plain (s old : State) (off i : Nat) {acc : List Fid} (h : ∀ f ∈ actingFields, f ∉ acc) :
    s.written old off i acc = s := by
  simp only [actingFields, List.forall_mem_cons] at h
  simp [State.written, h]

/-! ## Accesses (R368, R369) -/

/-- A write that covers its register touches every field that has no row of its own, whole. -/
theorem touched_whole (r : RegDef) (n v : Nat) (h : ∀ q ∈ r.fields, 0 < q.w ∧ q.lo + q.w ≤ n) :
    touched r 0 n v = (r.fields.filter (fun q => !ownRow q.fid)).map (FieldPos.whole v) := by
  unfold touched
  have hf : r.fields.filter (fun q => decide (0 < q.lo + q.w) && decide (q.lo < 0 + n) && !ownRow q.fid) =
      r.fields.filter (fun q => !ownRow q.fid) := by
    refine List.filter_congr fun q hq => ?_
    obtain ⟨h0, hn⟩ := h q hq
    simp [show 0 < q.lo + q.w by omega, show q.lo < n by omega]
  rw [hf]
  refine List.map_congr_left fun q hq => ?_
  obtain ⟨h0, hn⟩ := h q (List.mem_filter.mp hq).1
  simp [FieldPos.whole, Nat.min_eq_right hn]

theorem exec_registerWrite (fn : Fin 8) (off width v : Nat) (s : State) :
    exec (.registerWrite fn off width v) s = execRegisterWrite fn off width v s := rfl

/-- A 32-bit write at an aligned offset of a function's BAR0. -/
theorem exec_registerWrite_word {fn : Fin 8} {off o : Nat} (v : Nat) (s : State) (hp : pfOffset fn off = some o)
    (ha : off % 4 = 0) : exec (.registerWrite fn off 32 v) s = .next (s.write32 o v) := by
  simp [exec_registerWrite, execRegisterWrite, hp, ha]

/-- A 64-bit write at an aligned offset of a function's BAR0. -/
theorem exec_registerWrite_long {fn : Fin 8} {off o : Nat} (v : Nat) (s : State) (hp : pfOffset fn off = some o)
    (ha : off % 8 = 0) : exec (.registerWrite fn off 64 v) s = .next (s.write64 o v) := by
  simp [exec_registerWrite, execRegisterWrite, hp, ha]

/-- A write of another width or alignment. -/
theorem exec_registerWrite_unaligned {fn : Fin 8} {off width o : Nat} (v : Nat) (s : State) (hp : pfOffset fn off = some o)
    (ha : ¬ (width = 32 ∧ off % 4 = 0 ∨ width = 64 ∧ off % 8 = 0)) :
    exec (.registerWrite fn off width v) s = .next (s.discardAccess o) := by
  simp [exec_registerWrite, execRegisterWrite, hp, ha]

/-- A write where the function may not write. -/
theorem exec_registerWrite_closed {fn : Fin 8} {off : Nat} (width v : Nat) (s : State) (hp : pfOffset fn off = none) :
    exec (.registerWrite fn off width v) s = .next s := by
  simp [exec_registerWrite, execRegisterWrite, hp]

theorem pfOffset_pf {off : Nat} (h : ¬ (0x11000 ≤ off ∧ off < 0x18000)) : pfOffset 0 off = some off := by
  simp [pfOffset, h]

/-- The mailbox page of a function: the PF's at 0x10000, a VF's at its own offset 0 (R368). -/
theorem pfOffset_mailbox (fn : Fin 8) {x : Nat} (hx : x < 0x1000) :
    pfOffset fn (if fn = 0 then 0x10000 + x else x) = some (0x10000 + 0x1000 * fn.val + x) := by
  by_cases h : fn = 0
  · subst h
    simpa using pfOffset_pf (off := 0x10000 + x) (by omega)
  · have hv : fn.val ≠ 0 := fun e => h (Fin.ext e)
    simp [pfOffset, h, hv, hx]

/-- A 32-bit write of a 32-bit register. -/
theorem State.write32_word {o i : Nat} {r : RegDef} (s : State) (v : Nat) (h : regAt o = some (r, i, 0)) (hw : r.width = 32) :
    s.write32 o v = s.writeBits r i o 0 32 v := by
  simp [State.write32, h, hw]

/-! ## The registers of the statement: their place in the map -/

def hkpStatusReg : RegDef := ⟨0xA0000, [], 32, [⟨.hkp_status_round, 0, 16⟩, ⟨.hkp_status_warn, 16, 1⟩,
  ⟨.hkp_status_limit, 17, 1⟩, ⟨.hkp_status_broken, 18, 1⟩, ⟨.hkp_status_sup_out, 19, 1⟩, ⟨.hkp_status_throttle, 20, 1⟩,
  ⟨.hkp_status_first_done, 21, 1⟩]⟩

def fltStatusReg : RegDef := ⟨0x20000, [], 32, [⟨.flt_status_ce, 0, 1⟩, ⟨.flt_status_uc, 1, 1⟩, ⟨.flt_status_ft, 2, 1⟩,
  ⟨.flt_status_errn, 8, 1⟩, ⟨.flt_status_lost, 16, 16⟩]⟩

def mbxCtrlReg : RegDef := ⟨0x10000, [⟨0x1000, 8, 1⟩], 32, [⟨.mbx_ctrl_en, 0, 1⟩, ⟨.mbx_ctrl_irq_thresh, 8, 8⟩,
  ⟨.mbx_ctrl_irq_time, 16, 16⟩]⟩

def ppsInDlyReg : RegDef := ⟨0x30304, [], 32, [⟨.dtm_pps_in_dly_dly, 0, 32⟩]⟩

def thrCfgReg : RegDef := ⟨0xA0004, [], 32, [⟨.hkp_thr_cfg_gain, 0, 10⟩]⟩

def srcCfgReg : RegDef := ⟨0x90120, [⟨0x4, 6, 1⟩], 32, [⟨.fbk_src_cfg_dark, 0, 4⟩, ⟨.fbk_src_cfg_heat, 4, 4⟩]⟩

def sqBaseReg : RegDef := ⟨0x10008, [⟨0x1000, 8, 1⟩], 64, [⟨.mbx_sq_base_base, 12, 52⟩]⟩

theorem regAt_hkpStatus : regAt 0xA0000 = some (hkpStatusReg, 0, 0) := rfl
theorem regAt_fltStatus : regAt 0x20000 = some (fltStatusReg, 0, 0) := rfl
theorem regAt_ppsInDly : regAt 0x30304 = some (ppsInDlyReg, 0, 0) := rfl
theorem regAt_thrCfg : regAt 0xA0004 = some (thrCfgReg, 0, 0) := rfl

theorem regAt_mbxCtrl (m : Fin 8) : regAt (0x10000 + 0x1000 * m.val + 0) = some (mbxCtrlReg, m.val, 0) := by
  revert m; decide

theorem regAt_srcCfg (k : Fin 6) : regAt (0x90120 + 4 * k.val) = some (srcCfgReg, k.val, 0) := by
  revert k; decide

theorem regAt_sqBase (m : Fin 8) : regAt (0x10000 + 0x1000 * m.val + 8) = some (sqBaseReg, m.val, 0) := by
  revert m; decide

theorem regAt_sqBase_high (m : Fin 8) : regAt (0x10000 + 0x1000 * m.val + 12) = some (sqBaseReg, m.val, 4) := by
  revert m; decide

/-! ## What a write of each of them does -/

/-- A write that covers its register and brings about nothing beside the stored values; `l` lists its fields that have no row of
their own. -/
theorem State.writeBits_stored {s t : State} {r : RegDef} {i off n v : Nat} {acc : List Fid} (l : List FieldPos)
    (hr : ∀ q ∈ r.fields, 0 < q.w ∧ q.lo + q.w ≤ n) (hl : r.fields.filter (fun q => !ownRow q.fid) = l)
    (hs : s.storeAll off i (l.map (FieldPos.whole v)) = (t, acc)) (ha : ∀ f ∈ actingFields, f ∉ acc) :
    s.writeBits r i off 0 n v = t := by
  subst hl
  unfold State.writeBits
  rw [touched_whole _ _ _ hr, hs]
  exact t.written_plain s off i ha

theorem State.writeBits_hkpStatus (s : State) (v : Nat) : s.writeBits hkpStatusReg 0 0xA0000 0 32 v = s := by
  have hro : ∀ q ∈ hkpStatusReg.fields, q.fid.accessAt 0 = .ro := by decide
  refine State.writeBits_stored (acc := hkpStatusReg.fields.map (fun q => q.fid)) hkpStatusReg.fields (by decide) (by decide)
    (State.storeAll_ro fun x hx => ?_) (by decide)
  obtain ⟨q, hq, rfl⟩ := List.mem_map.mp hx
  exact hro q hq

/-- A written 1 clears its bit, a written 0 leaves it. -/
theorem State.writeBits_fltStatus (s : State) (v : Nat) : s.writeBits fltStatusReg 0 0x20000 0 32 v =
    ((s.wr .flt_status_ce 0 (s.rd .flt_status_ce 0 - (s.rd .flt_status_ce 0 &&& (v / 2 ^ 0 % 2 ^ 1 &&& 2 ^ 1 - 1)))).wr
      .flt_status_uc 0 (s.rd .flt_status_uc 0 - (s.rd .flt_status_uc 0 &&& (v / 2 ^ 1 % 2 ^ 1 &&& 2 ^ 1 - 1)))).wr
      .flt_status_ft 0 (s.rd .flt_status_ft 0 - (s.rd .flt_status_ft 0 &&& (v / 2 ^ 2 % 2 ^ 1 &&& 2 ^ 1 - 1))) := by
  refine State.writeBits_stored (acc := [.flt_status_ce, .flt_status_uc, .flt_status_ft, .flt_status_errn, .flt_status_lost])
    fltStatusReg.fields (by decide) (by decide) ?_ (by decide)
  simp only [fltStatusReg, List.map_cons, List.map_nil]
  rw [State.storeAll_cons _ (State.storeField_w1c rfl), State.storeAll_cons _ (State.storeField_w1c rfl),
    State.storeAll_cons _ (State.storeField_w1c rfl), State.storeAll_cons _ (State.storeField_ro rfl),
    State.storeAll_cons _ (State.storeField_ro rfl)]
  simp [State.storeAll_eq, FieldPos.whole, State.rd_wr]

theorem State.writeBits_mbxCtrl (s : State) (m o v : Nat) : s.writeBits mbxCtrlReg m o 0 32 v =
    (s.wr .mbx_ctrl_irq_thresh m (v / 2 ^ 8)).wr .mbx_ctrl_irq_time m (v / 2 ^ 16) := by
  refine State.writeBits_stored (acc := [.mbx_ctrl_irq_thresh, .mbx_ctrl_irq_time])
    [⟨.mbx_ctrl_irq_thresh, 8, 8⟩, ⟨.mbx_ctrl_irq_time, 16, 16⟩] (by decide) (by decide) ?_ (by decide)
  exact State.storeAll_pair (State.storeField_whole_rw v rfl rfl fun _ => rfl)
    (State.storeField_whole_rw v rfl rfl fun _ => rfl)

theorem State.writeBits_ppsInDly (s : State) (o v : Nat) : s.writeBits ppsInDlyReg 0 o 0 32 v =
    s.wr .dtm_pps_in_dly_dly 0 (v / 2 ^ 0) := by
  refine State.writeBits_stored (acc := [.dtm_pps_in_dly_dly]) ppsInDlyReg.fields (by decide) (by decide) ?_ (by decide)
  exact State.storeAll_cons _ (State.storeField_whole_rws v rfl rfl)

theorem State.writeBits_thrCfg (s : State) (o v : Nat) (hc : s.covers o .hkp_thr_cfg_gain 0 = true) :
    s.writeBits thrCfgReg 0 o 0 32 v = s.wr .hkp_thr_cfg_gain 0 (v / 2 ^ 0) := by
  refine State.writeBits_stored (acc := [.hkp_thr_cfg_gain]) thrCfgReg.fields (by decide) (by decide) ?_ (by decide)
  exact State.storeAll_cons _ (State.storeField_whole_rwe v rfl rfl hc (by decide))

theorem State.writeBits_thrCfg_uncovered (s : State) (o v : Nat) (hc : s.covers o .hkp_thr_cfg_gain 0 = false) :
    s.writeBits thrCfgReg 0 o 0 32 v = s.noteDiscard o := by
  refine State.writeBits_stored (acc := []) thrCfgReg.fields (by decide) (by decide)
    (State.storeAll_refused ?_ (List.cons_ne_nil _ _)) (by decide)
  exact List.forall_mem_singleton.mpr (State.storeField_rwe_uncovered rfl hc)

theorem State.writeBits_srcCfg_closed (s : State) (k o v : Nat) (hs : s.fbk.session = false) :
    s.writeBits srcCfgReg k o 0 32 v = s.noteDiscard o := by
  refine State.writeBits_stored (acc := []) srcCfgReg.fields (by decide) (by decide)
    (State.storeAll_refused ?_ (List.cons_ne_nil _ _)) (by decide)
  exact List.forall_mem_cons.mpr ⟨State.storeField_rwp_closed rfl hs,
    List.forall_mem_singleton.mpr (State.storeField_rwp_closed rfl hs)⟩

/-- A safety parameter staged, and shown (R427). -/
def State.stageParam (s : State) (code i v : Nat) : State :=
  (s.modFbk (fun b => { b with staged := fbkPut b.staged code i v })).showCfg

@[simp] theorem State.stageParam_fbk (s : State) (code i v : Nat) :
    (s.stageParam code i v).fbk = { s.fbk with staged := fbkPut s.fbk.staged code i v } :=
  (State.showCfg_evolves (M := allBut 9) (.refl _) rfl).fbk rfl

theorem State.rd_wr_lt {s : State} {f : Fid} {i : Nat} (g : Fid) (j v : Nat) (h : s.rd f i < 2 ^ f.width) :
    (s.wr g j v).rd f i < 2 ^ f.width := by
  rw [State.rd_wr]
  split
  next e => exact e.1 ▸ Nat.mod_lt _ (Nat.two_pow_pos _)
  next => exact h

theorem foldl_rd_lt {α : Type} {f : Fid} {i : Nat} {g : State → α → State} (l : List α) {s : State}
    (hg : ∀ (t : State) (a : α), t.rd f i < 2 ^ f.width → (g t a).rd f i < 2 ^ f.width) (h : s.rd f i < 2 ^ f.width) :
    (l.foldl g s).rd f i < 2 ^ f.width := by
  induction l generalizing s with
  | nil => exact h
  | cons a l ih => exact ih (hg s a h)

/-- Showing the configuration leaves no field with a value beyond its width. -/
theorem State.showCfg_rd_lt {s : State} {f : Fid} {i : Nat} (h : s.rd f i < 2 ^ f.width) :
    s.showCfg.rd f i < 2 ^ f.width := by
  unfold State.showCfg
  iterate 3 apply State.rd_wr_lt
  refine foldl_rd_lt _ (fun t k ht => ?_) (foldl_rd_lt _ (fun t k ht => ?_) h)
  · iterate 2 apply State.rd_wr_lt
    exact ht
  · iterate 9 apply State.rd_wr_lt
    exact ht

/-- A safety field written whole under an open session is staged. -/
theorem State.storeField_whole_rwp {s : State} {off i v : Nat} {q : FieldPos} (h : q.fid.accessAt i = .rwp)
    (hs : s.fbk.session = true) (hr : s.rd q.fid i < 2 ^ q.w) (hv : rwpOk q.fid i (v / 2 ^ q.lo % 2 ^ q.w) = true) :
    s.storeField off i (q.whole v) = (s.stageParam (rwpCode q.fid) i (v / 2 ^ q.lo % 2 ^ q.w), true) := by
  have hm : (q.whole v).merge (s.rd (q.whole v).f i) = v / 2 ^ q.lo % 2 ^ q.w :=
    (FieldWrite.merge_full_of_lt (w := q.whole v) (n := q.w) rfl hr).trans (Nat.mod_mod _ _)
  rw [State.storeField_rwp_open (w := q.whole v) h hs (by rw [hm]; exact hv), hm]
  rfl

/-- Both masks of FBK_SRC_CFG staged under an open session. -/
theorem State.writeBits_srcCfg_open (s : State) {k : Nat} (o v : Nat) (hk : k < 6) (hs : s.fbk.session = true)
    (hd : s.rd .fbk_src_cfg_dark k < 16) (hh : s.rd .fbk_src_cfg_heat k < 16) :
    s.writeBits srcCfgReg k o 0 32 v = (s.stageParam 11 k (v / 2 ^ 0 % 2 ^ 4)).stageParam 12 k (v / 2 ^ 4 % 2 ^ 4) := by
  have hok : ∀ x, x < 16 → rwpOk .fbk_src_cfg_dark k x = true ∧ rwpOk .fbk_src_cfg_heat k x = true := fun x hx => by
    simp [rwpOk, fbkParamOk, rwpCode, fbkCount, fbkRange, hk, Nat.le_of_lt_succ hx]
  refine State.writeBits_stored (acc := [.fbk_src_cfg_dark, .fbk_src_cfg_heat]) srcCfgReg.fields (by decide) (by decide) ?_
    (by decide)
  have h1 := State.storeField_whole_rwp (off := o) (i := k) (v := v) (q := ⟨.fbk_src_cfg_dark, 0, 4⟩) rfl hs hd
    (hok _ (Nat.mod_lt _ (by decide))).1
  have h2 := State.storeField_whole_rwp (s := s.stageParam 11 k (v / 2 ^ 0 % 2 ^ 4)) (off := o) (i := k) (v := v)
    (q := ⟨.fbk_src_cfg_heat, 4, 4⟩) rfl (by rw [State.stageParam_fbk, hs]) (State.showCfg_rd_lt hh)
    (hok _ (Nat.mod_lt _ (by decide))).2
  exact State.storeAll_pair h1 h2

theorem State.mbxLocked_sqBase (s : State) (m v : Nat) : s.mbxLocked .mbx_sq_base_base m v = s.bit .mbx_ctrl_en m := by
  simp [State.mbxLocked]

theorem State.writeBits_sqBase (s : State) (m o v : Nat) (he : s.rd .mbx_ctrl_en m = 0) :
    s.writeBits sqBaseReg m o 0 64 v = s.wr .mbx_sq_base_base m (v / 2 ^ 12) := by
  refine State.writeBits_stored (acc := [.mbx_sq_base_base]) sqBaseReg.fields (by decide) (by decide) ?_ (by decide)
  refine State.storeAll_cons _ (State.storeField_whole_rw v rfl rfl fun x => ?_)
  rw [State.mbxLocked_sqBase, State.bit, he]
  rfl

theorem State.writeBits_sqBase_locked (s : State) (m o v : Nat) (he : s.rd .mbx_ctrl_en m ≠ 0) :
    s.writeBits sqBaseReg m o 0 64 v = s := by
  refine State.writeBits_stored (acc := [.mbx_sq_base_base]) sqBaseReg.fields (by decide) (by decide) ?_ (by decide)
  refine State.storeAll_cons _ (State.storeField_rw_locked rfl ?_)
  exact (s.mbxLocked_sqBase m _).trans (bne_iff_ne.mpr he)

/-! ## A 64-bit register in one write and in two (R369) -/

theorem sqBaseReg_width : sqBaseReg.width = 64 := rfl

theorem State.putLow_lows (s : State) (off : Nat) (v : Option Nat) : Tbl.get none (s.putLow off v).host.lows off = v :=
  Tbl.get_set_same _ _ _ _

theorem State.putLow_rd (s : State) (off : Nat) (v : Option Nat) (f : Fid) (i : Nat) : (s.putLow off v).rd f i = s.rd f i := rfl

theorem State.write64_sqBase (s : State) (m : Fin 8) (v : Nat) : s.write64 (0x10000 + 0x1000 * m.val + 8) v =
    (s.putLow (0x10000 + 0x1000 * m.val + 8) none).writeBits sqBaseReg m.val (0x10000 + 0x1000 * m.val + 8) 0 64 v := by
  simp only [State.write64, regAt_sqBase, sqBaseReg_width, if_true]

theorem State.write32_sqBase_low (s : State) (m : Fin 8) (v : Nat) :
    s.write32 (0x10000 + 0x1000 * m.val + 8) v = s.putLow (0x10000 + 0x1000 * m.val + 8) (some v) := by
  simp only [State.write32, regAt_sqBase, sqBaseReg_width, if_true]

/-- The high half takes effect with the low half that was held. -/
theorem State.write32_sqBase_high {s : State} {m : Fin 8} {lo : Nat} (v : Nat)
    (h : Tbl.get none s.host.lows (0x10000 + 0x1000 * m.val + 8) = some lo) : s.write32 (0x10000 + 0x1000 * m.val + 12) v =
    (s.putLow (0x10000 + 0x1000 * m.val + 8) none).writeBits sqBaseReg m.val (0x10000 + 0x1000 * m.val + 8) 0 64
      (lo + v * 2 ^ 32) := by
  have ho : 0x10000 + 0x1000 * m.val + 12 - 4 = 0x10000 + 0x1000 * m.val + 8 := by omega
  simp only [State.write32, regAt_sqBase_high, sqBaseReg_width, ho, h, if_true, show ¬ (4 = 0) by decide, if_false]

/-- MBX_SQ_BASE written with EN = 0 reads its bits of the value. -/
theorem State.rd_writeBits_sqBase (s : State) (m o v : Nat) (he : s.rd .mbx_ctrl_en m = 0) (hv : v < 2 ^ 64) :
    (s.writeBits sqBaseReg m o 0 64 v).rd .mbx_sq_base_base m = v / 4096 := by
  rw [State.writeBits_sqBase s m o v he, State.rd_wr_same]
  exact Nat.mod_eq_of_lt (show v / 2 ^ 12 < 2 ^ 52 by omega)

/-! ## BAR2 (R371) -/

theorem State.putSlot_slot_same (s : State) (k : Nat) (x : Slot) : (s.putSlot k x).slot k = x := Tbl.get_set_same _ _ _ _
theorem State.putSlot_slot_ne (s : State) {k j : Nat} (x : Slot) (h : j ≠ k) : (s.putSlot k x).slot j = s.slot j :=
  Tbl.get_set_ne _ _ _ h

theorem exec_bar2Write (off width v : Nat) (s : State) : exec (.bar2Write off width v) s = execBar2Write off width v s := rfl

/-- A BAR2 write that R371 does not open. -/
theorem exec_bar2Write_closed {off width : Nat} (v : Nat) {s : State}
    (h : s.bar2Open = false ∨ 0x800000 ≤ off ∨ ¬ (width = 32 ∧ off % 4 = 0 ∨ width = 64 ∧ off % 8 = 0)) :
    exec (.bar2Write off width v) s = .next s := by
  rw [exec_bar2Write, execBar2Write]
  dsimp only
  rw [if_pos]
  rcases h with h | h | h
  · exact .inr (.inr (by simp [h]))
  · exact .inr (.inl h)
  · exact .inl (by simpa [← Decidable.not_and_iff_not_or_not] using h)

/-- A slot of the library with word `j` written: its permutation and its GEN change. -/
def Slot.written (x : Slot) (j v : Nat) : Slot :=
  { x with perm := Tbl.set 0 x.perm j v, gen := (x.gen + 1) % 2 ^ 32 }

theorem exec_bar2Write_word {off : Nat} (v : Nat) {s : State} (ho : s.bar2Open = true) (ha : off % 4 = 0) (hl : off < 0x800000) :
    ∃ t, exec (.bar2Write off 32 v) s = .next t ∧ t = { s with trv := t.trv } ∧
      t.slot (off / 2048) = (s.slot (off / 2048)).written (off % 2048 / 4) (v % 2 ^ 32) ∧
      ∀ k, k ≠ off / 2048 → t.slot k = s.slot k := by
  rw [exec_bar2Write, execBar2Write]
  dsimp only
  rw [if_neg (by simp [ho, ha]; omega)]
  refine ⟨_, rfl, rfl, ?_, fun k hk => ?_⟩
  · rw [State.putSlot_slot_same]
    simp only [show ¬ (32 = 64) by decide, if_false, State.slotWord, State.putSlot_slot_same]
    rfl
  · rw [State.putSlot_slot_ne _ _ hk]
    simp only [show ¬ (32 = 64) by decide, if_false, State.slotWord, State.putSlot_slot_ne _ _ hk]

/-! ## O48 -/

theorem State.noteDiscard_eq (s : State) (off : Nat) : s.noteDiscard off = { s with flt :=
    { s.flt with reports := s.flt.reports ++ [{ src := 0x39, objKind := 11, obj := off, mbx := 0 }] } } := rfl

/-- A bit written 1 to clear: of a value of one bit, what is left. -/
theorem w1c_bit {x : Nat} (hx : x < 2) (v k : Nat) :
    (x - (x &&& (v / 2 ^ k % 2 ^ 1 &&& 2 ^ 1 - 1))) % 2 ^ 1 = if v.testBit k then 0 else x := by
  rw [Nat.and_two_pow_sub_one_eq_mod, pow_one, Nat.mod_mod, ← Nat.toNat_testBit]
  interval_cases x <;> cases v.testBit k <;> rfl

theorem State.discardAccess_none {s : State} {o : Nat} (h : regAt o = none) : s.discardAccess o = s := by
  simp only [State.discardAccess, h]

theorem State.discardAccess_some {s : State} {o i b : Nat} {r : RegDef} (h : regAt o = some (r, i, b)) : s.discardAccess o =
    if r.fields.any (fun q => q.fid.accessAt i == .rwe || q.fid.accessAt i == .rwp) then s.noteDiscard (o - b) else s := by
  simp only [State.discardAccess, h]

/-- A 32-bit write of the PF at an offset that no register has. -/
theorem exec_registerWrite_unassigned {off : Nat} (v : Nat) (s : State) (h : regAt off = none) :
    exec (.registerWrite 0 off 32 v) s = .next s := by
  by_cases hp : 0x11000 ≤ off ∧ off < 0x18000
  · exact exec_registerWrite_closed _ _ _ (by simp [pfOffset, hp])
  · by_cases ha : off % 4 = 0
    · rw [exec_registerWrite_word v s (pfOffset_pf hp) ha, State.write32, h]
    · rw [exec_registerWrite_unaligned v s (pfOffset_pf hp) (by omega), State.discardAccess_none h]

/-- A 32-bit write of the PF at the offset of a 32-bit register outside the mailbox pages. -/
theorem exec_registerWrite_pf {off i : Nat} {r : RegDef} (v : Nat) (s : State) (hp : ¬ (0x11000 ≤ off ∧ off < 0x18000))
    (ha : off % 4 = 0) (h : regAt off = some (r, i, 0)) (hw : r.width = 32) :
    exec (.registerWrite 0 off 32 v) s = .next (s.writeBits r i off 0 32 v) := by
  rw [exec_registerWrite_word v s (pfOffset_pf hp) ha, State.write32_word s v h hw]

theorem exec_registerWrite_mbxCtrl (fn : Fin 8) (v : Nat) (s : State) :
    exec (.registerWrite fn (if fn = 0 then 0x10000 else 0) 32 v) s =
      .next ((s.wr .mbx_ctrl_irq_thresh fn.val (v / 2 ^ 8)).wr .mbx_ctrl_irq_time fn.val (v / 2 ^ 16)) := by
  have ha : (if fn = 0 then 0x10000 else 0) % 4 = 0 := by split <;> rfl
  rw [exec_registerWrite_word v s (pfOffset_mailbox fn (x := 0) (by decide)) ha,
    State.write32_word s v (regAt_mbxCtrl fn) rfl, State.writeBits_mbxCtrl]

theorem exec_registerWrite_srcCfg (k : Fin 6) (v : Nat) (s : State) :
    exec (.registerWrite 0 (0x90120 + 4 * k.val) 32 v) s =
      .next (s.writeBits srcCfgReg k.val (0x90120 + 4 * k.val) 0 32 v) :=
  exec_registerWrite_pf v s (by omega) (by omega) (regAt_srcCfg k) rfl

theorem fbkGet_fbkPut_same (c : Tbl Nat) (code i v : Nat) : fbkGet (fbkPut c code i v) code i = v := Tbl.get_set_same _ _ _ _

theorem fbkGet_fbkPut_ne (c : Tbl Nat) {code i code' i' : Nat} (v : Nat) (h : 256 * code' + i' ≠ 256 * code + i) :
    fbkGet (fbkPut c code i v) code' i' = fbkGet c code' i' := by
  unfold fbkGet fbkPut
  rw [Tbl.get_set _ _ _ _ _ _ (fun e => absurd e h), if_neg h]

theorem exec_registerWrite_sqBase (fn : Fin 8) (v : Nat) (s : State) :
    exec (.registerWrite fn (if fn = 0 then 0x10008 else 8) 64 v) s =
      .next ((s.putLow (0x10000 + 0x1000 * fn.val + 8) none).writeBits sqBaseReg fn.val (0x10000 + 0x1000 * fn.val + 8) 0 64 v) := by
  have ha : (if fn = 0 then 0x10008 else 8) % 8 = 0 := by split <;> rfl
  rw [exec_registerWrite_long v s (pfOffset_mailbox fn (x := 8) (by decide)) ha, State.write64_sqBase]

/-- MBX_SQ_BASE with EN = 0 takes a 64-bit write at once. -/
theorem sqBase_long {fn : Fin 8} (v : Nat) (s : State) (he : s.rd .mbx_ctrl_en fn = 0) (hv : v < 2 ^ 64) :
    ∃ t, exec (.registerWrite fn (if fn = 0 then 0x10008 else 8) 64 v) s = .next t ∧ t.rd .mbx_sq_base_base fn = v / 4096 :=
  ⟨_, exec_registerWrite_sqBase fn v s, State.rd_writeBits_sqBase _ _ _ _ (by rwa [State.putLow_rd]) hv⟩

/-- With EN = 1 it keeps its value. -/
theorem sqBase_long_locked {fn : Fin 8} (v : Nat) (s : State) (he : s.rd .mbx_ctrl_en fn ≠ 0) :
    ∃ t, exec (.registerWrite fn (if fn = 0 then 0x10008 else 8) 64 v) s = .next t ∧ t.regs = s.regs :=
  ⟨_, exec_registerWrite_sqBase fn v s, by rw [State.writeBits_sqBase_locked _ _ _ v (by rwa [State.putLow_rd])]; rfl⟩

/-- With EN = 0 it takes two 32-bit writes at the write of the high half. -/
theorem sqBase_two_words {fn : Fin 8} (v : Nat) (s : State) (he : s.rd .mbx_ctrl_en fn = 0) (hv : v < 2 ^ 64) :
    ∃ t u, exec (.registerWrite fn (if fn = 0 then 0x10008 else 8) 32 (v % 2 ^ 32)) s = .next t ∧ t.regs = s.regs ∧
      exec (.registerWrite fn ((if fn = 0 then 0x10008 else 8) + 4) 32 (v / 2 ^ 32)) t = .next u ∧
      u.rd .mbx_sq_base_base fn = v / 4096 := by
  have ha : (if fn = 0 then 0x10008 else 8) % 4 = 0 := by split <;> rfl
  have ho : (if fn = 0 then 0x10008 else 8) + 4 = if fn = 0 then 0x10000 + 12 else 12 := by split <;> rfl
  have hlow := exec_registerWrite_word (v % 2 ^ 32) s (pfOffset_mailbox fn (x := 8) (by decide)) ha
  rw [State.write32_sqBase_low] at hlow
  have hhigh := exec_registerWrite_word (v / 2 ^ 32) (s.putLow (0x10000 + 0x1000 * fn.val + 8) (some (v % 2 ^ 32)))
    (pfOffset_mailbox fn (x := 12) (by decide)) (by split <;> rfl)
  rw [State.write32_sqBase_high _ (State.putLow_lows _ _ _), Nat.mod_add_div'] at hhigh
  exact ⟨_, _, hlow, rfl, ho ▸ hhigh, State.rd_writeBits_sqBase _ _ _ _ (by rwa [State.putLow_rd, State.putLow_rd]) hv⟩

/-- Settles O48: by the rule of each access type on its register (R9, R10, R12, R369, R371, R373). -/
theorem registerAndBar2WritesRun : Obligations.RegisterAndBar2WritesRun := by
  unfold Obligations.RegisterAndBar2WritesRun
  refine ⟨fun fn off width v s => ⟨fun o ho ha => ⟨fun h => ?_, fun r i b h => ?_⟩, ?_, ?_, ?_⟩, fun v s => ?_,
    fun v s hce huc hft => ?_, fun fn v s => ?_, fun v s => ?_, fun v s => ⟨fun hc => ?_, fun hc => ?_⟩,
    fun k v s => ⟨fun hs => ?_, fun hs hd hh => ?_⟩, fun fn off v s ho hv => ?_, fun off v s hu ha hl => ?_,
    fun off width v s h => ?_⟩
  · rw [exec_registerWrite_unaligned v s ho ha, State.discardAccess_none h]
  · rw [exec_registerWrite_unaligned v s ho ha, State.discardAccess_some h]
  · rintro rfl h1 h2
    exact exec_registerWrite_closed _ _ _ (by simp [pfOffset, h1, h2])
  · intro h0 h1
    have hv : fn.val ≠ 0 := fun e => h0 (Fin.ext e)
    exact exec_registerWrite_closed _ _ _ (by simp [pfOffset, hv, h1])
  · rintro rfl h
    exact exec_registerWrite_unassigned v s h
  · rw [exec_registerWrite_pf v s (by decide) rfl regAt_hkpStatus rfl, State.writeBits_hkpStatus]
  · refine ⟨_, exec_registerWrite_pf v s (by decide) rfl regAt_fltStatus rfl, ?_⟩
    rw [State.writeBits_fltStatus]
    refine ⟨rfl, ?_, ?_, ?_, fun f i hn => ?_⟩
    · rw [← w1c_bit hce]; simp [State.rd_wr]; rfl
    · rw [← w1c_bit huc]; simp [State.rd_wr]; rfl
    · rw [← w1c_bit hft, State.rd_wr_same]; rfl
    · rw [State.rd_wr_ne, State.rd_wr_ne, State.rd_wr_ne] <;> tauto
  · refine ⟨_, exec_registerWrite_mbxCtrl fn v s, rfl, ?_, ?_, fun f i hn => ?_⟩
    · rw [State.rd_wr_ne _ _ (by simp), State.rd_wr_same]; rfl
    · rw [State.rd_wr_same]; rfl
    · rw [State.rd_wr_ne, State.rd_wr_ne] <;> tauto
  · refine ⟨_, exec_registerWrite_pf v s (by decide) rfl regAt_ppsInDly rfl, ?_⟩
    rw [State.writeBits_ppsInDly]
    refine ⟨rfl, ?_, fun f i hn => State.rd_wr_ne _ _ hn⟩
    rw [State.rd_wr_same, pow_zero, Nat.div_one]; rfl
  · refine ⟨_, exec_registerWrite_pf v s (by decide) rfl regAt_thrCfg rfl, ?_⟩
    rw [State.writeBits_thrCfg s _ v hc]
    refine ⟨rfl, ?_, fun f i hn => State.rd_wr_ne _ _ hn⟩
    rw [State.rd_wr_same, pow_zero, Nat.div_one]; rfl
  · rw [exec_registerWrite_pf v s (by decide) rfl regAt_thrCfg rfl, State.writeBits_thrCfg_uncovered s _ v hc]
    rfl
  · rw [exec_registerWrite_srcCfg, State.writeBits_srcCfg_closed s _ _ v hs]
    rfl
  · refine ⟨_, exec_registerWrite_srcCfg k v s, ?_⟩
    rw [State.writeBits_srcCfg_open s _ v k.isLt hs hd hh, State.stageParam_fbk, State.stageParam_fbk, fbkGet_fbkPut_same,
      fbkGet_fbkPut_ne _ _ (by omega), fbkGet_fbkPut_same, pow_zero, Nat.div_one]
    exact ⟨rfl, rfl, rfl⟩
  · subst ho
    exact ⟨fun he => ⟨sqBase_long v s he hv, sqBase_two_words v s he hv⟩, sqBase_long_locked v s⟩
  · obtain ⟨t, ht, htrv, hk, hne⟩ := exec_bar2Write_word v (by simpa [State.bar2Open] using hu) ha hl
    refine ⟨t, ht, htrv, ?_, fun j hj => ?_, ?_, hne⟩ <;> rw [hk]
    · exact Tbl.get_set_same _ _ _ _
    · exact Tbl.get_set_ne _ _ _ hj
    · rfl
  · exact exec_bar2Write_closed v (h.imp_left fun hu => by simp [State.bar2Open, hu.1, hu.2])

end Sys2Proof.Machine

/-! PROOFS. Clearings (O25, R250 to R261, R279): what the end of Clearings leaves of the queue, of the chain-scoped Clearings and of
completions that are due; what becomes of a chain-scoped Clearing as its participants answer; the queue's last place; and what
execution leaves of each element's target. -/

namespace Sys2Proof.Machine

set_option exponentiation.threshold 2048

/-! ## Operations that end Clearings and begin none -/

/-- From `s` to `t` Clearings at most end: every queued one is of a job queued before, every chain-scoped one has the number of one
before, and a completion that was due stays due with its result. -/
structure State.EndsOnly (s t : State) : Prop where
  jobs : ∀ q ∈ t.trv.queue, ∃ p ∈ s.trv.queue, q.job = p.job
  chains : ∀ x ∈ t.trv.chains, ∃ y ∈ s.trv.chains, x.job.clrId = y.job.clrId
  due : ∀ m, ∀ f ∈ (s.mb m).flight, f.comp.isSome = true → f ∈ (t.mb m).flight

theorem State.EndsOnly.refl (s : State) : s.EndsOnly s :=
  ⟨fun q hq => ⟨q, hq, rfl⟩, fun x hx => ⟨x, hx, rfl⟩, fun _ _ hf _ => hf⟩

theorem State.EndsOnly.trans {s t u : State} (h : s.EndsOnly t) (k : t.EndsOnly u) : s.EndsOnly u where
  jobs q hq := by
    obtain ⟨p, hp, hqp⟩ := k.jobs q hq
    obtain ⟨p', hp', hpp⟩ := h.jobs p hp
    exact ⟨p', hp', hqp.trans hpp⟩
  chains x hx := by
    obtain ⟨y, hy, hxy⟩ := k.chains x hx
    obtain ⟨y', hy', hyy⟩ := h.chains y hy
    exact ⟨y', hy', hxy.trans hyy⟩
  due m f hf hc := k.due m f (h.due m f hf hc) hc

/-- The mask that names everything but Traverse and the mailboxes. -/
def besideWork : Nat := fullMask - 2 ^ 2 - 2 ^ 4

theorem State.EndsOnly.of_evolves {s t : State} (h : Evolves besideWork s t) : s.EndsOnly t where
  jobs := by rw [h.trv rfl]; exact (State.EndsOnly.refl s).jobs
  chains := by rw [h.trv rfl]; exact (State.EndsOnly.refl s).chains
  due m f hf _ := by rwa [State.mb, h.mbx rfl]

/-- A change of Traverse alone. -/
theorem State.modTrv_endsOnly (s : State) (g : TrvSt → TrvSt) (hj : ∀ q ∈ (g s.trv).queue, ∃ p ∈ s.trv.queue, q.job = p.job)
    (hc : ∀ x ∈ (g s.trv).chains, ∃ y ∈ s.trv.chains, x.job.clrId = y.job.clrId) : s.EndsOnly (s.modTrv g) :=
  ⟨hj, hc, fun _ _ hf _ => hf⟩

/-- A change of a mailbox that keeps the commands whose completion is due. -/
theorem State.modMb_endsOnly (s : State) (m : Nat) (g : Mbx → Mbx)
    (hg : ∀ b, ∀ f ∈ b.flight, f.comp.isSome = true → f ∈ (g b).flight) : s.EndsOnly (s.modMb m g) where
  jobs := (State.EndsOnly.refl s).jobs
  chains := (State.EndsOnly.refl s).chains
  due n f hf hc := by
    by_cases hn : n = m
    · subst hn; rw [State.modMb_mb_same]; exact hg _ f hf hc
    · rwa [State.modMb_mb_ne _ _ hn]

theorem State.finish_endsOnly (s : State) (o : Owner) (c : Completion) : s.EndsOnly (s.finish o c) :=
  s.modMb_endsOnly _ _ fun _ f hf hc => List.mem_map.mpr ⟨f, hf, if_neg fun h => by simp [h.2] at hc⟩

theorem State.finishOpt_endsOnly (s : State) (o : Option Owner) (c : Completion) : s.EndsOnly (s.finishOpt o c) := by
  unfold State.finishOpt
  split
  · exact s.finish_endsOnly _ _
  · exact .refl s

/-- The command in flight that a header not yet in flight enters (R380). -/
def State.newFlight (s : State) (h : Hdr) : Flight := { id := s.host.nextId, tag := h.tag, imm := h.imm, remote := h.remote }

theorem State.entered_mb_same {s : State} {h : Hdr} (hn : s.flightOf h = none) :
    (s.entered h).mb h.mbx = { s.mb h.mbx with flight := (s.mb h.mbx).flight ++ [s.newFlight h] } := by
  unfold State.entered
  rw [hn]
  exact State.modMb_mb_same s h.mbx fun m => { m with flight := m.flight ++ [s.newFlight h] }

theorem State.entered_of_flightOf {s : State} {h : Hdr} {f : Flight} (hf : s.flightOf h = some f) : s.entered h = s := by
  unfold State.entered
  rw [hf]

theorem State.entered_flight (s : State) (h : Hdr) (m : Nat) : (s.mb m).flight ⊆ ((s.entered h).mb m).flight := by
  cases hf : s.flightOf h with
  | some f => rw [State.entered_of_flightOf hf]; exact List.Subset.refl _
  | none =>
    by_cases hm : m = h.mbx
    · subst hm
      rw [State.entered_mb_same hf]
      exact List.subset_append_left _ _
    · rw [(s.entered_mbxBut h).1 m hm]
      exact List.Subset.refl _

theorem State.entered_endsOnly (s : State) (h : Hdr) : s.EndsOnly (s.entered h) where
  jobs := by rw [State.entered_trv]; exact (State.EndsOnly.refl s).jobs
  chains := by rw [State.entered_trv]; exact (State.EndsOnly.refl s).chains
  due m _ hf _ := s.entered_flight h m hf

theorem State.status_endsOnly (s : State) (h : Hdr) (st : Status) : s.EndsOnly (s.status h st) :=
  (s.entered_endsOnly h).trans (State.finish_endsOnly _ _ _)

theorem State.sendClr_endsOnly (s : State) (dst : Nat) (m : ClrMsg) : s.EndsOnly (s.sendClr dst m) :=
  .of_evolves (State.sendClr_evolves _ _ (.refl s) rfl)

theorem State.finishChain_endsOnly (s : State) (x : ChainClr) (st : Status) (disp : Nat) :
    s.EndsOnly (s.finishChain x st disp) := by
  refine .trans (s.modTrv_endsOnly (fun t => { t with
    chains := t.chains.filter (fun y => y.job.clrId != x.job.clrId)
    ended := if disp = 1 then (x :: t.ended).take 16 else t.ended }) (fun q hq => ⟨q, hq, rfl⟩)
      (fun y hy => ⟨y, (List.mem_filter.mp hy).1, rfl⟩)) ?_
  exact .trans (.of_evolves (State.writeParts_evolves _ (.refl _) rfl)) (State.finishOpt_endsOnly _ _ _)

theorem State.chainTry_endsOnly (s : State) (x : ChainClr) : s.EndsOnly (s.chainTry x) := by
  unfold State.chainTry
  split
  · exact s.finishChain_endsOnly _ _ _
  · refine s.modTrv_endsOnly _ (fun q hq => ⟨q, hq, rfl⟩) fun z hz => ?_
    obtain ⟨y, hy, rfl⟩ := List.mem_map.mp hz
    exact ⟨y, hy, by split <;> simp [*]⟩

theorem State.ownRejected_endsOnly (s : State) (x : ChainClr) (st : Status) : s.EndsOnly (s.ownRejected x st) := by
  unfold State.ownRejected
  dsimp only
  split
  · exact .trans (.of_evolves (State.sendAborts_evolves _ (.refl s) rfl)) (State.finishChain_endsOnly _ _ _ _)
  · exact s.chainTry_endsOnly _

theorem State.unqueue_endsOnly (s : State) (c : Clearing) : s.EndsOnly (s.unqueue c) :=
  s.modTrv_endsOnly _ (fun q hq => ⟨q, (List.mem_filter.mp hq).1, rfl⟩) fun x hx => ⟨x, hx, rfl⟩

theorem State.noteClr_endsOnly (s : State) (c : Clearing) (state : Nat) : s.EndsOnly (s.noteClr c state) :=
  ⟨fun q hq => ⟨q, hq, rfl⟩, fun x hx => ⟨x, hx, rfl⟩, fun _ _ hf _ => hf⟩

theorem State.showQueue_endsOnly (s : State) : s.EndsOnly s.showQueue := .of_evolves (State.showQueue_evolves (.refl s) rfl)

/-- A cancelled Clearing out of the queue, its record noted; its command, or originator, not yet answered. -/
def State.cancelled (s : State) (c : Clearing) : State := ((s.unqueue c).noteClr c 3).showQueue

theorem State.cancelled_endsOnly (s : State) (c : Clearing) : s.EndsOnly (s.cancelled c) :=
  ((s.unqueue_endsOnly c).trans (State.noteClr_endsOnly _ c 3)).trans (State.showQueue_endsOnly _)

theorem State.cancelClr_endsOnly (s : State) (c : Clearing) (st : Status) (disp : Nat) :
    s.EndsOnly (s.cancelClr c st disp) := by
  refine (s.cancelled_endsOnly c).trans ?_
  unfold State.cancelClr
  dsimp only
  split
  · split
    · split
      · exact State.ownRejected_endsOnly _ _ _
      · exact .refl _
    · exact State.sendClr_endsOnly _ _ _
  · exact State.finishOpt_endsOnly _ _ _

/-- A Clearing formed again is of the same job. -/
theorem State.reform_job {s : State} {c d : Clearing} (h : s.reform c = some d) : d.job = c.job := by
  unfold State.reform at h
  dsimp only at h
  split at h
  · split at h
    · cases h
    · cases h; rfl
  · cases h; rfl

/-- Recomputation forms queued Clearings again or cancels them (R252). -/
theorem State.recomputeFrom_endsOnly (ids : List Nat) (s : State) (ns : Nat) : s.EndsOnly (s.recomputeFrom ns ids) := by
  induction ids generalizing s ns with
  | nil => exact .refl s
  | cons i ids ih =>
    have hcancel (c : Clearing) (st : Status) : s.EndsOnly (s.useFree.cancelClr c st 2).countCancel :=
      .trans (.trans (.of_evolves (State.useFree_evolves (.refl s) rfl)) (State.cancelClr_endsOnly _ _ _ _))
        (.of_evolves (State.countCancel_evolves (.refl _) rfl))
    unfold State.recomputeFrom
    split
    · exact ih s ns
    next c hc =>
      refine .trans ?_ (ih _ _)
      split
      · exact hcancel c .busy
      · split
        next d hd =>
          refine ⟨fun q hq => ?_, fun x hx => ⟨x, hx, rfl⟩, fun _ _ hf _ => hf⟩
          obtain ⟨p, hp, rfl⟩ := List.mem_map.mp hq
          split
          · exact ⟨c, List.mem_of_find?_eq_some hc, State.reform_job hd⟩
          · exact ⟨p, hp, rfl⟩
        · exact hcancel c .solveBlocked

theorem State.cancelAnd_endsOnly (s : State) (c : Clearing) (st : Status) (disp : Nat) :
    s.EndsOnly (s.cancelAnd c st disp) :=
  (s.cancelClr_endsOnly c st disp).trans (State.recomputeFrom_endsOnly _ _ _)

theorem State.dropJobs_endsOnly (s : State) (p : Job → Bool) : s.EndsOnly (s.dropJobs p) :=
  .trans (s.modTrv_endsOnly _ (fun q hq => ⟨q, hq, rfl⟩) fun x hx => ⟨x, hx, rfl⟩) (State.showQueue_endsOnly _)

/-! ## Completions (R384) -/

/-- A completion that has fallen due stays due while Clearings end. -/
theorem State.Concludes.trans {s t u : State} {o : Owner} {c : Completion} (h : s.Concludes t o c) (k : t.EndsOnly u) :
    s.Concludes u o c :=
  fun f hf hi hc => k.due _ _ (h f hf hi hc) rfl

/-- An operation concluded from a state that holds every command in flight of an earlier one. -/
theorem State.Concludes.of_subset {s t u : State} {o : Owner} {c : Completion} (h : t.Concludes u o c)
    (hs : (s.mb o.mbx).flight ⊆ (t.mb o.mbx).flight) : s.Concludes u o c :=
  fun f hf hi hc => h f (hs hf) hi hc

theorem State.Concludes.of_mbx {s t u : State} {o : Owner} {c : Completion} (h : t.Concludes u o c) (hs : t.mbx = s.mbx) :
    s.Concludes u o c :=
  h.of_subset (by rw [State.mb, State.mb, hs]; exact List.Subset.refl _)

theorem State.finishOpt_concludes (s : State) {w : Option Owner} {o : Owner} (c : Completion) (h : w = some o) :
    s.Concludes (s.finishOpt w c) o c := by
  subst h
  exact s.finish_concludes o c

/-- A local Clearing that is cancelled completes its command (R257). -/
theorem State.cancelAnd_concludes (s : State) {c : Clearing} {o : Owner} (st : Status) (disp : Nat) (hn : c.job.origin = none)
    (ho : c.job.owner = some o) : s.Concludes (s.cancelAnd c st disp) o (c.completion st disp false) := by
  refine .trans ?_ (State.recomputeFrom_endsOnly _ _ _)
  have he : s.cancelClr c st disp = (s.cancelled c).finishOpt c.job.owner (c.completion st disp false) := by
    unfold State.cancelClr
    dsimp only
    rw [hn]
    rfl
  rw [he]
  exact (State.finishOpt_concludes _ _ ho).of_mbx rfl

/-- A cancelled Clearing, and any of its number, has left the queue (R257). -/
theorem State.cancelAnd_queue (s : State) (c : Clearing) (st : Status) (disp : Nat) :
    ∀ q ∈ (s.cancelAnd c st disp).trv.queue, q.job.clrId ≠ c.job.clrId := by
  intro q hq
  obtain ⟨p, hp, hqp⟩ := (State.recomputeFrom_endsOnly _ _ _).jobs q hq
  rw [s.cancelClr_workKept c st disp] at hp
  rw [hqp]
  simpa using (List.mem_filter.mp hp).2

/-! ## Chain-scoped Clearings at their originator (R260, R261) -/

theorem State.chainOf_eq_none (s : State) (id : Nat) : s.chainOf id = none ↔ ∀ x ∈ s.trv.chains, x.job.clrId ≠ id := by
  simp [State.chainOf]

theorem State.chainOf_clrId {s : State} {id : Nat} {x : ChainClr} (h : s.chainOf id = some x) : x.job.clrId = id := by
  simpa using List.find?_some h

/-- A number that no chain-scoped Clearing has, none has while Clearings end. -/
theorem State.EndsOnly.chainOf_none {s t : State} {id : Nat} (h : s.EndsOnly t) (hs : s.chainOf id = none) :
    t.chainOf id = none := by
  rw [State.chainOf_eq_none] at hs ⊢
  intro x hx
  obtain ⟨y, hy, hxy⟩ := h.chains x hx
  exact hxy ▸ hs y hy

/-- The chain-scoped Clearings changed one by one, each under its number. -/
theorem State.chainOf_map (s : State) (id : Nat) {g : ChainClr → ChainClr} (hg : ∀ x, (g x).job.clrId = x.job.clrId) :
    (s.modTrv (fun t => { t with chains := t.chains.map g })).chainOf id = (s.chainOf id).map g := by
  have hp : (fun x : ChainClr => x.job.clrId == id) ∘ g = fun x => x.job.clrId == id := funext fun x => by simp [hg]
  unfold State.chainOf
  rw [State.modTrv_trv, List.find?_map, hp]

/-- While a participant still has to answer, its entry is noted. -/
theorem State.chainTry_noted {s : State} {id : Nat} {x y : ChainClr} (h : s.chainOf id = some x) (hj : y.job = x.job)
    (hy : y.allIn = false) : (s.chainTry y).chainOf id = some y := by
  have hid := State.chainOf_clrId h
  have hg : ∀ z : ChainClr, (if z.job.clrId = y.job.clrId then y else z).job.clrId = z.job.clrId := by
    intro z; split <;> simp [*]
  rw [State.chainTry, if_neg (by simp [hy]), s.chainOf_map id hg, h]
  simp [hj]

/-- A chain-scoped Clearing that completes is gone, and its command has its completion. -/
theorem State.finishChain_ends (s : State) (x : ChainClr) (st : Status) (disp : Nat) :
    (s.finishChain x st disp).chainOf x.job.clrId = none ∧
      ∀ o, x.job.owner = some o → s.Concludes (s.finishChain x st disp) o (x.completion st disp) := by
  unfold State.finishChain
  dsimp only
  generalize hu : s.modTrv _ = u
  have hnone : u.chainOf x.job.clrId = none := by
    subst hu
    rw [State.chainOf_eq_none]
    intro y hy
    simpa using (List.mem_filter.mp hy).2
  have hparts := State.writeParts_evolves (M := besideWork) x (.refl u) rfl
  refine ⟨?_, fun o ho => ?_⟩
  · exact ((State.EndsOnly.of_evolves hparts).trans (State.finishOpt_endsOnly _ _ _)).chainOf_none hnone
  · refine (State.finishOpt_concludes _ _ ho).of_mbx ((hparts.mbx rfl).trans ?_)
    subst hu
    rfl

/-- The last report completes the Clearing. -/
theorem State.chainTry_ends (s : State) {x : ChainClr} (h : x.allIn = true) :
    (s.chainTry x).chainOf x.job.clrId = none ∧ ∀ o, x.job.owner = some o →
      s.Concludes (s.chainTry x) o (x.completion (if x.split then .alreadyCommitted else .ok) 0) := by
  rw [State.chainTry, if_pos h]
  exact s.finishChain_ends x _ 0

/-- An aborted chain-scoped Clearing is gone, and its command has its completion. -/
theorem State.abortChain_ends (s : State) (x : ChainClr) (st : Status) (disp : Nat) :
    (s.abortChain x st disp).chainOf x.job.clrId = none ∧
      ∀ o, x.job.owner = some o → s.Concludes (s.abortChain x st disp) o (x.completion st disp) := by
  have hsend := State.sendAborts_evolves (M := besideWork) x (.refl s) rfl
  obtain ⟨hnone, hdue⟩ := s.sendAborts x |>.finishChain_ends x st disp
  have hrest : ((s.sendAborts x).finishChain x st disp).EndsOnly (s.abortChain x st disp) := by
    unfold State.abortChain
    dsimp only
    split
    · exact State.cancelAnd_endsOnly _ _ _ _
    · exact State.dropJobs_endsOnly _ _
  exact ⟨hrest.chainOf_none hnone, fun o ho => ((hdue o ho).of_mbx (hsend.mbx rfl)).trans hrest⟩

/-! ## The queue (R252) -/

/-- A Clearing that executes no earlier than every queued one goes last. -/
theorem insertClr_last {c : Clearing} {l : List Clearing} (h : ∀ x ∈ l, x.frame ≤ c.frame) : insertClr c l = l ++ [c] := by
  induction l with
  | nil => rfl
  | cons x l ih =>
    rw [List.forall_mem_cons] at h
    rw [insertClr, if_neg (not_lt.mpr h.1), ih h.2, List.cons_append]

/-- Nothing is queued behind the last frame. -/
theorem State.behind_eq_nil {s : State} {frame : Nat} (h : ∀ c ∈ s.trv.queue, c.frame ≤ frame) : s.behind frame = [] := by
  rw [State.behind, List.filter_eq_nil_iff.mpr fun c hc => by simpa using h c hc, List.map_nil]

/-- A local Clearing queued last changes nothing else of Traverse. -/
theorem State.enqueueClr_trv (s : State) {c : Clearing} (hn : c.job.origin = none) (h : ∀ x ∈ s.trv.queue, x.frame ≤ c.frame) :
    (s.enqueueClr c).trv = { s.trv with queue := s.trv.queue ++ [c] } := by
  unfold State.enqueueClr
  dsimp only
  rw [State.behind_eq_nil h, hn]
  refine ((State.showQueue_evolves (M := allBut 2) (State.abandonSweeps_evolves _ _ (.refl _) rfl) rfl).trv rfl).trans ?_
  rw [← insertClr_last h]
  cases c.job.owner <;> rfl

/-- The report of a solve goes to host memory, or to the response of a remote request. -/
theorem State.writeReport_eq (s : State) (j : Job) (old : Fabric) (q : Perm) (v : Solution) : s.writeReport j old q v =
    { s with out := (s.writeReport j old q v).out, host := (s.writeReport j old q v).host, fab := (s.writeReport j old q v).fab } := by
  unfold State.writeReport State.hostWrite State.toHost
  split
  · rfl
  · split
    · split <;> rfl
    · rfl

/-- From `s` to `t` at most the solved commits and what goes to the host or a remote requester change: nothing that a commit's
solve and its checks read. -/
def State.QueuesAlike (s t : State) : Prop :=
  t = { s with trv := { s.trv with solved := t.trv.solved }, host := t.host, fab := t.fab, out := t.out }

section QueuesAlike

variable {s t : State}

theorem State.QueuesAlike.jobFrame (h : s.QueuesAlike t) (j : Job) : t.jobFrame j = s.jobFrame j := by rw [h]; rfl
theorem State.QueuesAlike.fabAt (h : s.QueuesAlike t) (f : Nat) : t.fabAt f = s.fabAt f := by rw [h]; rfl
theorem State.QueuesAlike.solveJob (h : s.QueuesAlike t) (j : Job) (b : Fabric) : t.solveJob j b = s.solveJob j b := by rw [h]; rfl
theorem State.QueuesAlike.diffOf (h : s.QueuesAlike t) (f b : Nat) : t.diffOf f b = s.diffOf f b := by rw [h]; rfl
theorem State.QueuesAlike.permBad (h : s.QueuesAlike t) (q : Perm) : t.permBad q = s.permBad q := by rw [h]; rfl
theorem State.QueuesAlike.frozen (h : s.QueuesAlike t) : t.frozen = s.frozen := by rw [h]; rfl

theorem State.QueuesAlike.mergedPerm (h : s.QueuesAlike t) (k : Hdr) (q : Perm) (b : Fabric) :
    t.mergedPerm k q b = s.mergedPerm k q b := by rw [h]; rfl

theorem State.QueuesAlike.queueChecks (h : s.QueuesAlike t) (j : Job) (f : Nat) (v : Solution) (d : List Nat) :
    t.queueChecks j f v d = s.queueChecks j f v d := by rw [h]; rfl

end QueuesAlike

/-- CLEARING_QUEUE of the solved commit next in line that passes its checks (R250, R252). -/
theorem execClearingQueue_queues {s : State} {j : Job} {r : List Job} {base : Fabric} {v : Solution} {diff : List Nat}
    (hs : s.trv.solved = j :: r) (hb : base = s.fabAt (s.jobFrame j)) (hv : v = s.solveJob j base)
    (hd : diff = s.diffOf (s.jobFrame j) v.bits) (hp : s.permBad (s.mergedPerm j.h j.perm base) = false)
    (hc : firstStatus (s.queueChecks j (s.jobFrame j) v diff) = none) (hf : s.frozen = false) :
    ∃ (u : State) (c : Clearing), execClearingQueue s = .next (u.enqueueClr c) ∧ u.trv = { s.trv with solved := r } ∧ c.job = j ∧
      c.frame = s.jobFrame j ∧ c.diff = diff ∧ c.armed = false ∧ c.fab = ⟨s.mergedPerm j.h j.perm base, v.bits⟩ := by
  subst hb hv hd
  unfold execClearingQueue
  rw [hs]
  dsimp only
  generalize hu : s.modTrv _ = u
  have hsu : s.QueuesAlike u := by rw [← hu]; rfl
  rw [hsu.jobFrame, hsu.fabAt, hsu.solveJob, hsu.mergedPerm, hsu.diffOf, hsu.permBad, if_neg (ne_true_of_eq_false hp)]
  generalize hw : u.writeReport _ _ _ _ = w
  have htrv : w.trv = { s.trv with solved := r } := by rw [← hw, State.writeReport_eq, ← hu]; rfl
  have hsw : s.QueuesAlike w := by rw [← hw, State.writeReport_eq, ← hu]; rfl
  have hfrozen : w.bit .glb_baton_status_frozen 0 = false := hsw.frozen.trans hf
  rw [hsw.queueChecks, hc]
  dsimp only
  rw [if_neg (ne_true_of_eq_false hfrozen)]
  exact ⟨w, _, rfl, htrv, rfl, rfl, rfl, rfl, rfl⟩

/-! ## Targets of the elements (R30) -/

/-- From `s` to `t` no element's target changes. -/
def State.TgtKept (s t : State) : Prop := ∀ e, (t.el e).tgt = (s.el e).tgt

theorem State.TgtKept.refl (s : State) : s.TgtKept s := fun _ => rfl

theorem State.TgtKept.trans {s t u : State} (h : s.TgtKept t) (k : t.TgtKept u) : s.TgtKept u := fun e => (k e).trans (h e)

theorem State.TgtKept.of_elems {s t : State} (h : t.loop.elems = s.loop.elems) : s.TgtKept t := fun e => by
  rw [State.el, h, State.el]

section TgtKept

variable {s t : State} (h : s.TgtKept t) (e : Nat)
include h

theorem State.TgtKept.ite {u : State} {c : Prop} [Decidable c] (k : s.TgtKept u) : s.TgtKept (if c then t else u) := by
  split <;> assumption

theorem State.TgtKept.foldl {α : Type} {f : State → α → State} (l : List α) (hf : ∀ u a, s.TgtKept u → s.TgtKept (f u a)) :
    s.TgtKept (l.foldl f t) := by
  induction l generalizing t with
  | nil => exact h
  | cons a l ih => exact ih (hf t a h)

/-- An element changed in another of its fields. -/
theorem State.TgtKept.modEl {g : Elem → Elem} (hg : ∀ x, (g x).tgt = x.tgt := by intro _; rfl) : s.TgtKept (t.modEl e g) := by
  refine h.trans fun k => ?_
  by_cases hk : k = e
  · subst hk; rw [State.modEl_el_same, hg]
  · rw [State.modEl_el_ne _ _ hk]

theorem State.TgtKept.wr (f : Fid) (i v : Nat) : s.TgtKept (t.wr f i v) := h.trans (.of_elems rfl)
theorem State.TgtKept.wrBit (f : Fid) (i : Nat) (b : Bool) : s.TgtKept (t.wrBit f i b) := h.trans (.of_elems rfl)
theorem State.TgtKept.modMon (m : Nat) (g : Mon → Mon) : s.TgtKept (t.modMon m g) := h.trans (.of_elems rfl)
theorem State.TgtKept.addSpan (m : Nat) (x : Span) : s.TgtKept (t.addSpan m x) := h.trans (.of_elems rfl)
theorem State.TgtKept.finish (o : Owner) (c : Completion) : s.TgtKept (t.finish o c) := h.trans (.of_elems rfl)

theorem State.TgtKept.finishOpt (o : Option Owner) (c : Completion) : s.TgtKept (t.finishOpt o c) := by
  unfold State.finishOpt
  split
  · exact h.finish _ c
  · exact h

theorem State.TgtKept.endRange (st : Status) : s.TgtKept (t.endRange e st) := by
  unfold State.endRange
  dsimp only
  split
  · exact h
  · exact ((((h.modEl e).foldl _ fun u m k => k.modMon m _).ite (h.modEl e)).wrBit _ e _).wrBit _ e _ |>.finishOpt _ _

theorem State.TgtKept.finishMove (o : Option Owner) (c : Completion) : s.TgtKept (t.finishMove e o c) := by
  unfold State.finishMove
  dsimp only
  exact ((h.finishOpt o c).foldl _ fun u w k => k.finish w c).modEl e

theorem State.TgtKept.dropMove (st : Status) : s.TgtKept (t.dropMove e st) := by
  have hjump : s.TgtKept (match (t.el e).jump with
      | some j => (t.finishMove e j.owner { status := st }).modEl e (fun y => { y with jump := some { j with owner := none } })
      | none => t) := by
    split
    · exact (h.finishMove e _ _).modEl e
    · exact h
  unfold State.dropMove
  dsimp only
  split
  · exact (hjump.finishMove e _ _).modEl e
  · exact hjump

theorem State.TgtKept.setState (st : Nat) : s.TgtKept (t.setState e st) := by
  unfold State.setState
  exact ((h.wrBit _ _ _).ite h).modEl e

theorem State.TgtKept.setHiz (b : Bool) : s.TgtKept (t.setHiz e b) := by
  unfold State.setHiz
  dsimp only
  split
  · exact h.trans (.of_elems rfl)
  · exact h.wrBit _ _ _

theorem State.TgtKept.flush : s.TgtKept (t.flush e) := by
  unfold State.flush
  exact h.modEl e

theorem State.TgtKept.startJump (vs vt : Int) (fwd : Bool) (goal : JumpGoal) (owner : Option Owner) (clr : Option Nat) :
    s.TgtKept (t.startJump e vs vt fwd goal owner clr) := by
  unfold State.startJump
  dsimp only
  generalize hu : List.foldl _ _ _ = u
  have hfold : s.TgtKept u := by
    rw [← hu]
    exact (((h.flush e).setState e 3).modEl e).foldl _ fun u m k => k.addSpan m _
  exact (((hfold.wrBit _ _ _).wr _ _ _).ite (((hfold.wrBit _ _ _).wr _ _ _).wrBit _ _ _)).ite (hfold.setHiz e _)

theorem State.TgtKept.leaveTarget : s.TgtKept (t.leaveTarget e) := by
  unfold State.leaveTarget
  exact (h.modEl e).ite h

end TgtKept

/-- An element retargeted has its new target, every other one its own. -/
theorem State.retarget_tgt (s : State) (e t k : Nat) : ((s.retarget e t).el k).tgt = if k = e then t else (s.el k).tgt := by
  unfold State.retarget
  split
  next h => subst h; rw [State.modEl_el_same]
  next h => rw [State.modEl_el_ne _ _ h]; exact (State.TgtKept.refl s).leaveTarget e k

theorem State.armedElem_tgt (s : State) (e t : Nat) (arm : Int × Bool) (clr k : Nat) :
    ((s.armedElem e t arm clr).el k).tgt = if k = e then t else (s.el k).tgt := by
  unfold State.armedElem
  dsimp only
  refine ((((State.TgtKept.refl _).startJump e _ _ _ _ _ _).modEl e : State.TgtKept _ _) k).trans ?_
  rw [State.retarget_tgt]
  refine if_congr Iff.rfl rfl (State.TgtKept.dropMove (.endRange (.ite ?_ ?_) _ _) _ _ k)
  · exact ((State.TgtKept.refl s).modEl e).modEl e
  · exact (State.TgtKept.refl s).modEl e

/-- An element treated at its Clearing's frame has its new target, moved or not (R30). -/
theorem State.clearElem_tgt (s : State) (e t : Nat) (arm : Int × Bool) (clr k : Nat) :
    ((s.clearElem e t arm clr).el k).tgt = if k = e then t else (s.el k).tgt := by
  unfold State.clearElem
  split
  · exact s.retarget_tgt e t k
  · split
    · exact (((State.TgtKept.refl _).modEl e : State.TgtKept _ _) k).trans (s.retarget_tgt e t k)
    · exact s.armedElem_tgt e t arm clr k

theorem State.targetIn_congr {s t : State} (h : t.map = s.map) (bits e : Nat) : t.targetIn bits e = s.targetIn bits e := by
  unfold State.targetIn State.erec
  rw [h]

/-- One element of a Clearing treated with what its point of no return armed (R279). -/
def State.treatElem (c : Clearing) (s : State) (e : Nat) : State :=
  s.clearElem e (s.targetIn c.fab.bits e)
    (((c.arms.find? (fun a => a.1 == e)).map (fun a => a.2)).getD (s.armOf e (s.targetIn c.fab.bits e))) c.job.clrId

theorem State.treatAll_eq (s : State) (c : Clearing) : s.treatAll c = c.diff.foldl (State.treatElem c) s := rfl

/-- Treated one by one, the elements of the list have their targets. -/
theorem foldl_treatElem_tgt (c : Clearing) (l : List Nat) (s : State) (k : Nat) :
    ((l.foldl (State.treatElem c) s).el k).tgt = if k ∈ l then s.targetIn c.fab.bits k else (s.el k).tgt := by
  induction l generalizing s with
  | nil => rfl
  | cons e l ih =>
    have hmap : (State.treatElem c s e).map = s.map :=
      (State.clearElem_evolves (M := allBut 0) _ _ _ _ (.refl s) rfl).map rfl
    rw [List.foldl_cons, ih, State.targetIn_congr hmap, State.treatElem, State.clearElem_tgt]
    by_cases hl : k ∈ l
    · simp [hl]
    · by_cases hk : k = e
      · simp [hk]
      · simp [hl, hk]

/-- Every element of a Clearing's difference set has its target after the Clearing's frame. -/
theorem State.treatAll_tgt (s : State) {c : Clearing} {e : Nat} (h : e ∈ c.diff) :
    ((s.treatAll c).el e).tgt = s.targetIn c.fab.bits e := by
  rw [State.treatAll_eq, foldl_treatElem_tgt, if_pos h]

/-! ## Execution (R30, R253) -/

theorem State.reportClr_workKept (s : State) (c : Clearing) : s.WorkKept (s.reportClr c) := by
  unfold State.reportClr
  dsimp only
  split
  · split
    · split
      · exact s.chainTry_workKept _
      · exact .of_trv rfl
    · exact s.sendClr_workKept _ _
  · exact s.finishOpt_workKept _ _

/-- What is shown and reported after the elements of a Clearing are treated (R31, R254, R312). -/
def State.showExecuted (s : State) (slot : Nat) : State := ((s.showForce slot false).pulseClearing).showQueue.closeClearings

theorem State.closeClearings_trv (s : State) : s.closeClearings.trv.queue = s.trv.queue ∧
    s.closeClearings.trv.force = s.trv.force ∧ s.closeClearings.trv.forceCrc = s.trv.forceCrc := by
  have h : (s.modTrv (fun t => { t with active := t.active.filter (fun c => c.toSettle != []) })).WorkKept s.closeClearings :=
    foldl_workKept _ _ fun t c => t.reportClr_workKept c
  rw [h]
  exact ⟨rfl, rfl, rfl⟩

theorem State.showExecuted_leaves (s : State) (slot : Nat) : (s.showExecuted slot).trv.queue = s.trv.queue ∧
    (s.showExecuted slot).trv.force = s.trv.force ∧ (s.showExecuted slot).trv.forceCrc = s.trv.forceCrc ∧
    (s.showExecuted slot).rd .trv_last_clr_id 0 = s.rd .trv_last_clr_id 0 ∧ (s.showExecuted slot).loop = s.loop := by
  have hshow {M : Nat} (hf hp hq) : Evolves M s ((s.showForce slot false).pulseClearing).showQueue :=
    State.showQueue_evolves (State.pulseClearing_evolves (State.showForce_evolves _ _ (.refl s) hf) hp) hq
  have htrv := (hshow (M := allBut 2) rfl rfl rfl).trv rfl
  obtain ⟨hqueue, hforce, hcrc⟩ := ((s.showForce slot false).pulseClearing).showQueue.closeClearings_trv
  rw [htrv] at hqueue hforce hcrc
  unfold State.showExecuted
  refine ⟨hqueue, hforce, hcrc, ?_, ?_⟩
  · have hrd := hshow (M := allBut (17 + Fid.ctorIdx .trv_last_clr_id)) rfl rfl rfl
    exact (State.closeClearings_evolves hrd rfl).rd .trv_last_clr_id 0 rfl
  · exact (State.closeClearings_evolves (M := allBut 1) (hshow rfl rfl rfl) rfl).loop rfl

theorem State.noteClr_rd_clrId (s : State) (c : Clearing) (state : Nat) :
    (s.noteClr c state).rd .trv_last_clr_id 0 = c.job.clrId % 2 ^ Fid.trv_last_clr_id.width := by
  unfold State.noteClr
  rw [State.rd_wr_ne _ _ (by decide), State.rd_wr_ne _ _ (by decide), State.rd_wr_same]

/-- CLEARING_EXECUTION of the first queued Clearing at its frame (R253). -/
theorem execClearingExecution_due {s : State} {c : Clearing} {r : List Clearing} (hq : s.trv.queue = c :: r)
    (hf : c.frame ≤ s.frame) : ∃ (d : Clearing) (state : Nat) (l : List Clearing), execClearingExecution s =
      .next ((((s.modTrv (fun t => { t with queue := r, force := c.fab, forceCrc := c.crc, active := l })).treatAll c).noteClr
        d state).showExecuted c.job.slot) ∧ d.job = c.job := by
  unfold execClearingExecution
  rw [hq]
  dsimp only
  rw [if_neg (not_lt.mpr hf)]
  exact ⟨_, _, _, rfl, rfl⟩

/-- CLEARING_EXECUTION puts the Clearing in force (R253). -/
theorem execClearingExecution_forces {s : State} {c : Clearing} {r : List Clearing} (hq : s.trv.queue = c :: r)
    (hf : c.frame ≤ s.frame) : ∃ t, execClearingExecution s = .next t ∧ t.trv.queue = r ∧ t.trv.force = c.fab ∧
      t.trv.forceCrc = c.crc ∧ t.rd .trv_last_clr_id 0 = c.job.clrId % 2 ^ Fid.trv_last_clr_id.width ∧
      ∀ e ∈ c.diff, (t.el e).tgt = s.targetIn c.fab.bits e := by
  obtain ⟨d, state, l, hexec, hd⟩ := execClearingExecution_due hq hf
  refine ⟨_, hexec, ?_⟩
  generalize hu : s.modTrv _ = u
  obtain ⟨hqueue, hforce, hcrc, hrd, hloop⟩ := ((u.treatAll c).noteClr d state).showExecuted_leaves c.job.slot
  have htrv : (u.treatAll c).trv = u.trv := (State.treatAll_evolves (M := allBut 2) c (.refl u) rfl).trv rfl
  rw [hqueue, hforce, hcrc, hrd, State.noteClr_rd_clrId, hd]
  refine ⟨?_, ?_, ?_, rfl, fun e he => ?_⟩
  · exact (congrArg TrvSt.queue htrv).trans (by rw [← hu]; rfl)
  · exact (congrArg TrvSt.force htrv).trans (by rw [← hu]; rfl)
  · exact (congrArg TrvSt.forceCrc htrv).trans (by rw [← hu]; rfl)
  · have hkept : State.TgtKept (u.treatAll c) (((u.treatAll c).noteClr d state).showExecuted c.job.slot) :=
      .of_elems (congrArg LoopSt.elems hloop)
    rw [hkept e, u.treatAll_tgt he]
    exact State.targetIn_congr (by rw [← hu]; rfl) _ _

/-! ## The commands and events of O25 -/

/-- CLEARING_QUEUE behind every queued Clearing (R252). -/
theorem execClearingQueue_last {s : State} {j : Job} {r : List Job} {base : Fabric} {v : Solution} {diff : List Nat}
    (hs : s.trv.solved = j :: r) (hn : j.origin = none) (hb : base = s.fabAt (s.jobFrame j)) (hv : v = s.solveJob j base)
    (hd : diff = s.diffOf (s.jobFrame j) v.bits) (hp : s.permBad (s.mergedPerm j.h j.perm base) = false)
    (hc : firstStatus (s.queueChecks j (s.jobFrame j) v diff) = none) (hf : s.frozen = false)
    (hl : ∀ c ∈ s.trv.queue, c.frame ≤ s.jobFrame j) :
    ∃ t c, execClearingQueue s = .next t ∧ t.trv.solved = r ∧ t.trv.queue = s.trv.queue ++ [c] ∧ c.job = j ∧
      c.frame = s.jobFrame j ∧ c.diff = diff ∧ c.armed = false ∧ c.fab = ⟨s.mergedPerm j.h j.perm base, v.bits⟩ := by
  obtain ⟨u, c, hexec, hu, hjob, hframe, hrest⟩ := execClearingQueue_queues hs hb hv hd hp hc hf
  have htrv := u.enqueueClr_trv (c := c) (by rw [hjob, hn]) (by rw [hu, hframe]; exact hl)
  rw [hu] at htrv
  exact ⟨_, c, hexec, by rw [htrv], by rw [htrv], hjob, hframe, hrest⟩

/-- POINT_OF_NO_RETURN when due of a Clearing that is not armed (R279). -/
theorem execPointOfNoReturn_arms {s : State} {c : Clearing} {r : List Clearing} (hq : s.trv.queue = c :: r)
    (ha : c.armed = false) (hf : c.frame ≤ s.frame + 1) : execPointOfNoReturn s = .next (s.modTrv (fun t => { t with queue :=
      { c with armed := true, arms := c.diff.map (fun e => (e, s.armOf e (s.targetIn c.fab.bits e))) } :: r })) := by
  unfold execPointOfNoReturn
  rw [hq]
  dsimp only
  rw [if_neg (by simp [ha, hf])]

/-- STATE_ABORT of an own queued Clearing that is no chain-scoped one, before its point of no return (R257). -/
theorem execStateAbort_cancels {s : State} {h : Hdr} {id : Nat} {c : Clearing} (hx : ∀ x ∈ s.trv.chains, x.job.clrId ≠ id)
    (hc : s.trv.queue.find? (fun c => ownClr h.mbx id c) = some c) (ha : c.armed = false) (ht : s.noTrv = false) :
    execStateAbort h id s =
      .next (((s.entered h).cancelAnd c (if c.job.remote then .busy else .ok) 1).status h .ok) := by
  have hnone : s.trv.chains.find? (fun x => x.job.clrId == id && h.mbx == 0) = none :=
    List.find?_eq_none.mpr fun x hm => by simp [hx x hm]
  unfold execStateAbort
  rw [State.checked_pass _ _ _ _ (by simp [ht])]
  simp only [State.abortClr, hnone, hc, ha, Bool.false_eq_true, if_false]

/-- A commit's job waits for the solver, or is solved by its slot's cached vector (R243). -/
theorem State.giveJob_gives (s : State) (j : Job) : (s.giveJob j).trv.waiting = s.trv.waiting ++ [j] ∨
    ∃ v, (s.giveJob j).trv.solved = s.trv.solved ++ [{ j with sol := some v, cached := true }] := by
  unfold State.giveJob
  split
  next v _ => exact .inr ⟨v, rfl⟩
  · exact .inl rfl

theorem firstStatus_none {l : List (Bool × Status)} (h : ∀ p ∈ l, p.1 = false) : firstStatus l = none := by
  induction l with
  | nil => rfl
  | cons p l ih =>
    rw [List.forall_mem_cons] at h
    rw [firstStatus, h.1, if_neg Bool.false_ne_true, ih h.2]

/-- The job of a participant's part, from its REQUEST (R260). -/
def State.requestJob (s : State) (src : Nat) (m : ClrMsg) : Job :=
  { h := { mbx := 0, tag := 0xFFFF }, owner := none, commit := true, slot := m.slot, gen := (s.slot m.slot).gen
    perm := (s.slot m.slot).perm, mind := m.flags.testBit 1, maxDist := m.maxDist, exec := some (ticksOf m.exec)
    clrId := m.clrId, chain := true, atomic := m.flags.testBit 0, origin := some src, remote := true }

/-- CLEARING_REQUEST that passes its checks (R260). -/
theorem execClearingRequest_gives {s : State} {src : Nat} {m : ClrMsg} (hm : m.slot < 4096) (he : s.execBad m.exec = false)
    (hd : m.maxDist ≤ 512 ∨ m.maxDist = 0xFFFF) (ha : s.mapAway = false) (ht : s.noTrv = false)
    (hp : s.permBad (s.slot m.slot).perm = false) (hv : (s.slot m.slot).valid = true) (hl : s.locked = true) :
    execClearingRequest src m s = .next (s.giveJob (s.requestJob src m)) := by
  have hdist : (512 < m.maxDist && m.maxDist != 0xFFFF) = false := by
    rcases hd with hd | hd <;> simp [hd]
  unfold execClearingRequest
  dsimp only
  rw [firstStatus_none (by simp [State.jobChecks, hm, he, hdist, ha, ht, hp, hv, hl])]
  rfl

section Chains

variable {s : State} {src id : Nat} {m : ClrMsg} {x : ChainClr}

theorem execClearingAccept_tries (h : s.chainOf m.clrId = some x) :
    execClearingAccept src m s = .next (s.chainTry (x.setPart src (fun p => { p with accepted := true }))) := by
  simp only [execClearingAccept, h]

theorem execClearingReject_tries (h : s.chainOf m.clrId = some x) (ha : x.job.atomic = false) : execClearingReject src m s =
    .next (s.chainTry (x.setPart src (fun p => { p with rejected := true, status := m.status }))) := by
  simp [execClearingReject, h, ChainClr.setPart, ha]

theorem execClearingReject_aborts {y : ChainClr} (h : s.chainOf m.clrId = some x) (ha : x.job.atomic = true)
    (hd : x.deadline = false) (hy : y = x.setPart src (fun p => { p with rejected := true, status := m.status })) :
    execClearingReject src m s = .next (s.abortChain y y.firstFail 1) := by
  subst hy
  simp [execClearingReject, h, ChainClr.setPart, ha, hd]

theorem execClearingReport_tries (h : s.chainOf m.clrId = some x) :
    execClearingReport src m s = .next (s.chainTry (x.entered src m)) := by
  simp only [execClearingReport, h]

/-- CLEARING_ABORT takes a participant's part that is not armed from the queue (R261). -/
theorem execClearingAbort_leaves {c : Clearing}
    (hc : s.trv.queue.find? (fun c => c.job.clrId == id && decide (c.job.origin = some src)) = some c) (ha : c.armed = false) :
    ∃ t, execClearingAbort src id s = .next t ∧ ∀ q ∈ t.trv.queue, ¬ (q.job.clrId = id ∧ q.job.origin = some src) := by
  unfold execClearingAbort
  dsimp only
  rw [hc]
  dsimp only
  rw [if_neg (ne_true_of_eq_false ha)]
  refine ⟨_, rfl, fun q hq => ?_⟩
  obtain ⟨p, hp, hqp⟩ := ((State.recomputeFrom_endsOnly _ _ _).trans (State.showQueue_endsOnly _)).jobs q hq
  rw [hqp]
  simpa [imp_iff_not_or] using (List.mem_filter.mp hp).2

/-- A chain-scoped Clearing whose missing participants count as rejected for want of an answer (R260). -/
def ChainClr.unanswered (x : ChainClr) : ChainClr :=
  { x with parts := x.parts.map (fun p =>
      if p.accepted || p.rejected then p else { p with rejected := true, status := Status.remoteTimeout.code }) }

/-- Where none has rejected and one has not accepted, the first failing status is REMOTE_TIMEOUT. -/
theorem ChainClr.unanswered_firstFail (hr : ∀ p ∈ x.parts, p.rejected = false) : x.unanswered.firstFail = .remoteTimeout := by
  unfold ChainClr.firstFail
  split
  next p hp =>
    obtain ⟨q, hq, rfl⟩ := List.mem_map.mp (List.mem_of_find?_eq_some hp)
    have hrej := List.find?_some hp
    by_cases ha : (q.accepted || q.rejected) = true
    · rw [if_pos ha, hr q hq] at hrej; cases hrej
    · rw [if_neg ha]; rfl
  · rfl

theorem execAbortDeadline_aborts (h : s.chainOf id = some x)
    (ht : x.frame * tickFrame < s.datum.t + tickFrame + (1250 + x.hops * s.hopDelay) * tickNs) (ha : x.job.atomic = true)
    (hd : x.deadline = false) (hp : ∃ p ∈ x.parts, p.accepted = false) :
    execAbortDeadline id s = .next (s.abortChain x.unanswered x.unanswered.firstFail 1) := by
  have hany : x.parts.any (fun p => !p.accepted) = true := by simpa using hp
  unfold execAbortDeadline
  rw [h]
  dsimp only
  rw [if_neg (not_le.mpr ht), if_pos ⟨ha, hd, hany⟩]
  rfl

theorem execAbortDeadline_marks (h : s.chainOf id = some x)
    (ht : x.frame * tickFrame < s.datum.t + tickFrame + (1250 + x.hops * s.hopDelay) * tickNs)
    (hc : x.job.atomic = false ∨ x.deadline = true ∨ ∀ p ∈ x.parts, p.accepted = true) : execAbortDeadline id s =
      .next (s.modTrv (fun t => { t with
        chains := t.chains.map (fun y => if y.job.clrId = id then { y with deadline := true } else y) })) := by
  have hn : ¬ (x.job.atomic = true ∧ x.deadline = false ∧ x.parts.any (fun p => !p.accepted) = true) := by
    rintro ⟨ha, hd, hp⟩
    obtain ⟨p, hm, hp⟩ := List.any_eq_true.mp hp
    rcases hc with hc | hc | hc
    · simp [hc] at ha
    · simp [hc] at hd
    · simp [hc p hm] at hp
  unfold execAbortDeadline
  rw [h]
  dsimp only
  rw [if_neg (not_le.mpr ht), if_neg hn]

/-- REPORT_TIMEOUT when due ends the Clearing with the reports that it has (R260). -/
theorem execReportTimeout_ends (h : s.chainOf id = some x)
    (ht : x.frame * tickFrame + max 1 (s.rd .trv_chain_report_to 0) * 1000 * tickNs ≤ s.datum.t) :
    ∃ y, execReportTimeout id s = .next (s.finishChain y .remoteTimeout 0) ∧ y.job = x.job := by
  unfold execReportTimeout
  rw [h]
  dsimp only
  rw [if_pos ht]
  exact ⟨_, rfl, rfl⟩

end Chains

/-- Settles O25: each command and event by its own rule above. -/
theorem clearingsRun : Obligations.ClearingsRun := by
  unfold Obligations.ClearingsRun
  refine ⟨fun j r v base diff s hs hn hb hv hd hp hc hf hl => execClearingQueue_last hs hn hb hv hd hp hc hf hl,
    fun c r s hq ha hf => ⟨_, execPointOfNoReturn_arms hq ha hf, rfl, rfl⟩,
    fun c r s hq hf => execClearingExecution_forces hq hf,
    fun h id c s hx hc ha hn ht => ⟨_, execStateAbort_cancels hx hc ha ht, State.status_finished _ _ _, ?_, fun o ho => ?_⟩,
    fun src m s hm he hd ha ht hp hv hl =>
      ⟨_, _, execClearingRequest_gives hm he hd ha ht hp hv hl, rfl, rfl, rfl, s.giveJob_gives _⟩,
    fun src m x s hx => ⟨fun y hy hin => ?_, fun y hy => ⟨fun ha hin => ?_, fun ha hd => ?_⟩,
      fun y hy => ⟨fun hin => ?_, fun hin => ?_⟩⟩,
    fun src id c s hc ha => execClearingAbort_leaves hc ha,
    fun id x s hx => ⟨fun ht => ⟨fun ha hd hp hr => ?_, fun hc => ?_⟩, fun ht => ?_⟩⟩
  · have hid : c.job.clrId = id := by
      have := List.find?_some hc
      simp only [ownClr, Bool.and_eq_true, beq_iff_eq] at this
      exact this.1
    rw [State.status_trv, ← hid]
    exact State.cancelAnd_queue _ c _ 1
  · have hcancel := (s.entered h).cancelAnd_concludes (if c.job.remote then .busy else .ok) 1 hn ho
    exact (hcancel.of_subset (s.entered_flight h _)).trans (State.status_endsOnly _ _ _)
  · subst hy
    exact ⟨_, execClearingAccept_tries hx, State.chainTry_noted hx rfl hin⟩
  · subst hy
    exact ⟨_, execClearingReject_tries hx ha, State.chainTry_noted hx rfl hin⟩
  · have hend := s.abortChain_ends y y.firstFail 1
    have hjob : y.job = x.job := by rw [hy]; rfl
    rw [hjob, State.chainOf_clrId hx] at hend
    exact ⟨_, _, execClearingReject_aborts hx ha hd hy, hend.1, rfl, hend.2⟩
  · subst hy
    exact ⟨_, execClearingReport_tries hx, State.chainTry_noted hx rfl hin⟩
  · have hend := s.chainTry_ends hin
    have hjob : y.job = x.job := by rw [hy]; rfl
    rw [hjob, State.chainOf_clrId hx] at hend
    exact ⟨_, _, hy ▸ execClearingReport_tries hx, hend.1, rfl, hend.2⟩
  · have hend := s.abortChain_ends x.unanswered x.unanswered.firstFail 1
    have hjob : x.unanswered.job = x.job := rfl
    rw [hjob, State.chainOf_clrId hx] at hend
    exact ⟨_, _, execAbortDeadline_aborts hx ht ha hd hp, hend.1, ChainClr.unanswered_firstFail hr, hend.2⟩
  · refine ⟨_, execAbortDeadline_marks hx ht hc, ?_⟩
    rw [s.chainOf_map id fun z => by split <;> rfl, hx]
    simp [State.chainOf_clrId hx]
  · obtain ⟨y, hexec, hjob⟩ := execReportTimeout_ends hx ht
    have hend := s.finishChain_ends y .remoteTimeout 0
    rw [hjob, State.chainOf_clrId hx] at hend
    exact ⟨_, _, hexec, hend.1, rfl, hend.2⟩

end Sys2Proof.Machine

/-! PROOFS. Frames of the loop commands and events (O51): each meaning's law (name_goes) under the mask of its own two lists. -/

namespace Sys2Proof.Machine

set_option exponentiation.threshold 2048

/-- Settles O51: whatever a command or event answers evolves from the state before it under the mask of the fields and parts that
the statement lists for it, one case each, and so keeps the frame (`Goes.frame`). -/
theorem loopFrames : Obligations.LoopFrames := by
  unfold Obligations.LoopFrames
  exact ⟨
    fun _ _ _ s _ h => (execElementSetOverride_goes _ _ _ (.refl s) rfl).frame h,
    fun _ _ _ _ s _ h => (execElementSetSetpoint_goes _ _ _ _ (.refl s) rfl).frame h,
    fun _ _ _ s _ h => (execElementSetRange_goes _ _ _ (.refl s) rfl).frame h,
    fun _ _ s _ h => (execElementReleaseElement_goes _ _ (.refl s) rfl).frame h,
    fun _ _ s _ h => (execElementReleaseTrip_goes _ _ (.refl s) rfl).frame h,
    fun _ _ s _ h => (execElementReleaseReturn_goes _ _ (.refl s) rfl).frame h,
    fun _ _ _ _ s _ h => (execLoopConfigCompartment_goes _ _ _ _ (.refl s) rfl).frame h,
    fun _ _ _ _ _ _ _ _ s _ h => (execLoopConfigCoefficient_goes _ _ _ _ _ _ _ _ (.refl s) rfl).frame h,
    fun _ _ _ _ s _ h => (execLoopConfigElement_goes _ _ _ _ (.refl s) rfl).frame h,
    fun _ _ _ _ s _ h => (execLoopConfigClearCode_goes _ _ _ _ (.refl s) rfl).frame h,
    fun _ _ _ _ _ _ _ _ _ _ _ _ s _ h => (execLoopConfigProfile_goes _ _ _ _ _ _ _ _ _ _ _ _ (.refl s) rfl).frame h,
    fun _ _ _ _ s _ h => (execLoopConfigPilot_goes _ _ _ _ (.refl s) rfl).frame h,
    fun _ _ _ s _ h => (execLoopConfigDeglitch_goes _ _ _ (.refl s) rfl).frame h,
    fun _ _ _ _ _ _ _ _ s _ h => (execLoopConfigHpwm_goes _ _ _ _ _ _ _ _ (.refl s) rfl).frame h,
    fun _ _ s _ h => (execLoopConfigTrip_goes _ _ (.refl s) rfl).frame h,
    fun _ _ s _ h => (execLoopConfigPowerCap_goes _ _ (.refl s) rfl).frame h,
    fun _ _ _ _ _ _ _ _ _ _ s _ h => (execOuterConfigEqualisation_goes _ _ _ _ _ _ _ _ _ _ (.refl s) rfl).frame h,
    fun _ _ _ _ _ _ _ _ s _ h => (execOuterConfigTemperature_goes _ _ _ _ _ _ _ _ (.refl s) rfl).frame h,
    fun _ _ _ _ s _ h => (execElementStatus_goes _ _ _ _ (.refl s) rfl).frame h,
    fun _ _ _ _ _ _ s _ h => (execCalRun_goes _ _ _ _ _ _ (.refl s) rfl).frame h,
    fun _ _ _ _ _ s _ h => (execLoopPeriodBoundary_goes _ _ _ _ _ (.refl s) rfl).frame h,
    fun _ s _ h => (execCoefCommitWrite_goes _ (.refl s) rfl).frame h,
    fun _ s _ h => (execCoefficientSwap_goes _ (.refl s) rfl).frame h,
    fun _ s _ h => (execPeriodWindowChange_goes _ (.refl s) rfl).frame h,
    fun _ s _ h => (execSettleEntry_goes _ (.refl s) rfl).frame h,
    fun _ s _ h => (execJumpExit_goes _ (.refl s) rfl).frame h,
    fun _ s _ h => (execHoldEntry_goes _ (.refl s) rfl).frame h,
    fun _ s _ h => (execScheduledTransition_goes _ (.refl s) rfl).frame h,
    fun _ s _ h => (execLoopStart_goes _ (.refl s) rfl).frame h,
    fun _ s _ h => (execSuspectEntry_goes _ (.refl s) rfl).frame h,
    fun _ s _ h => (execReturnToService_goes _ (.refl s) rfl).frame h,
    fun _ s _ h => (execCatchUpJump_goes _ (.refl s) rfl).frame h,
    fun _ s _ h => (execCalibrationRecordApply_goes _ (.refl s) rfl).frame h,
    fun _ s _ h => (execOuterIntervalEnd_goes _ (.refl s) rfl).frame h,
    fun _ s _ h => (execSweepStart_goes _ (.refl s) rfl).frame h,
    fun _ s _ h => (execSweepPoint_goes _ (.refl s) rfl).frame h,
    fun _ s _ h => (execSweepDeadline_goes _ (.refl s) rfl).frame h⟩

end Sys2Proof.Machine

/-! PROOFS. A port without a gate (O59, R57): it is kept from darkness wherever that is asked for, and SAFETY_STATUS counts it. -/

namespace Sys2Proof.Machine

/-! ## Darkness without a gate (R57, R421) -/

theorem State.undarkable_of_gate {s : State} {p : Nat} (h : s.gateOf p = 0xFFFF) : s.undarkable p = true := by
  simp [State.undarkable, h]

theorem State.darkDue_of_gate {s : State} {w : Nat × Nat} (h : s.gateOf w.1 = 0xFFFF) : s.darkDue w = false := by
  simp [State.darkDue, State.undarkable_of_gate h]

theorem State.notMem_darkPorts_of_gate {s : State} {p : Nat} (h : s.gateOf p = 0xFFFF) : p ∉ s.darkPorts := by
  simp [State.darkPorts, State.undarkable_of_gate h]

theorem State.mem_notDark_of_gate {s : State} {p at0 : Nat} (h : s.gateOf p = 0xFFFF) (hw : (p, at0) ∈ s.fbk.want) :
    p ∈ s.notDark :=
  List.mem_map.mpr ⟨(p, at0), List.mem_filter.mpr ⟨hw, State.undarkable_of_gate h⟩, rfl⟩

theorem exec_darkeningStart (s : State) : exec .darkeningStart s = execDarkeningStart s := rfl

theorem execDarkeningStart_idle {s : State} (h : ∀ w ∈ s.fbk.want, s.darkDue w = false) : execDarkeningStart s = .next s := by
  rw [execDarkeningStart, if_neg (by simpa using h)]

/-! ## The status record (R431) -/

theorem State.toHost_out (s : State) (m addr : Nat) (bytes : List Nat) :
    (s.toHost m addr bytes).out = s.out ++ if s.hostOpen m then [.hostWrite m addr bytes] else [] := by
  unfold State.toHost
  split <;> simp

theorem State.toHost_held (s : State) (m addr : Nat) (bytes : List Nat) :
    (s.toHost m addr bytes).host.held = s.host.held ++ if s.hostOpen m then [] else [(m, addr, bytes)] := by
  unfold State.toHost
  split <;> simp [State.emit]

/-- Only Firebreak's count of the session's age changes with a safety command (R427). -/
theorem State.safetyCmd_eq (s : State) (h : Hdr) : ∃ n, s.safetyCmd h = s.modFbk (fun b => { b with lastCmd := n }) := by
  unfold State.safetyCmd
  split
  · exact ⟨s.fbk.tick, rfl⟩
  · exact ⟨s.fbk.lastCmd, rfl⟩

/-- The number of ports not darkened stands at 0xA. -/
theorem State.fbkRecord_notDark (s : State) : (s.fbkRecord.drop 10).take 2 = leBytes 2 s.notDark.length := rfl

theorem State.status_held (s : State) (h : Hdr) (st : Status) : (s.status h st).host.held = s.host.held := by
  have hk := congrArg HostSt.held (s.status_completed h st).host
  exact hk

theorem exec_safetyStatusRead (h : Hdr) (buf : Nat) (s : State) :
    exec (.safetyStatusRead h buf) s = execSafetyStatusRead h buf s := rfl

/-- SAFETY_STATUS, READ with a good buffer and the link up writes the record and completes OK. -/
theorem execSafetyStatusRead_writes {h : Hdr} {buf : Nat} {s : State} (hr : h.remote = none) (hb : buf % 16 = 0)
    (hl : s.fbk.link = true) : ∃ n, let u := s.modFbk (fun b => { b with lastCmd := n })
      execSafetyStatusRead h buf s = .next ((u.toHost h.mbx buf u.fbkRecord).status h .ok) := by
  obtain ⟨n, hn⟩ := s.safetyCmd_eq h
  refine ⟨n, ?_⟩
  unfold execSafetyStatusRead
  rw [hn, State.checked_pass _ _ _ _ (by simp [State.badBuf, hr, hb, hl]), State.hostWrite, hr]

/-- Settles O59: a port without a gate is one that R421 keeps from darkness. -/
theorem portWithoutGateIsNotDarkenable : Obligations.PortWithoutGateIsNotDarkenable := by
  unfold Obligations.PortWithoutGateIsNotDarkenable
  intro s port hg
  refine ⟨fun _ => State.darkDue_of_gate hg, State.notMem_darkPorts_of_gate hg, fun hw => ?_,
    fun _ hw => State.mem_notDark_of_gate hg hw, fun h buf hr hb hl => ?_⟩
  · rw [exec_darkeningStart, execDarkeningStart_idle fun w hm => State.darkDue_of_gate (hw w hm)]
  · obtain ⟨n, hexec⟩ := execSafetyStatusRead_writes hr hb hl
    refine ⟨_, _, hexec, ?_, ?_, State.fbkRecord_notDark _⟩
    · rw [State.status_out, State.toHost_out, State.toHost_out]
      rfl
    · rw [State.status_held, State.toHost_held, State.toHost_held]
      rfl

end Sys2Proof.Machine

/-! PROOFS. Staging (O46, R66, R68, R473, R474, R479, R480): what staging leaves of the banks and the map slots, and what the frames
of a remote staging do to the transfer that comes in or goes out. -/

namespace Sys2Proof.Machine

set_option exponentiation.threshold 2048

/-! ## Flash, banks and slots -/

theorem State.flashRefused_of_rd {s : State} (h : s.rd .hkp_flash_inhibit 0 = 0) : s.flashRefused = false := by
  simp [State.flashRefused, State.bit, h]

/-- The banks with an image in the inactive one (R479). -/
def BootSt.staged (t : BootSt) (b : Image) : BootSt := if t.activeB then { t with bankA := some b } else { t with bankB := some b }

theorem BootSt.staged_inactive (t : BootSt) (b : Image) : (t.staged b).inactive = some b := by
  cases h : t.activeB <;> simp [BootSt.staged, BootSt.inactive, h]

theorem BootSt.staged_active (t : BootSt) (b : Image) : (t.staged b).active = t.active := by
  cases h : t.activeB <;> simp [BootSt.staged, BootSt.active, h]

/-- The map slots with a map in the inactive one (R66). -/
def MapSt.staged (m : MapSt) (f : List Nat) : MapSt := if m.activeB then { m with slotA := some f } else { m with slotB := some f }

theorem MapSt.staged_inactive (m : MapSt) (f : List Nat) : (m.staged f).inactive = some f := by
  cases h : m.activeB <;> simp [MapSt.staged, MapSt.inactive, h]

theorem MapSt.staged_active (m : MapSt) (f : List Nat) : (m.staged f).active = m.active := by
  cases h : m.activeB <;> simp [MapSt.staged, MapSt.active, h]

theorem MapSt.staged_force (m : MapSt) (f : List Nat) : (m.staged f).force = m.force := by
  cases h : m.activeB <;> simp [MapSt.staged, h]

/-! ## What is shown -/

@[simp] theorem State.showStaged_boot (s : State) : s.showStaged.boot = s.boot := rfl

theorem State.showStaged_rd_staged_fw (s : State) : s.showStaged.rd .boot_status_staged_fw 0 = bit01 s.boot.inactive.isSome :=
  (State.rd_wr_ne _ _ (by decide)).trans (State.rd_wrBit_same _ _ _ _)

@[simp] theorem State.showMap_map (s : State) : s.showMap.map = s.map := rfl

@[simp] theorem State.showStaging_boot (s : State) : s.showStaging.boot = s.boot := rfl

theorem State.showStaging_rd_staging (s : State) :
    s.showStaging.rd .boot_status_staging 0 = bit01 (s.boot.xferIn.isSome || s.boot.xferOut.isSome) := State.rd_wrBit_same _ _ _ _

@[simp] theorem State.sendBulk_boot (s : State) (x : Xfer) (at0 n : Nat) : (s.sendBulk x at0 n).boot = s.boot :=
  (State.sendBulk_evolves (M := allBut 10) x at0 n (.refl s) rfl).boot rfl

/-! ## FW_STAGE in this module (R66, R474, R479) -/

theorem exec_fwStageFirmware (h : Hdr) (length dst buf : Nat) (image : List Nat) (s : State) :
    exec (.fwStageFirmware h length dst buf image) s = execFwStageFirmware h length dst buf image s := rfl

theorem exec_fwStageElementMap (h : Hdr) (length dst buf : Nat) (image : List Nat) (s : State) :
    exec (.fwStageElementMap h length dst buf image) s = execFwStageElementMap h length dst buf image s := rfl

theorem State.stageFw_accepted {s : State} {b : Image} (hf : imgFormed b = true) (hr : s.imgRejected b = false)
    (ho : s.flashRefused = false) : s.stageFw b = ((s.modBoot (·.staged b)).showStaged, .ok) := by
  unfold State.stageFw
  rw [hf, hr, ho]
  rfl

theorem State.stageMap_accepted {s : State} {f : List Nat} (hc : mapCheck s.loopShape f = none) (ho : s.flashRefused = false) :
    s.stageMap f = (({ s.showCheck none with map := s.map.staged f } : State).showMap, .ok) := by
  unfold State.stageMap
  rw [hc, ho]
  rfl

theorem State.dstBad_here (s : State) : s.dstBad 0 = false := rfl

section
variable {h : Hdr} {length buf : Nat} {image : List Nat} {s : State} (hl : image.length = length)
  (hb : s.badSrc h buf 16 length = false) (hm : h.mbx = 0) (hs : s.stageBusy 0 = false)
include hl hb hm hs

theorem execFwStageFirmware_here (h0 : length ≠ 0) (h1 : length ≤ 33554432) :
    execFwStageFirmware h length 0 buf image s = .next ((s.stageFw image).1.status h (s.stageFw image).2) := by
  unfold execFwStageFirmware
  rw [State.checked_pass _ _ _ _ (by simp [h0, h1, hl, hb, hm, hs, State.dstBad_here])]
  rfl

theorem execFwStageElementMap_here (h0 : mapLengthOk length = true) :
    execFwStageElementMap h length 0 buf image s = .next ((s.stageMap image).1.status h (s.stageMap image).2) := by
  unfold execFwStageElementMap
  rw [State.checked_pass _ _ _ _ (by simp [h0, hl, hb, hm, hs, State.dstBad_here])]
  rfl

end

/-! ## A transfer that comes in (R480) -/

theorem exec_fwBulkData (src kind xferId total offset : Nat) (data : List Nat) (s : State) :
    exec (.fwBulkData src kind xferId total offset data) s = execFwBulkData src kind xferId total offset data s := rfl

/-- The first DATA of a transfer, short of its whole image, is kept and not yet answered. -/
theorem State.takeBulk_first {s : State} {x : XferIn} {data : List Nat} (hd : x.data = []) (hf : x.frames = 0)
    (ht : data.length < x.total) :
    s.takeBulk x 0 data = s.modBoot (fun t => { t with xferIn := some { x with data := data, frames := 1 } }) := by
  unfold State.takeBulk
  rw [if_neg (Nat.not_lt_zero _)]
  simp [hd, hf, Nat.not_le.mpr ht]

theorem execFwBulkData_first {src kind xferId total : Nat} {data : List Nat} {s : State} (hx : s.boot.xferIn = none)
    (ha : s.rd .chp_remote_accept 0 ≠ 0) (hc : (s.rd .chp_remote_class_en 0).testBit 8 = true) (hn : s.activating = false)
    (ht : data.length < total) :
    let x : XferIn := { src := src, kind := kind, xferId := xferId, total := total }
    execFwBulkData src kind xferId total 0 data s = .next ((s.modBoot (fun t => { t with xferIn := some x })).showStaging.modBoot
      (fun t => { t with xferIn := some { x with data := data, frames := 1 } })) := by
  intro x
  have hp : ¬ ((!s.bit .chp_remote_accept 0) = true ∨ (s.rd .chp_remote_class_en 0).testBit 8 = false) := by
    simp [State.bit, ha, hc]
  unfold execFwBulkData
  simp only [hx]
  rw [if_neg hp, hn, if_neg Bool.false_ne_true, State.takeBulk_first rfl rfl ht]

/-! ## A transfer that goes out (R480) -/

theorem exec_fwBulkStatus (src xferId acked : Nat) (s : State) :
    exec (.fwBulkStatus src xferId acked) s = execFwBulkStatus src xferId acked s := rfl

theorem exec_fwBulkDone (src xferId status : Nat) (s : State) :
    exec (.fwBulkDone src xferId status) s = execFwBulkDone src xferId status s := rfl

theorem exec_fwBulkTimeout (late : Bool) (s : State) : exec (.fwBulkTimeout late) s = execFwBulkTimeout late s := rfl

section
variable {s : State} {x : Xfer}

theorem State.endXfer_boot (st : Status) : (s.endXfer x st).boot = { s.boot with xferOut := none } := rfl

theorem State.endXfer_rd_staging (st : Status) :
    (s.endXfer x st).rd .boot_status_staging 0 = bit01 s.boot.xferIn.isSome := by
  unfold State.endXfer
  rw [State.finish_rd _ _ _ (by decide), State.showStaging_rd_staging]
  simp

theorem State.endXfer_concludes (st : Status) : s.Concludes (s.endXfer x st) x.owner { status := st } :=
  (State.finish_concludes _ _ _).of_mbx rfl

/-- The outgoing transfer after a STATUS. -/
def Xfer.resumed (x : Xfer) (acked now : Nat) : Xfer := { x with
  acked := acked, attempts := 0, sentAt := now
  wholeAt := if acked = x.image.length then some (x.wholeAt.getD now) else none }

/-- The outgoing transfer after an attempt without a STATUS. -/
def Xfer.retried (x : Xfer) (now : Nat) : Xfer := { x with attempts := x.attempts + 1, sentAt := now }

variable (hx : s.boot.xferOut = some x)
include hx

theorem execFwBulkStatus_resumes {acked : Nat} (ha : acked ≤ x.image.length) : execFwBulkStatus x.dst x.xferId acked s =
    .next ((s.modBoot (fun t => { t with xferOut := some (x.resumed acked s.loop.frames) })).sendBulk
      (x.resumed acked s.loop.frames) acked 64) := by
  unfold execFwBulkStatus
  simp only [hx, ha, and_self, if_true]
  rfl

theorem execFwBulkDone_ends (status : Nat) : execFwBulkDone x.dst x.xferId status s = .next (s.endXfer x (Status.ofCode status)) := by
  unfold execFwBulkDone
  simp only [hx, and_self, if_true]

/-- With the whole image acknowledged only the 30 s for DONE run. -/
theorem execFwBulkTimeout_whole {t : Nat} (hw : x.wholeAt = some t) (late : Bool) : execFwBulkTimeout late s = .next
    (if late = true ∧ t + framesIn 30000000000 ≤ s.loop.frames then s.endXfer x .remoteTimeout else s) := by
  unfold execFwBulkTimeout
  simp only [hx, hw]
  cases late <;> simp

/-- With part of the image not acknowledged only the 10 ms for STATUS run. -/
theorem execFwBulkTimeout_part_late (hw : x.wholeAt = none) : execFwBulkTimeout true s = .next s := by
  unfold execFwBulkTimeout
  simp only [hx, hw]

theorem execFwBulkTimeout_part (hw : x.wholeAt = none) : execFwBulkTimeout false s = .next
    (if s.loop.frames < x.sentAt + framesIn 10000000 then s
    else if 3 ≤ x.attempts then s.endXfer x .remoteTimeout
    else (s.modBoot (fun t => { t with xferOut := some (x.retried s.loop.frames) })).sendBulk (x.retried s.loop.frames) x.acked 64) := by
  unfold execFwBulkTimeout
  simp only [hx, hw, Xfer.retried]

end

theorem execFwBulkTimeout_none {s : State} (late : Bool) (hx : s.boot.xferOut = none) : execFwBulkTimeout late s = .next s := by
  unfold execFwBulkTimeout
  rw [hx]

/-- Settles O46: each command and frame by its own rule above. -/
theorem stagingCommandsComplete : Obligations.StagingCommandsComplete := by
  unfold Obligations.StagingCommandsComplete
  refine ⟨fun h length buf image s h0 h1 hl hb hm hs hf hr ho => ?_, fun h length buf image s h0 hl hb hm hs hc ho => ?_,
    fun src kind xferId total data s hx ha hc hn ht => ?_, fun x acked s hx ha => ?_, fun x status s hx => ?_,
    fun s late hx => execFwBulkTimeout_none late hx, fun s x hx => ?_⟩
  · rw [exec_fwStageFirmware, execFwStageFirmware_here hl hb hm hs h0 h1,
      State.stageFw_accepted hf hr (State.flashRefused_of_rd ho)]
    refine ⟨_, rfl, State.status_finished _ _ _, ?_, ?_, ?_⟩
    · rw [State.status_boot]; exact s.boot.staged_inactive image
    · rw [State.status_boot]; exact s.boot.staged_active image
    · rw [State.status_rd _ _ _ (by decide), State.showStaged_rd_staged_fw, State.modBoot_boot, BootSt.staged_inactive]
      rfl
  · rw [exec_fwStageElementMap, execFwStageElementMap_here hl hb hm hs h0,
      State.stageMap_accepted hc (State.flashRefused_of_rd ho)]
    refine ⟨_, rfl, State.status_finished _ _ _, ?_⟩
    rw [State.status_map, State.showMap_map]
    exact ⟨s.map.staged_inactive image, s.map.staged_active image, s.map.staged_force image⟩
  · exact ⟨_, (exec_fwBulkData ..).trans (execFwBulkData_first hx ha hc hn ht),
      (State.modBoot_rd _ _ _ _).trans (State.showStaging_rd_staging _), rfl⟩
  · exact ⟨_, (exec_fwBulkStatus ..).trans (execFwBulkStatus_resumes hx ha), State.sendBulk_boot _ _ _ _⟩
  · exact ⟨_, (exec_fwBulkDone ..).trans (execFwBulkDone_ends hx status), State.endXfer_boot _, State.endXfer_rd_staging _,
      State.endXfer_concludes _⟩
  · refine ⟨fun t hw => ?_, fun hw => ?_⟩
    · have he (late) := (exec_fwBulkTimeout late s).trans (execFwBulkTimeout_whole hx hw late)
      rw [he, he, if_neg (by simp)]
      refine ⟨rfl, fun hlt => by rw [if_neg (by omega)], fun hle => ?_⟩
      rw [if_pos ⟨rfl, hle⟩]
      exact ⟨_, rfl, State.endXfer_boot _, State.endXfer_concludes _⟩
    · rw [exec_fwBulkTimeout, exec_fwBulkTimeout, execFwBulkTimeout_part_late hx hw, execFwBulkTimeout_part hx hw]
      refine ⟨rfl, fun hlt => by rw [if_pos hlt], fun hle => ?_⟩
      rw [if_neg (by omega)]
      by_cases ha : x.attempts < 3
      · rw [if_neg (by omega)]
        exact ⟨_, rfl, by rw [if_pos ha]; exact State.sendBulk_boot _ _ _ _⟩
      · rw [if_pos (by omega)]
        exact ⟨_, rfl, by rw [if_neg ha]; exact ⟨State.endXfer_boot _, State.endXfer_concludes _⟩⟩

end Sys2Proof.Machine

/-! PROOFS. Activation (O47, R67 to R69, R285, R286, R472, R481): what FW_ACTIVATE of firmware and of a map starts, and what the
restarted Forester and the written marker leave. -/

namespace Sys2Proof.Machine

set_option exponentiation.threshold 2048

theorem exec_fwActivateFirmware (h : Hdr) (s : State) : exec (.fwActivateFirmware h) s = execFwActivateFirmware h s := rfl

theorem exec_foresterRestartComplete (fuseOk : Bool) (s : State) :
    exec (.foresterRestartComplete fuseOk) s = execForesterRestartComplete fuseOk s := rfl

theorem exec_fwActivateElementMap (h : Hdr) (s : State) : exec (.fwActivateElementMap h) s = execFwActivateElementMap h s := rfl

theorem exec_flashWriteComplete (op : FlashOp) (s : State) : exec (.flashWriteComplete op) s = execFlashWriteComplete op s := rfl

/-! ## FW_ACTIVATE of firmware (R285, R472) -/

@[simp] theorem State.countRefused_boot (s : State) : s.countRefused.boot = s.boot := rfl
@[simp] theorem State.countRefused_flt (s : State) : s.countRefused.flt = s.flt := rfl

/-- The activation in RECOVERY (R472): the marker moves and DRST is requested. -/
def State.recover (s : State) : State :=
  { s with boot := { s.boot with activeB := !s.boot.activeB }, flt := { s.flt with drstPending := true } }

/-- Step 1 of an activation (R285, R286): the shadow goes OFFLINE. -/
def State.startActivation (s : State) (h : Hdr) : State :=
  (((s.entered h).modBoot (fun t => { t with actStep := 1, actOwner := some ((s.entered h).ownerOf h) })).wrBit
    .boot_status_activating 0 true).offline s.shadow

theorem State.startActivation_actStep (s : State) (h : Hdr) : (s.startActivation h).boot.actStep = 1 := by
  unfold State.startActivation
  rw [(State.offline_evolves (M := allBut 10) _ (.refl _) rfl).boot rfl]
  rfl

theorem State.startActivation_activating (s : State) (h : Hdr) : (s.startActivation h).rd .boot_status_activating 0 = 1 := by
  unfold State.startActivation
  rw [(State.offline_evolves (M := allBut (17 + Fid.ctorIdx .boot_status_activating)) _ (.refl _) rfl).rd _ _ rfl,
    State.rd_wrBit_same]
  rfl

/-- FW_ACTIVATE of firmware whose checks pass (R481): in RECOVERY a refused flash write ends it, else it is done at once; outside
RECOVERY step 1 starts. -/
theorem execFwActivateFirmware_passes {h : Hdr} {b : Image} {s : State} (hm : h.mbx = 0) (hi : s.boot.inactive = some b)
    (hb : s.fwBusy = false) (hf : imgFormed b = true) (hr : s.imgRejected b = false)
    (ha : s.rd .boot_status_recovery 0 ≠ 0 ∨ s.mayActivate b = true) : execFwActivateFirmware h s = .next
      (if s.rd .boot_status_recovery 0 ≠ 0 ∧ s.flashRefused = true then s.countRefused.status h .tempInhibit
      else if s.rd .boot_status_recovery 0 ≠ 0 then s.recover.status h .ok
      else s.startActivation h) := by
  have hl : (!s.bit .boot_status_recovery 0 && !s.mayActivate b) = false := by
    rcases ha with ha | ha <;> simp [State.bit, ha]
  unfold execFwActivateFirmware
  simp only [hi, Option.getD_some]
  rw [State.checked_pass _ _ _ _ (by simp [hm, hb, hf, hr, hl])]
  simp only [State.bit, bne_iff_ne]
  rfl

/-! ## The restarted Forester (R286, R481) -/

/-- The new firmware in force: the marker moves, the activation ends, the image is measured and shown. -/
def State.newFirmware (s : State) (b : Image) : State :=
  let s1 := s.modBoot (fun t => { t with actStep := 0, actOwner := none, activeB := !t.activeB })
  let s2 := ((s1.extend 1 (sectionBytes b 0x1C)).extend 2 (sectionBytes b 0x24)).extend 3 (b.take 0xC0)
  (((s2.wr .boot_fw_ver_version 0 (imgVersion b)).wrBit .boot_status_bank 0 (!s.boot.activeB)).wrBit
    .boot_status_sig_ok 0 (imgSigOk b)).wrBit .boot_status_activating 0 false

theorem execForesterRestartComplete_ends {b : Image} {s : State} (fuseOk : Bool) (hs : s.boot.actStep = 6)
    (hi : s.boot.inactive = some b) (ho : s.flashRefused = false) (he : s.rd .boot_fuse_sig_enf 0 = 0) :
    execForesterRestartComplete fuseOk s =
      .next ((s.newFirmware b).showStaged.finishOpt s.boot.actOwner { status := .ok }) := by
  have hb : s.bit .boot_fuse_sig_enf 0 = false := by simp [State.bit, he]
  unfold execForesterRestartComplete
  simp only [hs, hi, ho, hb, Option.getD_some, ne_eq, not_true_eq_false, if_false]
  rfl

theorem State.finishOpt_boot (s : State) (o : Option Owner) (c : Completion) : (s.finishOpt o c).boot = s.boot := by
  cases o <;> rfl

theorem State.finishOpt_rd (s : State) (o : Option Owner) (c : Completion) {f : Fid} {i : Nat} (hf : f ≠ .mbx_status_inflight) :
    (s.finishOpt o c).rd f i = s.rd f i := by
  cases o with
  | none => rfl
  | some o => exact s.finish_rd o c hf

theorem State.showStaged_rd (s : State) {f : Fid} {i : Nat} (h : f ∉ [.boot_status_staged_fw, .boot_staged_ver_version]) :
    s.showStaged.rd f i = s.rd f i :=
  (State.showStaged_evolves (M := frameMask [.boot_status_staged_fw, .boot_staged_ver_version] []) (.refl s) rfl).frame.1 f h i

theorem State.newFirmware_rd_activating (s : State) (b : Image) : (s.newFirmware b).rd .boot_status_activating 0 = 0 :=
  State.rd_wrBit_same _ _ _ _

theorem State.newFirmware_rd_version (s : State) (b : Image) :
    (s.newFirmware b).rd .boot_fw_ver_version 0 = imgVersion b % 2 ^ Fid.boot_fw_ver_version.width := by
  unfold State.newFirmware
  rw [State.rd_wrBit_ne _ _ (by decide), State.rd_wrBit_ne _ _ (by decide), State.rd_wrBit_ne _ _ (by decide),
    State.rd_wr_same]

/-! ## FW_ACTIVATE of a map (R67, R68) -/

/-- A command that has been entered is in flight under the number that its operation keeps (R384). -/
theorem State.entered_inFlight (s : State) (h : Hdr) : (s.entered h).InFlight h ((s.entered h).ownerOf h).id := by
  obtain ⟨f, hf, ho⟩ := s.entered_flightOf h
  have hp := List.find?_some hf
  simp only [Bool.and_eq_true, beq_iff_eq, decide_eq_true_eq] at hp
  obtain ⟨⟨htag, hcomp⟩, hrem⟩ := hp
  exact ⟨f, List.mem_of_find?_eq_some hf, by rw [ho], htag, hrem, hcomp⟩

theorem State.entered_ownerOf (s : State) (h : Hdr) : (s.entered h).ownerOf h = s.ownerOf h := by
  cases hn : s.flightOf h with
  | some f => rw [State.entered_of_flightOf hn]
  | none =>
    have hf : (s.entered h).flightOf h = some (s.newFlight h) := by
      unfold State.flightOf at hn ⊢
      rw [State.entered_mb_same hn, List.find?_append, hn]
      simp [State.newFlight]
    simp [State.ownerOf, hf, hn, State.newFlight]

theorem State.InFlight.of_mbx {s t : State} {h : Hdr} {id : Nat} (hf : s.InFlight h id) (ht : t.mbx = s.mbx) : t.InFlight h id := by
  rw [State.InFlight, State.mb, ht]
  exact hf

/-- A map activation that starts (R67): the map is measured and its check shown. -/
def State.startMapChange (s : State) (h : Hdr) (f : List Nat) : State :=
  let s1 := ((s.entered h).extend 4 f).showCheck none
  { s1 with map := { s1.map with change := some (s1.ownerOf h) } }.wrBit .boot_status_activating 0 true

theorem execFwActivateElementMap_starts {h : Hdr} {f : List Nat} {s : State} (hm : h.mbx = 0) (hi : s.map.inactive = some f)
    (hb : s.fwBusy = false) (hq : s.trv.queue = []) (hp : s.allParked = true) (hc : mapCheck s.loopShape f = none)
    (ho : s.flashRefused = false) : execFwActivateElementMap h s = .next (s.startMapChange h f) := by
  unfold execFwActivateElementMap
  simp only [hi, Option.getD_some]
  rw [State.checked_pass _ _ _ _ (by simp [hm, hb, hq, hp]), hc, ho]
  rfl

theorem State.startMapChange_map (s : State) (h : Hdr) (f : List Nat) :
    (s.startMapChange h f).map = { s.map with change := some (s.ownerOf h) } := by
  rw [← s.entered_ownerOf h, ← s.entered_map h]
  rfl

/-! ## The marker of a map activation (R67 to R69) -/

/-- The mask that names everything but the map, the mailboxes and ACTIVATING. -/
def besideMapChange : Nat := fullMask - 2 ^ 0 - 2 ^ 4 - 2 ^ (17 + Fid.ctorIdx .boot_status_activating)

/-- The end of a map activation: the map changes, then what the map gives, then ACTIVATING and the command. -/
theorem State.endActivation_eq (s : State) (o : Owner) : ∃ u,
    Evolves besideMapChange { s with map := { s.map with
      force := some (readMap (s.map.inactive.getD [])), activeB := !s.map.activeB, change := none } } u ∧
    s.endActivation o = (u.wrBit .boot_status_activating 0 false).finish o { status := .ok } :=
  ⟨_, State.showMap_evolves (State.putForce_evolves _ _ _ (State.loadMapSettings_evolves (State.remapSlots_evolves _
    (.ite (.refl _) (State.dropRecords_evolves (.refl _) rfl)) rfl) rfl) rfl) rfl, rfl⟩

theorem State.endActivation_leaves (s : State) (o : Owner) :
    (s.endActivation o).map = { s.map with
      force := some (readMap (s.map.inactive.getD [])), activeB := !s.map.activeB, change := none } ∧
    (s.endActivation o).rd .boot_status_activating 0 = 0 ∧ s.Concludes (s.endActivation o) o { status := .ok } := by
  obtain ⟨u, hu, he⟩ := s.endActivation_eq o
  rw [he]
  refine ⟨hu.map rfl, ?_, (State.finish_concludes _ _ _).of_mbx (hu.mbx rfl)⟩
  rw [State.finish_rd _ _ _ (by decide), State.rd_wrBit_same]
  rfl

theorem execFlashWriteComplete_idle {s : State} (h : s.map.change = none) : execFlashWriteComplete .mapMarker s = .next s := by
  unfold execFlashWriteComplete
  simp only [h]

theorem execFlashWriteComplete_ends {s : State} {o : Owner} (h : s.map.change = some o) :
    execFlashWriteComplete .mapMarker s = .next (s.endActivation o) := by
  unfold execFlashWriteComplete
  simp only [h]

/-- Settles O47: each activation by its own rule above. -/
theorem activationCommandsComplete : Obligations.ActivationCommandsComplete := by
  unfold Obligations.ActivationCommandsComplete
  refine ⟨fun h b s hm hi hb hf hr ha => ⟨_, (exec_fwActivateFirmware h s).trans
      (execFwActivateFirmware_passes hm hi hb hf hr ha), ?_⟩,
    fun fuseOk b s hs hi ho he => ⟨_, (exec_foresterRestartComplete fuseOk s).trans
      (execForesterRestartComplete_ends fuseOk hs hi (State.flashRefused_of_rd ho) he), ?_⟩,
    fun h f s hm hi hb hq hp hc ho => ⟨_, (exec_fwActivateElementMap h s).trans
      (execFwActivateElementMap_starts hm hi hb hq hp hc (State.flashRefused_of_rd ho)), ?_, State.rd_wrBit_same _ _ _ _,
      s.startMapChange_map h f⟩,
    fun s => ⟨fun hn => (exec_flashWriteComplete _ s).trans (execFlashWriteComplete_idle hn),
      fun o ho => ⟨_, (exec_flashWriteComplete _ s).trans (execFlashWriteComplete_ends ho), s.endActivation_leaves o⟩⟩⟩
  · split
    next => exact ⟨by simp, by simp, State.status_finished _ _ _⟩
    next =>
      split
      next => exact ⟨by simp [State.recover], by simp [State.recover], State.status_finished _ _ _⟩
      next =>
        obtain ⟨hst, hres⟩ := State.offline_leaves (((s.entered h).modBoot (fun t => { t with
          actStep := 1, actOwner := some ((s.entered h).ownerOf h) })).wrBit .boot_status_activating 0 true) s.shadow
        exact ⟨s.startActivation_actStep h, s.startActivation_activating h, hst, hres⟩
  · simp only [State.finishOpt_boot, State.finishOpt_rd _ _ _ (show Fid.boot_status_activating ≠ .mbx_status_inflight by decide),
      State.finishOpt_rd _ _ _ (show Fid.boot_fw_ver_version ≠ .mbx_status_inflight by decide)]
    refine ⟨rfl, rfl, rfl, ?_, ?_, fun o hown => (State.finishOpt_concludes _ _ hown).of_mbx rfl⟩
    · rw [State.showStaged_rd _ (by decide), State.newFirmware_rd_activating]
    · rw [State.showStaged_rd _ (by decide), State.newFirmware_rd_version]
  · rw [← s.entered_ownerOf h]
    exact (s.entered_inFlight h).of_mbx rfl

end Sys2Proof.Machine

/-! PROOFS. H-mode channels (O19, R146 to R162): the period of a channel that starts, DIRECT mode, what a channel does to protect
itself, the trips of a compartment, and the heaters that resume one by one. -/

namespace Sys2Proof.Machine

set_option exponentiation.threshold 2048

/-! ## Channels and fields -/

@[simp] theorem isV_hElem (h : Nat) : isV (hElem h) = false :=
  decide_eq_false (Nat.not_lt.mpr (Nat.le_add_right _ _))
@[simp] theorem hIdx_hElem (h : Nat) : hIdx (hElem h) = h := Nat.add_sub_cancel_left ..
@[simp] theorem elemCpt_hElem (h : Nat) : elemCpt (hElem h) = h / 256 := by simp [elemCpt, hElem]

@[simp] theorem State.wr_el (s : State) (f : Fid) (i v e : Nat) : (s.wr f i v).el e = s.el e := rfl
@[simp] theorem State.wr_hc (s : State) (f : Fid) (i v e : Nat) : (s.wr f i v).hc e = s.hc e := rfl
@[simp] theorem State.wrBit_el (s : State) (f : Fid) (i : Nat) (b : Bool) (e : Nat) : (s.wrBit f i b).el e = s.el e := rfl
@[simp] theorem State.wrBit_hc (s : State) (f : Fid) (i : Nat) (b : Bool) (e : Nat) : (s.wrBit f i b).hc e = s.hc e := rfl
@[simp] theorem State.report_el (s : State) (r : FaultRep) (e : Nat) : (s.report r).el e = s.el e := rfl
@[simp] theorem State.modHc_el (s : State) (k : Nat) (g : HCh → HCh) (e : Nat) : (s.modHc k g).el e = s.el e := rfl

theorem State.bit_eq_true {s : State} {f : Fid} {i : Nat} : s.bit f i = true ↔ s.rd f i ≠ 0 := by simp [State.bit]
theorem State.bit_eq_false {s : State} {f : Fid} {i : Nat} : s.bit f i = false ↔ s.rd f i = 0 := by simp [State.bit]

theorem State.rd_wrBit (s : State) (f g : Fid) (i j : Nat) (b : Bool) :
    (s.wrBit f i b).rd g j = if g = f ∧ j = i then bit01 b else s.rd g j := by
  split
  next h => obtain ⟨rfl, rfl⟩ := h; exact s.rd_wrBit_same g j b
  next h => exact s.rd_wrBit_ne b h

theorem exec_hmodePeriodBoundary (h : Fin 1024) (tick : Fin 100) (ion : Fin 256) (s : State) :
    exec (.hmodePeriodBoundary h tick ion) s = execHmodePeriodBoundary h tick ion s := rfl

/-! ## A period starts (R146, R151) -/

/-- The period that a channel takes next: in LOOP mode the configured one, in DIRECT mode that of PER_ACT (R146, R154). -/
def State.nextPer (s : State) (h : Nat) : Nat :=
  max 1 (if s.rd .ust_hpwm_mode_src h = 0 then s.rd .ust_hpwm_cfg_per h else s.rd .ust_hpwm_status_per_act h)

/-- The channel with its period of `per` ticks from tick `t0` in force, its next one dated, its compares not yet formed. -/
def State.periodBegun (s : State) (h per t0 : Nat) : State :=
  ((s.wr .ust_hpwm_status_per_act h per).showBlk h per).modHc (hElem h) (fun c => { c with nextAt := some (t0 + per) })

/-- The on-current measured in a pulse that conducted for `on` ticks, kept where that is long enough (R165). -/
def State.ionNoted (s : State) (h on ion : Nat) : State :=
  if 32 ≤ on then (s.wr .ust_hpwm_status_ion h ion).modHc (hElem h) (fun c => { c with measured := true }) else s

theorem State.periodBegun_rd (s : State) (h per t0 : Nat) {f : Fid} (i : Nat)
    (hf : f ∉ [.ust_hpwm_status_per_act, .ust_hpwm_status_pilot_blk]) : (s.periodBegun h per t0).rd f i = s.rd f i := by
  simp only [List.mem_cons, List.not_mem_nil, or_false, not_or] at hf
  simp [State.periodBegun, State.showBlk, State.rd_wrBit, State.rd_wr, hf]

theorem State.periodBegun_per (s : State) (h per t0 : Nat) :
    (s.periodBegun h per t0).rd .ust_hpwm_status_per_act h = per % 2 ^ Fid.ust_hpwm_status_per_act.width := by
  simp [State.periodBegun, State.showBlk, State.rd_wrBit]

theorem State.periodBegun_blk (s : State) (h per t0 : Nat) : (s.periodBegun h per t0).rd .ust_hpwm_status_pilot_blk h =
    bit01 ((s.erec (hElem h)).pilotEn && decide (32000 < per * (s.erec (hElem h)).pilotK)) :=
  State.rd_wrBit_same _ _ _ _

theorem State.periodBegun_hc (s : State) (h per t0 : Nat) :
    (s.periodBegun h per t0).hc (hElem h) = { s.hc (hElem h) with nextAt := some (t0 + per) } :=
  State.modHc_hc_same _ _ _

/-- From `s` to `t` a channel's period in force, the date of its next one and PILOT_BLK stay. -/
def State.PeriodKept (h : Nat) (s t : State) : Prop :=
  t.rd .ust_hpwm_status_per_act h = s.rd .ust_hpwm_status_per_act h ∧
  t.rd .ust_hpwm_status_pilot_blk h = s.rd .ust_hpwm_status_pilot_blk h ∧ (t.hc (hElem h)).nextAt = (s.hc (hElem h)).nextAt

/-- The mask of everything but a channel's period and PILOT_BLK. -/
def besidePeriod : Nat :=
  fullMask - 2 ^ (17 + Fid.ctorIdx .ust_hpwm_status_per_act) - 2 ^ (17 + Fid.ctorIdx .ust_hpwm_status_pilot_blk)

theorem State.PeriodKept.trans {h : Nat} {s t u : State} (a : s.PeriodKept h t) (b : t.PeriodKept h u) : s.PeriodKept h u :=
  ⟨b.1.trans a.1, b.2.1.trans a.2.1, b.2.2.trans a.2.2⟩

theorem State.PeriodKept.of_evolves {h : Nat} {s t : State} (he : Evolves besidePeriod s t)
    (hn : (t.hc (hElem h)).nextAt = (s.hc (hElem h)).nextAt) : s.PeriodKept h t :=
  ⟨he.rd _ h rfl, he.rd _ h rfl, hn⟩

theorem State.ionNoted_rd (s : State) (h on ion : Nat) {f : Fid} (i : Nat) (hf : f ≠ .ust_hpwm_status_ion) :
    (s.ionNoted h on ion).rd f i = s.rd f i := by
  unfold State.ionNoted
  split
  · rw [State.modHc_rd, State.rd_wr_ne _ _ fun e => hf e.1]
  · rfl

theorem State.ionNoted_hc (s : State) (h on ion : Nat) : (s.ionNoted h on ion).hc (hElem h) =
    { s.hc (hElem h) with measured := (s.hc (hElem h)).measured || decide (32 ≤ on) } := by
  unfold State.ionNoted
  split
  next h32 => rw [State.modHc_hc_same]; simp [h32]
  next h32 => simp [h32]

theorem State.ionNoted_periodKept (s : State) (h on ion : Nat) : s.PeriodKept h (s.ionNoted h on ion) :=
  ⟨s.ionNoted_rd h on ion h (by decide), s.ionNoted_rd h on ion h (by decide), by rw [State.ionNoted_hc]⟩

/-! ## The compares of a period (R148 to R150) -/

theorem State.runPeriod_compares (s : State) (h a b per on : Nat) :
    (s.runPeriod h a b per on).rd .ust_hpwm_act_a_act h = a % 2 ^ Fid.ust_hpwm_act_a_act.width ∧
    (s.runPeriod h a b per on).rd .ust_hpwm_act_b_act h = b % 2 ^ Fid.ust_hpwm_act_b_act.width := by
  simp [State.runPeriod, State.rd_wr]

theorem State.runPeriod_nextAt (s : State) (h a b per on : Nat) :
    ((s.runPeriod h a b per on).hc (hElem h)).nextAt = (s.hc (hElem h)).nextAt := by
  simp [State.runPeriod]

/-- The filter keeps a conducting time within the room that the dead time leaves in the period. -/
theorem minPulse_le {x minp per dead : Nat} (stretch : Bool) (hx : x ≤ per - dead) :
    (minPulse x minp per dead stretch).1 ≤ per - dead := by
  unfold minPulse
  split
  · exact hx
  · split
    next hs => exact Nat.le_sub_of_add_le (Nat.add_comm dead minp ▸ hs.2)
    next => exact Nat.zero_le _

theorem State.idlePeriod_periodKept (s : State) (h : Nat) : s.PeriodKept h (s.idlePeriod h) :=
  .of_evolves (State.idlePeriod_evolves _ (.refl s) rfl) (by simp [State.idlePeriod])

/-- A channel at high impedance has no pulse (R150, R156, R167). -/
theorem State.idlePeriod_leaves (s : State) (h : Nat) : (s.idlePeriod h).rd .ust_hpwm_act_a_act h = 0 ∧
    (s.idlePeriod h).rd .ust_hpwm_act_b_act h = 0 ∧ ((s.idlePeriod h).hc (hElem h)).residue = 0 ∧
    (s.idlePeriod h).rd .ust_hpwm_status_capped h = 0 := by
  simp [State.idlePeriod, State.rd_wr, State.rd_wrBit, bit01]

theorem State.loopPeriod_periodKept (s : State) (h t0 : Nat) : s.PeriodKept h (s.loopPeriod h t0) := by
  refine .of_evolves (State.loopPeriod_evolves _ _ (.refl s) rfl) ?_
  unfold State.loopPeriod
  dsimp only
  rw [State.runPeriod_nextAt, State.wrBit_hc]
  split <;> split <;> simp

/-- The pulse of the duty engine (R150): its length fits beside the dead time, and the stagger places it. -/
theorem State.loopPeriod_compares (s : State) (h t0 : Nat) {p dead : Nat} (hp : p = max 1 (s.rd .ust_hpwm_status_per_act h))
    (hd : dead = s.rd .ust_hpwm_cfg_dead h) : ∃ m, m ≤ p - dead ∧
    (s.loopPeriod h t0).rd .ust_hpwm_act_a_act h =
      s.rd .ust_hpwm_mode_stag h * (p - dead - m) / 15 % 2 ^ Fid.ust_hpwm_act_a_act.width ∧
    (s.loopPeriod h t0).rd .ust_hpwm_act_b_act h =
      min p (s.rd .ust_hpwm_mode_stag h * (p - dead - m) / 15 + dead + m) % 2 ^ Fid.ust_hpwm_act_b_act.width := by
  subst hp hd
  exact ⟨_, minPulse_le _ (Nat.min_le_right _ _), State.runPeriod_compares _ _ _ _ _ _⟩

theorem State.directPeriod_periodKept (s : State) (h : Nat) : s.PeriodKept h (s.directPeriod h) := by
  refine .of_evolves (State.directPeriod_evolves _ (.refl s) rfl) ?_
  unfold State.directPeriod
  dsimp only
  rw [State.runPeriod_nextAt, State.wrBit_hc]
  split <;> split <;> simp

theorem State.directPeriod_compareA (s : State) (h : Nat) : (s.directPeriod h).rd .ust_hpwm_act_a_act h =
    min (s.hc (hElem h)).a0 (max 1 (s.rd .ust_hpwm_status_per_act h)) % 2 ^ Fid.ust_hpwm_act_a_act.width :=
  (State.runPeriod_compares _ _ _ _ _ _).1

/-! ## HMODE_PERIOD_BOUNDARY -/

section PeriodBoundary

variable {h : Fin 1024} {tick : Fin 100} {ion : Fin 256} {s : State}

theorem execHmodePeriodBoundary_early (h0 : s.periodStart h (100 * s.loop.frames + tick.val) = none) :
    execHmodePeriodBoundary h tick ion s = .next s := by
  simp only [execHmodePeriodBoundary, h0]

variable {t0 : Nat} (h0 : s.periodStart h (100 * s.loop.frames + tick.val) = some t0)
include h0

/-- A period that is due begins; its compares are those of the channel's mode. -/
theorem execHmodePeriodBoundary_begins {u : State} (hu : u = s.periodBegun h (s.nextPer h) t0) :
    execHmodePeriodBoundary h tick ion s = .next (if s.rd .ust_hpwm_status_hiz h ≠ 0 then u.idlePeriod h
      else if s.rd .ust_hpwm_mode_src h ≠ 0 then (u.ionNoted h (s.hc (hElem h)).on ion).directPeriod h
      else (u.ionNoted h (s.hc (hElem h)).on ion).loopPeriod h t0) := by
  have hper : max 1 (if s.bit .ust_hpwm_mode_src h then s.rd .ust_hpwm_status_per_act h else s.rd .ust_hpwm_cfg_per h) =
      s.nextPer h := by
    unfold State.nextPer State.bit
    by_cases hs : s.rd .ust_hpwm_mode_src h = 0 <;> simp [hs]
  subst hu
  have hhiz : (s.periodBegun h (s.nextPer h) t0).rd .ust_hpwm_status_hiz h = s.rd .ust_hpwm_status_hiz h :=
    s.periodBegun_rd _ _ _ _ (by decide)
  have hsrc : ((s.periodBegun h (s.nextPer h) t0).ionNoted h (s.hc (hElem h)).on ion).rd .ust_hpwm_mode_src h =
      s.rd .ust_hpwm_mode_src h :=
    (State.ionNoted_rd _ _ _ _ _ (by decide)).trans (s.periodBegun_rd _ _ _ _ (by decide))
  simp only [← hhiz, ← hsrc, ← State.bit_eq_true]
  unfold execHmodePeriodBoundary
  simp only [h0, hper]
  rfl

end PeriodBoundary

/-! ## DIRECT mode (R154, R155) -/

theorem exec_hpwmSrcWrite (h : Fin 1024) (v : Bool) (s : State) : exec (.hpwmSrcWrite h v) s = execHpwmSrcWrite h v s := rfl
theorem exec_pcommitWrite (h : Fin 1024) (s : State) : exec (.pcommitWrite h) s = execPcommitWrite h s := rfl
theorem exec_shadowTransfer (h : Fin 1024) (reg : Fin 3) (s : State) :
    exec (.shadowTransfer h reg) s = execShadowTransfer h reg s := rfl

/-- DIRECT mode taken up with the period and compares in force copied (R154). -/
def State.directBegun (s : State) (h : Nat) : State :=
  ((((s.wrBit .ust_hpwm_mode_src h true).wr .ust_hpwm_shper_per_sh h (s.rd .ust_hpwm_status_per_act h)).wr
    .ust_hpwm_shcmp_a_sh h (s.rd .ust_hpwm_act_a_act h)).wr .ust_hpwm_shcmp_b_sh h (s.rd .ust_hpwm_act_b_act h)).modHc (hElem h)
    (fun c => { c with a0 := s.rd .ust_hpwm_act_a_act h, b0 := s.rd .ust_hpwm_act_b_act h, due := [] })

section SrcWrite

variable {h : Fin 1024} {s : State} (hc : s.covers (hOffset h 0x20400) .ust_hpwm_mode_src h = true)
include hc

theorem execHpwmSrcWrite_loop : execHpwmSrcWrite h false s = .next (s.wr .ust_hpwm_mode_src h 0) := by
  unfold execHpwmSrcWrite State.expertWrite
  rw [if_pos hc]
  rfl

theorem execHpwmSrcWrite_direct (hm : (s.el (hElem h)).state = 4) (hs : s.rd .ust_hpwm_mode_src h = 0) :
    execHpwmSrcWrite h true s = .next (s.directBegun h) := by
  have hno : ¬ ((s.el (hElem h)).state ≠ 4 ∨ s.bit .ust_hpwm_mode_src h = true) := by simp [hm, State.bit, hs]
  unfold execHpwmSrcWrite State.expertWrite
  rw [if_pos hc]
  exact congrArg _ (if_neg hno)

end SrcWrite

theorem State.directBegun_leaves (s : State) (h : Nat) : (s.directBegun h).rd .ust_hpwm_mode_src h = 1 ∧
    ((s.directBegun h).hc (hElem h)).a0 = s.rd .ust_hpwm_act_a_act h ∧
    ((s.directBegun h).hc (hElem h)).b0 = s.rd .ust_hpwm_act_b_act h ∧ (s.directBegun h).rd .ust_hpwm_shper_per_sh h =
      s.rd .ust_hpwm_status_per_act h % 2 ^ Fid.ust_hpwm_shper_per_sh.width := by
  simp [State.directBegun, State.rd_wr, State.rd_wrBit, bit01]

/-- The shadow period passed to the active one (R155). -/
theorem State.transfer_period (s : State) (h : Nat) : (s.transfer h 0).rd .ust_hpwm_status_per_act h =
    max 1 (s.rd .ust_hpwm_shper_per_sh h) % 2 ^ Fid.ust_hpwm_status_per_act.width := State.rd_wr_same _ _ _ _

theorem State.transfer_a (s : State) (h : Nat) : (s.transfer h 1).hc (hElem h) =
    { s.hc (hElem h) with a0 := s.rd .ust_hpwm_shcmp_a_sh h } := State.modHc_hc_same _ _ _

theorem State.transfer_b (s : State) (h : Nat) : (s.transfer h 2).hc (hElem h) =
    { s.hc (hElem h) with b0 := s.rd .ust_hpwm_shcmp_b_sh h } := State.modHc_hc_same _ _ _

/-- A transfer leaves which shadow registers are due. -/
theorem State.transfer_due (s : State) (h reg : Nat) : ((s.transfer h reg).hc (hElem h)).due = (s.hc (hElem h)).due := by
  unfold State.transfer
  dsimp only
  split <;> simp

/-- The three shadow registers passed as a pair commit asks for, which ends with it (R155). -/
def State.pairPassed (s : State) (h : Nat) : State :=
  ((((s.transfer h 0).transfer h 1).transfer h 2).wrBit .ust_hpwm_mode_pcommit h false).modHc (hElem h)
    (fun c => { c with due := [] })

theorem State.pairPassed_leaves (s : State) (h : Nat) : (s.pairPassed h).rd .ust_hpwm_mode_pcommit h = 0 ∧
    (s.pairPassed h).rd .ust_hpwm_status_per_act h =
      max 1 (s.rd .ust_hpwm_shper_per_sh h) % 2 ^ Fid.ust_hpwm_status_per_act.width ∧
    ((s.pairPassed h).hc (hElem h)).a0 = s.rd .ust_hpwm_shcmp_a_sh h ∧
    ((s.pairPassed h).hc (hElem h)).b0 = s.rd .ust_hpwm_shcmp_b_sh h := by
  simp [State.pairPassed, State.transfer, State.rd_wr, State.rd_wrBit, bit01]

section Transfer

variable {h : Fin 1024} {s : State} (hs : s.rd .ust_hpwm_mode_src h ≠ 0)
include hs

theorem execShadowTransfer_auto {reg : Fin 3} (ha : s.rd .ust_hpwm_mode_auto h ≠ 0) (hd : reg.val ∈ (s.hc (hElem h)).due) :
    execShadowTransfer h reg s = .next ((s.modHc (hElem h) (fun c =>
      { c with due := c.due.filter (fun x => x != reg.val) })).transfer h reg) := by
  unfold execShadowTransfer
  simp [State.bit_eq_true.mpr hs, State.bit_eq_true.mpr ha, hd]

theorem execShadowTransfer_pair (reg : Fin 3) (ha : s.rd .ust_hpwm_mode_auto h = 0) (hp : s.rd .ust_hpwm_mode_pcommit h ≠ 0) :
    execShadowTransfer h reg s = .next (s.pairPassed h) := by
  unfold execShadowTransfer
  simp [State.bit_eq_true.mpr hs, State.bit_eq_false.mpr ha, State.bit_eq_true.mpr hp, State.pairPassed]

end Transfer

/-! ## Protection (R162) -/

theorem exec_hmodeOvercurrent (h : Fin 1024) (s : State) :
    exec (.hmodeOvercurrent h) s = .next (s.hProtect h .ust_hpwm_status_oc 0x18 2) := rfl
theorem exec_hmodeFastTrip (h : Fin 1024) (s : State) :
    exec (.hmodeFastTrip h) s = .next (s.hProtect h .ust_hpwm_status_oc 0x18 2) := rfl
theorem exec_hmodeLeakage (h : Fin 1024) (s : State) :
    exec (.hmodeLeakage h) s = .next (s.hProtect h .ust_hpwm_status_leak 0x19 3) := rfl
theorem exec_hmodeOcLeakClearWrite (h : Fin 1024) (oc leak : Bool) (s : State) :
    exec (.hmodeOcLeakClearWrite h oc leak) s = .next (s.clearLatches h oc leak) := rfl

/-- High impedance is written with CAPPED and nothing else of the register file. -/
theorem State.setHiz_rd (s : State) (e : Nat) (b : Bool) {f : Fid} (i : Nat)
    (hf : f ∉ [.ust_hpwm_status_hiz, .ust_hpwm_status_capped]) : (s.setHiz e b).rd f i = s.rd f i := by
  simp only [List.mem_cons, List.not_mem_nil, or_false, not_or] at hf
  unfold State.setHiz
  dsimp only
  split <;> simp [State.rd_wrBit, hf]

theorem State.setHiz_hiz (s : State) (e : Nat) (b : Bool) (i : Nat) : (s.setHiz e b).rd .ust_hpwm_status_hiz i =
    if i = hIdx e then bit01 b else s.rd .ust_hpwm_status_hiz i := by
  unfold State.setHiz
  dsimp only
  split <;> simp [State.rd_wrBit]

@[simp] theorem State.setHiz_el (s : State) (e : Nat) (b : Bool) (k : Nat) : (s.setHiz e b).el k = s.el k := by
  unfold State.setHiz
  dsimp only
  split <;> rfl

@[simp] theorem State.setState_el_same (s : State) (e st : Nat) : ((s.setState e st).el e).state = st := by
  simp [State.setState]

/-- The mask of everything but high impedance, the latches of a channel and the fault collector. -/
def besideProtection : Nat := fullMask - 2 ^ 7 - 2 ^ (17 + Fid.ctorIdx .ust_hpwm_status_hiz)
  - 2 ^ (17 + Fid.ctorIdx .ust_hpwm_status_oc) - 2 ^ (17 + Fid.ctorIdx .ust_hpwm_status_leak)

/-- An element in a running state whose channel is lost is SUSPECT (R205). -/
theorem State.loseElem_suspect (s : State) (e event : Nat) (h1 : 1 ≤ (s.el e).state) (h4 : (s.el e).state ≤ 4) :
    ((s.loseElem e event).el e).state = 5 := by
  unfold State.loseElem
  dsimp only
  rw [if_pos ⟨h1, h4⟩]
  generalize State.dropMove _ e .busy = u
  have hloop := (State.settled_evolves (M := allBut 1) e
    (State.supEvent_evolves e event 0 (.refl (u.enterSuspect e (s.el e).drive)) rfl) rfl).loop rfl
  rw [State.el, hloop, ← State.el]
  simp [State.enterSuspect]

/-- A channel at high impedance with its latch set and its report made (R162). -/
def State.shielded (s : State) (h : Nat) (latch : Fid) (src : Nat) : State :=
  ((s.wrBit latch h true).setHiz (hElem h) true).report { src := src, objKind := 1, obj := hElem h }

/-- A channel not at high impedance protects itself, and its element is lost (R162). -/
theorem State.hProtect_eq {s : State} {h : Nat} (latch : Fid) (src event : Nat) (hz : s.rd .ust_hpwm_status_hiz h = 0) :
    s.hProtect h latch src event = (s.shielded h latch src).loseElem (hElem h) event :=
  if_neg (ne_true_of_eq_false (State.bit_eq_false.mpr hz))

theorem State.shielded_el (s : State) (h : Nat) (latch : Fid) (src e : Nat) : (s.shielded h latch src).el e = s.el e := by
  rw [State.shielded, State.report_el, State.setHiz_el, State.wrBit_el]

theorem State.shielded_latch (s : State) (h : Nat) {latch : Fid} (src : Nat)
    (hl : latch ∉ [.ust_hpwm_status_hiz, .ust_hpwm_status_capped]) : (s.shielded h latch src).rd latch h = 1 := by
  rw [State.shielded, State.report_rd, State.setHiz_rd _ _ _ _ hl, State.rd_wrBit_same]
  rfl

theorem State.shielded_hiz (s : State) (h : Nat) (latch : Fid) (src : Nat) :
    (s.shielded h latch src).rd .ust_hpwm_status_hiz h = 1 := by
  rw [State.shielded, State.report_rd, State.setHiz_hiz, hIdx_hElem, if_pos rfl]
  rfl

theorem State.shielded_reports (s : State) (h : Nat) (latch : Fid) (src : Nat) :
    { src := src, objKind := 1, obj := hElem h } ∈ (s.shielded h latch src).flt.reports := by
  rw [State.shielded, State.report_reports]
  exact List.mem_append_right _ (List.mem_singleton.mpr rfl)

theorem State.hProtect_leaves {s : State} {h : Nat} {latch : Fid} (src event : Nat) (hz : s.rd .ust_hpwm_status_hiz h = 0)
    (hl : latch = .ust_hpwm_status_oc ∨ latch = .ust_hpwm_status_leak) :
    (s.hProtect h latch src event).rd latch h = 1 ∧ (s.hProtect h latch src event).rd .ust_hpwm_status_hiz h = 1 ∧
    { src := src, objKind := 1, obj := hElem h } ∈ (s.hProtect h latch src event).flt.reports ∧
    (1 ≤ (s.el (hElem h)).state → (s.el (hElem h)).state ≤ 4 →
      ((s.hProtect h latch src event).el (hElem h)).state = 5) := by
  rw [State.hProtect_eq latch src event hz]
  have hev : Evolves besideProtection (s.shielded h latch src) ((s.shielded h latch src).loseElem (hElem h) event) :=
    State.loseElem_evolves _ _ (.refl _) rfl
  have hkept : besideProtection.testBit (17 + latch.ctorIdx) = false := by rcases hl with rfl | rfl <;> rfl
  refine ⟨(hev.rd latch h hkept).trans (s.shielded_latch h src (by rcases hl with rfl | rfl <;> decide)),
    (hev.rd _ h rfl).trans (s.shielded_hiz h latch src), hev.flt rfl ▸ s.shielded_reports h latch src, fun h1 h4 => ?_⟩
  rw [← s.shielded_el h latch src] at h1 h4
  exact State.loseElem_suspect _ _ _ h1 h4

/-- The latches named cleared (R162). -/
def State.latchesCleared (s : State) (h : Nat) (oc leak : Bool) : State :=
  let s1 := if oc then s.wrBit .ust_hpwm_status_oc h false else s
  if leak then s1.wrBit .ust_hpwm_status_leak h false else s1

theorem State.latchesCleared_rd (s : State) (h : Nat) (oc leak : Bool) :
    (s.latchesCleared h oc leak).rd .ust_hpwm_status_oc h = (if oc then 0 else s.rd .ust_hpwm_status_oc h) ∧
    (s.latchesCleared h oc leak).rd .ust_hpwm_status_leak h = (if leak then 0 else s.rd .ust_hpwm_status_leak h) := by
  cases oc <;> cases leak <;> simp [State.latchesCleared, State.rd_wrBit, bit01]

/-- A channel with a latch set has those named cleared; with none left it leaves high impedance at duty 0. -/
theorem State.clearLatches_eq {s : State} {h : Nat} (oc leak : Bool) (hl : s.latched (hElem h) = true) :
    s.clearLatches h oc leak = if (s.latchesCleared h oc leak).latched (hElem h) then s.latchesCleared h oc leak
      else (((s.latchesCleared h oc leak).modEl (hElem h) (fun x => { x with waiting := true, out := 0 })).modHc (hElem h)
        (fun c => { c with duty := 0 })).setHiz (hElem h) ((s.latchesCleared h oc leak).hizNow (hElem h)) :=
  if_neg (by simp [hl])

theorem State.clearLatches_leaves (s : State) (h : Nat) (oc leak : Bool) :
    (s.clearLatches h oc leak).rd .ust_hpwm_status_oc h = (if oc then 0 else s.rd .ust_hpwm_status_oc h) ∧
    (s.clearLatches h oc leak).rd .ust_hpwm_status_leak h = (if leak then 0 else s.rd .ust_hpwm_status_leak h) := by
  cases hl : s.latched (hElem h) with
  | false =>
    have hz : s.rd .ust_hpwm_status_oc h = 0 ∧ s.rd .ust_hpwm_status_leak h = 0 := by simpa [State.latched, State.bit] using hl
    have hs : s.clearLatches h oc leak = s := if_pos (by simp [hl])
    simp [hs, hz]
  | true =>
    rw [State.clearLatches_eq oc leak hl, ← (s.latchesCleared_rd h oc leak).1, ← (s.latchesCleared_rd h oc leak).2]
    split
    · exact ⟨rfl, rfl⟩
    · exact ⟨State.setHiz_rd _ _ _ _ (by decide), State.setHiz_rd _ _ _ _ (by decide)⟩

/-! ## The sources of a trip (R157) -/

theorem Tbl.filterMap_put {α β : Type} {q : Nat × α → Option β} {k : Nat} (hq : ∀ v, q (k, v) = none) (t : Tbl α) (v : α) :
    (Tbl.put t k v).filterMap q = t.filterMap q := by
  induction t with
  | nil => simp [Tbl.put, hq]
  | cons p r ih =>
    rw [Tbl.put]
    split
    · rw [List.filterMap_cons_none (hq v)]
    · rw [List.filterMap_cons, List.filterMap_cons, ih]

theorem Tbl.filterMap_drop {α β : Type} {q : Nat × α → Option β} {k : Nat} (hq : ∀ v, q (k, v) = none) (t : Tbl α) :
    (Tbl.drop t k).filterMap q = t.filterMap q := by
  rw [Tbl.drop, List.filterMap_filter]
  refine List.filterMap_congr fun ⟨j, v⟩ _ => ?_
  by_cases hj : j = k
  · subst hj; simp [hq]
  · simp [hj]

/-- What is gathered from the entries of a table, passing over key `k`, does not see what is set there. -/
theorem Tbl.filterMap_set {α β : Type} [DecidableEq α] {q : Nat × α → Option β} {k : Nat} (hq : ∀ v, q (k, v) = none) (d : α)
    (t : Tbl α) (v : α) : (Tbl.set d t k v).filterMap q = t.filterMap q := by
  unfold Tbl.set
  split
  · exact Tbl.filterMap_drop hq t
  · rw [Tbl.filterMap_put hq, Tbl.filterMap_drop hq]

theorem State.listed_wr_ne (s : State) {f g : Fid} (i v : Nat) (h : g ≠ f) : (s.wr f i v).listed g = s.listed g :=
  Tbl.filterMap_set (fun _ => if_neg fun e => h (Fid.ctorIdx_inj ((regKey_mod f i).symm.trans e).symm)) _ _ _

theorem exec_tripSourceAssert (n : Fin 4) (s : State) : exec (.tripSourceAssert n) s = execTripSourceAssert n s := rfl
theorem exec_swtripWrite (n : Fin 4) (s : State) : exec (.swtripWrite n) s = .next (s.trip n 16) := rfl
theorem exec_tripClearWrite (n : Fin 4) (s : State) : exec (.tripClearWrite n) s = execTripClearWrite n s := rfl

theorem State.showInputs_rd (s : State) (n : Nat) {f : Fid} (i : Nat) (h : f ≠ .ust_htrip_input) :
    (s.showInputs n).rd f i = s.rd f i := State.rd_wr_ne _ _ fun e => h e.1

@[simp] theorem State.showInputs_loop (s : State) (n : Nat) : (s.showInputs n).loop = s.loop := rfl

theorem State.tripInputs_showInputs (s : State) (n k : Nat) : (s.showInputs n).tripInputs k = s.tripInputs k := by
  simp only [State.tripInputs, State.thermSource, State.supSource, State.bit, State.showInputs_loop]
  simp [State.showInputs, State.listed_wr_ne, State.rd_wr]

/-- The sources that are asserted and enabled do not depend on INPUT. -/
theorem State.tripActive_showInputs (s : State) (n k : Nat) : (s.showInputs n).tripActive k = s.tripActive k := by
  simp [State.tripActive, State.tripInputs_showInputs, State.bit, State.showInputs_rd]

/-! ## The trip latch (R157, R160) -/

/-- The mask of everything but a trip latch and its cause. -/
def besideTrip : Nat := fullMask - 2 ^ (17 + Fid.ctorIdx .ust_htrip_trip) - 2 ^ (17 + Fid.ctorIdx .ust_htrip_cause)

/-- The trip latch set with its causes. -/
def State.tripLatched (s : State) (n causes : Nat) : State :=
  (s.wrBit .ust_htrip_trip n true).wr .ust_htrip_cause n (s.rd .ust_htrip_cause n ||| causes)

theorem State.tripLatched_trip (s : State) (n causes : Nat) : (s.tripLatched n causes).rd .ust_htrip_trip n = 1 := by
  simp [State.tripLatched, State.rd_wr, State.rd_wrBit, bit01]

theorem State.tripLatched_cause (s : State) (n causes : Nat) : (s.tripLatched n causes).rd .ust_htrip_cause n =
    (s.rd .ust_htrip_cause n ||| causes) % 2 ^ Fid.ust_htrip_cause.width := State.rd_wr_same _ _ _ _

/-- The heaters of a compartment put at high impedance (R157). -/
def State.heatersOff (s : State) (n : Nat) : State := (span (9216 + 256 * n) 256).foldl (fun s e => s.setHiz e true) s

/-- A latch that was not set takes the sweeps and the drive from its heaters, and is reported. -/
theorem State.trip_eq (s : State) (n causes : Nat) : s.trip n causes =
    if s.bit .ust_htrip_trip n then s.tripLatched n causes
    else ((((s.tripLatched n causes).abandonSweeps (fun e => !isV e && elemCpt e == n) false).heatersOff n).report
      { src := 0x1A, objKind := 3, obj := n, detail := causes }) := rfl

theorem State.trip_evolves_latched (s : State) (n causes : Nat) :
    Evolves besideTrip (s.tripLatched n causes) (s.trip n causes) := by
  have h := Evolves.refl (M := besideTrip) (s.tripLatched n causes)
  rw [State.trip_eq]
  refine .ite h (State.report_evolves _ (.foldl _ (State.abandonSweeps_evolves _ _ h rfl) fun _ _ k => ?_) rfl)
  exact State.setHiz_evolves _ _ k rfl

theorem State.trip_trip (s : State) (n causes : Nat) : (s.trip n causes).rd .ust_htrip_trip n = 1 :=
  ((s.trip_evolves_latched n causes).rd _ n rfl).trans (s.tripLatched_trip n causes)

theorem State.trip_cause (s : State) (n causes : Nat) : (s.trip n causes).rd .ust_htrip_cause n =
    (s.rd .ust_htrip_cause n ||| causes) % 2 ^ Fid.ust_htrip_cause.width :=
  ((s.trip_evolves_latched n causes).rd _ n rfl).trans (s.tripLatched_cause n causes)

theorem foldl_setHiz_hiz (l : List Nat) (s : State) {i : Nat} (h : i ∈ l.map hIdx ∨ s.rd .ust_hpwm_status_hiz i = 1) :
    (l.foldl (fun s e => s.setHiz e true) s).rd .ust_hpwm_status_hiz i = 1 := by
  induction l generalizing s with
  | nil => exact h.resolve_left (List.not_mem_nil)
  | cons e l ih =>
    refine ih (s.setHiz e true) ?_
    rw [State.setHiz_hiz]
    by_cases he : i = hIdx e
    · exact .inr (if_pos he)
    · rw [if_neg he]
      exact h.imp_left fun hm => (List.mem_cons.mp hm).resolve_left he

theorem mem_span {a n k : Nat} : k ∈ span a n ↔ a ≤ k ∧ k < a + n := by
  simp only [span, List.mem_map, List.mem_range]
  exact ⟨fun ⟨i, hi, e⟩ => by omega, fun h => ⟨k - a, by omega⟩⟩

/-- The heaters of a compartment are the elements of its channels (R16, R17). -/
theorem hElem_mem_span {i n : Nat} (h : i / 256 = n) : hElem i ∈ span (9216 + 256 * n) 256 := by
  rw [mem_span]
  unfold hElem
  omega

theorem State.heatersOff_hiz (s : State) {n i : Nat} (h : i / 256 = n) : (s.heatersOff n).rd .ust_hpwm_status_hiz i = 1 :=
  foldl_setHiz_hiz _ _ (.inl (List.mem_map.mpr ⟨_, hElem_mem_span h, hIdx_hElem i⟩))

theorem State.trip_hiz {s : State} {n i : Nat} (causes : Nat) (hs : s.rd .ust_htrip_trip n = 0) (h : i / 256 = n) :
    (s.trip n causes).rd .ust_hpwm_status_hiz i = 1 := by
  rw [State.trip_eq, if_neg (ne_true_of_eq_false (State.bit_eq_false.mpr hs)), State.report_rd]
  exact State.heatersOff_hiz _ h

theorem execTripSourceAssert_active {n : Fin 4} {s : State} (ha : s.tripActive n ≠ 0) :
    execTripSourceAssert n s = .next ((s.showInputs n).trip n (s.tripActive n)) := by
  unfold execTripSourceAssert
  simp only [State.tripActive_showInputs, if_neg ha]

/-- The trip latch and its cause cleared; the heaters wait for their boundary (R160). -/
def State.tripCleared (s : State) (n : Nat) : State :=
  (((s.wrBit .ust_htrip_trip n false).wr .ust_htrip_cause n 0).wr .ust_htrip_refused n 0).modCpt n
    (fun c => { c with resumeAt := some s.loop.frames })

theorem State.tripCleared_leaves (s : State) (n : Nat) : (s.tripCleared n).rd .ust_htrip_trip n = 0 ∧
    (s.tripCleared n).rd .ust_htrip_cause n = 0 ∧ ((s.tripCleared n).cpt n).resumeAt = some s.loop.frames := by
  simp [State.tripCleared, State.rd_wr, State.rd_wrBit, bit01]

section TripClear

variable {n : Fin 4} {s : State} (ht : s.rd .ust_htrip_trip n ≠ 0)
include ht

theorem execTripClearWrite_clears (ha : s.tripActive n = 0) :
    execTripClearWrite n s = .next ((s.showInputs n).tripCleared n) := by
  have hset : (s.showInputs n).bit .ust_htrip_trip n = true :=
    State.bit_eq_true.mpr (by rwa [State.showInputs_rd _ _ _ (by decide)])
  unfold execTripClearWrite State.clearTrip
  simp only [State.bit_eq_true.mpr ht, State.tripActive_showInputs, ha, hset]
  rfl

theorem execTripClearWrite_refuses (ha : s.tripActive n ≠ 0) :
    execTripClearWrite n s = .next ((s.showInputs n).sat .ust_htrip_refused n) := by
  unfold execTripClearWrite State.clearTrip
  simp only [State.bit_eq_true.mpr ht, State.tripActive_showInputs, if_pos ha, if_true]

end TripClear

theorem State.rd_sat_same (s : State) (f : Fid) (i : Nat) : (s.sat f i).rd f i = min (s.rd f i + 1) (2 ^ f.width - 1) := by
  have hw : 0 < 2 ^ f.width := Nat.two_pow_pos _
  rw [State.sat, State.rd_wr_same]
  exact Nat.mod_eq_of_lt (by unfold satInc; omega)

/-! ## Operations on some heaters and no others -/

/-- From `s` to `t` only elements of `l` change, only their channels go to high impedance or leave it, and of the rest of the loops'
state nothing changes. -/
structure State.HeatersOnly (l : List Nat) (s t : State) : Prop where
  el : ∀ k ∉ l, t.el k = s.el k
  hiz : ∀ i ∉ l.map hIdx, t.rd .ust_hpwm_status_hiz i = s.rd .ust_hpwm_status_hiz i
  loop : t.loop = { s.loop with elems := t.loop.elems, hch := t.loop.hch }

/-- The mask of everything but the loops' state and high impedance. -/
def besideHeaters : Nat := fullMask - 2 ^ 1 - 2 ^ (17 + Fid.ctorIdx .ust_hpwm_status_hiz)

theorem State.el_of_loop {s t : State} (h : t.loop = s.loop) (e : Nat) : t.el e = s.el e := by rw [State.el, h, State.el]

theorem State.HeatersOnly.refl (l : List Nat) (s : State) : s.HeatersOnly l s := ⟨fun _ _ => rfl, fun _ _ => rfl, rfl⟩

theorem State.HeatersOnly.trans {l : List Nat} {s t u : State} (h : s.HeatersOnly l t) (k : t.HeatersOnly l u) :
    s.HeatersOnly l u where
  el e he := (k.el e he).trans (h.el e he)
  hiz i hi := (k.hiz i hi).trans (h.hiz i hi)
  loop := by rw [k.loop, h.loop]

theorem State.HeatersOnly.mono {l m : List Nat} {s t : State} (h : s.HeatersOnly l t) (hl : l ⊆ m) : s.HeatersOnly m t where
  el e he := h.el e fun k => he (hl k)
  hiz i hi := h.hiz i fun k => hi (List.map_subset _ hl k)
  loop := h.loop

section HeatersOnly

variable {l : List Nat} {s t : State} (h : s.HeatersOnly l t)
include h

theorem State.HeatersOnly.evolves {u : State} (k : Evolves besideHeaters t u) : s.HeatersOnly l u :=
  h.trans ⟨fun e _ => State.el_of_loop (k.loop rfl) e, fun i _ => k.rd _ i rfl, by rw [k.loop rfl]⟩

theorem State.HeatersOnly.ite {u : State} {c : Prop} [Decidable c] (k : s.HeatersOnly l u) :
    s.HeatersOnly l (if c then t else u) := by
  split <;> assumption

theorem State.HeatersOnly.wr {f : Fid} (hf : f ≠ .ust_hpwm_status_hiz) (i v : Nat) : s.HeatersOnly l (t.wr f i v) :=
  h.trans ⟨fun _ _ => rfl, fun _ _ => State.rd_wr_ne _ _ fun e => hf e.1.symm, rfl⟩

theorem State.HeatersOnly.wrBit {f : Fid} (hf : f ≠ .ust_hpwm_status_hiz) (i : Nat) (b : Bool) : s.HeatersOnly l (t.wrBit f i b) :=
  h.wr hf i _

theorem State.HeatersOnly.modHc (e : Nat) (g : HCh → HCh) : s.HeatersOnly l (t.modHc e g) :=
  h.trans ⟨fun _ _ => rfl, fun _ _ => rfl, rfl⟩

theorem State.HeatersOnly.settled (e : Nat) : s.HeatersOnly l (t.settled e) := h.evolves (State.settled_evolves _ (.refl t) rfl)

variable {e : Nat} (he : e ∈ l)
include he

theorem State.HeatersOnly.modEl (g : Elem → Elem) : s.HeatersOnly l (t.modEl e g) :=
  h.trans ⟨fun _ hk => State.modEl_el_ne _ _ fun hke => hk (hke ▸ he), fun _ _ => rfl, rfl⟩

theorem State.HeatersOnly.setHiz (b : Bool) : s.HeatersOnly l (t.setHiz e b) := by
  have hbit : s.HeatersOnly l (t.wrBit .ust_hpwm_status_hiz (hIdx e) b) := h.trans
    ⟨fun _ _ => rfl, fun _ hi => State.rd_wrBit_ne _ _ fun k => hi (k.2 ▸ List.mem_map_of_mem he), rfl⟩
  exact ((hbit.modHc e _).wrBit (by decide) _ _).ite hbit

theorem State.HeatersOnly.finishMove (o : Option Owner) (c : Completion) : s.HeatersOnly l (t.finishMove e o c) := by
  refine State.HeatersOnly.modEl (h.evolves ?_) he _
  exact .foldl _ (State.finishOpt_evolves _ _ (.refl t) rfl) fun _ _ k => State.finish_evolves _ _ k rfl

theorem State.HeatersOnly.setState (st : Nat) : s.HeatersOnly l (t.setState e st) :=
  ((h.wrBit (by decide) _ _).ite h).modEl he _

theorem State.HeatersOnly.enterSettle (d : Int) : s.HeatersOnly l (t.enterSettle e d) :=
  ((h.setState he 1).modEl he _).modEl he _

theorem State.HeatersOnly.setDuty (u : Int) : s.HeatersOnly l (t.setDuty e u) :=
  ((h.modEl he _).modEl he _).modHc e _

theorem State.HeatersOnly.toClear : s.HeatersOnly l (t.toClear e) := by
  have hcode := (h.wr (f := .ust_vdac_status_code) (by decide) e
    (min (2 ^ 20 - 1) (if t.rangeHi e then (t.clearOf e).toNat else 2 * (t.clearOf e).toNat))).modEl he fun x => { x with
      out := if t.vOff e then x.out else t.clearOf e, held := false, play := [], clamp := bit01 (t.clearClamps e) }
  exact (hcode.wrBit (by decide) _ _).ite hcode

theorem State.HeatersOnly.park : s.HeatersOnly l (t.park e) :=
  (((h.setState he 0).modEl he _).toClear he).ite (((h.setState he 0).modEl he _).setHiz he _)

end HeatersOnly

/-! ## One heater resumes (R160) -/

/-- A heater that nothing else holds leaves high impedance, and its change of target is taken note of. -/
def State.heaterFreed (s : State) (e : Nat) : State := (s.setHiz e (s.hizNow e)).modEl e (fun y => { y with retgt := false })

/-- A heater takes up drive `d` in SETTLE, and the command that waits for it completes. -/
def State.heaterSettled (s : State) (e : Nat) (d : Int) (o : Option Owner) : State :=
  (((s.enterSettle e (s.limited e d)).setDuty e ((s.enterSettle e (s.limited e d)).el e).drive).finishMove e o
    { status := .ok }).settled e

/-- The drive that a heater in SETTLE or HOLD resumes with: that of its target, where it has changed (R159, R160). -/
def State.resumeDrive (s : State) (e : Nat) : Int :=
  if (s.el e).retgt then (s.heaterFreed e).targetDrive e (s.el e).tgt else (s.el e).drive

theorem State.resumeHeater_settles {s : State} {e : Nat} (hl : s.latched e = false)
    (hst : (s.el e).state = 1 ∨ (s.el e).state = 2) :
    s.resumeHeater e = (s.heaterFreed e).heaterSettled e (s.resumeDrive e) none := by
  unfold State.resumeHeater
  rw [if_neg (ne_true_of_eq_false hl)]
  rcases hst with hst | hst <;> simp only [hst] <;> rfl

section

variable {l : List Nat} {s t : State} {e : Nat} (h : s.HeatersOnly l t) (he : e ∈ l)
include h he

theorem State.HeatersOnly.heaterFreed : s.HeatersOnly l (t.heaterFreed e) := (h.setHiz he _).modEl he _

theorem State.HeatersOnly.heaterSettled (d : Int) (o : Option Owner) : s.HeatersOnly l (t.heaterSettled e d o) :=
  (((h.enterSettle he _).setDuty he _).finishMove he o _).settled e

theorem State.HeatersOnly.resumeHeater : s.HeatersOnly l (t.resumeHeater e) := by
  have hf := h.heaterFreed he
  unfold State.resumeHeater
  dsimp only
  split
  · exact h
  · split
    · exact hf.heaterSettled he _ _
    · exact hf.heaterSettled he _ _
    · split
      · exact (((hf.setState he 4).modEl he _).setDuty he _).finishMove he _ _
      · exact (((hf.setState he 4).modEl he _).setDuty he _).finishMove he _ _
      · exact (((hf.setState he 5).modEl he _).setDuty he _).finishMove he _ _
      · exact (hf.park he).finishMove he _ _
      · exact hf.heaterSettled he _ _
      · exact hf.heaterSettled he _ _
    · exact (hf.modEl he _).setDuty he _
    · exact hf.ite (hf.setDuty he _)
    · exact hf

end

theorem State.finishMove_el (s : State) (e : Nat) (o : Option Owner) (c : Completion) :
    (s.finishMove e o c).el e = { s.el e with joint := [] } := by
  have hloop : Evolves (allBut 1) s ((s.el e).joint.foldl (fun s w => s.finish w c) (s.finishOpt o c)) :=
    .foldl _ (State.finishOpt_evolves _ _ (.refl s) rfl) fun _ _ k => State.finish_evolves _ _ k rfl
  rw [State.finishMove, State.modEl_el_same, State.el_of_loop (hloop.loop rfl)]

/-- A heater that takes up its drive is in SETTLE (R187). -/
theorem State.heaterSettled_state (s : State) (e : Nat) (d : Int) (o : Option Owner) :
    ((s.heaterSettled e d o).el e).state = 1 := by
  rw [State.heaterSettled, State.el_of_loop ((State.settled_evolves (M := allBut 1) e (.refl _) rfl).loop rfl),
    State.finishMove_el]
  simp [State.setDuty, State.latchDuty, State.enterSettle, State.showSat]

theorem State.heaterSettled_hiz (s : State) (e : Nat) (d : Int) (o : Option Owner) (i : Nat) :
    (s.heaterSettled e d o).rd .ust_hpwm_status_hiz i = s.rd .ust_hpwm_status_hiz i :=
  (State.settled_evolves (M := allBut (17 + Fid.ctorIdx .ust_hpwm_status_hiz)) _ (State.finishMove_evolves _ _ _
    (State.setDuty_evolves _ _ (State.enterSettle_evolves _ _ (.refl s) rfl) rfl) rfl) rfl).rd _ i rfl

theorem State.heaterFreed_hiz (s : State) (e : Nat) :
    (s.heaterFreed e).rd .ust_hpwm_status_hiz (hIdx e) = bit01 (s.hizNow e) := by
  rw [State.heaterFreed, State.modEl_rd, State.setHiz_hiz, if_pos rfl]

/-! ## The heaters of a compartment resume -/

/-- The heaters of a list resume one after the other. -/
def State.resumeAll (s : State) (l : List Nat) : State := l.foldl (fun s e => s.resumeHeater e) s

/-- What besides an element's state holds its heater at high impedance (R156). -/
def holdFields : List Fid :=
  [.ust_hpwm_status_oc, .ust_hpwm_status_leak, .ust_vdac_status_oc, .ust_htrip_trip, .glb_cpt_svc_in_crst]

/-- The mask of everything but those fields. -/
def besideHolds : Nat := fullMask - maskOf (holdFields.map fun f => 17 + f.ctorIdx)

theorem besideHolds_field {f : Fid} (h : f ∈ holdFields) : besideHolds.testBit (17 + f.ctorIdx) = false := by
  simp only [holdFields, List.mem_cons, List.not_mem_nil, or_false] at h
  rcases h with rfl | rfl | rfl | rfl | rfl <;> decide

theorem State.resumeAll_only (s : State) (l : List Nat) : s.HeatersOnly l (s.resumeAll l) := by
  suffices h : ∀ m ⊆ l, ∀ t, s.HeatersOnly l t → s.HeatersOnly l (t.resumeAll m) from h l (List.Subset.refl l) s (.refl l s)
  intro m
  induction m with
  | nil => exact fun _ _ h => h
  | cons e m ih =>
    intro hm t h
    exact ih (fun _ hk => hm (List.mem_cons_of_mem e hk)) _ (h.resumeHeater (hm List.mem_cons_self))

theorem State.resumeAll_holds (s : State) (l : List Nat) {f : Fid} (hf : f ∈ holdFields) (i : Nat) :
    (s.resumeAll l).rd f i = s.rd f i :=
  (Evolves.foldl (M := besideHolds) l (.refl s) fun _ e k => State.resumeHeater_evolves e k rfl).rd f i (besideHolds_field hf)

/-- Of a heater in the list no other's turn changes what its own does: before it the element and what holds it are as at the start,
after it the element and its high impedance stay. -/
theorem State.resumeAll_at {s : State} {l : List Nat} {e : Nat} (hn : (l.map hIdx).Nodup) (he : e ∈ l) : ∃ u : State,
    s.HeatersOnly l u ∧ u.el e = s.el e ∧ (∀ f ∈ holdFields, ∀ i, u.rd f i = s.rd f i) ∧
    (s.resumeAll l).el e = (u.resumeHeater e).el e ∧
    (s.resumeAll l).rd .ust_hpwm_status_hiz (hIdx e) = (u.resumeHeater e).rd .ust_hpwm_status_hiz (hIdx e) := by
  obtain ⟨a, b, rfl⟩ := List.append_of_mem he
  have hrun : s.resumeAll (a ++ e :: b) = ((s.resumeAll a).resumeHeater e).resumeAll b := List.foldl_append
  rw [List.map_append, List.map_cons, List.nodup_append, List.nodup_cons] at hn
  obtain ⟨-, ⟨hb, -⟩, hab⟩ := hn
  have ha : hIdx e ∉ a.map hIdx := fun k => hab _ k _ List.mem_cons_self rfl
  have hbefore := s.resumeAll_only a
  have hafter := ((s.resumeAll a).resumeHeater e).resumeAll_only b
  rw [hrun]
  exact ⟨s.resumeAll a, hbefore.mono (List.subset_append_left a _), hbefore.el e fun k => ha (List.mem_map_of_mem k),
    fun f hf i => s.resumeAll_holds a hf i, hafter.el e fun k => hb (List.mem_map_of_mem k), hafter.hiz _ hb⟩

theorem span_map_hIdx_nodup {a : Nat} (n : Nat) (h : 9216 ≤ a) : ((span a n).map hIdx).Nodup := by
  have hinj : Function.Injective (fun i => hIdx (a + i)) := fun i j hij => by
    have hsub : a + i - 9216 = a + j - 9216 := hij
    omega
  rw [span, List.map_map]
  exact List.nodup_range.map hinj

/-- A heater is free where neither its channel nor its compartment holds it (R156). -/
theorem State.hizNow_of_free {s : State} {i : Nat} (hst : (s.el (hElem i)).state = 1 ∨ (s.el (hElem i)).state = 2)
    (hc : s.rd .glb_cpt_svc_in_crst (i / 256) = 0) (hl : s.latched (hElem i) = false) (ht : s.rd .ust_htrip_trip (i / 256) = 0)
    (hlow : s.loop.clrLow = false) (hclr : s.loop.heatClear = false) (hr : (s.cpt (i / 256)).resumeAt = none) :
    s.hizNow (hElem i) = false := by
  rcases hst with hst | hst <;>
    simp [State.hizNow, State.heatHeld, hst, hl, hlow, hclr, hr, State.bit_eq_false.mpr hc, State.bit_eq_false.mpr ht]

theorem State.latched_congr {s t : State} (h : ∀ f ∈ holdFields, ∀ i, t.rd f i = s.rd f i) (e : Nat) :
    t.latched e = s.latched e := by
  simp only [State.latched, State.bit, h .ust_hpwm_status_oc (by decide), h .ust_hpwm_status_leak (by decide),
    h .ust_vdac_status_oc (by decide)]

theorem State.snapEl_loop (s : State) (e : Nat) : (s.snapEl e).loop = { s.loop with shown := (s.snapEl e).loop.shown } := rfl

/-- The elements of a boundary shown again change what is shown and nothing else of the loops' state (R198). -/
theorem State.resnapCpt_loop (s : State) (n : Nat) :
    (s.resnapCpt n).loop = { s.loop with shown := (s.resnapCpt n).loop.shown } := by
  have hfold : ∀ (l : List Nat) (t : State), t.loop = { s.loop with shown := t.loop.shown } →
      (l.foldl (fun s e => s.snapEl e) t).loop = { s.loop with shown := (l.foldl (fun s e => s.snapEl e) t).loop.shown } := by
    intro l
    induction l with
    | nil => exact fun _ h => h
    | cons e l ih => exact fun t h => ih (t.snapEl e) (by rw [State.snapEl_loop, h])
  unfold State.resnapCpt State.snapCpt
  split
  · exact hfold (s.cptPresent n) s rfl
  · rfl

/-- The end of a resumption: the power cap formed afresh, the boundary shown again. -/
def State.resumeShown (s : State) (n : Nat) : State := s.powerCap.resnapCpt n

theorem State.resumeShown_el (s : State) (n e : Nat) : (s.resumeShown n).el e = s.el e := by
  rw [State.resumeShown, State.el, State.resnapCpt_loop]
  exact State.el_of_loop ((State.powerCap_evolves (M := allBut 1) (.refl s) rfl).loop rfl) e

theorem State.resumeShown_cpt (s : State) (n k : Nat) : (s.resumeShown n).cpt k = s.cpt k := by
  rw [State.resumeShown, State.cpt, State.resnapCpt_loop]
  change Tbl.get {} s.powerCap.loop.cpts k = _
  rw [(State.powerCap_evolves (M := allBut 1) (.refl s) rfl).loop rfl, State.cpt]

theorem State.resumeShown_hiz (s : State) (n i : Nat) :
    (s.resumeShown n).rd .ust_hpwm_status_hiz i = s.rd .ust_hpwm_status_hiz i :=
  (State.resnapCpt_evolves (M := allBut (17 + Fid.ctorIdx .ust_hpwm_status_hiz)) _
    (State.powerCap_evolves (.refl s) rfl) rfl).rd _ i rfl

/-! ## HMODE_RESUME -/

theorem exec_hmodeResume (n : Fin 4) (s : State) : exec (.hmodeResume n) s = execHmodeResume n s := rfl

/-- The heaters of a compartment as their wait ends. -/
def State.heatersResumed (s : State) (n : Nat) : State :=
  (s.modCpt n (fun c => { c with resumeAt := none })).resumeAll (span (9216 + 256 * n) 256)

theorem execHmodeResume_resumes {n : Fin 4} {f : Nat} {s : State} (hr : (s.cpt n).resumeAt = some f)
    (hb : s.nextBoundary n f = true) (ht : s.rd .ust_htrip_trip n = 0) (hlow : s.loop.clrLow = false)
    (hclr : s.loop.heatClear = false) (hw : s.writesReach = true) :
    execHmodeResume n s = .next ((s.heatersResumed n).resumeShown n) := by
  have hgo : ¬ ((!s.nextBoundary n f) = true ∨ s.bit .ust_htrip_trip n = true ∨ s.loop.clrLow = true ∨ s.loop.heatClear = true ∨
      (!s.writesReach) = true) := by
    simp [hb, hlow, hclr, hw, State.bit_eq_false.mpr ht]
  unfold execHmodeResume State.resumeShown State.heatersResumed State.resumeAll
  simp only [hr, if_neg hgo]

theorem State.heatersResumed_resumeAt (s : State) (n : Nat) : ((s.heatersResumed n).cpt n).resumeAt = none := by
  rw [State.heatersResumed, State.cpt, (State.resumeAll_only _ _).loop, ← State.cpt, State.modCpt_cpt_same]

/-- An unlatched element in SETTLE or HOLD resumes in SETTLE, its heater out of high impedance outside a reset (R156, R160). -/
theorem State.heatersResumed_at {s : State} {n i : Nat} (hi : i / 256 = n) (hl : s.latched (hElem i) = false)
    (hst : (s.el (hElem i)).state = 1 ∨ (s.el (hElem i)).state = 2) (ht : s.rd .ust_htrip_trip n = 0)
    (hlow : s.loop.clrLow = false) (hclr : s.loop.heatClear = false) :
    ((s.heatersResumed n).el (hElem i)).state = 1 ∧
    (s.rd .glb_cpt_svc_in_crst n = 0 → (s.heatersResumed n).rd .ust_hpwm_status_hiz i = 0) := by
  subst hi
  obtain ⟨w, hw⟩ : ∃ w, w = s.modCpt (i / 256) (fun c => { c with resumeAt := none }) := ⟨_, rfl⟩
  obtain ⟨u, honly, hel, hholds, hel', hhiz'⟩ := State.resumeAll_at (s := w)
    (span_map_hIdx_nodup 256 (Nat.le_add_right 9216 (256 * (i / 256)))) (hElem_mem_span rfl)
  have hwrd : ∀ f k, w.rd f k = s.rd f k := fun f k => by rw [hw, State.modCpt_rd]
  have hul : u.latched (hElem i) = false :=
    (State.latched_congr hholds _).trans ((State.latched_congr (fun f _ k => hwrd f k) _).trans hl)
  have huel : u.el (hElem i) = s.el (hElem i) := by rw [hel, hw]; rfl
  have hust : (u.el (hElem i)).state = 1 ∨ (u.el (hElem i)).state = 2 := huel ▸ hst
  have hres : s.heatersResumed (i / 256) = w.resumeAll (span (9216 + 256 * (i / 256)) 256) := by rw [hw]; rfl
  rw [hIdx_hElem] at hhiz'
  rw [hres, hel', hhiz', State.resumeHeater_settles hul hust]
  refine ⟨State.heaterSettled_state _ _ _ _, fun hc => ?_⟩
  have hfree : u.hizNow (hElem i) = false := by
    refine State.hizNow_of_free hust ?_ hul ?_ ?_ ?_ ?_
    · rw [hholds _ (by decide), hwrd, hc]
    · rw [hholds _ (by decide), hwrd, ht]
    · rw [honly.loop, hw]; exact hlow
    · rw [honly.loop, hw]; exact hclr
    · rw [State.cpt, honly.loop, ← State.cpt, hw, State.modCpt_cpt_same]
  have hfreed := u.heaterFreed_hiz (hElem i)
  rw [hIdx_hElem, hfree] at hfreed
  exact (State.heaterSettled_hiz _ _ _ _ _).trans hfreed

/-! ## O19 -/

/-- What the boundary of a period that is due leaves: the period begun, its date and PILOT_BLK, and the compares of the channel's
mode. -/
theorem execHmodePeriodBoundary_leaves {h : Fin 1024} {tick : Fin 100} (ion : Fin 256) {s : State} {t0 : Nat}
    (h0 : s.periodStart h (100 * s.loop.frames + tick.val) = some t0) : ∃ t, execHmodePeriodBoundary h tick ion s = .next t ∧
    (s.periodBegun h (s.nextPer h) t0).PeriodKept h t ∧
    (s.rd .ust_hpwm_status_hiz h ≠ 0 → t.rd .ust_hpwm_act_a_act h = 0 ∧ t.rd .ust_hpwm_act_b_act h = 0 ∧
      (t.hc (hElem h)).residue = 0 ∧ t.rd .ust_hpwm_status_capped h = 0) ∧
    ∀ p, p = max 1 (t.rd .ust_hpwm_status_per_act h) →
      (s.rd .ust_hpwm_status_hiz h = 0 → s.rd .ust_hpwm_mode_src h = 0 → ∀ dead, dead = s.rd .ust_hpwm_cfg_dead h →
        ∃ m, m ≤ p - dead ∧ t.rd .ust_hpwm_act_a_act h =
          s.rd .ust_hpwm_mode_stag h * (p - dead - m) / 15 % 2 ^ Fid.ust_hpwm_act_a_act.width ∧
        t.rd .ust_hpwm_act_b_act h = min p (s.rd .ust_hpwm_mode_stag h * (p - dead - m) / 15 + dead + m)
          % 2 ^ Fid.ust_hpwm_act_b_act.width) ∧
      (s.rd .ust_hpwm_status_hiz h = 0 → s.rd .ust_hpwm_mode_src h ≠ 0 →
        t.rd .ust_hpwm_act_a_act h = min (s.hc (hElem h)).a0 p % 2 ^ Fid.ust_hpwm_act_a_act.width) := by
  refine ⟨_, execHmodePeriodBoundary_begins h0 rfl, ?_⟩
  obtain ⟨u, hu⟩ : ∃ u, u = s.periodBegun h (s.nextPer h) t0 := ⟨_, rfl⟩
  obtain ⟨v, hv⟩ : ∃ v, v = u.ionNoted h (s.hc (hElem h)).on ion := ⟨_, rfl⟩
  rw [← hu, ← hv]
  have hvrd : ∀ {f}, f ∉ [Fid.ust_hpwm_status_per_act, .ust_hpwm_status_pilot_blk] → f ≠ .ust_hpwm_status_ion →
      v.rd f h = s.rd f h := fun hf hi => by rw [hv, State.ionNoted_rd _ _ _ _ _ hi, hu, State.periodBegun_rd _ _ _ _ _ hf]
  have huv : u.PeriodKept h v := hv ▸ u.ionNoted_periodKept _ _ _
  by_cases hz : s.rd .ust_hpwm_status_hiz h = 0
  · rw [if_neg (not_not_intro hz)]
    by_cases hs : s.rd .ust_hpwm_mode_src h = 0
    · rw [if_neg (not_not_intro hs)]
      have hkept := v.loopPeriod_periodKept h t0
      refine ⟨huv.trans hkept, (absurd hz ·), fun p hp => ⟨fun _ _ dead hd => ?_, fun _ k => absurd hs k⟩⟩
      have hc := v.loopPeriod_compares h t0 (hp.trans (by rw [hkept.1])) (hd.trans (hvrd (by decide) (by decide)).symm)
      rwa [hvrd (f := .ust_hpwm_mode_stag) (by decide) (by decide)] at hc
    · rw [if_pos hs]
      have hkept := v.directPeriod_periodKept h
      refine ⟨huv.trans hkept, (absurd hz ·), fun p hp => ⟨fun _ k => absurd k hs, fun _ _ => ?_⟩⟩
      rw [v.directPeriod_compareA h, ← hkept.1, ← hp, hv, State.ionNoted_hc, hu, State.periodBegun_hc]
  · rw [if_pos hz]
    exact ⟨u.idlePeriod_periodKept h, fun _ => u.idlePeriod_leaves h, fun _ _ => ⟨fun k => absurd k hz, fun k => absurd k hz⟩⟩

/-- The statement takes the channel `i` of `i / 256 = n` in the type of `n`, in which 256 is 0: it names channels 0 to 3 of
compartment 0. `State.trip_hiz` and `State.heatersResumed_at` hold of every channel of every compartment. -/
theorem channel_of_fin : ∀ {i n : Fin 4}, i / 256 = n → i.val / 256 = n.val := by decide

/-- Settles O19: each command and event by its own rule above. -/
theorem hmodeChannelsRun : Obligations.HmodeChannelsRun := by
  unfold Obligations.HmodeChannelsRun
  refine ⟨fun h tick ion s => ?period, fun h s hc => ⟨?srcLoop, fun hm hs => ?srcDirect⟩, fun h s => exec_pcommitWrite h s,
    fun h s hs => ⟨fun ha reg hd => ?autoCommit, fun ha hp reg => ?pairCommit⟩, fun h s hz c hc => ?protection,
    fun h oc leak s => ?latchClear, fun n s => ⟨fun ha => ?tripSource, ?swtrip, fun ht ha => ?tripClear,
      fun ht ha => ?tripRefused⟩, fun n f s hr hb ht hlow hclr hw => ?resume⟩
  case period =>
    rw [exec_hmodePeriodBoundary]
    cases h0 : s.periodStart h (100 * s.loop.frames + tick.val) with
    | none => exact ⟨s, execHmodePeriodBoundary_early h0, fun _ => rfl, fun _ _ k => by simp at k⟩
    | some t0 =>
      obtain ⟨t, ht, ⟨hper, hblk, hdate⟩, hrest⟩ := execHmodePeriodBoundary_leaves ion h0
      refine ⟨t, ht, fun k => by simp at k, fun t1 per ht1 hp => ?_⟩
      cases ht1
      obtain rfl : per = s.nextPer h := hp
      rw [State.periodBegun_per] at hper
      rw [State.periodBegun_blk] at hblk
      rw [State.periodBegun_hc] at hdate
      exact ⟨hper, hdate, hblk, hrest⟩
  case srcLoop => rw [exec_hpwmSrcWrite, execHpwmSrcWrite_loop hc]
  case srcDirect =>
    exact ⟨_, (exec_hpwmSrcWrite h true s).trans (execHpwmSrcWrite_direct hc hm hs), s.directBegun_leaves h⟩
  case autoCommit =>
    refine ⟨_, (exec_shadowTransfer h reg s).trans (execShadowTransfer_auto hs ha hd), ?_, ?_, ?_, ?_⟩
    · rw [State.transfer_due, State.modHc_hc_same]
      simp
    · rintro rfl; exact State.transfer_period _ _
    · rintro rfl; exact congrArg HCh.a0 (State.transfer_a _ _)
    · rintro rfl; exact congrArg HCh.b0 (State.transfer_b _ _)
  case pairCommit => exact ⟨_, (exec_shadowTransfer h reg s).trans (execShadowTransfer_pair hs reg ha hp), s.pairPassed_leaves h⟩
  case protection =>
    simp only [List.mem_cons, List.not_mem_nil, or_false] at hc
    rcases hc with rfl | rfl | rfl
    · exact ⟨_, exec_hmodeOvercurrent h s, State.hProtect_leaves 0x18 2 hz (.inl rfl)⟩
    · exact ⟨_, exec_hmodeFastTrip h s, State.hProtect_leaves 0x18 2 hz (.inl rfl)⟩
    · exact ⟨_, exec_hmodeLeakage h s, State.hProtect_leaves 0x19 3 hz (.inr rfl)⟩
  case latchClear => exact ⟨_, exec_hmodeOcLeakClearWrite h oc leak s, s.clearLatches_leaves h oc leak⟩
  case tripSource =>
    refine ⟨_, (exec_tripSourceAssert n s).trans (execTripSourceAssert_active ha), State.trip_trip _ _ _, fun ht i hi => ?_⟩
    exact State.trip_hiz _ ((s.showInputs_rd n n (by decide)).trans ht) (channel_of_fin hi)
  case swtrip =>
    exact ⟨_, exec_swtripWrite n s, s.trip_trip n 16, s.trip_cause n 16,
      fun ht i hi => State.trip_hiz 16 ht (channel_of_fin hi)⟩
  case tripClear =>
    exact ⟨_, (exec_tripClearWrite n s).trans (execTripClearWrite_clears ht ha), (s.showInputs n).tripCleared_leaves n⟩
  case tripRefused =>
    refine ⟨_, (exec_tripClearWrite n s).trans (execTripClearWrite_refuses ht ha), ?_, ?_⟩
    · exact (State.rd_wr_ne _ _ (by simp)).trans (s.showInputs_rd n n (by decide))
    · rw [State.rd_sat_same, s.showInputs_rd n n (by decide)]
  case resume =>
    refine ⟨_, (exec_hmodeResume n s).trans (execHmodeResume_resumes hr hb ht hlow hclr hw), ?_, fun i hi hl _ hst => ?_⟩
    · rw [State.resumeShown_cpt]; exact s.heatersResumed_resumeAt n
    · rw [State.resumeShown_el, State.resumeShown_hiz]
      exact State.heatersResumed_at (channel_of_fin hi) hl hst ht hlow hclr

end Sys2Proof.Machine


/-! PROOFS. Loop events (O31, R168, R169, R181 to R187, R195 to R198, R265): elements that take their turns one by one, what an element's
turn at a boundary leaves of its drive, what a boundary shows, coefficient swaps, period changes and new records. -/

namespace Sys2Proof.Machine

set_option exponentiation.threshold 2048

/-! ## Elements that take turns -/

/-- Where no turn but `e`'s changes what `g` views, what it views after all turns is what it views after `e`'s own, taken from a
state that `g` views as the first and that meets what every turn keeps. -/
theorem foldl_view_at {β : Type} {f : State → Nat → State} {e : Nat} (g : State → β) {P : State → Prop}
    (hP : ∀ t k, P t → P (f t k)) (hg : ∀ t k, k ≠ e → g (f t k) = g t) {l : List Nat} {s : State} (hn : l.Nodup) (he : e ∈ l)
    (hs : P s) : ∃ u, P u ∧ g u = g s ∧ g (l.foldl f s) = g (f u e) := by
  have hkeep : ∀ m : List Nat, e ∉ m → ∀ t, g (m.foldl f t) = g t := fun m hm t =>
    List.foldlRecOn m f (motive := fun u => g u = g t) rfl fun u h k hk => (hg u k fun hke => hm (hke ▸ hk)).trans h
  obtain ⟨a, b, rfl⟩ := List.append_of_mem he
  rw [List.nodup_append, List.nodup_cons] at hn
  obtain ⟨-, ⟨hb, -⟩, hab⟩ := hn
  refine ⟨a.foldl f s, List.foldlRecOn a f hs fun u h k _ => hP u k h, hkeep a (fun h => hab e h e List.mem_cons_self rfl) s, ?_⟩
  rw [List.foldl_append, List.foldl_cons, hkeep b hb]

/-- Turns that change nothing that `g` views. -/
theorem foldl_keeps {β : Type} {f : State → Nat → State} (g : State → β) (hg : ∀ t k, g (f t k) = g t) (l : List Nat) (s : State) :
    g (l.foldl f s) = g s :=
  List.foldlRecOn l f (motive := fun t => g t = g s) rfl fun t h k _ => (hg t k).trans h

theorem State.loopElems_nodup (s : State) (n : Nat) : (s.loopElems n).Nodup :=
  (List.mergeSort_perm _ _).nodup_iff.mpr (List.nodup_dedup _)

/-- A present element out of PARK is among those that its compartment's boundary deals with. -/
theorem State.mem_loopElems {s : State} {e : Nat} (hp : s.present e = true) (hst : (s.el e).state ≠ 0) :
    e ∈ s.loopElems (elemCpt e) := by
  have hel : (e, s.el e) ∈ s.loop.elems := (Tbl.get_eq_or_mem _ _ _).resolve_left fun h => hst (congrArg Elem.state h)
  have hkey : e ∈ s.loop.elems.map (fun p => p.1) := List.mem_map_of_mem (f := fun p => p.1) hel
  simp only [State.loopElems, List.mem_mergeSort, List.mem_dedup, List.mem_filter, List.mem_append]
  exact ⟨.inl hkey, by simp [hp]⟩

/-! ## What says whether an element moves and is written -/

/-- The fields that say it: who holds the baton, FROZEN, the trips and the fences. -/
def guardFields : List Fid := [.glb_baton_status_frozen, .glb_baton_status_holder, .ust_htrip_trip, .glb_cpt_svc_fenced]

/-- What says whether elements move and are written, and which are present, is in `t` as in `s`. -/
structure State.GuardsKept (s t : State) : Prop where
  rd : ∀ f ∈ guardFields, ∀ i, t.rd f i = s.rd f i
  map : t.map = s.map
  openA : t.stand.openA = s.stand.openA
  openB : t.stand.openB = s.stand.openB
  handover : t.stand.handover = s.stand.handover
  frames : t.loop.frames = s.loop.frames
  clrLow : t.loop.clrLow = s.loop.clrLow
  heatClear : t.loop.heatClear = s.loop.heatClear
  resumeAt : ∀ n, (t.cpt n).resumeAt = (s.cpt n).resumeAt
  returnAt : ∀ n, (t.cpt n).returnAt = (s.cpt n).returnAt

/-- The mask of everything but the map, the Stands and those fields. -/
def besideGuards : Nat := fullMask - maskOf ([0, 3] ++ guardFields.map fun f => 17 + f.ctorIdx)

theorem besideGuards_field {f : Fid} (h : f ∈ guardFields) : besideGuards.testBit (17 + f.ctorIdx) = false := by
  simp only [guardFields, List.mem_cons, List.not_mem_nil, or_false] at h
  rcases h with rfl | rfl | rfl | rfl <;> decide

/-- A change of elements alone, under that mask. -/
theorem State.HeatersOnly.guardsKept {l : List Nat} {s t : State} (h : s.HeatersOnly l t) (k : Evolves besideGuards s t) :
    s.GuardsKept t where
  rd f hf i := k.rd f i (besideGuards_field hf)
  map := k.map rfl
  openA := by rw [k.stand rfl]
  openB := by rw [k.stand rfl]
  handover := by rw [k.stand rfl]
  frames := by rw [h.loop]
  clrLow := by rw [h.loop]
  heatClear := by rw [h.loop]
  resumeAt n := by rw [State.cpt, h.loop, State.cpt]
  returnAt n := by rw [State.cpt, h.loop, State.cpt]

theorem State.GuardsKept.trans {s t u : State} (h : s.GuardsKept t) (k : t.GuardsKept u) : s.GuardsKept u where
  rd f hf i := (k.rd f hf i).trans (h.rd f hf i)
  map := k.map.trans h.map
  openA := k.openA.trans h.openA
  openB := k.openB.trans h.openB
  handover := k.handover.trans h.handover
  frames := k.frames.trans h.frames
  clrLow := k.clrLow.trans h.clrLow
  heatClear := k.heatClear.trans h.heatClear
  resumeAt n := (k.resumeAt n).trans (h.resumeAt n)
  returnAt n := (k.returnAt n).trans (h.returnAt n)

theorem State.present_of_map {s t : State} (h : t.map = s.map) (e : Nat) : t.present e = s.present e := by
  simp only [State.present, State.erec, h]

section GuardsKept

variable {s t : State} (h : s.GuardsKept t)
include h

theorem State.GuardsKept.bit {f : Fid} (hf : f ∈ guardFields) (i : Nat) : t.bit f i = s.bit f i := by
  rw [State.bit, State.bit, h.rd f hf]

theorem State.GuardsKept.present (e : Nat) : t.present e = s.present e := State.present_of_map h.map e

theorem State.GuardsKept.writesReach : t.writesReach = s.writesReach := by
  unfold State.writesReach State.frozen State.holder
  rw [h.bit (by decide), h.rd _ (by decide), h.openA, h.openB, h.handover]

theorem State.GuardsKept.clrHeld (n : Nat) : t.clrHeld n = s.clrHeld n := by
  simp only [State.clrHeld, h.returnAt, h.clrLow]

theorem State.GuardsKept.heatHeld (e : Nat) : t.heatHeld e = s.heatHeld e := by
  simp only [State.heatHeld, h.bit (f := .ust_htrip_trip) (by decide), h.resumeAt, h.clrLow, h.heatClear]

theorem State.GuardsKept.mayMove (e : Nat) : t.mayMove e = s.mayMove e := by
  simp only [State.mayMove, State.frozen, State.fenced, h.bit (f := .glb_baton_status_frozen) (by decide),
    h.bit (f := .glb_cpt_svc_fenced) (by decide), h.clrHeld, h.heatHeld, h.clrLow]

theorem State.GuardsKept.atClear {e : Nat} (hw : (t.el e).waiting = (s.el e).waiting) : t.atClear e = s.atClear e := by
  simp only [State.atClear, h.clrHeld, hw]

theorem State.GuardsKept.falls {e : Nat} (hd : (t.el e).suspectDue = (s.el e).suspectDue)
    (ha : (t.el e).suspectAt = (s.el e).suspectAt) : t.falls e = s.falls e := by
  simp only [State.falls, h.mayMove, hd, ha, h.frames]

end GuardsKept

/-! ## An element's turn at a boundary changes no other element -/

/-- From `s` to `t` no element but `e` changes, and `e` keeps its drive. -/
structure State.DriveKept (e : Nat) (s t : State) : Prop where
  only : s.HeatersOnly [e] t
  drive : (t.el e).drive = (s.el e).drive

section DriveKept

variable {e : Nat} {s t : State} (h : s.DriveKept e t)
include h

theorem State.DriveKept.modEl {g : Elem → Elem} (hg : ∀ x, (g x).drive = x.drive := by exact fun _ => rfl) : s.DriveKept e (t.modEl e g) :=
  ⟨h.only.modEl List.mem_cons_self g, by rw [State.modEl_el_same, hg, h.drive]⟩

theorem State.DriveKept.ite {u : State} {c : Prop} [Decidable c] (k : s.DriveKept e u) : s.DriveKept e (if c then t else u) := by
  split <;> assumption

theorem State.DriveKept.slewTe : s.DriveKept e (t.slewTe e) := h.ite h.modEl

theorem State.DriveKept.showSat : s.DriveKept e (t.showSat e) := h.modEl

theorem State.DriveKept.setNext (i : Int) (u : Rat) : s.DriveKept e (t.setNext e i u) := h.modEl.showSat

theorem State.DriveKept.correct : s.DriveKept e (t.correct e) := (h.ite h.modEl).setNext _ _

theorem State.DriveKept.verdict (raw : Rat) (eps q : Int) : s.DriveKept e (t.verdict e raw eps q) := h.modEl

/-- A window measured, and judged where it may be. -/
theorem State.DriveKept.judged {c : Bool} {g : Elem → Elem} {raw : Rat} {eps q : Int}
    (hg : ∀ x, (g x).drive = x.drive := by exact fun _ => rfl) :
    s.DriveKept e (if c then (t.modEl e g).verdict e raw eps q else t.modEl e g) :=
  ((h.modEl hg).verdict _ _ _).ite (h.modEl hg)

theorem State.DriveKept.compute : s.DriveKept e (t.compute e) := by
  unfold State.compute
  dsimp only
  split
  · exact h.judged
  · split
    · exact h.judged.modEl
    · exact h.judged.correct
    · exact h.judged

theorem State.DriveKept.rescale : s.DriveKept e (t.rescale e) := (h.setNext _ _).ite h

end DriveKept

theorem State.DriveKept.refl (e : Nat) (s : State) : s.DriveKept e s := ⟨.refl _ s, rfl⟩

section Written

variable {l : List Nat} {s t : State} (h : s.HeatersOnly l t) {e : Nat} (he : e ∈ l)
include h he

theorem State.HeatersOnly.latch (u : Int) : s.HeatersOnly l (t.latch e u) := by
  have hcode := (h.wr (f := .ust_vdac_status_code) (by decide) e (min (2 ^ 20 - 1)
    (if t.rangeHi e then (t.limited e u).toNat else 2 * (t.limited e u).toNat))).modEl he fun x => { x with clamp := t.clampDir e u }
  exact hcode.ite (hcode.wrBit (by decide) _ _)

theorem State.HeatersOnly.writeDrive (u : Int) : s.HeatersOnly l (t.writeDrive e u) := by
  have hnote : s.HeatersOnly l (t.noteDrive e u) := h.modEl he _
  have hlatch := hnote.latch he u
  exact h.ite (hnote.ite ((hnote.ite (hlatch.ite ((hlatch.modEl he _).ite (hlatch.modEl he _)))).ite
    ((hnote.modEl he _).modHc e _)))

theorem State.HeatersOnly.writeDue (late : Bool) : s.HeatersOnly l (t.writeDue e late) :=
  h.ite (((h.writeDrive he _).modEl he _).ite (h.ite (h.wr (by decide) _ _)))

end Written

/-- A turn of an element that is not idle: its drive is written between what moves T_e and what computes the next one. -/
theorem State.loopElem_eq {s : State} {e : Nat} (hst : (s.el e).state ∈ [1, 2, 4, 5]) (late : Bool) :
    s.loopElem e late = (((s.slewTe e).writeDue e late).compute e).showSat e := by
  simp only [List.mem_cons, List.not_mem_nil, or_false] at hst
  rcases hst with h | h | h | h <;> simp only [State.loopElem, h]

theorem State.loopElem_only (s : State) (e : Nat) (late : Bool) : s.HeatersOnly [e] (s.loopElem e late) := by
  have hslew := (State.DriveKept.refl e s).slewTe
  have hturn := (hslew.only.writeDue List.mem_cons_self late).trans (State.DriveKept.refl e _).compute.showSat.only
  unfold State.loopElem
  dsimp only
  split
  · exact hturn
  · exact hturn
  · exact hturn
  · exact hturn
  · exact hslew.showSat.only

/-! ## The drive that a boundary writes (R169, R170, R203, R265) -/

/-- The drive due of an element that does not fall into SUSPECT and is not late: MANUAL its override, SUSPECT its last good drive,
another the computed one. -/
def State.driveDue (s : State) (e : Nat) : Int :=
  if (s.el e).state = 4 then (s.el e).override
  else if (s.el e).state = 5 then (s.el e).dGood
  else roundRat ((s.el e).next.getD (s.el e).drive)

@[simp] theorem State.latch_drive (s : State) (e : Nat) (u : Int) : ((s.latch e u).el e).drive = (s.el e).drive := by
  unfold State.latch
  dsimp only
  split <;> simp [State.setCode]

theorem State.writeDrive_drive {s : State} {e : Nat} (u : Int) (hc : s.atClear e = false)
    (hh : isV e = false → s.heatHeld e = false) : ((s.writeDrive e u).el e).drive = u := by
  have hnote : ((s.noteDrive e u).el e).drive = u := by rw [State.noteDrive, State.modEl_el_same]
  have hgo : ¬ (s.atClear e = true ∨ (!isV e) = true ∧ s.heatHeld e = true) := by
    rintro (k | ⟨hv, k⟩)
    · simp [hc] at k
    · simp [hh (by simpa using hv)] at k
  unfold State.writeDrive
  rw [if_neg hgo]
  dsimp only
  split
  · exact hnote
  · split
    · split
      · exact hnote
      · split
        · rw [State.latch_drive, hnote]
        · split <;> simp [hnote]
    · simp [State.latchDuty, hnote]

theorem State.writeDue_drive {s : State} {e : Nat} (hf : s.falls e = false) (hc : s.atClear e = false)
    (hh : isV e = false → s.heatHeld e = false) (hw : s.writesReach = true) (ha : s.applies e = true)
    (hst : (s.el e).state ∈ [1, 2, 4, 5]) : ((s.writeDue e false).el e).drive = s.driveDue e := by
  simp only [List.mem_cons, List.not_mem_nil, or_false] at hst
  rcases hst with h | h | h | h <;>
    simp [State.writeDue, State.driveDue, hw, ha, hf, h, State.writeDrive_drive _ hc hh]

theorem State.slewTe_el (s : State) (e : Nat) : (s.slewTe e).el e = { s.el e with te := ((s.slewTe e).el e).te } := by
  unfold State.slewTe
  dsimp only
  split
  · rfl
  · rw [State.modEl_el_same]

theorem State.slewTe_guardsKept (s : State) (e : Nat) : s.GuardsKept (s.slewTe e) :=
  (State.DriveKept.refl e s).slewTe.only.guardsKept (State.slewTe_evolves e (.refl s) rfl)

/-- An element that its turn writes has the drive due. -/
theorem State.loopElem_drive {s : State} {e : Nat} (hf : s.falls e = false) (hc : s.atClear e = false)
    (hh : isV e = false → s.heatHeld e = false) (hw : s.writesReach = true)
    (ha : ∀ a, (s.el e).writeIdx = some a → laterIdx a (Tbl.get 0 s.stand.index (elemCpt e)) = true)
    (hst : (s.el e).state ∈ [1, 2, 4, 5]) : ((s.loopElem e false).el e).drive = s.driveDue e := by
  obtain ⟨w, hslew⟩ : ∃ w, w = s.slewTe e := ⟨_, rfl⟩
  have hg : s.GuardsKept w := hslew ▸ s.slewTe_guardsKept e
  have hel : w.el e = { s.el e with te := (w.el e).te } := hslew ▸ s.slewTe_el e
  have hstand : w.stand = s.stand := hslew ▸ (State.slewTe_evolves (M := allBut 3) e (.refl s) rfl).stand rfl
  have happ : w.applies e = true := by
    unfold State.applies
    rw [hel, hstand]
    cases hi : (s.el e).writeIdx with
    | none => rfl
    | some a => simp [ha a hi]
  have hdue : w.driveDue e = s.driveDue e := by unfold State.driveDue; rw [hel]
  rw [State.loopElem_eq hst, ← hslew, (State.DriveKept.refl e _).compute.showSat.drive, ← hdue]
  exact State.writeDue_drive ((hg.falls (by rw [hel]) (by rw [hel])).trans hf) ((hg.atClear (by rw [hel])).trans hc)
    (fun hv => (hg.heatHeld e).trans (hh hv)) (hg.writesReach.trans hw) happ (by rwa [hel])

/-! ## The elements of a compartment at its boundary (R168, R169, R184) -/

theorem exec_loopPeriodBoundary (n : Fin 4) (mis : Bool) (mask : Fin 16) (late : List Nat) (stale : Fin 2048) (s : State) :
    exec (.loopPeriodBoundary n mis mask late stale) s = execLoopPeriodBoundary n mis mask late stale s := rfl

/-- The boundary of a compartment begun: its index advanced, its copy taken, its date kept. -/
def State.boundaryBegun (s : State) (n : Nat) : State :=
  ((s.advance n).copyCpt n).modCpt n (fun c => { c with ranAt := some s.loop.frames })

theorem State.boundaryBegun_index (s : State) (n : Nat) :
    Tbl.get 0 (s.boundaryBegun n).stand.index n = (Tbl.get 0 s.stand.index n + 1) % 2 ^ 24 :=
  Tbl.get_modify_same 0 s.stand.index n fun i => (i + 1) % 2 ^ 24

theorem State.modCpt_cpt_of {β : Type} (s : State) (k : Nat) {f : Cpt → Cpt} {p : Cpt → β} (h : ∀ c, p (f c) = p c) (n : Nat) :
    p ((s.modCpt k f).cpt n) = p (s.cpt n) := by
  by_cases hn : n = k
  · rw [hn, State.modCpt_cpt_same, h]
  · rw [State.modCpt_cpt_ne _ _ hn]

theorem State.boundaryBegun_guardsKept (s : State) (n : Nat) : s.GuardsKept (s.boundaryBegun n) where
  rd _ _ _ := rfl
  map := rfl
  openA := rfl
  openB := rfl
  handover := rfl
  frames := rfl
  clrLow := rfl
  heatClear := rfl
  resumeAt := State.modCpt_cpt_of (p := Cpt.resumeAt) _ n fun _ => rfl
  returnAt := State.modCpt_cpt_of (p := Cpt.returnAt) _ n fun _ => rfl

/-- The coefficients that a compartment's boundary computes under: those that a swap of this boundary put away, where there is one. -/
def State.underOld (s : State) (n : Nat) : State := if (s.cpt n).rescaleAt = some s.loop.frames then s.swapBanks n else s

/-- The turns of a compartment's elements taken under them. -/
def State.turnsTaken (s : State) (n : Nat) (late : List Nat) : State :=
  ((s.underOld n).loopElems n).foldl (fun s e => s.loopElem e (late.contains e)) (s.underOld n)

@[simp] theorem State.modCpt_el (s : State) (k : Nat) (f : Cpt → Cpt) (e : Nat) : (s.modCpt k f).el e = s.el e := rfl

theorem State.swapBanks_el (s : State) (n e : Nat) : (s.swapBanks n).el e = s.el e :=
  State.el_of_loop ((State.swapBanks_evolves (M := allBut 1) n (.refl s) rfl).loop rfl) e

theorem State.underOld_evolves {M : Nat} (s : State) (n : Nat)
    (hm : 0x3fc00000000000000000000000000000000 &&& M = 0x3fc00000000000000000000000000000000) : Evolves M s (s.underOld n) :=
  .ite (State.swapBanks_evolves n (.refl s) hm) (.refl s)

theorem State.rescale_drive (s : State) (k e : Nat) : ((s.rescale k).el e).drive = (s.el e).drive := by
  have h := (State.DriveKept.refl k s).rescale
  by_cases hk : e = k
  · rw [hk, h.drive]
  · rw [h.only.el e (by simpa using hk)]

/-- What follows the turns, where a swap rescales, changes no drive (R184). -/
theorem State.computeCpt_drive (s : State) (n : Nat) (late : List Nat) (e : Nat) :
    ((s.computeCpt n late).el e).drive = ((s.turnsTaken n late).el e).drive := by
  unfold State.computeCpt State.turnsTaken State.underOld
  by_cases hr : (s.cpt n).rescaleAt = some s.loop.frames
  · simp only [hr, decide_true, if_true]
    refine (foldl_keeps (f := State.rescale) (fun t => (t.el e).drive) (fun t k => t.rescale_drive k e) _ _).trans ?_
    rw [State.modCpt_el, State.swapBanks_el]
  · simp only [hr, decide_false, if_false, Bool.false_eq_true]

theorem State.loopElem_guardsKept (s : State) (e : Nat) (late : Bool) : s.GuardsKept (s.loopElem e late) :=
  (s.loopElem_only e late).guardsKept (State.loopElem_evolves e late (.refl s) rfl)

theorem State.underOld_el (s : State) (n e : Nat) : (s.underOld n).el e = s.el e :=
  State.el_of_loop ((s.underOld_evolves (M := allBut 1) n rfl).loop rfl) e

theorem State.underOld_stand (s : State) (n : Nat) : (s.underOld n).stand = s.stand :=
  (s.underOld_evolves (M := allBut 3) n rfl).stand rfl

theorem State.underOld_guardsKept (s : State) (n : Nat) : s.GuardsKept (s.underOld n) :=
  ((State.HeatersOnly.refl [] s).evolves (s.underOld_evolves n rfl)).guardsKept (s.underOld_evolves n rfl)

/-- A present element out of PARK has its turn once, from a state in which it and what guards it are as before the boundary, the
index advanced. -/
theorem State.boundary_turn {s : State} {e : Nat} (hp : s.present e = true) (hst : (s.el e).state ≠ 0) : ∃ u : State,
    s.GuardsKept u ∧ u.el e = s.el e ∧
    Tbl.get 0 u.stand.index (elemCpt e) = (Tbl.get 0 s.stand.index (elemCpt e) + 1) % 2 ^ 24 ∧
    ((s.boundaryBegun (elemCpt e)).turnsTaken (elemCpt e) []).el e = (u.loopElem e false).el e := by
  obtain ⟨v, hv⟩ : ∃ v, v = (s.boundaryBegun (elemCpt e)).underOld (elemCpt e) := ⟨_, rfl⟩
  have hel : v.el e = s.el e := hv ▸ State.underOld_el _ _ _
  have hkept : s.GuardsKept v := hv ▸ (s.boundaryBegun_guardsKept _).trans (State.underOld_guardsKept _ _)
  have hidx : Tbl.get 0 v.stand.index (elemCpt e) = (Tbl.get 0 s.stand.index (elemCpt e) + 1) % 2 ^ 24 := by
    rw [hv, State.underOld_stand, State.boundaryBegun_index]
  have hmem : e ∈ v.loopElems (elemCpt e) := State.mem_loopElems ((hkept.present e).trans hp) (by rwa [hel])
  obtain ⟨u, ⟨hu, hstand⟩, huel, hturn⟩ := foldl_view_at (f := fun s k => s.loopElem k (([] : List Nat).contains k))
    (fun t => t.el e) (P := fun t => s.GuardsKept t ∧ t.stand = v.stand)
    (fun t k ht => ⟨ht.1.trans (t.loopElem_guardsKept k _),
      ((State.loopElem_evolves (M := allBut 3) k _ (.refl t) rfl).stand rfl).trans ht.2⟩)
    (fun t k hk => (t.loopElem_only k _).el e (by simpa using hk.symm)) (v.loopElems_nodup _) hmem ⟨hkept, rfl⟩
  exact ⟨u, hu, huel.trans hel, by rw [hstand, hidx], by rw [State.turnsTaken, ← hv]; exact hturn⟩

/-- A present element that neither falls to SUSPECT nor is held has the drive due after the boundary that computes it. -/
theorem State.boundary_drive {s : State} {n e : Nat} (hn : elemCpt e = n) (hp : s.present e = true) (hf : s.falls e = false)
    (hc : s.atClear e = false) (hh : isV e = false → s.heatHeld e = false) (hw : s.writesReach = true)
    (ha : ∀ a, (s.el e).writeIdx = some a → laterIdx a ((Tbl.get 0 s.stand.index n + 1) % 2 ^ 24) = true)
    (hst : (s.el e).state ∈ [1, 2, 4, 5]) : (((s.boundaryBegun n).computeCpt n []).el e).drive = s.driveDue e := by
  subst hn
  obtain ⟨u, hu, hel, hidx, hturn⟩ := State.boundary_turn hp (ne_of_mem_of_not_mem hst (by decide))
  have hdue : u.driveDue e = s.driveDue e := by unfold State.driveDue; rw [hel]
  rw [State.computeCpt_drive, hturn, ← hdue]
  exact State.loopElem_drive ((hu.falls (by rw [hel]) (by rw [hel])).trans hf) ((hu.atClear (by rw [hel])).trans hc)
    (fun hv => (hu.heatHeld e).trans (hh hv)) (hu.writesReach.trans hw) (by rwa [hel, hidx]) (by rwa [hel])

/-! ## What a boundary shows (R168, R198) -/

theorem State.snapCpt_el (s : State) (n e : Nat) : (s.snapCpt n).el e = s.el e :=
  foldl_keeps (f := State.snapEl) (fun t => t.el e) (fun _ _ => rfl) _ s

theorem State.sendLoops_el (s : State) (n e : Nat) : (s.sendLoops n).el e = s.el e := by
  rw [State.sendLoops, State.el_of_loop ((State.telRound_evolves (M := allBut 1) _ _ _ (.refl _) rfl).loop rfl), State.snapCpt_el]

theorem State.syncCheck_index (s : State) (n : Nat) (mis : Bool) : (s.syncCheck n mis).stand.index = s.stand.index := by
  unfold State.syncCheck
  dsimp only
  split
  · rfl
  · split <;> rfl

/-- The number of elements in HOLD stands in both Stands' counts. -/
theorem State.countStates_hold (s : State) (n : Nat) {k : Nat} (hk : k ∈ [0, 65536]) :
    (s.countStates n).rd .stx_cpt_cnt_cnt_lo (k + 4 * n) =
      ((s.cptPresent n).filter (fun e => (s.el e).state == 2)).length % 2 ^ Fid.stx_cpt_cnt_cnt_lo.width := by
  simp only [List.mem_cons, List.not_mem_nil, or_false] at hk
  have hne : ∀ i, 4 * n ≠ 65536 + 4 * n + i := fun i => by omega
  rcases hk with rfl | rfl <;> simp [State.countStates, State.rd_wr, List.range, List.range.loop, hne]

/-- The counts, the shadow's checksum, the commanded power and the records of a boundary. -/
def State.boundaryShown (s : State) (n : Nat) (mis : Bool) : State := ((((s.countStates n).syncCheck n mis).powerCap).sendLoops n)

theorem State.boundaryShown_el (s : State) (n : Nat) (mis : Bool) (e : Nat) : (s.boundaryShown n mis).el e = s.el e := by
  rw [State.boundaryShown, State.sendLoops_el]
  exact State.el_of_loop ((State.powerCap_evolves (M := allBut 1) (State.syncCheck_evolves _ _
    (State.countStates_evolves _ (.refl s) rfl) rfl) rfl).loop rfl) e

theorem State.boundaryShown_index (s : State) (n : Nat) (mis : Bool) : (s.boundaryShown n mis).stand.index = s.stand.index := by
  rw [State.boundaryShown, (State.sendLoops_evolves (M := allBut 3) n (State.powerCap_evolves (.refl _) rfl) rfl).stand rfl,
    State.syncCheck_index, (State.countStates_evolves (M := allBut 3) n (.refl s) rfl).stand rfl]

theorem State.boundaryShown_hold (s : State) (n : Nat) (mis : Bool) {k : Nat} (hk : k ∈ [0, 65536]) :
    (s.boundaryShown n mis).rd .stx_cpt_cnt_cnt_lo (k + 4 * n) = (((s.boundaryShown n mis).cptPresent n).filter
      (fun e => ((s.boundaryShown n mis).el e).state == 2)).length % 2 ^ Fid.stx_cpt_cnt_cnt_lo.width := by
  have hmap : (s.boundaryShown n mis).map = s.map := (State.sendLoops_evolves (M := allBut 0) n (State.powerCap_evolves
    (State.syncCheck_evolves _ mis (State.countStates_evolves _ (.refl s) rfl) rfl) rfl) rfl).map rfl
  have hpres : (s.boundaryShown n mis).cptPresent n = s.cptPresent n := by
    simp only [State.cptPresent, funext (State.present_of_map hmap)]
  have hlo := (State.sendLoops_evolves (M := allBut (17 + Fid.ctorIdx .stx_cpt_cnt_cnt_lo)) n (State.powerCap_evolves
    (State.syncCheck_evolves n mis (.refl (s.countStates n)) rfl) rfl) rfl).rd .stx_cpt_cnt_cnt_lo (k + 4 * n) rfl
  simp only [hpres, State.boundaryShown_el]
  exact hlo.trans (s.countStates_hold n hk)

/-! ## LOOP_PERIOD_BOUNDARY -/

section Boundary

variable (n : Fin 4) (mis : Bool) (mask : Fin 16) (late : List Nat) (stale : Fin 2048) {s : State}

theorem execLoopPeriodBoundary_idle (h : s.atBoundary n = false ∨ s.ran n = true) :
    execLoopPeriodBoundary n mis mask late stale s = .next s := by
  have hskip : (!s.atBoundary n) = true ∨ s.ran n = true := h.imp_left (by simp [·])
  rw [execLoopPeriodBoundary, if_pos hskip]

theorem State.overrun_finished {s : State} {n mask : Nat} (h : mask.testBit n = false) : s.overrun n mask = s := by
  simp [State.overrun, h]

theorem State.endOverlap_none {s : State} (n : Nat) (h : s.stand.handover = none) : s.endOverlap n = s := by
  simp [State.endOverlap, h]

theorem State.overlapped_none {s : State} (n : Nat) (h : s.stand.handover = none) : s.overlapped n = false := by
  simp [State.overlapped, h]

/-- A boundary that is dealt with in time, no Stand FROZEN and no handover running: the elements computed and shown. -/
theorem execLoopPeriodBoundary_computes (hb : s.atBoundary n = true) (hr : s.ran n = false) (hf : s.frozen = false)
    (hh : s.stand.handover = none) (hm : mask.val.testBit n = false) : execLoopPeriodBoundary n mis mask late stale s =
      .next (((s.boundaryBegun n).computeCpt n []).boundaryShown n mis) := by
  have hgo : ¬ ((!s.atBoundary n) = true ∨ s.ran n = true) := by simp [hb, hr]
  have hfz : (s.boundaryBegun n).frozen = false := hf
  have hfirst : (s.boundaryBegun n).stand.handover = none := hh
  have hnone : ((s.boundaryBegun n).computeCpt n []).stand.handover = none := by
    rw [(State.computeCpt_evolves (M := allBut 3) n [] (.refl _) rfl).stand rfl, hfirst]
  unfold State.boundaryBegun at hfz hfirst hnone
  unfold State.boundaryBegun State.boundaryShown execLoopPeriodBoundary
  rw [if_neg hgo]
  simp only [hm, hfz, Bool.false_eq_true, if_false, State.overlapped_none _ hfirst, State.endOverlap_none _ hnone,
    State.overrun_finished hm]

end Boundary

/-! ## COEF_COMMIT_WRITE (R183) -/

theorem exec_coefCommitWrite (n : Fin 4) (s : State) : exec (.coefCommitWrite n) s = execCoefCommitWrite n s := rfl

theorem execCoefCommitWrite_asks {n : Fin 4} {s : State} (hs : (s.cpt n).swap = none) (hok : s.commitOk n = true) :
    execCoefCommitWrite n s = .next (s.askSwap n none) := by
  simp [execCoefCommitWrite, hs, hok]

theorem execCoefCommitWrite_rejects {n : Fin 4} {s : State} (hs : (s.cpt n).swap = none) (hok : s.commitOk n = false) :
    execCoefCommitWrite n s =
      .next ((s.wrBit .stx_coef_ctrl_reject n true).wrBit .stx_coef_ctrl_commit n false) := by
  simp [execCoefCommitWrite, hs, hok]

/-! ## COEFFICIENT_SWAP (R183, R184) -/

theorem exec_coefficientSwap (n : Fin 4) (s : State) : exec (.coefficientSwap n) s = execCoefficientSwap n s := rfl

/-- The registers of a set in the shadow bank, each with its own in the active one. -/
def coefPairs : List (Fid × Fid) :=
  [(.stx_coef_kp, .stx_coef_act_kp), (.stx_coef_ki, .stx_coef_act_ki), (.stx_coef_ilim, .stx_coef_act_ilim),
    (.stx_coef_eps_max, .stx_coef_act_eps_max)]

/-- One set swapped between the banks. -/
def State.swapSet (s : State) (i : Nat) : State :=
  coefPairs.foldl (fun s p => s.swapPair p.1 p.2 i) s

theorem State.swapBanks_eq (s : State) (n : Nat) :
    s.swapBanks n = (List.range 16).foldl (fun s k => s.swapSet (coefIdx n k)) s := rfl

theorem State.swapSet_swaps (s : State) (i : Nat) {p : Fid × Fid} (hp : p ∈ coefPairs) :
    (s.swapSet i).rd p.1 i = s.rd p.2 i % 2 ^ p.1.width ∧ (s.swapSet i).rd p.2 i = s.rd p.1 i % 2 ^ p.2.width := by
  simp only [coefPairs, List.mem_cons, List.not_mem_nil, or_false] at hp
  rcases hp with rfl | rfl | rfl | rfl <;> simp [State.swapSet, coefPairs, State.swapPair, State.rd_wr]

theorem State.swapSet_rd_ne (s : State) {i j : Nat} (h : j ≠ i) (f : Fid) : (s.swapSet i).rd f j = s.rd f j := by
  simp [State.swapSet, coefPairs, State.swapPair, State.rd_wr, h]

/-- Every coefficient of the two banks of a compartment swapped. -/
theorem State.swapBanks_swaps (s : State) (n : Nat) {k : Nat} (hk : k < 16) {p : Fid × Fid} (hp : p ∈ coefPairs) :
    (s.swapBanks n).rd p.1 (coefIdx n k) = s.rd p.2 (coefIdx n k) % 2 ^ p.1.width ∧
    (s.swapBanks n).rd p.2 (coefIdx n k) = s.rd p.1 (coefIdx n k) % 2 ^ p.2.width := by
  obtain ⟨u, -, hu, hturn⟩ := foldl_view_at (f := fun s j => s.swapSet (coefIdx n j)) (e := k) (fun t f => t.rd f (coefIdx n k))
    (P := fun _ => True) (fun _ _ _ => trivial)
    (fun t j hj => funext (t.swapSet_rd_ne (by unfold coefIdx; omega)))
    List.nodup_range (List.mem_range.mpr hk) (s := s) trivial
  have hset := u.swapSet_swaps (coefIdx n k) hp
  rw [State.swapBanks_eq, congrFun hturn, congrFun hturn, ← congrFun hu, ← congrFun hu]
  exact hset

theorem State.swapBanks_rd (s : State) (n : Nat) {f : Fid} (hf : f ∈ [Fid.stx_coef_ctrl_bank, .stx_coef_ctrl_swap_cnt]) (i : Nat) :
    (s.swapBanks n).rd f i = s.rd f i := by
  simp only [List.mem_cons, List.not_mem_nil, or_false] at hf
  rcases hf with rfl | rfl
  · exact (State.swapBanks_evolves (M := allBut (17 + Fid.ctorIdx .stx_coef_ctrl_bank)) n (.refl s) rfl).rd _ i rfl
  · exact (State.swapBanks_evolves (M := allBut (17 + Fid.ctorIdx .stx_coef_ctrl_swap_cnt)) n (.refl s) rfl).rd _ i rfl

/-- The banks swapped and the swap shown: COMMIT clear, BANK toggled, SWAP_CNT counted. -/
def State.swapMade (s : State) (n : Nat) : State :=
  ((((s.swapBanks n).modCpt n (fun c => { c with swap := none })).wrBit .stx_coef_ctrl_commit n false).wrBit .stx_coef_ctrl_bank n
    (!s.bit .stx_coef_ctrl_bank n)).inc .stx_coef_ctrl_swap_cnt n

theorem State.rd_inc (s : State) (f g : Fid) (i j : Nat) :
    (s.inc f i).rd g j = if g = f ∧ j = i then (s.rd f i + 1) % 2 ^ f.width else s.rd g j := s.rd_wr f g i j _

@[simp] theorem State.inc_loop (s : State) (f : Fid) (i : Nat) : (s.inc f i).loop = s.loop := rfl
@[simp] theorem State.inc_mbx (s : State) (f : Fid) (i : Nat) : (s.inc f i).mbx = s.mbx := rfl

theorem State.swapMade_rd (s : State) (n : Nat) {f : Fid}
    (hf : f ∉ [Fid.stx_coef_ctrl_commit, .stx_coef_ctrl_bank, .stx_coef_ctrl_swap_cnt]) (i : Nat) :
    (s.swapMade n).rd f i = (s.swapBanks n).rd f i := by
  simp only [List.mem_cons, List.not_mem_nil, or_false, not_or] at hf
  rw [State.swapMade, State.rd_inc, if_neg (by simp [hf]), State.rd_wrBit_ne _ _ (by simp [hf]), State.rd_wrBit_ne _ _ (by simp [hf]),
    State.modCpt_rd]

theorem State.swapMade_bank (s : State) (n : Nat) :
    (s.swapMade n).rd .stx_coef_ctrl_bank n = bit01 (s.rd .stx_coef_ctrl_bank n == 0) := by
  rw [State.swapMade, State.rd_inc, if_neg (by simp), State.rd_wrBit_same, State.bit, bne, Bool.not_not]

theorem State.swapMade_count (s : State) (n : Nat) : (s.swapMade n).rd .stx_coef_ctrl_swap_cnt n =
    (s.rd .stx_coef_ctrl_swap_cnt n + 1) % 2 ^ Fid.stx_coef_ctrl_swap_cnt.width := by
  rw [State.swapMade, State.rd_inc, if_pos ⟨rfl, rfl⟩, State.rd_wrBit_ne _ _ (by simp), State.rd_wrBit_ne _ _ (by simp),
    State.modCpt_rd, s.swapBanks_rd n (by decide)]

/-- The elements rescaled, at once or by the boundary that is still to come. -/
def State.swapRescaled (s : State) (n : Nat) : State :=
  if s.ran n then (((s.swapMade n).loopElems n).foldl (fun s e => s.rescale e) (s.swapMade n)).resnapCpt n
  else (s.swapMade n).modCpt n (fun c => { c with rescaleAt := some s.loop.frames })

theorem State.swapRescaled_evolves {M : Nat} (s : State) (n : Nat) (hm : 0x2 &&& M = 0x2) :
    Evolves M (s.swapMade n) (s.swapRescaled n) :=
  .ite (State.resnapCpt_evolves n (.foldl _ (.refl _) fun _ e h => State.rescale_evolves e h hm) hm)
    (State.modCpt_evolves n _ (.refl _) hm)

theorem State.resnapCpt_cpt (s : State) (n k : Nat) : (s.resnapCpt n).cpt k = s.cpt k := by
  rw [State.cpt, State.resnapCpt_loop, State.cpt]

theorem State.resnapCpt_el (s : State) (n e : Nat) : (s.resnapCpt n).el e = s.el e := by
  rw [State.el, State.resnapCpt_loop, State.el]

theorem State.HeatersOnly.cpt {l : List Nat} {s t : State} (h : s.HeatersOnly l t) (n : Nat) : t.cpt n = s.cpt n := by
  rw [State.cpt, h.loop, State.cpt]

theorem State.finishOpt_loop (s : State) (o : Option Owner) (c : Completion) : (s.finishOpt o c).loop = s.loop :=
  (State.finishOpt_evolves (M := allBut 1) o c (.refl s) rfl).loop rfl

theorem State.cpt_of_loop {s t : State} (h : t.loop = s.loop) (n : Nat) : t.cpt n = s.cpt n := by rw [State.cpt, h, State.cpt]

theorem State.swapMade_swap (s : State) (n : Nat) : ((s.swapMade n).cpt n).swap = none := by
  rw [State.swapMade, State.cpt, State.inc_loop, State.wrBit, State.wr_loop, State.wrBit, State.wr_loop, ← State.cpt,
    State.modCpt_cpt_same]

theorem State.swapRescaled_swap (s : State) (n : Nat) : ((s.swapRescaled n).cpt n).swap = none := by
  unfold State.swapRescaled
  split
  · rw [State.resnapCpt_cpt, foldl_keeps (f := State.rescale) (fun t => t.cpt n)
      (fun t k => (State.DriveKept.refl k t).rescale.only.cpt n), State.swapMade_swap]
  · rw [State.modCpt_cpt_same, State.swapMade_swap]

theorem State.swapRescaled_mbx (s : State) (n : Nat) : (s.swapRescaled n).mbx = s.mbx := by
  rw [(s.swapRescaled_evolves (M := allBut 4) n rfl).mbx rfl]
  rw [State.swapMade, State.inc_mbx, State.wrBit, State.wr_mbx, State.wrBit, State.wr_mbx, State.modCpt_mbx,
    (State.swapBanks_evolves (M := allBut 4) n (.refl s) rfl).mbx rfl]

theorem State.swapRescaled_rd (s : State) (n : Nat) (f : Fid) (i : Nat) : (s.swapRescaled n).rd f i = (s.swapMade n).rd f i :=
  (s.swapRescaled_evolves (M := 2 ^ 1) n rfl).rd f i (Nat.testBit_two_pow_of_ne (by omega))

theorem execCoefficientSwap_swaps {n : Fin 4} {f : Nat} {o : Option Owner} {s : State} (hs : (s.cpt n).swap = some (f, o))
    (hb : s.nextBoundary n f = true) : execCoefficientSwap n s = .next ((s.swapRescaled n).finishOpt o { status := .ok }) := by
  have hgo : ¬ (!s.nextBoundary n f) = true := by simp [hb]
  unfold execCoefficientSwap State.swapRescaled State.swapMade
  simp only [hs, if_neg hgo]

theorem State.swapFinished_rd (s : State) (n : Nat) (o : Option Owner) (c : Completion) {f : Fid} (hf : f ≠ .mbx_status_inflight)
    (i : Nat) : ((s.swapRescaled n).finishOpt o c).rd f i = (s.swapMade n).rd f i :=
  (State.finishOpt_rd _ _ _ hf).trans (s.swapRescaled_rd n f i)

theorem State.swapFinished_coefs (s : State) (n : Nat) (o : Option Owner) (c : Completion) {k : Nat} (hk : k < 16) {p : Fid × Fid}
    (hp : p ∈ coefPairs) :
    ((s.swapRescaled n).finishOpt o c).rd p.1 (coefIdx n k) = s.rd p.2 (coefIdx n k) % 2 ^ p.1.width ∧
    ((s.swapRescaled n).finishOpt o c).rd p.2 (coefIdx n k) = s.rd p.1 (coefIdx n k) % 2 ^ p.2.width := by
  have hother : ∀ p ∈ coefPairs, ∀ f ∈ [p.1, p.2], f ≠ .mbx_status_inflight ∧
      f ∉ [Fid.stx_coef_ctrl_commit, .stx_coef_ctrl_bank, .stx_coef_ctrl_swap_cnt] := by decide
  obtain ⟨h1, h1'⟩ := hother p hp p.1 (by simp)
  obtain ⟨h2, h2'⟩ := hother p hp p.2 (by simp)
  rw [State.swapFinished_rd _ _ _ _ h1, State.swapFinished_rd _ _ _ _ h2, State.swapMade_rd _ _ h1', State.swapMade_rd _ _ h2']
  exact s.swapBanks_swaps n hk hp

/-! ## PERIOD_WINDOW_CHANGE (R195, R196) -/

theorem exec_periodWindowChange (n : Fin 4) (s : State) : exec (.periodWindowChange n) s = execPeriodWindowChange n s := rfl

/-- The new period and window in force. -/
def State.periodMade (s : State) (n p w : Nat) : State :=
  (((s.wr .stx_cpt_cfg_psel n p).wr .stx_cpt_cfg_wsel n w).wrBit .stx_cpt_cfg_pend n false).modCpt n (fun c => { c with change := none })

/-- An element at a period change: HOLD that may move enters SETTLE with its drive, another starts its window afresh. -/
def State.windowAfresh (s : State) (e : Nat) : State :=
  if (s.el e).state = 2 ∧ s.mayMove e then s.enterSettle e (s.dueDrive e)
  else if (s.el e).state = 1 ∨ (s.el e).state = 2 then
    s.modEl e (fun y => { y with winFrom := s.loop.frames, settleAt := s.loop.frames, periods := 0 })
  else s

/-- Every element of a compartment at its period change. -/
def State.periodChanged (s : State) (n p w : Nat) : State :=
  (((s.periodMade n p w).loopElems n).foldl (fun s e => s.windowAfresh e) (s.periodMade n p w)).resnapCpt n

theorem State.windowAfresh_only (s : State) (e : Nat) : s.HeatersOnly [e] (s.windowAfresh e) := by
  have h := State.HeatersOnly.refl [e] s
  exact (h.enterSettle List.mem_cons_self _).ite ((h.modEl List.mem_cons_self _).ite h)

theorem State.windowAfresh_evolves {M : Nat} {o s : State} (e : Nat) (h : Evolves M o s)
    (hm : 0x8000000000000000000002 &&& M = 0x8000000000000000000002) : Evolves M o (s.windowAfresh e) :=
  .ite (State.enterSettle_evolves e _ h hm) (.ite (State.modEl_evolves e _ h (mask_trans (by decide) hm)) h)

theorem State.periodChanged_evolves {M : Nat} (s : State) (n p w : Nat)
    (hm : 0x8000000000000000000002 &&& M = 0x8000000000000000000002) : Evolves M (s.periodMade n p w) (s.periodChanged n p w) :=
  State.resnapCpt_evolves n (.foldl _ (.refl _) fun _ e h => State.windowAfresh_evolves e h hm) (mask_trans (by decide) hm)

theorem State.enterSettle_state (s : State) (e : Nat) (d : Int) : ((s.enterSettle e d).el e).state = 1 := by
  simp [State.enterSettle, State.showSat]

theorem State.periodMade_guardsKept (s : State) (n p w : Nat) : s.GuardsKept (s.periodMade n p w) where
  rd f hf i := by
    simp only [guardFields, List.mem_cons, List.not_mem_nil, or_false] at hf
    rcases hf with rfl | rfl | rfl | rfl <;> simp [State.periodMade, State.rd_wr, State.rd_wrBit]
  map := rfl
  openA := rfl
  openB := rfl
  handover := rfl
  frames := rfl
  clrLow := rfl
  heatClear := rfl
  resumeAt := State.modCpt_cpt_of (p := Cpt.resumeAt) _ n fun _ => rfl
  returnAt := State.modCpt_cpt_of (p := Cpt.returnAt) _ n fun _ => rfl

/-- A present element in HOLD that may move is in SETTLE after its compartment's period change. -/
theorem State.periodChanged_settles {s : State} {n e : Nat} (p w : Nat) (hn : elemCpt e = n) (hp : s.present e = true)
    (hst : (s.el e).state = 2) (hmv : s.mayMove e = true) : ((s.periodChanged n p w).el e).state = 1 := by
  subst hn
  have hmade := s.periodMade_guardsKept (elemCpt e) p w
  have hel : (s.periodMade (elemCpt e) p w).el e = s.el e := rfl
  have hmem : e ∈ (s.periodMade (elemCpt e) p w).loopElems (elemCpt e) :=
    State.mem_loopElems ((hmade.present e).trans hp) (by rw [hel, hst]; decide)
  obtain ⟨u, hu, huel, hturn⟩ := foldl_view_at (f := State.windowAfresh) (fun t => t.el e) (P := s.GuardsKept)
    (fun t k ht => ht.trans ((t.windowAfresh_only k).guardsKept (State.windowAfresh_evolves k (.refl t) rfl)))
    (fun t k hk => (t.windowAfresh_only k).el e (by simpa using hk.symm)) (State.loopElems_nodup _ _) hmem hmade
  have hgo : (u.el e).state = 2 ∧ u.mayMove e = true := ⟨by rw [huel, hel, hst], (hu.mayMove e).trans hmv⟩
  rw [State.periodChanged, State.resnapCpt_el, hturn, State.windowAfresh, if_pos hgo, State.enterSettle_state]

theorem State.periodChanged_change (s : State) (n p w : Nat) : ((s.periodChanged n p w).cpt n).change = none := by
  rw [State.periodChanged, State.resnapCpt_cpt, foldl_keeps (f := State.windowAfresh) (fun t => t.cpt n)
    (fun t k => (t.windowAfresh_only k).cpt n), State.periodMade, State.modCpt_cpt_same]

theorem State.periodChanged_mbx (s : State) (n p w : Nat) : (s.periodChanged n p w).mbx = s.mbx :=
  (s.periodChanged_evolves (M := allBut 4) n p w rfl).mbx rfl

theorem execPeriodWindowChange_changes {n : Fin 4} {p w f : Nat} {o : Option Owner} {s : State}
    (hc : (s.cpt n).change = some (p, w, f, o)) (hf : f + 2 ≤ s.loop.frames) (hb : s.frame % 40 = 0) :
    execPeriodWindowChange n s = .next ((s.periodChanged n p w).finishOpt o { status := .ok }) := by
  have hgo : ¬ (s.loop.frames < f + 2 ∨ s.frame % 40 ≠ 0) := by omega
  unfold execPeriodWindowChange
  simp only [hc, if_neg hgo]
  rfl

/-- The fields that a period change sets. -/
def periodFields : List Fid := [.stx_cpt_cfg_psel, .stx_cpt_cfg_wsel, .stx_cpt_cfg_pend]

theorem State.periodFinished_rd (s : State) (n p w : Nat) (o : Option Owner) (c : Completion) {f : Fid} (hf : f ∈ periodFields)
    (i : Nat) : ((s.periodChanged n p w).finishOpt o c).rd f i = (s.periodMade n p w).rd f i := by
  have hne : ∀ f ∈ periodFields, f ≠ .mbx_status_inflight ∧
      (0x8000000000000000000002 : Nat).testBit (17 + f.ctorIdx) = false := by decide
  obtain ⟨hfl, hbit⟩ := hne f hf
  exact (State.finishOpt_rd _ _ _ hfl).trans ((s.periodChanged_evolves n p w rfl).rd f i hbit)

/-! ## CALIBRATION_RECORD_APPLY (R197) -/

@[simp] theorem State.modEl_calRec (s : State) (k : Nat) (f : Elem → Elem) (e : Nat) : (s.modEl k f).calRec e = s.calRec e := rfl

theorem exec_calibrationRecordApply (e : Fin 10240) (s : State) :
    exec (.calibrationRecordApply e) s = execCalibrationRecordApply e s := rfl

/-- A record put in force. -/
def State.recordInForce (s : State) (e : Nat) (r : ElCal) : State :=
  (({ s with loop := { s.loop with cal := Tbl.set {} s.loop.cal e r } }).modEl e (fun y => { y with newRec := none })).showCleared
    (elemCpt e)

/-- The record is put in force, and where the element had one before, what its integrators carry over changes that element alone. -/
theorem execCalibrationRecordApply_applies {e : Fin 10240} {r : ElCal} {s : State} (hr : (s.el e).newRec = some r)
    (hb : s.nextBoundary (elemCpt e) (s.el e).readyAt = true) : ∃ t, execCalibrationRecordApply e s = .next t ∧
      (t = s.recordInForce e r ∨ ∃ g : Elem → Elem, (∀ x, (g x).newRec = x.newRec) ∧ t = (s.recordInForce e r).modEl e g) := by
  have hgo : ¬ (!s.nextBoundary (elemCpt e) (s.el e).readyAt) = true := by simp [hb]
  refine ⟨_, rfl, ?_⟩
  simp only [hr, if_neg hgo]
  split
  · exact .inl rfl
  · refine .inr ⟨_, ?_, rfl⟩; exact fun _ => rfl

theorem State.recordInForce_leaves (s : State) (e : Nat) (r : ElCal) : (s.recordInForce e r).calRec e = r ∧
    ((s.recordInForce e r).el e).newRec = none ∧
    ∀ k, k ≠ e → (s.recordInForce e r).el k = s.el k ∧ (s.recordInForce e r).calRec k = s.calRec k := by
  refine ⟨Tbl.get_set_same _ _ _ _, ?_, fun k hk => ⟨?_, Tbl.get_set_ne _ _ _ hk⟩⟩
  · rw [State.recordInForce, State.showCleared, State.wrBit_el, State.modEl_el_same]
  · rw [State.recordInForce, State.showCleared, State.wrBit_el, State.modEl_el_ne _ _ hk]
    rfl

/-! ## O31 -/

/-- Settles O31: each event by its own rule above. -/
theorem loopEventsRun : Obligations.LoopEventsRun := by
  unfold Obligations.LoopEventsRun
  refine ⟨fun n mis mask late stale s h => ?idle, fun n mis mask late stale s hb hr hf hh hw hm => ?boundary,
    fun n s hs => ⟨fun hok => ?commit, fun hok => ?reject⟩, fun n f o s hs hb => ?swap, fun n p w f o s hc hf hb => ?period,
    fun e r s hr hb => ?record⟩
  case idle => rw [exec_loopPeriodBoundary, execLoopPeriodBoundary_idle n mis mask late stale h]
  case boundary =>
    refine ⟨_, (exec_loopPeriodBoundary ..).trans (execLoopPeriodBoundary_computes n mis mask late stale hb hr hf hh hm), ?_,
      fun e hn hp hfall hc hheat ha => ?_, fun k hk => State.boundaryShown_hold _ _ _ hk⟩
    · rw [State.boundaryShown_index, (State.computeCpt_evolves (M := allBut 3) n [] (.refl _) rfl).stand rfl,
        State.boundaryBegun_index]
    · have hdrive := State.boundary_drive hn hp hfall hc hheat hw ha
      rw [State.boundaryShown_el]
      refine ⟨fun hst => ?_, fun hst => ?_, fun hst => ?_⟩
      · rw [hdrive (by simpa using hst.imp_right .inl), State.driveDue, if_neg (by omega), if_neg (by omega)]
      · rw [hdrive (by simp [hst]), State.driveDue, if_pos hst]
      · rw [hdrive (by simp [hst]), State.driveDue, if_neg (by omega), if_pos hst]
  case commit =>
    refine ⟨_, (exec_coefCommitWrite n s).trans (execCoefCommitWrite_asks hs hok), ?_, ?_, fun f i hfi => ?_⟩
    · rw [State.askSwap, State.modCpt_rd, State.rd_wrBit_same]; rfl
    · rw [State.askSwap, State.modCpt_cpt_same]; rfl
    · rw [State.askSwap, State.modCpt_rd, State.rd_wrBit_ne _ _ hfi]
  case reject =>
    refine ⟨_, (exec_coefCommitWrite n s).trans (execCoefCommitWrite_rejects hs hok), ?_, ?_, rfl, fun f i hfi => ?_⟩
    · rw [State.rd_wrBit_ne _ _ (by simp), State.rd_wrBit_same]; rfl
    · rw [State.rd_wrBit_same]; rfl
    · rw [State.rd_wrBit_ne _ _ fun k => hfi ⟨.inr k.1, k.2⟩, State.rd_wrBit_ne _ _ fun k => hfi ⟨.inl k.1, k.2⟩]
  case swap =>
    refine ⟨_, (exec_coefficientSwap n s).trans (execCoefficientSwap_swaps hs hb), ?_,
      fun p hp k hk => s.swapFinished_coefs n o _ hk hp, ?_, ?_,
      fun w ho => (State.finishOpt_concludes _ _ ho).of_mbx (s.swapRescaled_mbx n)⟩
    · rw [State.cpt_of_loop (State.finishOpt_loop _ _ _), State.swapRescaled_swap]
    · rw [State.swapFinished_rd _ _ _ _ (by decide), State.swapMade_bank]
    · rw [State.swapFinished_rd _ _ _ _ (by decide), State.swapMade_count]
  case period =>
    refine ⟨_, (exec_periodWindowChange n s).trans (execPeriodWindowChange_changes hc hf hb), ?_, ?_, ?_, ?_,
      fun e hn hp hst hmv => ?_, fun o' ho => (State.finishOpt_concludes _ _ ho).of_mbx (s.periodChanged_mbx n p w)⟩
    · rw [State.periodFinished_rd _ _ _ _ _ _ (by decide)]
      simp [State.periodMade, State.rd_wr, State.rd_wrBit]
    · rw [State.periodFinished_rd _ _ _ _ _ _ (by decide)]
      simp [State.periodMade, State.rd_wrBit]
    · rw [State.periodFinished_rd _ _ _ _ _ _ (by decide)]
      simp [State.periodMade, State.rd_wrBit, bit01]
    · rw [State.cpt_of_loop (State.finishOpt_loop _ _ _), State.periodChanged_change]
    · rw [State.el_of_loop (State.finishOpt_loop _ _ _), State.periodChanged_settles p w hn hp hst hmv]
  case record =>
    obtain ⟨hrec, hnew, hother⟩ := s.recordInForce_leaves e r
    obtain ⟨t, ht, rfl | ⟨g, hg, rfl⟩⟩ := execCalibrationRecordApply_applies hr hb
    · exact ⟨_, (exec_calibrationRecordApply e s).trans ht, hrec, hnew, hother⟩
    · refine ⟨_, (exec_calibrationRecordApply e s).trans ht, ?_, ?_, fun k hk => ⟨?_, ?_⟩⟩
      · rw [State.modEl_calRec, hrec]
      · rw [State.modEl_el_same, hg, hnew]
      · rw [State.modEl_el_ne _ _ hk, (hother k hk).1]
      · rw [State.modEl_calRec, (hother k hk).2]

end Sys2Proof.Machine

/-! PROOFS. Telemetry rings (O11, R227, R396 to R401): what a vector, a consumer index, a record received and TELEMETRY_CFG do to a
ring and to the sources bound to it. -/

namespace Sys2Proof.Machine

/-! ## A ring and the writes of its mailbox (R366, R397) -/

/-- Ring `k` replaced. -/
def State.setRing (s : State) (k : Nat) (r : Ring) : State := { s with rings := Tbl.set {} s.rings k r }

@[simp] theorem State.setRing_ring_same (s : State) (k : Nat) (r : Ring) : (s.setRing k r).ring k = r := Tbl.get_set_same _ _ _ _
@[simp] theorem State.setRing_out (s : State) (k : Nat) (r : Ring) : (s.setRing k r).out = s.out := rfl
@[simp] theorem State.setRing_host (s : State) (k : Nat) (r : Ring) : (s.setRing k r).host = s.host := rfl
@[simp] theorem State.setRing_hostOpen (s : State) (k m : Nat) (r : Ring) : (s.setRing k r).hostOpen m = s.hostOpen m := rfl

@[simp] theorem State.toHost_ring (s : State) (m addr k : Nat) (bytes : List Nat) : (s.toHost m addr bytes).ring k = s.ring k := by
  unfold State.toHost
  split <;> rfl

@[simp] theorem State.toHost_hostOpen (s : State) (m addr n : Nat) (bytes : List Nat) :
    (s.toHost m addr bytes).hostOpen n = s.hostOpen n := by
  unfold State.toHost
  split <;> rfl

theorem State.toHost_open {s : State} {m : Nat} (h : s.hostOpen m = true) (addr : Nat) (bytes : List Nat) :
    (s.toHost m addr bytes).out = s.out ++ [.hostWrite m addr bytes] := by
  rw [State.toHost_out, if_pos h]

theorem State.toHost_waits {s : State} {m : Nat} (h : s.hostOpen m = false) (addr : Nat) (bytes : List Nat) :
    (s.toHost m addr bytes).out = s.out ∧ (s.toHost m addr bytes).host.held = s.host.held ++ [(m, addr, bytes)] := by
  rw [State.toHost_out, State.toHost_held, h]
  exact ⟨List.append_nil _, rfl⟩

/-! ## RING_INTERRUPT (R396, R399) -/

theorem exec_ringInterrupt (m : Fin 8) (j : Fin 48) (timed : Bool) (s : State) :
    exec (.ringInterrupt m j timed) s = execRingInterrupt m j timed s := rfl

/-- The vector of ring `j` of mailbox `m` (R396). -/
def ringVector (m j : Nat) : Output := if m = 0 then .msix 0 (16 + j) else .msix m 2

theorem State.ringRaise_eq (s : State) {m j : Nat} (hj : j < 64) : s.ringRaise (64 * m + j) =
    (s.setRing (64 * m + j) { s.ring (64 * m + j) with announced := (s.ring (64 * m + j)).prod }).emit (ringVector m j) := by
  have hdiv : (64 * m + j) / 64 = m := by omega
  have hmod : (64 * m + j) % 64 = j := by omega
  unfold State.ringRaise ringVector
  rw [hdiv, hmod]
  split <;> rfl

theorem execRingInterrupt_raises {m : Fin 8} {j : Fin 48} {timed : Bool} {s : State} (hj : j.val < ringCount m)
    (ho : s.hostOpen m = true) (hn : (s.ring (64 * m + j)).announced ≠ (s.ring (64 * m + j)).prod)
    (hd : if timed = true then (s.ring (64 * m + j)).firstAt + framesIn ((s.ring (64 * m + j)).time * 1000) ≤ s.loop.frames
      else (s.ring (64 * m + j)).thresh ≤ s.ringFill (64 * m + j)) :
    execRingInterrupt m j timed s = .next (s.ringRaise (64 * m + j)) := by
  unfold execRingInterrupt ringKey
  cases timed with
  | true => simpa [hj, ho, hn] using fun h => absurd hd (Nat.not_le.mpr h)
  | false => simpa [hj, ho, hn] using fun h => absurd hd (Nat.not_le.mpr h)

/-! ## TR_CONS_WRITE (R398) -/

theorem exec_trConsWrite (m : Fin 8) (j : Fin 48) (v : Nat) (s : State) :
    exec (.trConsWrite m j v) s = execTrConsWrite m j v s := rfl

theorem execTrConsWrite_eq {m : Fin 8} {j : Fin 48} {v : Nat} (s : State) (hj : j.val < ringCount m) (hv : v < 2 ^ 32) :
    execTrConsWrite m j v s = .next
      (if 2 ^ (s.ring (64 * m + j)).rlog < (2 ^ 32 + (s.ring (64 * m + j)).prod - v) % 2 ^ 32 then
        s.wrBit .mbx_tr_status_ring_err (64 * m + j) true
      else s.wr .mbx_tr_cons_cons (64 * m + j) v) := by
  unfold execTrConsWrite
  rw [Nat.mod_eq_of_lt hv]
  exact congrArg _ (if_neg (Nat.not_le.mpr hj))

/-! ## TELEMETRY_FRAME_RECEIVED (R397, R398, R401) -/

theorem exec_telemetryFrameReceived (src : Nat) (ring : Fin 62) (recs : List (List Nat)) (s : State) :
    exec (.telemetryFrameReceived src ring recs) s = execTelemetryFrameReceived src ring recs s := rfl

/-- Where the next record of a ring goes. -/
def Ring.nextAt (r : Ring) : Nat := r.base + r.prod % 2 ^ r.rlog * r.recsz

/-- A ring with one more record, written in frame `now`. -/
def Ring.counted (r : Ring) (now : Nat) : Ring :=
  { r with prod := (r.prod + 1) % 2 ^ 32, firstAt := if r.announced = r.prod then now else r.firstAt }

theorem State.ringWrite_room {s : State} {k : Nat} (he : s.rd .mbx_tr_status_en k ≠ 0) (hf : s.ringFill k ≠ 2 ^ (s.ring k).rlog)
    (rec : List Nat) : s.ringWrite k rec =
      ((s.toHost (k / 64) (s.ring k).nextAt rec).setRing k ((s.ring k).counted s.loop.frames)).ringWriteBack k := by
  unfold State.ringWrite
  rw [State.bit_eq_true.mpr he, Bool.not_true, if_neg Bool.false_ne_true, if_neg hf]
  rfl

theorem execTelemetryFrameReceived_writes {src : Nat} {ring : Fin 62} {s : State} (h0 : src ≠ 0)
    (he : s.rd .mbx_tr_status_en (ringOfNumber ring) ≠ 0) (ho : (s.ring (ringOfNumber ring)).origin = src) (rec : List Nat) :
    execTelemetryFrameReceived src ring [rec] s = .next (s.ringWrite (ringOfNumber ring) rec) := by
  unfold execTelemetryFrameReceived
  exact congrArg _ (if_pos ⟨State.bit_eq_true.mpr he, ho, h0⟩)

theorem execTelemetryFrameReceived_rejects {src : Nat} {ring : Fin 62} {s : State}
    (hn : s.rd .mbx_tr_status_en (ringOfNumber ring) = 0 ∨ (s.ring (ringOfNumber ring)).origin ≠ src) (recs : List (List Nat)) :
    execTelemetryFrameReceived src ring recs s = .next (s.sat .mbx_tr_status_tr_rej (ringOfNumber ring)) := by
  unfold execTelemetryFrameReceived
  refine congrArg _ (if_neg fun ⟨he, ho, _⟩ => ?_)
  exact hn.elim (State.bit_eq_true.mp he) (· ho)

section
variable (s : State) (k : Nat)

theorem State.ringWriteBack_ring (i : Nat) : (s.ringWriteBack k).ring i = s.ring i := State.toHost_ring ..

theorem State.ringWriteBack_open (h : s.hostOpen (k / 64) = true) : s.out ⊆ (s.ringWriteBack k).out := by
  unfold State.ringWriteBack
  rw [State.toHost_open h]
  exact List.subset_append_left _ _

theorem State.ringWriteBack_waits (h : s.hostOpen (k / 64) = false) :
    (s.ringWriteBack k).out = s.out ∧ s.host.held ⊆ (s.ringWriteBack k).host.held := by
  unfold State.ringWriteBack
  obtain ⟨hout, hheld⟩ := State.toHost_waits h _ _
  exact ⟨hout, hheld ▸ List.subset_append_left _ _⟩

end

section
variable {s : State} {k : Nat} (he : s.rd .mbx_tr_status_en k ≠ 0) (hf : s.ringFill k ≠ 2 ^ (s.ring k).rlog) (rec : List Nat)
include he hf

theorem State.ringWrite_ring : (s.ringWrite k rec).ring k = (s.ring k).counted s.loop.frames := by
  rw [State.ringWrite_room he hf, State.ringWriteBack_ring, State.setRing_ring_same]

theorem State.ringWrite_open (h : s.hostOpen (k / 64) = true) :
    Output.hostWrite (k / 64) (s.ring k).nextAt rec ∈ (s.ringWrite k rec).out := by
  rw [State.ringWrite_room he hf]
  refine State.ringWriteBack_open _ _ (by simpa using h) ?_
  simp [State.toHost_open h]

theorem State.ringWrite_waits (h : s.hostOpen (k / 64) = false) :
    (s.ringWrite k rec).out = s.out ∧ (k / 64, (s.ring k).nextAt, rec) ∈ (s.ringWrite k rec).host.held := by
  rw [State.ringWrite_room he hf]
  obtain ⟨hout, hheld⟩ := State.toHost_waits h (s.ring k).nextAt rec
  obtain ⟨hback, hkept⟩ := State.ringWriteBack_waits
    ((s.toHost (k / 64) (s.ring k).nextAt rec).setRing k ((s.ring k).counted s.loop.frames)) k (by simpa using h)
  exact ⟨hback.trans hout, hkept (by simp [hheld])⟩

end

/-! ## TELEMETRY_CFG (R227, R397, R400) -/

theorem exec_telemetryCfgRing (h : Hdr) (ring en rlog recsz origin thresh base wb time : Nat) (s : State) :
    exec (.telemetryCfgRing h ring en rlog recsz origin thresh base wb time) s =
      execTelemetryCfgRing h ring en rlog recsz origin thresh base wb time s := rfl

theorem exec_telemetryCfgSource (h : Hdr) (ring source en first count dec dest : Nat) (s : State) :
    exec (.telemetryCfgSource h ring source en first count dec dest) s =
      execTelemetryCfgSource h ring source en first count dec dest s := rfl

@[simp] theorem State.status_ring (s : State) (h : Hdr) (st : Status) (k : Nat) : (s.status h st).ring k = s.ring k := by
  rw [State.ring, s.status_rings, State.ring]

theorem State.status_sources (s : State) (h : Hdr) (st : Status) : (s.status h st).host.sources = s.host.sources := by
  have hk := congrArg HostSt.sources (s.status_completed h st).host
  exact hk

theorem bit01_beq_one {n : Nat} (h : n ≤ 1) : bit01 (n == 1) = n := by
  obtain rfl | rfl : n = 0 ∨ n = 1 := by omega
  all_goals rfl

/-- RING of a ring that is off and has no source: no field is locked and no record size is bound. -/
theorem execTelemetryCfgRing_configures {h : Hdr} {ring en rlog recsz base wb : Nat} {s : State} (hring : ring < ringCount h.mbx)
    (hlo : 8 ≤ rlog) (hhi : rlog ≤ 20) (hsize : recsz = 16 ∨ recsz = 32 ∨ recsz = 48) (hbase : base % 4096 = 0)
    (hwb : wb % 16 = 0) (hr : h.remote = none) (hoff : s.rd .mbx_tr_status_en (64 * h.mbx + ring) = 0)
    (hfree : ∀ x ∈ s.host.sources, x.mbx ≠ h.mbx ∨ x.ring ≠ ring ∨ x.dest ≠ 0) (hen : en ≤ 1) (origin thresh time : Nat) :
    execTelemetryCfgRing h ring en rlog recsz origin thresh base wb time s =
      .next (((s.setRing (64 * h.mbx + ring) { s.ring (64 * h.mbx + ring) with
        rlog := rlog, recsz := recsz, origin := origin, thresh := thresh, base := base, wb := wb, time := time }).wrBit
        .mbx_tr_status_en (64 * h.mbx + ring) (en == 1)).status h .ok) := by
  have hbound : s.host.sources.any (fun x =>
      x.mbx == h.mbx && x.ring == ring && x.dest == 0 && decide (recSize x.source ≠ some recsz)) = false := by
    refine List.any_eq_false.mpr fun x hx hb => ?_
    simp only [Bool.and_eq_true, beq_iff_eq] at hb
    obtain ⟨⟨⟨hm, hk⟩, hd⟩, -⟩ := hb
    exact (hfree x hx).elim (· hm) (·.elim (· hk) (· hd))
  have hsz : (recsz == 16 || recsz == 32 || recsz == 48) = true := by simpa [or_assoc] using hsize
  unfold execTelemetryCfgRing ringKey
  refine congrArg _ ((State.checked_pass _ _ _ _ ?_).trans rfl)
  simp only [List.forall_mem_singleton, hbound, hsz, State.bit_eq_false.mpr hoff, hr, hbase, hwb]
  simp [hring, hlo, hhi, hen]

/-- The objects that a binding names: those given, or the one port or pin of the last two sources (R400). -/
def sourceCount (source count : Nat) : Nat := if 5 ≤ source then 1 else count

/-- The binding of a source to a ring of mailbox `m` (R227, R400). -/
def newSource (m ring source first count dec : Nat) : TelSource :=
  { mbx := m, ring := ring, source := source, first := first, count := sourceCount source count
    dec := if source = 1 then dec else 1, dest := 0 }

/-- The bindings replaced. -/
def State.setSources (s : State) (l : List TelSource) : State := { s with host := { s.host with sources := l } }

/-- The bindings other than that of the source to the ring of mailbox `m`. -/
def State.otherSources (s : State) (m ring source : Nat) : List TelSource :=
  s.host.sources.filter (fun x => !x.sameAs m ring source 0)

/-- The records per second of the LOOP sources of a list. -/
def State.loopRates (s : State) (l : List TelSource) : Rat :=
  ((l.filter (fun x => x.source == 1)).map (fun x => s.loopRate x.first x.count x.dec)).sum

/-- A valid SOURCE for a ring of the mailbox itself (R227, R400). -/
theorem execTelemetryCfgSource_accepts {h : Hdr} {ring source first count dec : Nat} {s : State} (hring : ring < ringCount h.mbx)
    (hlo : 1 ≤ source) (hhi : source ≤ 6) (hown : 5 ≤ source → h.mbx = 0) (hcount : 1 ≤ sourceCount source count)
    (hlim : first + sourceCount source count ≤ sourceLimit source)
    (hheld : s.sourceHeld h.mbx source first (sourceCount source count) = true)
    (hsize : recSize source = some (s.ring (64 * h.mbx + ring)).recsz)
    (hloop : source = 1 → dec ≠ 0 ∧ s.loopRates (s.otherSources h.mbx ring 1) + s.loopRate first count dec ≤ 2 ^ 28)
    {en : Nat} (hen : en ≤ 1) :
    execTelemetryCfgSource h ring source en first count dec 0 s =
      .next ((s.setSources (if en = 1 then s.otherSources h.mbx ring source ++ [newSource h.mbx ring source first count dec]
        else s.otherSources h.mbx ring source)).status h .ok) := by
  have hexcess : (en == 1 && source == 1 && decide ((2 ^ 28 : Rat) <
      s.loopRates (s.otherSources h.mbx ring source) + s.loopRate first count (max 1 dec))) = false := by
    by_cases hs : source = 1
    · obtain ⟨hdec, hrate⟩ := hloop hs
      have hmax : max 1 dec = dec := by omega
      rw [hs, hmax, decide_eq_false (not_lt.mpr hrate), Bool.and_false]
    · simp [hs]
  have hn := Nat.one_le_iff_ne_zero.mp hcount
  unfold sourceCount at hn hlim hheld
  unfold execTelemetryCfgSource ringKey
  refine congrArg _ ((State.checked_pass _ _ _ _ ?_).trans rfl)
  simp only [List.forall_mem_cons]
  refine ⟨?fields, ?partition, ?mailbox, by simp⟩
  case fields =>
    have hdec : (source == 1 && dec == 0) = false := by
      by_cases hs : source = 1
      · simp [(hloop hs).1]
      · simp [hs]
    have h0 : source ≠ 0 := Nat.one_le_iff_ne_zero.mp hlo
    exact Bool.or_eq_false_iff.mpr ⟨by simp [hring, h0, hhi, hen, hdec, hsize, hn, hlim], hexcess⟩
  case partition => simp [hheld]
  case mailbox => by_cases h5 : 5 ≤ source <;> simp [h5, hown]

/-- Settles O11: each event and command by its own rule above. -/
theorem telemetryRingsComplete : Obligations.TelemetryRingsComplete := by
  unfold Obligations.TelemetryRingsComplete
  refine ⟨fun m j timed s hj ho hn hd => ?raise, fun m j v s hj hv => ⟨fun hf => ?accept, fun hf => ?discard⟩,
    fun src ring rec s h0 => ⟨fun he ho hf => ?write, fun hn => ?reject⟩,
    fun h ring rlog recsz origin thresh base wb time s hring hlo hhi hsize hbase hwb hr hoff hfree en hen => ?configure,
    fun h ring source first count dec s hring hlo hhi hown hcount hlim hheld hsize hloop => ?source⟩
  case raise =>
    refine ⟨_, (exec_ringInterrupt m j timed s).trans (execRingInterrupt_raises hj ho hn hd), ?_, ?_⟩
    all_goals rw [State.ringRaise_eq s (by omega)]
    · simp [ringVector]
    · exact State.setRing_ring_same _ _ _
  case accept =>
    refine ⟨_, (exec_trConsWrite m j v s).trans (execTrConsWrite_eq s hj hv), ?_⟩
    rw [if_neg (Nat.not_lt.mpr hf)]
    exact ⟨(State.rd_wr_same _ _ _ _).trans (Nat.mod_eq_of_lt hv), fun f i hfi => State.rd_wr_ne _ _ hfi, rfl⟩
  case discard =>
    refine ⟨_, (exec_trConsWrite m j v s).trans (execTrConsWrite_eq s hj hv), ?_⟩
    rw [if_pos hf]
    exact ⟨State.rd_wrBit_same _ _ _ _, fun f i hfi => State.rd_wrBit_ne _ _ hfi, rfl⟩
  case write =>
    exact ⟨_, (exec_telemetryFrameReceived src ring [rec] s).trans (execTelemetryFrameReceived_writes h0 he ho rec),
      congrArg Ring.prod (State.ringWrite_ring he hf rec), State.ringWrite_open he hf rec, State.ringWrite_waits he hf rec⟩
  case reject =>
    exact ⟨_, (exec_telemetryFrameReceived src ring [rec] s).trans (execTelemetryFrameReceived_rejects hn [rec]),
      State.rd_sat_same _ _ _, rfl⟩
  case configure =>
    refine ⟨_, (exec_telemetryCfgRing ..).trans
      (execTelemetryCfgRing_configures hring hlo hhi hsize hbase hwb hr hoff hfree hen origin thresh time),
      State.status_finished _ _ _, ?_, ?_⟩
    · rw [State.status_rd _ _ _ (by decide), State.rd_wrBit_same, bit01_beq_one hen]
    · rw [State.status_ring]
      exact State.setRing_ring_same _ _ _
  case source =>
    have hbind {en : Nat} (hen : en ≤ 1) := (exec_telemetryCfgSource h ring source en first count dec 0 s).trans
      (execTelemetryCfgSource_accepts hring hlo hhi hown ?count hlim hheld hsize hloop hen)
    case count =>
      unfold sourceCount
      split <;> omega
    exact ⟨⟨_, hbind le_rfl, State.status_finished _ _ _, State.status_sources _ _ _⟩,
      ⟨_, hbind zero_le_one, State.status_finished _ _ _, State.status_sources _ _ _⟩⟩

end Sys2Proof.Machine

/-! PROOFS. Frames of the state-library, solver, Clearing, Stand, interlock and compartment-service commands and events (O53): each
meaning's law (name_goes) under the mask of its own two lists. -/

namespace Sys2Proof.Machine

set_option exponentiation.threshold 2048

/-- Settles O53: whatever a command or event answers evolves from the state before it under the mask of the fields and parts that
the statement lists for it, one case each, and so keeps the frame (`Goes.frame`). -/
theorem traverseAndStandFrames : Obligations.TraverseAndStandFrames := by
  unfold Obligations.TraverseAndStandFrames
  exact ⟨
    fun _ s _ h => (execCrstComplete_goes _ (.refl s) rfl).frame h,
    fun s _ h => (execClkrefLoss_goes (.refl s) rfl).frame h,
    fun _ _ _ _ _ _ _ _ _ s _ h => (execStateWrite_goes _ _ _ _ _ _ _ _ _ (.refl s) rfl).frame h,
    fun _ _ _ _ _ s _ h => (execStateRead_goes _ _ _ _ _ (.refl s) rfl).frame h,
    fun _ _ _ _ _ _ _ _ _ s _ h => (execRouteSolve_goes _ _ _ _ _ _ _ _ _ (.refl s) rfl).frame h,
    fun _ _ _ _ _ _ _ _ _ _ _ _ _ _ s _ h => (execStateCommit_goes _ _ _ _ _ _ _ _ _ _ _ _ _ _ (.refl s) rfl).frame h,
    fun _ _ s _ h => (execStateAbort_goes _ _ (.refl s) rfl).frame h,
    fun _ _ _ s _ h => (execClearingQuery_goes _ _ _ (.refl s) rfl).frame h,
    fun _ s _ h => (execStandHandoverHandover_goes _ (.refl s) rfl).frame h,
    fun _ s _ h => (execStandHandoverReturn_goes _ (.refl s) rfl).frame h,
    fun _ s _ h => (execStandHandoverRelease_goes _ (.refl s) rfl).frame h,
    fun _ _ s _ h => (execCompartmentServiceFence_goes _ _ (.refl s) rfl).frame h,
    fun _ _ s _ h => (execCompartmentServiceReset_goes _ _ (.refl s) rfl).frame h,
    fun _ _ s _ h => (execCompartmentServiceRejoin_goes _ _ (.refl s) rfl).frame h,
    fun s _ h => (execSolveStart_goes (.refl s) rfl).frame h,
    fun s _ h => (execSolveComplete_goes (.refl s) rfl).frame h,
    fun s _ h => (execClearingQueue_goes (.refl s) rfl).frame h,
    fun s _ h => (execPointOfNoReturn_goes (.refl s) rfl).frame h,
    fun s _ h => (execClearingExecution_goes (.refl s) rfl).frame h,
    fun _ _ s _ h => (execClearingRequest_goes _ _ (.refl s) rfl).frame h,
    fun _ _ s _ h => (execClearingAccept_goes _ _ (.refl s) rfl).frame h,
    fun _ _ s _ h => (execClearingReject_goes _ _ (.refl s) rfl).frame h,
    fun _ _ s _ h => (execClearingAbort_goes _ _ (.refl s) rfl).frame h,
    fun _ _ s _ h => (execClearingReport_goes _ _ (.refl s) rfl).frame h,
    fun _ s _ h => (execAbortDeadline_goes _ (.refl s) rfl).frame h,
    fun _ s _ h => (execReportTimeout_goes _ (.refl s) rfl).frame h,
    fun _ s _ h => (execStandEccError_goes _ (.refl s) rfl).frame h,
    fun _ s _ h => (execWritePathParity_goes _ (.refl s) rfl).frame h,
    fun s _ h => (execHeartbeatMissing_goes (.refl s) rfl).frame h,
    fun _ s _ h => (execStandClockFault_goes _ (.refl s) rfl).frame h,
    fun s _ h => (execInterlockConfirm_goes (.refl s) rfl).frame h,
    fun s _ h => (execInterlockTimeout_goes (.refl s) rfl).frame h,
    fun s _ h => (execIlkForce_goes (.refl s) rfl).frame h,
    fun s _ h => (execStandCopyComplete_goes (.refl s) rfl).frame h,
    fun _ s _ h => (execTakeoverResume_goes _ (.refl s) rfl).frame h,
    fun s _ h => (execStandEligible_goes (.refl s) rfl).frame h,
    fun s _ h => (execCommandedHandover_goes (.refl s) rfl).frame h,
    fun _ s _ h => (execCompartmentFence_goes _ (.refl s) rfl).frame h,
    fun _ s _ h => (execRejoin_goes _ (.refl s) rfl).frame h⟩

end Sys2Proof.Machine

/-! PROOFS. The state library, solves, commits and the query (O24, R235, R242 to R250, R260, R264, R384): what a written slot, a solve
that ends and a commit that begins leave of Traverse, and which chain-scoped Clearing a commit starts. -/

namespace Sys2Proof.Machine

set_option exponentiation.threshold 2048

/-! ## Buffers of a local command (R340) -/

theorem State.badSrc_local (s : State) {h : Hdr} {addr align : Nat} (len : Nat) (hr : h.remote = none) (ha : addr % align = 0) :
    s.badSrc h addr align len = false := by
  simp [State.badSrc, hr, ha]

theorem State.badBuf_local (s : State) {h : Hdr} {addr align : Nat} (len : Nat) (hr : h.remote = none) (ha : addr % align = 0) :
    s.badBuf h addr align len = false := by
  simp [State.badBuf, hr, ha]

/-! ## The state library (R243 to R246) -/

theorem State.showBoot_trv (s : State) (b : Option Nat) : (s.showBoot b).trv = { s.trv with boot := b } := by
  unfold State.showBoot
  dsimp only
  split
  next h => rw [← h]; rfl
  · rfl

/-- BOOT of STATE_WRITE: 1 sets the start-up slot, 2 clears it, 0 leaves it (R245). -/
theorem State.setBoot_trv (s : State) (k : Nat) {boot : Nat} (h : boot ≤ 2) : (s.setBoot k boot).trv =
    { s.trv with boot := if boot = 1 then some k else if boot = 2 then none else s.trv.boot } := by
  interval_cases boot
  · rfl
  · exact s.showBoot_trv _
  · exact s.showBoot_trv _

theorem State.slot_of_slots {s t : State} (h : t.trv.slots = s.trv.slots) (k : Nat) : t.slot k = s.slot k := by
  rw [State.slot, h, State.slot]

theorem State.setBoot_slot (s : State) (k : Nat) {boot : Nat} (h : boot ≤ 2) (j : Nat) : (s.setBoot k boot).slot j = s.slot j :=
  State.slot_of_slots (by rw [s.setBoot_trv k h]) j

theorem State.status_slot (s : State) (h : Hdr) (st : Status) (j : Nat) : (s.status h st).slot j = s.slot j :=
  State.slot_of_slots (by rw [s.status_trv]) j

theorem State.storeSlot_slot_same (s : State) (k : Nat) (q : Perm) (persist : Bool) : (s.storeSlot k q persist).slot k =
    { perm := q, valid := true, persist := persist, gen := ((s.slot k).gen + 1) % 2 ^ 32, cache := none } :=
  s.putSlot_slot_same k _

theorem State.storeSlot_slot_ne (s : State) {k j : Nat} (q : Perm) (persist : Bool) (h : j ≠ k) :
    (s.storeSlot k q persist).slot j = s.slot j :=
  s.putSlot_slot_ne _ h

/-- A slot written, with the start-up setting, as STATE_WRITE leaves it. -/
def State.slotWritten (s : State) (first count slot clear persist boot : Nat) (entries : List Nat) : State :=
  (s.storeSlot slot (s.writtenPerm slot first count clear entries) (persist == 1)).setBoot slot boot

/-- STATE_WRITE of a permutation that R242 accepts, flash not inhibited (R244, R246). -/
theorem execStateWrite_stores {h : Hdr} {first count slot clear persist buf boot : Nat} {entries : List Nat} {s : State}
    (hr : h.remote = none) (hs : slot < 4096) (hc : 1 ≤ count) (hf : first + count ≤ 512) (hclear : clear ≤ 1)
    (hpersist : persist ≤ 1) (hboot : boot ≤ 2) (hbuf : buf % 4 = 0)
    (hp : s.permBad (s.writtenPerm slot first count clear entries) = false) (hheld : s.holdsSlot h.mbx slot = true)
    (ha : s.mapAway = false) (ht : s.noTrv = false) (hflash : s.flashRefused = false) :
    execStateWrite h first count slot clear persist buf boot entries s =
      .next ((s.slotWritten first count slot clear persist boot entries).status h .ok) := by
  have hsrc := s.badSrc_local (4 * count) hr hbuf
  unfold execStateWrite
  dsimp only
  rw [State.checked_pass _ _ _ _ (by simp [State.mapGate, *]; omega)]
  simp only [hflash, Bool.and_false, Bool.false_eq_true, if_false]
  rfl

/-- STATE_READ of a valid slot (R246). -/
theorem execStateRead_reads {h : Hdr} {first count slot buf : Nat} {s : State} (hr : h.remote = none) (hs : slot < 4096)
    (hc : 1 ≤ count) (hf : first + count ≤ 512) (hbuf : buf % 4 = 0) (hheld : s.holdsSlot h.mbx slot = true)
    (ht : s.noTrv = false) (hv : (s.slot slot).valid = true) : execStateRead h first count slot buf s =
      .next ((s.hostWrite h buf ((span first count).flatMap (fun p => leBytes 4 (Tbl.get 0 (s.slot slot).perm p)))).status h
        .ok) := by
  have hdst := s.badBuf_local (4 * count) hr hbuf
  unfold execStateRead
  rw [State.checked_pass _ _ _ _ (by simp [*]; omega)]

/-! ## Solves (R235, R240, R243, R247) -/

/-- The solve that a ROUTE_SOLVE asks for (R247). -/
def State.routeJob (s : State) (h : Hdr) (src mode slot maxDist rpt vec : Nat) (entries : List Nat) : Job :=
  { h := h, owner := some ((s.entered h).ownerOf h), commit := false, slot := if src = 0 then slot else 0xFFFF
    gen := (s.slot slot).gen, perm := s.asked src slot entries, mind := mode == 1, maxDist := maxDist, rpt := rpt, vec := vec }

/-- A solve put last in admission order. -/
def State.awaitSolve (s : State) (j : Job) : State := (s.modTrv (fun t => { t with waiting := t.waiting ++ [j] })).showQueue

theorem State.awaitSolve_trv (s : State) (j : Job) : (s.awaitSolve j).trv = { s.trv with waiting := s.trv.waiting ++ [j] } := rfl

/-- ROUTE_SOLVE that passes its checks waits in admission order (R247). -/
theorem execRouteSolve_waits {h : Hdr} {src mode slot maxDist buf rpt vec : Nat} {entries : List Nat} {s : State}
    (hbad : s.solveBad h src mode slot maxDist buf rpt 16 = false) (hvec : vec = 0 ∨ s.badBuf h vec 16 576 = false)
    (hin : src = 1 → s.permBad (s.asked 1 slot entries) = false) (ha : s.mapAway = false) (ht : s.noTrv = false)
    (hsl : src = 0 → s.holdsSlot h.mbx slot = true ∧ (s.slot slot).valid = true ∧ s.permBad (s.slot slot).perm = false) :
    execRouteSolve h src mode slot maxDist buf rpt vec entries s =
      .next ((s.entered h).awaitSolve (s.routeJob h src mode slot maxDist rpt vec entries)) := by
  have hinline : src = 1 → s.permBad (s.asked src slot entries) = false := by rintro rfl; exact hin rfl
  have hvec' : vec ≠ 0 → s.badBuf h vec 16 576 = false := fun hn => hvec.resolve_left hn
  unfold execRouteSolve
  dsimp only
  rw [State.checked_pass _ _ _ _ ?_]
  · rfl
  · simp only [State.mapGate, ha, ht, hbad, List.cons_append, List.nil_append, List.forall_mem_cons, List.not_mem_nil,
      Bool.false_or, Bool.or_eq_false_iff, Bool.and_eq_false_imp, bne_iff_ne, beq_iff_eq, Bool.not_eq_false', true_and]
    exact ⟨⟨hvec', hinline⟩, fun h0 => (hsl h0).1, fun h0 => (hsl h0).2.1, fun h0 => (hsl h0).2.2, fun _ k => k.elim⟩

theorem execSolveStart_starts {s : State} {j : Job} {r : List Job} (hn : s.trv.running = none) (hw : s.trv.waiting = j :: r) :
    execSolveStart s = .next ((s.modTrv (fun t => { t with running := some j, waiting := r })).showQueue) := by
  unfold execSolveStart
  rw [hn, hw]

theorem execSolveStart_idle {s : State} (h : s.trv.running ≠ none ∨ s.trv.waiting = []) : execSolveStart s = .next s := by
  unfold execSolveStart
  split
  next j r hn hw => rcases h with h | h <;> simp_all
  · rfl

/-- A cached vector changes the library alone (R243). -/
theorem State.cacheSolve_eq (s : State) (j : Job) (v : Solution) :
    s.cacheSolve j v = s.modTrv (fun t => { t with slots := (s.cacheSolve j v).trv.slots }) := by
  unfold State.cacheSolve
  split <;> split <;> rfl

theorem State.cacheSolve_trv (s : State) (j : Job) (v : Solution) :
    (s.cacheSolve j v).trv = { s.trv with slots := (s.cacheSolve j v).trv.slots } := congrArg State.trv (s.cacheSolve_eq j v)

theorem State.cacheSolve_mbx (s : State) (j : Job) (v : Solution) : (s.cacheSolve j v).mbx = s.mbx := by
  rw [s.cacheSolve_eq, State.modTrv_mbx]

theorem State.cacheSolve_rd (s : State) (j : Job) (v : Solution) (f : Fid) (i : Nat) : (s.cacheSolve j v).rd f i = s.rd f i := by
  rw [s.cacheSolve_eq, State.modTrv_rd]

/-- The running solve taken out and counted (R235). -/
def State.solveEnded (s : State) : State := (s.modTrv (fun t => { t with running := none })).inc .trv_solve_cnt_solves 0

theorem State.solveEnded_rd (s : State) : s.solveEnded.rd .trv_solve_cnt_solves 0 =
    (s.rd .trv_solve_cnt_solves 0 + 1) % 2 ^ Fid.trv_solve_cnt_solves.width :=
  State.rd_wr_same _ _ _ _

/-- The solution of a solve that is no commit's, in the state in force (R247). -/
def State.routeSolution (s : State) (j : Job) : Solution := s.theMap.solve s.trv.force j.perm j.mind [] j.maxDist

/-- A commit's solve that has ended, kept with its solution (R235). -/
def State.keepSolved (s : State) (j : Job) (v : Solution) : State :=
  ((s.cacheSolve j v).modTrv (fun t => { t with solved := t.solved ++ [{ j with sol := some v }] })).showQueue

/-- The result of a ROUTE_SOLVE (R247, R390). -/
def routeResult (j : Job) (v : Solution) : Completion :=
  { status := if v.result = 0 then .ok else .solveBlocked, res0 := j.perm.crc, res1 := v.disturbed.length, res2 := v.changed }

theorem execSolveComplete_commit {s : State} {j : Job} (hj : s.trv.running = some j) (hc : j.commit = true) :
    execSolveComplete s = .next (s.solveEnded.keepSolved j (s.solveJob j (s.fabAt (s.jobFrame j)))) := by
  unfold execSolveComplete
  rw [hj]
  dsimp only
  rw [if_pos hc]
  rfl

theorem execSolveComplete_route {s : State} {j : Job} (hj : s.trv.running = some j) (hc : j.commit = false) :
    execSolveComplete s =
      .next (((s.solveEnded.cacheSolve j (s.routeSolution j)).routeDone j (s.routeSolution j)).showQueue) := by
  unfold execSolveComplete
  rw [hj]
  dsimp only
  rw [if_neg (ne_true_of_eq_false hc)]
  rfl

theorem State.keepSolved_leaves (s : State) (j : Job) (v : Solution) : (s.keepSolved j v).trv.running = s.trv.running ∧
    (s.keepSolved j v).trv.solved = s.trv.solved ++ [{ j with sol := some v }] ∧
    (s.keepSolved j v).rd .trv_solve_cnt_solves 0 = s.rd .trv_solve_cnt_solves 0 := by
  have htrv : (s.keepSolved j v).trv =
      { (s.cacheSolve j v).trv with solved := (s.cacheSolve j v).trv.solved ++ [{ j with sol := some v }] } := rfl
  rw [htrv, s.cacheSolve_trv]
  refine ⟨rfl, rfl, ?_⟩
  exact ((State.showQueue_evolves (M := allBut (17 + Fid.ctorIdx .trv_solve_cnt_solves)) (.refl _) rfl).rd _ 0 rfl).trans
    (s.cacheSolve_rd j v _ 0)

theorem State.routeDone_trv (s : State) (j : Job) (v : Solution) : (s.routeDone j v).trv = s.trv :=
  (State.routeDone_evolves (M := allBut 2) j v (.refl s) rfl).trv rfl

theorem State.routeDone_concludes (s : State) {j : Job} {o : Owner} (v : Solution) (ho : j.owner = some o) :
    s.Concludes (s.routeDone j v) o (routeResult j v) := by
  unfold State.routeDone
  dsimp only
  refine (State.finishOpt_concludes _ _ ho).of_mbx ?_
  have hreport := State.writeReport_evolves (M := allBut 4) j s.trv.force j.perm v (.refl s) rfl
  have hvector := Evolves.ite (c := j.vec = 0 ∨ v.result ≠ 0) hreport
    (State.hostWrite_evolves j.h j.vec (s.theMap.vector j.slot j.gen j.perm.crc j.mind v) hreport rfl)
  exact (Evolves.ite hvector (State.countBlocked_evolves hvector rfl)).mbx rfl

theorem State.routeEnded_leaves (s : State) (j : Job) (v : Solution) :
    ((s.cacheSolve j v).routeDone j v).showQueue.trv.running = s.trv.running ∧
    ((s.cacheSolve j v).routeDone j v).showQueue.rd .trv_solve_cnt_solves 0 = s.rd .trv_solve_cnt_solves 0 := by
  have htrv : ((s.cacheSolve j v).routeDone j v).showQueue.trv = (s.cacheSolve j v).trv := State.routeDone_trv _ j v
  refine ⟨by rw [htrv, s.cacheSolve_trv], ?_⟩
  exact ((State.showQueue_evolves (M := allBut (17 + Fid.ctorIdx .trv_solve_cnt_solves))
    (State.routeDone_evolves j v (.refl _) rfl) rfl).rd _ 0 rfl).trans (s.cacheSolve_rd j v _ 0)

/-! ## STATE_COMMIT (R248 to R252, R258, R260) -/

/-- What STATE_COMMIT leaves before its checks: the command in flight, and the sequence number advanced (R262). -/
def State.commitBegun (s : State) (h : Hdr) : State := (s.entered h).modTrv (fun t => { t with seq := (t.seq + 1) % 65536 })

/-- The job of a commit (R248). -/
def State.commitJob (s : State) (h : Hdr) (src mode scope atomic slot maxDist : Nat) (exec : DTime) (rpt : Nat)
    (entries : List Nat) : Job :=
  { h := h, owner := some ((s.commitBegun h).ownerOf h), commit := true, slot := if src = 0 then slot else 0xFFFF
    gen := (s.slot slot).gen, perm := s.asked src slot entries, mind := mode == 1, maxDist := maxDist, rpt := rpt
    exec := execOf exec, clrId := s.nextClrId, chain := scope == 1, atomic := atomic == 1 }

theorem State.commitBegun_inFlight (s : State) (h : Hdr) :
    (s.commitBegun h).InFlight h ((s.entered h).ownerOf h).id :=
  (s.entered_inFlight h).of_mbx rfl

theorem State.commitBegun_trv (s : State) (h : Hdr) :
    (s.commitBegun h).trv = { s.trv with seq := (s.trv.seq + 1) % 65536 } := by
  rw [State.commitBegun, State.modTrv_trv, s.entered_trv]

theorem State.commitBegun_slot (s : State) (h : Hdr) (k : Nat) : (s.commitBegun h).slot k = s.slot k :=
  State.slot_of_slots (by rw [s.commitBegun_trv]) k

theorem State.commitBegun_rd (s : State) (h : Hdr) {f : Fid} (i : Nat) (hf : f ≠ .mbx_status_inflight) :
    (s.commitBegun h).rd f i = s.rd f i := s.entered_rd h hf

theorem State.commitJob_owner (s : State) (h : Hdr) (src mode scope atomic slot maxDist : Nat) (exec : DTime) (rpt : Nat)
    (entries : List Nat) : (s.commitJob h src mode scope atomic slot maxDist exec rpt entries).owner =
      some ⟨h.mbx, ((s.entered h).ownerOf h).id⟩ := by
  obtain ⟨f, -, ho⟩ := s.entered_flightOf h
  have hcommit : (s.commitBegun h).ownerOf h = (s.entered h).ownerOf h := rfl
  rw [State.commitJob, hcommit, ho]

theorem State.giveJob_mbx (s : State) (j : Job) : (s.giveJob j).mbx = s.mbx :=
  (State.giveJob_evolves (M := allBut 4) j (.refl s) rfl).mbx rfl

theorem State.giveJob_seq (s : State) (j : Job) : (s.giveJob j).trv.seq = s.trv.seq := by
  unfold State.giveJob
  split <;> rfl

theorem State.giveJob_chains (s : State) (j : Job) : (s.giveJob j).trv.chains = s.trv.chains := by
  unfold State.giveJob
  split <;> rfl

/-- A command in flight stays so at its effect point (R384). -/
theorem State.InFlight.effect {s : State} {h : Hdr} {id : Nat} (hf : s.InFlight h id) (o : Owner) :
    (s.effect o).InFlight h id := by
  obtain ⟨f, hmem, hid, htag, hrem, hcomp⟩ := hf
  unfold State.effect
  by_cases hm : h.mbx = o.mbx
  · refine ⟨if f.id = o.id then { f with eff := true } else f, ?_, ?_⟩
    · rw [hm, State.modMb_mb_same, ← hm]
      exact List.mem_map_of_mem hmem
    · split <;> exact ⟨hid, htag, hrem, hcomp⟩
  · exact ⟨f, by rwa [State.modMb_mb_ne _ _ hm], hid, htag, hrem, hcomp⟩

/-- STATE_COMMIT of local scope that passes its checks up to the solve (R250). -/
theorem execStateCommit_local {h : Hdr} {src mode atomic slot maxDist buf pcount rpt plist : Nat} {tm : DTime}
    {entries : List Nat} {parts : List (Nat × Nat)} {s : State} (hbad : s.solveBad h src mode slot maxDist buf rpt 1 = false)
    (hatomic : atomic ≤ 1) (he : s.execBad tm = false) (ha : s.mapAway = false) (ht : s.noTrv = false)
    (hp : s.permBad (s.asked src slot entries) = false) (ho : s.portOut h.mbx (s.asked src slot entries) = false)
    (hsl : src = 0 → s.holdsSlot h.mbx slot = true ∧ (s.slot slot).valid = true) :
    execStateCommit h src mode 0 atomic slot maxDist buf tm pcount rpt plist entries parts s =
      .next ((s.commitBegun h).giveJob (s.commitJob h src mode 0 atomic slot maxDist tm rpt entries)) := by
  have hheld : src = 0 → s.holdsSlot h.mbx slot = true := fun h0 => (hsl h0).1
  have hvalid : src = 0 → (s.slot slot).valid = true := fun h0 => (hsl h0).2
  unfold execStateCommit
  dsimp only
  rw [firstStatus_none (by simpa [hbad, hatomic, he, ha, ht, hp, ho] using ⟨hheld, hvalid⟩)]
  rfl

/-- STATE_COMMIT of chain scope by MB0 that passes its checks, with Datum P locked (R258, R260). -/
theorem execStateCommit_chain {h : Hdr} {src mode atomic slot maxDist buf pcount rpt plist : Nat} {tm : DTime}
    {entries : List Nat} {parts : List (Nat × Nat)} {s : State} (hm : h.mbx = 0) (hr : h.remote = none)
    (hbad : s.solveBad h src mode slot maxDist buf rpt 1 = false) (hatomic : atomic ≤ 1) (he : s.execBad tm = false)
    (ha : s.mapAway = false) (ht : s.noTrv = false) (hplist : plist % 8 = 0) (hparts : s.partsBad pcount parts = false)
    (hlead : s.leadBad tm parts = false) (hl : s.locked = true) (hstep : s.rd .dtm_status_step_pend 0 = 0) :
    execStateCommit h src mode 1 atomic slot maxDist buf tm pcount rpt plist entries parts s =
      .next (((s.commitBegun h).startChain (s.commitJob h src mode 1 atomic slot maxDist tm rpt entries)
        (frameAt (ticksOf tm)) plist parts).effect ((s.commitBegun h).ownerOf h)) := by
  have hlist := s.badBuf_local (8 * pcount) hr hplist
  unfold execStateCommit
  dsimp only
  rw [firstStatus_none (by simp [State.bit, *])]
  rfl

/-- The chain-scoped Clearing that a commit starts (R260). -/
def State.chainBegun (s : State) (j : Job) (frame plist : Nat) (parts : List (Nat × Nat)) : ChainClr :=
  { job := j, frame := frame, hops := s.maxHops parts, plist := plist
    parts := parts.map (fun p => { addr := p.1, slot := p.2 }) }

/-- A chain-scoped Clearing entered, with a REQUEST sent to each other participant (R260). -/
def State.requestParts (s : State) (j : Job) (frame plist : Nat) (parts : List (Nat × Nat)) : State :=
  (parts.filter (fun p => p.1 != s.addr)).foldl (fun s p => s.sendClr p.1 (requestOf j frame p.2))
    (s.modTrv (fun t => { t with chains := t.chains ++ [s.chainBegun j frame plist parts] }))

theorem State.requestParts_leaves (s : State) (j : Job) (frame plist : Nat) (parts : List (Nat × Nat)) :
    (s.requestParts j frame plist parts).trv = { s.trv with chains := s.trv.chains ++ [s.chainBegun j frame plist parts] } ∧
    (s.requestParts j frame plist parts).mbx = s.mbx ∧ (s.requestParts j frame plist parts).locked = s.locked := by
  have hsend {M : Nat} (hM) : Evolves M _ (s.requestParts j frame plist parts) :=
    .foldl _ (.refl _) fun t p h => State.sendClr_evolves _ _ h hM
  refine ⟨(hsend (M := besideWork) rfl).trv rfl, (hsend (M := besideWork) rfl).mbx rfl, ?_⟩
  have hrd := (hsend (M := allBut (17 + Fid.ctorIdx .dtm_status_p_state)) rfl).rd .dtm_status_p_state 0 rfl
  rw [State.locked, hrd]
  rfl

theorem State.startChain_others {s : State} {parts : List (Nat × Nat)} (j : Job) (frame plist : Nat)
    (hp : parts.find? (fun p => p.1 == s.addr) = none) :
    s.startChain j frame plist parts = s.requestParts j frame plist parts := by
  unfold State.startChain
  rw [hp]
  rfl

theorem State.startChain_own {s u : State} {parts : List (Nat × Nat)} {p : Nat × Nat} (j : Job) (frame plist : Nat)
    (hp : parts.find? (fun p => p.1 == s.addr) = some p) (hu : s.requestParts j frame plist parts = u)
    (hc : firstStatus (u.jobChecks (u.ownJob j p.2)) = none) : s.startChain j frame plist parts = u.giveJob (u.ownJob j p.2) := by
  subst hu
  unfold State.requestParts State.chainBegun at hc ⊢
  unfold State.startChain
  rw [hp]
  dsimp only
  rw [hc]

/-- With Datum P locked, and its own slot valid where it takes part, the originator's part is not refused: the chain-scoped
Clearing has started (R260). -/
theorem State.startChain_starts {s : State} {parts : List (Nat × Nat)} (j : Job) (frame plist : Nat) (hl : s.locked = true)
    (hv : ∀ p ∈ parts, p.1 = s.addr → (s.slot p.2).valid = true) :
    s.chainBegun j frame plist parts ∈ (s.startChain j frame plist parts).trv.chains ∧
      (s.startChain j frame plist parts).mbx = s.mbx := by
  obtain ⟨htrv, hmbx, hlocked⟩ := s.requestParts_leaves j frame plist parts
  generalize hu : s.requestParts j frame plist parts = u at *
  have hmem : s.chainBegun j frame plist parts ∈ u.trv.chains := by simp [htrv]
  cases hp : parts.find? (fun p => p.1 == s.addr) with
  | none => rw [State.startChain_others j frame plist hp, hu]; exact ⟨hmem, hmbx⟩
  | some p =>
    have hslot : u.slot p.2 = s.slot p.2 := State.slot_of_slots (by rw [htrv]) p.2
    have hvalid := hv p (List.mem_of_find?_eq_some hp) (by simpa using List.find?_some hp)
    have hchecks : firstStatus (u.jobChecks (u.ownJob j p.2)) = none :=
      firstStatus_none (by simp [State.jobChecks, State.ownJob, hslot, hvalid, hlocked, hl])
    rw [State.startChain_own j frame plist hp hu hchecks, State.giveJob_chains, State.giveJob_mbx]
    exact ⟨hmem, hmbx⟩

/-! ## CLEARING_QUERY (R264) -/

theorem execClearingQuery_reads {h : Hdr} {count buf : Nat} {s : State} (hr : h.remote = none) (hlo : 1 ≤ count)
    (hhi : count ≤ 320) (ht : s.noTrv = false) : execClearingQuery h count buf s =
      .next ((s.hostWrite h buf (s.queryRecords h.mbx count).flatten).complete h
        { status := .ok, res0 := (s.queryRecords h.mbx count).length }) := by
  have hdst := s.badBuf_local (32 * (s.queryRecords h.mbx count).length) hr (Nat.mod_one buf)
  unfold execClearingQuery
  dsimp only
  rw [State.checked_pass _ _ _ _ (by simp [hdst, ht]; omega)]

/-- Settles O24: each command and event by its own rule above. -/
theorem libraryAndSolvesComplete : Obligations.LibraryAndSolvesComplete := by
  unfold Obligations.LibraryAndSolvesComplete
  refine ⟨
    fun h first count slot clear persist buf boot entries s hr hs hc hf hcl hpe hbo hbu hp hh ha ht hfl => ?stateWrite,
    fun h first count slot buf s hr hs hc hf hb hh ht hv =>
      ⟨_, execStateRead_reads hr hs hc hf hb hh ht hv, State.status_completed _ h .ok⟩,
    fun h src mode slot maxDist buf rpt vec entries s hb hv hi ha ht hs => ?routeSolve,
    fun j r s hn hw => ⟨_, execSolveStart_starts hn hw, rfl, rfl⟩,
    fun s hs => execSolveStart_idle hs,
    fun j s hj => ?solveComplete,
    fun h src mode atomic slot maxDist buf tm pcount rpt plist entries parts s hb hat he ha ht hp ho hs => ?commitLocal,
    fun h src mode atomic slot maxDist buf tm pcount rpt plist entries parts s hm hr hb hat he ha ht hpl hpa hle hl hst hv =>
      ?commitChain,
    fun h count buf s hr hlo hhi ht =>
      ⟨_, execClearingQuery_reads hr hlo hhi ht, State.complete_completed _ h _⟩⟩
  case stateWrite =>
    have hslot (k : Nat) := (State.status_slot (s.slotWritten first count slot clear persist boot entries) h .ok k).trans
      (State.setBoot_slot _ slot hbo k)
    exact ⟨_, execStateWrite_stores hr hs hc hf hcl hpe hbo hbu hp hh ha ht hfl, State.status_finished _ h .ok,
      (hslot slot).trans (s.storeSlot_slot_same slot _ _), fun k hk => (hslot k).trans (s.storeSlot_slot_ne _ _ hk),
      congrArg TrvSt.boot ((State.status_trv _ h .ok).trans (State.setBoot_trv _ slot hbo))⟩
  case routeSolve =>
    obtain ⟨f, -, howner⟩ := s.entered_flightOf h
    refine ⟨_, _, s.routeJob h src mode slot maxDist rpt vec entries, execRouteSolve_waits hb hv hi ha ht hs,
      (s.entered_inFlight h).of_mbx rfl, ?_, rfl, ?_, rfl, rfl, rfl, rfl⟩
    · rw [State.awaitSolve_trv, s.entered_trv]
    · rw [State.routeJob, howner]
  case solveComplete =>
    by_cases hc : j.commit = true
    · obtain ⟨hrunning, hsolved, hcount⟩ := s.solveEnded.keepSolved_leaves j (s.solveJob j (s.fabAt (s.jobFrame j)))
      exact ⟨_, execSolveComplete_commit hj hc, hrunning, hcount.trans s.solveEnded_rd, fun _ => hsolved,
        fun hn => absurd hc (ne_true_of_eq_false hn)⟩
    · obtain ⟨hrunning, hcount⟩ := s.solveEnded.routeEnded_leaves j (s.routeSolution j)
      refine ⟨_, execSolveComplete_route hj (Bool.eq_false_of_not_eq_true hc), hrunning, hcount.trans s.solveEnded_rd,
        fun hn => absurd hn hc, fun _ v o hv ho => ?_⟩
      subst hv
      have hdone := (s.solveEnded.cacheSolve j (s.routeSolution j)).routeDone_concludes (s.routeSolution j) ho
      exact (hdone.of_mbx (State.cacheSolve_mbx _ _ _)).trans (State.showQueue_endsOnly _)
  case commitLocal =>
    have hgives := (s.commitBegun h).giveJob_gives (s.commitJob h src mode 0 atomic slot maxDist tm rpt entries)
    rw [s.commitBegun_trv] at hgives
    have hseq := ((s.commitBegun h).giveJob_seq (s.commitJob h src mode 0 atomic slot maxDist tm rpt entries)).trans
      (congrArg TrvSt.seq (s.commitBegun_trv h))
    exact ⟨_, _, _, execStateCommit_local hb hat he ha ht hp ho hs, (s.commitBegun_inFlight h).of_mbx (State.giveJob_mbx _ _),
      hseq, rfl, s.commitJob_owner .., rfl, rfl, rfl, hgives⟩
  case commitChain =>
    have hlocked : (s.commitBegun h).locked = true := by rw [State.locked, s.commitBegun_rd h 0 (by decide)]; exact hl
    have haddr : (s.commitBegun h).addr = s.addr := s.commitBegun_rd h 0 (by decide)
    obtain ⟨hmem, hmbx⟩ := State.startChain_starts (s.commitJob h src mode 1 atomic slot maxDist tm rpt entries)
      (frameAt (ticksOf tm)) plist hlocked (parts := parts) fun p hp k => by
        rw [s.commitBegun_slot]; exact hv p hp (haddr ▸ k)
    exact ⟨_, _, _, execStateCommit_chain hm hr hb hat he ha ht hpl hpa hle hl hst,
      ((s.commitBegun_inFlight h).of_mbx hmbx).effect _, hmem, rfl, s.commitJob_owner .., rfl, rfl⟩

end Sys2Proof.Machine

/-! PROOFS. The Stands (O20, O21, O22, R268 to R278, R384, R500): what a Stand that goes OFFLINE, a baton that passes and a Stand that
returns leave of the Stands' registers, and what a freeze and the loss of CLKREF leave of admission and of the links. -/

namespace Sys2Proof.Machine

set_option exponentiation.threshold 2048

/-! ## Turns over a list -/

/-- Turns that change nothing that `g` views, over a list of anything. -/
theorem foldl_view {α β : Type} {f : State → α → State} (g : State → β) (hg : ∀ t a, g (f t a) = g t) (l : List α) (s : State) :
    g (l.foldl f s) = g s :=
  List.foldlRecOn l f (motive := fun t => g t = g s) rfl fun t h a _ => (hg t a).trans h

/-! ## The state of a Stand (R268) -/

theorem standKey_inj {a b : Nat} : standKey a 0 = standKey b 0 ↔ a = b := by
  unfold standKey
  omega

theorem State.holder_ne_shadow (s : State) : s.holder ≠ s.shadow := by
  unfold State.shadow
  omega

theorem State.shadow_lt (s : State) : s.shadow < 2 := by
  unfold State.shadow
  omega

theorem State.setStand_standState (s : State) (st : Nat) {v : Nat} (hv : v < 8) (k : Nat) :
    (s.setStand st v).standState k = if k = st then v else s.standState k := by
  rw [State.standState, State.setStand, State.rd_wr]
  refine if_congr (by simp [standKey_inj]) (Nat.mod_eq_of_lt hv) rfl

theorem State.setStand_rd (s : State) (st v : Nat) {f : Fid} (hf : f ≠ .stx_stand_status_state) (i : Nat) :
    (s.setStand st v).rd f i = s.rd f i := State.rd_wr_ne _ _ fun e => hf e.1

theorem State.clearSync_rd (s : State) (st : Nat) {f : Fid} (hf : f ≠ .stx_sync_sync_cnt) (i : Nat) :
    (s.clearSync st).rd f i = s.rd f i :=
  (State.clearSync_evolves (M := frameMask [.stx_sync_sync_cnt] []) st (.refl s) rfl).frame.1 f (by simpa using hf) i

theorem State.clearSync_standState (s : State) (st k : Nat) : (s.clearSync st).standState k = s.standState k :=
  s.clearSync_rd st (by decide) _

/-- The fields that a Stand that goes OFFLINE changes. -/
theorem State.offline_rd (s : State) (st : Nat) {f : Fid} (hf : f ∉ [.stx_stand_status_state, .stx_sync_sync_cnt]) (i : Nat) :
    (s.offline st).rd f i = s.rd f i :=
  (State.offline_evolves (M := frameMask [.stx_stand_status_state, .stx_sync_sync_cnt] [.stand]) st (.refl s) rfl).frame.1 f hf i

theorem State.offline_holder (s : State) (st : Nat) : (s.offline st).holder = s.holder := s.offline_rd st (by decide) 0

theorem State.offline_standState (s : State) (st k : Nat) :
    (s.offline st).standState k = if k = st then 0 else s.standState k := by
  rw [State.standState, State.offline, State.modStand_rd, ← State.standState, State.clearSync_standState,
    State.setStand_standState _ _ (by decide)]

theorem State.path_rd (s : State) (st : Nat) (b : Bool) {f : Fid} (hf : f ∉ [.glb_baton_status_ilk_a, .glb_baton_status_ilk_b])
    (i : Nat) : (s.path st b).rd f i = s.rd f i :=
  (State.path_evolves (M := frameMask [.glb_baton_status_ilk_a, .glb_baton_status_ilk_b] [.stand]) st b (.refl s) rfl).frame.1 f hf i

theorem State.path_stand (s : State) (st : Nat) (b : Bool) :
    (s.path st b).stand = if st = 0 then { s.stand with openA := b } else { s.stand with openB := b } := rfl

/-! ## The baton passes (R274, R278) -/

/-- The incoming Stand computes and holds the baton, the cause shown. -/
def State.batonTaken (s : State) (cause : Nat) : State :=
  ((((s.setStand s.shadow 3).wr .glb_baton_status_holder 0 s.shadow).wr .glb_baton_status_last_cause 0 cause).inc
    .glb_baton_status_handovers 0).wrBit .glb_baton_status_new 0 true

/-- The former holder goes OFFLINE under BRST, or on in another STATE with its matches to make anew. -/
def State.holderLeaves (s : State) (st out : Nat) : State := if out = 0 then s.offline st else (s.setStand st out).clearSync st

theorem State.batonTaken_leaves (s : State) {cause : Nat} (hc : cause < 16) : (s.batonTaken cause).holder = s.shadow ∧
    (s.batonTaken cause).rd .glb_baton_status_last_cause 0 = cause ∧
    ∀ k, (s.batonTaken cause).standState k = if k = s.shadow then 3 else s.standState k := by
  have hs := s.shadow_lt
  have hh : Fid.glb_baton_status_holder.width = 1 := rfl
  have hl : Fid.glb_baton_status_last_cause.width = 4 := rfl
  refine ⟨?_, ?_, fun k => ?_⟩
  · have hread : (s.batonTaken cause).holder = s.shadow % 2 ^ Fid.glb_baton_status_holder.width := by
      simp [State.batonTaken, State.holder, State.rd_wrBit, State.rd_inc, State.rd_wr]
    rw [hread, hh]
    omega
  · have hread : (s.batonTaken cause).rd .glb_baton_status_last_cause 0 = cause % 2 ^ Fid.glb_baton_status_last_cause.width := by
      simp [State.batonTaken, State.rd_wrBit, State.rd_inc]
    rw [hread, hl]
    omega
  · rw [← s.setStand_standState s.shadow (by decide : 3 < 8)]
    simp [State.batonTaken, State.standState, State.rd_wrBit, State.rd_inc, State.rd_wr]

theorem State.holderLeaves_rd (s : State) (st out : Nat) {f : Fid} (hf : f ∉ [.stx_stand_status_state, .stx_sync_sync_cnt]) (i : Nat) :
    (s.holderLeaves st out).rd f i = s.rd f i := by
  have hstate : f ≠ .stx_stand_status_state := fun h => hf (by simp [h])
  have hsync : f ≠ .stx_sync_sync_cnt := fun h => hf (by simp [h])
  unfold State.holderLeaves
  split
  · exact s.offline_rd st hf i
  · rw [State.clearSync_rd _ _ hsync, State.setStand_rd _ _ _ hstate]

theorem State.holderLeaves_standState (s : State) (st : Nat) {out : Nat} (ho : out < 8) (k : Nat) :
    (s.holderLeaves st out).standState k = if k = st then out else s.standState k := by
  unfold State.holderLeaves
  split
  next h => rw [State.offline_standState, h]
  next => rw [State.clearSync_standState, State.setStand_standState _ _ ho]

/-- The write path that a handover opens or cuts at once: in OVERLAP the incoming one opens, else the outgoing one is cut. -/
def State.batonPath (s : State) (cause out : Nat) : State :=
  let t := (s.batonTaken cause).holderLeaves s.holder out
  if s.bit .glb_baton_cfg_mode 0 then t.path s.shadow true else t.path s.holder false

theorem State.passBaton_eq (s : State) (cause out : Nat) :
    s.passBaton cause out = (s.batonPath cause out).modStand (fun t => { t with handover := some {
      cause := cause, src := s.holder, dst := s.shadow
      overlap := if s.bit .glb_baton_cfg_mode 0 then [0, 1, 2, 3] else [] } }) := rfl

theorem State.passBaton_rd (s : State) (cause out : Nat) {f : Fid} (hf : f ∉ [.glb_baton_status_ilk_a, .glb_baton_status_ilk_b])
    (i : Nat) : (s.passBaton cause out).rd f i = ((s.batonTaken cause).holderLeaves s.holder out).rd f i := by
  rw [State.passBaton_eq, State.modStand_rd, State.batonPath]
  split <;> exact State.path_rd _ _ _ hf i

/-- The baton passed: the shadow computes and holds it, the former holder goes on in STATE `out`, the cause is shown. -/
theorem State.passBaton_leaves (s : State) {cause out : Nat} (hc : cause < 16) (ho : out < 8) :
    (s.passBaton cause out).holder = s.shadow ∧ (s.passBaton cause out).standState s.shadow = 3 ∧
    (s.passBaton cause out).standState s.holder = out ∧ (s.passBaton cause out).rd .glb_baton_status_last_cause 0 = cause := by
  obtain ⟨hholder, hcause, hstate⟩ := s.batonTaken_leaves hc
  have hk (k : Nat) : (s.passBaton cause out).standState k = if k = s.holder then out else if k = s.shadow then 3 else s.standState k := by
    rw [State.standState, s.passBaton_rd _ _ (by decide), ← State.standState, State.holderLeaves_standState _ _ ho, hstate]
  refine ⟨?_, ?_, ?_, ?_⟩
  · rw [State.holder, s.passBaton_rd _ _ (by decide), State.holderLeaves_rd _ _ _ (by decide)]; exact hholder
  · rw [hk, if_neg s.holder_ne_shadow.symm, if_pos rfl]
  · rw [hk, if_pos rfl]
  · rw [s.passBaton_rd _ _ (by decide), State.holderLeaves_rd _ _ _ (by decide)]; exact hcause

theorem State.passBaton_command (s : State) (cause out : Nat) : (s.passBaton cause out).stand.command = s.stand.command := by
  have htaken : (s.batonTaken cause).stand = s.stand := rfl
  have hleft : ((s.batonTaken cause).holderLeaves s.holder out).stand.command = s.stand.command := by
    unfold State.holderLeaves
    split
    · rw [State.offline, State.modStand_stand, (State.clearSync_evolves (M := allBut 3) _ (.refl _) rfl).stand rfl]; rfl
    · rw [(State.clearSync_evolves (M := allBut 3) _ (.refl _) rfl).stand rfl]; rfl
  rw [State.passBaton_eq, State.modStand_stand, State.batonPath]
  dsimp only
  split <;> rw [State.path_stand] <;> split <;> exact hleft

/-- A holder that surrenders is under reset. -/
theorem State.passBaton_reset (s : State) (cause : Nat) : s.holder ∈ (s.passBaton cause 0).stand.reset := by
  have hoff := ((s.batonTaken cause).offline_leaves s.holder).2
  rw [State.passBaton_eq, State.modStand_stand, State.batonPath, State.holderLeaves]
  dsimp only
  split <;> rw [State.path_stand] <;> split <;> exact hoff

/-! ## Causes of R271 -/

/-- A holder that can surrender does: what ends with the baton is only a commanded handover that waited (R271). -/
theorem State.surrender_passes {s : State} (cause : Nat) (hf : s.frozen = false) (he : s.eligible = true) :
    (∀ f i, f ≠ .mbx_status_inflight → (s.surrender cause).rd f i = (s.passBaton cause 0).rd f i) ∧
    (s.surrender cause).stand.reset = (s.passBaton cause 0).stand.reset := by
  unfold State.surrender
  rw [if_neg (ne_true_of_eq_false hf), if_pos he]
  dsimp only
  split
  · refine ⟨fun f i h => ?_, ?_⟩
    · rw [State.finishOpt_rd _ _ _ h, State.modStand_rd]
    · rw [(State.finishOpt_evolves (M := allBut 3) _ _ (.refl _) rfl).stand rfl]; rfl
  · exact ⟨fun _ _ _ => rfl, rfl⟩

/-- A cause shown in a Stand's DIAG and reported (R271, R435). -/
def State.faultNoted (s : State) (st cause mask : Nat) : State :=
  (s.wr .stx_stand_status_diag (standKey st 0) (s.rd .stx_stand_status_diag (standKey st 0) ||| 2 ^ (cause - 3))).report
    { src := causeSource cause, objKind := 6, obj := st, detail := cause + 256 * mask }

theorem State.faultNoted_rd (s : State) (st cause mask : Nat) {f : Fid} (hf : f ≠ .stx_stand_status_diag) (i : Nat) :
    (s.faultNoted st cause mask).rd f i = s.rd f i := State.rd_wr_ne _ _ fun e => hf e.1

theorem State.faultNoted_standState (s : State) (st cause mask k : Nat) :
    (s.faultNoted st cause mask).standState k = s.standState k := s.faultNoted_rd st cause mask (by decide) _

theorem State.faultNoted_holder (s : State) (st cause mask : Nat) : (s.faultNoted st cause mask).holder = s.holder :=
  s.faultNoted_rd st cause mask (by decide) 0

theorem State.faultNoted_shadow (s : State) (st cause mask : Nat) : (s.faultNoted st cause mask).shadow = s.shadow := by
  rw [State.shadow, State.faultNoted_holder, State.shadow]

theorem State.faultNoted_diag (s : State) (st mask : Nat) {cause : Nat} (hc : cause < 8) :
    ((s.faultNoted st cause mask).rd .stx_stand_status_diag (standKey st 0)).testBit (cause - 3) = true := by
  have hw : Fid.stx_stand_status_diag.width = 5 := rfl
  have hc5 : cause - 3 < 5 := by omega
  rw [State.faultNoted, State.report_rd, State.rd_wr_same, Nat.testBit_mod_two_pow, Nat.testBit_or, Nat.testBit_two_pow_self, hw]
  simp [hc5]

theorem State.standFault_shadow {s : State} {st : Nat} (cause mask : Nat) (hs : s.standState st ≠ 0) (hn : st ≠ s.holder) :
    s.standFault st cause mask = (s.faultNoted st cause mask).offline st := by
  unfold State.standFault
  dsimp only
  rw [if_neg hs, if_pos hn]
  rfl

theorem State.standFault_holder {s : State} {st : Nat} (cause mask : Nat) (hs : s.standState st ≠ 0) (hn : st = s.holder)
    (hh : s.stand.handover = none) : s.standFault st cause mask = (s.faultNoted st cause mask).surrender cause := by
  unfold State.standFault
  dsimp only
  rw [if_neg hs, if_neg (not_not_intro hn), hh]
  rfl

/-- A fault of a shadow puts it OFFLINE, its cause shown and reported (R271). -/
theorem State.standFault_shadow_leaves {s : State} {st cause : Nat} (hc : cause < 8) (hn : st ≠ s.holder) (hs : s.standState st ≠ 0) :
    ((s.standFault st cause 0).rd .stx_stand_status_diag (standKey st 0)).testBit (cause - 3) = true ∧
    { src := causeSource cause, objKind := 6, obj := st, detail := cause } ∈ (s.standFault st cause 0).flt.reports ∧
    (s.standFault st cause 0).standState st = 0 ∧ st ∈ (s.standFault st cause 0).stand.reset ∧
    (s.standFault st cause 0).holder = s.holder := by
  rw [State.standFault_shadow cause 0 hs hn]
  obtain ⟨hstate, hreset⟩ := (s.faultNoted st cause 0).offline_leaves st
  refine ⟨?_, ?_, hstate, hreset, ?_⟩
  · rw [State.offline_rd _ _ (by decide)]; exact s.faultNoted_diag st 0 hc
  · rw [(State.offline_evolves (M := allBut 7) st (.refl (s.faultNoted st cause 0)) rfl).flt rfl]
    exact List.mem_append_right _ (List.mem_singleton.mpr rfl)
  · rw [State.offline_holder, State.faultNoted_holder]

/-- A fault of the holder passes the baton to an ELIGIBLE shadow (R271). -/
theorem State.standFault_holder_leaves {s : State} {st cause : Nat} (hc : cause < 8) (hn : st = s.holder) (hs : s.standState st ≠ 0)
    (hf : s.frozen = false) (hh : s.stand.handover = none) (he : s.eligible = true) :
    (s.standFault st cause 0).holder = s.shadow ∧ (s.standFault st cause 0).standState s.shadow = 3 ∧
    (s.standFault st cause 0).standState st = 0 ∧ st ∈ (s.standFault st cause 0).stand.reset ∧
    (s.standFault st cause 0).rd .glb_baton_status_last_cause 0 = cause := by
  have hshadow := s.faultNoted_shadow st cause 0
  have hholder := s.faultNoted_holder st cause 0
  have hfrozen : (s.faultNoted st cause 0).frozen = false := by
    rw [State.frozen, State.bit, s.faultNoted_rd _ _ _ (by decide)]; exact hf
  have heligible : (s.faultNoted st cause 0).eligible = true := by
    rw [State.eligible, hshadow, State.faultNoted_standState]; exact he
  obtain ⟨hrd, hreset⟩ := State.surrender_passes cause hfrozen heligible
  obtain ⟨h1, h2, h3, h4⟩ := (s.faultNoted st cause 0).passBaton_leaves (cause := cause) (out := 0) (by omega) (by decide)
  have h5 := (s.faultNoted st cause 0).passBaton_reset cause
  rw [hholder, ← hn] at h3 h5
  rw [hshadow] at h1 h2
  rw [State.standFault_holder cause 0 hs hn hh]
  refine ⟨(hrd _ _ (by decide)).trans h1, (hrd _ _ (by decide)).trans h2, (hrd _ _ (by decide)).trans h3, hreset ▸ h5,
    (hrd _ _ (by decide)).trans h4⟩

/-! ## What ends with a freeze leaves admission (R272, R500) -/

theorem State.admission_of_evolves {s t : State} (h : Evolves (allBut 6) s t) : t.host.admission = s.host.admission := by
  rw [h.host rfl]

theorem State.toHost_admission (s : State) (m addr : Nat) (bytes : List Nat) :
    (s.toHost m addr bytes).host.admission = s.host.admission := by
  unfold State.toHost
  split <;> rfl

theorem State.hostWrite_admission (s : State) (h : Hdr) (addr : Nat) (bytes : List Nat) :
    (s.hostWrite h addr bytes).host.admission = s.host.admission := by
  unfold State.hostWrite
  split
  · exact s.toHost_admission _ _ _
  · rfl

theorem State.finishOpt_admission (s : State) (o : Option Owner) (c : Completion) :
    (s.finishOpt o c).host.admission = s.host.admission :=
  State.admission_of_evolves (State.finishOpt_evolves o c (.refl s) rfl)

theorem State.send_admission (s : State) (kind dst : Nat) (m : Msg) : (s.send kind dst m).host.admission = s.host.admission :=
  State.admission_of_evolves (State.send_evolves kind dst m (.refl s) rfl)

theorem State.sendClr_admission (s : State) (dst : Nat) (m : ClrMsg) : (s.sendClr dst m).host.admission = s.host.admission :=
  State.admission_of_evolves (State.sendClr_evolves dst m (.refl s) rfl)

theorem State.ringWrite_admission (s : State) (k : Nat) (rec : List Nat) :
    (s.ringWrite k rec).host.admission = s.host.admission := by
  unfold State.ringWrite
  dsimp only
  split
  · rfl
  · split
    · exact State.toHost_admission _ _ _ _
    · exact (State.toHost_admission _ _ _ _).trans (s.toHost_admission _ _ _)

theorem State.telSend_admission (dest ring source size n : Nat) (recs : List (List Nat)) (s : State) :
    (s.telSend dest ring source size recs n).host.admission = s.host.admission := by
  induction n generalizing s recs with
  | zero => rfl
  | succ n ih =>
    unfold State.telSend
    dsimp only
    split
    · rfl
    · split
      · rfl
      · exact (ih _ _).trans (s.send_admission _ _ _)

theorem State.telRoundOf_admission (s : State) (mbx : Option Nat) (source group : Nat) (recs : List (Nat × List Nat)) :
    (s.telRoundOf mbx source group recs).host.admission = s.host.admission := by
  have hdeliver (t : State) (x : TelSource) (l : List (List Nat)) : (t.telDeliver x l).host.admission = t.host.admission := by
    unfold State.telDeliver
    split
    · exact foldl_view (fun t => t.host.admission) (fun u r => u.ringWrite_admission _ r) l t
    · exact State.telSend_admission _ _ _ _ _ _ t
  refine foldl_view (fun t => t.host.admission) (fun t x => ?_) _ s
  dsimp only
  split
  · rfl
  · split
    · exact hdeliver _ _ _
    · rfl

theorem State.endSweep_admission (s : State) (w : Sweep) (code : Nat) (fenced : Bool) :
    (s.endSweep w code fenced).host.admission = s.host.admission := by
  have hnote (t : State) (e : Nat) : (t.noteResult e code).host.admission = t.host.admission := by
    unfold State.noteResult
    refine (State.telRoundOf_admission _ _ _ _ _).trans ?_
    split <;> split <;> rfl
  exact (State.admission_of_evolves (State.runResult_evolves _ _ _ _ (.refl _) rfl)).trans (hnote _ _)

theorem State.abandonSweeps_admission (s : State) (p : Nat → Bool) (fenced : Bool) :
    (s.abandonSweeps p fenced).host.admission = s.host.admission := by
  refine foldl_view (fun t => t.host.admission) (fun t e => ?_) _ s
  unfold State.abandonSweep
  split
  · rfl
  · split
    · exact t.endSweep_admission _ _ _
    · exact t.endSweep_admission _ _ _

theorem State.finishChain_admission (s : State) (x : ChainClr) (st : Status) (disp : Nat) :
    (s.finishChain x st disp).host.admission = s.host.admission := by
  have hwrite (t : State) : (t.writeParts x).host.admission = t.host.admission := by
    unfold State.writeParts
    split
    · exact t.hostWrite_admission _ _ _
    · rfl
  exact (State.finishOpt_admission _ _ _).trans (hwrite _)

theorem State.ownRejected_admission (s : State) (x : ChainClr) (st : Status) :
    (s.ownRejected x st).host.admission = s.host.admission := by
  unfold State.ownRejected State.chainTry
  dsimp only
  split
  · exact (State.finishChain_admission _ _ _ _).trans (State.admission_of_evolves (State.sendAborts_evolves _ (.refl s) rfl))
  · split
    · exact s.finishChain_admission _ _ _
    · rfl

theorem State.cancelClr_admission (s : State) (c : Clearing) (st : Status) (disp : Nat) :
    (s.cancelClr c st disp).host.admission = s.host.admission := by
  unfold State.cancelClr
  dsimp only
  split
  · split
    · split
      · exact State.ownRejected_admission _ _ _
      · rfl
    · exact State.sendClr_admission _ _ _
  · exact State.finishOpt_admission _ _ _

/-! ## FROZEN (R272) -/

/-- What a Stand that goes OFFLINE changes of the Stands: no copy of it runs on, and it is under reset. -/
theorem State.offline_stand (s : State) (st : Nat) : (s.offline st).stand = { s.stand with
    reset := (s.offline st).stand.reset, copying := (s.offline st).stand.copying, recopy := [] } := by
  simp only [State.offline, State.modStand_stand, (State.clearSync_evolves (M := allBut 3) st (.refl (s.setStand st 0)) rfl).stand rfl]
  rfl

/-- Both write paths closed and FROZEN set. -/
def State.frozenSet (s : State) : State :=
  ((((s.path 0 false).path 1 false).setStand s.holder 4).wrBit .glb_baton_status_frozen 0 true).wrBit .glb_baton_status_new 0 true

/-- FROZEN set, the shadow OFFLINE, the cause reported, no handover. -/
def State.freezeShown (s : State) (cause : Nat) : State :=
  let t := s.frozenSet
  ((if t.standState t.shadow = 0 then t else t.offline t.shadow).report { src := 0x0E, objKind := 6, obj := s.holder, detail := cause })
    |>.modStand (fun t => { t with handover := none, command := none })

/-- The freeze before it ends what runs: a commanded handover that waited ends with INTERNAL. -/
def State.freezeBegun (s : State) (cause : Nat) : State :=
  (s.freezeShown cause).finishOpt (s.stand.command.bind fun c => c.2.2) { status := .internal }

/-- What a freeze ends of sweeps, Clearings and moves. -/
def State.workFrozen (s : State) : State :=
  let t := s.abandonSweeps (fun _ => true) false
  (t.loop.elems.map (fun p => p.1)).foldl (fun s e => s.freezeElem e) t.cancelAll

theorem State.freeze_eq (s : State) (cause : Nat) : s.freeze cause = (s.freezeBegun cause).workFrozen := by
  unfold State.freeze State.freezeBegun
  rcases hc : s.stand.command with _ | ⟨f, c, o⟩ <;> rfl

theorem State.workFrozen_admission (s : State) : s.workFrozen.host.admission = s.host.admission := by
  have helems := State.admission_of_evolves (Evolves.foldl (f := fun s e => State.freezeElem s e)
    ((s.abandonSweeps (fun _ => true) false).loop.elems.map (fun p => p.1)) (.refl (s.abandonSweeps (fun _ => true) false).cancelAll)
    fun _ e h => State.freezeElem_evolves e h rfl)
  have hcancel (t : State) : t.cancelAll.host.admission = t.host.admission :=
    foldl_view (fun t => t.host.admission) (fun t c => t.cancelClr_admission c _ _) _ t
  exact helems.trans ((hcancel _).trans (s.abandonSweeps_admission _ _))

/-- The mask of everything but the Stands, FROZEN. -/
def besideFreeze : Nat := fullMask - 2 ^ 3 - 2 ^ (17 + Fid.ctorIdx .glb_baton_status_frozen)

theorem State.workFrozen_evolves (s : State) : Evolves besideFreeze s s.workFrozen :=
  .foldl _ (State.cancelAll_evolves (State.abandonSweeps_evolves _ _ (.refl s) rfl) rfl)
    fun _ e h => State.freezeElem_evolves e h rfl

theorem State.freezeShown_leaves (s : State) (cause : Nat) : (s.freezeShown cause).stand.handover = none ∧
    (s.freezeShown cause).stand.openA = false ∧ (s.freezeShown cause).stand.openB = false ∧
    (s.freezeShown cause).rd .glb_baton_status_frozen 0 = 1 := by
  have hopen : s.frozenSet.stand.openA = false ∧ s.frozenSet.stand.openB = false := ⟨rfl, rfl⟩
  have hfrozen : s.frozenSet.rd .glb_baton_status_frozen 0 = 1 := by simp [State.frozenSet, State.rd_wrBit, bit01]
  generalize hu : s.frozenSet = u at hopen hfrozen
  unfold State.freezeShown
  simp only [hu, State.modStand_stand, State.modStand_rd, State.report_rd]
  split
  · exact ⟨trivial, hopen.1, hopen.2, hfrozen⟩
  · refine ⟨trivial, ?_, ?_, (u.offline_rd _ (by decide) 0).trans hfrozen⟩
    · exact (congrArg StandSt.openA (u.offline_stand u.shadow)).trans hopen.1
    · exact (congrArg StandSt.openB (u.offline_stand u.shadow)).trans hopen.2

/-- A freeze leaves both write paths closed, no handover, and FROZEN 1 (R272). -/
theorem State.freeze_leaves (s : State) (cause : Nat) : (s.freeze cause).stand.handover = none ∧
    (s.freeze cause).stand.openA = false ∧ (s.freeze cause).stand.openB = false ∧
    (s.freeze cause).rd .glb_baton_status_frozen 0 = 1 := by
  have hstand : (s.freeze cause).stand = (s.freezeShown cause).stand := by
    rw [State.freeze_eq, (State.workFrozen_evolves _).stand rfl]
    exact (State.finishOpt_evolves (M := allBut 3) _ _ (.refl _) rfl).stand rfl
  have hrd : (s.freeze cause).rd .glb_baton_status_frozen 0 = (s.freezeShown cause).rd .glb_baton_status_frozen 0 := by
    rw [State.freeze_eq, (State.workFrozen_evolves _).rd _ _ rfl]
    exact State.finishOpt_rd _ _ _ (by decide)
  rw [hstand, hrd]
  exact s.freezeShown_leaves cause

theorem State.offline_host (s : State) (st : Nat) : (s.offline st).host = s.host :=
  (State.offline_evolves (M := allBut 6) st (.refl s) rfl).host rfl

theorem State.freezeShown_host (s : State) (cause : Nat) : (s.freezeShown cause).host = s.host := by
  have hset : s.frozenSet.host = s.host := rfl
  have hreport (t : State) (r : FaultRep) : (t.report r).host = t.host := rfl
  unfold State.freezeShown
  simp only [State.modStand_host, hreport]
  split
  · exact hset
  · exact (s.frozenSet.offline_host _).trans hset

theorem State.freeze_admission (s : State) (cause : Nat) : (s.freeze cause).host.admission = s.host.admission := by
  rw [State.freeze_eq, State.workFrozen_admission, State.freezeBegun, State.finishOpt_admission,
    State.freezeShown_host]

theorem State.surrender_admission (s : State) (cause : Nat) : (s.surrender cause).host.admission = s.host.admission := by
  have hpass := State.admission_of_evolves (State.passBaton_evolves cause 0 (.refl s) rfl)
  unfold State.surrender
  dsimp only
  split
  · rfl
  · split
    · split
      · exact (State.finishOpt_admission _ _ _).trans hpass
      · exact hpass
    · exact s.freeze_admission cause

theorem State.standFault_admission (s : State) (st cause mask : Nat) :
    (s.standFault st cause mask).host.admission = s.host.admission := by
  unfold State.standFault
  dsimp only
  split
  · rfl
  · split
    · rw [State.offline_host]
      rfl
    · split
      · rfl
      · exact State.surrender_admission (s.faultNoted st cause mask) cause

/-! ## The loss of CLKREF (R271, R500) -/

/-- A port whose link goes down has none; the links of the others stay. -/
theorem State.takeLinkDown_linkUp (s : State) (p : Nat) (cutUp : Bool) (q : Nat) :
    (s.takeLinkDown p cutUp).linkUp q = if q = p then false else s.linkUp q := by
  by_cases hup : s.linkUp p = false
  · rw [State.takeLinkDown, if_pos hup]
    split
    next h => rw [h, hup]
    next => rfl
  · have hrest : Evolves (allBut (17 + Fid.ctorIdx .chp_status_link_up)) (s.wrBit .chp_status_link_up p false) (s.takeLinkDown p cutUp) := by
      rw [State.takeLinkDown, if_neg hup]
      have hcut := State.report_evolves { src := 0x30, objKind := 4, obj := p } (State.chpEvent_evolves p 1
        (State.emptyQueues_evolves p (State.sat_evolves .chp_status_link_dn_cnt p (State.wrBit_evolves .chp_status_hello_ok p false
          (.refl (M := allBut (17 + Fid.ctorIdx .chp_status_link_up)) (s.wrBit .chp_status_link_up p false)) rfl rfl) rfl rfl) rfl) rfl) rfl
      exact State.showPtpRoles_evolves (.ite (State.ringLinkLost_evolves p cutUp hcut rfl) (State.treeLinkLost_evolves p hcut rfl)) rfl
    rw [State.linkUp, State.bit, hrest.rd _ q rfl, State.rd_wrBit]
    split
    next h => rw [if_pos h.2]; rfl
    next h => rw [if_neg (fun hq => h ⟨rfl, hq⟩)]; rfl

/-- Each port of a list takes its link down where it is up. -/
def State.linksDown (s : State) (l : List Nat) : State := l.foldl (fun s p => if s.linkUp p then s.takeLinkDown p false else s) s

theorem State.linksDown_linkUp (l : List Nat) (s : State) {q : Nat} (h : q ∈ l ∨ s.linkUp q = false) :
    (s.linksDown l).linkUp q = false := by
  induction l generalizing s with
  | nil => exact h.resolve_left (List.not_mem_nil)
  | cons p l ih =>
    have hstep : (if s.linkUp p then s.takeLinkDown p false else s).linkUp q = if q = p then false else s.linkUp q := by
      split
      · exact s.takeLinkDown_linkUp p false q
      next hp =>
        split
        next hq => rw [hq]; exact Bool.eq_false_of_not_eq_true hp
        next => rfl
    refine ih _ ?_
    rw [hstep]
    by_cases hq : q = p
    · exact .inr (if_pos hq)
    · rw [if_neg hq]
      exact h.imp_left fun hm => (List.mem_cons.mp hm).resolve_left hq

theorem State.linksDown_evolves {M : Nat} {o s : State} (l : List Nat) (h : Evolves M o s)
    (hm : 0x50080001b04200131e0000000000c24000c00000000000000000000000000000000000000000000000000000017880 &&& M =
      0x50080001b04200131e0000000000c24000c00000000000000000000000000000000000000000000000000000017880) :
    Evolves M o (s.linksDown l) :=
  .foldl l h fun _ _ k => .ite (State.takeLinkDown_evolves _ _ k hm) k

/-- CLKREF lost: it is absent and admission closed (R500). -/
def State.clkrefGone (s : State) : State :=
  { s with boot := { s.boot with clkref := false }, host := { s.host with admission := false } }

/-- CLKREF lost and the fault of both Stands taken, the shadow's first (R271). -/
def State.clocksFaulted (s : State) : State :=
  let t := s.clkrefGone.standFault s.clkrefGone.shadow 7 0
  t.standFault s.clkrefGone.holder 7 0

theorem execClkrefLoss_loses {s : State} (h : s.boot.clkref = true) :
    execClkrefLoss s = .next ((s.clocksFaulted.wrBit .flt_err_latch 0 true).driveErr.linksDown (List.range 4)) := by
  unfold execClkrefLoss
  rw [if_neg (by simp [h])]
  rfl

/-- Without CLKREF admission is closed, ERR_N is latched and every link is down. -/
theorem State.clkrefLost_leaves (s : State) : let t := (s.clocksFaulted.wrBit .flt_err_latch 0 true).driveErr.linksDown (List.range 4)
    t.boot.clkref = false ∧ t.host.admission = false ∧ t.rd .flt_err_latch 0 = 1 ∧ ∀ p : Fin 4, t.linkUp p = false := by
  intro t
  have hrest {M : Nat} (h1 h2) : Evolves M (s.clocksFaulted.wrBit .flt_err_latch 0 true) t :=
    State.linksDown_evolves (List.range 4) (State.driveErr_evolves (.refl _) h1) h2
  have hboot : s.clocksFaulted.boot = s.clkrefGone.boot :=
    (State.standFault_evolves (M := allBut 10) _ _ _ (State.standFault_evolves _ _ _ (.refl s.clkrefGone) rfl) rfl).boot rfl
  refine ⟨?_, ?_, ?_, fun p => State.linksDown_linkUp _ _ (.inl (List.mem_range.mpr p.isLt))⟩
  · rw [(hrest (M := allBut 10) rfl rfl).boot rfl]
    exact congrArg BootSt.clkref hboot
  · rw [State.admission_of_evolves (hrest (M := allBut 6) rfl rfl)]
    exact (State.standFault_admission _ _ _ _).trans (State.standFault_admission _ _ _ _)
  · rw [(hrest (M := allBut (17 + Fid.ctorIdx .flt_err_latch)) rfl rfl).rd _ 0 rfl, State.rd_wrBit_same]
    rfl

theorem exec_standEccError (st : Fin 2) (s : State) : exec (.standEccError st) s = .next (s.standFault st 4 0) := rfl
theorem exec_writePathParity (st : Fin 2) (s : State) : exec (.writePathParity st) s = .next (s.standFault st 5 0) := rfl
theorem exec_heartbeatMissing (s : State) : exec .heartbeatMissing s = .next (s.standFault s.holder 6 0) := rfl
theorem exec_standClockFault (st : Fin 2) (s : State) : exec (.standClockFault st) s = .next (s.standFault st 7 0) := rfl
theorem exec_clkrefLoss (s : State) : exec .clkrefLoss s = execClkrefLoss s := rfl

/-- Settles O20: each cause by what a fault of a shadow or of the holder leaves. -/
theorem standFaultCausesAct : Obligations.StandFaultCausesAct := by
  unfold Obligations.StandFaultCausesAct
  refine ⟨fun st s c hc hn hs => ?shadow, fun st s c hc hn hs hf hh he => ?holder, fun s h =>
    ⟨_, (exec_clkrefLoss s).trans (execClkrefLoss_loses h), s.clkrefLost_leaves⟩⟩
  case shadow =>
    simp only [List.mem_cons, List.not_mem_nil, or_false] at hc
    rcases hc with rfl | rfl | rfl
    · exact ⟨_, exec_standEccError st s, State.standFault_shadow_leaves (by decide) hn hs⟩
    · exact ⟨_, exec_writePathParity st s, State.standFault_shadow_leaves (by decide) hn hs⟩
    · exact ⟨_, exec_standClockFault st s, State.standFault_shadow_leaves (by decide) hn hs⟩
  case holder =>
    simp only [List.mem_cons, List.not_mem_nil, or_false] at hc
    rcases hc with rfl | rfl | rfl | rfl
    · exact ⟨_, exec_standEccError st s, State.standFault_holder_leaves (by decide) hn hs hf hh he⟩
    · exact ⟨_, exec_writePathParity st s, State.standFault_holder_leaves (by decide) hn hs hf hh he⟩
    · exact ⟨_, hn ▸ exec_heartbeatMissing s, State.standFault_holder_leaves (by decide) hn hs hf hh he⟩
    · exact ⟨_, exec_standClockFault st s, State.standFault_holder_leaves (by decide) hn hs hf hh he⟩

end Sys2Proof.Machine

/-! PROOFS. Handovers (O21, R272, R274, R276, R278, R384): the end of one that runs, one forced and one commanded. -/

namespace Sys2Proof.Machine

set_option exponentiation.threshold 2048

theorem exec_interlockConfirm (s : State) : exec .interlockConfirm s = execInterlockConfirm s := rfl
theorem exec_interlockTimeout (s : State) : exec .interlockTimeout s = execInterlockTimeout s := rfl
theorem exec_ilkForce (s : State) : exec .ilkForce s = execIlkForce s := rfl
theorem exec_commandedHandover (s : State) : exec .commandedHandover s = execCommandedHandover s := rfl
theorem exec_standHandoverHandover (h : Hdr) (s : State) :
    exec (.standHandoverHandover h) s = execStandHandoverHandover h s := rfl

/-! ## The end of a handover (R274) -/

theorem execInterlockConfirm_ends {s : State} {h : Handover} (hh : s.stand.handover = some h) :
    execInterlockConfirm s = .next (s.endHandover h) := by
  unfold execInterlockConfirm
  rw [hh]

/-- A handover that holds no cause ends with the outgoing path cut and the incoming one open. -/
theorem State.endHandover_leaves (s : State) {h : Handover} (hn : h.held = []) (hsum : h.src + h.dst = 1) :
    (s.endHandover h).stand.handover = none ∧
    (if h.src = 0 then (s.endHandover h).stand.openA else (s.endHandover h).stand.openB) = false ∧
    (if h.dst = 0 then (s.endHandover h).stand.openA else (s.endHandover h).stand.openB) = true := by
  have hend : s.endHandover h = ((s.path h.src false).path h.dst true).modStand (fun t => { t with handover := none }) := by
    unfold State.endHandover
    rw [hn]
  have hsides : h.src = 0 ∧ h.dst = 1 ∨ h.src = 1 ∧ h.dst = 0 := by omega
  rw [hend]
  rcases hsides with ⟨hs, hd⟩ | ⟨hs, hd⟩ <;> simp [hs, hd, State.path_stand]

theorem execInterlockTimeout_freezes {s : State} {h : Handover} (hh : s.stand.handover = some h) (ho : h.overlap = []) :
    execInterlockTimeout s = .next (s.freeze (if h.cause < 3 ∨ h.cause = 8 then 0 else h.cause)) := by
  unfold execInterlockTimeout
  simp only [hh, if_pos ho]

/-! ## A forced handover (R276) -/

section Forced

variable {s : State} (hx : s.rd .glb_baton_cfg_ext_en 0 ≠ 0) (hc : s.standState s.holder = 3)
include hx hc

theorem execIlkForce_passes (he : s.eligible = true) (hh : s.stand.handover = none) :
    execIlkForce s = .next (s.passBaton 2 1) := by
  have hgo : ¬ ((!s.bit .glb_baton_cfg_ext_en 0) = true ∨ s.standState s.holder ≠ 3) := by
    simp [State.bit_eq_true.mpr hx, hc]
  unfold execIlkForce
  rw [if_neg hgo, if_pos ⟨he, hh⟩]

theorem execIlkForce_counts (he : s.eligible = false) : execIlkForce s = .next (s.sat .glb_baton_status_ign_cnt 0) := by
  have hgo : ¬ ((!s.bit .glb_baton_cfg_ext_en 0) = true ∨ s.standState s.holder ≠ 3) := by
    simp [State.bit_eq_true.mpr hx, hc]
  unfold execIlkForce
  rw [if_neg hgo, if_neg (by simp [he])]

end Forced

/-! ## A commanded handover (R278, R384) -/

/-- A command of MB0 that has been entered is owned in MB0. -/
theorem State.entered_ownerOf_mb0 (s : State) {h : Hdr} (hm : h.mbx = 0) :
    (s.entered h).ownerOf h = ⟨0, ((s.entered h).ownerOf h).id⟩ := by
  obtain ⟨f, -, ho⟩ := s.entered_flightOf h
  rw [ho, hm]

/-- STAND_HANDOVER of the form HANDOVER that waits from the frame of its admission. -/
def State.handoverAsked (s : State) (h : Hdr) : State :=
  (s.entered h).modStand (fun t => { t with command := some (s.loop.frames, 1, some ((s.entered h).ownerOf h)) })

theorem execStandHandoverHandover_waits {h : Hdr} {s : State} (hm : h.mbx = 0) (he : s.eligible = true) (hf : s.frozen = false)
    (hb : s.standBusy = false) : execStandHandoverHandover h s = .next (s.handoverAsked h) := by
  unfold execStandHandoverHandover
  rw [State.checked_pass _ _ _ _ (by simp [hm, he, hf, hb])]
  rfl

theorem State.handoverAsked_stand (s : State) {h : Hdr} (hm : h.mbx = 0) : (s.handoverAsked h).stand =
    { s.stand with command := some (s.loop.frames, 1, some ⟨0, ((s.entered h).ownerOf h).id⟩) } := by
  rw [State.handoverAsked, State.modStand_stand, State.entered_stand, s.entered_ownerOf_mb0 hm]

/-- A commanded handover at its boundary: the baton passes with its cause, the former holder goes on as SYNCING shadow, and the
command completes. -/
def State.handoverMade (s : State) (cause : Nat) (o : Option Owner) : State :=
  ((s.modStand (fun t => { t with command := none })).passBaton cause 1).finishOpt o { status := .ok }

theorem execCommandedHandover_passes {s : State} {f cause : Nat} {o : Option Owner} (hc : s.stand.command = some (f, cause, o))
    (hf : f + 2 ≤ s.loop.frames) (hb : s.frame % 40 = 0) (he : s.eligible = true) (h8 : cause < 8) :
    execCommandedHandover s = .next (s.handoverMade cause o) := by
  have hgo : ¬ (s.loop.frames < f + 2 ∨ s.frame % 40 ≠ 0) := by omega
  have hcause : cause ≠ 8 := by omega
  unfold execCommandedHandover
  simp only [hc, if_neg hgo, he, if_neg hcause, Bool.not_true, Bool.false_eq_true, if_false]
  rfl

theorem State.handoverMade_rd (s : State) (cause : Nat) (o : Option Owner) {f : Fid} (hf : f ≠ .mbx_status_inflight) (i : Nat) :
    (s.handoverMade cause o).rd f i = ((s.modStand (fun t => { t with command := none })).passBaton cause 1).rd f i :=
  State.finishOpt_rd _ _ _ hf

theorem State.handoverMade_command (s : State) (cause : Nat) (o : Option Owner) : (s.handoverMade cause o).stand.command = none := by
  have hstand := (State.finishOpt_evolves (M := allBut 3) o { status := .ok }
    (.refl ((s.modStand (fun t => { t with command := none })).passBaton cause 1)) rfl).stand rfl
  rw [State.handoverMade, hstand, State.passBaton_command, State.modStand_stand]

theorem State.handoverMade_concludes (s : State) (cause : Nat) (o : Owner) :
    s.Concludes (s.handoverMade cause (some o)) o { status := .ok } :=
  (State.finishOpt_concludes _ _ rfl).of_mbx
    ((State.passBaton_evolves (M := allBut 4) cause 1 (.refl (s.modStand (fun t => { t with command := none }))) rfl).mbx rfl)

/-- Settles O21: each event and command by its own rule above. -/
theorem batonHandoversComplete : Obligations.BatonHandoversComplete := by
  unfold Obligations.BatonHandoversComplete
  refine ⟨fun h s hh hn hsum => ⟨_, (exec_interlockConfirm s).trans (execInterlockConfirm_ends hh), s.endHandover_leaves hn hsum⟩,
    fun h s hh ho => ⟨_, (exec_interlockTimeout s).trans (execInterlockTimeout_freezes hh ho), s.freeze_leaves _⟩,
    fun s hx hc => ⟨fun he hh => ?forced, fun he => ?ignored⟩, fun h s hm he hf hb => ?asked, fun f cause o s hc hf hb he h8 => ?made⟩
  case forced =>
    exact ⟨_, (exec_ilkForce s).trans (execIlkForce_passes hx hc he hh), s.passBaton_leaves (by decide) (by decide)⟩
  case ignored =>
    exact ⟨_, (exec_ilkForce s).trans (execIlkForce_counts hx hc he), s.rd_sat_same _ _, fun f i hn => State.rd_wr_ne _ _ hn, rfl⟩
  case asked =>
    exact ⟨_, _, (exec_standHandoverHandover h s).trans (execStandHandoverHandover_waits hm he hf hb),
      (s.entered_inFlight h).of_mbx rfl, s.handoverAsked_stand hm⟩
  case made =>
    obtain ⟨hholder, hshadow, hformer, hcause⟩ := (s.modStand (fun t => { t with command := none })).passBaton_leaves
      (cause := cause) (out := 1) (by omega) (by decide)
    have hrd {f : Fid} (hf : f ≠ .mbx_status_inflight) (i : Nat) := s.handoverMade_rd cause (some o) hf i
    exact ⟨_, (exec_commandedHandover s).trans (execCommandedHandover_passes hc hf hb he h8), (hrd (by decide) _).trans hholder,
      (hrd (by decide) _).trans hshadow, (hrd (by decide) _).trans hformer, (hrd (by decide) _).trans hcause,
      s.handoverMade_command _ _, s.handoverMade_concludes _ _⟩

end Sys2Proof.Machine

/-! PROOFS. What an operation on one element leaves of every element's state (R186 to R194, R281, R283), and a list of elements
gone through one after the other. -/

namespace Sys2Proof.Machine

set_option exponentiation.threshold 2048

/-- From `s` to `t` no element but `e` changes, and `e` is in state `v`. -/
structure State.Moves (e v : Nat) (s t : State) : Prop where
  others : ∀ k, k ≠ e → t.el k = s.el k
  own : (t.el e).state = v

theorem State.Moves.refl (e : Nat) (s : State) : s.Moves e (s.el e).state s := ⟨fun _ _ => rfl, rfl⟩

section Moves

variable {e v : Nat} {s t : State} (h : s.Moves e v t)
include h

/-- A change of anything but the elements. -/
theorem State.Moves.of_elems {u : State} (k : u.loop.elems = t.loop.elems) : s.Moves e v u := by
  have hel (i : Nat) : u.el i = t.el i := by rw [State.el, k, State.el]
  exact ⟨fun i hi => (hel i).trans (h.others i hi), (congrArg Elem.state (hel e)).trans h.own⟩

theorem State.Moves.evolves {u : State} (k : Evolves (allBut 1) t u) : s.Moves e v u :=
  h.of_elems (by rw [k.loop rfl])

theorem State.Moves.ite {u : State} {c : Prop} [Decidable c] (k : s.Moves e v u) : s.Moves e v (if c then t else u) := by
  split <;> assumption

theorem State.Moves.foldl {α : Type} {f : State → α → State} (l : List α) (hf : ∀ u a, s.Moves e v u → s.Moves e v (f u a)) :
    s.Moves e v (l.foldl f t) := by
  induction l generalizing t with
  | nil => exact h
  | cons a l ih => exact ih (hf t a h)

/-- The element changed, in its state too where `g` says so. -/
theorem State.Moves.modElTo {w : Nat} {g : Elem → Elem} (hg : ∀ x, x.state = v → (g x).state = w) : s.Moves e w (t.modEl e g) :=
  ⟨fun k hk => (State.modEl_el_ne _ _ hk).trans (h.others k hk), by rw [State.modEl_el_same]; exact hg _ h.own⟩

/-- The element changed in a field other than its state. -/
theorem State.Moves.modEl {g : Elem → Elem} (hg : ∀ x, (g x).state = x.state := by intro _; rfl) : s.Moves e v (t.modEl e g) :=
  h.modElTo fun x hx => (hg x).trans hx

theorem State.Moves.wr (f : Fid) (i x : Nat) : s.Moves e v (t.wr f i x) := h.of_elems rfl
theorem State.Moves.wrBit (f : Fid) (i : Nat) (b : Bool) : s.Moves e v (t.wrBit f i b) := h.of_elems rfl
theorem State.Moves.modMon (m : Nat) (g : Mon → Mon) : s.Moves e v (t.modMon m g) := h.of_elems rfl
theorem State.Moves.addSpan (m : Nat) (x : Span) : s.Moves e v (t.addSpan m x) := h.of_elems rfl
theorem State.Moves.modHc (i : Nat) (g : HCh → HCh) : s.Moves e v (t.modHc i g) := h.of_elems rfl

theorem State.Moves.settled : s.Moves e v (t.settled e) := h.evolves (State.settled_evolves _ (.refl t) rfl)

theorem State.Moves.finishMove (o : Option Owner) (c : Completion) : s.Moves e v (t.finishMove e o c) := by
  have hends : Evolves (allBut 1) t ((t.el e).joint.foldl (fun s w => s.finish w c) (t.finishOpt o c)) :=
    .foldl _ (State.finishOpt_evolves _ _ (.refl t) rfl) fun _ _ k => State.finish_evolves _ _ k rfl
  exact (h.evolves hends).modEl

theorem State.Moves.dropMove (st : Status) : s.Moves e v (t.dropMove e st) := by
  have hjump : s.Moves e v (match (t.el e).jump with
      | some j => (t.finishMove e j.owner { status := st }).modEl e (fun y => { y with jump := some { j with owner := none } })
      | none => t) := by
    split
    · exact (h.finishMove _ _).modEl
    · exact h
  unfold State.dropMove
  dsimp only
  split
  · exact (hjump.finishMove _ _).modEl
  · exact hjump

theorem State.Moves.endRange (st : Status) : s.Moves e v (t.endRange e st) := by
  unfold State.endRange
  dsimp only
  split
  · exact h
  · refine State.Moves.evolves ?_ (State.finishOpt_evolves _ _ (.refl _) rfl)
    exact (((h.modEl.foldl _ fun _ m k => k.modMon m _).ite h.modEl).wrBit _ _ _).wrBit _ _ _

theorem State.Moves.flush : s.Moves e v (t.flush e) := h.modEl

theorem State.Moves.setState (st : Nat) : s.Moves e st (t.setState e st) := by
  exact ((h.wrBit .ust_hpwm_mode_src (hIdx e) false).ite h).modElTo fun _ _ => rfl

theorem State.Moves.enterSettle (d : Int) : s.Moves e 1 (t.enterSettle e d) := ((h.setState 1).modEl).modEl

theorem State.Moves.setDuty (u : Int) : s.Moves e v (t.setDuty e u) := (h.modEl.modEl).modHc e _

theorem State.Moves.setHiz (b : Bool) : s.Moves e v (t.setHiz e b) := by
  have hel (k : Nat) := t.setHiz_el e b k
  exact ⟨fun k hk => (hel k).trans (h.others k hk), (congrArg Elem.state (hel e)).trans h.own⟩

theorem State.Moves.toClear : s.Moves e v (t.toClear e) := by
  have hcode := (h.of_elems (u := t.setCode e (t.clearOf e)) rfl).modEl (g := fun x => { x with
    out := if t.vOff e then x.out else t.clearOf e, held := false, play := [], clamp := bit01 (t.clearClamps e) })
  exact (hcode.wrBit _ _ _).ite hcode

theorem State.Moves.park : s.Moves e 0 (t.park e) :=
  ((h.setState 0).modEl.toClear).ite ((h.setState 0).modEl.setHiz _)

theorem State.Moves.startJump (vs vt : Int) (fwd : Bool) (goal : JumpGoal) (owner : Option Owner) (clr : Option Nat) :
    s.Moves e 3 (t.startJump e vs vt fwd goal owner clr) := by
  unfold State.startJump
  dsimp only
  generalize hu : List.foldl _ _ _ = u
  have hfold : s.Moves e 3 u := by
    rw [← hu]
    exact ((h.flush.setState 3).modEl).foldl _ fun _ m k => k.addSpan m _
  have hshown := (hfold.wrBit .ust_vdac_status_play e true).wr .ust_vdac_status_prof e (t.profFor e fwd)
  exact (hshown.ite (hshown.wrBit _ _ _)).ite (hfold.setHiz _)

end Moves

/-- A list of elements gone through by `f`: it takes each that is in a state of `q` to one of `p`, and leaves every element that the
list does not name. -/
theorem State.foldl_moves {f : State → Nat → State} {p q : Nat → Prop} (hpq : ∀ v, p v → q v)
    (hf : ∀ (t : State) k, ∃ v, (q (t.el k).state → p v) ∧ State.Moves k v t (f t k)) (e : Nat) (l : List Nat) (s : State) :
    (e ∉ l → (l.foldl f s).el e = s.el e) ∧ (e ∈ l → q (s.el e).state → p ((l.foldl f s).el e).state) := by
  induction l generalizing s with
  | nil => exact ⟨fun _ => rfl, fun h => absurd h List.not_mem_nil⟩
  | cons k l ih =>
    obtain ⟨hout, hin⟩ := ih (f s k)
    obtain ⟨v, hv, hothers, hown⟩ := hf s k
    refine ⟨fun he => ?_, fun he hq => ?_⟩
    · rw [List.mem_cons, not_or] at he
      exact (hout he.2).trans (hothers e he.1)
    · by_cases hk : e = k
      · subst hk
        have hp : p ((f s e).el e).state := hown ▸ hv hq
        by_cases hl : e ∈ l
        · exact hin hl (hpq _ hp)
        · exact (congrArg (fun x => p x.state) (hout hl)).mpr hp
      · exact hin ((List.mem_cons.mp he).resolve_left hk) ((hothers e hk).symm ▸ hq)

/-- The elements of a compartment that the loops' table holds. -/
def State.cptHeld (s : State) (n : Nat) : List Nat := (s.loop.elems.map (fun p => p.1)).filter (fun e => elemCpt e == n)

/-- An element that the table does not hold is in PARK. -/
theorem State.mem_cptHeld {s : State} {e n : Nat} (hn : elemCpt e = n) (h : (s.el e).state ≠ 0) : e ∈ s.cptHeld n := by
  rcases Tbl.get_eq_or_mem {} s.loop.elems e with hd | hmem
  · exact absurd (congrArg Elem.state hd) h
  · exact List.mem_filter.mpr ⟨List.mem_map_of_mem hmem, by simpa using hn⟩

end Sys2Proof.Machine

/-! PROOFS. Returns of a Stand (O22, R268 to R270, R273, R278, R384): released and returned by command, the copy made, the baton taken
back from a FROZEN holder, ELIGIBLE again, and the elements resumed. -/

namespace Sys2Proof.Machine

set_option exponentiation.threshold 2048

theorem exec_standHandoverRelease (h : Hdr) (s : State) :
    exec (.standHandoverRelease h) s = execStandHandoverRelease h s := rfl
theorem exec_standHandoverReturn (h : Hdr) (s : State) : exec (.standHandoverReturn h) s = execStandHandoverReturn h s := rfl
theorem exec_standCopyComplete (s : State) : exec .standCopyComplete s = execStandCopyComplete s := rfl
theorem exec_standEligible (s : State) : exec .standEligible s = execStandEligible s := rfl
theorem exec_takeoverResume (n : Fin 4) (s : State) : exec (.takeoverResume n) s = execTakeoverResume n s := rfl

/-! ## RELEASE and RETURN (R270, R278) -/

theorem execStandHandoverRelease_releases {h : Hdr} {s : State} (hm : h.mbx = 0) (hf : s.frozen = false)
    (hs : s.standState s.shadow = 1 ∨ s.standState s.shadow = 2) :
    execStandHandoverRelease h s = .next ((s.offline s.shadow).status h .ok) := by
  unfold execStandHandoverRelease
  rw [State.checked_pass _ _ _ _ (by rcases hs with hs | hs <;> simp [hm, hf, hs])]

theorem execStandHandoverReturn_starts {h : Hdr} {s : State} (hm : h.mbx = 0) (hs : s.standState s.shadow = 0) :
    execStandHandoverReturn h s = .next ((s.entered h).startCopy s.shadow (some ((s.entered h).ownerOf h))) := by
  unfold execStandHandoverReturn
  rw [State.checked_pass _ _ _ _ (by simp [hm, hs])]

/-- A return that starts awaits its end for its command. -/
theorem State.startCopy_awaits (s : State) (st : Nat) (o : Option Owner) : ∃ f, (o, f) ∈ (s.startCopy st o).stand.returnBy :=
  ⟨s.loop.frames + 256 * s.slowest, by simp [State.startCopy]⟩

/-! ## The end of a return (R273, R278) -/

theorem State.returned_rd (s : State) {f : Fid} (hf : f ≠ .mbx_status_inflight) (i : Nat) : s.returned.rd f i = s.rd f i :=
  foldl_view (fun t => t.rd f i) (fun t _ => t.finishOpt_rd _ _ hf) _ _

theorem State.returned_stand (s : State) : s.returned.stand = { s.stand with returnBy := [] } :=
  foldl_view (·.stand) (fun _ _ => (State.finishOpt_evolves (M := allBut 3) _ _ (.refl _) rfl).stand rfl) _
    (s.modStand (fun t => { t with returnBy := [] }))

/-- The end of another command of the mailbox leaves one in flight. -/
theorem State.finish_keeps (s : State) {o : Owner} (c : Completion) {m : Nat} {f : Flight} (hf : f ∈ (s.mb m).flight)
    (hne : ¬ (m = o.mbx ∧ f.id = o.id)) : f ∈ ((s.finish o c).mb m).flight := by
  by_cases hm : m = o.mbx
  · have hid : ¬ (f.id = o.id ∧ f.comp = none) := fun h => hne ⟨hm, h.1⟩
    subst hm
    rw [State.finish, State.modMb_mb_same]
    exact List.mem_map.mpr ⟨f, hf, if_neg hid⟩
  · rwa [State.finish, State.modMb_mb_ne _ _ hm]

/-- Of commands that end one after the other with one result each has that result. -/
theorem State.finishAll_concludes {α : Type} (w : α → Option Owner) (c : Completion) {o : Owner} (l : List α) (s : State)
    (h : ∃ a ∈ l, w a = some o) : s.Concludes (l.foldl (fun s a => s.finishOpt (w a) c) s) o c := by
  induction l generalizing s with
  | nil => simp at h
  | cons a l ih =>
    rw [List.foldl_cons]
    by_cases ha : w a = some o
    · refine (s.finishOpt_concludes c ha).trans ?_
      exact List.foldlRecOn l _ (motive := fun t => (s.finishOpt (w a) c).EndsOnly t) (.refl _)
        fun t ht b _ => ht.trans (t.finishOpt_endsOnly _ c)
    · have htail : ∃ a ∈ l, w a = some o := by
        obtain ⟨b, hb, hw⟩ := h
        exact ⟨b, (List.mem_cons.mp hb).resolve_left fun e => ha (e ▸ hw), hw⟩
      intro f hf hi hc
      refine ih _ htail f ?_ hi hc
      unfold State.finishOpt
      split
      next p hp => exact s.finish_keeps c hf fun hk => ha (hp.trans (congrArg some (by cases p; cases o; simp_all)))
      next => exact hf

theorem State.returned_concludes (s : State) {o : Owner} {f : Nat} (h : (some o, f) ∈ s.stand.returnBy) :
    s.Concludes s.returned o { status := .ok } :=
  (State.finishAll_concludes (fun r : Option Owner × Nat => r.1) { status := .ok } s.stand.returnBy
    (s.modStand (fun t => { t with returnBy := [] })) ⟨_, h, rfl⟩).of_mbx rfl

/-! ## The copy made (R270, R273) -/

/-- The returned Stand takes the baton from the FROZEN one, which goes OFFLINE, and every compartment is to resume. -/
def State.takenBack (s : State) (st : Nat) : State :=
  let s2 := (((s.modStand (fun t => { t with copying := none })).setStand st 3).wr .glb_baton_status_holder 0 st).wrBit
    .glb_baton_status_frozen 0 false
  ((((s2.offline s.holder).path s.holder false).path st true).modStand (fun t => { t with resume := [0, 1, 2, 3] }))

theorem execStandCopyComplete_ends {s : State} {st : Nat} (hc : s.stand.copying = some (st, [])) (hf : s.frozen = false) :
    execStandCopyComplete s = .next { s with stand := { s.stand with copying := none } } := by
  unfold execStandCopyComplete
  simp only [hc, hf, Bool.false_eq_true, if_false]
  rfl

theorem execStandCopyComplete_takesBack {s : State} {st : Nat} (hc : s.stand.copying = some (st, [])) (hf : s.frozen = true) :
    execStandCopyComplete s = .next (s.takenBack st).returned := by
  unfold execStandCopyComplete
  simp only [hc, hf, if_true]
  rfl

theorem State.takenBack_leaves (s : State) {st : Nat} (hst : st < 2) (hne : st ≠ s.holder) :
    (s.takenBack st).holder = st ∧ (s.takenBack st).rd .glb_baton_status_frozen 0 = 0 ∧ (s.takenBack st).standState st = 3 ∧
    (s.takenBack st).standState s.holder = 0 := by
  have hoff {f : Fid} (hp : f ∉ [.glb_baton_status_ilk_a, .glb_baton_status_ilk_b])
      (hf : f ∉ [.stx_stand_status_state, .stx_sync_sync_cnt]) (i : Nat) : (s.takenBack st).rd f i =
      ((((s.modStand (fun t => { t with copying := none })).setStand st 3).wr .glb_baton_status_holder 0 st).wrBit
        .glb_baton_status_frozen 0 false).rd f i := by
    rw [State.takenBack, State.modStand_rd, State.path_rd _ _ _ hp, State.path_rd _ _ _ hp, State.offline_rd _ _ hf]
  have hstate (k : Nat) : (s.takenBack st).standState k = if k = s.holder then 0 else if k = st then 3 else s.standState k := by
    rw [State.standState, State.takenBack, State.modStand_rd, State.path_rd _ _ _ (by decide), State.path_rd _ _ _ (by decide),
      ← State.standState, State.offline_standState, State.standState, State.rd_wrBit_ne _ _ (by simp), State.rd_wr_ne _ _ (by simp),
      ← State.standState, State.setStand_standState _ _ (by decide)]
    rfl
  have hw : Fid.glb_baton_status_holder.width = 1 := rfl
  refine ⟨?_, ?_, ?_, ?_⟩
  · rw [State.holder, hoff (by decide) (by decide), State.rd_wrBit_ne _ _ (by simp), State.rd_wr_same, hw]
    omega
  · rw [hoff (by decide) (by decide), State.rd_wrBit_same]
    rfl
  · rw [hstate, if_neg hne, if_pos rfl]
  · rw [hstate, if_pos rfl]

/-! ## ELIGIBLE (R269) -/

theorem execStandEligible_eligible {s : State} (hst : s.standState s.shadow = 1) (hc : s.stand.copying = none)
    (hs : s.synced = true) (hf : s.frozen = false) (ha : s.boot.actStep = 0) :
    execStandEligible s = .next (s.setStand s.shadow 2).returned := by
  unfold execStandEligible
  simp only [hst, hc, hs, hf, ha, ne_eq, not_true_eq_false, Option.isSome_none, Bool.not_true, Bool.false_eq_true, or_self, if_false]

/-! ## Elements after a take-over (R273) -/

/-- An element in SETTLE, HOLD or JUMP resumes in SETTLE, and no other element changes. -/
theorem State.resumeElem_moves (s : State) (e : Nat) :
    ∃ v, (1 ≤ (s.el e).state ∧ (s.el e).state ≤ 3 → v = 1) ∧ s.Moves e v (s.resumeElem e) := by
  by_cases hst : 1 ≤ (s.el e).state ∧ (s.el e).state ≤ 3
  · refine ⟨1, fun _ => rfl, ?_⟩
    unfold State.resumeElem
    rw [if_pos hst]
    exact ((State.Moves.refl e s).dropMove _ |>.enterSettle _).settled
  · refine ⟨(s.el e).state, fun h => absurd h hst, ?_⟩
    unfold State.resumeElem
    rw [if_neg hst]
    exact .refl e s

/-- A compartment that awaits its resumption struck off, its elements resumed. -/
def State.takeoverResumed (s : State) (n : Nat) : State :=
  (s.cptHeld n).foldl (fun s e => s.resumeElem e) (s.modStand (fun t => { t with resume := t.resume.filter (fun x => x != n) }))

theorem execTakeoverResume_resumes {n : Fin 4} {s : State} (hr : n.val ∈ s.stand.resume) (hb : s.atBoundary n = true) :
    execTakeoverResume n s = .next (s.takeoverResumed n) := by
  unfold execTakeoverResume
  rw [if_neg (by simp [hr, hb])]
  rfl

theorem State.takeoverResumed_resume (s : State) (n : Nat) : n ∉ (s.takeoverResumed n).stand.resume := by
  have hstand : (s.takeoverResumed n).stand = _ := foldl_view (·.stand)
    (fun t e => (State.resumeElem_evolves (M := allBut 3) e (.refl t) rfl).stand rfl) (s.cptHeld n)
    (s.modStand (fun t => { t with resume := t.resume.filter (fun x => x != n) }))
  rw [hstand]
  simp

theorem State.takeoverResumed_settles (s : State) {n e : Nat} (hn : elemCpt e = n) (h1 : 1 ≤ (s.el e).state)
    (h3 : (s.el e).state ≤ 3) : ((s.takeoverResumed n).el e).state = 1 :=
  (State.foldl_moves (p := (· = 1)) (q := fun v => 1 ≤ v ∧ v ≤ 3) (fun _ h => by omega) (fun t k => t.resumeElem_moves k) e _ _).2
    (State.mem_cptHeld hn (by omega)) ⟨h1, h3⟩

/-- Settles O22: each command and event by its own rule above. -/
theorem standReturnsComplete : Obligations.StandReturnsComplete := by
  unfold Obligations.StandReturnsComplete
  refine ⟨fun h s hm hf hs => ?released, fun h s hm hs => ?returns, fun st s hc => ⟨fun hf => ?copied, fun hf hst hne => ?takesBack⟩,
    fun s hst hc hs hf ha => ?eligible, fun n s hr hb => ?resumes⟩
  case released =>
    obtain ⟨hstate, hreset⟩ := s.offline_leaves s.shadow
    refine ⟨_, (exec_standHandoverRelease h s).trans (execStandHandoverRelease_releases hm hf hs), State.status_finished _ h _,
      ?_, ?_, ?_⟩
    · rw [State.standState, State.status_rd _ _ _ (by decide)]; exact hstate
    · rw [State.status_stand]; exact hreset
    · rw [State.holder, State.status_rd _ _ _ (by decide)]; exact s.offline_holder _
  case returns =>
    obtain ⟨-, hstate, hcopy⟩ := (s.entered h).startCopy_leaves s.shadow (some ((s.entered h).ownerOf h))
    have hmbx := (State.startCopy_evolves (M := allBut 4) s.shadow (some ((s.entered h).ownerOf h)) (.refl (s.entered h)) rfl).mbx rfl
    refine ⟨_, _, (exec_standHandoverReturn h s).trans (execStandHandoverReturn_starts hm hs), (s.entered_inFlight h).of_mbx hmbx,
      hstate, hcopy, ?_⟩
    rw [← s.entered_ownerOf_mb0 hm]
    exact State.startCopy_awaits _ _ _
  case copied => exact (exec_standCopyComplete s).trans (execStandCopyComplete_ends hc hf)
  case takesBack =>
    obtain ⟨hholder, hfrozen, hcomputes, hformer⟩ := s.takenBack_leaves hst hne
    have hrd {f : Fid} (hf : f ≠ .mbx_status_inflight) (i : Nat) := (s.takenBack st).returned_rd hf i
    refine ⟨_, (exec_standCopyComplete s).trans (execStandCopyComplete_takesBack hc hf), (hrd (by decide) _).trans hholder,
      (hrd (by decide) _).trans hfrozen, (hrd (by decide) _).trans hcomputes, (hrd (by decide) _).trans hformer, ?_⟩
    rw [State.returned_stand]
    rfl
  case eligible =>
    refine ⟨_, (exec_standEligible s).trans (execStandEligible_eligible hst hc hs hf ha), ?_, ?_, fun o f ho => ?_⟩
    · rw [State.standState, State.returned_rd _ (by decide), ← State.standState, State.setStand_standState _ _ (by decide), if_pos rfl]
    · rw [State.returned_stand]
    · exact ((s.setStand s.shadow 2).returned_concludes ho).of_mbx rfl
  case resumes =>
    exact ⟨_, (exec_takeoverResume n s).trans (execTakeoverResume_resumes hr hb), s.takeoverResumed_resume n,
      fun e hn h1 h3 => s.takeoverResumed_settles hn h1 h3⟩

end Sys2Proof.Machine

/-! PROOFS. Compartment service (O23, R102, R280 to R283, R384, R441): a compartment fenced, reset and rejoined. -/

namespace Sys2Proof.Machine

set_option exponentiation.threshold 2048

theorem exec_compartmentServiceFence (h : Hdr) (comp : Nat) (s : State) :
    exec (.compartmentServiceFence h comp) s = execCompartmentServiceFence h comp s := rfl
theorem exec_compartmentServiceReset (h : Hdr) (comp : Nat) (s : State) :
    exec (.compartmentServiceReset h comp) s = execCompartmentServiceReset h comp s := rfl
theorem exec_compartmentServiceRejoin (h : Hdr) (comp : Nat) (s : State) :
    exec (.compartmentServiceRejoin h comp) s = execCompartmentServiceRejoin h comp s := rfl
theorem exec_compartmentFence (n : Fin 4) (s : State) : exec (.compartmentFence n) s = execCompartmentFence n s := rfl
theorem exec_crst (n : Fin 4) (s : State) : exec (.crst n) s = execCrst n s := rfl
theorem exec_crstComplete (n : Fin 4) (s : State) : exec (.crstComplete n) s = execCrstComplete n s := rfl
theorem exec_rejoin (n : Fin 4) (s : State) : exec (.rejoin n) s = execRejoin n s := rfl

/-! ## The commands (R280) -/

/-- A fence asked for by command, from the frame of its admission. -/
def State.fenceAsked (s : State) (h : Hdr) (comp : Nat) : State :=
  (s.entered h).modSvc comp (fun v => { v with
    fenceAt := match v.fenceAt with
      | some (f, l) => some (f, l ++ [(s.entered h).ownerOf h])
      | none => some (s.loop.frames, [(s.entered h).ownerOf h]) })

/-- A reset asked for by command. -/
def State.resetAsked (s : State) (h : Hdr) (comp : Nat) : State :=
  (s.entered h).modSvc comp (fun v => { v with reset := some ((s.entered h).ownerOf h) })

/-- A rejoin asked for by command, its pass started. -/
def State.rejoinAsked (s : State) (h : Hdr) (comp : Nat) : State :=
  ((((s.entered h).modSvc comp (fun v => { v with rejoin := some ((s.entered h).ownerOf h), passed := false })).modCpt comp
    (fun c => { c with pass := true, passFrom := s.loop.frames })).wrBit .glb_cpt_svc_rejoining comp true).effect
      ((s.entered h).ownerOf h)

section Commands

variable {h : Hdr} {comp : Nat} {s : State} (hc : comp ≤ 3) (hm : h.mbx = 0)
include hc hm

theorem svcChecks_pass : ∀ p ∈ svcChecks h comp, p.1 = false := by
  simp [svcChecks, hm]
  omega

theorem execCompartmentServiceFence_asks (hf : s.fenced comp = false) :
    execCompartmentServiceFence h comp s = .next (s.fenceAsked h comp) := by
  unfold execCompartmentServiceFence
  rw [State.checked_pass _ _ _ _ (List.forall_mem_append.mpr ⟨svcChecks_pass hc hm, by simp [hf]⟩)]
  rfl

section Fenced

variable (hf : s.fenced comp = true) (hb : s.svcBusy comp = false)
include hf hb

theorem svcStart_pass : ∀ p ∈ svcChecks h comp ++ [(!s.fenced comp, Status.notPermitted), (s.svcBusy comp, .busy)], p.1 = false :=
  List.forall_mem_append.mpr ⟨svcChecks_pass hc hm, by simp [hf, hb]⟩

theorem execCompartmentServiceReset_asks : execCompartmentServiceReset h comp s = .next (s.resetAsked h comp) := by
  unfold execCompartmentServiceReset
  rw [State.checked_pass _ _ _ _ (svcStart_pass hc hm hf hb)]
  rfl

theorem execCompartmentServiceRejoin_asks : execCompartmentServiceRejoin h comp s = .next (s.rejoinAsked h comp) := by
  unfold execCompartmentServiceRejoin
  rw [State.checked_pass _ _ _ _ (svcStart_pass hc hm hf hb)]
  rfl

end Fenced

end Commands

theorem State.fenceAsked_leaves {s : State} {h : Hdr} {comp : Nat} (hm : h.mbx = 0) (hn : (s.svc comp).fenceAt = none) :
    ((s.fenceAsked h comp).svc comp).fenceAt = some (s.loop.frames, [⟨0, ((s.entered h).ownerOf h).id⟩]) := by
  have hsvc : ((s.entered h).svc comp).fenceAt = none := by rw [State.svc, State.entered_stand]; exact hn
  rw [State.fenceAsked, State.modSvc_svc_same, ← s.entered_ownerOf_mb0 hm]
  simp only [hsvc]

theorem State.resetAsked_leaves (s : State) {h : Hdr} (comp : Nat) (hm : h.mbx = 0) :
    ((s.resetAsked h comp).svc comp).reset = some ⟨0, ((s.entered h).ownerOf h).id⟩ := by
  rw [State.resetAsked, State.modSvc_svc_same, ← s.entered_ownerOf_mb0 hm]

theorem State.rejoinAsked_leaves (s : State) {h : Hdr} (comp : Nat) (hm : h.mbx = 0) :
    ((s.rejoinAsked h comp).svc comp).rejoin = some ⟨0, ((s.entered h).ownerOf h).id⟩ ∧
    ((s.rejoinAsked h comp).cpt comp).pass = true ∧ (s.rejoinAsked h comp).rd .glb_cpt_svc_rejoining comp = 1 := by
  refine ⟨?_, congrArg Cpt.pass (State.modCpt_cpt_same _ comp _), (State.effect_rd _ _ (by decide)).trans (State.rd_wrBit_same _ _ _ _)⟩
  refine (congrArg Svc.rejoin (State.modSvc_svc_same (s.entered h) comp _)).trans ?_
  rw [← s.entered_ownerOf_mb0 hm]

/-! ## The registers of the service -/

/-- What shows the service of a compartment, and the Stands' states and matches. -/
def serviceFields : List Fid := [.glb_cpt_svc_fenced, .glb_cpt_svc_by_fault, .glb_cpt_svc_fence_cnt, .glb_cpt_svc_in_crst,
  .glb_cpt_svc_crst_cnt, .glb_cpt_svc_rejoining, .stx_sync_sync_cnt, .stx_stand_status_state, .glb_baton_status_holder]

/-- The mask of everything but those fields. -/
def besideService : Nat := fullMask - maskOf (serviceFields.map fun f => 17 + f.ctorIdx)

theorem Evolves.serviceKept {s t : State} (h : Evolves besideService s t) {f : Fid} (hf : f ∈ serviceFields) (i : Nat) :
    t.rd f i = s.rd f i := by
  refine h.rd f i ?_
  simp only [serviceFields, List.mem_cons, List.not_mem_nil, or_false] at hf
  rcases hf with rfl | rfl | rfl | rfl | rfl | rfl | rfl | rfl | rfl <;> decide

/-! ## Fencing (R191, R281, R441) -/

/-- The fence shown and counted; the next fault of the compartment raises INT again. -/
def State.fenceMarked (s : State) (n : Nat) (byFault : Bool) : State :=
  let s1 := ((s.wrBit .glb_cpt_svc_fenced n true).wrBit .glb_cpt_svc_by_fault n byFault).inc .glb_cpt_svc_fence_cnt n
  { s1 with flt := { s1.flt with quiet := s1.flt.quiet.filter (fun x => x != n) } }

/-- The elements of a compartment fenced. -/
def State.fenceElems (s : State) (n : Nat) : State := (s.cptHeld n).foldl (fun s e => s.fenceElem e) s

/-- What of a compartment's work ends with its fence. -/
def State.fenceWork (s : State) (n : Nat) : State :=
  let s5 := (s.openHeaters n).abandonWins n
  if s5.bit .cal_syscal_status_active n then
    (match (s5.cpt n).step with
     | some w => s5.finish w.owner { status := .fenced }
     | none => s5).abandonSys n
  else s5

theorem State.fence_eq (s : State) (n : Nat) (byFault : Bool) : s.fence n byFault =
    ((((s.fenceMarked n byFault).abandonSweeps (fun e => elemCpt e == n) true).fenceElems n).fenceWork n) := by
  unfold State.fenceElems State.cptHeld
  rw [List.filter_map]
  rfl

/-- A fenced element is in PARK or FENCED, and no other element changes. -/
theorem State.fenceElem_moves (s : State) (e : Nat) : ∃ v, (True → v = 0 ∨ v = 6) ∧ s.Moves e v (s.fenceElem e) := by
  have hdrop : s.Moves e (s.el e).state (s.dropMove e .fenced) := (State.Moves.refl e s).dropMove _
  have hcatch : s.Moves e (s.el e).state (match (s.el e).catchUp with
      | some (_, o) => (s.dropMove e .fenced).finishMove e o { status := .fenced }
      | none => s.dropMove e .fenced) := by
    split
    · exact hdrop.finishMove _ _
    · exact hdrop
  unfold State.fenceElem
  dsimp only
  split
  next h => exact ⟨_, fun _ => h, hdrop⟩
  next =>
    refine ⟨6, fun _ => .inr rfl, ?_⟩
    split
    · exact ((((hcatch.ite (hcatch.endRange _)).flush).setState 6).modEl).settled
    · exact (((hcatch.flush).setState 6).modEl).settled

/-! What ends with the fence leaves the elements. -/

theorem State.elems_of_evolves {s t : State} (h : Evolves (allBut 1) s t) : t.loop.elems = s.loop.elems := by rw [h.loop rfl]

theorem State.unwait_elems (s : State) (num m : Nat) : (s.unwait num m).loop.elems = s.loop.elems := by
  have hwrite (t : State) (h : Hdr) (a : Nat) (l : List Nat) : (t.hostWrite h a l).loop.elems = t.loop.elems :=
    State.elems_of_evolves (State.hostWrite_evolves _ _ _ (.refl t) rfl)
  have hclose (t : State) (c : PwCmd) : (t.closePw c).loop.elems = t.loop.elems := by
    unfold State.closePw
    split
    · rfl
    · split
      · dsimp only
        split
        · rfl
        · exact hwrite _ _ _ _
      · rfl
  unfold State.unwait
  dsimp only
  split
  · exact hclose _ _
  · rfl

theorem State.deliverRec_elems (s : State) (m : Nat) (cmds rec : List Nat) (fenced : Bool) :
    (s.deliverRec m cmds rec fenced).loop.elems = s.loop.elems := by
  have htel (t : State) : (t.telRoundOf (some (t.mon m).mbx) 4 0 [(m, rec)]).loop.elems = t.loop.elems :=
    State.elems_of_evolves (State.telRoundOf_evolves _ _ _ _ (.refl t) rfl)
  have hto (t : State) (num : Nat) : (t.deliverTo m num rec fenced).loop.elems = t.loop.elems := by
    unfold State.deliverTo
    split
    · exact htel t
    · refine (State.unwait_elems _ num m).trans ?_
      dsimp only [State.modPw]
      split
      · exact State.elems_of_evolves (State.telRoundOf_evolves _ _ _ _ (.refl t) rfl)
      · split
        · exact State.elems_of_evolves (State.hostWrite_evolves _ _ _ (.refl t) rfl)
        · rfl
  unfold State.deliverRec
  split
  · exact htel s
  · exact foldl_view (·.loop.elems) hto cmds s

theorem State.abandonWin_elems (s : State) (m : Nat) (fenced : Bool) : (s.abandonWin m fenced).loop.elems = s.loop.elems := by
  have hdrop (cmds : List Nat) (t : State) : (cmds.foldl (fun s num =>
      (s.modPw num (fun d => { d with fenced := d.fenced || fenced })).unwait num m) t).loop.elems = t.loop.elems :=
    foldl_view (·.loop.elems) (fun t num => (State.unwait_elems (t.modPw num _) num m).trans rfl) cmds t
  have hshow (t : State) : (t.showWin m).loop.elems = t.loop.elems :=
    State.elems_of_evolves (State.showWin_evolves m (.refl t) rfl)
  unfold State.abandonWin
  dsimp only
  generalize hu : State.showWin _ m = u
  have hclosed : u.loop.elems = s.loop.elems := by
    rw [← hu, hshow]
    rfl
  refine (hdrop _ _).trans ((hdrop _ _).trans ?_)
  split
  · split
    · exact (State.deliverRec_elems u.useFree m _ _ fenced).trans hclosed
    · exact (hdrop _ u).trans hclosed
  · exact hclosed

theorem State.abandonSys_elems (s : State) (n : Nat) : (s.abandonSys n).loop.elems = s.loop.elems := by
  have hresume (t : State) : (t.resumeRotation n).loop.elems = t.loop.elems := by
    unfold State.resumeRotation
    refine foldl_view (·.loop.elems) (fun t g => ?_) (grpsOf n) t
    split
    · rw [State.wrBit, State.wr_loop]
      rfl
    · rfl
  have hended (t : State) : ((grpsOf n).foldl (fun s g => s.modGrp g (fun x => { x with
      zero := [], points := [none, none, none, none]
      system := (({ x.system.getD 0 {} with result := 5, attempt := s.datum.t } : CalRec) :: x.system).take 16 })) t).loop.elems =
      t.loop.elems := by
    refine foldl_view (·.loop.elems) (fun t g => ?_) (grpsOf n) t
    rfl
  unfold State.abandonSys
  dsimp only
  generalize hu : State.modCpt _ n _ = u
  have hstopped : u.loop.elems = s.loop.elems := by
    rw [← hu]
    rfl
  split
  · exact (hresume _).trans ((hended u).trans hstopped)
  · exact (hended u).trans hstopped

theorem State.fenceWork_elems (s : State) (n : Nat) (e : Nat) : (s.fenceWork n).el e = s.el e := by
  have hopen (k : Nat) : (s.openHeaters n).el k = s.el k := foldl_view (fun t => t.el k) (fun t h => t.setHiz_el h true k) _ s
  have hwins : ((s.openHeaters n).abandonWins n).loop.elems = (s.openHeaters n).loop.elems :=
    foldl_view (·.loop.elems) (fun t m => t.abandonWin_elems m true) _ _
  have helems : (s.fenceWork n).loop.elems = (s.openHeaters n).loop.elems := by
    unfold State.fenceWork
    dsimp only
    split
    · refine (State.abandonSys_elems _ n).trans ?_
      split
      · exact hwins
      · exact hwins
    · exact hwins
  rw [← hopen e, State.el, helems, State.el]

/-- Every element of a compartment that is gone through is in PARK or FENCED. -/
theorem State.fenceElems_fences (s : State) {n e : Nat} (hn : elemCpt e = n) :
    ((s.fenceElems n).el e).state = 0 ∨ ((s.fenceElems n).el e).state = 6 := by
  obtain ⟨hout, hin⟩ := State.foldl_moves (p := fun v => v = 0 ∨ v = 6) (q := fun _ => True) (fun _ _ => trivial)
    (fun t k => t.fenceElem_moves k) e (s.cptHeld n) s
  by_cases he : e ∈ s.cptHeld n
  · exact hin he trivial
  · refine .inl ?_
    rw [State.fenceElems, hout he]
    exact Classical.not_not.mp fun h => he (State.mem_cptHeld hn h)

theorem State.fence_fences (s : State) (b : Bool) {n e : Nat} (hn : elemCpt e = n) :
    ((s.fence n b).el e).state = 0 ∨ ((s.fence n b).el e).state = 6 := by
  rw [State.fence_eq, State.fenceWork_elems]
  exact State.fenceElems_fences _ hn

theorem State.fence_evolves_marked (s : State) (n : Nat) (b : Bool) : Evolves besideService (s.fenceMarked n b) (s.fence n b) := by
  have helems : Evolves besideService (s.fenceMarked n b)
      (((s.fenceMarked n b).abandonSweeps (fun e => elemCpt e == n) true).fenceElems n) :=
    .foldl _ (State.abandonSweeps_evolves _ _ (.refl _) rfl) fun _ _ k => State.fenceElem_evolves _ k rfl
  have hwins := State.abandonWins_evolves n (State.openHeaters_evolves n helems rfl) rfl
  rw [State.fence_eq]
  unfold State.fenceWork
  dsimp only
  split
  · refine State.abandonSys_evolves _ ?_ rfl
    split
    · exact State.finish_evolves _ _ hwins rfl
    · exact hwins
  · exact hwins

/-- What a fence shows. -/
theorem State.fence_rd (s : State) (n : Nat) (b : Bool) : (s.fence n b).rd .glb_cpt_svc_fenced n = 1 ∧
    (s.fence n b).rd .glb_cpt_svc_by_fault n = bit01 b ∧
    (s.fence n b).rd .glb_cpt_svc_fence_cnt n = (s.rd .glb_cpt_svc_fence_cnt n + 1) % 2 ^ Fid.glb_cpt_svc_fence_cnt.width := by
  have hrd {f : Fid} (hf : f ∈ serviceFields) : (s.fence n b).rd f n = (s.fenceMarked n b).rd f n :=
    (s.fence_evolves_marked n b).serviceKept hf n
  have hmark (f : Fid) (i : Nat) : (s.fenceMarked n b).rd f i = (((s.wrBit .glb_cpt_svc_fenced n true).wrBit
    .glb_cpt_svc_by_fault n b).inc .glb_cpt_svc_fence_cnt n).rd f i := rfl
  refine ⟨?_, ?_, ?_⟩ <;> rw [hrd (by decide), hmark, State.rd_inc]
  · simp [State.rd_wrBit, bit01]
  · simp [State.rd_wrBit]
  · simp [State.rd_wrBit]

/-! ## The fencing moment -/

theorem State.fenceDone_kept (s : State) (n : Nat) {f : Fid} (hf : f ≠ .mbx_status_inflight) (i : Nat) :
    (s.fenceDone n).rd f i = s.rd f i := by
  unfold State.fenceDone
  split
  · exact foldl_view (fun t => t.rd f i) (fun t o => State.finishOpt_rd t (some o) _ hf) _ _
  · rfl

theorem State.fenceDone_el (s : State) (n e : Nat) : (s.fenceDone n).el e = s.el e :=
  State.el_of_loop ((State.fenceDone_evolves (M := allBut 1) n (.refl s) rfl).loop rfl) e

/-- A compartment fenced, the commands that wait for it completed. -/
def State.Fences (n : Nat) (b : Bool) (s t : State) : Prop :=
  t.rd .glb_cpt_svc_fenced n = 1 ∧ t.rd .glb_cpt_svc_by_fault n = bit01 b ∧
    t.rd .glb_cpt_svc_fence_cnt n = (s.rd .glb_cpt_svc_fence_cnt n + 1) % 2 ^ Fid.glb_cpt_svc_fence_cnt.width ∧
    ∀ e, elemCpt e = n → (t.el e).state = 0 ∨ (t.el e).state = 6

theorem State.fenceDone_fences (s : State) (n : Nat) (b : Bool) : s.Fences n b ((s.fence n b).fenceDone n) := by
  obtain ⟨hfenced, hfault, hcount⟩ := s.fence_rd n b
  have hrd {f : Fid} (hf : f ≠ .mbx_status_inflight) := (s.fence n b).fenceDone_kept n hf n
  refine ⟨(hrd (by decide)).trans hfenced, (hrd (by decide)).trans hfault, (hrd (by decide)).trans hcount, fun e he => ?_⟩
  rw [State.fenceDone_el]
  exact s.fence_fences b he

/-- A fault's fence that is pending no more. -/
def State.fenceDue (s : State) (n : Nat) : State :=
  { s with flt := { s.flt with fencePending := s.flt.fencePending.filter (fun x => x != n) } }

section FenceEvent

variable {n : Fin 4} {s : State}

theorem execCompartmentFence_byFault (hn : s.fenced n = false) (hp : n.val ∈ s.flt.fencePending) :
    execCompartmentFence n s = .next (((s.fenceDue n).fence n true).fenceDone n) := by
  unfold execCompartmentFence
  rw [if_pos (by simpa using hp), if_neg (ne_true_of_eq_false hn)]
  rfl

theorem execCompartmentFence_byCommand (hp : n.val ∉ s.flt.fencePending) {f : Nat} {l : List Owner}
    (ha : (s.svc n).fenceAt = some (f, l)) (hb : s.nextBoundary n f = true) :
    execCompartmentFence n s = .next ((s.fence n false).fenceDone n) := by
  unfold execCompartmentFence
  rw [if_neg (by simpa using hp), ha]
  dsimp only
  rw [if_pos hb]

theorem execCompartmentFence_fences (hn : s.fenced n = false) (h : n.val ∈ s.flt.fencePending ∨
    (n.val ∉ s.flt.fencePending ∧ ∃ f l, (s.svc n).fenceAt = some (f, l) ∧ s.nextBoundary n f = true)) :
    ∃ t, execCompartmentFence n s = .next t ∧ s.Fences n (decide (n.val ∈ s.flt.fencePending)) t := by
  rcases h with hp | ⟨hp, f, l, ha, hb⟩
  · rw [decide_eq_true hp]
    exact ⟨_, execCompartmentFence_byFault hn hp, (s.fenceDue n).fenceDone_fences n true⟩
  · rw [decide_eq_false hp]
    exact ⟨_, execCompartmentFence_byCommand hp ha hb, s.fenceDone_fences n false⟩

end FenceEvent

end Sys2Proof.Machine

/-! PROOFS. Compartment service, second part (O23, R282, R283): CRST and its end, and the rejoin. -/

namespace Sys2Proof.Machine

set_option exponentiation.threshold 2048

/-! ## CRST (R282) -/

/-- Entries set afresh leave every other entry. -/
theorem Tbl.foldl_set_ne {α : Type} [DecidableEq α] (d : α) (g : α → α) (l t : Tbl α) {k : Nat} (h : ∀ p ∈ l, k ≠ p.1) :
    Tbl.get d (l.foldl (fun t p => Tbl.set d t p.1 (g p.2)) t) k = Tbl.get d t k :=
  List.foldlRecOn l _ (motive := fun u => Tbl.get d u k = Tbl.get d t k) rfl
    fun _ hu p hp => (Tbl.get_set_ne d _ _ (h p hp)).trans hu

/-- The Understory registers of a compartment restored, and its loop state. -/
def State.crstRestored (s : State) (n : Nat) : State :=
  (s.resetRegs (crstField n)).modLoop (fun l => { l with
    tripped := l.tripped.filter (fun g => g / 48 != n)
    shown := l.shown.filter (fun p => elemCpt p.1 != n)
    elems := (l.elems.filter (fun p => elemCpt p.1 == n)).foldl (fun t p => Tbl.set {} t p.1 p.2.crst) l.elems
    mons := (l.mons.filter (fun p => monCpt p.1 == n)).foldl (fun t p => Tbl.set {} t p.1 {}) l.mons
    hch := l.hch.filter (fun p => elemCpt p.1 != n) })

/-- The reset shown and counted, with the profiles and monitor settings that flash and the map hold. -/
def State.crstLoaded (s : State) (n : Nat) : State :=
  (((((s.crstRestored n).wrBit .glb_cpt_svc_in_crst n true).inc .glb_cpt_svc_crst_cnt n).loadProfs n).loadMons n).modCpt n
    (fun c => { c with resumeAt := none })

/-- CRST of a compartment: its channels that were held off go to their clear codes. -/
def State.crstDone (s : State) (n : Nat) : State :=
  ((s.crstFreed n).foldl (fun s e => (s.awaitCommit e).wr .ust_vdac_status_code e 0) (s.crstLoaded n)).showCleared n

theorem execCrst_resets {n : Fin 4} {o : Owner} {s : State} (hd : s.flt.drstPending = false) (hr : (s.svc n).reset = some o)
    (hc : s.rd .glb_cpt_svc_in_crst n = 0) (hrc : ∀ p ∈ s.loop.elems, elemCpt p.1 = n → p.2.rchg = none) :
    execCrst n s = .next (s.crstDone n) := by
  have hbit : s.bit .glb_cpt_svc_in_crst n = false := State.bit_eq_false.mpr hc
  have hno : (s.loop.elems.any (fun p => elemCpt p.1 == n.val &&
      (match p.2.rchg with | some r => r.started | none => false))) = false := by
    rw [List.any_eq_false]
    intro p hp
    by_cases he : elemCpt p.1 = n
    · simp [hrc p hp he]
    · simp [he]
  have hgo : ¬ (s.flt.drstPending = true ∨ (s.svc n).reset = none ∨ s.bit .glb_cpt_svc_in_crst n = true ∨
      (s.loop.elems.any (fun p => elemCpt p.1 == n.val &&
        (match p.2.rchg with | some r => r.started | none => false))) = true) := by
    rw [hd, hr, hbit, hno]
    simp
  unfold execCrst
  exact congrArg Host.Outcome.next (if_neg hgo)

/-! What it shows. -/

theorem State.crstRestored_rd (s : State) (n k : Nat) {f : Fid} (hf : ∀ i, ustCpt f i = none) : (s.crstRestored n).rd f k = s.rd f k := by
  have hreset : (s.crstRestored n).rd f k = (s.resetRegs (crstField n)).rd f k := rfl
  rw [hreset, State.rd_resetRegs, if_neg (by simp [crstField, hf])]

theorem State.crstDone_evolves (s : State) (n : Nat) : Evolves besideService
    (((s.crstRestored n).wrBit .glb_cpt_svc_in_crst n true).inc .glb_cpt_svc_crst_cnt n) (s.crstDone n) := by
  have hloaded : Evolves besideService (((s.crstRestored n).wrBit .glb_cpt_svc_in_crst n true).inc .glb_cpt_svc_crst_cnt n)
      (s.crstLoaded n) :=
    State.modCpt_evolves _ _ (State.loadMons_evolves _ (State.loadProfs_evolves _ (.refl _) rfl) rfl) rfl
  exact State.showCleared_evolves _ (.foldl _ hloaded fun _ _ k =>
    State.wr_evolves _ _ _ (State.awaitCommit_evolves _ k rfl) rfl) rfl

theorem State.crstDone_rd (s : State) (n : Nat) : (s.crstDone n).rd .glb_cpt_svc_in_crst n = 1 ∧
    (s.crstDone n).rd .glb_cpt_svc_crst_cnt n = (s.rd .glb_cpt_svc_crst_cnt n + 1) % 2 ^ Fid.glb_cpt_svc_crst_cnt.width := by
  have hrd {f : Fid} (hf : f ∈ serviceFields) := (s.crstDone_evolves n).serviceKept hf n
  refine ⟨?_, ?_⟩ <;> rw [hrd (by decide), State.rd_inc]
  · simp [State.rd_wrBit, bit01]
  · simp [State.rd_wrBit, s.crstRestored_rd n n (f := .glb_cpt_svc_crst_cnt) fun _ => rfl]

/-! What it leaves of other compartments. -/

theorem State.disarm_loop (s : State) (m : Nat) : (s.disarm m).loop = { s.loop with mons := (s.disarm m).loop.mons } := by
  unfold State.disarm
  dsimp only
  split <;> split <;> rfl

theorem State.disarm_mons_ne (s : State) {m k : Nat} (h : k ≠ m) :
    Tbl.get {} (s.disarm m).loop.mons k = Tbl.get {} s.loop.mons k := by
  unfold State.disarm
  dsimp only
  rw [Tbl.get_modify_ne _ _ _ h]
  split <;> split <;> rfl

/-- Elements and monitors of other compartments than `n` are as they were. -/
structure State.CptOnly (n : Nat) (s t : State) : Prop where
  el : ∀ e, elemCpt e ≠ n → t.el e = s.el e
  mon : ∀ m, monCpt m ≠ n → Tbl.get {} t.loop.mons m = Tbl.get {} s.loop.mons m

theorem State.CptOnly.trans {n : Nat} {s t u : State} (h : s.CptOnly n t) (k : t.CptOnly n u) : s.CptOnly n u :=
  ⟨fun e he => (k.el e he).trans (h.el e he), fun m hm => (k.mon m hm).trans (h.mon m hm)⟩

theorem State.CptOnly.of_parts {n : Nat} {s t : State} (he : t.loop.elems = s.loop.elems) (hm : t.loop.mons = s.loop.mons) :
    s.CptOnly n t :=
  ⟨fun e _ => by rw [State.el, he, State.el], fun m _ => by rw [hm]⟩

theorem State.CptOnly.of_evolves {n : Nat} {s t : State} (h : Evolves (allBut 1) s t) : s.CptOnly n t :=
  .of_parts (by rw [h.loop rfl]) (by rw [h.loop rfl])

theorem State.CptOnly.wr {n : Nat} {s t : State} (h : s.CptOnly n t) (f : Fid) (i v : Nat) : s.CptOnly n (t.wr f i v) :=
  h.trans (.of_parts rfl rfl)

theorem State.CptOnly.modCpt {n : Nat} {s t : State} (h : s.CptOnly n t) (k : Nat) (g : Cpt → Cpt) : s.CptOnly n (t.modCpt k g) :=
  h.trans (.of_parts rfl rfl)

theorem State.crstRestored_only (s : State) (n : Nat) : s.CptOnly n (s.crstRestored n) := by
  have hkey {α : Type} {c : Nat → Nat} {t : Tbl α} {k : Nat} (hk : c k ≠ n) : ∀ p ∈ t.filter (fun p => c p.1 == n), k ≠ p.1 := by
    intro p hp he
    exact hk (he ▸ by simpa using (List.mem_filter.mp hp).2)
  exact ⟨fun e he => Tbl.foldl_set_ne ({} : Elem) Elem.crst (s.loop.elems.filter (fun p => elemCpt p.1 == n)) s.loop.elems (hkey he),
    fun m hm => Tbl.foldl_set_ne ({} : Mon) (fun _ => {}) (s.loop.mons.filter (fun p => monCpt p.1 == n)) s.loop.mons (hkey hm)⟩

theorem State.loadMons_only (s : State) (n : Nat) : s.CptOnly n (s.loadMons n) := by
  unfold State.loadMons
  dsimp only
  refine List.foldlRecOn _ _ (motive := s.CptOnly n) ?_ fun t ht m hm => ht.trans ⟨fun e _ => ?_, fun k hk => ?_⟩
  · split
    · exact List.foldlRecOn _ _ (motive := s.CptOnly n) (.of_parts rfl rfl) fun t ht x _ => (ht.wr _ x _).wr _ x _
    · exact .of_parts rfl rfl
  · rw [State.el, State.disarm_loop, State.el]
  · have hmn : monCpt m = n := by simpa using (List.mem_filter.mp hm).2
    exact t.disarm_mons_ne fun e => hk (e ▸ hmn)

theorem State.crstLoaded_only (s : State) (n : Nat) : s.CptOnly n (s.crstLoaded n) := by
  have hshown : s.CptOnly n (((s.crstRestored n).wrBit .glb_cpt_svc_in_crst n true).inc .glb_cpt_svc_crst_cnt n) :=
    ((s.crstRestored_only n).wr _ _ _).wr _ _ _
  exact ((hshown.trans (.of_evolves (State.loadProfs_evolves n (.refl _) rfl))).trans (State.loadMons_only _ n)).modCpt n _

theorem elemCpt_of_mem_span {n e : Nat} (hn : n < 4) (h : e ∈ span (2304 * n) 2304) : elemCpt e = n := by
  obtain ⟨hlo, hhi⟩ := mem_span.mp h
  unfold elemCpt
  split <;> omega

theorem State.crstDone_only (s : State) {n : Nat} (hn : n < 4) : s.CptOnly n (s.crstDone n) := by
  have hfreed : (s.crstLoaded n).HeatersOnly (span (2304 * n) 2304)
      ((s.crstFreed n).foldl (fun s e => (s.awaitCommit e).wr .ust_vdac_status_code e 0) (s.crstLoaded n)) :=
    List.foldlRecOn _ _ (motive := (s.crstLoaded n).HeatersOnly (span (2304 * n) 2304)) (.refl _ _) fun t ht e he => by
      have hmem := (List.mem_filter.mp he).1
      exact ((ht.modEl hmem _).toClear hmem).wr (by decide) e 0
  refine ((s.crstLoaded_only n).trans ⟨fun e he => ?_, fun m _ => ?_⟩).trans (.of_evolves (State.showCleared_evolves n (.refl _) rfl))
  · exact hfreed.el e fun k => he (elemCpt_of_mem_span hn k)
  · rw [hfreed.loop]

/-! ## The end of CRST -/

/-- A reset that ends and the command that asked for it, complete. -/
def State.crstEnded (s : State) (n : Nat) : State :=
  ((s.wrBit .glb_cpt_svc_in_crst n false).modSvc n (fun v => { v with reset := none })).finishOpt (s.svc n).reset { status := .ok }

theorem execCrstComplete_ends {n : Fin 4} {s : State} (hc : s.rd .glb_cpt_svc_in_crst n ≠ 0) :
    execCrstComplete n s = .next (s.crstEnded n) := by
  unfold execCrstComplete
  rw [if_neg (by simp [State.bit_eq_true.mpr hc])]
  rfl

theorem State.crstEnded_leaves {s : State} {n : Nat} {o : Owner} (hr : (s.svc n).reset = some o) :
    (s.crstEnded n).rd .glb_cpt_svc_in_crst n = 0 ∧ ((s.crstEnded n).svc n).reset = none ∧
    s.Concludes (s.crstEnded n) o { status := .ok } := by
  refine ⟨?_, ?_, ((State.finishOpt_concludes _ _ hr).of_mbx rfl)⟩
  · rw [State.crstEnded, State.finishOpt_rd _ _ _ (by decide)]
    exact State.rd_wrBit_same s .glb_cpt_svc_in_crst n false
  · rw [State.crstEnded, State.svc, (State.finishOpt_evolves (M := allBut 3) _ _ (.refl _) rfl).stand rfl]
    exact congrArg Svc.reset (State.modSvc_svc_same _ n _)

end Sys2Proof.Machine

/-! PROOFS. The rejoin of a compartment (O23, R102, R156, R162, R269, R283), and with it the statement of its service. -/

namespace Sys2Proof.Machine

set_option exponentiation.threshold 2048

/-! ## Elements at a rejoin (R283) -/

theorem State.rejoinV_moves (s : State) (e : Nat) : ∃ v, v ≠ 6 ∧ s.Moves e v (s.rejoinV e) := by
  have h := State.Moves.refl e s
  unfold State.rejoinV
  dsimp only
  split
  next hfrom =>
    split
    · exact ⟨3, by decide, h.startJump _ _ _ _ _ _⟩
    · exact ⟨(s.el e).fencedFrom, by omega, h.setState _⟩
  · split
    · exact ⟨0, by decide, h.park⟩
    · split
      · split
        · exact ⟨1, by decide, (h.enterSettle _).modEl⟩
        · split
          · exact ⟨3, by decide, h.startJump _ _ _ _ _ _⟩
          · exact ⟨3, by decide, h.startJump _ _ _ _ _ _⟩
      · exact ⟨1, by decide, h.modEl.enterSettle _⟩

theorem State.rejoinH_moves (s : State) (e : Nat) : ∃ v, v ≠ 6 ∧ s.Moves e v (s.rejoinH e) := by
  have h := State.Moves.refl e s
  unfold State.rejoinH
  dsimp only
  split
  · exact ⟨4, by decide, (h.setState 4).setDuty _⟩
  · split
    · exact ⟨5, by decide, (h.setState 5).ite ((h.setState 5).setDuty _)⟩
    · split
      · exact ⟨0, by decide, h.park⟩
      · exact ⟨1, by decide, (h.modEl.enterSettle _).setDuty _⟩

/-- A rejoined element has left FENCED, and no other element changes. -/
theorem State.rejoinElem_moves (s : State) (e : Nat) : ∃ v, (True → v ≠ 6) ∧ s.Moves e v (s.rejoinElem e) := by
  unfold State.rejoinElem
  split
  next h => exact ⟨_, fun _ => h, .refl e s⟩
  next =>
    split
    · obtain ⟨v, hv, hm⟩ := s.rejoinV_moves e
      exact ⟨v, fun _ => hv, hm⟩
    · obtain ⟨v, hv, hm⟩ := s.rejoinH_moves e
      exact ⟨v, fun _ => hv, hm.setHiz _⟩

/-! ## The rejoin (R269, R283) -/

/-- The fence shown no more, and the shadow's matches of the compartment at 0. -/
def State.rejoinMarked (s : State) (n : Nat) : State :=
  (((s.wrBit .glb_cpt_svc_fenced n false).wrBit .glb_cpt_svc_by_fault n false).wrBit .glb_cpt_svc_rejoining n false).wr
    .stx_sync_sync_cnt (standKey s.shadow n) 0

/-- The elements of the compartment rejoined, the heaters' power and the loops' registers shown anew. -/
def State.rejoinElems (s : State) (n : Nat) : State :=
  (((s.cptHeld n).foldl (fun s e => s.rejoinElem e) (s.rejoinMarked n)).powerCap).resnapCpt n

/-- The shadow matches anew where it was ELIGIBLE. -/
def State.rejoinMatched (s : State) (n : Nat) : State :=
  if (s.rejoinElems n).eligible then (s.rejoinElems n).setStand (s.rejoinElems n).shadow 1 else s.rejoinElems n

/-- A compartment rejoined, and the command that asked for it complete. -/
def State.rejoined (s : State) (n : Nat) : State :=
  (((s.rejoinMatched n).modSvc n (fun v => { v with rejoin := none, passed := false })).showCleared n).finishOpt (s.svc n).rejoin
    { status := .ok }

theorem execRejoin_rejoins {n : Fin 4} {o : Owner} {s : State} (hr : (s.svc n).rejoin = some o) (hp : (s.svc n).passed = true)
    (hb : s.atBoundary n = true) (hw : s.writesReach = true) : execRejoin n s = .next (s.rejoined n) := by
  unfold execRejoin
  rw [if_neg (by simp [hr, hp, hb, hw])]
  rfl

theorem State.rejoinMarked_rd (s : State) (n : Nat) : (s.rejoinMarked n).rd .glb_cpt_svc_fenced n = 0 ∧
    (s.rejoinMarked n).rd .glb_cpt_svc_by_fault n = 0 ∧ (s.rejoinMarked n).rd .glb_cpt_svc_rejoining n = 0 ∧
    (s.rejoinMarked n).rd .stx_sync_sync_cnt (standKey s.shadow n) = 0 := by
  refine ⟨?_, ?_, ?_, ?_⟩ <;> simp [State.rejoinMarked, State.rd_wr, State.rd_wrBit, bit01]

theorem State.rejoinElems_evolves (s : State) (n : Nat) : Evolves besideService (s.rejoinMarked n) (s.rejoinElems n) :=
  State.resnapCpt_evolves _ (State.powerCap_evolves (.foldl _ (.refl _) fun _ _ k => State.rejoinElem_evolves _ k rfl) rfl) rfl

/-- The match made anew changes no field of the service but the shadow's state. -/
theorem State.rejoinMatched_rd (s : State) (n : Nat) {f : Fid} (hf : f ∈ serviceFields) (hs : f ≠ .stx_stand_status_state) (i : Nat) :
    (s.rejoinMatched n).rd f i = (s.rejoinMarked n).rd f i := by
  have helems := (s.rejoinElems_evolves n).serviceKept hf i
  unfold State.rejoinMatched
  split
  · rw [State.setStand_rd _ _ _ hs, helems]
  · exact helems

theorem State.rejoined_rd (s : State) (n : Nat) {f : Fid} (hf : f ∈ serviceFields) (i : Nat) :
    (s.rejoined n).rd f i = (s.rejoinMatched n).rd f i := by
  have hflight : f ≠ .mbx_status_inflight := fun h => absurd (h ▸ hf) (by decide)
  have hcleared : f ≠ .ust_vdac_ctrl_cleared := fun h => absurd (h ▸ hf) (by decide)
  rw [State.rejoined, State.finishOpt_rd _ _ _ hflight, State.showCleared, State.rd_wrBit_ne _ _ fun k => hcleared k.1]
  rfl

theorem State.rejoinMatched_shadow {s : State} (n : Nat) (he : s.eligible = true) : (s.rejoinMatched n).standState s.shadow = 1 := by
  have hkept {f : Fid} (hf : f ∈ serviceFields) (i : Nat) := (s.rejoinElems_evolves n).serviceKept hf i
  have hholder : (s.rejoinElems n).shadow = s.shadow := by
    rw [State.shadow, State.holder, hkept (by decide), State.shadow, State.holder]
    simp [State.rejoinMarked, State.rd_wr, State.rd_wrBit]
  have hstate : (s.rejoinElems n).standState s.shadow = s.standState s.shadow := by
    rw [State.standState, hkept (by decide), State.standState]
    simp [State.rejoinMarked, State.rd_wr, State.rd_wrBit]
  have helig : (s.rejoinElems n).eligible = true := by rw [State.eligible, hholder, hstate]; exact he
  rw [State.rejoinMatched, if_pos helig, hholder, State.setStand_standState _ _ (by decide), if_pos rfl]

theorem State.rejoinElems_el (s : State) (n e : Nat) : (s.rejoinElems n).el e =
    ((s.cptHeld n).foldl (fun s e => s.rejoinElem e) (s.rejoinMarked n)).el e :=
  (State.resnapCpt_el _ n e).trans (State.el_of_loop ((State.powerCap_evolves (M := allBut 1) (.refl _) rfl).loop rfl) e)

theorem State.rejoined_el (s : State) (n e : Nat) : (s.rejoined n).el e = (s.rejoinElems n).el e := by
  have hmatched : (s.rejoinMatched n).el e = (s.rejoinElems n).el e := by
    unfold State.rejoinMatched
    split
    · exact State.wr_el _ _ _ _ _
    · rfl
  rw [← hmatched]
  exact State.el_of_loop ((State.finishOpt_loop _ _ _).trans
    ((State.showCleared_evolves (M := allBut 1) n (.refl _) rfl).loop rfl)) e

/-- No element of a rejoined compartment is in FENCED. -/
theorem State.rejoined_leavesFenced (s : State) {n e : Nat} (hn : elemCpt e = n) : ((s.rejoined n).el e).state ≠ 6 := by
  obtain ⟨hout, hin⟩ := State.foldl_moves (p := (· ≠ 6)) (q := fun _ => True) (fun _ _ => trivial)
    (fun t k => t.rejoinElem_moves k) e (s.cptHeld n) (s.rejoinMarked n)
  rw [State.rejoined_el, State.rejoinElems_el]
  by_cases he : e ∈ s.cptHeld n
  · exact hin he trivial
  · have hpark : (s.el e).state = 0 := Classical.not_not.mp fun h => he (State.mem_cptHeld hn h)
    have hsame : ((s.rejoinMarked n).el e).state = (s.el e).state := rfl
    rw [hout he, hsame, hpark]
    decide

theorem State.rejoined_svc (s : State) (n : Nat) : ((s.rejoined n).svc n).rejoin = none := by
  rw [State.rejoined, State.svc, (State.finishOpt_evolves (M := allBut 3) _ _ (.refl _) rfl).stand rfl,
    (State.showCleared_evolves (M := allBut 3) _ (.refl _) rfl).stand rfl]
  exact congrArg Svc.rejoin (State.modSvc_svc_same _ n _)

/-- Settles O23: each command and event by its own rule above. -/
theorem compartmentServiceCompletes : Obligations.CompartmentServiceCompletes := by
  unfold Obligations.CompartmentServiceCompletes
  refine ⟨fun h comp s hc hm hf hn => ?fenceAsked, fun h comp s hc hm hf hb => ⟨?resetAsked, ?rejoinAsked⟩, fun n s hn hp => ?fenced,
    fun n o s hd hr hc hrc => ?crst, fun n o s hr hc => ?crstEnds, fun n o s hr hp hb hw => ?rejoins⟩
  case fenceAsked =>
    exact ⟨_, _, (exec_compartmentServiceFence h comp s).trans (execCompartmentServiceFence_asks hc hm hf),
      (s.entered_inFlight h).of_mbx rfl, State.fenceAsked_leaves hm hn⟩
  case resetAsked =>
    exact ⟨_, _, (exec_compartmentServiceReset h comp s).trans (execCompartmentServiceReset_asks hc hm hf hb),
      (s.entered_inFlight h).of_mbx rfl, s.resetAsked_leaves comp hm⟩
  case rejoinAsked =>
    exact ⟨_, _, (exec_compartmentServiceRejoin h comp s).trans (execCompartmentServiceRejoin_asks hc hm hf hb),
      ((s.entered_inFlight h).of_mbx rfl).effect _, s.rejoinAsked_leaves comp hm⟩
  case fenced =>
    obtain ⟨t, ht, hfences⟩ := execCompartmentFence_fences hn hp
    exact ⟨t, (exec_compartmentFence n s).trans ht, hfences⟩
  case crst =>
    obtain ⟨hin, hcount⟩ := s.crstDone_rd n
    have honly := s.crstDone_only n.isLt
    exact ⟨_, (exec_crst n s).trans (execCrst_resets hd hr hc hrc), hin, hcount, honly.el, honly.mon⟩
  case crstEnds => exact ⟨_, (exec_crstComplete n s).trans (execCrstComplete_ends hc), State.crstEnded_leaves hr⟩
  case rejoins =>
    obtain ⟨hfenced, hfault, hrejoining, hsync⟩ := s.rejoinMarked_rd n
    have hrd {f : Fid} (hf : f ∈ serviceFields) (hs : f ≠ .stx_stand_status_state) (i : Nat) :
        (s.rejoined n).rd f i = (s.rejoinMarked n).rd f i := (s.rejoined_rd n hf i).trans (s.rejoinMatched_rd n hf hs i)
    refine ⟨_, (exec_rejoin n s).trans (execRejoin_rejoins hr hp hb hw), (hrd (by decide) (by decide) _).trans hfenced,
      (hrd (by decide) (by decide) _).trans hfault, (hrd (by decide) (by decide) _).trans hrejoining, s.rejoined_svc n,
      (hrd (by decide) (by decide) _).trans hsync, fun he => ?_, fun e he => s.rejoined_leavesFenced he⟩
    rw [State.standState, s.rejoined_rd n (by decide), ← State.standState]
    exact State.rejoinMatched_shadow n he

end Sys2Proof.Machine

/-! PROOFS. The boot sequence, the fuses, JTAG and the resets that they and Forester's watchdog ask for (O45, R287, R434, R469 to
R475, R482). -/

namespace Sys2Proof.Machine

set_option exponentiation.threshold 2048

theorem exec_bootSequence (s : State) : exec .bootSequence s = execBootSequence s := rfl
theorem exec_glbResetWrite (key : Nat) (s : State) : exec (.glbResetWrite key) s = execGlbResetWrite key s := rfl
theorem exec_fuseProgWrite (code : Nat) (ok : Bool) (s : State) : exec (.fuseProgWrite code ok) s = execFuseProgWrite code ok s := rfl
theorem exec_jtagInstructionLoad (i : Fin 6) (s : State) :
    exec (.jtagInstructionLoad i) s = execJtagInstructionLoad i s := rfl
theorem exec_foresterWatchdog (s : State) : exec .foresterWatchdog s = execForesterWatchdog s := rfl

/-! ## The start (R470) -/

theorem State.started_of_evolves {s t : State} (h : Evolves (allBut 7) s t) : t.flt.started = s.flt.started := by rw [h.flt rfl]

/-- The fault collector and housekeeping started, Datum's time at 0, the measurement registers cleared. -/
def State.bootBegun (s : State) : State := { s with
  flt := { s.flt with started := true, dead := false, errTo := 0 }
  hkp := { s.hkp with started := true }
  datum := { s.datum with t := 0 }
  boot := { s.boot with mregs := [], step := 8, actStep := 0 } }

theorem State.bootStart_eq (s : State) : s.bootStart = (s.bootBegun.inc .boot_status_boots 0).driveErr := rfl

theorem State.driveErr_started (s : State) : s.driveErr.flt.started = s.flt.started := by
  unfold State.driveErr
  dsimp only
  split
  · rfl
  · split <;> rfl

/-- What the start leaves: the collector and housekeeping run, Datum's time is 0, and the boot is counted. -/
structure State.BootsFrom (s t : State) : Prop where
  collector : t.flt.started = true
  housekeeping : t.hkp.started = true
  time : t.datum.t = 0
  counted : t.rd .boot_status_boots 0 = (s.rd .boot_status_boots 0 + 1) % 2 ^ Fid.boot_status_boots.width

theorem State.bootStart_boots (s : State) : s.BootsFrom s.bootStart := by
  have herr : Evolves (frameMask [.flt_status_errn] [.flt, .out]) (s.bootBegun.inc .boot_status_boots 0) s.bootStart :=
    State.driveErr_evolves (.refl _) rfl
  refine ⟨?_, ?_, ?_, ?_⟩
  · rw [State.bootStart_eq, State.driveErr_started]
    rfl
  · rw [herr.hkp rfl]
    rfl
  · rw [herr.datum rfl]
    rfl
  · rw [herr.rd _ _ rfl, State.rd_inc, if_pos ⟨rfl, rfl⟩]
    rfl

/-- The mask of everything but housekeeping, Datum and the count of boots. -/
def besideBoots : Nat := fullMask - 2 ^ 8 - 2 ^ 11 - 2 ^ (17 + Fid.ctorIdx .boot_status_boots)

theorem State.BootsFrom.evolves {s t u : State} (h : s.BootsFrom t) (k : Evolves besideBoots t u)
    (hf : u.flt.started = t.flt.started) : s.BootsFrom u :=
  ⟨hf.trans h.collector, by rw [k.hkp rfl]; exact h.housekeeping, by rw [k.datum rfl]; exact h.time,
    (k.rd _ _ rfl).trans h.counted⟩

/-! ## The load of what flash and the map hold -/

theorem State.loadMap_started (s : State) (measured : Bool) : (s.loadMap measured).flt.started = s.flt.started := by
  have hshow (t : State) : t.showMap.flt.started = t.flt.started := State.started_of_evolves (State.showMap_evolves (.refl t) rfl)
  have hcheck (t : State) (r : Option (Nat × Nat × Nat)) : (t.showCheck r).flt.started = t.flt.started := by
    unfold State.showCheck
    split <;> rfl
  unfold State.loadMap
  dsimp only
  split
  · exact hshow _
  · split
    · rw [hshow, hcheck]
      split <;> rfl
    · rw [hshow]
      refine (hcheck _ _).trans ?_
      split <;> rfl

theorem State.loadMons_started (s : State) (n : Nat) : (s.loadMons n).flt.started = s.flt.started := by
  have hdisarm (t : State) (m : Nat) : (t.disarm m).flt.started = t.flt.started := by
    unfold State.disarm
    dsimp only
    split <;> split <;> rfl
  unfold State.loadMons
  refine (foldl_view (·.flt.started) hdisarm _ _).trans ?_
  split
  · refine (foldl_view (·.flt.started) (fun t x => ?_) _ _).trans ?_
    · rfl
    · rfl
  · rfl

theorem State.loadMapSettings_started (s : State) : s.loadMapSettings.flt.started = s.flt.started := by
  unfold State.loadMapSettings
  refine (foldl_view (·.flt.started) (fun t n => ?_) (List.range 4) s.loadRanges).trans ?_
  · exact t.loadMons_started n
  · exact State.started_of_evolves (State.loadRanges_evolves (.refl s) rfl)

/-- Profiles, the start-up slot and the map loaded. -/
def State.bootMapped (s : State) : State :=
  let s1 := (List.range 4).foldl (fun s n => s.loadProfs n) s
  ((s1.wr .trv_boot_slot 0 (s.trv.boot.getD 0)).wrBit .trv_boot_en 0 s.trv.boot.isSome).extendProfs

theorem State.bootLoad_eq (s : State) : s.bootLoad =
    ((((s.bootMapped.loadMap true).loadMapSettings.modTrv (fun t => { t with slots := t.flash })).modLoop
      (fun l => { l with cal := l.calFlash })).startForce).openLink := rfl

theorem State.bootLoad_started (s : State) : s.bootLoad.flt.started = s.flt.started := by
  have hmapped : s.bootMapped.flt.started = s.flt.started := by
    have hprofs : Evolves (allBut 7) s ((List.range 4).foldl (fun s n => s.loadProfs n) s) :=
      .foldl _ (.refl s) fun _ n k => State.loadProfs_evolves n k rfl
    exact Eq.trans (by rfl) (State.started_of_evolves hprofs)
  have hopened (t : State) : t.startForce.openLink.flt.started = t.flt.started :=
    State.started_of_evolves (State.openLink_evolves (State.startForce_evolves (.refl t) rfl) rfl)
  rw [State.bootLoad_eq, hopened, ← hmapped, ← s.bootMapped.loadMap_started true, State.modLoop_flt, State.modTrv_flt]
  exact State.loadMapSettings_started _

theorem State.bootOpen_admission (s : State) : s.bootOpen.host.admission = true := by
  unfold State.bootOpen
  refine (foldl_view (·.host.admission) (fun t n => ?_) (List.range 4) _).trans ?_
  · exact State.admission_of_evolves (State.showCleared_evolves n (State.modCpt_evolves n _ (.refl t) rfl) rfl)
  · rfl

/-! ## The whole sequence (R470, R472) -/

/-- Admission open, nothing else changed: where the sequence ends in RECOVERY. -/
def State.admissionOpened (s : State) : State := { s with host := { s.host with admission := true } }

theorem execBootSequence_boots {s : State} (h0 : s.boot.step = 0) (hc : s.boot.clkref = true) : execBootSequence s = .next
    (if s.bootStart.bootImage.bit .boot_status_recovery 0 then s.bootStart.bootImage.admissionOpened
      else s.bootStart.bootImage.bootLoad.bootOpen) := by
  unfold execBootSequence
  rw [if_neg (by simp [h0, hc])]
  rfl

theorem State.bootImage_boots (s : State) : s.BootsFrom s.bootStart.bootImage :=
  s.bootStart_boots.evolves (State.bootImage_evolves (.refl _) rfl)
    (State.started_of_evolves (State.bootImage_evolves (.refl _) rfl))

theorem State.bootOpened_boots (s : State) : s.BootsFrom s.bootStart.bootImage.bootLoad.bootOpen :=
  (s.bootImage_boots.evolves (State.bootLoad_evolves (.refl _) rfl) (State.bootLoad_started _)).evolves
    (State.bootOpen_evolves (.refl _) rfl) (State.started_of_evolves (State.bootOpen_evolves (.refl _) rfl))

/-! ## RECOVERY (R472) -/

/-- The bank that the ROM boots from depends on the banks and on the fuses alone. -/
theorem State.bootBank_congr {s t : State} (ha : t.boot.active = s.boot.active) (hi : t.boot.inactive = s.boot.inactive)
    (hf : ∀ f ∈ [Fid.boot_fuse_sig_enf, .boot_fuse_revoke, .boot_fuse_svn_fuse], t.rd f 0 = s.rd f 0) : t.bootBank = s.bootBank := by
  have haccepted : t.imgAccepted = s.imgAccepted := by
    funext b
    rw [State.imgAccepted, State.imgRejected, State.bit, hf _ (by decide), hf _ (by decide), hf _ (by decide)]
    rfl
  rw [State.bootBank, ha, hi, haccepted]
  rfl

/-- The fuses measured. -/
def State.fusesMeasured (s : State) : State := s.extend 5 (leBytes 4 s.fuseWord ++ leBytes 4 s.bootWord)

theorem State.bootImage_recovers {s : State} (h : s.fusesMeasured.bootBank = none) :
    s.bootImage = (s.fusesMeasured.wrBit .boot_status_recovery 0 true).showStaged := by
  unfold State.bootImage
  dsimp only
  rw [← State.fusesMeasured, h]

theorem State.bootStart_bootBank (s : State) : s.bootStart.fusesMeasured.bootBank = s.bootBank := by
  have herr : Evolves (frameMask [.flt_status_errn] [.flt, .out]) (s.bootBegun.inc .boot_status_boots 0) s.bootStart :=
    State.driveErr_evolves (.refl _) rfl
  have hboot : s.bootStart.fusesMeasured.boot = { s.bootBegun.boot with mregs := s.bootStart.fusesMeasured.boot.mregs } := by
    rw [show s.bootBegun.boot = s.bootStart.boot from (herr.boot rfl).symm]
    rfl
  have hrd {f : Fid} (he : f ≠ .flt_status_errn) (hb : f ≠ .boot_status_boots) : s.bootStart.rd f 0 = s.rd f 0 := by
    rw [herr.frame.1 f (by simpa using he), State.rd_inc, if_neg fun k => hb k.1]
    rfl
  refine State.bootBank_congr ?_ ?_ fun f hf => ?_
  · rw [hboot]
    rfl
  · rw [hboot]
    rfl
  · exact hrd (fun h => absurd (h ▸ hf) (by decide)) (fun h => absurd (h ▸ hf) (by decide))

/-- With no image to boot from RECOVERY is shown, and the map, the loops and Traverse are as they were. -/
theorem State.bootImage_recovery {s : State} (h : s.bootBank = none) : s.bootStart.bootImage.rd .boot_status_recovery 0 = 1 ∧
    s.bootStart.bootImage.map = s.map ∧ s.bootStart.bootImage.loop = s.loop ∧ s.bootStart.bootImage.trv = s.trv := by
  refine ⟨?_, ?_, ?_, ?_⟩
  · rw [State.bootImage_recovers (s.bootStart_bootBank.trans h),
      (State.showStaged_evolves (M := allBut (17 + Fid.ctorIdx .boot_status_recovery)) (.refl _) rfl).rd _ _ rfl, State.rd_wrBit_same]
    rfl
  · exact (State.bootImage_evolves (M := allBut 0) (State.bootStart_evolves (.refl s) rfl) rfl).map rfl
  · exact (State.bootImage_evolves (M := allBut 1) (State.bootStart_evolves (.refl s) rfl) rfl).loop rfl
  · exact (State.bootImage_evolves (M := allBut 2) (State.bootStart_evolves (.refl s) rfl) rfl).trv rfl

/-! ## GLB_RESET and BOOT_FUSE_PROG (R469, R474) -/

theorem State.expertWrite_covered {s : State} {off : Nat} {f : Fid} {i : Nat} (e : State → State) (h : s.covers off f i = true) :
    s.expertWrite off f i e = e s := if_pos h

theorem execGlbResetWrite_covered (key : Nat) {s : State} (h : s.covers 0x8 .glb_reset_key 0 = true) : execGlbResetWrite key s =
    .next (if key = 0xD5 then { s with flt := { s.flt with drstPending := true } } else s.noteDiscard 0x8) :=
  congrArg Host.Outcome.next (State.expertWrite_covered _ h)

/-- A fuse burnt by a write that succeeds, and measured as an event. -/
def State.fuseBurnt (s : State) (f : Fid) : State := (s.wrBit f 0 true).extendEvent 2

theorem execFuseProgWrite_burns {code : Nat} {s : State} (hk : code = 0xE5A1 ∨ code = 0x1A5E)
    (hc : s.covers 0xC0014 .boot_fuse_prog_code 0 = true) (hi : s.rd .hkp_flash_inhibit 0 = 0) :
    execFuseProgWrite code true s = .next (s.fuseBurnt (if code = 0xE5A1 then .boot_fuse_sig_enf else .boot_fuse_jtag_lock)) := by
  have hcode : ¬ (code ≠ 0xE5A1 ∧ code ≠ 0x1A5E) := fun h => hk.elim h.1 h.2
  unfold execFuseProgWrite
  rw [State.expertWrite_covered _ hc]
  simp only [if_neg hcode, State.flashRefused_of_rd hi, Bool.false_eq_true, if_false, Bool.not_true]
  rfl

theorem State.fuseBurnt_leaves (s : State) (f : Fid) : (s.fuseBurnt f).rd f 0 = 1 ∧
    s.RegsBut (s.fuseBurnt f) (fun g i => g = f ∧ i = 0) :=
  ⟨State.rd_wrBit_same s f 0 true, fun _ _ hn => State.rd_wrBit_ne _ _ hn⟩

/-! ## JTAG (R482) -/

/-- What a measurement changes: its register's count moves on, every other register stays. -/
theorem State.extend_mreg (s : State) (i : Nat) (content : List Nat) :
    ((s.extend i content).mreg i).count = ((s.mreg i).count + 1) % 65536 ∧ ∀ k, k ≠ i → (s.extend i content).mreg k = s.mreg k :=
  ⟨congrArg MReg.count (Tbl.get_set_same _ _ _ _), fun _ hk => Tbl.get_set_ne _ _ _ hk⟩

section Jtag

variable {i : Fin 6} {s : State}

theorem execJtagInstructionLoad_loads (h : i.val < 3) :
    execJtagInstructionLoad i s = .next { s with boot := { s.boot with jtag := i } } := congrArg Host.Outcome.next (if_pos h)

theorem execJtagInstructionLoad_bypasses (h : ¬ i.val < 3) (hl : s.rd .boot_fuse_jtag_lock 0 ≠ 0) :
    execJtagInstructionLoad i s = .next { s with boot := { s.boot with jtag := 0 } } :=
  congrArg Host.Outcome.next ((if_neg h).trans (if_pos (State.bit_eq_true.mpr hl)))

theorem execJtagInstructionLoad_measures (h : ¬ i.val < 3) (hl : ¬ s.rd .boot_fuse_jtag_lock 0 ≠ 0) :
    execJtagInstructionLoad i s = .next ((s.modBoot (fun t => { t with jtag := i })).extendEvent 1) :=
  congrArg Host.Outcome.next ((if_neg h).trans (if_neg fun k => hl (State.bit_eq_true.mp k)))

end Jtag

/-- Settles O45: each command and event by its own rule above. -/
theorem bootFusesAndResetRequests : Obligations.BootFusesAndResetRequests := by
  unfold Obligations.BootFusesAndResetRequests
  refine ⟨fun s h0 hc => ?boots, fun key s hc => (exec_glbResetWrite key s).trans (execGlbResetWrite_covered key hc),
    fun s hc hi => ⟨?enforces, ?locks⟩, fun i s => ?jtag, fun s => ⟨fun ha ht => ?overdue, fun hn => ?waits⟩⟩
  case boots =>
    refine ⟨_, (exec_bootSequence s).trans (execBootSequence_boots h0 hc), ?_⟩
    split
    next =>
      obtain ⟨hflt, hhkp, htime, hcount⟩ := s.bootImage_boots
      exact ⟨hflt, hhkp, rfl, htime, hcount, fun hn => State.bootImage_recovery hn⟩
    next hr =>
      obtain ⟨hflt, hhkp, htime, hcount⟩ := s.bootOpened_boots
      exact ⟨hflt, hhkp, State.bootOpen_admission _, htime, hcount, fun hn =>
        absurd (State.bit_eq_true.mpr (by rw [(State.bootImage_recovery hn).1]; decide)) hr⟩
  case enforces =>
    exact ⟨_, (exec_fuseProgWrite _ _ s).trans (execFuseProgWrite_burns (.inl rfl) hc hi), s.fuseBurnt_leaves _⟩
  case locks =>
    exact ⟨_, (exec_fuseProgWrite _ _ s).trans (execFuseProgWrite_burns (.inr rfl) hc hi), s.fuseBurnt_leaves _⟩
  case jtag =>
    by_cases h3 : i.val < 3
    · exact ⟨_, (exec_jtagInstructionLoad i s).trans (execJtagInstructionLoad_loads h3), fun _ _ => rfl, by rw [if_pos h3]⟩
    · by_cases hl : s.rd .boot_fuse_jtag_lock 0 ≠ 0
      · exact ⟨_, (exec_jtagInstructionLoad i s).trans (execJtagInstructionLoad_bypasses h3 hl), fun _ _ => rfl,
          by rw [if_neg h3, if_pos hl]⟩
      · refine ⟨_, (exec_jtagInstructionLoad i s).trans (execJtagInstructionLoad_measures h3 hl), fun _ _ => rfl, ?_⟩
        rw [if_neg h3, if_neg hl]
        exact ⟨rfl, State.extend_mreg _ 7 _⟩
  case overdue => exact (exec_foresterWatchdog s).trans (congrArg Host.Outcome.next (if_pos ⟨ha, ht⟩))
  case waits => exact (exec_foresterWatchdog s).trans (congrArg Host.Outcome.next (if_neg (by omega)))

end Sys2Proof.Machine
